-- ==== Sys2Proof/Word.lean ====
section
/-! DEFINITION. The character both serial lines carry. -/

namespace Sys2Proof

/-- The eight data bits of a character on the host link (R181) or on the Coach Line (R143). -/
abbrev Byte := BitVec 8

/-- The byte that carries the low eight bits of a number. -/
abbrev byteOf (n : Nat) : Byte := BitVec.ofNat 8 n

end Sys2Proof
end

