-- ==== Sys2Proof/Syntax.lean ====
section
/-! DEFINITION. The commands: one constructor for each row of spec/opcode_table.json. -/

namespace Sys2Proof

/-- A pulse channel CH0 .. CH5 (R2). -/
abbrev ChannelIx := Fin 6
/-- A slot of the Sensor Report Table (R23). -/
abbrev SlotIx := Fin 8
/-- A needle gauge G0 .. G5 (R28). -/
abbrev GaugeIx := Fin 6
/-- A switch input S0 .. S7 (R84). -/
abbrev SwitchIx := Fin 8
/-- A warning entry W0 .. W31 (R86). -/
abbrev EntryIx := Fin 32
/-- A lamp line L0 .. L11 (R103). -/
abbrev LampIx := Fin 12
/-- A chime pattern P0 .. P7 (R109). -/
abbrev PatternIx := Fin 8
/-- A service item S0 .. S7 (R129). -/
abbrev ItemIx := Fin 8
/-- A node slot N0 .. N5 (R146). -/
abbrev NodeIx := Fin 6
/-- A trip T0 .. T3 (R45). -/
abbrev TripIx := Fin 4
/-- An alarm A0 .. A3 (R77). -/
abbrev AlarmIx := Fin 4

/-- The raw levels of the input lines at the instant of a reset: the filters of IGN and CRANK (R169, R170) and
the samples of the switches (R84) are loaded from them, and the RESET level decides R171. True is on, or HIGH. -/
structure InputLines where
  ign : Bool
  crank : Bool
  reset : Bool
  switches : Vector Bool 8
  deriving DecidableEq, Repr

/-- The commands. A host request's tag and body stand in the request buffer (R184), so its row has no operand:
the command is the dispatcher's taking of that request (R185). An instant is counted in 10 us. -/
inductive Instr where
  /-- IDENTIFY (R180): Host request answered with the part code, revision, power state, last reset cause, odometer state and clock state. -/
  | identify
  /-- SET_NOTICE_MASK (R190): Host request that replaces the notice mask and removes queued notices of kinds now off. -/
  | setNoticeMask
  /-- RESTART (R193): Host request that aborts the request behind it and any held pass-through, sets discard-all and places its Answer ahead of the Restart reset. -/
  | restart
  /-- READ_INSTRUMENTS (R22): Host request answered from the standing snapshot with channel states and frequencies, road speed and source, engine speed, fuel rate and flags. -/
  | readInstruments
  /-- SET_CHANNEL (R20): Host request that configures one pulse channel and restarts it in STILL or turns it OFF in RUN or CRANK. -/
  | setChannel
  /-- SET_CALIBRATION (R21): Host request that sets Kd, Kd2, Kf, Ke and the window length, zeroes the residues, empties the economy ring and restarts the window. -/
  | setCalibration
  /-- SENSOR_REPORT (R26): Host request whose slot/value pairs are applied in order, each a report that makes its slot FRESH and is handed to the GDU, TAU, WTB and CLC. -/
  | sensorReport
  /-- SET_SLOT (R27): Host request that sets a slot's stale and lost times. -/
  | setSlot
  /-- SET_GAUGE (R41): Host request that rebinds and reshapes one gauge, empties its damping buffer and recomputes its target. -/
  | setGauge
  /-- SWEEP_GAUGES (R37): Host request that sends every needle into SWEEP, phase UP, toward its full scale. -/
  | sweepGauges
  /-- READ_GAUGES (R42): Host request answered with the state, present angle and target of each of the six needles. -/
  | readGauges
  /-- READ_TRIP (R54): Host request answered with one trip record plus the derived average speed and economy. -/
  | readTrip
  /-- TRIP_CONTROL (R46): Host request that resets, pauses, resumes or closes one trip record. -/
  | tripControl
  /-- SET_DESTINATION (R58): Host request that sets the distance to go or makes the destination absent. -/
  | setDestination
  /-- READ_TOTALS (R64): Host request answered with the odometer, engine hours, range, recent economy, distance to go and ETA. -/
  | readTotals
  /-- RESTORE_ODOMETER (R44): Host request that, while the odometer is INVALID, restores the reading and shifts trip starts and last-service odometers. -/
  | restoreOdometer
  /-- SET_FUEL_OPTIONS (R56): Host request that sets the fuel slot, refuel threshold, bucket length and tank table, and empties the economy ring. -/
  | setFuelOptions
  /-- READ_CLOCK (R82): Host request answered with the clock state and fields, weekday, clock lock and trim. -/
  | readClock
  /-- SET_CLOCK (R73): Host request that sets the clock fields, restarts the second and makes the clock SET. -/
  | setClock
  /-- SET_ALARM (R80): Host request that replaces one alarm record and removes its standing chime request. -/
  | setAlarm
  /-- SET_CLOCK_OPTIONS (R75): Host request that sets the clock lock and the trim. -/
  | setClockOptions
  /-- SET_WARNING (R106): Host request that takes a warning entry to IDLE, clears its flags, writes its configuration and evaluates it. -/
  | setWarning
  /-- READ_WARNINGS (R107): Host request answered with the states of the 32 warning entries. -/
  | readWarnings
  /-- ACKNOWLEDGE (R99): Host request that acknowledges one entry or all entries and answers with the count acknowledged. -/
  | acknowledge
  /-- LINK_CONDITION (R90): Host request that sets or clears an entry's link-condition flag and evaluates the entry. -/
  | linkCondition
  /-- SET_LAMP (R105): Host request that sets a lamp line's mode and host state. -/
  | setLamp
  /-- SET_SWITCH (R85): Host request that sets a switch's active level and recomputes its state. -/
  | setSwitch
  /-- CHIME (R124): Host request that queues, replaces or evicts with a LINK chime request, or is refused with FULL. -/
  | chime
  /-- CANCEL_CHIME (R125): Host request that removes the standing LINK chime request with outcome CANCELLED. -/
  | cancelChime
  /-- SET_PATTERN (R126): Host request that replaces one chime pattern unless a queued request names it. -/
  | setPattern
  /-- SET_PRIVACY (R127): Host request that sets the privacy flag and marks the PRIVACY mirror item. -/
  | setPrivacy
  /-- SET_SERVICE_ITEM (R138): Host request that replaces a service item whole, with full counts and no last-service record. -/
  | setServiceItem
  /-- READ_SERVICE (R140): Host request answered with one service item's state, remaining counts, last-service record and label code. -/
  | readService
  /-- SERVICE_DONE (R137): Host request that, with the ignition on and the car standing, resets an item's counts and records its last service. -/
  | serviceDone
  /-- SET_NODE (R148): Host request that configures one node-table slot and makes it DISABLED, JOINING or LOST. -/
  | setNode
  /-- COACH_PASS (R162): Host request that, when accepted, holds a pass-through in WAITING with no immediate reply. -/
  | coachPass
  /-- COACH_RESET (R159): Host request that starts a Coach reset in RUN or CRANK. -/
  | coachReset
  /-- READ_NODES (R167): Host request answered with each slot's state and miss count and the line state. -/
  | readNodes
  /-- SET_COACH_OPTIONS (R166): Host request that sets the round period, call pattern and outside slot. -/
  | setCoachOptions
  /-- UNKNOWN_KIND (R185): Dispatcher takes a good frame whose kind is no request kind and refuses it with UNKNOWN. -/
  | unknownKind
  /-- HOST_CHARACTER (R182): A character arrives on HRX and moves the receiver between READY, RECEIVING and DISCARDING. -/
  | hostCharacter (value : Byte) (error : Bool)
  /-- IDLE_GAP (R183): Two character times pass with no character, ending a frame that is then judged, refused or offered to the request buffer. -/
  | idleGap
  /-- TRANSMISSION_COMPLETE (R191): The last stop bit of a sent frame frees its reply entry, clears markers it carried and starts the GAP. -/
  | transmissionComplete (lines : InputLines)
  /-- GAP_END (R191): The transmitter's two-character GAP ends and it starts the oldest reply, else the head notice, else goes IDLE. -/
  | gapEnd
  /-- SUPPLY_RESET (R175): BATT rising above retention resets every block and restores Kept Memory defaults, with a POWER notice of cause SUPPLY. -/
  | supplyReset (lines : InputLines)
  /-- BATT_BELOW_RETENTION (R168): BATT falls below the retention threshold and the part stops, losing Kept Memory. -/
  | battBelowRetention
  /-- LINE_RESET (R171): A 1 ms low on RESET takes a Line reset of all runtime state, keeping Kept Memory. -/
  | lineReset (lines : InputLines)
  /-- RUN_ENTRY (R172): The filtered IGN level rises in PARKED and the power state becomes RUN, handed to every block. -/
  | runEntry
  /-- PARKED_ENTRY (R172): The filtered IGN level falls in RUN or CRANK and the power state becomes PARKED, handed to every block. -/
  | parkedEntry
  /-- CRANK_ON (R170): The filtered CRANK level on in RUN makes the power state CRANK. -/
  | crankOn
  /-- CRANK_OFF (R170): The filtered CRANK level off in CRANK returns the power state to RUN. -/
  | crankOff
  /-- PULSE_EDGE (R4): A filtered active edge on a channel is counted, restarts the stall timer, moves a STILL channel to LIVE and advances its divider. -/
  | pulseEdge (ch : ChannelIx) (at10us : Nat)
  /-- STALL_EXPIRY (R4): A channel's stall timer expires and the channel goes STILL with its period and frequency cleared. -/
  | stallExpiry (ch : ChannelIx)
  /-- WINDOW_EXPIRY (R6): The gate timer expires and every channel closes its frequency, makes the fault test and chooses its mode, then the snapshot is replaced. -/
  | windowExpiry (at10us : Nat)
  /-- SLOT_STALE_EXPIRY (R24): A slot's stale timer expires, making a FRESH slot STALE and starting its lost timer. -/
  | slotStaleExpiry (n : SlotIx)
  /-- SLOT_LOST_EXPIRY (R24): A slot's lost timer expires, making a STALE slot LOST. -/
  | slotLostExpiry (n : SlotIx)
  /-- NEEDLE_STEP (R33): A needle steps one angle step toward its target at its slew interval, advancing sweep phases and ending sweep or parking. -/
  | needleStep (g : GaugeIx)
  /-- HOMING_END (R36): A needle's homing time runs out, its angle becomes 0 and known, and the last one queues a HOMED notice. -/
  | homingEnd (g : GaugeIx)
  /-- SECOND_BOUNDARY (R68): The keep-alive timebase reaches a second boundary and the clock advances with all its carries. -/
  | secondBoundary
  /-- SWITCH_CHANGE (R84): A switch's filtered state changes between ACTIVE and INACTIVE and is handed to the entries that name it. -/
  | switchChange (n : SwitchIx)
  /-- QUALIFY_EXPIRY (R93): A PENDING entry's qualify timer expires and the entry goes ACTIVE. -/
  | qualifyExpiry (w : EntryIx)
  /-- REPEAT_EXPIRY (R96): An ACTIVE entry's repeat timer expires and a new chime request is handed. -/
  | repeatExpiry (w : EntryIx)
  /-- FLASH_PHASE (R103): The shared flash timer changes between its lit and dark phases, toggling every flashing lamp line. -/
  | flashPhase
  /-- BULB_CHECK_END (R104): The 3.0 s bulb check ends and each WARNING-mode line returns to the output its entries give. -/
  | bulbCheckEnd
  /-- SEGMENT_END (R117): The segment timer expires, the pass is counted or the request finished, and the player chooses what plays next. -/
  | segmentEnd
  /-- MASTER_FRAME_SENT (R145): The stop bit of a master frame's check character opens the answer window, or completes a frame that draws no answer. -/
  | masterFrameSent
  /-- ANSWER_WINDOW_EXPIRY (R145): The 8 ms answer window closes without a start bit and the transaction completes as a miss. -/
  | answerWindowExpiry
  /-- ANSWER_CUT (R145): A gap of more than 3 ms before an answer is complete cuts it and completes the transaction without a valid answer. -/
  | answerCut
  /-- ANSWER_COMPLETE (R145): A node answer's last stop bit arrives and the answer is judged valid or not, completing the transaction. -/
  | answerComplete
  /-- CONTENTION (R157): A bit read back differs while the part transmits, so it stops driving and the line goes to BACKOFF for a retry. -/
  | contention
  /-- BACKOFF_EXPIRY (R157): The 50 ms backoff expires, the line returns to RUNNING and the retried transaction is chosen. -/
  | backoffExpiry
  /-- LINE_RELEASE (R159): After 25 ms of a Coach reset the part releases the line. -/
  | lineRelease
  /-- RESETTING_END (R159): 100 ms after release the line becomes RUNNING and the first round starts. -/
  | resettingEnd
  /-- ROUND_START (R151): The round timer expires, setting due flags of JOINING and PRESENT slots and counting LOST slots' rounds. -/
  | roundStart
  /-- SLEEP_START (R160): After Parked entry the line has stood high 3 ms and the part sends one broadcast SLEEP frame. -/
  | sleepStart
  /-- ANSWER_CHARACTER (R145): A character arrives on the Coach Line within the answer window or a running answer; its start bit closes the window and restarts the 3 ms gap. -/
  | answerCharacter (value : Byte) (mark : Bool) (error : Bool)
  /-- RESET_LINE_HIGH (R171): The RESET line is seen high again after a low, re-arming the IGS to take another Line reset. -/
  | resetLineHigh
  deriving DecidableEq, Repr

end Sys2Proof
end

