-- ==== Sys2Proof/WellFormed.lean ====
section
/-! DEFINITION. What a command must meet before it can come about. Index operands carry their own range. -/

namespace Sys2Proof

/-- A Line reset is a low on the RESET line (R171), so its lines show RESET low. Every other command is well formed
as it stands: each of its operands ranges over the values its type holds. -/
def Instr.wellFormed : Instr → Bool
  | .identify => true
  | .setNoticeMask => true
  | .restart => true
  | .readInstruments => true
  | .setChannel => true
  | .setCalibration => true
  | .sensorReport => true
  | .setSlot => true
  | .setGauge => true
  | .sweepGauges => true
  | .readGauges => true
  | .readTrip => true
  | .tripControl => true
  | .setDestination => true
  | .readTotals => true
  | .restoreOdometer => true
  | .setFuelOptions => true
  | .readClock => true
  | .setClock => true
  | .setAlarm => true
  | .setClockOptions => true
  | .setWarning => true
  | .readWarnings => true
  | .acknowledge => true
  | .linkCondition => true
  | .setLamp => true
  | .setSwitch => true
  | .chime => true
  | .cancelChime => true
  | .setPattern => true
  | .setPrivacy => true
  | .setServiceItem => true
  | .readService => true
  | .serviceDone => true
  | .setNode => true
  | .coachPass => true
  | .coachReset => true
  | .readNodes => true
  | .setCoachOptions => true
  | .unknownKind => true
  | .hostCharacter .. => true
  | .idleGap => true
  | .transmissionComplete .. => true
  | .gapEnd => true
  | .supplyReset .. => true
  | .battBelowRetention => true
  | .lineReset lines => !lines.reset
  | .runEntry => true
  | .parkedEntry => true
  | .crankOn => true
  | .crankOff => true
  | .pulseEdge .. => true
  | .stallExpiry .. => true
  | .windowExpiry .. => true
  | .slotStaleExpiry .. => true
  | .slotLostExpiry .. => true
  | .needleStep .. => true
  | .homingEnd .. => true
  | .secondBoundary => true
  | .switchChange .. => true
  | .qualifyExpiry .. => true
  | .repeatExpiry .. => true
  | .flashPhase => true
  | .bulbCheckEnd => true
  | .segmentEnd => true
  | .masterFrameSent => true
  | .answerWindowExpiry => true
  | .answerCut => true
  | .answerComplete => true
  | .contention => true
  | .backoffExpiry => true
  | .lineRelease => true
  | .resettingEnd => true
  | .roundStart => true
  | .sleepStart => true
  | .answerCharacter .. => true
  | .resetLineHigh => true

end Sys2Proof
end

