-- ==== Sys2Proof/Config.lean ====
section
/-! DEFINITION. What the part fixes for good (limits the rules state) and the free values, which the spec leaves open. -/

namespace Sys2Proof.Config

/-- The odometer wraps from 9,999,999 to 0 (R43). -/
abbrev odometerModulus : Nat := 10000000
/-- The largest distance of a trip (R45, Table 19). -/
abbrev maxTripDistance : Nat := 999999
/-- The largest fuel amount of a trip, a bucket or a tank point (R45, R55, R56). -/
abbrev maxFuel : Nat := 9999999
/-- The largest count of running or moving seconds (R45, Table 19). -/
abbrev maxSeconds : Nat := 3599999
/-- The largest engine-hour total, in tenths of an hour (R50). -/
abbrev maxEngineHours : Nat := 999999
/-- The seconds of one tenth of an engine hour (R50). -/
abbrev engineTenth : Nat := 360
/-- The largest frequency, in 0.1 Hz (R7). -/
abbrev maxFrequency : Nat := 65535
/-- The largest road or check speed (R11). -/
abbrev maxSpeed : Nat := 2550
/-- The largest engine speed (R11). -/
abbrev maxEngineSpeed : Nat := 9999
/-- The largest period a channel holds, in 10 us (R8). -/
abbrev maxPeriod : Nat := 640000
/-- The largest range (R57). -/
abbrev maxRange : Nat := 999999
/-- How many closed buckets the economy ring holds (R55). -/
abbrev ringSize : Nat := 16
/-- How many closed buckets range, recent economy and ETA need (R57, R59, R64). -/
abbrev minBuckets : Nat := 4
/-- How many requests the chime queue holds (R111). -/
abbrev chimeQueueSize : Nat := 8
/-- How many notices the notice queue holds (R189). -/
abbrev noticeQueueSize : Nat := 12
/-- How many good frames the request buffer holds (R184). -/
abbrev requestBufferSize : Nat := 2
/-- How many ordinary entries the reply queue has (R187). -/
abbrev ordinaryEntries : Nat := 2
/-- The longest host frame, in bytes (R183, R197). -/
abbrev maxFrame : Nat := 52
/-- The contention count at which the line goes to FAULT (R157, R158). -/
abbrev faultContentions : Nat := 5
/-- The miss count at which a node is LOST (R147). -/
abbrev lostMisses : Nat := 3
/-- The bulb check lasts 3.0 s (R104), in ms. -/
abbrev bulbCheckMs : Nat := 3000
/-- The backoff lasts 50 ms (R157). -/
abbrev backoffMs : Nat := 50

/-- FREE VALUE (log 4): R8 divides by the period used, and states no result when that period is 0,
which only two edges of one instant could give. The first argument is the draw, the second the channel. -/
opaque zeroPeriodFrequency : Nat → Nat → Nat

/-- FREE VALUE (log 15): Table 43 has OUTSIDE_TEMP carry the slot's value, and states no value when no
outside slot is configured. The argument is the draw. -/
opaque absentOutsideValue : Nat → BitVec 16

end Sys2Proof.Config
end

