-- ==== Sys2Proof/Machine/Records.lean ====
section
/-! DEFINITION. The records of each block, as plain data, under the spec's own names. -/

namespace Sys2Proof.Machine

/-! ## Shared by several blocks -/

/-- R172. -/
inductive PowerState where
  | parked | run | crank
  deriving DecidableEq, Repr

/-- R180. -/
inductive ResetCause where
  | supply | line | restart
  deriving DecidableEq, Repr

/-- The causes a POWER notice carries (R173, Table 56). -/
inductive PowerCause where
  | supply | line | restart | ignOn | ignOff | crankOn | crankOff
  deriving DecidableEq, Repr

/-- The blocks that are handed changes (R172). -/
inductive Block where
  | pcu | gdu | tau | clk | wtb | chs | svs | clc | lkp
  deriving DecidableEq, Repr

/-- The class of a warning entry or a chime request (Table 56). -/
inductive ChimeClass where
  | advisory | caution | urgent
  deriving DecidableEq, Repr

/-- A chime destination (Table 56). -/
inductive Destination where
  | front | rear | both
  deriving DecidableEq, Repr

/-- Why a request is refused (Table 58). -/
inductive Reason where
  | frame | check | unknown | length | range | state | busy | full | locked | absent | timeout | aborted | moving
  | conflict
  deriving DecidableEq, Repr

/-! ## Pulse Capture Unit -/

/-- Table 7. -/
inductive Polarity where
  | rising | falling
  deriving DecidableEq, Repr

/-- Table 7. -/
inductive FilterPeriod where
  | us25 | us100 | us400
  deriving DecidableEq, Repr

/-- Table 7. -/
inductive ChannelState where
  | off | still | live | fault
  deriving DecidableEq, Repr

/-- Table 7. -/
inductive MeasuringMode where
  | count | period
  deriving DecidableEq, Repr

/-- The configuration fields of a channel record (R3, Table 7): stall in 100 ms, maximum frequency in Hz. -/
structure ChannelConfig where
  enabled : Bool
  polarity : Polarity
  filter : FilterPeriod
  stall : Nat
  maxFreq : Nat
  deriving DecidableEq, Repr

/-- A channel record (R3, Table 7), with the stall timer of R4 (running with its timeout, or stopped). -/
structure Channel where
  cfg : ChannelConfig
  state : ChannelState
  mode : MeasuringMode
  windowCount : Nat
  lastPeriod : Option Nat
  latestEdge : Option Nat
  lastFreq : Nat
  aboveMax : Nat
  atOrBelow : Nat
  stallTimer : Option Nat
  deriving DecidableEq, Repr

/-- The window lengths (R6). -/
inductive WindowLength where
  | ms125 | ms250 | ms500 | ms1000
  deriving DecidableEq, Repr

/-- The calibration (Note 5, R21). -/
structure Calibration where
  kd : Nat
  kd2 : Nat
  kf : Nat
  ke : Nat
  window : WindowLength
  deriving DecidableEq, Repr

/-- The channel whose units and speed count (section 1.6). -/
inductive RoadSource where
  | ch0 | ch4
  deriving DecidableEq, Repr

/-- The cross-check counters (Note 6). -/
structure CrossCheck where
  disagreeing : Nat
  agreeing : Nat
  fallback : Nat
  returning : Nat
  deriving DecidableEq, Repr

/-- The snapshot record (R10, Table 9). -/
structure Snapshot where
  states : Vector ChannelState 6
  freqs : Vector Nat 6
  roadSpeed : Nat
  checkSpeed : Nat
  roadSource : RoadSource
  engineSpeed : Nat
  fuelRate : Nat
  disagree : Bool
  implausible : Bool
  deriving DecidableEq, Repr

/-- The PCU: its channels, calibration, gate timer (running with its window in ms), dividers, conditions and snapshot. -/
structure Pcu where
  power : PowerState
  channels : Vector Channel 6
  cal : Calibration
  gate : Option Nat
  roadResidue : Nat
  checkResidue : Nat
  fuelResidue : Int
  implausible : Bool
  disagree : Bool
  roadSource : RoadSource
  cross : CrossCheck
  snap : Snapshot
  deriving DecidableEq, Repr

/-! ## Sensor Report Table and Gauge Drive Unit -/

/-- Table 12. -/
inductive SlotState where
  | never | fresh | stale | lost
  deriving DecidableEq, Repr

/-- A slot record (R23, Table 12): stale time in 0.1 s, lost time in s; a running timer holds the time it was loaded
with. -/
structure Slot where
  value : Int
  state : SlotState
  staleTime : Nat
  lostTime : Nat
  staleTimer : Option Nat
  lostTimer : Option Nat
  deriving DecidableEq, Repr

/-- Table 14, with the slot and the fixed argument in their sources. -/
inductive GaugeSource where
  | roadSpeed | engineSpeed | checkSpeed | generalFreq
  | slot (n : SlotIx)
  | fixed (arg : Nat)
  deriving DecidableEq, Repr

/-- The configuration fields of a gauge record (R28, Table 14). A point is (value, angle). -/
structure GaugeConfig where
  source : GaugeSource
  fullScale : Nat
  slew : Nat
  damping : Nat
  table : List (Int × Nat)
  deriving DecidableEq, Repr

/-- Table 14. -/
inductive NeedleState where
  | rest | homing | tracking | held | void | sweep | parking
  deriving DecidableEq, Repr

/-- Table 14. -/
inductive SweepPhase where
  | up | down | wait
  deriving DecidableEq, Repr

/-- A gauge record (R28, Table 14). The position-known flag is set exactly while `present` holds an angle.
`homingLeft` counts tenths of a step interval (R35: 1.1 x full scale intervals). -/
structure Gauge where
  cfg : GaugeConfig
  state : NeedleState
  phase : Option SweepPhase
  present : Option Nat
  target : Nat
  homingLeft : Option Nat
  buffer : List Int
  deriving DecidableEq, Repr

/-- What the GDU keeps of what the PCU hands it (R29): the latest window result's values and the channel states. -/
structure GaugeView where
  roadSpeed : Nat
  engineSpeed : Nat
  checkSpeed : Nat
  generalFreq : Nat
  roadSource : RoadSource
  channels : Vector ChannelState 6
  deriving DecidableEq, Repr

/-- The GDU: slots, gauges, and whether a parking that ends with a PARKED notice is in progress (R38). -/
structure Gdu where
  power : PowerState
  slots : Vector Slot 8
  gauges : Vector Gauge 6
  parking : Bool
  view : GaugeView
  deriving DecidableEq, Repr

/-! ## Trip Accumulator Unit -/

/-- R43. -/
inductive OdometerState where
  | valid | invalid
  deriving DecidableEq, Repr

/-- Table 19. -/
inductive TripState where
  | closed | open | paused
  deriving DecidableEq, Repr

/-- Table 19. -/
inductive ResetBy where
  | link | rear | auto
  deriving DecidableEq, Repr

/-- A trip's start date (Table 19). -/
structure StartDate where
  year : Nat
  month : Nat
  day : Nat
  hour : Nat
  minute : Nat
  deriving DecidableEq, Repr

/-- A trip record (R45, Table 19). -/
structure Trip where
  state : TripState
  distance : Nat
  fuel : Nat
  running : Nat
  moving : Nat
  maxSpeed : Nat
  startOdometer : Nat
  startDate : Option StartDate
  resetBy : Option ResetBy
  deriving DecidableEq, Repr

/-- An economy bucket (R55). -/
structure Bucket where
  distance : Nat
  fuel : Nat
  seconds : Nat
  deriving DecidableEq, Repr

/-- The fuel options (R56, Table 21). A tank point is (slot value, FU). -/
structure FuelOptions where
  slot : Option SlotIx
  threshold : Nat
  bucketLength : Nat
  tank : List (Int × Nat)
  deriving DecidableEq, Repr

/-- The TAU: the records of Chapter 3 and its copies of the power state, engine running and road source LIVE. -/
structure Tau where
  power : PowerState
  engineRunning : Bool
  roadLive : Bool
  odometer : Nat
  odometerState : OdometerState
  accInvalid : Nat
  engineHours : Nat
  engineResidue : Nat
  trips : Vector Trip 4
  ring : List Bucket
  bucket : Bucket
  destination : Option Nat
  fuel : FuelOptions
  levelAtStop : Option Nat
  range : Option Nat
  deriving DecidableEq, Repr

/-! ## Calendar Clock -/

/-- The clock fields (R66, Table 23). -/
structure ClockTime where
  year : Nat
  month : Nat
  day : Nat
  hour : Nat
  minute : Nat
  second : Nat
  deriving DecidableEq, Repr

/-- R66. -/
inductive ClockState where
  | set | unset
  deriving DecidableEq, Repr

/-- Table 24. -/
inductive AlarmRepeat where
  | once | daily
  deriving DecidableEq, Repr

/-- An alarm record (R77, Table 24). Weekday n is in the mask when bit n is set; no bit set means every day. -/
structure Alarm where
  enabled : Bool
  hour : Nat
  minute : Nat
  dayMask : BitVec 7
  rep : AlarmRepeat
  pattern : PatternIx
  dest : Destination
  deriving DecidableEq, Repr

/-- The CLK. `secondLength` is the length of the second in progress in crystal microseconds (R67). -/
structure Clk where
  time : ClockTime
  state : ClockState
  trim : Int
  secondLength : Nat
  lock : Bool
  alarms : Vector Alarm 4
  deriving DecidableEq, Repr

/-! ## Warning Table -/

/-- A switch input (R84): its active level and its filtered level, true for HIGH. -/
structure Switch where
  activeHigh : Bool
  level : Bool
  deriving DecidableEq, Repr

/-- The values a value source names (Table 27). -/
inductive WarnValue where
  | roadSpeed | engineSpeed | checkSpeed | range
  | slot (n : SlotIx)
  deriving DecidableEq, Repr

/-- The source kinds with their arguments (Table 27). -/
inductive WarnSource where
  | valueAbove (v : WarnValue)
  | valueBelow (v : WarnValue)
  | switch (n : SwitchIx)
  | channelFault (ch : ChannelIx)
  | slotStale (n : SlotIx)
  | speedDisagree
  | fuelImplausible
  | service (item : ItemIx)
  | nodeLost (n : NodeIx)
  | lineFault
  | linkCondition
  | odometerInvalid
  | clockUnset
  | arrival
  deriving DecidableEq, Repr

/-- The gates (Table 28). -/
inductive Gate where
  | none | run | engine | moving | still
  | switchOn (n : SwitchIx)
  | switchOff (n : SwitchIx)
  deriving DecidableEq, Repr

/-- The configuration fields of a warning entry (R86, Table 26): qualify in 0.1 s, repeat in s. -/
structure EntryConfig where
  enabled : Bool
  cls : ChimeClass
  source : WarnSource
  threshold : Int
  hysteresis : Int
  gate1 : Gate
  gate2 : Gate
  qualify : Nat
  pattern : Option PatternIx
  dest : Destination
  rep : Option Nat
  lamp : Option LampIx
  latching : Bool
  parkedLive : Bool
  mirrorRear : Bool
  deriving DecidableEq, Repr

/-- Table 26. -/
inductive EntryState where
  | idle | pending | active | acked | resolved
  deriving DecidableEq, Repr

/-- A warning entry (R86, Table 26). -/
structure Entry where
  cfg : EntryConfig
  state : EntryState
  qualifyTimer : Option Nat
  repeatTimer : Option Nat
  eventPending : Bool
  linkCondition : Bool
  memory : Bool
  deriving DecidableEq, Repr

/-- R103. -/
inductive LampMode where
  | warning | link
  deriving DecidableEq, Repr

/-- R103. -/
inductive LampHost where
  | off | on | flash
  deriving DecidableEq, Repr

/-- A lamp line (R103). -/
structure Lamp where
  mode : LampMode
  host : LampHost
  deriving DecidableEq, Repr

/-- Table 37. -/
inductive ItemState where
  | off | counting | near | due | overdue
  deriving DecidableEq, Repr

/-- Table 40. -/
inductive NodeState where
  | disabled | joining | present | lost
  deriving DecidableEq, Repr

/-- Table 42. -/
inductive LineState where
  | off | resetting | running | backoff | fault
  deriving DecidableEq, Repr

/-- The WTB's own copies of the values and states the other blocks hand it (R87, R88, R91). -/
structure WarnView where
  power : PowerState
  engineRunning : Bool
  roadLive : Bool
  channels : Vector ChannelState 6
  disagree : Bool
  implausible : Bool
  roadSpeed : Nat
  checkSpeed : Nat
  engineSpeed : Nat
  roadSource : RoadSource
  slotStates : Vector SlotState 8
  slotValues : Vector Int 8
  odometer : OdometerState
  clock : ClockState
  items : Vector ItemState 8
  nodes : Vector NodeState 6
  line : LineState
  range : Option Nat
  deriving DecidableEq, Repr

/-- The WTB: switches, entries, lamp lines, flash phase, bulb check timer (ms loaded) and copies. -/
structure Wtb where
  switches : Vector Switch 8
  entries : Vector Entry 32
  lamps : Vector Lamp 12
  flashLit : Bool
  bulbCheck : Option Nat
  view : WarnView
  deriving DecidableEq, Repr

/-! ## Chime Sequencer -/

/-- The pitches and REST (R108, R126). -/
inductive Pitch where
  | rest | low | mid | high | bell
  deriving DecidableEq, Repr

/-- A segment (R109): its duration is in 10 ms. -/
structure Segment where
  pitch : Pitch
  duration : Nat
  deriving DecidableEq, Repr

/-- A pass count (R109). -/
inductive Passes where
  | times (n : Nat)
  | whileActive
  deriving DecidableEq, Repr

/-- A chime pattern (R109). -/
structure Pattern where
  segments : List Segment
  passes : Passes
  deriving DecidableEq, Repr

/-- Where a chime request comes from (Table 33). -/
inductive ChimeSource where
  | warning (w : EntryIx)
  | alarm (a : AlarmIx)
  | rearCall
  | link
  deriving DecidableEq, Repr

/-- A chime request (R110, Table 33). The tag is held for LINK only. -/
structure ChimeRequest where
  source : ChimeSource
  cls : ChimeClass
  pattern : PatternIx
  dest : Destination
  passes : Passes
  arrival : Nat
  tag : Option Byte
  deriving DecidableEq, Repr

/-- What the player holds while PLAYING (section 6.4): the request, by its source, the segment index, and the segment
timer with the duration it was loaded with, in 10 ms. -/
structure Playing where
  source : ChimeSource
  segment : Nat
  timer : Nat
  deriving DecidableEq, Repr

/-- How the CHS takes a request (R112). -/
inductive TakeOutcome where
  | queued | alreadyHeld | notQueued
  deriving DecidableEq, Repr

/-- How a LINK request ends (R123). -/
inductive ChimeOutcome where
  | finished | cancelled | replaced | evicted
  deriving DecidableEq, Repr

/-- The CHS. -/
structure Chs where
  power : PowerState
  patterns : Vector Pattern 8
  queue : List ChimeRequest
  nextArrival : Nat
  player : Option Playing
  privacy : Bool
  deriving DecidableEq, Repr

/-! ## Service Schedule -/

/-- A last-service date (Table 37). -/
structure ServiceDate where
  year : Nat
  month : Nat
  day : Nat
  deriving DecidableEq, Repr

/-- A service item (R129, Table 37): the distance interval is in whole units, the remaining distance in DU. -/
structure ServiceItem where
  enabled : Bool
  label : Nat
  distanceInterval : Option Nat
  hoursInterval : Option Nat
  daysInterval : Option Nat
  remainingDistance : Option Int
  remainingHours : Option Int
  remainingDays : Option Int
  lastOdometer : Option Nat
  lastDate : Option ServiceDate
  state : ItemState
  deriving DecidableEq, Repr

/-- The SVS with its copies of the power state and road source LIVE (R136). -/
structure Svs where
  power : PowerState
  roadLive : Bool
  items : Vector ServiceItem 8
  deriving DecidableEq, Repr

/-! ## Coach Line Controller -/

/-- Table 40. -/
inductive NodeKind where
  | console | panel | display | other
  deriving DecidableEq, Repr

/-- A node-table slot (R146, Table 40). Item n is in the mirror set when bit n is set. -/
structure Node where
  enabled : Bool
  address : Nat
  nodeAlias : Nat
  kind : NodeKind
  mirrorSet : BitVec 8
  state : NodeState
  misses : Nat
  lostRounds : Nat
  due : Bool
  deriving DecidableEq, Repr

/-- The eight mirror items (Table 43). -/
inductive MirrorItem where
  | clock | outsideTemp | passengerTrip | destination | roadSpeed | rearWarnings | privacyFlag | alarmsRear
  deriving DecidableEq, Repr

/-- The rear events (Table 43a). -/
inductive RearKind where
  | intercomCall | privacyOn | privacyOff | passengerTripReset | rearAck | clockSet | alarmSet | key
  deriving DecidableEq, Repr

/-- A rear event with its data (Table 68). -/
structure RearEvent where
  kind : RearKind
  data : List Byte
  deriving DecidableEq, Repr

/-- The result a REAR notice carries (R153). -/
inductive RearResult where
  | forwarded | applied | refused | queued | alreadyHeld | notQueued
  deriving DecidableEq, Repr

/-- What a transaction on the Coach Line is for (R144, R150). A pass-through names the node that must answer. -/
inductive TxnKind where
  | poll (n : NodeIx)
  | mirror (n : NodeIx) (item : MirrorItem)
  | pass (n : NodeIx)
  | sleep
  deriving DecidableEq, Repr

/-- A character received on the Coach Line (R143): `error` is a noise or framing error. -/
structure CoachChar where
  value : Byte
  mark : Bool
  error : Bool
  deriving DecidableEq, Repr

/-- How far a transaction is (R145): its frame is being sent, its answer window is open, or an answer runs. -/
inductive TxnPhase where
  | sending
  | window
  | receiving (chars : List CoachChar)
  deriving DecidableEq, Repr

/-- The transaction in flight, with the characters of its master frame (R144, R200). -/
structure Txn where
  kind : TxnKind
  frame : List Byte
  phase : TxnPhase
  deriving DecidableEq, Repr

/-- R161. -/
inductive PassKind where
  | read | write
  deriving DecidableEq, Repr

/-- R161. -/
inductive PassPhase where
  | waiting | inFlight
  deriving DecidableEq, Repr

/-- A held pass-through (R161). Alias 0 stands for broadcast; only then is the answer alias present. -/
structure PassThrough where
  tag : Byte
  nodeAlias : Nat
  kind : PassKind
  answerAlias : Option Nat
  data : List Byte
  phase : PassPhase
  deriving DecidableEq, Repr

/-- The CLC. The round period is in 50 ms; running timers hold the ms they were loaded with. -/
structure Clc where
  power : PowerState
  roadLive : Bool
  roadSpeed : Nat
  nodes : Vector Node 6
  roundPeriod : Nat
  callPattern : PatternIx
  outsideSlot : Option SlotIx
  line : LineState
  heldLow : Bool
  roundTimer : Option Nat
  backoffTimer : Option Nat
  mirrorQueue : List (NodeIx × MirrorItem)
  txn : Option Txn
  retry : Option TxnKind
  contentions : Nat
  pass : Option PassThrough
  sleepWaiting : Bool
  deriving DecidableEq, Repr

/-! ## Ignition Supervisor -/

/-- The IGS (Chapter 9). `resetArmed` is set while RESET has been seen high since the last low (R171). -/
structure Igs where
  supplied : Bool
  power : PowerState
  cause : ResetCause
  ign : Bool
  crank : Bool
  resetArmed : Bool
  deriving DecidableEq, Repr

/-! ## Link Port -/

/-- What a TRIP notice says (Table 65). -/
inductive TripWhat where
  | reset | saturated | arrival
  deriving DecidableEq, Repr

/-- What a GAUGE notice says (Table 65). -/
inductive GaugeWhat where
  | homed | swept | parked
  deriving DecidableEq, Repr

/-- A notice (R199, Table 65): its kind, its subject and its body. -/
inductive Notice where
  | power (st : PowerState) (cause : PowerCause)
  | warning (w : EntryIx) (st : EntryState)
  | chime (tag : Byte) (outcome : ChimeOutcome)
  | alarm (a : AlarmIx)
  | service (item : ItemIx) (st : ItemState)
  | node (n : NodeIx) (st : NodeState)
  | rear (n : NodeIx) (kind : RearKind) (result : RearResult) (data : List Byte)
  | refuel (before after : Nat)
  | trip (t : Fin 5) (what : TripWhat)
  | gauge (what : GaugeWhat)
  deriving DecidableEq, Repr

/-- R182. -/
inductive RxState where
  | hunting | ready | receiving | discarding
  deriving DecidableEq, Repr

/-- A good frame in the request buffer (R184). Its length is that of its body. -/
structure Request where
  kind : Byte
  tag : Byte
  body : List Byte
  deriving DecidableEq, Repr

/-- What an owning block makes of a request: an Answer with its fields, a Refusal, or no reply yet (R185, R186). -/
inductive Response where
  | answer (fields : List Byte)
  | refuse (r : Reason)
  | held
  deriving DecidableEq, Repr

/-- The two sorts of entry of the reply queue (R187). -/
inductive ReplyEntry where
  | ordinary | reserved
  deriving DecidableEq, Repr

/-- A link status byte as it was made (R192), with how often each marker had been set by then. -/
structure StatusSeal where
  status : Byte
  overrunSets : Nat
  lostSets : Nat
  deriving DecidableEq, Repr

/-- A reply in the reply queue (R187, R188): kind, tag, and the body after the status byte, which is made at the end of
the event that places the reply (R192). -/
structure Reply where
  entry : ReplyEntry
  kind : Byte
  tag : Byte
  fields : List Byte
  sealed : Option StatusSeal
  deriving DecidableEq, Repr

/-- A frame being transmitted (R191). -/
structure OutFrame where
  isReply : Bool
  kind : Byte
  tag : Byte
  fields : List Byte
  sealed : StatusSeal
  deriving DecidableEq, Repr

/-- R191. -/
inductive TxState where
  | idle
  | sending (f : OutFrame)
  | gap
  deriving DecidableEq, Repr

/-- The LKP (Chapter 10). -/
structure Lkp where
  rx : RxState
  rxBytes : List Byte
  discardAll : Bool
  requests : List Request
  replies : List Reply
  notices : List Notice
  mask : BitVec 10
  tx : TxState
  txHold : Bool
  overrun : Bool
  noticesLost : Bool
  overrunSets : Nat
  lostSets : Nat
  power : PowerState
  odometerInvalid : Bool
  clockUnset : Bool
  deriving DecidableEq, Repr

/-! ## Input lines -/

/-- The last three samples of a line, the oldest first (R1, R84). -/
structure Samples where
  oldest : Bool
  middle : Bool
  newest : Bool
  deriving DecidableEq, Repr

/-- The raw levels of every filtered input: the pulse inputs P0 .. P5 (R1) and the other lines. True is HIGH, or on. -/
structure RawLines where
  pulses : Vector Bool 6
  lines : InputLines
  deriving DecidableEq, Repr

/-- What the samplers and filters ahead of the blocks hold (R1, R84, R169, R170, R171), all in ticks of 25 us: how often
they have sampled, the present raw levels, the samples of the pulse and the switch inputs, and for how long raw IGN and
CRANK have differed from their filtered levels and RESET has been low. `ticks` is the MODEL's own: the raw levels of the
ticks that are still to come (log 2). -/
structure Inputs where
  ticks : List RawLines
  now : Nat
  raw : RawLines
  pulses : Vector Samples 6
  switches : Vector Samples 8
  ignFor : Nat
  crankFor : Nat
  resetFor : Nat
  deriving DecidableEq, Repr

/-- The MODEL's own fields, free values (log 4, log 5): no statement rests on what they hold. `orders` gives, for each
handing of one change to several blocks, the order they take it in; `draws` counts the uses of Config's free constants. -/
structure FreeValues where
  orders : List (List Block)
  draws : Nat
  deriving DecidableEq, Repr

end Sys2Proof.Machine
end

