-- ==== Sys2Proof/Machine/Filters.lean ====
section
/-! DEFINITION. The filters ahead of the blocks: the majority of three samples (R1, R84) and the levels that must be held
(R169, R170, R171), counted in ticks of 25 us. -/

namespace Sys2Proof.Machine

/-! ## Three samples and their majority -/

/-- The level held by at least two of the three samples (R1, R84). -/
def Samples.level (x : Samples) : Bool :=
  (x.oldest && x.middle) || (x.oldest && x.newest) || (x.middle && x.newest)

/-- All three samples loaded with one level (R1, R84). -/
def Samples.load (raw : Bool) : Samples := { oldest := raw, middle := raw, newest := raw }

/-- A new sample. -/
def Samples.push (x : Samples) (raw : Bool) : Samples := { oldest := x.middle, middle := x.newest, newest := raw }

/-- The three samples disagree (R143, R181). -/
def Samples.noisy (x : Samples) : Bool := !(x.oldest == x.middle && x.middle == x.newest)

/-- Whether a change of the filtered level is an active edge for a polarity (R1). -/
def Polarity.isActive (p : Polarity) (old new : Bool) : Bool :=
  match p with
  | .rising => !old && new
  | .falling => old && !new

/-- A filter period in ticks (R1). -/
def FilterPeriod.ticks : FilterPeriod → Nat
  | .us25 => 1 | .us100 => 4 | .us400 => 16

/-- Whether a channel is sampled at a tick (R1): never while it is OFF. The spec gives the sample instants no phase; the
model counts every period from one origin (log 26). -/
def Channel.sampledAt (c : Channel) (tick : Nat) : Bool := c.state ≠ .off && tick % c.cfg.filter.ticks = 0

/-- Whether the switches are sampled at a tick (R84): every 2 ms. -/
def switchesSampledAt (tick : Nat) : Bool := tick % 80 = 0

/-- The instant of a tick in the 10 us in which periods are counted (R8). The rule does not say how a time that is not a
multiple of 10 us is counted; the model discards the remainder of each instant, and a period is the difference of two
(log 32). -/
def instantOf (tick : Nat) : Nat := tick * 5 / 2

/-! ## Levels that must be held -/

/-- IGN is filtered over 50 ms (R169), in ticks. -/
def ignHold : Nat := 2000

/-- CRANK is filtered over 20 ms (R170), in ticks. -/
def crankHold : Nat := 800

/-- A low on RESET acts at 1 ms (R171), in ticks. -/
def resetHold : Nat := 40

/-- For how long a new level has been held after one tick more; a break begins afresh (R169). -/
def holdNext (hold : Nat) (differs : Bool) (n : Nat) : Nat := if differs && n + 1 < hold then n + 1 else 0

/-- Whether a new level has been held long enough with this tick (R169, R170, R171). -/
def holdEnds (hold : Nat) (differs : Bool) (n : Nat) : Bool := differs && hold ≤ n + 1

/-! ## What loads the filters -/

/-- The samples of one pulse input loaded with its present level (R1, R17, R20). -/
def Inputs.loadPulse (ch : ChannelIx) (x : Inputs) : Inputs :=
  { x with pulses := x.pulses.set ch (Samples.load x.raw.pulses[ch]) }

/-- The samples of the pulse inputs that meet a test loaded with their present levels (R17). -/
def Inputs.loadPulses (test : ChannelIx → Bool) (x : Inputs) : Inputs :=
  { x with pulses := Vector.ofFn fun ch => if test ch then Samples.load x.raw.pulses[ch] else x.pulses[ch] }

/-- A Supply, Line or Restart reset loads the switch samples (R84) and the IGN and CRANK filters (R169, R170) from the
lines. A RESET line that stands low goes on being watched (R171). -/
def Inputs.atReset (lines : InputLines) (x : Inputs) : Inputs :=
  { x with
    raw := { x.raw with lines }
    switches := Vector.ofFn fun n => Samples.load lines.switches[n]
    ignFor := 0
    crankFor := 0
    resetFor := if lines.reset then 0 else x.resetFor }

end Sys2Proof.Machine
end

