-- ==== Sys2Proof/Machine/Defaults.lean ====
section
/-! DEFINITION. The values a Supply reset gives each block (R179 and the default columns of the chapters' tables). -/

namespace Sys2Proof.Machine

/-! ## PCU -/

/-- Table 7's configuration defaults, channel by channel. -/
def ChannelConfig.supply (ch : ChannelIx) : ChannelConfig :=
  { enabled := ch.val ≤ 2
    polarity := .rising
    filter := .us100
    stall := #v[20, 10, 50, 50, 20, 20][ch]
    maxFreq := #v[3000, 1000, 500, 500, 3000, 3000][ch] }

/-- A channel OFF, its runtime fields at the values of Table 7 (R18). -/
def Channel.off (cfg : ChannelConfig) : Channel :=
  { cfg, state := .off, mode := .period, windowCount := 0, lastPeriod := none, latestEdge := none, lastFreq := 0,
    aboveMax := 0, atOrBelow := 0, stallTimer := none }

/-- The calibration after a Supply reset (R19). -/
def Calibration.supply : Calibration := { kd := 800, kd2 := 800, kf := 10, ke := 8, window := .ms250 }

/-- Every cross-check count 0 (R17, R18). -/
def CrossCheck.zero : CrossCheck := { disagreeing := 0, agreeing := 0, fallback := 0, returning := 0 }

/-- The idle snapshot (R10). -/
def Snapshot.idle : Snapshot :=
  { states := Vector.replicate 6 .off, freqs := Vector.replicate 6 0, roadSpeed := 0, checkSpeed := 0,
    roadSource := .ch0, engineSpeed := 0, fuelRate := 0, disagree := false, implausible := false }

/-- The PCU after a Supply reset (R19). -/
def Pcu.supply : Pcu :=
  { power := .parked, channels := Vector.ofFn fun ch => Channel.off (ChannelConfig.supply ch),
    cal := Calibration.supply, gate := none, roadResidue := 0, checkResidue := 0, fuelResidue := 0,
    implausible := false, disagree := false, roadSource := .ch0, cross := CrossCheck.zero, snap := Snapshot.idle }

/-! ## Slots and GDU -/

/-- A slot after a Supply reset (Table 12). -/
def Slot.supply : Slot :=
  { value := 0, state := .never, staleTime := 20, lostTime := 10, staleTimer := none, lostTimer := none }

/-- The gauge configurations of Table 15. -/
def GaugeConfig.supply (g : GaugeIx) : GaugeConfig :=
  match g.val with
  | 0 => { source := .roadSpeed, fullScale := 1080, slew := 400, damping := 1, table := [(0, 0), (2400, 1080)] }
  | 1 => { source := .engineSpeed, fullScale := 1080, slew := 400, damping := 1, table := [(0, 0), (8000, 1080)] }
  | _ => { source := .fixed 0, fullScale := 360, slew := 400, damping := 1, table := [(0, 0), (1, 360)] }

/-- A gauge as every reset leaves it (R40): PARKING with position unknown, target 0, buffer empty. -/
def Gauge.unknown (cfg : GaugeConfig) : Gauge :=
  { cfg, state := .parking, phase := none, present := none, target := 0, homingLeft := none, buffer := [] }

/-- The GDU's copies when every channel is OFF and nothing has been measured. -/
def GaugeView.idle : GaugeView :=
  { roadSpeed := 0, engineSpeed := 0, checkSpeed := 0, generalFreq := 0, roadSource := .ch0,
    channels := Vector.replicate 6 .off }

/-- The GDU after a Supply reset (R40). -/
def Gdu.supply : Gdu :=
  { power := .parked, slots := Vector.replicate 8 Slot.supply,
    gauges := Vector.ofFn fun g => Gauge.unknown (GaugeConfig.supply g), parking := false, view := GaugeView.idle }

/-! ## TAU -/

/-- A trip after a Supply reset (R45). -/
def Trip.supply : Trip :=
  { state := .closed, distance := 0, fuel := 0, running := 0, moving := 0, maxSpeed := 0, startOdometer := 0,
    startDate := none, resetBy := none }

/-- A bucket with every field at 0 (R55). -/
def Bucket.zero : Bucket := { distance := 0, fuel := 0, seconds := 0 }

/-- The fuel options of Table 21. -/
def FuelOptions.supply : FuelOptions :=
  { slot := none, threshold := 5000, bucketLength := 10, tank := [(0, 0), (1000, 80000)] }

/-- The TAU after a Supply reset (R63). -/
def Tau.supply : Tau :=
  { power := .parked, engineRunning := false, roadLive := false, odometer := 0, odometerState := .invalid,
    accInvalid := 0, engineHours := 0, engineResidue := 0, trips := Vector.replicate 4 Trip.supply, ring := [],
    bucket := Bucket.zero, destination := none, fuel := FuelOptions.supply, levelAtStop := none, range := none }

/-! ## CLK -/

/-- The clock fields of Table 23, which the end of 2079 also sets (R68). -/
def ClockTime.epoch : ClockTime := { year := 1980, month := 1, day := 1, hour := 0, minute := 0, second := 0 }

/-- The alarm of Table 24. -/
def Alarm.supply : Alarm :=
  { enabled := false, hour := 0, minute := 0, dayMask := 0, rep := .once, pattern := 3, dest := .front }

/-- The CLK after a Supply reset (R83). -/
def Clk.supply : Clk :=
  { time := ClockTime.epoch, state := .unset, trim := 0, secondLength := 1000000, lock := false,
    alarms := Vector.replicate 4 Alarm.supply }

/-! ## WTB -/

/-- Table 26's configuration defaults. -/
def EntryConfig.supply : EntryConfig :=
  { enabled := false, cls := .advisory, source := .linkCondition, threshold := 0, hysteresis := 0, gate1 := .none,
    gate2 := .none, qualify := 0, pattern := none, dest := .front, rep := none, lamp := none, latching := false,
    parkedLive := false, mirrorRear := false }

/-- An entry with its runtime fields as every reset leaves them (R86). -/
def Entry.idle (cfg : EntryConfig) : Entry :=
  { cfg, state := .idle, qualifyTimer := none, repeatTimer := none, eventPending := false, linkCondition := false,
    memory := false }

/-- The WTB's copies after a Supply reset (R102 and the blocks' own Supply reset values). -/
def WarnView.supply : WarnView :=
  { power := .parked, engineRunning := false, roadLive := false, channels := Vector.replicate 6 .off,
    disagree := false, implausible := false, roadSpeed := 0, checkSpeed := 0, engineSpeed := 0, roadSource := .ch0,
    slotStates := Vector.replicate 8 .never, slotValues := Vector.replicate 8 0, odometer := .invalid,
    clock := .unset, items := Vector.replicate 8 .off, nodes := Vector.replicate 6 .disabled, line := .off,
    range := none }

/-- The WTB after a Supply reset (R84, R102, R103), the switches' samples loaded from the lines. -/
def Wtb.supply (lines : InputLines) : Wtb :=
  { switches := Vector.ofFn fun n => { activeHigh := false, level := lines.switches[n] },
    entries := Vector.replicate 32 (Entry.idle EntryConfig.supply),
    lamps := Vector.replicate 12 { mode := .warning, host := .off }, flashLit := true, bulbCheck := none,
    view := WarnView.supply }

/-! ## CHS -/

/-- Table 32. -/
def Pattern.supply (p : PatternIx) : Pattern :=
  match p.val with
  | 0 => { segments := [⟨.high, 30⟩], passes := .times 1 }
  | 1 => { segments := [⟨.high, 15⟩, ⟨.rest, 10⟩, ⟨.high, 15⟩], passes := .times 1 }
  | 2 => { segments := [⟨.high, 20⟩, ⟨.low, 20⟩], passes := .whileActive }
  | 3 => { segments := [⟨.mid, 10⟩, ⟨.rest, 90⟩], passes := .times 6 }
  | 4 => { segments := [⟨.bell, 40⟩, ⟨.rest, 20⟩, ⟨.bell, 40⟩], passes := .times 2 }
  | 5 =>
    { segments := [⟨.mid, 10⟩, ⟨.rest, 10⟩, ⟨.mid, 10⟩, ⟨.rest, 10⟩, ⟨.mid, 10⟩, ⟨.rest, 50⟩], passes := .times 4 }
  | 6 => { segments := [⟨.mid, 20⟩, ⟨.rest, 30⟩], passes := .whileActive }
  | _ => { segments := [⟨.low, 25⟩], passes := .times 1 }

/-- The CHS after a Supply reset (R128). -/
def Chs.supply : Chs :=
  { power := .parked, patterns := Vector.ofFn Pattern.supply, queue := [], nextArrival := 0, player := none,
    privacy := false }

/-! ## SVS -/

/-- Table 37's last column. -/
def ServiceItem.supply : ServiceItem :=
  { enabled := false, label := 0, distanceInterval := none, hoursInterval := none, daysInterval := none,
    remainingDistance := none, remainingHours := none, remainingDays := none, lastOdometer := none, lastDate := none,
    state := .off }

/-- The SVS after a Supply reset (R141). -/
def Svs.supply : Svs := { power := .parked, roadLive := false, items := Vector.replicate 8 ServiceItem.supply }

/-! ## CLC -/

/-- Table 40's defaults. -/
def Node.supply (n : NodeIx) : Node :=
  { enabled := false, address := n.val + 1, nodeAlias := n.val + 1, kind := .other, mirrorSet := 0,
    state := .disabled, misses := 0, lostRounds := 0, due := false }

/-- The CLC after a Supply reset (R165); the road speed 0 is the model's choice (log 35). -/
def Clc.supply : Clc :=
  { power := .parked, roadLive := false, roadSpeed := 0, nodes := Vector.ofFn Node.supply, roundPeriod := 4,
    callPattern := 4, outsideSlot := none, line := .off, heldLow := false, roundTimer := none, backoffTimer := none,
    mirrorQueue := [], txn := none, retry := none, contentions := 0, pass := none, sleepWaiting := false }

/-! ## IGS and LKP -/

/-- The IGS at a reset (R175, steps 1 to 3): the filters hold the raw levels, PARKED, the cause taken. -/
def Igs.atReset (cause : ResetCause) (lines : InputLines) (armed : Bool) : Igs :=
  { supplied := true, power := .parked, cause, ign := lines.ign, crank := lines.crank, resetArmed := armed }

/-- The mask of POWER alone (R190). -/
def powerMask : BitVec 10 := 1

/-- The LKP as every Supply, Line and Restart reset leaves it (R195), with the odometer and clock copies given. -/
def Lkp.atReset (odometerInvalid clockUnset : Bool) : Lkp :=
  { rx := .hunting, rxBytes := [], discardAll := false, requests := [], replies := [], notices := [],
    mask := powerMask, tx := .idle, txHold := true, overrun := false, noticesLost := false, overrunSets := 0,
    lostSets := 0, power := .parked, odometerInvalid, clockUnset }

/-- The lines with the ignition off, no crank, RESET high and every switch input high (log 6). -/
def quietLines : InputLines := { ign := false, crank := false, reset := true, switches := Vector.replicate 8 true }

/-- The inputs before anything is fed: no tick waits, the pulse inputs low and the other lines quiet (log 6). -/
def Inputs.quiet : Inputs :=
  { ticks := [], now := 0, raw := { pulses := Vector.replicate 6 false, lines := quietLines },
    pulses := Vector.replicate 6 (Samples.load false), switches := Vector.replicate 8 (Samples.load true),
    ignFor := 0, crankFor := 0, resetFor := 0 }

end Sys2Proof.Machine
end

