-- ==== Sys2Proof/Machine/State.lean ====
section
/-! DEFINITION. The state of the part, the reasons a step could stop, and the state right after a Supply reset. -/

namespace Sys2Proof.Machine

/-- Why the part could stop with a fault. No command does: the spec gives every command an effect (log 16). -/
inductive Fault where
  deriving DecidableEq, Repr

/-- Why the model could decline a command. -/
inductive Refusal where
  /-- Raised by an arm of exec whose command has no meaning yet; safe. No arm raises it now. -/
  | notModelled (mnemonic : String)
  deriving DecidableEq, Repr

/-- The whole part: the ten blocks, the input lines with their filters, the free values, and the commands that wait, first in, first out. -/
structure State where
  igs : Igs
  pcu : Pcu
  gdu : Gdu
  tau : Tau
  clk : Clk
  wtb : Wtb
  chs : Chs
  svs : Svs
  clc : Clc
  lkp : Lkp
  inputs : Inputs
  free : FreeValues
  pending : List Instr
  deriving DecidableEq, Repr

/-- The part as a Supply reset leaves its blocks, before the IGS queues the POWER notice (R175, R179). The ticks and the
commands that are still to come stand as they were. -/
def State.supplied (lines : InputLines) (inputs : Inputs) (free : FreeValues) (pending : List Instr) : State :=
  { igs := Igs.atReset .supply lines lines.reset
    pcu := Pcu.supply
    gdu := Gdu.supply
    tau := Tau.supply
    clk := Clk.supply
    wtb := Wtb.supply lines
    chs := Chs.supply
    svs := Svs.supply
    clc := Clc.supply
    lkp := Lkp.atReset true true
    inputs := inputs.atReset lines
    free
    pending }

/-- The machine right after reset: a Supply reset (R175) taken with the lines quiet (log 6), its POWER notice queued,
no command waiting. -/
def State.reset : State :=
  let s := State.supplied quietLines Inputs.quiet { orders := [], draws := 0 } []
  { s with lkp := { s.lkp with notices := [.power .parked .supply] } }

end Sys2Proof.Machine
end

