-- ==== Sys2Proof/Machine/Operands.lean ====
section
/-! DEFINITION. Field encodings (R196, Table 56): how numbers, signed numbers, absent values and codes are read from a
body and written into one. -/

namespace Sys2Proof.Machine

/-! ## Reading a body (offsets counted from 0) -/

/-- The byte at an offset. The dispatcher has checked the body's length (R185), so the offset lies within it. -/
def byteAt (b : List Byte) (i : Nat) : Byte := b.getD i 0

/-- An unsigned field of one byte. -/
def u8 (b : List Byte) (i : Nat) : Nat := (byteAt b i).toNat

/-- An unsigned field of two bytes, most significant first. -/
def u16 (b : List Byte) (i : Nat) : Nat := u8 b i * 256 + u8 b (i + 1)

/-- An unsigned field of three bytes, most significant first. -/
def u24 (b : List Byte) (i : Nat) : Nat := u16 b i * 256 + u8 b (i + 2)

/-- A two's complement number of the given range size (256, 65536). -/
def signedOf (size n : Nat) : Int := if n * 2 < size then (n : Int) else (n : Int) - size

/-- A signed field of one byte. -/
def s8 (b : List Byte) (i : Nat) : Int := signedOf 256 (u8 b i)

/-- A signed field of two bytes. -/
def s16 (b : List Byte) (i : Nat) : Int := signedOf 65536 (u16 b i)

/-- An index within a range, or none. -/
def ixOf (n k : Nat) : Option (Fin n) := if h : k < n then some ⟨k, h⟩ else none

/-- A flag of one byte: 0 or 1, or out of range. -/
def flagOf : Nat → Option Bool
  | 0 => some false
  | 1 => some true
  | _ => none

/-- An optional field: all ones is absent, anything else is read by `f`, which is none out of range. -/
def optionalOf {α : Type} (allOnes k : Nat) (f : Nat → Option α) : Option (Option α) :=
  if k = allOnes then some none else (f k).map some

/-- A number kept only when it lies within a range. -/
def within (lo hi k : Nat) : Option Nat := if lo ≤ k ∧ k ≤ hi then some k else none

/-! ## Writing a body -/

/-- A field of one byte. -/
def be1 (n : Nat) : List Byte := [byteOf n]

/-- A field of two bytes, most significant first. -/
def be2 (n : Nat) : List Byte := [byteOf (n / 256), byteOf n]

/-- A field of three bytes, most significant first. -/
def be3 (n : Nat) : List Byte := [byteOf (n / 65536), byteOf (n / 256), byteOf n]

/-- A signed field of one byte. -/
def bes1 (i : Int) : List Byte := be1 (i % 256).toNat

/-- A signed field of two bytes. -/
def bes2 (i : Int) : List Byte := be2 (i % 65536).toNat

/-- A signed field of three bytes. -/
def bes3 (i : Int) : List Byte := be3 (i % 16777216).toNat

/-- All ones over a number of bytes: absent. -/
def absent (bytes : Nat) : List Byte := List.replicate bytes 0xFF

/-- An optional field. -/
def optField {α : Type} (bytes : Nat) (enc : α → List Byte) : Option α → List Byte
  | some a => enc a
  | none => absent bytes

/-- A flag of one byte. -/
def beFlag (b : Bool) : List Byte := be1 b.toNat

/-! ## Codes (Table 56 and the owning chapters) -/

def PowerState.code : PowerState → Nat
  | .parked => 0 | .run => 1 | .crank => 2

def ResetCause.code : ResetCause → Nat
  | .supply => 0 | .line => 1 | .restart => 2

/-- The POWER notice's cause of a reset (R173). -/
def ResetCause.powerCause : ResetCause → PowerCause
  | .supply => .supply | .line => .line | .restart => .restart

def PowerCause.code : PowerCause → Nat
  | .supply => 0 | .line => 1 | .restart => 2 | .ignOn => 3 | .ignOff => 4 | .crankOn => 5 | .crankOff => 6

def ChannelState.code : ChannelState → Nat
  | .off => 0 | .still => 1 | .live => 2 | .fault => 3

def SlotState.code : SlotState → Nat
  | .never => 0 | .fresh => 1 | .stale => 2 | .lost => 3

def NeedleState.code : NeedleState → Nat
  | .rest => 0 | .homing => 1 | .tracking => 2 | .held => 3 | .void => 4 | .sweep => 5 | .parking => 6

def TripState.code : TripState → Nat
  | .closed => 0 | .open => 1 | .paused => 2

def ResetBy.code : ResetBy → Nat
  | .link => 0 | .rear => 1 | .auto => 2

def OdometerState.code : OdometerState → Nat
  | .valid => 0 | .invalid => 1

def ClockState.code : ClockState → Nat
  | .set => 0 | .unset => 1

def EntryState.code : EntryState → Nat
  | .idle => 0 | .pending => 1 | .active => 2 | .acked => 3 | .resolved => 4

def ItemState.code : ItemState → Nat
  | .off => 0 | .counting => 1 | .near => 2 | .due => 3 | .overdue => 4

def NodeState.code : NodeState → Nat
  | .disabled => 0 | .joining => 1 | .present => 2 | .lost => 3

def LineState.code : LineState → Nat
  | .off => 0 | .resetting => 1 | .running => 2 | .backoff => 3 | .fault => 4

/-- Table 63: road source 0 CH0, 4 CH4. -/
def RoadSource.code : RoadSource → Nat
  | .ch0 => 0 | .ch4 => 4

/-- The channel a road source is. -/
def RoadSource.channel : RoadSource → ChannelIx
  | .ch0 => 0 | .ch4 => 4

def MirrorItem.code : MirrorItem → Nat
  | .clock => 0 | .outsideTemp => 1 | .passengerTrip => 2 | .destination => 3 | .roadSpeed => 4
  | .rearWarnings => 5 | .privacyFlag => 6 | .alarmsRear => 7

/-- The mirror items in item order (Table 43). -/
def MirrorItem.all : List MirrorItem :=
  [.clock, .outsideTemp, .passengerTrip, .destination, .roadSpeed, .rearWarnings, .privacyFlag, .alarmsRear]

def RearKind.code : RearKind → Nat
  | .intercomCall => 0 | .privacyOn => 1 | .privacyOff => 2 | .passengerTripReset => 3 | .rearAck => 4
  | .clockSet => 5 | .alarmSet => 6 | .key => 7

/-- Table 43a. -/
def RearKind.ofCode : Nat → Option RearKind
  | 0 => some .intercomCall | 1 => some .privacyOn | 2 => some .privacyOff | 3 => some .passengerTripReset
  | 4 => some .rearAck | 5 => some .clockSet | 6 => some .alarmSet | 7 => some .key
  | _ => none

/-- The data sizes of Table 68. -/
def RearKind.dataLength : RearKind → Nat
  | .intercomCall | .privacyOn | .privacyOff | .passengerTripReset | .rearAck => 0
  | .clockSet => 6 | .alarmSet => 4 | .key => 1

def RearResult.code : RearResult → Nat
  | .forwarded => 0 | .applied => 1 | .refused => 2 | .queued => 3 | .alreadyHeld => 4 | .notQueued => 5

def ChimeOutcome.code : ChimeOutcome → Nat
  | .finished => 0 | .cancelled => 1 | .replaced => 2 | .evicted => 3

def TripWhat.code : TripWhat → Nat
  | .reset => 0 | .saturated => 1 | .arrival => 2

def GaugeWhat.code : GaugeWhat → Nat
  | .homed => 0 | .swept => 1 | .parked => 2

/-- Table 58. -/
def Reason.code : Reason → Nat
  | .frame => 0x01 | .check => 0x02 | .unknown => 0x03 | .length => 0x04 | .range => 0x05 | .state => 0x06
  | .busy => 0x07 | .full => 0x08 | .locked => 0x09 | .absent => 0x0A | .timeout => 0x0B | .aborted => 0x0C
  | .moving => 0x0D | .conflict => 0x0E

def ChimeClass.ofCode : Nat → Option ChimeClass
  | 0 => some .advisory | 1 => some .caution | 2 => some .urgent
  | _ => none

/-- URGENT stands above CAUTION above ADVISORY (R111). -/
def ChimeClass.rank : ChimeClass → Nat
  | .advisory => 0 | .caution => 1 | .urgent => 2

def Destination.ofCode : Nat → Option Destination
  | 0 => some .front | 1 => some .rear | 2 => some .both
  | _ => none

def NodeKind.ofCode : Nat → Option NodeKind
  | 0 => some .console | 1 => some .panel | 2 => some .display | 3 => some .other
  | _ => none

def Polarity.ofCode : Nat → Option Polarity
  | 0 => some .rising | 1 => some .falling
  | _ => none

/-- R20. -/
def FilterPeriod.ofCode : Nat → Option FilterPeriod
  | 0 => some .us25 | 1 => some .us100 | 2 => some .us400
  | _ => none

/-- R21. -/
def WindowLength.ofCode : Nat → Option WindowLength
  | 0 => some .ms125 | 1 => some .ms250 | 2 => some .ms500 | 3 => some .ms1000
  | _ => none

/-- The window length in ms (R6). -/
def WindowLength.ms : WindowLength → Nat
  | .ms125 => 125 | .ms250 => 250 | .ms500 => 500 | .ms1000 => 1000

/-- The value names of VALUE_ABOVE and VALUE_BELOW (Table 27). -/
def WarnValue.ofCode (k : Nat) : Option WarnValue :=
  match k with
  | 0 => some .roadSpeed
  | 1 => some .engineSpeed
  | 2 => some .checkSpeed
  | 3 => some .range
  | n + 4 => (ixOf 8 n).map .slot

/-- A source kind with its argument (Table 27); none when either lies outside the table. -/
def WarnSource.ofCode (kind arg : Nat) : Option WarnSource :=
  match kind with
  | 0 => (WarnValue.ofCode arg).map .valueAbove
  | 1 => (WarnValue.ofCode arg).map .valueBelow
  | 2 => (ixOf 8 arg).map .switch
  | 3 => (ixOf 6 arg).map .channelFault
  | 4 => (ixOf 8 arg).map .slotStale
  | 5 => if arg = 0 then some .speedDisagree else none
  | 6 => if arg = 0 then some .fuelImplausible else none
  | 7 => (ixOf 8 arg).map .service
  | 8 => (ixOf 6 arg).map .nodeLost
  | 9 => if arg = 0 then some .lineFault else none
  | 10 => if arg = 0 then some .linkCondition else none
  | 11 => if arg = 0 then some .odometerInvalid else none
  | 12 => if arg = 0 then some .clockUnset else none
  | 13 => if arg = 0 then some .arrival else none
  | _ => none

/-- The gates (Table 28). -/
def Gate.ofCode (k : Nat) : Option Gate :=
  match k with
  | 0 => some .none
  | 1 => some .run
  | 2 => some .engine
  | 3 => some .moving
  | 4 => some .still
  | k =>
    if k < 16 then Option.none
    else if k < 24 then (ixOf 8 (k - 16)).map .switchOn
    else (ixOf 8 (k - 24)).map .switchOff

/-- R126. -/
def Pitch.ofCode : Nat → Option Pitch
  | 0 => some .rest | 1 => some .low | 2 => some .mid | 3 => some .high | 4 => some .bell
  | _ => none

/-- R126: 0 stands for WHILE_ACTIVE. -/
def Passes.ofCode (k : Nat) : Option Passes :=
  if k = 0 then some .whileActive else (within 1 15 k).map .times

def LampMode.ofCode : Nat → Option LampMode
  | 0 => some .warning | 1 => some .link
  | _ => none

def LampHost.ofCode : Nat → Option LampHost
  | 0 => some .off | 1 => some .on | 2 => some .flash
  | _ => none

def AlarmRepeat.ofCode : Nat → Option AlarmRepeat
  | 0 => some .once | 1 => some .daily
  | _ => none

def PassKind.ofCode : Nat → Option PassKind
  | 0 => some .read | 1 => some .write
  | _ => none

/-- A gauge source with its argument (R41): the argument is 0..7 for SLOT, 0..255 for FIXED, 0 for the others. -/
def GaugeSource.ofCode (kind arg : Nat) : Option GaugeSource :=
  match kind with
  | 0 => if arg = 0 then some .roadSpeed else none
  | 1 => if arg = 0 then some .engineSpeed else none
  | 2 => if arg = 0 then some .checkSpeed else none
  | 3 => if arg = 0 then some .generalFreq else none
  | 4 => (ixOf 8 arg).map .slot
  | 5 => some (.fixed arg)
  | _ => none

/-! ## Host link kinds and body lengths (Tables 54 and 60) -/

/-- The request kinds (Table 60). -/
inductive ReqKind where
  | identify | setNoticeMask | restart | readInstruments | setChannel | setCalibration | sensorReport | setSlot
  | setGauge | sweepGauges | readGauges | readTrip | tripControl | setDestination | readTotals | restoreOdometer
  | setFuelOptions | readClock | setClock | setAlarm | setClockOptions | setWarning | readWarnings | acknowledge
  | linkCondition | setLamp | setSwitch | chime | cancelChime | setPattern | setPrivacy | setServiceItem
  | readService | serviceDone | setNode | coachPass | coachReset | readNodes | setCoachOptions
  deriving DecidableEq, Repr

/-- The kind byte of a request (Table 60). -/
def ReqKind.code : ReqKind → Byte
  | .identify => 0x01 | .setNoticeMask => 0x02 | .restart => 0x03 | .readInstruments => 0x08 | .setChannel => 0x09
  | .setCalibration => 0x0A | .sensorReport => 0x0B | .setSlot => 0x0C | .setGauge => 0x0D | .sweepGauges => 0x0E
  | .readGauges => 0x0F | .readTrip => 0x10 | .tripControl => 0x11 | .setDestination => 0x12 | .readTotals => 0x13
  | .restoreOdometer => 0x14 | .setFuelOptions => 0x15 | .readClock => 0x18 | .setClock => 0x19 | .setAlarm => 0x1A
  | .setClockOptions => 0x1B | .setWarning => 0x20 | .readWarnings => 0x21 | .acknowledge => 0x22
  | .linkCondition => 0x23 | .setLamp => 0x24 | .setSwitch => 0x25 | .chime => 0x28 | .cancelChime => 0x29
  | .setPattern => 0x2A | .setPrivacy => 0x2B | .setServiceItem => 0x30 | .readService => 0x31
  | .serviceDone => 0x32 | .setNode => 0x38 | .coachPass => 0x39 | .coachReset => 0x3A | .readNodes => 0x3B
  | .setCoachOptions => 0x3C

/-- Every request kind, in the order of Table 60. -/
def ReqKind.all : List ReqKind :=
  [.identify, .setNoticeMask, .restart, .readInstruments, .setChannel, .setCalibration, .sensorReport, .setSlot,
    .setGauge, .sweepGauges, .readGauges, .readTrip, .tripControl, .setDestination, .readTotals, .restoreOdometer,
    .setFuelOptions, .readClock, .setClock, .setAlarm, .setClockOptions, .setWarning, .readWarnings, .acknowledge,
    .linkCondition, .setLamp, .setSwitch, .chime, .cancelChime, .setPattern, .setPrivacy, .setServiceItem,
    .readService, .serviceDone, .setNode, .coachPass, .coachReset, .readNodes, .setCoachOptions]

/-- Whether a kind byte is one of the request kinds (R185, Note 50). -/
def isRequestKind (k : Byte) : Bool := ReqKind.all.any fun q => q.code = k

/-- A body whose length depends on a count at an offset (Table 54); a body too short to hold the count fails. -/
def countedLength (b : List Byte) (offset size head : Nat) : Bool :=
  offset < b.length && b.length = head + size * u8 b offset

/-- Whether a body has the length its kind calls for (R185, Tables 54 and 60). -/
def ReqKind.lengthOk (k : ReqKind) (b : List Byte) : Bool :=
  match k with
  | .identify | .restart | .readInstruments | .sweepGauges | .readGauges | .readTotals | .readClock | .readWarnings
  | .cancelChime | .coachReset | .readNodes => b.length = 0
  | .readTrip | .acknowledge | .setPrivacy | .readService | .serviceDone => b.length = 1
  | .setNoticeMask | .tripControl | .setClockOptions | .linkCondition | .setSwitch => b.length = 2
  | .setSlot | .setDestination | .restoreOdometer | .setLamp | .setCoachOptions => b.length = 3
  | .chime => b.length = 4
  | .setNode => b.length = 6
  | .setChannel | .setCalibration | .setClock => b.length = 7
  | .setAlarm => b.length = 8
  | .setServiceItem => b.length = 9
  | .setWarning => b.length = 18
  | .sensorReport => 3 ≤ b.length && b.length ≤ 24 && b.length % 3 = 0
  | .setGauge => countedLength b 8 4 9
  | .setFuelOptions => countedLength b 4 5 5
  | .setPattern => countedLength b 2 2 3
  | .coachPass => countedLength b 3 1 4

end Sys2Proof.Machine
end

