-- ==== Sys2Proof/Machine/Ops.lean ====
section
/-! DEFINITION. The shared operations over the state: updates of one block or one record, and the handing of one
change to several blocks. -/

namespace Sys2Proof.Machine

/-! ## Tables of records -/

/-- The table with one record changed. -/
def updAt {α : Type} {n : Nat} (v : Vector α n) (i : Fin n) (f : α → α) : Vector α n := v.set i (f v[i])

/-- The table with every record changed. -/
def mapAll {α β : Type} {n : Nat} (f : α → β) (v : Vector α n) : Vector β n := Vector.ofFn fun i => f v[i]

/-- One operation for each index in turn, 0 first. -/
def eachIx (n : Nat) (f : Fin n → State → State) (s : State) : State :=
  (List.finRange n).foldl (fun s i => f i s) s

/-! ## One block at a time -/

def State.modIgs (f : Igs → Igs) (s : State) : State := { s with igs := f s.igs }
def State.modPcu (f : Pcu → Pcu) (s : State) : State := { s with pcu := f s.pcu }
def State.modGdu (f : Gdu → Gdu) (s : State) : State := { s with gdu := f s.gdu }
def State.modTau (f : Tau → Tau) (s : State) : State := { s with tau := f s.tau }
def State.modClk (f : Clk → Clk) (s : State) : State := { s with clk := f s.clk }
def State.modWtb (f : Wtb → Wtb) (s : State) : State := { s with wtb := f s.wtb }
def State.modChs (f : Chs → Chs) (s : State) : State := { s with chs := f s.chs }
def State.modSvs (f : Svs → Svs) (s : State) : State := { s with svs := f s.svs }
def State.modClc (f : Clc → Clc) (s : State) : State := { s with clc := f s.clc }
def State.modLkp (f : Lkp → Lkp) (s : State) : State := { s with lkp := f s.lkp }
def State.modInputs (f : Inputs → Inputs) (s : State) : State := { s with inputs := f s.inputs }
def State.modFree (f : FreeValues → FreeValues) (s : State) : State := { s with free := f s.free }

/-! ## One record at a time -/

def State.modChannel (ch : ChannelIx) (f : Channel → Channel) (s : State) : State :=
  s.modPcu fun p => { p with channels := updAt p.channels ch f }
def State.modSlot (n : SlotIx) (f : Slot → Slot) (s : State) : State :=
  s.modGdu fun d => { d with slots := updAt d.slots n f }
def State.modGauge (g : GaugeIx) (f : Gauge → Gauge) (s : State) : State :=
  s.modGdu fun d => { d with gauges := updAt d.gauges g f }
def State.modTrip (t : TripIx) (f : Trip → Trip) (s : State) : State :=
  s.modTau fun u => { u with trips := updAt u.trips t f }
def State.modAlarm (a : AlarmIx) (f : Alarm → Alarm) (s : State) : State :=
  s.modClk fun c => { c with alarms := updAt c.alarms a f }
def State.modEntry (w : EntryIx) (f : Entry → Entry) (s : State) : State :=
  s.modWtb fun t => { t with entries := updAt t.entries w f }
def State.modWarnView (f : WarnView → WarnView) (s : State) : State := s.modWtb fun t => { t with view := f t.view }
def State.modItem (i : ItemIx) (f : ServiceItem → ServiceItem) (s : State) : State :=
  s.modSvs fun v => { v with items := updAt v.items i f }
def State.modNode (n : NodeIx) (f : Node → Node) (s : State) : State :=
  s.modClc fun c => { c with nodes := updAt c.nodes n f }

/-! ## Handing one change to several blocks -/

/-- Every block, in the order the model takes when no other is given. -/
def allBlocks : List Block := [.pcu, .gdu, .tau, .clk, .wtb, .chs, .svs, .clc, .lkp]

/-- An order of all the blocks made from any list: each block stands in it exactly once. -/
def blockOrder (o : List Block) : List Block := o.dedup ++ allBlocks.filter fun b => b ∉ o

/-- One change handed to the blocks of `targets`, each of which takes it as one event of its own (`take`).
The order is a free value (R172: in no set order): the next one of `free.orders` (log 5). -/
def hand (targets : List Block) (take : Block → State → State) (s : State) : State :=
  ((blockOrder (s.free.orders.headD [])).filter fun b => b ∈ targets).foldl (fun s b => take b s)
    (s.modFree fun v => { v with orders := v.orders.tail })

end Sys2Proof.Machine
end

