-- ==== Sys2Proof/Machine/Flags.lean ====
section
/-! DEFINITION. The link status byte and its markers (R192, R198), and the outputs computed from the state: lamp lines
(R103), tone outputs (R108), switch states (R84). -/

namespace Sys2Proof.Machine

/-! ## Link status byte -/

/-- The link status byte of Table 59, from the LKP's markers and copies and whether a pass-through is held. -/
def statusByte (l : Lkp) (passHeld : Bool) : Byte :=
  byteOf (l.overrun.toNat * 1 + l.noticesLost.toNat * 2 + l.power.code * 4 + l.odometerInvalid.toNat * 16 +
    l.clockUnset.toNat * 32 + passHeld.toNat * 64)

/-- The status byte made now, with the marks that tell a later setting of a marker (R192, log 13). -/
def sealNow (s : State) : StatusSeal :=
  { status := statusByte s.lkp s.clc.pass.isSome, overrunSets := s.lkp.overrunSets, lostSets := s.lkp.lostSets }

/-- The overrun marker is set (R184, R183). -/
def Lkp.setOverrun (l : Lkp) : Lkp := { l with overrun := true, overrunSets := l.overrunSets + 1 }

/-- The notices-lost marker is set (R189). -/
def Lkp.setNoticesLost (l : Lkp) : Lkp := { l with noticesLost := true, lostSets := l.lostSets + 1 }

/-- A frame that carried a marker has been sent: the marker clears, unless it was set again after that frame's status
byte was made (R192). -/
def Lkp.clearCarried (f : StatusSeal) (l : Lkp) : Lkp :=
  { l with
    overrun := l.overrun && !(f.status.getLsbD 0 && l.overrunSets == f.overrunSets)
    noticesLost := l.noticesLost && !(f.status.getLsbD 1 && l.lostSets == f.lostSets) }

/-! ## Switches -/

/-- A switch is ACTIVE while its filtered level equals its active level (R84). -/
def Switch.active (w : Switch) : Bool := w.level == w.activeHigh

/-! ## Lamp lines -/

/-- What a lamp line shows (R103). -/
inductive LampShow where
  | dark | steady | flashing
  deriving DecidableEq, Repr

/-- Whether some entry bound to a line stands in one of the given states. -/
def Wtb.boundIn (t : Wtb) (l : LampIx) (states : List EntryState) : Bool :=
  t.entries.toList.any fun e => e.cfg.lamp == some l && states.contains e.state

/-- What a line shows (R103, R104): in WARNING mode steady during the bulb check, else what its entries give; in LINK
mode what the host set. -/
def Wtb.lampShow (t : Wtb) (l : LampIx) : LampShow :=
  match t.lamps[l].mode with
  | .link =>
    match t.lamps[l].host with
    | .off => .dark
    | .on => .steady
    | .flash => .flashing
  | .warning =>
    if t.bulbCheck.isSome then .steady
    else if t.boundIn l [.active, .resolved] then .flashing
    else if t.boundIn l [.acked] then .steady
    else .dark

/-- Whether the line's lamp is lit now: a flashing line is lit in the lit phase of the one flash timer (R103). -/
def Wtb.lampLit (t : Wtb) (l : LampIx) : Bool :=
  match t.lampShow l with
  | .dark => false
  | .steady => true
  | .flashing => t.flashLit

/-! ## Tone outputs -/

/-- The destination with REAR taken out (R115): none is empty. -/
def Destination.withoutRear : Destination → Option Destination
  | .front => some .front
  | .rear => none
  | .both => some .front

/-- A request's effective destination (R115): none is empty. -/
def effectiveDestination (privacy : Bool) (r : ChimeRequest) : Option Destination :=
  if privacy ∧ r.cls ≠ .urgent then r.dest.withoutRear else some r.dest

/-- Whether a request may play (R115). -/
def mayPlay (privacy : Bool) (r : ChimeRequest) : Bool := (effectiveDestination privacy r).isSome

/-- The request the player plays. -/
def Chs.playingRequest (c : Chs) : Option ChimeRequest :=
  c.player.bind fun p => c.queue.find? fun r => r.source = p.source

/-- The segment the player plays. -/
def Chs.playingSegment (c : Chs) : Option Segment :=
  c.player.bind fun p => c.playingRequest.bind fun r => c.patterns[r.pattern].segments[p.segment]?

/-- The pitch on an output for the destinations that sound there; none is quiet (R108). -/
def Chs.toneOn (c : Chs) (sounds : List Destination) : Option Pitch :=
  match c.playingSegment, c.playingRequest.bind (effectiveDestination c.privacy) with
  | some seg, some d => if seg.pitch ≠ .rest ∧ d ∈ sounds then some seg.pitch else none
  | _, _ => none

/-- FRONT_TONE (R108). -/
def Chs.frontTone (c : Chs) : Option Pitch := c.toneOn [.front, .both]

/-- REAR_TONE (R108). -/
def Chs.rearTone (c : Chs) : Option Pitch := c.toneOn [.rear, .both]

/-- The frequency of a pitch in Hz (R108); REST has none. -/
def Pitch.hertz : Pitch → Option Nat
  | .rest => none
  | .low => some 700
  | .mid => some 1400
  | .high => some 2100
  | .bell => some 1050

end Sys2Proof.Machine
end

