-- ==== Sys2Proof/Machine/OpsLink.lean ====
section
/-! DEFINITION. The Link Port's operations: frames, the notice queue, the reply queue, the transmitter, the receiver and
the request buffer (Chapter 10). -/

namespace Sys2Proof.Machine

/-! ## Frames -/

/-- The check byte that makes a run of bytes sum to 0 modulo 256 (R197, R200). -/
def checkByte (b : List Byte) : Byte := byteOf (256 - (b.map BitVec.toNat).sum % 256)

/-- A frame sent on HTX, byte for byte (R197, Table 57): the body is the status byte, then the fields. -/
def OutFrame.bytes (f : OutFrame) : List Byte :=
  let head := f.kind :: f.tag :: byteOf (f.fields.length + 1) :: f.sealed.status :: f.fields
  head ++ [checkByte head]

/-! ## Notices -/

/-- The mask bit of a notice (Table 65); its kind is 0xA0 plus that. -/
def Notice.bit : Notice → Nat
  | .power .. => 0 | .warning .. => 1 | .chime .. => 2 | .alarm .. => 3 | .service .. => 4 | .node .. => 5
  | .rear .. => 6 | .refuel .. => 7 | .trip .. => 8 | .gauge .. => 9

/-- The subject of a notice (Table 65), as a number that tells the subjects of one kind apart. -/
def Notice.subject : Notice → Nat
  | .power .. | .chime .. | .refuel .. | .gauge .. => 0
  | .warning w _ => w.val
  | .alarm a => a.val
  | .service i _ => i.val
  | .node n _ => n.val
  | .rear n k _ _ => n.val * 8 + k.code
  | .trip t _ => t.val

/-- Kind and subject: no two queued notices share them (R189). -/
def Notice.key (n : Notice) : Nat × Nat := (n.bit, n.subject)

/-- The notice body after the status byte (Table 65). -/
def Notice.fields : Notice → List Byte
  | .power st cause => be1 st.code ++ be1 cause.code
  | .warning w st => be1 w.val ++ be1 st.code
  | .chime tag outcome => tag :: be1 outcome.code
  | .alarm a => be1 a.val
  | .service i st => be1 i.val ++ be1 st.code
  | .node n st => be1 n.val ++ be1 st.code
  | .rear n k result data => be1 n.val ++ be1 k.code ++ be1 result.code ++ data
  | .refuel before after => be3 before ++ be3 after
  | .trip t what => be1 t.val ++ be1 what.code
  | .gauge what => be1 what.code

/-- The LKP takes a notice a block hands it (R189). -/
def Lkp.takeNotice (n : Notice) (l : Lkp) : Lkp :=
  if l.mask.getLsbD n.bit = false then l
  else if l.notices.any fun m => m.key = n.key then
    { l with notices := l.notices.map fun m => if m.key = n.key then n else m }
  else if Config.noticeQueueSize ≤ l.notices.length then l.setNoticesLost
  else { l with notices := l.notices ++ [n] }

/-- A block hands a notice to the LKP. -/
def State.notify (n : Notice) (s : State) : State := s.modLkp (Lkp.takeNotice n)

/-! ## Replies -/

/-- The reply a response makes (R188): an Answer has the request's kind plus 0x40, a Refusal the kind 0x7F with the
reason and the refused kind. A held pass-through makes none yet (R186). -/
def replyOf (entry : ReplyEntry) (kind tag : Byte) : Response → Option Reply
  | .answer fields => some { entry, kind := kind + 0x40, tag, fields, sealed := none }
  | .refuse r => some { entry, kind := 0x7F, tag, fields := be1 r.code ++ [kind], sealed := none }
  | .held => none

/-- A reply placed as the newest of the reply queue (R187). Its status byte is made at the end of the event (R192). -/
def State.reply (entry : ReplyEntry) (kind tag : Byte) (resp : Response) (s : State) : State :=
  match replyOf entry kind tag resp with
  | some r => s.modLkp fun l => { l with replies := l.replies ++ [r] }
  | none => s

/-- How many ordinary entries of the reply queue hold a reply (R187). -/
def Lkp.ordinaryHeld (l : Lkp) : Nat := l.replies.countP fun r => r.entry = .ordinary

/-- Whether the reserved entry of the reply queue is free (R187). -/
def Lkp.reservedFree (l : Lkp) : Bool := l.replies.all fun r => r.entry = .ordinary

/-- The room the dispatcher needs for a request of a kind (R185). -/
def Lkp.hasRoom (l : Lkp) (kind : Byte) : Bool :=
  if kind = ReqKind.restart.code then l.ordinaryHeld = 0
  else if kind = ReqKind.coachPass.code then l.ordinaryHeld < Config.ordinaryEntries && l.reservedFree
  else l.ordinaryHeld < Config.ordinaryEntries

/-- The status bytes of the replies placed in this event, from the state at its end (R192). -/
def sealReplies (s : State) : State :=
  s.modLkp fun l => { l with replies := l.replies.map fun r =>
    { r with sealed := match r.sealed with | some f => some f | none => some (sealNow s) } }

/-! ## Transmitter -/

/-- The frame of a reply. Its status byte was made when it was placed. -/
def Reply.frame (r : Reply) (now : StatusSeal) : OutFrame :=
  { isReply := true, kind := r.kind, tag := r.tag, fields := r.fields, sealed := r.sealed.getD now }

/-- The frame of a notice: notice kind, tag 0, the status byte made as its transmission starts (R192, R199). -/
def Notice.frame (n : Notice) (now : StatusSeal) : OutFrame :=
  { isReply := false, kind := byteOf (0xA0 + n.bit), tag := 0, fields := n.fields, sealed := now }

/-- An IDLE transmitter with work starts the next frame at once: the oldest reply, else the head notice, which then
leaves the queue (R191). After a reset it first waits two character times. -/
def startTransmitter (s : State) : State :=
  if s.lkp.tx = .idle ∧ s.lkp.txHold = false then
    match s.lkp.replies, s.lkp.notices with
    | r :: _, _ => s.modLkp fun l => { l with tx := .sending (r.frame (sealNow s)) }
    | [], n :: rest => s.modLkp fun l => { l with notices := rest, tx := .sending (n.frame (sealNow s)) }
    | [], [] => s
  else s

/-- The transmission of a frame completes (R191, R192): a reply's entry becomes free, carried markers clear, the GAP
begins. -/
def Lkp.frameSent (f : OutFrame) (l : Lkp) : Lkp :=
  { l.clearCarried f.sealed with
    replies := if f.isReply then l.replies.tail else l.replies
    tx := .gap }

/-! ## Receiver -/

/-- A character reaches the receiver (R182, Table 53). -/
def Lkp.receive (value : Byte) (error : Bool) (l : Lkp) : Lkp :=
  match l.rx with
  | .hunting => l
  | .discarding => l
  | .ready => if error then { l with rx := .discarding, rxBytes := [] } else { l with rx := .receiving, rxBytes := [value] }
  | .receiving =>
    if error ∨ Config.maxFrame ≤ l.rxBytes.length then { l with rx := .discarding }
    else { l with rxBytes := l.rxBytes ++ [value] }

/-- A Refusal made by the receiver (R183): placed in a free ordinary entry, else dropped with the overrun marker set. -/
def receiverRefusal (reason : Reason) (kind tag : Byte) (s : State) : State :=
  if s.lkp.ordinaryHeld < Config.ordinaryEntries then s.reply .ordinary kind tag (.refuse reason)
  else s.modLkp Lkp.setOverrun

/-- A good frame is offered to the request buffer (R184): appended, or lost with the overrun marker set. -/
def Lkp.offer (r : Request) (l : Lkp) : Lkp :=
  if l.requests.length < Config.requestBufferSize then { l with requests := l.requests ++ [r] } else l.setOverrun

/-- A complete run of bytes is judged (R183, cases 3 to 6). -/
def judgeBytes (b : List Byte) (s : State) : State :=
  if b.length < 4 then s
  else if b.length ≠ 4 + u8 b 2 then receiverRefusal .length (byteAt b 0) (byteAt b 1) s
  else if (b.map BitVec.toNat).sum % 256 ≠ 0 then receiverRefusal .check (byteAt b 0) (byteAt b 1) s
  else s.modLkp (Lkp.offer { kind := byteAt b 0, tag := byteAt b 1, body := (b.drop 3).take (u8 b 2) })

/-- The receiver after an idle gap: READY, with nothing counted in (R182). -/
def Lkp.rxReady (l : Lkp) : Lkp := { l with rx := .ready, rxBytes := [] }

/-- An idle gap has elapsed (R182, R183): a frame end is judged, discard-all first. -/
def idleGap (s : State) : State :=
  let b := s.lkp.rxBytes
  let s1 := s.modLkp Lkp.rxReady
  match s.lkp.rx with
  | .hunting => s1
  | .ready => s1
  | .receiving => if s.lkp.discardAll then s1 else judgeBytes b s1
  | .discarding =>
    if s.lkp.discardAll then s1
    else if 2 ≤ b.length then receiverRefusal .frame (byteAt b 0) (byteAt b 1) s1
    else s1

end Sys2Proof.Machine
end

