-- ==== Sys2Proof/Machine/OpsChime.lean ====
section
/-! DEFINITION. The mirror marks at the Coach Line Controller (R154, R155) and the Chime Sequencer: its queue, its
player and privacy (Chapter 6). -/

namespace Sys2Proof.Machine

/-! ## Mirror marks -/

/-- Whether the line takes marks and pass-throughs: it is RUNNING or in BACKOFF (R154, R162). -/
def LineState.up : LineState → Bool
  | .running | .backoff => true
  | .off | .resetting | .fault => false

/-- A pair is appended to the mirror queue when its slot is PRESENT, the line is RUNNING or BACKOFF, and the queue does
not hold it yet (R154, R155). -/
def Clc.appendPair (item : MirrorItem) (c : Clc) (n : NodeIx) : Clc :=
  if c.nodes[n].state = .present ∧ c.line.up ∧ (n, item) ∉ c.mirrorQueue then
    { c with mirrorQueue := c.mirrorQueue ++ [(n, item)] }
  else c

/-- Whether a slot's mirror set holds an item. -/
def Node.shows (nd : Node) (item : MirrorItem) : Bool := nd.mirrorSet.getLsbD item.code

/-- A mark, for every slot whose mirror set holds the item (R154). The spec gives the pairs that one mark appends for
several slots no order; the model appends N0's first (log 28). -/
def Clc.mark (item : MirrorItem) (c : Clc) : Clc :=
  (List.finRange 6).foldl (fun c n => if c.nodes[n].shows item then c.appendPair item n else c) c

/-- A block hands the CLC a mark. -/
def mark (item : MirrorItem) (s : State) : State := s.modClc (Clc.mark item)

/-- Every item of a slot's mirror set marked for it alone, item 0 first (R154). -/
def Clc.markWhole (n : NodeIx) (c : Clc) : Clc :=
  MirrorItem.all.foldl (fun c item => if c.nodes[n].shows item then c.appendPair item n else c) c

/-! ## The chime queue -/

/-- Queue order (R111): class first, then arrival. -/
def ChimeRequest.before (a b : ChimeRequest) : Bool :=
  b.cls.rank < a.cls.rank || (a.cls.rank = b.cls.rank && a.arrival < b.arrival)

/-- A request put into its place in queue order. -/
def insertRequest (r : ChimeRequest) : List ChimeRequest → List ChimeRequest
  | [] => [r]
  | q :: qs => if r.before q then r :: q :: qs else q :: insertRequest r qs

/-- Whether a request of a source stands in the queue. -/
def Chs.holds (src : ChimeSource) (c : Chs) : Bool := c.queue.any fun r => r.source = src

/-- The request is queued with a fresh arrival order (R111, R112). -/
def Chs.enqueue (r : ChimeRequest) (c : Chs) : Chs :=
  { c with queue := insertRequest { r with arrival := c.nextArrival } c.queue, nextArrival := c.nextArrival + 1 }

/-- Whether the player plays the request of a source. -/
def Chs.plays (src : ChimeSource) (c : Chs) : Bool := c.player.any fun p => p.source = src

/-- The request of a source leaves the queue, and its tone stops at once (R119). -/
def Chs.drop (src : ChimeSource) (c : Chs) : Chs :=
  { c with
    queue := c.queue.filter fun r => r.source ≠ src
    player := if c.plays src then none else c.player }

/-! ## The player -/

/-- A request starts a segment: the segment timer starts at the segment's duration, read from the table (R109, R116). -/
def Chs.start (r : ChimeRequest) (segment : Nat) (c : Chs) : Chs :=
  { c with player := (c.patterns[r.pattern].segments[segment]?).map fun seg =>
      { source := r.source, segment, timer := seg.duration } }

/-- The first request in queue order that may play (R116). -/
def Chs.firstPlayable (c : Chs) : Option ChimeRequest := c.queue.find? (mayPlay c.privacy)

/-- The player chooses after a segment end of `src`, whose next segment is `next` (R116, R117): play goes on when the
same request is first, another request starts at segment 0. It does not choose in CRANK. -/
def Chs.chooseAfter (src : ChimeSource) (next : Nat) (c : Chs) : Chs :=
  if c.power = .crank then c
  else match c.firstPlayable with
    | some r => if r.source = src then c.start r next else c.start r 0
    | none => { c with player := none }

/-- The player chooses (R116): the first request that may play starts at segment 0. It does not choose in CRANK. -/
def Chs.choose (c : Chs) : Chs :=
  if c.power = .crank then c
  else match c.firstPlayable with
    | some r => c.start r 0
    | none => { c with player := none }

/-- The player chooses when it is SILENT. -/
def Chs.chooseIfSilent (c : Chs) : Chs := if c.player.isNone then c.choose else c

/-- A removal (R119): the request leaves; when it was playing, the player chooses again. -/
def Chs.remove (src : ChimeSource) (c : Chs) : Chs := if c.plays src then (c.drop src).choose else c.drop src

/-- A change of privacy (R120); a flag set to what it was changes nothing (R127). -/
def Chs.setPrivacy (on : Bool) (c : Chs) : Chs :=
  if c.privacy = on then c
  else
    let c1 := { c with privacy := on }
    match c1.playingRequest with
    | some r => if mayPlay on r then c1 else { c1 with player := none }.choose
    | none => c1.chooseIfSilent

/-! ## Ends -/

/-- The WTB takes the end of a request of entry `w` that it did not remove (R96): an ACTIVE entry with a repeat interval
starts its repeat timer. -/
def wtbRequestEnd (w : EntryIx) (s : State) : State :=
  if s.wtb.entries[w].state = .active then
    match s.wtb.entries[w].cfg.rep with
    | some r => s.modEntry w fun e => { e with repeatTimer := some r }
    | none => s
  else s

/-- What is handed at the end of a queued request (R123): WARNING ends go to the WTB, each LINK end queues a CHIME
notice with the request's tag, the other sources hand nothing. -/
def handEnd (o : ChimeOutcome) (r : ChimeRequest) (s : State) : State :=
  match r.source with
  | .warning w => wtbRequestEnd w s
  | .link =>
    match r.tag with
    | some t => s.notify (.chime t o)
    | none => s
  | .alarm _ | .rearCall => s

/-- The end "not queued" (R114): handed to the WTB for a warning; nothing else takes it. -/
def handNotQueued (src : ChimeSource) (s : State) : State :=
  match src with
  | .warning w => wtbRequestEnd w s
  | .alarm _ | .rearCall | .link => s

/-! ## Taking a request -/

/-- The worse of two requests to keep: the lower class, within a class the later arrival (R114). -/
def evictWorse (a b : ChimeRequest) : ChimeRequest :=
  if b.cls.rank < a.cls.rank ∨ (b.cls.rank = a.cls.rank ∧ a.arrival < b.arrival) then b else a

/-- The request an eviction takes: the newest of the lowest class held (R114). -/
def Chs.victim (c : Chs) : Option ChimeRequest :=
  match c.queue with
  | [] => none
  | r :: rs => some (rs.foldl evictWorse r)

/-- A request handed to the CHS is taken as one event (R112, R113, R114), with what the CHS gives back. Its arrival
field is set when it is queued. -/
def takeChime (r : ChimeRequest) (s : State) : State × TakeOutcome :=
  match s.chs.queue.find? fun q => q.source = r.source with
  | some old =>
    if r.source = .link then
      ((handEnd .replaced old s).modChs fun c =>
        let c1 := (c.drop .link).enqueue r
        if c.plays .link then c1.choose else c1.chooseIfSilent, .queued)
    else (s, .alreadyHeld)
  | none =>
    if s.chs.queue.length < Config.chimeQueueSize then (s.modChs fun c => (c.enqueue r).chooseIfSilent, .queued)
    else
      match s.chs.victim with
      | some v =>
        if v.cls.rank < r.cls.rank then
          ((handEnd .evicted v s).modChs fun c => ((c.drop v.source).enqueue r).chooseIfSilent, .queued)
        else (handNotQueued r.source s, .notQueued)
      | none => (handNotQueued r.source s, .notQueued)

/-- A removal handed to the CHS (R119). -/
def removeChime (src : ChimeSource) (s : State) : State := s.modChs (Chs.remove src)

/-- The passes of an alarm or a call: WHILE_ACTIVE is one pass (Table 34). -/
def Passes.counted : Passes → Passes
  | .times n => .times n
  | .whileActive => .times 1

/-- A WARNING request (Table 34): the entry's class, pattern and destination, the pattern's pass count as it is. -/
def warningRequest (c : Chs) (w : EntryIx) (e : EntryConfig) (p : PatternIx) : ChimeRequest :=
  { source := .warning w, cls := e.cls, pattern := p, dest := e.dest, passes := c.patterns[p].passes, arrival := 0,
    tag := none }

/-- An ALARM request (Table 34). -/
def alarmRequest (c : Chs) (a : AlarmIx) (al : Alarm) : ChimeRequest :=
  { source := .alarm a, cls := .advisory, pattern := al.pattern, dest := al.dest,
    passes := c.patterns[al.pattern].passes.counted, arrival := 0, tag := none }

/-- A REAR_CALL request (Table 34). -/
def rearCallRequest (c : Chs) (p : PatternIx) : ChimeRequest :=
  { source := .rearCall, cls := .caution, pattern := p, dest := .front, passes := c.patterns[p].passes.counted,
    arrival := 0, tag := none }

/-- A LINK request (R124): passes 0 give the pattern's own pass count. -/
def linkRequest (c : Chs) (p : PatternIx) (cls : ChimeClass) (dest : Destination) (passes : Nat) (tag : Byte) :
    ChimeRequest :=
  { source := .link, cls, pattern := p, dest,
    passes := if passes = 0 then c.patterns[p].passes else .times passes, arrival := 0, tag := some tag }

/-! ## Segment end -/

/-- The passes left of the request of a source are set. -/
def Chs.setPasses (src : ChimeSource) (p : Passes) (c : Chs) : Chs :=
  { c with queue := c.queue.map fun r => if r.source = src then { r with passes := p } else r }

/-- The segment timer expires (R117): the pass is counted at the pattern's last segment, a request out of passes
finishes, and the player chooses. -/
def segmentEnd (s : State) : State :=
  match s.chs.player, s.chs.playingRequest with
  | some p, some r =>
    if p.segment + 1 < s.chs.patterns[r.pattern].segments.length then
      s.modChs (Chs.chooseAfter p.source (p.segment + 1))
    else
      match r.passes with
      | .whileActive => s.modChs (Chs.chooseAfter p.source 0)
      | .times n =>
        if n ≤ 1 then handEnd .finished r (s.modChs fun c => (c.drop p.source).choose)
        else s.modChs fun c => (c.setPasses p.source (.times (n - 1))).chooseAfter p.source 0
  | _, _ => s

/-! ## Privacy and power states at the CHS -/

/-- SET PRIVACY or a rear privacy event (R115, R127): the flag takes the value and PRIVACY is marked, whether or not the
flag changed. -/
def takePrivacy (on : Bool) (s : State) : State := mark .privacyFlag (s.modChs (Chs.setPrivacy on))

/-- Parked entry at the CHS (R122). -/
def chsParkedEntry (s : State) : State :=
  let s1 := if s.chs.privacy then takePrivacy false s else s
  (removeChime .rearCall s1).modChs fun c => { c with power := .parked }.chooseIfSilent

/-- A power-state change at the CHS (R121, R122). -/
def chsPower (p : PowerState) (s : State) : State :=
  match p with
  | .parked => chsParkedEntry s
  | .crank => s.modChs fun c => { c with power := .crank, player := none }
  | .run =>
    if s.chs.power = .crank then s.modChs fun c => { c with power := .run }.choose
    else s.modChs fun c => { c with power := .run }

/-- The CHS after a Line or Restart reset (R128). -/
def Chs.reset (c : Chs) : Chs :=
  { c with power := .parked, queue := [], nextArrival := 0, player := none, privacy := false }

end Sys2Proof.Machine
end

