-- ==== Sys2Proof/Machine/OpsWarning.lean ====
section
/-! DEFINITION. The Warning Table: sources, gates, entry states, acknowledgment, and what it takes from the other
blocks (Chapter 5). -/

namespace Sys2Proof.Machine

/-! ## Sources and gates -/

/-- The value a value source compares (R88); none is absent. -/
def Wtb.valueOf (t : Wtb) : WarnValue → Option Int
  | .roadSpeed => some t.view.roadSpeed
  | .engineSpeed => some t.view.engineSpeed
  | .checkSpeed => some t.view.checkSpeed
  | .range => t.view.range.map fun r => ((min (r / 10) 32767 : Nat) : Int)
  | .slot n =>
    match t.view.slotStates[n] with
    | .fresh | .stale => some t.view.slotValues[n]
    | .never | .lost => none

/-- VALUE_ABOVE with its hysteresis (R88). -/
def aboveCondition (memory : Bool) (threshold hysteresis : Int) : Option Int → Bool
  | none => false
  | some v => if memory then threshold - hysteresis < v else threshold < v

/-- VALUE_BELOW with its hysteresis (R88). -/
def belowCondition (memory : Bool) (threshold hysteresis : Int) : Option Int → Bool
  | none => false
  | some v => if memory then v < threshold + hysteresis else v < threshold

/-- An entry's source condition (R87, R88, R89, Table 27). -/
def Wtb.sourceCondition (t : Wtb) (e : Entry) : Bool :=
  match e.cfg.source with
  | .valueAbove v => aboveCondition e.memory e.cfg.threshold e.cfg.hysteresis (t.valueOf v)
  | .valueBelow v => belowCondition e.memory e.cfg.threshold e.cfg.hysteresis (t.valueOf v)
  | .switch n => t.switches[n].active
  | .channelFault ch => t.view.channels[ch] = .fault
  | .slotStale n => t.view.slotStates[n] = .stale ∨ t.view.slotStates[n] = .lost
  | .speedDisagree => t.view.disagree
  | .fuelImplausible => t.view.implausible
  | .service i => t.view.items[i] = .due ∨ t.view.items[i] = .overdue
  | .nodeLost n => t.view.nodes[n] = .lost
  | .lineFault => t.view.line = .fault
  | .linkCondition => e.linkCondition
  | .odometerInvalid => t.view.odometer = .invalid
  | .clockUnset => t.view.clock = .unset
  | .arrival => e.eventPending

/-- A gate (R91, Table 28). -/
def Wtb.gateTrue (t : Wtb) : Gate → Bool
  | .none => true
  | .run => t.view.power ≠ .parked
  | .engine => t.view.engineRunning
  | .moving => t.view.roadLive
  | .still => !t.view.roadLive
  | .switchOn n => t.switches[n].active
  | .switchOff n => !t.switches[n].active

/-! ## Entry states -/

/-- ACTIVE, ACKED or RESOLVED (R97). -/
def EntryState.standing : EntryState → Bool
  | .active | .acked | .resolved => true
  | .idle | .pending => false

/-- A change of an entry's state is reported (R97): one WARNING notice, and the REAR_WARNINGS mark of a mirror-rear entry
that enters, leaves or moves among the standing states. -/
def reportEntry (w : EntryIx) (old new : EntryState) (s : State) : State :=
  let s1 := s.notify (.warning w new)
  if s.wtb.entries[w].cfg.mirrorRear ∧ (old.standing ∨ new.standing) then mark .rearWarnings s1 else s1

/-- The chime request of an entry (R94), when it has a pattern. -/
def handWarningChime (w : EntryIx) (s : State) : State :=
  match s.wtb.entries[w].cfg.pattern with
  | some p => (takeChime (warningRequest s.chs w s.wtb.entries[w].cfg p) s).1
  | none => s

/-- An entry enters ACTIVE (R94): timers stopped, the chime request handed, the change reported. -/
def enterActive (w : EntryIx) (s : State) : State :=
  let old := s.wtb.entries[w].state
  let s1 := s.modEntry w fun e => { e with state := .active, qualifyTimer := none, repeatTimer := none }
  reportEntry w old .active (handWarningChime w s1)

/-- An entry leaves ACTIVE (R95): the repeat timer stops, the removal is handed, the change reported. -/
def leaveActive (w : EntryIx) (new : EntryState) (s : State) : State :=
  let s1 := s.modEntry w fun e => { e with state := new, repeatTimer := none }
  reportEntry w .active new (removeChime (.warning w) s1)

/-- An entry goes to PENDING, its qualify timer started (R93). -/
def enterPending (w : EntryIx) (s : State) : State :=
  let s1 := s.modEntry w fun e => { e with state := .pending, qualifyTimer := some e.cfg.qualify }
  reportEntry w .idle .pending s1

/-- An entry that is not ACTIVE goes to IDLE, its qualify timer stopped (R93). -/
def enterIdle (w : EntryIx) (s : State) : State :=
  let old := s.wtb.entries[w].state
  let s1 := s.modEntry w fun e => { e with state := .idle, qualifyTimer := none }
  reportEntry w old .idle s1

/-- The columns "condition true" and "condition false" of Table 29 (R93). -/
def moveEntry (w : EntryIx) (condition : Bool) (s : State) : State :=
  match s.wtb.entries[w].state, condition with
  | .idle, true => if s.wtb.entries[w].cfg.qualify = 0 then enterActive w s else enterPending w s
  | .pending, false => enterIdle w s
  | .active, false => leaveActive w (if s.wtb.entries[w].cfg.latching then .resolved else .idle) s
  | .acked, false => enterIdle w s
  | .resolved, true => enterActive w s
  | .idle, false | .pending, true | .active, true | .acked, true | .resolved, false => s

/-- An evaluation of an entry (R92): the source condition is decided and remembered, and the condition (enabled, source,
both gates: R91) moves the entry. One that is not parked-live is not evaluated in PARKED. -/
def evaluateEntry (w : EntryIx) (s : State) : State :=
  let e := s.wtb.entries[w]
  if s.wtb.view.power = .parked ∧ ¬ e.cfg.parkedLive then s
  else
    let src := s.wtb.sourceCondition e
    moveEntry w (e.cfg.enabled && src && s.wtb.gateTrue e.cfg.gate1 && s.wtb.gateTrue e.cfg.gate2)
      (s.modEntry w fun e => { e with memory := src })

/-- The entries whose configuration meets a test are evaluated, W0 first (R92). -/
def evaluateWhere (test : EntryConfig → Bool) (s : State) : State :=
  eachIx 32 (fun w s => if test s.wtb.entries[w].cfg then evaluateEntry w s else s) s

/-- One of an entry's gates meets a test. -/
def EntryConfig.gated (c : EntryConfig) (test : Gate → Bool) : Bool := test c.gate1 || test c.gate2

/-- A value source names a value. -/
def WarnSource.readsValue (v : WarnValue) : WarnSource → Bool
  | .valueAbove x | .valueBelow x => x = v
  | _ => false

/-- A source names a slot, its value or its state. -/
def WarnSource.readsSlot (n : SlotIx) (src : WarnSource) : Bool := src.readsValue (.slot n) || src = .slotStale n

/-! ## What the other blocks hand the WTB -/

/-- The WTB takes a change into its copies and evaluates the entries that name what changed (R87, R92). -/
def wtbTake (f : WarnView → WarnView) (test : EntryConfig → Bool) (s : State) : State :=
  evaluateWhere test (s.modWarnView f)

/-- A switch changed (R84). -/
def wtbSwitch (n : SwitchIx) (s : State) : State :=
  evaluateWhere (fun c => c.source = .switch n || c.gated fun g => g = .switchOn n || g = .switchOff n) s

/-- A channel's state changed (R87), with engine running and road source LIVE as the PCU has them (R91). The speed of a
channel that goes STILL or OFF becomes 0 at once (R88). -/
def wtbChannel (ch : ChannelIx) (st : ChannelState) (engineRunning roadLive : Bool) (s : State) : State :=
  let v := s.wtb.view
  let quiet : Bool := st = .still ∨ st = .off
  let engine : Bool := quiet ∧ ch = 1
  let check : Bool := quiet ∧ ch = 4
  let road : Bool := quiet ∧ ch = v.roadSource.channel
  wtbTake
    (fun x => { x with
      channels := x.channels.set ch st
      engineRunning
      roadLive
      engineSpeed := if engine then 0 else x.engineSpeed
      checkSpeed := if check then 0 else x.checkSpeed
      roadSpeed := if road then 0 else x.roadSpeed })
    (fun c => c.source = .channelFault ch || (engine && c.source.readsValue .engineSpeed) ||
      (check && c.source.readsValue .checkSpeed) || (road && c.source.readsValue .roadSpeed) ||
      (v.engineRunning != engineRunning && c.gated fun g => g = .engine) ||
      (v.roadLive != roadLive && c.gated fun g => g = .moving || g = .still)) s

/-- Road source LIVE changed without a change of a channel's state: the source itself changed (R16). -/
def wtbRoadLive (roadLive : Bool) (s : State) : State :=
  wtbTake (fun x => { x with roadLive }) (fun c => c.gated fun g => g = .moving || g = .still) s

/-- A window result (R88): the three speeds and the road source. -/
def wtbWindow (snap : Snapshot) (s : State) : State :=
  wtbTake
    (fun x => { x with
      roadSpeed := snap.roadSpeed, checkSpeed := snap.checkSpeed, engineSpeed := snap.engineSpeed,
      roadSource := snap.roadSource })
    (fun c => c.source.readsValue .roadSpeed || c.source.readsValue .checkSpeed || c.source.readsValue .engineSpeed) s

/-- The speed-disagreement condition changed. -/
def wtbDisagree (b : Bool) (s : State) : State :=
  wtbTake (fun x => { x with disagree := b }) (fun c => c.source = .speedDisagree) s

/-- The fuel-implausible condition changed. -/
def wtbImplausible (b : Bool) (s : State) : State :=
  wtbTake (fun x => { x with implausible := b }) (fun c => c.source = .fuelImplausible) s

/-- A slot was reported or changed its state. -/
def wtbSlot (n : SlotIx) (st : SlotState) (value : Int) (s : State) : State :=
  wtbTake (fun x => { x with slotStates := x.slotStates.set n st, slotValues := x.slotValues.set n value })
    (fun c => c.source.readsSlot n) s

/-- The range changed. -/
def wtbRange (r : Option Nat) (s : State) : State :=
  wtbTake (fun x => { x with range := r }) (fun c => c.source.readsValue .range) s

/-- The odometer state changed. -/
def wtbOdometer (o : OdometerState) (s : State) : State :=
  wtbTake (fun x => { x with odometer := o }) (fun c => c.source = .odometerInvalid) s

/-- The clock state changed. -/
def wtbClock (c : ClockState) (s : State) : State :=
  wtbTake (fun x => { x with clock := c }) (fun c => c.source = .clockUnset) s

/-- A service item's state changed. -/
def wtbItem (i : ItemIx) (st : ItemState) (s : State) : State :=
  wtbTake (fun x => { x with items := x.items.set i st }) (fun c => c.source = .service i) s

/-- A node's state changed. -/
def wtbNode (n : NodeIx) (st : NodeState) (s : State) : State :=
  wtbTake (fun x => { x with nodes := x.nodes.set n st }) (fun c => c.source = .nodeLost n) s

/-- The line state changed. -/
def wtbLine (st : LineState) (s : State) : State :=
  wtbTake (fun x => { x with line := st }) (fun c => c.source = .lineFault) s

/-- An arrival (R89): the event-pending flag of every enabled ARRIVAL entry is set and each such entry is evaluated. -/
def wtbArrival (s : State) : State :=
  let s1 := s.modWtb fun t => { t with entries := mapAll (fun e =>
    if e.cfg.enabled ∧ e.cfg.source = .arrival then { e with eventPending := true } else e) t.entries }
  evaluateWhere (fun c => c.enabled && c.source = .arrival) s1

/-! ## Acknowledgment -/

/-- An ARRIVAL entry's flag is cleared with its acknowledgment, which makes its condition false (R99). -/
def clearArrival (w : EntryIx) (s : State) : State :=
  if s.wtb.entries[w].cfg.source = .arrival then
    moveEntry w false (s.modEntry w fun e => { e with eventPending := false, memory := false })
  else s

/-- An acknowledgment of an entry (R99), and whether it is counted. -/
def acknowledgeEntry (w : EntryIx) (s : State) : State × Bool :=
  match s.wtb.entries[w].state with
  | .active => (clearArrival w (leaveActive w .acked s), true)
  | .resolved => (clearArrival w (enterIdle w s), true)
  | .idle | .pending | .acked => (s, false)

/-- The entries that meet a test are acknowledged, W0 first, and counted (R99). -/
def acknowledgeWhere (test : EntryIx → EntryConfig → Bool) (s : State) : State × Nat :=
  (List.finRange 32).foldl (fun (p : State × Nat) w =>
    if test w p.1.wtb.entries[w].cfg then
      let q := acknowledgeEntry w p.1
      (q.1, p.2 + q.2.toNat)
    else p) (s, 0)

/-! ## Power states and resets -/

/-- An entry that is not parked-live goes to IDLE at Parked entry (R100). -/
def parkEntry (w : EntryIx) (s : State) : State :=
  let s1 :=
    match s.wtb.entries[w].state with
    | .active => leaveActive w .idle s
    | .pending | .acked | .resolved => enterIdle w s
    | .idle => s
  s1.modEntry w fun e => { e with qualifyTimer := none, repeatTimer := none, memory := false }

/-- Parked entry at the WTB (R100): the bulb check ends; an entry that is not parked-live goes to IDLE and one that is is
evaluated when its RUN gate changed, or when the return of the road source to CH0 took a road speed it names to 0
(log 11). Whether the evaluations come after all the others' changes to IDLE or between them, the spec leaves open; the
model goes through the entries once, in entry order (log 34). -/
def wtbParkedEntry (s : State) : State :=
  let moved : Bool := s.wtb.view.roadSource ≠ .ch0
  let s1 := s.modWtb fun t => { t with
    bulbCheck := none
    view := { t.view with
      power := .parked
      roadSource := .ch0
      roadSpeed := if moved then 0 else t.view.roadSpeed } }
  eachIx 32 (fun w s =>
    let c := s.wtb.entries[w].cfg
    if ¬ c.parkedLive then parkEntry w s
    else if (c.gated fun g => g = .run) || (moved && c.source.readsValue .roadSpeed) then evaluateEntry w s
    else s) s1

/-- Run entry at the WTB (R101, R104): the bulb check starts and every enabled entry is evaluated. -/
def wtbRunEntry (s : State) : State :=
  evaluateWhere (fun c => c.enabled)
    (s.modWtb fun t => { t with bulbCheck := some Config.bulbCheckMs, view := { t.view with power := .run } })

/-- CRANK begins or ends (R101): the entries that name the RUN gate are evaluated. -/
def wtbCrank (p : PowerState) (s : State) : State :=
  wtbTake (fun x => { x with power := p }) (fun c => c.gated fun g => g = .run) s

/-- The WTB's copies taken from the other blocks as a reset leaves them (R102). -/
def WarnView.afterReset (s : State) : WarnView :=
  { power := .parked
    engineRunning := false
    roadLive := false
    channels := mapAll (fun c => c.state) s.pcu.channels
    disagree := s.pcu.disagree
    implausible := s.pcu.implausible
    roadSpeed := s.pcu.snap.roadSpeed
    checkSpeed := s.pcu.snap.checkSpeed
    engineSpeed := s.pcu.snap.engineSpeed
    roadSource := s.pcu.roadSource
    slotStates := mapAll (fun x => x.state) s.gdu.slots
    slotValues := mapAll (fun x => x.value) s.gdu.slots
    odometer := s.tau.odometerState
    clock := s.clk.state
    items := mapAll (fun x => x.state) s.svs.items
    nodes := mapAll (fun x => x.state) s.clc.nodes
    line := s.clc.line
    range := s.tau.range }

/-- The WTB after a Line or Restart reset (R84, R102, R103), before any entry is evaluated. -/
def wtbReset (lines : InputLines) (s : State) : State :=
  s.modWtb fun t => { t with
    switches := Vector.ofFn fun n => { t.switches[n] with level := lines.switches[n] }
    entries := mapAll (fun e => Entry.idle e.cfg) t.entries
    lamps := mapAll (fun l => { l with host := .off }) t.lamps
    flashLit := true
    bulbCheck := none
    view := WarnView.afterReset s }

end Sys2Proof.Machine
end

