-- ==== Sys2Proof/Machine/OpsService.lean ====
section
/-! DEFINITION. The Service Schedule: margins, states and countdowns (Chapter 7). -/

namespace Sys2Proof.Machine

/-- The near margin of an interval in counting units (R130). -/
def nearMargin (i : Nat) : Nat := max (i / 16) 1

/-- The overdue margin of an interval in counting units (R130). -/
def overdueMargin (i : Nat) : Nat := max (i / 8) 1

/-- The floor of a count (R130). -/
def countFloor (i : Nat) : Int := -2 * (i : Int)

/-- The distance interval in DU: whole units × 10 (R130). -/
def ServiceItem.distanceDu (it : ServiceItem) : Option Nat := it.distanceInterval.map fun i => i * 10

/-- An interval and its remaining count, when both are present. -/
def presentCount (interval : Option Nat) (remaining : Option Int) : List (Nat × Int) :=
  match interval, remaining with
  | some i, some r => [(i, r)]
  | _, _ => []

/-- An item's present counts, each with its interval in the count's own unit (R129, R130). -/
def ServiceItem.counts (it : ServiceItem) : List (Nat × Int) :=
  presentCount it.distanceDu it.remainingDistance ++ presentCount it.hoursInterval it.remainingHours ++
    presentCount it.daysInterval it.remainingDays

/-- The state of an item (R131): the first test that holds. -/
def ServiceItem.decided (it : ServiceItem) : ItemState :=
  if !it.enabled then .off
  else if it.counts.any fun c => c.2 ≤ -(overdueMargin c.1 : Int) then .overdue
  else if it.counts.any fun c => c.2 ≤ 0 then .due
  else if it.counts.any fun c => c.2 ≤ (nearMargin c.1 : Int) then .near
  else .counting

/-- An item's state is decided afresh; a change queues a SERVICE notice and is handed to the WTB (R132). -/
def decideItem (i : ItemIx) (s : State) : State :=
  let it := s.svs.items[i]
  if it.decided = it.state then s
  else wtbItem i it.decided
    ((s.modItem i fun it => { it with state := it.decided }).notify (.service i it.decided))

/-- An item is changed and decided, as one event. -/
def changeItem (i : ItemIx) (f : ServiceItem → ServiceItem) (s : State) : State := decideItem i (s.modItem i f)

/-- A count lowered by 1, down to its floor (R130). -/
def countDown (i : Nat) (r : Int) : Int := max (r - 1) (countFloor i)

/-- An item with its remaining distance counted down (R133). -/
def ServiceItem.downDistance (it : ServiceItem) : ServiceItem :=
  match it.distanceDu, it.remainingDistance with
  | some i, some r => { it with remainingDistance := some (countDown i r) }
  | _, _ => it

/-- An item with its remaining hours counted down (R134). -/
def ServiceItem.downHours (it : ServiceItem) : ServiceItem :=
  match it.hoursInterval, it.remainingHours with
  | some i, some r => { it with remainingHours := some (countDown i r) }
  | _, _ => it

/-- An item with its remaining days counted down (R135). -/
def ServiceItem.downDays (it : ServiceItem) : ServiceItem :=
  match it.daysInterval, it.remainingDays with
  | some i, some r => { it with remainingDays := some (countDown i r) }
  | _, _ => it

/-- An event stream counts down every enabled item, each then decided, S0 first (R132). -/
def countItems (down : ServiceItem → ServiceItem) (s : State) : State :=
  eachIx 8 (fun i s => if s.svs.items[i].enabled then changeItem i down s else s) s

/-- A distance event at the SVS (R133). -/
def svsDistance (s : State) : State := countItems ServiceItem.downDistance s

/-- An engine-hour event at the SVS (R134). -/
def svsEngineHour (s : State) : State := countItems ServiceItem.downHours s

/-- A midnight event at the SVS (R135). -/
def svsMidnight (s : State) : State := countItems ServiceItem.downDays s

/-- Every remaining count set to its interval, absent where that is absent (R137, R138). -/
def ServiceItem.fullCounts (it : ServiceItem) : ServiceItem :=
  { it with
    remainingDistance := it.distanceDu.map fun n => (n : Int)
    remainingHours := it.hoursInterval.map fun n => (n : Int)
    remainingDays := it.daysInterval.map fun n => (n : Int) }

/-- The restore amount added to every last-service odometer (R139). -/
def svsRestore (r : Nat) (s : State) : State :=
  s.modSvs fun v => { v with items := mapAll (fun it =>
    { it with lastOdometer := it.lastOdometer.map fun o => (o + r) % Config.odometerModulus }) v.items }

/-- The SVS's copy of road source LIVE (R136). -/
def svsRoadLive (b : Bool) (s : State) : State := s.modSvs fun v => { v with roadLive := b }

/-- The SVS's copy of the power state (R136). -/
def svsPower (p : PowerState) (s : State) : State := s.modSvs fun v => { v with power := p }

/-- The SVS after a Line or Restart reset (R141): the copies cleared, each state decided afresh from the kept counts. -/
def Svs.reset (v : Svs) : Svs :=
  { power := .parked, roadLive := false, items := mapAll (fun it => { it with state := it.decided }) v.items }

end Sys2Proof.Machine
end

