-- ==== Sys2Proof/Machine/OpsGauges.lean ====
section
/-! DEFINITION. The Gauge Drive Unit: what a source gives, targets, motion, homing, sweep, parking and the refuel reload
(Chapter 2, R28 to R40). -/

namespace Sys2Proof.Machine

/-! ## Sources and targets -/

/-- The channel concerned of a channel source (Table 16), with the GDU's copy of the road source. -/
def GaugeView.concerned (v : GaugeView) : GaugeSource → Option ChannelIx
  | .roadSpeed => some v.roadSource.channel
  | .engineSpeed => some 1
  | .checkSpeed => some 4
  | .generalFreq => some 5
  | .slot _ | .fixed _ => none

/-- The average of a damping buffer, its remainder discarded toward zero (R32); an empty buffer gives no value. -/
def bufferValue (b : List Int) : Option Int := if b = [] then none else some (b.sum.tdiv b.length)

/-- What a table of points gives from a point onward (R30, R56). -/
def lookupFrom (v : Int) (p : Int × Nat) : List (Int × Nat) → Nat
  | [] => p.2
  | q :: rest =>
    if v ≤ p.1 then p.2
    else if v < q.1 then ((p.2 : Int) + (((q.2 : Int) - p.2) * (v - p.1)).tdiv (q.1 - p.1)).toNat
    else lookupFrom v q rest

/-- What a scale table (R30) or a tank table (R56) gives for a value. -/
def tableLookup (table : List (Int × Nat)) (v : Int) : Nat :=
  match table with
  | [] => 0
  | p :: rest => lookupFrom v p rest

/-- The target angle a gauge's source gives (R29, R30); none while a slot's buffer is empty. -/
def Gdu.sourceAngle (d : Gdu) (g : Gauge) : Option Nat :=
  match g.cfg.source with
  | .roadSpeed => some (tableLookup g.cfg.table d.view.roadSpeed)
  | .engineSpeed => some (tableLookup g.cfg.table d.view.engineSpeed)
  | .checkSpeed => some (tableLookup g.cfg.table d.view.checkSpeed)
  | .generalFreq => some (tableLookup g.cfg.table d.view.generalFreq)
  | .slot _ => (bufferValue g.buffer).map (tableLookup g.cfg.table)
  | .fixed arg => some (g.cfg.fullScale * arg / 255)

/-- The state a source calls for (R29, Table 16). -/
def Gdu.calledFor (d : Gdu) (src : GaugeSource) : NeedleState :=
  match src with
  | .fixed _ => .tracking
  | .slot n =>
    match d.slots[n].state with
    | .fresh => .tracking
    | .stale => .held
    | .lost | .never => .void
  | src =>
    match d.view.concerned src with
    | some ch => if d.view.channels[ch] = .fault then .held else .tracking
    | none => .tracking

/-- A needle goes to the state its source calls for, its target recomputed (R31). -/
def Gdu.goCalled (d : Gdu) (g : Gauge) : Gauge :=
  let g1 := { g with phase := none, homingLeft := none }
  match d.calledFor g.cfg.source with
  | .held => { g1 with state := .held, target := g.present.getD 0 }
  | .void => { g1 with state := .void, target := 0 }
  | _ => { g1 with state := .tracking, target := (d.sourceAngle g).getD g.target }

/-- A recomputation (R31): it touches TRACKING, HELD and VOID only. -/
def Gdu.recompute (d : Gdu) (g : Gauge) : Gauge :=
  match g.state with
  | .tracking | .held | .void => d.goCalled g
  | .rest | .homing | .sweep | .parking => g

/-- Every gauge whose source meets a test is recomputed. -/
def Gdu.recomputeWhere (test : GaugeSource → Bool) (d : Gdu) : Gdu :=
  { d with gauges := mapAll (fun g => if test g.cfg.source then d.recompute g else g) d.gauges }

/-! ## What reaches the gauges -/

/-- A value appended to a damping buffer of a given depth: the oldest is dropped when it is full (R32). -/
def bufferPush (depth : Nat) (b : List Int) (v : Int) : List Int :=
  if b.length < depth then b ++ [v] else b.tail ++ [v]

/-- The damping buffers of the gauges bound to a slot are changed, and their targets recomputed. -/
def Gdu.withBuffers (n : SlotIx) (f : Gauge → List Int) (d : Gdu) : Gdu :=
  let feed := fun (g : Gauge) => if g.cfg.source = .slot n then { g with buffer := f g } else g
  Gdu.recomputeWhere (fun src => src = .slot n) { d with gauges := mapAll feed d.gauges }

/-- The gauges take a report to a slot (R25, R32). -/
def gduReport (n : SlotIx) (s : State) : State :=
  s.modGdu fun d => d.withBuffers n fun g => bufferPush g.cfg.damping g.buffer d.slots[n].value

/-- The gauges take a change of a slot's state (R25); a slot that goes LOST empties their buffers (R32). -/
def gduSlotState (n : SlotIx) (s : State) : State :=
  s.modGdu fun d => d.withBuffers n fun g => if d.slots[n].state = .lost then [] else g.buffer

/-- A refuel event at the GDU (R39): the buffers of the gauges on the TAU's fuel slot are filled with its value. -/
def gduRefuel (s : State) : State :=
  match s.tau.fuel.slot with
  | some n => s.modGdu fun d => d.withBuffers n fun g => List.replicate g.cfg.damping d.slots[n].value
  | none => s

/-- The gauges take a change of a channel's state (R29, R31): a channel that goes STILL or OFF gives 0 at once. -/
def gduChannel (ch : ChannelIx) (st : ChannelState) (s : State) : State :=
  s.modGdu fun d =>
    let quiet : Bool := st = .still ∨ st = .off
    let v := d.view
    let d1 := { d with view := { v with
      channels := v.channels.set ch st
      engineSpeed := if quiet ∧ ch = 1 then 0 else v.engineSpeed
      checkSpeed := if quiet ∧ ch = 4 then 0 else v.checkSpeed
      generalFreq := if quiet ∧ ch = 5 then 0 else v.generalFreq
      roadSpeed := if quiet ∧ ch = v.roadSource.channel then 0 else v.roadSpeed } }
    d1.recomputeWhere fun src => d1.view.concerned src = some ch

/-- The gauges take a window result (R29, R31). -/
def gduWindow (snap : Snapshot) (s : State) : State :=
  s.modGdu fun d =>
    let d1 := { d with view := { d.view with
      roadSpeed := snap.roadSpeed, engineSpeed := snap.engineSpeed, checkSpeed := snap.checkSpeed,
      generalFreq := snap.freqs[5], roadSource := snap.roadSource } }
    d1.recomputeWhere fun src => (d1.view.concerned src).isSome

/-! ## Motion -/

/-- The parking ends when every needle of known position has reached 0 (R38): each becomes REST and a PARKED notice is
queued. -/
def endParking (s : State) : State :=
  if s.gdu.parking ∧ s.gdu.gauges.toList.all (fun g => g.present = none ∨ g.present = some 0) then
    (s.modGdu fun d => { d with
      parking := false
      gauges := mapAll (fun g => if g.present.isSome then { g with state := .rest } else g) d.gauges }).notify
      (.gauge .parked)
  else s

/-- The sweep ends when every sweeping needle waits (R37): each goes to the state its source calls for and a SWEPT notice
is queued. -/
def endSweep (s : State) : State :=
  if s.gdu.gauges.toList.any (fun g => g.state = .sweep) ∧
      s.gdu.gauges.toList.all (fun g => g.state ≠ .sweep ∨ g.phase = some .wait) then
    (s.modGdu fun d =>
      { d with gauges := mapAll (fun g => if g.state = .sweep then d.goCalled g else g) d.gauges }).notify
      (.gauge .swept)
  else s

/-- One angle step toward the target (R33). -/
def stepToward (a target : Nat) : Nat := if a < target then a + 1 else if target < a then a - 1 else a

/-- The sweep phase follows the angle (R37): full scale turns UP into DOWN, 0 turns DOWN into WAIT. -/
def Gauge.turnSweep (g : Gauge) : Gauge :=
  if g.phase = some .up ∧ g.present = some g.cfg.fullScale then { g with phase := some .down, target := 0 }
  else if g.phase = some .down ∧ g.present = some 0 then { g with phase := some .wait, target := 0 }
  else g

/-- Whether a needle is driven by steps: TRACKING, VOID, SWEEP or PARKING, outside CRANK (R33). -/
def Gdu.drives (d : Gdu) (g : Gauge) : Bool :=
  d.power ≠ .crank ∧ (g.state = .tracking ∨ g.state = .void ∨ g.state = .sweep ∨ g.state = .parking)

/-- One step of a needle (R33), with the end of a sweep or of the parking it may bring (R37, R38). -/
def needleStep (g : GaugeIx) (s : State) : State :=
  let gauge := s.gdu.gauges[g]
  match gauge.present with
  | some a =>
    if s.gdu.drives gauge ∧ a ≠ gauge.target then
      endParking (endSweep (s.modGauge g fun x =>
        { x with present := some (stepToward a x.target) }.turnSweep))
    else s
  | none => s

/-- A needle's homing time runs out (R36); it does not count down in CRANK (R34). The last one queues HOMED. -/
def homingEnd (g : GaugeIx) (s : State) : State :=
  if s.gdu.gauges[g].state = .homing ∧ s.gdu.power ≠ .crank then
    let s1 := s.modGdu fun d =>
      { d with gauges := updAt d.gauges g fun x => d.goCalled { x with present := some 0 } }
    if s1.gdu.gauges.toList.any (fun x => x.state = .homing) then s1 else s1.notify (.gauge .homed)
  else s

/-- A sweep begins on every gauge (R37); a needle at its full scale already enters DOWN at once. -/
def startSweep (s : State) : State :=
  s.modGdu fun d => { d with gauges := mapAll (fun g =>
    { g with state := .sweep, phase := some .up, target := g.cfg.fullScale }.turnSweep) d.gauges }

/-! ## Power states and resets -/

/-- A gauge at Run entry (R35): to its source's state when its position is known, else HOMING for 1.1 × full scale step
intervals. -/
def Gdu.runGauge (d : Gdu) (g : Gauge) : Gauge :=
  if g.present.isSome then d.goCalled g
  else { g with state := .homing, phase := none, homingLeft := some (11 * g.cfg.fullScale), target := 0 }

/-- Run entry at the GDU (R35). -/
def gduRunEntry (s : State) : State :=
  s.modGdu fun d => { d with power := .run, parking := false, gauges := mapAll d.runGauge d.gauges }

/-- Parked entry at the GDU (R38). The road source copy returns to CH0 with the PCU's (R16, log 11). -/
def gduParkedEntry (s : State) : State :=
  endParking (s.modGdu fun d => { d with
    power := .parked
    parking := true
    gauges := mapAll (fun g => { g with state := .parking, phase := none, homingLeft := none, target := 0 }) d.gauges
    view := { d.view with
      roadSource := .ch0
      roadSpeed := if d.view.roadSource = .ch0 then d.view.roadSpeed else 0 } })

/-- CRANK begins or ends by a return to RUN (R34): no needle moves meanwhile. -/
def gduCrank (p : PowerState) (s : State) : State := s.modGdu fun d => { d with power := p }

/-- A slot after a reset (R23). -/
def Slot.reset (x : Slot) : Slot := { x with value := 0, state := .never, staleTimer := none, lostTimer := none }

/-- The GDU after a Line or Restart reset (R40). -/
def Gdu.reset (d : Gdu) : Gdu :=
  { power := .parked
    slots := mapAll Slot.reset d.slots
    gauges := mapAll (fun g => Gauge.unknown g.cfg) d.gauges
    parking := false
    view := GaugeView.idle }

end Sys2Proof.Machine
end

