-- ==== Sys2Proof/Machine/OpsTrips.lean ====
section
/-! DEFINITION. The Trip Accumulator Unit: counting, trips, the economy ring, range, destination and refuel detection
(Chapter 3). -/

namespace Sys2Proof.Machine

/-! ## Derived values -/

/-- The fuel amount of a fuel slot value (R56). -/
def Tau.fuelAmount (u : Tau) (value : Int) : Nat := tableLookup u.fuel.tank value

/-- Σdistance over the closed buckets. -/
def Tau.sumDistance (u : Tau) : Nat := (u.ring.map fun b => b.distance).sum

/-- Σfuel over the closed buckets. -/
def Tau.sumFuel (u : Tau) : Nat := (u.ring.map fun b => b.fuel).sum

/-- Σseconds over the closed buckets. -/
def Tau.sumSeconds (u : Tau) : Nat := (u.ring.map fun b => b.seconds).sum

/-- The slot the fuel options name, when it is FRESH: its value (R57, R60). -/
def freshFuelValue (s : State) : Option Int :=
  s.tau.fuel.slot.bind fun n => if s.gdu.slots[n].state = .fresh then some s.gdu.slots[n].value else none

/-- The range as the records give it (R57). -/
def computedRange (s : State) : Option Nat :=
  match freshFuelValue s with
  | some v =>
    if s.tau.ring.length < Config.minBuckets ∨ s.tau.sumFuel = 0 then none
    else some (min (s.tau.fuelAmount v * s.tau.sumDistance / s.tau.sumFuel) Config.maxRange)
  | none => none

/-- The range is recomputed; a change is handed to the WTB (R57). -/
def recomputeRange (s : State) : State :=
  if computedRange s = s.tau.range then s
  else wtbRange (computedRange s) (s.modTau fun u => { u with range := computedRange s })

/-- The level-at-stop taken now (R60): the fuel amount of the fuel slot while it is present and FRESH. -/
def takeLevel (s : State) : State :=
  s.modTau fun u => { u with levelAtStop := (freshFuelValue s).map s.tau.fuelAmount }

/-- The recent economy (R64). -/
def Tau.recentEconomy (u : Tau) : Option Nat :=
  if u.ring.length < Config.minBuckets ∨ u.sumFuel = 0 then none
  else some (min (u.sumDistance * 1000 / u.sumFuel) 65534)

/-- The ETA, hour and minute (R59). -/
def eta (u : Tau) (c : Clk) : Option (Nat × Nat) :=
  match u.destination with
  | some d =>
    let travel := d * u.sumSeconds / u.sumDistance
    if c.state = .unset ∨ u.ring.length < Config.minBuckets ∨ u.sumDistance = 0 ∨ 86400 ≤ travel then none
    else
      let t := (c.time.hour * 3600 + c.time.minute * 60 + c.time.second + travel) % 86400
      some (t / 3600, t % 3600 / 60)
  | none => none

/-- A trip's average speed (R54). -/
def Trip.averageSpeed (t : Trip) : Option Nat :=
  if t.running = 0 then none else some (min (t.distance * 3600 / t.running) 2550)

/-- A trip's economy (R54). -/
def Trip.economy (t : Trip) : Option Nat := if t.fuel = 0 then none else some (min (t.distance * 1000 / t.fuel) 65534)

/-! ## The economy ring -/

/-- A closed bucket appended to the ring; the oldest is dropped when it held 16 (R55). -/
def ringPush (ring : List Bucket) (b : Bucket) : List Bucket :=
  if ring.length < Config.ringSize then ring ++ [b] else ring.tail ++ [b]

/-- The ring is emptied (R55), the range recomputed (R57) and DESTINATION handed (R65). No rule orders the last two: that a
changed range reaches the WTB, which may mark REAR_WARNINGS, before DESTINATION is marked is the model's choice
(log 34). -/
def emptyRing (s : State) : State :=
  mark .destination (recomputeRange (s.modTau fun u => { u with ring := [], bucket := Bucket.zero }))

/-- The open bucket takes a distance unit; at the bucket length it closes (R48, R55). -/
def bucketDistance (s : State) : State :=
  let b := { s.tau.bucket with distance := s.tau.bucket.distance + 1 }
  if b.distance < s.tau.fuel.bucketLength then s.modTau fun u => { u with bucket := b }
  else mark .destination (recomputeRange
    (s.modTau fun u => { u with ring := ringPush u.ring b, bucket := Bucket.zero }))

/-! ## Trips -/

/-- A count raised by one, saturating. -/
def countUp (limit n : Nat) : Nat := min (n + 1) limit

/-- A count just brought to its maximum (R53). -/
def justSaturated (limit old new : Nat) : Bool := old < limit && new = limit

/-- The TRIP notice of a trip (R47, R53). -/
def tripNotice (t : TripIx) (what : TripWhat) (s : State) : State := s.notify (.trip t.castSucc what)

/-- An OPEN trip takes a distance unit (R48, R53); a change of T3's distance is handed (R65). -/
def tripDistance (t : TripIx) (s : State) : State :=
  let r := s.tau.trips[t]
  let d := countUp Config.maxTripDistance r.distance
  if r.state = .open ∧ d ≠ r.distance then
    let s1 := s.modTrip t fun x => { x with distance := d }
    let s2 := if t = 3 then mark .passengerTrip s1 else s1
    if justSaturated Config.maxTripDistance r.distance d then tripNotice t .saturated s2 else s2
  else s

/-- An OPEN trip takes a fuel unit (R49, R53). -/
def tripFuel (t : TripIx) (s : State) : State :=
  let r := s.tau.trips[t]
  let f := countUp Config.maxFuel r.fuel
  if r.state = .open then
    let s1 := s.modTrip t fun x => { x with fuel := f }
    if justSaturated Config.maxFuel r.fuel f then tripNotice t .saturated s1 else s1
  else s

/-- An OPEN trip takes a second of RUN or CRANK (R51, R53); a change of T3's running minutes is handed (R65). -/
def tripSecond (t : TripIx) (s : State) : State :=
  let r := s.tau.trips[t]
  let n := countUp Config.maxSeconds r.running
  if r.state = .open then
    let s1 := s.modTrip t fun x => { x with
      running := n, moving := if s.tau.roadLive then countUp Config.maxSeconds x.moving else x.moving }
    let s2 := if t = 3 ∧ n / 60 ≠ r.running / 60 then mark .passengerTrip s1 else s1
    if justSaturated Config.maxSeconds r.running n then tripNotice t .saturated s2 else s2
  else s

/-- The start date a reset takes: the clock's, while it is SET (R47). -/
def Clk.startDate (c : Clk) : Option StartDate :=
  match c.state with
  | .set => some { year := c.time.year, month := c.time.month, day := c.time.day, hour := c.time.hour,
                   minute := c.time.minute }
  | .unset => none

/-- A reset of a trip (R47); each reset of T3 is handed (R65). -/
def resetTrip (t : TripIx) (by_ : ResetBy) (s : State) : State :=
  let s1 := s.modTrip t fun _ =>
    { state := .open, distance := 0, fuel := 0, running := 0, moving := 0, maxSpeed := 0,
      startOdometer := s.tau.odometer, startDate := s.clk.startDate, resetBy := some by_ }
  if t = 3 then mark .passengerTrip s1 else s1

/-! ## Events from the PCU -/

/-- The odometer takes a distance unit (R43, R48). -/
def odometerUnit (s : State) : State :=
  s.modTau fun u => { u with
    odometer := (u.odometer + 1) % Config.odometerModulus
    accInvalid := if u.odometerState = .invalid then countUp 9999999 u.accInvalid else u.accInvalid }

/-- The destination takes a distance unit (R48, R58): arrival at 0. No rule orders the DESTINATION mark (R65) against the
ARRIVAL handed to the WTB (R58), which may mark REAR_WARNINGS: that DESTINATION goes first is the model's choice
(log 34). -/
def destinationUnit (s : State) : State :=
  match s.tau.destination with
  | some d =>
    if d ≤ 1 then
      (wtbArrival (mark .destination (s.modTau fun u => { u with destination := none }))).notify (.trip 4 .arrival)
    else mark .destination (s.modTau fun u => { u with destination := some (d - 1) })
  | none => s

/-- A distance unit event at the TAU (R48). The order of the trips, T0 first, is the model's choice (log 33). -/
def tauDistance (s : State) : State :=
  svsDistance (destinationUnit (bucketDistance (eachIx 4 tripDistance (odometerUnit s))))

/-- A fuel unit event at the TAU (R49), T0 first (log 33). -/
def tauFuel (s : State) : State :=
  (eachIx 4 tripFuel s).modTau fun u => { u with bucket := { u.bucket with fuel := countUp Config.maxFuel u.bucket.fuel } }

/-- A window result at the TAU (R52). -/
def tauWindow (roadSpeed : Nat) (s : State) : State :=
  s.modTau fun u => { u with trips := mapAll (fun t =>
    if t.state = .open then { t with maxSpeed := max t.maxSpeed roadSpeed } else t) u.trips }

/-- Engine running handed to the TAU (R50). -/
def tauEngine (b : Bool) (s : State) : State := s.modTau fun u => { u with engineRunning := b }

/-- Road source LIVE handed to the TAU: its fall takes the level-at-stop (R60). -/
def tauRoadLive (b : Bool) (s : State) : State :=
  let s1 := s.modTau fun u => { u with roadLive := b }
  if s.tau.roadLive ∧ ¬ b then takeLevel s1 else s1

/-! ## Second events -/

/-- The engine hours take a second (R50). -/
def engineSecond (s : State) : State :=
  if s.tau.engineRunning then
    if s.tau.engineResidue + 1 < Config.engineTenth then
      s.modTau fun u => { u with engineResidue := u.engineResidue + 1 }
    else svsEngineHour
      (s.modTau fun u => { u with engineResidue := 0, engineHours := countUp Config.maxEngineHours u.engineHours })
  else s

/-- A second event at the TAU (R50, R51), T0 first (log 33). Which of the two rules acts first, and so whether a SERVICE
notice of the engine hours (R134) or a TRIP notice of the trips' seconds (R53) is queued first, the spec leaves open; the
model takes the engine hours first (log 34). -/
def tauSecond (s : State) : State :=
  let s1 := engineSecond s
  if s.tau.power = .parked then s1
  else (eachIx 4 tripSecond s1).modTau fun u =>
    { u with bucket := { u.bucket with seconds := countUp 65535 u.bucket.seconds } }

/-! ## Reports to the fuel slot -/

/-- A refuel event (R61). -/
def refuel (before after : Nat) (s : State) : State :=
  gduRefuel ((tripNotice 2 .reset (resetTrip 2 .auto s)).notify (.refuel before after))

/-- A report to the fuel slot is tested (R61): only with road source LIVE false and a level-at-stop present. -/
def testRefuel (amount : Nat) (s : State) : State :=
  match s.tau.levelAtStop with
  | some l =>
    if s.tau.roadLive then s
    else
      (if l + s.tau.fuel.threshold ≤ amount then refuel l amount s else s).modTau fun u =>
        { u with levelAtStop := some amount }
  | none => s

/-- A report to a slot at the TAU (R25, R57, R61). Whether the refuel's TRIP and REFUEL notices (R61) come before what the
range change brings about at the WTB (R57), the spec leaves open; the model tests for the refuel first (log 34). -/
def tauReport (n : SlotIx) (s : State) : State :=
  if s.tau.fuel.slot = some n then recomputeRange (testRefuel (s.tau.fuelAmount s.gdu.slots[n].value) s) else s

/-- A change of a slot's state at the TAU (R25, R57). -/
def tauSlotState (n : SlotIx) (s : State) : State := if s.tau.fuel.slot = some n then recomputeRange s else s

/-- The TAU's copy of the power state (R62). -/
def tauPower (p : PowerState) (s : State) : State := s.modTau fun u => { u with power := p }

/-- The TAU after a Line or Restart reset (R63): its records kept, its copies cleared, the range absent, since every slot
is NEVER. -/
def Tau.reset (u : Tau) : Tau := { u with power := .parked, engineRunning := false, roadLive := false, range := none }

end Sys2Proof.Machine
end

