-- ==== Sys2Proof/Machine/OpsClock.lean ====
section
/-! DEFINITION. The Calendar Clock: the calendar, the second boundary and its events, sets of the clock, and alarms
(Chapter 4). -/

namespace Sys2Proof.Machine

/-! ## Calendar -/

/-- The days of a month (R66): every fourth year is a leap year over 1980 to 2079. -/
def daysInMonth (year month : Nat) : Nat :=
  if month = 2 then if year % 4 = 0 then 29 else 28
  else if month = 4 ∨ month = 6 ∨ month = 9 ∨ month = 11 then 30
  else 31

/-- The days of a year before a month. -/
def daysBefore (year month : Nat) : Nat := ((List.range (month - 1)).map fun m => daysInMonth year (m + 1)).sum

/-- The weekday of the date, 0 Sunday (R66): 1980-01-01 is a Tuesday. -/
def ClockTime.weekday (t : ClockTime) : Nat :=
  (2 + 365 * (t.year - 1980) + (t.year - 1980 + 3) / 4 + daysBefore t.year t.month + (t.day - 1)) % 7

/-- The checks of R73 on clock fields. -/
def ClockTime.valid (t : ClockTime) : Bool :=
  1980 ≤ t.year && t.year ≤ 2079 && 1 ≤ t.month && t.month ≤ 12 && 1 ≤ t.day && t.day ≤ daysInMonth t.year t.month &&
    t.hour ≤ 23 && t.minute ≤ 59 && t.second ≤ 59

/-- The time one second later with every carry (R68); the end of 2079 gives 1980-01-01 00:00:00. -/
def ClockTime.tick (t : ClockTime) : ClockTime :=
  if t.second < 59 then { t with second := t.second + 1 }
  else if t.minute < 59 then { t with second := 0, minute := t.minute + 1 }
  else if t.hour < 23 then { t with second := 0, minute := 0, hour := t.hour + 1 }
  else if t.day < daysInMonth t.year t.month then { t with second := 0, minute := 0, hour := 0, day := t.day + 1 }
  else if t.month < 12 then { t with second := 0, minute := 0, hour := 0, day := 1, month := t.month + 1 }
  else if t.year < 2079 then { t with second := 0, minute := 0, hour := 0, day := 1, month := 1, year := t.year + 1 }
  else ClockTime.epoch

/-- Whether the boundary after this time carries the year past 2079 (R68). -/
def ClockTime.lastSecond (t : ClockTime) : Bool :=
  t.second = 59 && t.minute = 59 && t.hour = 23 && t.day = 31 && t.month = 12 && t.year = 2079

/-- The length of a second in crystal microseconds (R67): 1 − 2t × 10⁻⁶ seconds of the crystal. -/
def trimmedSecond (trim : Int) : Nat := (1000000 - 2 * trim).toNat

/-! ## Clock state -/

/-- The LKP's copy of the clock state, shown by the clock-unset marker (R72, R192). -/
def lkpClock (c : ClockState) (s : State) : State := s.modLkp fun l => { l with clockUnset := c = .unset }

/-- The LKP's copy of the odometer state, shown by the odometer-invalid marker (R43, R192). -/
def lkpOdometer (o : OdometerState) (s : State) : State := s.modLkp fun l => { l with odometerInvalid := o = .invalid }

/-- A change of the clock state is handed (R72). -/
def handClockState (c : ClockState) (s : State) : State := wtbClock c (lkpClock c s)

/-- An accepted set of the clock (R73, R74, R76): the fields, a second begun afresh, SET, and the CLOCK mark. Whether a
second begun afresh before the boundary that R67 has a new trim wait for is of that new trim, the spec leaves open; the
model begins it with the present trim (log 29). -/
def setClockTo (t : ClockTime) (s : State) : State :=
  let s1 := s.modClk fun c => { c with time := t, state := .set, secondLength := trimmedSecond c.trim }
  let s2 := if s.clk.state = .unset then handClockState .set s1 else s1
  mark .clock s2

/-! ## Alarms -/

/-- Whether an alarm matches a minute event (R78). -/
def Alarm.isDue (a : Alarm) (t : ClockTime) : Bool :=
  a.enabled && a.hour = t.hour && a.minute = t.minute && (a.dayMask = 0 || a.dayMask.getLsbD t.weekday)

/-- An accepted change of A2 or A3 marks ALARMS_REAR (R77). -/
def markAlarm (a : AlarmIx) (s : State) : State := if 2 ≤ a.val then mark .alarmsRear s else s

/-- A match of an alarm (R79). -/
def alarmMatch (a : AlarmIx) (s : State) : State :=
  let al := s.clk.alarms[a]
  let s1 := ((takeChime (alarmRequest s.chs a al) s).1).notify (.alarm a)
  if al.rep = .once then markAlarm a (s1.modAlarm a fun x => { x with enabled := false }) else s1

/-- A minute event at the alarm table with the clock SET (R78, R79): A0 first. -/
def testAlarms (t : ClockTime) (s : State) : State :=
  eachIx 4 (fun a s => if s.clk.alarms[a].isDue t then alarmMatch a s else s) s

/-- An alarm's record is changed by SET ALARM or a rear alarm set (R80, R81): its chime request is removed. -/
def changeAlarm (a : AlarmIx) (f : Alarm → Alarm) (s : State) : State :=
  markAlarm a (removeChime (.alarm a) (s.modAlarm a f))

/-! ## Second boundary -/

/-- What each block takes of a second boundary that ends at `t` (R69, R70, R72). -/
def takeSecond (t : ClockTime) (state : ClockState) (rollover : Bool) (b : Block) (s : State) : State :=
  match b with
  | .tau => tauSecond s
  | .clk => if t.second = 0 ∧ state = .set then testAlarms t s else s
  | .clc => if t.second = 0 then mark .clock s else s
  | .svs => if t.hour = 0 ∧ t.minute = 0 ∧ t.second = 0 ∧ state = .set then svsMidnight s else s
  | .wtb => if rollover then wtbClock state s else s
  | .lkp => if rollover then lkpClock state s else s
  | .pcu | .gdu | .chs => s

/-- A second boundary (R67, R68, R69, R70): the clock advances with all its carries, and each block takes its event. -/
def secondBoundary (s : State) : State :=
  let t := s.clk.time.tick
  let st : ClockState := if s.clk.time.lastSecond then .unset else s.clk.state
  hand [.tau, .clk, .clc, .svs, .wtb, .lkp] (takeSecond t st (st ≠ s.clk.state))
    (s.modClk fun c => { c with time := t, state := st, secondLength := trimmedSecond c.trim })

end Sys2Proof.Machine
end

