-- ==== Sys2Proof/Machine/OpsInputs.lean ====
section
/-! DEFINITION. One tick of the samplers and filters ahead of the blocks, and the commands it brings about (R1, R84, R169,
R170, R171). -/

namespace Sys2Proof.Machine

/-! ## The commands of a tick -/

/-- A filtered active edge of a channel (R1): its new sample changes the majority in the direction of its polarity. -/
def pulseCommand (tick : Nat) (raw : RawLines) (s : State) (ch : ChannelIx) : List Instr :=
  let c := s.pcu.channels[ch]
  let x := s.inputs.pulses[ch]
  if c.sampledAt tick && c.cfg.polarity.isActive x.level (x.push raw.pulses[ch]).level then
    [.pulseEdge ch (instantOf tick)]
  else []

/-- A change of a switch's filtered level (R84). -/
def switchCommand (tick : Nat) (raw : RawLines) (s : State) (n : SwitchIx) : List Instr :=
  if switchesSampledAt tick && (s.inputs.switches[n].push raw.lines.switches[n]).level != s.wtb.switches[n].level then
    [.switchChange n]
  else []

/-- A change of the filtered IGN level (R169): IGN on or IGN off. -/
def ignCommand (raw : RawLines) (s : State) : List Instr :=
  if holdEnds ignHold (raw.lines.ign != s.igs.ign) s.inputs.ignFor then
    if raw.lines.ign then [.runEntry] else [.parkedEntry]
  else []

/-- A change of the filtered CRANK level (R170). -/
def crankCommand (raw : RawLines) (s : State) : List Instr :=
  if holdEnds crankHold (raw.lines.crank != s.igs.crank) s.inputs.crankFor then
    if raw.lines.crank then [.crankOn] else [.crankOff]
  else []

/-- A low on RESET that could still make a Line reset (R171): one taken already, or seen with a Supply reset, does not. -/
def resetLow (raw : RawLines) (s : State) : Bool := s.igs.resetArmed && !raw.lines.reset

/-- RESET (R171): a low of 1 ms is a Line reset; a high after a low that was taken re-arms the next. -/
def resetCommand (raw : RawLines) (s : State) : List Instr :=
  if holdEnds resetHold (resetLow raw s) s.inputs.resetFor then [.lineReset raw.lines]
  else if raw.lines.reset && !s.igs.resetArmed then [.resetLineHigh]
  else []

/-- Every command of a tick: CH0 first, then S0, then IGN, CRANK and RESET. The spec gives events of one instant no order
(log 26). -/
def tickCommands (tick : Nat) (raw : RawLines) (s : State) : List Instr :=
  (List.finRange 6).flatMap (pulseCommand tick raw s) ++ (List.finRange 8).flatMap (switchCommand tick raw s) ++
    ignCommand raw s ++ crankCommand raw s ++ resetCommand raw s

/-! ## The samplers -/

/-- The inputs after a tick: each input that is sampled takes its raw level, each held level is counted. -/
def tickInputs (tick : Nat) (raw : RawLines) (s : State) : Inputs :=
  { s.inputs with
    now := tick
    raw
    pulses := Vector.ofFn fun ch =>
      if s.pcu.channels[ch].sampledAt tick then s.inputs.pulses[ch].push raw.pulses[ch] else s.inputs.pulses[ch]
    switches := Vector.ofFn fun n =>
      if switchesSampledAt tick then s.inputs.switches[n].push raw.lines.switches[n] else s.inputs.switches[n]
    ignFor := holdNext ignHold (raw.lines.ign != s.igs.ign) s.inputs.ignFor
    crankFor := holdNext crankHold (raw.lines.crank != s.igs.crank) s.inputs.crankFor
    resetFor := holdNext resetHold (resetLow raw s) s.inputs.resetFor }

/-- One tick of 25 us in which the raw lines stand at these levels: the samplers take them, and the commands they bring
about wait behind those that wait already. A part without supply only sees the lines (R168). -/
def takeTick (raw : RawLines) (s : State) : State :=
  let tick := s.inputs.now + 1
  if s.igs.supplied then
    { s with inputs := tickInputs tick raw s, pending := s.pending ++ tickCommands tick raw s }
  else s.modInputs fun x => { x with now := tick, raw }

/-- The oldest tick that waits leaves the queue of ticks and is taken; with none waiting nothing happens (log 2). -/
def nextTick (s : State) : State :=
  match s.inputs.ticks with
  | [] => s
  | raw :: rest => takeTick raw (s.modInputs fun x => { x with ticks := rest })

end Sys2Proof.Machine
end

