-- ==== Sys2Proof/Machine/OpsPulse.lean ====
section
/-! DEFINITION. The Pulse Capture Unit: channel states, dividers, the measurement window, the cross-check and the road
source (Chapter 1). -/

namespace Sys2Proof.Machine

/-! ## Channel states and their handing -/

/-- Engine running (R5). -/
def Pcu.engineRunning (p : Pcu) : Bool := p.channels[1].state = .live

/-- Road source LIVE (R5). -/
def Pcu.roadLive (p : Pcu) : Bool := p.channels[p.roadSource.channel].state = .live

/-- The CLC takes road source LIVE; a change marks ROAD_SPEED (R5, Table 43). -/
def clcRoadLive (b : Bool) (s : State) : State :=
  if s.clc.roadLive = b then s else mark .roadSpeed (s.modClc fun c => { c with roadLive := b })

/-- What each block takes of a change of a channel's state (R5). -/
def takeChannel (ch : ChannelIx) (st : ChannelState) (engine road : Bool) (b : Block) (s : State) : State :=
  match b with
  | .gdu => gduChannel ch st s
  | .wtb => wtbChannel ch st engine road s
  | .tau => tauRoadLive road (tauEngine engine s)
  | .svs => svsRoadLive road s
  | .clc => clcRoadLive road s
  | .pcu | .clk | .chs | .lkp => s

/-- The speed-disagreement condition takes a value; a change is handed to the WTB (R15). -/
def setDisagree (b : Bool) (s : State) : State :=
  if s.pcu.disagree = b then s else wtbDisagree b (s.modPcu fun p => { p with disagree := b })

/-- CH0 or CH4 leaves LIVE: both disagreement counts become 0 and the condition clears (R15). -/
def leaveLive (s : State) : State :=
  setDisagree false (s.modPcu fun p => { p with cross := { p.cross with disagreeing := 0, agreeing := 0 } })

/-- A channel's record is changed; a change of its state is handed as it happens (R5). That the speed disagreement a channel
leaving LIVE ends (R15) clears before the change is handed is the model's choice (log 34). -/
def changeChannel (ch : ChannelIx) (f : Channel → Channel) (s : State) : State :=
  let old := s.pcu.channels[ch].state
  let s1 := s.modChannel ch f
  let new := s1.pcu.channels[ch].state
  if new = old then s1
  else
    let s2 := if old = .live ∧ (ch = 0 ∨ ch = 4) then leaveLive s1 else s1
    hand [.gdu, .wtb, .tau, .svs, .clc] (takeChannel ch new s2.pcu.engineRunning s2.pcu.roadLive) s2

/-- A channel goes STILL from LIVE or FAULT (R4): the edges counted in the window in progress are kept. -/
def Channel.enterStill (c : Channel) : Channel :=
  { c with state := .still, mode := .period, lastPeriod := none, latestEdge := none, lastFreq := 0, aboveMax := 0,
           atOrBelow := 0, stallTimer := none }

/-- A channel in STILL as at Run entry (R17), or OFF while it is disabled. -/
def Channel.restarted (cfg : ChannelConfig) : Channel :=
  { Channel.off cfg with state := if cfg.enabled then .still else .off }

/-! ## Edges and dividers -/

/-- The period an edge captures (R8): none for the first edge after STILL. -/
def Channel.edgePeriod (c : Channel) (at10us : Nat) : Option Nat :=
  match c.latestEdge with
  | some e => some (min (at10us - e) Config.maxPeriod)
  | none => c.lastPeriod

/-- A filtered active edge on a channel that is not OFF (R4, R8). -/
def Channel.edge (at10us : Nat) (c : Channel) : Channel :=
  { c with
    state := if c.state = .still then .live else c.state
    windowCount := countUp 65535 c.windowCount
    lastPeriod := c.edgePeriod at10us
    latestEdge := some at10us
    stallTimer := some c.cfg.stall }

/-- A completed unit of a divider counts when its channel is the road source and is not in FAULT (R13). -/
def Pcu.unitCounts (p : Pcu) (src : RoadSource) : Bool :=
  p.roadSource = src && p.channels[src.channel].state ≠ .fault

/-- The road divider takes an edge of CH0 (R13). -/
def roadEdge (s : State) : State :=
  if s.pcu.roadResidue + 1 < s.pcu.cal.kd then s.modPcu fun p => { p with roadResidue := p.roadResidue + 1 }
  else
    let s1 := s.modPcu fun p => { p with roadResidue := 0 }
    if s.pcu.unitCounts .ch0 then tauDistance s1 else s1

/-- The check divider takes an edge of CH4 (R13). -/
def checkEdge (s : State) : State :=
  if s.pcu.checkResidue + 1 < s.pcu.cal.kd2 then s.modPcu fun p => { p with checkResidue := p.checkResidue + 1 }
  else
    let s1 := s.modPcu fun p => { p with checkResidue := 0 }
    if s.pcu.unitCounts .ch4 then tauDistance s1 else s1

/-- The fuel-implausible condition takes a value; a change is handed to the WTB (R14). -/
def setImplausible (b : Bool) (s : State) : State :=
  if s.pcu.implausible = b then s else wtbImplausible b (s.modPcu fun p => { p with implausible := b })

/-- The fuel-implausible condition follows the residue (R14): set at −Kf, cleared at 0 or above. -/
def followImplausible (s : State) : State :=
  if s.pcu.fuelResidue = -(s.pcu.cal.kf : Int) then setImplausible true s
  else if 0 ≤ s.pcu.fuelResidue then setImplausible false s
  else s

/-- The net fuel divider takes a supply edge (R14). -/
def supplyEdge (s : State) : State :=
  let r := s.pcu.fuelResidue + 1
  followImplausible
    (if (s.pcu.cal.kf : Int) ≤ r then tauFuel (s.modPcu fun p => { p with fuelResidue := r - p.cal.kf })
     else s.modPcu fun p => { p with fuelResidue := r })

/-- The net fuel divider takes a return edge (R14): at −Kf it is not counted. -/
def returnEdge (s : State) : State :=
  followImplausible (s.modPcu fun p => { p with fuelResidue := max (p.fuelResidue - 1) (-(p.cal.kf : Int)) })

/-- Where a channel's edges go beside the window count (Table 6). -/
def dividerEdge (ch : ChannelIx) (s : State) : State :=
  match ch with
  | 0 => roadEdge s
  | 1 => s
  | 2 => supplyEdge s
  | 3 => returnEdge s
  | 4 => checkEdge s
  | 5 => s

/-- A filtered active edge (R4, R13, R14); an OFF channel yields none (R1). That a change of the channel's state is handed
before the unit the edge may complete is the model's choice (log 34). -/
def pulseEdge (ch : ChannelIx) (at10us : Nat) (s : State) : State :=
  if s.pcu.channels[ch].state = .off then s else dividerEdge ch (changeChannel ch (Channel.edge at10us) s)

/-- The stall timer of a channel expires (R4). -/
def stallExpiry (ch : ChannelIx) (s : State) : State :=
  if s.pcu.channels[ch].stallTimer.isSome then changeChannel ch Channel.enterStill s else s

/-! ## The measurement window -/

/-- The frequency a PERIOD-mode channel closes (R8). The frequency for a period of 0 is a free value (log 4). -/
def Channel.periodFrequency (c : Channel) (at10us zeroPeriod : Nat) : Nat :=
  match c.lastPeriod with
  | none => 0
  | some p =>
    let used := max p (at10us - c.latestEdge.getD at10us)
    if used = 0 then min zeroPeriod Config.maxFrequency else min (1000000 / used) Config.maxFrequency

/-- The frequency a channel closes at a window expiry (R6, R7, R8). -/
def Channel.closedFrequency (c : Channel) (window : WindowLength) (at10us zeroPeriod : Nat) : Nat :=
  match c.state with
  | .off | .still => 0
  | .live | .fault =>
    match c.mode with
    | .count => min (c.windowCount * 10000 / window.ms) Config.maxFrequency
    | .period => c.periodFrequency at10us zeroPeriod

/-- The fault test (R4, Table 8). -/
def Channel.faultTest (f : Nat) (c : Channel) : Channel :=
  let above : Bool := c.cfg.maxFreq * 10 < f
  match c.state with
  | .off | .still => c
  | .live =>
    if above then
      if c.aboveMax + 1 < 2 then { c with aboveMax := c.aboveMax + 1 }
      else { c with aboveMax := 2, state := .fault, atOrBelow := 0 }
    else { c with aboveMax := 0 }
  | .fault =>
    if above then { c with atOrBelow := 0 }
    else if c.atOrBelow + 1 < 2 then { c with atOrBelow := c.atOrBelow + 1 }
    else { c with atOrBelow := 2, state := .live, aboveMax := 0 }

/-- The mode for the next window (R9). -/
def Channel.nextMode (c : Channel) (window : WindowLength) (f : Nat) : MeasuringMode :=
  match c.mode with
  | .count => if c.windowCount < 4 then .period else .count
  | .period => if 8 ≤ f * window.ms / 10000 then .count else .period

/-- A channel closes its window (R6). -/
def Channel.close (window : WindowLength) (f : Nat) (c : Channel) : Channel :=
  match c.state with
  | .off => c
  | .still | .live | .fault =>
    { c.faultTest f with lastFreq := f, mode := c.nextMode window f, windowCount := 0 }

/-- Every channel closes its window, CH0 first (log 33), its changes handed (R6). -/
def closeWindow (at10us : Nat) (s : State) : State :=
  eachIx 6 (fun ch s =>
    let c := s.pcu.channels[ch]
    let f := c.closedFrequency s.pcu.cal.window at10us (Config.zeroPeriodFrequency s.free.draws ch.val)
    changeChannel ch (Channel.close s.pcu.cal.window f) s) s

/-- A speed from a frequency and a divisor (R11). -/
def speedOf (f divisor : Nat) : Nat := min (f * 360 / divisor) Config.maxSpeed

/-- The speed of CH0 (R11). -/
def Pcu.speed0 (p : Pcu) : Nat := speedOf p.channels[0].lastFreq p.cal.kd

/-- The check speed (R11). -/
def Pcu.speed4 (p : Pcu) : Nat := speedOf p.channels[4].lastFreq p.cal.kd2

/-- The engine speed (R11). -/
def Pcu.engineSpeed (p : Pcu) : Nat := min (p.channels[1].lastFreq * 12 / p.cal.ke) Config.maxEngineSpeed

/-- The fuel rate (R11): 0 when the difference is negative. -/
def Pcu.fuelRate (p : Pcu) : Nat :=
  min ((p.channels[2].lastFreq - p.channels[3].lastFreq) * 360 / p.cal.kf) 65535

/-- CH0 and CH4 are both LIVE (R15). -/
def Pcu.bothLive (p : Pcu) : Bool := p.channels[0].state = .live && p.channels[4].state = .live

/-- The two speeds differ by at most s0 ÷ 8 (R15). -/
def Pcu.speedsAgree (p : Pcu) : Bool :=
  max p.speed0 p.speed4 - min p.speed0 p.speed4 ≤ p.speed0 / 8

/-- The disagreement test of a window (R15). -/
def disagreeTest (s : State) : State :=
  let p := s.pcu
  if !p.bothLive then s.modPcu fun p => { p with cross := { p.cross with disagreeing := 0, agreeing := 0 } }
  else if p.speedsAgree then
    let n := countUp 3 p.cross.agreeing
    let s1 := s.modPcu fun p => { p with cross := { p.cross with disagreeing := 0, agreeing := n } }
    if n = 3 then setDisagree false s1 else s1
  else
    let n := countUp 3 p.cross.disagreeing
    let s1 := s.modPcu fun p => { p with cross := { p.cross with agreeing := 0, disagreeing := n } }
    if n = 3 then setDisagree true s1 else s1

/-- A fallback window (R16). -/
def Pcu.fallbackWindow (p : Pcu) : Bool :=
  p.channels[0].state ≠ .live && p.channels[4].state = .live && 50 < p.speed4

/-- A return window (R16). -/
def Pcu.returnWindow (p : Pcu) : Bool :=
  p.channels[0].state = .live && (p.channels[4].state ≠ .live || p.speedsAgree)

/-- The fallback or the return test of a window (R16). -/
def Pcu.sourceTest (p : Pcu) : Pcu :=
  match p.roadSource with
  | .ch0 =>
    if !p.fallbackWindow then { p with cross := { p.cross with fallback := 0 } }
    else if p.cross.fallback + 1 < 3 then { p with cross := { p.cross with fallback := p.cross.fallback + 1 } }
    else { p with roadSource := .ch4, cross := { p.cross with fallback := 0, returning := 0 } }
  | .ch4 =>
    if !p.returnWindow then { p with cross := { p.cross with returning := 0 } }
    else if p.cross.returning + 1 < 3 then { p with cross := { p.cross with returning := p.cross.returning + 1 } }
    else { p with roadSource := .ch0, cross := { p.cross with fallback := 0, returning := 0 } }

/-- The snapshot of a window expiry (R10, R11). -/
def Pcu.takeSnapshot (p : Pcu) : Snapshot :=
  { states := mapAll (fun c => c.state) p.channels
    freqs := mapAll (fun c => c.lastFreq) p.channels
    roadSpeed := match p.roadSource with | .ch0 => p.speed0 | .ch4 => p.speed4
    checkSpeed := p.speed4
    roadSource := p.roadSource
    engineSpeed := p.engineSpeed
    fuelRate := p.fuelRate
    disagree := p.disagree
    implausible := p.implausible }

/-- What each block takes when road source LIVE changes with the source alone (R5, R16). -/
def takeRoadLive (road : Bool) (b : Block) (s : State) : State :=
  match b with
  | .wtb => wtbRoadLive road s
  | .tau => tauRoadLive road s
  | .svs => svsRoadLive road s
  | .clc => clcRoadLive road s
  | .gdu | .pcu | .clk | .chs | .lkp => s

/-- What each block takes of a window result (R12). -/
def takeWindow (snap : Snapshot) (b : Block) (s : State) : State :=
  match b with
  | .gdu => gduWindow snap s
  | .wtb => wtbWindow snap s
  | .tau => tauWindow snap.roadSpeed s
  | .clc => mark .roadSpeed (s.modClc fun c => { c with roadSpeed := snap.roadSpeed })
  | .pcu | .clk | .chs | .svs | .lkp => s

/-- The source test, and the handing of road source LIVE when the source passed between channels in different states
(R16). -/
def moveSource (s : State) : State :=
  let s1 := s.modPcu Pcu.sourceTest
  if s1.pcu.roadLive = s.pcu.roadLive then s1
  else hand [.wtb, .tau, .svs, .clc] (takeRoadLive s1.pcu.roadLive) s1

/-- The snapshot is replaced and the window result handed (R10, R12). -/
def windowResult (s : State) : State :=
  let s1 := s.modPcu fun p => { p with snap := p.takeSnapshot }
  hand [.gdu, .wtb, .tau, .clc] (takeWindow s1.pcu.snap) s1

/-- The gate timer expires (R6): the window closes and the next one starts. -/
def windowExpiry (at10us : Nat) (s : State) : State :=
  if s.pcu.gate.isSome then
    (windowResult (moveSource (disagreeTest (closeWindow at10us s)))).modPcu (fun p =>
      { p with gate := some p.cal.window.ms }) |>.modFree fun v => { v with draws := v.draws + 1 }
  else s

/-! ## Power states and resets -/

/-- Run entry at the PCU (R17): the samples of every channel that leaves OFF are loaded (R1). CH0 goes first (log 33),
after the speed disagreement (log 34). -/
def pcuRunEntry (s : State) : State :=
  let loaded := s.modInputs (Inputs.loadPulses fun ch => s.pcu.channels[ch].cfg.enabled)
  let s1 := setDisagree false (loaded.modPcu fun p => { p with
    power := .run, gate := some p.cal.window.ms, roadSource := .ch0, cross := CrossCheck.zero })
  eachIx 6 (fun ch s => changeChannel ch (fun c => Channel.restarted c.cfg) s) s1

/-- Parked entry at the PCU (R18), CH0 first (log 33), after the speed disagreement (log 34). -/
def pcuParkedEntry (s : State) : State :=
  let s1 := setDisagree false (s.modPcu fun p => { p with
    power := .parked, gate := none, roadSource := .ch0, cross := CrossCheck.zero, snap := Snapshot.idle })
  eachIx 6 (fun ch s => changeChannel ch (fun c => Channel.off c.cfg) s) s1

/-- CRANK begins or ends by a return to RUN: nothing else changes in the PCU (R17). -/
def pcuCrank (p : PowerState) (s : State) : State := s.modPcu fun x => { x with power := p }

/-- The PCU after a Line or Restart reset (R19). -/
def Pcu.reset (p : Pcu) : Pcu :=
  { p with
    power := .parked
    channels := mapAll (fun c => Channel.off c.cfg) p.channels
    gate := none
    implausible := p.fuelResidue = -(p.cal.kf : Int)
    disagree := false
    roadSource := .ch0
    cross := CrossCheck.zero
    snap := Snapshot.idle }

end Sys2Proof.Machine
end

