-- ==== Sys2Proof/Machine/OpsReports.lean ====
section
/-! DEFINITION. Sensor reports and slot states, handed to the blocks that read the Sensor Report Table (R23 to R26). -/

namespace Sys2Proof.Machine

/-- The CLC marks OUTSIDE_TEMP when a slot is its configured outside slot (R25). -/
def clcSlot (n : SlotIx) (s : State) : State := if s.clc.outsideSlot = some n then mark .outsideTemp s else s

/-- What each block takes of a report to a slot (R25). -/
def takeReport (n : SlotIx) (b : Block) (s : State) : State :=
  match b with
  | .gdu => gduReport n s
  | .tau => tauReport n s
  | .wtb => wtbSlot n s.gdu.slots[n].state s.gdu.slots[n].value s
  | .clc => clcSlot n s
  | .pcu | .clk | .chs | .svs | .lkp => s

/-- What each block takes of a change of a slot's state (R25). -/
def takeSlotState (n : SlotIx) (b : Block) (s : State) : State :=
  match b with
  | .gdu => gduSlotState n s
  | .tau => tauSlotState n s
  | .wtb => wtbSlot n s.gdu.slots[n].state s.gdu.slots[n].value s
  | .clc => clcSlot n s
  | .pcu | .clk | .chs | .svs | .lkp => s

/-- A slot as a report leaves it (R24): the value written, FRESH, the stale timer started, the lost timer stopped. -/
def Slot.reported (value : Int) (x : Slot) : Slot :=
  { x with value, state := .fresh, staleTimer := some x.staleTime, lostTimer := none }

/-- A report to a slot (R24), handed to the blocks (R25). -/
def reportSlot (n : SlotIx) (value : Int) (s : State) : State :=
  hand [.gdu, .tau, .wtb, .clc] (takeReport n) (s.modSlot n (Slot.reported value))

/-- A slot's stale timer expires (R24). -/
def slotStaleExpiry (n : SlotIx) (s : State) : State :=
  if s.gdu.slots[n].state = .fresh ∧ s.gdu.slots[n].staleTimer.isSome then
    hand [.gdu, .tau, .wtb, .clc] (takeSlotState n)
      (s.modSlot n fun x => { x with state := .stale, staleTimer := none, lostTimer := some x.lostTime })
  else s

/-- A slot's lost timer expires (R24). -/
def slotLostExpiry (n : SlotIx) (s : State) : State :=
  if s.gdu.slots[n].state = .stale ∧ s.gdu.slots[n].lostTimer.isSome then
    hand [.gdu, .tau, .wtb, .clc] (takeSlotState n)
      (s.modSlot n fun x => { x with state := .lost, lostTimer := none })
  else s

end Sys2Proof.Machine
end

