-- ==== Sys2Proof/Machine/OpsCoach.lean ====
section
/-! DEFINITION. The Coach Line Controller: frames, answers, node states, rear events, the arbiter, contention, FAULT, the
Coach reset and pass-through (Chapter 8, R200, R201). -/

namespace Sys2Proof.Machine

/-! ## Frames -/

/-- The frame types the part sends (Table 67). -/
inductive CoachType where
  | poll | mirror | passRead | passWrite | sleep
  deriving DecidableEq, Repr

/-- The code of a frame type (Table 67). -/
def CoachType.code : CoachType → Nat
  | .poll => 0 | .mirror => 1 | .passRead => 2 | .passWrite => 3 | .sleep => 4

/-- The address that reaches every node (R144). -/
def broadcastAddress : Nat := 31

/-- A master frame (R144, R200): address character, length, data, check. Only the first has its mark bit set. -/
def masterFrame (address : Nat) (t : CoachType) (data : List Byte) : List Byte :=
  let tail := byteOf data.length :: data
  byteOf (address + 32 * t.code) :: tail ++ [checkByte tail]

/-- The mirror-rear entries that stand in ACTIVE, ACKED or RESOLVED, lowest first, with their states (Table 43). -/
def Wtb.rearStanding (t : Wtb) : List (EntryIx × EntryState) :=
  ((List.finRange 32).filter fun w => t.entries[w].cfg.mirrorRear && t.entries[w].state.standing).map fun w =>
    (w, t.entries[w].state)

/-- One alarm in ALARMS_REAR (Table 43). -/
def Alarm.mirrorFields (a : Alarm) : List Byte := beFlag a.enabled ++ be1 a.hour ++ be1 a.minute

/-- The content of a mirror item, read now (Table 43, Table 69); ROAD_SPEED before a first window result: log 35. -/
def mirrorContent (s : State) : MirrorItem → List Byte
  | .clock =>
    match s.clk.state with
    | .set => be1 s.clk.time.hour ++ be1 s.clk.time.minute
    | .unset => absent 2
  | .outsideTemp =>
    match s.clc.outsideSlot with
    | some n => be1 s.gdu.slots[n].state.code ++ bes2 s.gdu.slots[n].value
    | none => absent 1 ++ be2 (Config.absentOutsideValue s.free.draws).toNat
  | .passengerTrip => be1 s.tau.trips[3].state.code ++ be3 s.tau.trips[3].distance ++ be2 (s.tau.trips[3].running / 60)
  | .destination => optField 3 be3 s.tau.destination ++ optField 2 (fun t => be1 t.1 ++ be1 t.2) (eta s.tau s.clk)
  | .roadSpeed => be2 (if s.clc.roadLive then s.clc.roadSpeed else 0)
  | .rearWarnings =>
    be1 s.wtb.rearStanding.length ++ (s.wtb.rearStanding.take 9).flatMap fun p => be1 p.1.val ++ be1 p.2.code
  | .privacyFlag => beFlag s.chs.privacy
  | .alarmsRear => s.clk.alarms[2].mirrorFields ++ s.clk.alarms[3].mirrorFields

/-! ## Node states -/

/-- Every pair of a slot leaves the mirror queue (R147, R148). -/
def Clc.forget (n : NodeIx) (c : Clc) : Clc := { c with mirrorQueue := c.mirrorQueue.filter fun p => p.1 ≠ n }

/-- What entering a state does to a slot's fields (R147). -/
def Node.entering (st : NodeState) (nd : Node) : Node :=
  match st with
  | .lost => { nd with state := .lost, due := false, lostRounds := 0 }
  | .present => { nd with state := .present, lostRounds := 0 }
  | .joining => { nd with state := .joining, lostRounds := 0 }
  | .disabled => { nd with state := .disabled }

/-- What a change of a slot's state does to the mirror queue: a LOST slot's pairs leave it (R147); a slot that becomes
PRESENT has every item of its mirror set marked, item 0 first (R154). -/
def Clc.enterState (n : NodeIx) (st : NodeState) (c : Clc) : Clc :=
  match st with
  | .lost => c.forget n
  | .present => c.markWhole n
  | .joining | .disabled => c

/-- A slot takes a state; a change queues a NODE notice and is handed to the WTB (R147). A slot that enters PRESENT has its
own pairs marked, in item order (R154), before the WTB may mark REAR_WARNINGS; that this mark's pairs of other slots stand
behind them is the model's choice (log 34). -/
def setNodeState (n : NodeIx) (st : NodeState) (s : State) : State :=
  if s.clc.nodes[n].state = st then s
  else
    let s1 := (s.modNode n (Node.entering st)).modClc (Clc.enterState n st)
    wtbNode n st (s1.notify (.node n st))

/-- A valid answer from a node (R147). -/
def validAnswer (n : NodeIx) (s : State) : State :=
  let s1 := s.modNode n fun nd => { nd with misses := 0 }
  match s.clc.nodes[n].state with
  | .joining | .lost => setNodeState n .present s1
  | .present | .disabled => s1

/-- A miss of a node (R147). -/
def nodeMiss (n : NodeIx) (s : State) : State :=
  match s.clc.nodes[n].state with
  | .joining | .present =>
    let m := countUp Config.lostMisses s.clc.nodes[n].misses
    let s1 := s.modNode n fun nd => { nd with misses := m }
    if m = Config.lostMisses then setNodeState n .lost s1 else s1
  | .lost | .disabled => s

/-! ## Line state and pass-through -/

/-- The line takes a state; a change is handed to the WTB (R149). -/
def setLine (st : LineState) (s : State) : State :=
  if s.clc.line = st then s else wtbLine st (s.modClc fun c => { c with line := st })

/-- The enabled slot that holds an alias (R162). -/
def Clc.slotOfAlias (c : Clc) (a : Nat) : Option NodeIx :=
  (List.finRange 6).find? fun n => c.nodes[n].enabled && c.nodes[n].nodeAlias = a

/-- The alias of the node that must answer a pass-through (R162). -/
def PassThrough.targetAlias (p : PassThrough) : Nat := if p.nodeAlias = 0 then p.answerAlias.getD 0 else p.nodeAlias

/-- The target of a pass-through (R162). -/
def Clc.target (c : Clc) (p : PassThrough) : Option NodeIx := c.slotOfAlias p.targetAlias

/-- A held pass-through is answered in the reserved entry and its record emptied (R163, R164, R186). -/
def endPass (resp : Response) (s : State) : State :=
  match s.clc.pass with
  | some p => (s.modClc fun c => { c with pass := none }).reply .reserved ReqKind.coachPass.code p.tag resp
  | none => s

/-! ## Starting a transaction -/

/-- The frame of a pass-through (R163): broadcast, the target's address precedes the data. -/
def passFrame (c : Clc) (n : NodeIx) (p : PassThrough) : List Byte :=
  if p.nodeAlias = 0 then masterFrame broadcastAddress .passWrite (byteOf c.nodes[n].address :: p.data)
  else masterFrame c.nodes[n].address (match p.kind with | .read => .passRead | .write => .passWrite) p.data

/-- The frame of a transaction, its content read now (R151, R156, R160, R163). -/
def txnFrame (s : State) : TxnKind → List Byte
  | .poll n => masterFrame s.clc.nodes[n].address .poll []
  | .mirror n item => masterFrame s.clc.nodes[n].address .mirror (be1 item.code ++ mirrorContent s item)
  | .pass n =>
    match s.clc.pass with
    | some p => passFrame s.clc n p
    | none => []
  | .sleep => masterFrame broadcastAddress .sleep []

/-- A transaction starts: its frame is sent (R144). -/
def startTxn (k : TxnKind) (s : State) : State :=
  (s.modClc fun c => { c with txn := some { kind := k, frame := txnFrame s k, phase := .sending } }).modFree fun v =>
    { v with draws := v.draws + 1 }

/-- The phase of a held pass-through is set. -/
def setPassPhase (ph : PassPhase) (s : State) : State :=
  s.modClc fun c => { c with pass := c.pass.map fun p => { p with phase := ph } }

/-- The lowest slot whose due flag is set (R150). -/
def Clc.firstDue (c : Clc) : Option NodeIx := (List.finRange 6).find? fun n => c.nodes[n].due

/-- The arbiter's third and fourth choices (R150): the due poll of the lowest slot, then the head of the mirror queue. -/
def chooseWork (s : State) : State :=
  match s.clc.firstDue, s.clc.mirrorQueue with
  | some n, _ => startTxn (.poll n) (s.modNode n fun nd => { nd with due := false })
  | none, (n, item) :: rest => startTxn (.mirror n item) (s.modClc fun c => { c with mirrorQueue := rest })
  | none, [] => s

/-- A pass-through is chosen: its target is checked again (R163). -/
def startPass (n : NodeIx) (s : State) : State :=
  if s.clc.nodes[n].state = .present then startTxn (.pass n) (setPassPhase .inFlight s)
  else chooseWork (endPass (.refuse .absent) s)

/-- Whether the line is free (R150). -/
def Clc.lineFree (c : Clc) : Bool := c.line = .running && c.txn.isNone && c.power ≠ .crank

/-- The arbiter chooses the next transaction whenever the line is free (R150). -/
def arbiter (s : State) : State :=
  if s.clc.lineFree then
    match s.clc.retry with
    | some (.pass n) => startPass n (s.modClc fun c => { c with retry := none })
    | some k => startTxn k (s.modClc fun c => { c with retry := none })
    | none =>
      match s.clc.pass with
      | some p =>
        if p.phase = .waiting then
          match s.clc.target p with
          | some n => startPass n s
          | none => chooseWork (endPass (.refuse .absent) s)
        else chooseWork s
      | none => chooseWork s
  else s

/-! ## Rear events -/

/-- The rear events of a poll answer from some byte on, at most `k` of them (R201). -/
def parseEvents : Nat → List Byte → Option (List RearEvent)
  | _, [] => some []
  | 0, _ :: _ => none
  | k + 1, b :: rest =>
    match RearKind.ofCode b.toNat with
    | none => none
    | some kind =>
      if rest.length < kind.dataLength then none
      else (parseEvents k (rest.drop kind.dataLength)).map fun es =>
        { kind, data := rest.take kind.dataLength } :: es

/-- A poll answer (R151, R201): whether a refresh is asked, and the events; none when it is not well formed. -/
def parsePoll : List Byte → Option (Bool × List RearEvent)
  | [] => none
  | status :: rest => (parseEvents 4 rest).map fun es => (status.getLsbD 0, es)

/-- Whether a node kind's event is handed to its owning block (Table 44). -/
def NodeKind.hands (k : NodeKind) (e : RearKind) : Bool :=
  match e with
  | .intercomCall | .privacyOn | .privacyOff | .passengerTripReset | .rearAck => k = .console || k = .panel
  | .clockSet | .alarmSet => k = .console
  | .key => false

/-- The result of an INTERCOM_CALL (R112, Table 44). -/
def TakeOutcome.result : TakeOutcome → RearResult
  | .queued => .queued | .alreadyHeld => .alreadyHeld | .notQueued => .notQueued

/-- A rear CLOCK_SET at the CLK (R76, R152). -/
def rearClockSet (d : List Byte) (s : State) : State × RearResult :=
  let t : ClockTime :=
    { year := 1980 + u8 d 0, month := u8 d 1, day := u8 d 2, hour := u8 d 3, minute := u8 d 4, second := u8 d 5 }
  if s.clk.lock ∨ ¬ t.valid then (s, .refused) else (setClockTo t s, .applied)

/-- The alarm a rear event names: A2 or A3 (R81). -/
def rearAlarmIx : Nat → Option AlarmIx
  | 2 => some 2 | 3 => some 3
  | _ => none

/-- A rear ALARM_SET at the CLK (R81). -/
def rearAlarmSet (d : List Byte) (s : State) : State × RearResult :=
  match rearAlarmIx (u8 d 0), flagOf (u8 d 1), within 0 23 (u8 d 2), within 0 59 (u8 d 3) with
  | some a, some enabled, some hour, some minute =>
    (changeAlarm a (fun x => { x with enabled, hour, minute }) s, .applied)
  | _, _, _, _ => (s, .refused)

/-- What the owning block makes of a rear event: the state, the result and the data of the REAR notice (R152, R153). -/
def ownRearEvent (e : RearEvent) (s : State) : State × RearResult × List Byte :=
  match e.kind with
  | .intercomCall =>
    let r := takeChime (rearCallRequest s.chs s.clc.callPattern) s
    (r.1, r.2.result, e.data)
  | .privacyOn => (takePrivacy true s, .applied, e.data)
  | .privacyOff => (takePrivacy false s, .applied, e.data)
  | .passengerTripReset => (tripNotice 3 .reset (resetTrip 3 .rear s), .applied, e.data)
  | .rearAck =>
    let r := acknowledgeWhere (fun _ c => c.dest = .rear) s
    (r.1, .applied, be1 r.2)
  | .clockSet =>
    let r := rearClockSet e.data s
    (r.1, r.2, e.data)
  | .alarmSet =>
    let r := rearAlarmSet e.data s
    (r.1, r.2, e.data)
  | .key => (s, .forwarded, e.data)

/-- The data of the REAR notice of an event that is forwarded only (R153): a REAR_ACK carries the count of entries
acknowledged, which is 0; any other event carries its own data. -/
def RearEvent.forwardedData (e : RearEvent) : List Byte :=
  match e.kind with
  | .rearAck => be1 0
  | .intercomCall | .privacyOn | .privacyOff | .passengerTripReset | .clockSet | .alarmSet | .key => e.data

/-- A rear event of a valid poll answer (R152): handed to its owning block when the node's kind allows it, then its REAR
notice queued. -/
def takeRearEvent (n : NodeIx) (s : State) (e : RearEvent) : State :=
  if s.clc.nodes[n].kind.hands e.kind then
    let r := ownRearEvent e s
    r.1.notify (.rear n e.kind r.2.1 r.2.2)
  else s.notify (.rear n e.kind .forwarded e.forwardedData)

/-! ## Answers -/

/-- Whether an answer holds the characters its length calls for (R145). -/
def answerComplete : List CoachChar → Bool
  | _ :: l :: rest => rest.length = l.value.toNat + 1
  | _ => false

/-- The data of a valid answer (R145, R200), apart from the test of a poll answer; none when it is not valid. -/
def answerData : List CoachChar → Option (List Byte)
  | a :: l :: rest =>
    if answerComplete (a :: l :: rest) ∧ (a :: l :: rest).all (fun c => !c.error) ∧ a.mark ∧ a.value = 0xA0 ∧
        (l :: rest).all (fun c => !c.mark) ∧ l.value.toNat ≤ 20 ∧
        ((l :: rest).map fun c => c.value.toNat).sum % 256 = 0 then
      some ((rest.take l.value.toNat).map fun c => c.value)
    else none
  | _ => none

/-- A poll completes (R145, R147, R151, R152). R152 puts the rear events after the state change of R147 and says nothing of
the marks of a refresh (R151): that these come before the rear events is the model's choice (log 34). -/
def completePoll (n : NodeIx) (answer : Option (List Byte)) (s : State) : State :=
  match answer.bind parsePoll with
  | some (refresh, events) =>
    let s1 := validAnswer n s
    let s2 := if refresh then s1.modClc (Clc.markWhole n) else s1
    events.foldl (takeRearEvent n) s2
  | none => nodeMiss n s

/-- A mirror write completes (R156): without a valid answer the pair is appended again while the slot is PRESENT. -/
def completeMirror (n : NodeIx) (item : MirrorItem) (answer : Option (List Byte)) (s : State) : State :=
  match answer with
  | some _ => validAnswer n s
  | none => (nodeMiss n s).modClc fun c => c.appendPair item n

/-- A pass-through transaction completes (R163): an Answer with the answer's data, or a Refusal TIMEOUT. A record that
RESTART emptied takes no reply (R164). -/
def completePass (n : NodeIx) (answer : Option (List Byte)) (s : State) : State :=
  match answer with
  | some d => endPass (.answer d) (validAnswer n s)
  | none => endPass (.refuse .timeout) (nodeMiss n s)

/-- The transaction in flight completes, with the data of a valid answer or none (R145). The contention count returns to
0 (R157). -/
def completeTxn (answer : Option (List Byte)) (s : State) : State :=
  match s.clc.txn with
  | some t =>
    let s1 := s.modClc fun c => { c with txn := none, contentions := 0 }
    match t.kind with
    | .poll n => completePoll n answer s1
    | .mirror n item => completeMirror n item answer s1
    | .pass n => completePass n answer s1
    | .sleep => s1
  | none => s

/-- The phase of the transaction in flight. -/
def Clc.phase (c : Clc) : Option TxnPhase := c.txn.map fun t => t.phase

/-- The transaction in flight takes a phase. -/
def setTxnPhase (ph : TxnPhase) (s : State) : State :=
  s.modClc fun c => { c with txn := c.txn.map fun t => { t with phase := ph } }

/-- The stop bit of a master frame's check character (R145). -/
def masterFrameSent (s : State) : State :=
  match s.clc.txn with
  | some t =>
    if t.phase = .sending then
      if t.kind = .sleep then completeTxn none s else setTxnPhase .window s
    else s
  | none => s

/-- A character on the Coach Line (R143, R145): taken into an answer only while the window is open or an answer runs. -/
def answerCharacter (ch : CoachChar) (s : State) : State :=
  match s.clc.phase with
  | some .window => setTxnPhase (.receiving [ch]) s
  | some (.receiving cs) => if answerComplete cs then s else setTxnPhase (.receiving (cs ++ [ch])) s
  | some .sending => s
  | none => s

/-- The answer window closes without a start bit (R145). -/
def answerWindowExpiry (s : State) : State := if s.clc.phase = some .window then completeTxn none s else s

/-- A gap cuts an answer (R145). -/
def answerCut (s : State) : State :=
  match s.clc.phase with
  | some (.receiving cs) => if answerComplete cs then s else completeTxn none s
  | _ => s

/-- The last stop bit of a complete answer (R145). -/
def answerDone (s : State) : State :=
  match s.clc.phase with
  | some (.receiving cs) => if answerComplete cs then completeTxn (answerData cs) s else s
  | _ => s

/-! ## Rounds -/

/-- A slot at a round start (R151). -/
def Node.round (nd : Node) : Node :=
  match nd.state with
  | .joining | .present => { nd with due := true }
  | .lost => if nd.lostRounds + 1 < 8 then { nd with lostRounds := nd.lostRounds + 1 }
             else { nd with lostRounds := 0, due := true }
  | .disabled => nd

/-- The slot whose poll or mirror write a transaction is. -/
def TxnKind.polled : TxnKind → Option NodeIx
  | .poll n => some n
  | .mirror n _ => some n
  | .pass _ | .sleep => none

/-- The due flag of a slot whose poll or mirror write waits for its retry is cleared, and a round start leaves it so
(R157, log 27). -/
def Clc.holdDue (c : Clc) : Clc :=
  { c with nodes := Vector.ofFn fun n =>
      if c.retry.any fun k => k.polled = some n then { c.nodes[n] with due := false } else c.nodes[n] }

/-- A round starts and the round timer with it (R151); the due flag of a slot whose transaction waits for its retry stays
cleared (R157). -/
def startRound (s : State) : State :=
  s.modClc fun c => { c with nodes := mapAll Node.round c.nodes, roundTimer := some (50 * c.roundPeriod) }.holdDue

/-- The round timer expires (R151). -/
def roundExpiry (s : State) : State := if s.clc.roundTimer.isSome then startRound s else s

/-! ## Contention and FAULT -/

/-- Every due flag cleared. -/
def Clc.clearDue (c : Clc) : Clc := { c with nodes := mapAll (fun nd => { nd with due := false }) c.nodes }

/-- What FAULT, a Coach reset and Parked entry do alike (R158, R159, R160): the transaction in flight or waiting for its
retry is abandoned, the mirror queue emptied, every due flag cleared, the round timer and backoff stopped. -/
def Clc.abandon (c : Clc) : Clc :=
  { c.clearDue with txn := none, retry := none, mirrorQueue := [], roundTimer := none, backoffTimer := none }

/-- A line state that differs from the one before the event is handed to the WTB (R149). -/
def handLine (old : LineState) (s : State) : State := if s.clc.line = old then s else wtbLine s.clc.line s

/-- The line goes to FAULT (R158): no mark of this event finds the line up. -/
def lineFault (s : State) : State :=
  let s1 := endPass (.refuse .aborted) (s.modClc fun c => { c.abandon with line := .fault })
  handLine s.clc.line (eachIx 6 (fun n s => if s.clc.nodes[n].enabled then setNodeState n .lost s else s) s1)

/-- The transaction that waits for its retry after contention (R157): none for a pass-through whose record RESTART has
emptied (R164). -/
def Clc.retryOf (c : Clc) (k : TxnKind) : Option TxnKind :=
  match k with
  | .pass n => if c.pass.isSome then some (.pass n) else none
  | k => some k

/-- A transaction meets contention (R157): BACKOFF, or FAULT at the fifth in a row. A SLEEP frame is not retried, and the
line stays OFF (R160, log 14). -/
def contention (s : State) : State :=
  match s.clc.txn with
  | some t =>
    if t.phase ≠ .sending then s
    else if t.kind = .sleep then s.modClc fun c => { c with txn := none }
    else
      let n := s.clc.contentions + 1
      let s1 := setPassPhase .waiting (s.modClc fun c => { c with
        txn := none, retry := c.retryOf t.kind, contentions := n }.holdDue)
      if n < Config.faultContentions then
        setLine .backoff (s1.modClc fun c => { c with backoffTimer := some Config.backoffMs })
      else lineFault s1
  | none => s

/-- Backoff expires (R157). -/
def backoffExpiry (s : State) : State :=
  if s.clc.line = .backoff ∧ s.clc.backoffTimer.isSome then
    setLine .running (s.modClc fun c => { c with backoffTimer := none })
  else s

/-! ## Coach reset, Parked entry and resets -/

/-- A slot at a Coach reset (R159): an enabled slot becomes JOINING with miss count 0. -/
def rejoin (n : NodeIx) (s : State) : State :=
  if s.clc.nodes[n].enabled then setNodeState n .joining (s.modNode n fun nd => { nd with misses := 0, lostRounds := 0 })
  else s

/-- A Coach reset starts (R159): no mark of this event finds the line up (log 25). The slots rejoin N0 first
(log 33). -/
def coachReset (s : State) : State :=
  let s1 := endPass (.refuse .aborted) (s.modClc fun c =>
    { c.abandon with line := .resetting, heldLow := true, contentions := 0, sleepWaiting := false })
  handLine s.clc.line (eachIx 6 rejoin s1)

/-- After 25 ms of a Coach reset the line is released (R159). -/
def lineRelease (s : State) : State :=
  if s.clc.line = .resetting then s.modClc fun c => { c with heldLow := false } else s

/-- 100 ms after the release the line becomes RUNNING and the first round starts (R159). -/
def resettingEnd (s : State) : State :=
  if s.clc.line = .resetting ∧ s.clc.heldLow = false then startRound (setLine .running s) else s

/-- Run entry at the CLC (R159). -/
def clcRunEntry (s : State) : State := coachReset (s.modClc fun c => { c with power := .run })

/-- Parked entry at the CLC (R160): a SLEEP frame follows unless the line was OFF or in FAULT. -/
def clcParkedEntry (s : State) : State :=
  let awake : Bool := s.clc.line = .running ∨ s.clc.line = .backoff ∨ s.clc.line = .resetting
  setLine .off (endPass (.refuse .aborted) (s.modClc fun c =>
    { c.abandon with power := .parked, heldLow := false, sleepWaiting := awake }))

/-- The line has stood high for 3 ms after Parked entry: the SLEEP frame is sent (R160). -/
def sleepStart (s : State) : State :=
  if s.clc.sleepWaiting then startTxn .sleep (s.modClc fun c => { c with sleepWaiting := false }) else s

/-- CRANK begins or ends by a return to RUN (R150). -/
def clcCrank (p : PowerState) (s : State) : State := s.modClc fun c => { c with power := p }

/-- A slot after a Line or Restart reset (R165). -/
def Node.reset (nd : Node) : Node :=
  { nd with state := if nd.enabled then .joining else .disabled, misses := 0, lostRounds := 0, due := false }

/-- The CLC after a Line or Restart reset (R165). The road speed that ROAD_SPEED carries once the road source is LIVE, while
no window result has been handed since a reset, the spec leaves open; the model holds 0 (log 35). -/
def Clc.reset (c : Clc) : Clc :=
  { c.abandon with
    power := .parked
    roadLive := false
    roadSpeed := 0
    nodes := mapAll Node.reset c.nodes
    line := .off
    heldLow := false
    contentions := 0
    pass := none
    sleepWaiting := false }

end Sys2Proof.Machine
end

