-- ==== Sys2Proof/Machine/OpsIgnition.lean ====
section
/-! DEFINITION. The Ignition Supervisor: power-state transitions handed to every block, and the resets (Chapter 9). -/

namespace Sys2Proof.Machine

/-! ## Power-state changes -/

/-- The LKP's copy of the power state (R194). -/
def lkpPower (p : PowerState) (s : State) : State := s.modLkp fun l => { l with power := p }

/-- Run entry at each block (Table 49). -/
def takeRunEntry (b : Block) (s : State) : State :=
  match b with
  | .pcu => pcuRunEntry s
  | .gdu => gduRunEntry s
  | .tau => tauPower .run s
  | .clk => s
  | .wtb => wtbRunEntry s
  | .chs => chsPower .run s
  | .svs => svsPower .run s
  | .clc => clcRunEntry s
  | .lkp => lkpPower .run s

/-- Parked entry at each block (Table 49). -/
def takeParkedEntry (b : Block) (s : State) : State :=
  match b with
  | .pcu => pcuParkedEntry s
  | .gdu => gduParkedEntry s
  | .tau => tauPower .parked s
  | .clk => s
  | .wtb => wtbParkedEntry s
  | .chs => chsPower .parked s
  | .svs => svsPower .parked s
  | .clc => clcParkedEntry s
  | .lkp => lkpPower .parked s

/-- Entering CRANK, or returning from it to RUN, at each block (Table 49). -/
def takeCrank (p : PowerState) (b : Block) (s : State) : State :=
  match b with
  | .pcu => pcuCrank p s
  | .gdu => gduCrank p s
  | .tau => tauPower p s
  | .clk => s
  | .wtb => wtbCrank p s
  | .chs => chsPower p s
  | .svs => svsPower p s
  | .clc => clcCrank p s
  | .lkp => lkpPower p s

/-- Run entry, handed to every block (R172). -/
def enterRun (s : State) : State := hand allBlocks takeRunEntry (s.modIgs fun g => { g with power := .run })

/-- Parked entry, handed to every block (R172). -/
def enterParked (s : State) : State := hand allBlocks takeParkedEntry (s.modIgs fun g => { g with power := .parked })

/-- The power state passes between RUN and CRANK, handed to every block (R172). -/
def enterCrank (p : PowerState) (s : State) : State := hand allBlocks (takeCrank p) (s.modIgs fun g => { g with power := p })

/-- The transition to CRANK with its notice (Table 47, R173). -/
def crankStart (s : State) : State := enterCrank .crank (s.notify (.power .crank .crankOn))

/-- A filtered CRANK level that is on when the power state becomes RUN makes it CRANK at once (R170). -/
def crankIfOn (s : State) : State := if s.igs.power = .run ∧ s.igs.crank then crankStart s else s

/-- IGN on (Table 47, R170, R173). With CRANK already on, the spec does not order the start of the RUN notice's frame
(R191) and the CRANK transition that follows at once (R170); the model makes both transitions in one event, so the CRANK
notice takes the RUN notice's place before the transmitter can start it (log 30). -/
def ignitionOn (s : State) : State :=
  if s.igs.power = .parked then
    crankIfOn (enterRun ((s.modIgs fun g => { g with ign := true }).notify (.power .run .ignOn)))
  else s

/-- IGN off (Table 47, R173). -/
def ignitionOff (s : State) : State :=
  if s.igs.power = .parked then s
  else enterParked ((s.modIgs fun g => { g with ign := false }).notify (.power .parked .ignOff))

/-- The filtered CRANK level goes on (R170, Table 47). -/
def crankOn (s : State) : State :=
  if s.igs.crank then s else crankIfOn (s.modIgs fun g => { g with crank := true })

/-- The filtered CRANK level goes off (R170, Table 47). -/
def crankOff (s : State) : State :=
  let s1 := s.modIgs fun g => { g with crank := false }
  if s.igs.power = .crank then enterCrank .run (s1.notify (.power .run .crankOff)) else s1

/-! ## Resets -/

/-- Every block but the WTB and the IGS takes a Line or Restart reset (Table 49). -/
def resetBlocks (s : State) : State :=
  { s with
    pcu := s.pcu.reset
    gdu := s.gdu.reset
    tau := s.tau.reset
    chs := s.chs.reset
    svs := s.svs.reset
    clc := s.clc.reset
    lkp := Lkp.atReset (s.tau.odometerState = .invalid) (s.clk.state = .unset) }

/-- The power state a reset's POWER notice carries (R175). -/
def powerAfter (lines : InputLines) : PowerState := if lines.ign then .run else .parked

/-- After a reset with the ignition on, Run entry and the CRANK that may follow it (R175); the Run entry queues no notice
of its own. -/
def runAfterReset (s : State) : State := if s.igs.ign then crankIfOn (enterRun s) else s

/-- A Line or Restart reset (R171, R175, R176): every block resets, the filters are loaded from the lines, the POWER notice is queued, the enabled parked-live
entries are evaluated (R102), and with the ignition on a Coach reset (R159) and Run entry follow. -/
def keptReset (cause : ResetCause) (armed : Bool) (lines : InputLines) (s : State) : State :=
  let s1 := wtbReset lines (((resetBlocks s).modIgs fun _ => Igs.atReset cause lines armed).modInputs (Inputs.atReset lines))
  let s2 := s1.notify (.power (powerAfter lines) cause.powerCause)
  let s3 := evaluateWhere (fun c => c.enabled && c.parkedLive) s2
  runAfterReset (if s3.igs.ign then coachReset s3 else s3)

/-- A Line reset (R171): only once RESET has been seen high since the last low, and only with RESET low. -/
def lineReset (lines : InputLines) (s : State) : State :=
  if s.igs.resetArmed ∧ ¬ lines.reset then keptReset .line false lines s else s

/-- The Restart reset (R176). -/
def restartReset (lines : InputLines) (s : State) : State := keptReset .restart s.igs.resetArmed lines s

/-- A Supply reset (R175, R179): every block at its Supply reset values, the POWER notice queued, and with the ignition
on Run entry. A RESET line that is low counts as seen (R171). -/
def supplyReset (lines : InputLines) (s : State) : State :=
  runAfterReset ((State.supplied lines s.inputs s.free s.pending).notify (.power (powerAfter lines) .supply))

/-- The part without supply (R168): it stops, nothing of it can be observed until the Supply reset, and its contents are
lost; the model keeps the Supply reset values there (log 7). -/
def losePower (s : State) : State :=
  (State.supplied quietLines s.inputs s.free s.pending).modIgs fun g => { g with supplied := false }

/-- The RESET line is seen high (R171). -/
def resetHigh (s : State) : State := s.modIgs fun g => { g with resetArmed := true }

end Sys2Proof.Machine
end

