-- ==== Sys2Proof/Machine/OpsEvent.lean ====
section
/-! DEFINITION. How a command becomes one event of the part: what runs at the end of every event, and how the dispatcher
takes a request (R185). -/

namespace Sys2Proof.Machine

/-- The end of an event: the arbiter chooses when the line is free (R150), the replies placed in the event take their
status bytes (R192), and an IDLE transmitter starts the next frame (R191) (log 8). -/
def settle (s : State) : State := startTransmitter (sealReplies (arbiter s))

/-- One event of the part. Without supply the part has stopped and nothing happens (R168). -/
def takeEvent (f : State → State) (s : State) : Host.Outcome State Fault Refusal :=
  if s.igs.supplied then .next (settle (f s)) else .next s

/-- The oldest request leaves the request buffer (R184). -/
def takeRequest (s : State) : State := s.modLkp fun l => { l with requests := l.requests.tail }

/-- The dispatcher takes the oldest request when it is of this kind and the reply queue has room (R185). A body of the
wrong length is refused with LENGTH; otherwise the owning block answers, and the reply is placed in the same event. -/
def serve (k : ReqKind) (owner : Request → State → State × Response) (s : State) : State :=
  match s.lkp.requests with
  | r :: _ =>
    if r.kind = k.code ∧ s.lkp.hasRoom r.kind then
      if k.lengthOk r.body then
        let q := owner r (takeRequest s)
        q.1.reply .ordinary r.kind r.tag q.2
      else (takeRequest s).reply .ordinary r.kind r.tag (.refuse .length)
    else s
  | [] => s

/-- The dispatcher takes an oldest request of no known kind and refuses it with UNKNOWN (R185). -/
def serveUnknown (s : State) : State :=
  match s.lkp.requests with
  | r :: _ =>
    if isRequestKind r.kind = false ∧ s.lkp.hasRoom r.kind then
      (takeRequest s).reply .ordinary r.kind r.tag (.refuse .unknown)
    else s
  | [] => s

/-- An accepted request with an empty Answer (R188). -/
def emptyAnswer (s : State) : State × Response := (s, .answer [])

/-- A refused request: nothing is changed. -/
def refused (reason : Reason) (s : State) : State × Response := (s, .refuse reason)

/-- A request whose fields, when they all lie within their ranges, are accepted by `f`; otherwise it is refused with
RANGE and nothing is applied. -/
def ranged {α : Type} (fields : Option α) (f : α → State → State × Response) (s : State) : State × Response :=
  match fields with
  | some a => f a s
  | none => refused .range s

end Sys2Proof.Machine
end

