-- ==== Sys2Proof/Machine/Chime.lean ====
section
/-! DEFINITION. The commands of the Chime Sequencer (Chapter 6). -/

namespace Sys2Proof.Machine

/-- The fields of CHIME (R124). -/
def chimeFields (b : List Byte) : Option (PatternIx × ChimeClass × Destination × Nat) := do
  let p ← ixOf 8 (u8 b 0)
  let cls ← ChimeClass.ofCode (u8 b 1)
  let dest ← Destination.ofCode (u8 b 2)
  let passes ← within 0 15 (u8 b 3)
  return (p, cls, dest, passes)

/-- CHIME (R124). -/
def ownChime (r : Request) (s : State) : State × Response :=
  ranged (chimeFields r.body)
    (fun f s =>
      let q := takeChime (linkRequest s.chs f.1 f.2.1 f.2.2.1 f.2.2.2 r.tag) s
      if q.2 = .notQueued then (q.1, .refuse .full) else emptyAnswer q.1) s

/-- CHIME. -/
def execChime (s : State) : Host.Outcome State Fault Refusal := takeEvent (serve .chime ownChime) s

/-- CANCEL CHIME (R125). -/
def ownCancelChime (_ : Request) (s : State) : State × Response :=
  match s.chs.queue.find? fun q => q.source = .link with
  | some q => emptyAnswer (handEnd .cancelled q (removeChime .link s))
  | none => refused .state s

/-- CANCEL_CHIME. -/
def execCancelChime (s : State) : Host.Outcome State Fault Refusal := takeEvent (serve .cancelChime ownCancelChime) s

/-- A segment of SET PATTERN at an offset (R126). -/
def segmentField (b : List Byte) (o : Nat) : Option Segment := do
  let pitch ← Pitch.ofCode (u8 b o)
  let duration ← within 1 255 (u8 b (o + 1))
  return { pitch, duration }

/-- The fields of SET PATTERN (R126). -/
def patternFields (b : List Byte) : Option (PatternIx × Pattern) := do
  let p ← ixOf 8 (u8 b 0)
  let passes ← Passes.ofCode (u8 b 1)
  let count ← within 1 8 (u8 b 2)
  let segments ← (List.range count).mapM fun i => segmentField b (3 + 2 * i)
  return (p, { segments, passes })

/-- A SET PATTERN whose fields pass (R126): BUSY while a queued request names the pattern. -/
def setPattern (p : PatternIx × Pattern) (s : State) : State × Response :=
  if s.chs.queue.any fun r => r.pattern = p.1 then refused .busy s
  else emptyAnswer (s.modChs fun c => { c with patterns := c.patterns.set p.1 p.2 })

/-- SET PATTERN (R126). -/
def ownSetPattern (r : Request) (s : State) : State × Response := ranged (patternFields r.body) setPattern s

/-- SET_PATTERN. -/
def execSetPattern (s : State) : Host.Outcome State Fault Refusal := takeEvent (serve .setPattern ownSetPattern) s

/-- SET PRIVACY (R127). -/
def ownSetPrivacy (r : Request) (s : State) : State × Response :=
  ranged (flagOf (u8 r.body 0)) (fun on s => emptyAnswer (takePrivacy on s)) s

/-- SET_PRIVACY. -/
def execSetPrivacy (s : State) : Host.Outcome State Fault Refusal := takeEvent (serve .setPrivacy ownSetPrivacy) s

/-- SEGMENT_END (R117). -/
def execSegmentEnd (s : State) : Host.Outcome State Fault Refusal := takeEvent segmentEnd s

end Sys2Proof.Machine
end

