-- ==== Sys2Proof/Machine/Clock.lean ====
section
/-! DEFINITION. The commands of the Calendar Clock (Chapter 4). -/

namespace Sys2Proof.Machine

/-- READ CLOCK (R82). -/
def ownReadClock (_ : Request) (s : State) : State × Response :=
  let c := s.clk
  let t := c.time
  (s, .answer (be1 c.state.code ++ be2 t.year ++ be1 t.month ++ be1 t.day ++ be1 t.hour ++ be1 t.minute ++
    be1 t.second ++ be1 t.weekday ++ beFlag c.lock ++ bes1 c.trim))

/-- READ_CLOCK. -/
def execReadClock (s : State) : Host.Outcome State Fault Refusal := takeEvent (serve .readClock ownReadClock) s

/-- The fields of SET CLOCK (R73). -/
def clockFields (b : List Byte) : Option ClockTime :=
  let t : ClockTime :=
    { year := u16 b 0, month := u8 b 2, day := u8 b 3, hour := u8 b 4, minute := u8 b 5, second := u8 b 6 }
  if t.valid then some t else none

/-- SET CLOCK (R73); the clock lock does not affect it. -/
def ownSetClock (r : Request) (s : State) : State × Response :=
  ranged (clockFields r.body) (fun t s => emptyAnswer (setClockTo t s)) s

/-- SET_CLOCK. -/
def execSetClock (s : State) : Host.Outcome State Fault Refusal := takeEvent (serve .setClock ownSetClock) s

/-- The fields of SET ALARM (R80). -/
def alarmFields (b : List Byte) : Option (AlarmIx × Alarm) := do
  let a ← ixOf 4 (u8 b 0)
  let enabled ← flagOf (u8 b 1)
  let hour ← within 0 23 (u8 b 2)
  let minute ← within 0 59 (u8 b 3)
  let days ← within 0 127 (u8 b 4)
  let rep ← AlarmRepeat.ofCode (u8 b 5)
  let pattern ← ixOf 8 (u8 b 6)
  let dest ← Destination.ofCode (u8 b 7)
  return (a, { enabled, hour, minute, dayMask := BitVec.ofNat 7 days, rep, pattern, dest })

/-- SET ALARM (R80): the record is replaced whole and its chime request removed. -/
def ownSetAlarm (r : Request) (s : State) : State × Response :=
  ranged (alarmFields r.body) (fun p s => emptyAnswer (changeAlarm p.1 (fun _ => p.2) s)) s

/-- SET_ALARM. -/
def execSetAlarm (s : State) : Host.Outcome State Fault Refusal := takeEvent (serve .setAlarm ownSetAlarm) s

/-- The fields of SET CLOCK OPTIONS (R75): lock and trim. -/
def clockOptionFields (b : List Byte) : Option (Bool × Int) := do
  let lock ← flagOf (u8 b 0)
  if -31 ≤ s8 b 1 ∧ s8 b 1 ≤ 31 then some (lock, s8 b 1) else none

/-- SET CLOCK OPTIONS (R75): the second in progress keeps its length (R67). -/
def ownSetClockOptions (r : Request) (s : State) : State × Response :=
  ranged (clockOptionFields r.body)
    (fun p s => emptyAnswer (s.modClk fun c => { c with lock := p.1, trim := p.2 })) s

/-- SET_CLOCK_OPTIONS. -/
def execSetClockOptions (s : State) : Host.Outcome State Fault Refusal :=
  takeEvent (serve .setClockOptions ownSetClockOptions) s

/-- SECOND_BOUNDARY (R68, R69, R70). -/
def execSecondBoundary (s : State) : Host.Outcome State Fault Refusal := takeEvent secondBoundary s

end Sys2Proof.Machine
end

