-- ==== Sys2Proof/Machine/Coach.lean ====
section
/-! DEFINITION. The commands of the Coach Line Controller (Chapter 8). -/

namespace Sys2Proof.Machine

/-- The configuration SET NODE carries (R148). -/
structure NodeConfig where
  enabled : Bool
  address : Nat
  nodeAlias : Nat
  kind : NodeKind
  mirrorSet : BitVec 8
  deriving DecidableEq, Repr

/-- The fields of SET NODE (R148, test 1). -/
def nodeFields (b : List Byte) : Option (NodeIx × NodeConfig) := do
  let n ← ixOf 6 (u8 b 0)
  let enabled ← flagOf (u8 b 1)
  let address ← within 1 30 (u8 b 2)
  let nodeAlias ← within 1 30 (u8 b 3)
  let kind ← NodeKind.ofCode (u8 b 4)
  return (n, { enabled, address, nodeAlias, kind, mirrorSet := byteAt b 5 })

/-- The slot a transaction is addressed to. -/
def TxnKind.target : TxnKind → Option NodeIx
  | .poll n => some n
  | .mirror n _ => some n
  | .pass n => some n
  | .sleep => none

/-- A slot is the target of the transaction in flight or waiting for its retry, or of a held pass-through (R148, test 2). -/
def Clc.targets (c : Clc) (n : NodeIx) : Bool :=
  (c.txn.any fun t => t.kind.target = some n) || (c.retry.any fun k => k.target = some n) ||
    (c.pass.any fun p => c.target p = some n)

/-- Another enabled slot holds the address or the alias (R148, test 3). -/
def Clc.conflicts (c : Clc) (n : NodeIx) (x : NodeConfig) : Bool :=
  (List.finRange 6).any fun m =>
    m ≠ n && c.nodes[m].enabled && (c.nodes[m].address = x.address || c.nodes[m].nodeAlias = x.nodeAlias)

/-- The state an accepted SET NODE gives a slot (R148). -/
def Clc.stateSet (c : Clc) (x : NodeConfig) : NodeState :=
  if !x.enabled then .disabled else if c.line = .fault then .lost else .joining

/-- An accepted SET NODE (R148). -/
def configureNode (n : NodeIx) (x : NodeConfig) (s : State) : State :=
  let st := s.clc.stateSet x
  let s1 := s.modNode n fun nd =>
    { nd with enabled := x.enabled, address := x.address, nodeAlias := x.nodeAlias, kind := x.kind,
              mirrorSet := x.mirrorSet, due := false, misses := if st = .joining then 0 else nd.misses,
              lostRounds := if st = .joining then 0 else nd.lostRounds }
  setNodeState n st (s1.modClc (Clc.forget n))

/-- A SET NODE whose fields pass (R148, tests 2 and 3). -/
def setNode (p : NodeIx × NodeConfig) (s : State) : State × Response :=
  if s.clc.targets p.1 then refused .busy s
  else if p.2.enabled ∧ s.clc.conflicts p.1 p.2 then refused .conflict s
  else emptyAnswer (configureNode p.1 p.2 s)

/-- SET NODE (R148). -/
def ownSetNode (r : Request) (s : State) : State × Response := ranged (nodeFields r.body) setNode s

/-- SET_NODE. -/
def execSetNode (s : State) : Host.Outcome State Fault Refusal := takeEvent (serve .setNode ownSetNode) s

/-- The fields of COACH PASS (R162, test 1). -/
def passFields (tag : Byte) (b : List Byte) : Option PassThrough := do
  let nodeAlias ← within 0 30 (u8 b 0)
  let kind ← PassKind.ofCode (u8 b 1)
  let count ← within 0 16 (u8 b 3)
  if nodeAlias = 0 then
    let a ← within 1 30 (u8 b 2)
    if kind = .write then
      some { tag, nodeAlias, kind, answerAlias := some a, data := (b.drop 4).take count, phase := .waiting }
    else none
  else if u8 b 2 = 0xFF then
    some { tag, nodeAlias, kind, answerAlias := none, data := (b.drop 4).take count, phase := .waiting }
  else none

/-- A COACH PASS whose fields pass (R162, tests 2 and 3). -/
def acceptPass (p : PassThrough) (s : State) : State × Response :=
  if s.clc.power = .parked ∨ s.clc.line.up = false then refused .state s
  else
    match s.clc.target p with
    | some n =>
      if s.clc.nodes[n].state = .present then (s.modClc fun c => { c with pass := some p }, .held)
      else refused .absent s
    | none => refused .absent s

/-- COACH PASS (R162): BUSY while one is held. -/
def ownCoachPass (r : Request) (s : State) : State × Response :=
  if s.clc.pass.isSome then refused .busy s else ranged (passFields r.tag r.body) acceptPass s

/-- COACH_PASS. -/
def execCoachPass (s : State) : Host.Outcome State Fault Refusal := takeEvent (serve .coachPass ownCoachPass) s

/-- COACH RESET (R159). -/
def ownCoachReset (_ : Request) (s : State) : State × Response :=
  if s.clc.power = .parked then refused .state s else emptyAnswer (coachReset s)

/-- COACH_RESET. -/
def execCoachReset (s : State) : Host.Outcome State Fault Refusal := takeEvent (serve .coachReset ownCoachReset) s

/-- READ NODES (R167). -/
def ownReadNodes (_ : Request) (s : State) : State × Response :=
  (s, .answer ((s.clc.nodes.toList.flatMap fun n => be1 n.state.code ++ be1 n.misses) ++ be1 s.clc.line.code))

/-- READ_NODES. -/
def execReadNodes (s : State) : Host.Outcome State Fault Refusal := takeEvent (serve .readNodes ownReadNodes) s

/-- The fields of SET COACH OPTIONS (R166). -/
def coachOptionFields (b : List Byte) : Option (Nat × PatternIx × Option SlotIx) := do
  let period ← within 2 20 (u8 b 0)
  let pattern ← ixOf 8 (u8 b 1)
  let slot ← optionalOf 0xFF (u8 b 2) (ixOf 8)
  return (period, pattern, slot)

/-- SET COACH OPTIONS (R166): a running round timer keeps its expiry, and OUTSIDE_TEMP is marked at once. -/
def ownSetCoachOptions (r : Request) (s : State) : State × Response :=
  ranged (coachOptionFields r.body)
    (fun p s => emptyAnswer (mark .outsideTemp (s.modClc fun c =>
      { c with roundPeriod := p.1, callPattern := p.2.1, outsideSlot := p.2.2 }))) s

/-- SET_COACH_OPTIONS. -/
def execSetCoachOptions (s : State) : Host.Outcome State Fault Refusal :=
  takeEvent (serve .setCoachOptions ownSetCoachOptions) s

/-- MASTER_FRAME_SENT (R145). -/
def execMasterFrameSent (s : State) : Host.Outcome State Fault Refusal := takeEvent masterFrameSent s

/-- ANSWER_WINDOW_EXPIRY (R145). -/
def execAnswerWindowExpiry (s : State) : Host.Outcome State Fault Refusal := takeEvent answerWindowExpiry s

/-- ANSWER_CHARACTER (R143, R145). -/
def execAnswerCharacter (value : Byte) (mark error : Bool) (s : State) : Host.Outcome State Fault Refusal :=
  takeEvent (answerCharacter { value, mark, error }) s

/-- ANSWER_CUT (R145). -/
def execAnswerCut (s : State) : Host.Outcome State Fault Refusal := takeEvent answerCut s

/-- ANSWER_COMPLETE (R145, R147, R151, R156, R163). -/
def execAnswerComplete (s : State) : Host.Outcome State Fault Refusal := takeEvent answerDone s

/-- CONTENTION (R157, R158). -/
def execContention (s : State) : Host.Outcome State Fault Refusal := takeEvent contention s

/-- BACKOFF_EXPIRY (R157). -/
def execBackoffExpiry (s : State) : Host.Outcome State Fault Refusal := takeEvent backoffExpiry s

/-- LINE_RELEASE (R159). -/
def execLineRelease (s : State) : Host.Outcome State Fault Refusal := takeEvent lineRelease s

/-- RESETTING_END (R159). -/
def execResettingEnd (s : State) : Host.Outcome State Fault Refusal := takeEvent resettingEnd s

/-- ROUND_START (R151). -/
def execRoundStart (s : State) : Host.Outcome State Fault Refusal := takeEvent roundExpiry s

/-- SLEEP_START (R160). -/
def execSleepStart (s : State) : Host.Outcome State Fault Refusal := takeEvent sleepStart s

end Sys2Proof.Machine
end

