-- ==== Sys2Proof/Machine/Gauges.lean ====
section
/-! DEFINITION. The commands of the Sensor Report Table and the Gauge Drive Unit (Chapter 2). -/

namespace Sys2Proof.Machine

/-- The pairs of SENSOR REPORT (R26, Table 61); none when one names a slot above 7. -/
def reportPairs : List Byte → Option (List (SlotIx × Int))
  | [] => some []
  | n :: hi :: lo :: rest => do
    let slot ← ixOf 8 n.toNat
    let more ← reportPairs rest
    return (slot, s16 [hi, lo] 0) :: more
  | _ => none

/-- An accepted SENSOR REPORT (R26): the pairs are applied in the order they stand. -/
def sensorReport (pairs : List (SlotIx × Int)) (s : State) : State × Response :=
  emptyAnswer (pairs.foldl (fun s p => reportSlot p.1 p.2 s) s)

/-- SENSOR REPORT (R26). -/
def ownSensorReport (r : Request) (s : State) : State × Response := ranged (reportPairs r.body) sensorReport s

/-- SENSOR_REPORT. -/
def execSensorReport (s : State) : Host.Outcome State Fault Refusal := takeEvent (serve .sensorReport ownSensorReport) s

/-- The fields of SET SLOT (R27): slot, stale time, lost time. -/
def slotFields (b : List Byte) : Option (SlotIx × Nat × Nat) := do
  let n ← ixOf 8 (u8 b 0)
  let stale ← within 5 255 (u8 b 1)
  let lost ← within 1 255 (u8 b 2)
  return (n, stale, lost)

/-- An accepted SET SLOT (R27): a timer already running keeps the expiry it had. -/
def setSlot (p : SlotIx × Nat × Nat) (s : State) : State × Response :=
  emptyAnswer (s.modSlot p.1 fun x => { x with staleTime := p.2.1, lostTime := p.2.2 })

/-- SET SLOT (R27). -/
def ownSetSlot (r : Request) (s : State) : State × Response := ranged (slotFields r.body) setSlot s

/-- SET_SLOT. -/
def execSetSlot (s : State) : Host.Outcome State Fault Refusal := takeEvent (serve .setSlot ownSetSlot) s

/-- The points of a table in a body: `size` bytes each, a value of two bytes first, `count` of them from an offset. The
value is signed or not; `read` takes what follows it. -/
def tablePoints (signed : Bool) (size : Nat) (read : List Byte → Nat → Nat) (b : List Byte) (offset count : Nat) :
    List (Int × Nat) :=
  (List.range count).map fun i =>
    let o := offset + size * i
    (if signed then s16 b o else (u16 b o : Int), read b (o + 2))

/-- The values of a table are strictly increasing (R41, R56). -/
def increasing : List (Int × Nat) → Bool
  | p :: q :: rest => p.1 < q.1 && increasing (q :: rest)
  | _ => true

/-- A damping depth (R28). -/
def dampingOf (k : Nat) : Option Nat := if k = 1 ∨ k = 2 ∨ k = 4 ∨ k = 8 ∨ k = 16 then some k else none

/-- Whether a source is a slot, whose table values are signed (R30). -/
def GaugeSource.isSlot : GaugeSource → Bool
  | .slot _ => true
  | _ => false

/-- The fields of SET GAUGE (R41). -/
def gaugeFields (b : List Byte) : Option (GaugeIx × GaugeConfig) := do
  let g ← ixOf 6 (u8 b 0)
  let source ← GaugeSource.ofCode (u8 b 1) (u8 b 2)
  let fullScale ← within 1 1080 (u16 b 3)
  let slew ← within 20 2400 (u16 b 5)
  let damping ← dampingOf (u8 b 7)
  let count ← within 2 8 (u8 b 8)
  let table := tablePoints source.isSlot 4 u16 b 9 count
  if increasing table ∧ table.all (fun p => p.2 ≤ fullScale) then
    some (g, { source, fullScale, slew, damping, table })
  else none

/-- The damping buffer an accepted SET GAUGE leaves (R41): the slot's present value once while it is FRESH or STALE. -/
def Gdu.firstBuffer (d : Gdu) (src : GaugeSource) : List Int :=
  match src with
  | .slot n =>
    match d.slots[n].state with
    | .fresh | .stale => [d.slots[n].value]
    | .never | .lost => []
  | _ => []

/-- A gauge that SET GAUGE is refused on with STATE (R41). -/
def Gauge.refusesConfig (g : Gauge) (cfg : GaugeConfig) : Bool :=
  g.state = .homing || g.state = .sweep || g.present.any fun a => cfg.fullScale < a

/-- A SET GAUGE whose fields pass (R41). -/
def setGauge (p : GaugeIx × GaugeConfig) (s : State) : State × Response :=
  if s.gdu.gauges[p.1].refusesConfig p.2 then refused .state s
  else emptyAnswer (s.modGdu fun d =>
    { d with gauges := updAt d.gauges p.1 fun g =>
        d.recompute { g with cfg := p.2, buffer := d.firstBuffer p.2.source } })

/-- SET GAUGE (R41). -/
def ownSetGauge (r : Request) (s : State) : State × Response := ranged (gaugeFields r.body) setGauge s

/-- SET_GAUGE. -/
def execSetGauge (s : State) : Host.Outcome State Fault Refusal := takeEvent (serve .setGauge ownSetGauge) s

/-- Some gauge stands in a state. -/
def Gdu.anyIn (d : Gdu) (st : NeedleState) : Bool := d.gauges.toList.any fun g => g.state = st

/-- SWEEP GAUGES (R37). -/
def ownSweepGauges (_ : Request) (s : State) : State × Response :=
  if s.gdu.power ≠ .run ∨ s.gdu.anyIn .homing then refused .state s
  else if s.gdu.anyIn .sweep then refused .busy s
  else emptyAnswer (startSweep s)

/-- SWEEP_GAUGES. -/
def execSweepGauges (s : State) : Host.Outcome State Fault Refusal := takeEvent (serve .sweepGauges ownSweepGauges) s

/-- READ GAUGES (R42). -/
def ownReadGauges (_ : Request) (s : State) : State × Response :=
  (s, .answer (s.gdu.gauges.toList.flatMap fun g => be1 g.state.code ++ optField 2 be2 g.present ++ be2 g.target))

/-- READ_GAUGES. -/
def execReadGauges (s : State) : Host.Outcome State Fault Refusal := takeEvent (serve .readGauges ownReadGauges) s

/-- SLOT_STALE_EXPIRY (R24). -/
def execSlotStaleExpiry (n : SlotIx) (s : State) : Host.Outcome State Fault Refusal := takeEvent (slotStaleExpiry n) s

/-- SLOT_LOST_EXPIRY (R24). -/
def execSlotLostExpiry (n : SlotIx) (s : State) : Host.Outcome State Fault Refusal := takeEvent (slotLostExpiry n) s

/-- NEEDLE_STEP (R33, R37, R38). -/
def execNeedleStep (g : GaugeIx) (s : State) : Host.Outcome State Fault Refusal := takeEvent (needleStep g) s

/-- HOMING_END (R36). -/
def execHomingEnd (g : GaugeIx) (s : State) : Host.Outcome State Fault Refusal := takeEvent (homingEnd g) s

end Sys2Proof.Machine
end

