-- ==== Sys2Proof/Machine/Ignition.lean ====
section
/-! DEFINITION. The commands of the Ignition Supervisor: IDENTIFY, the supply, the lines and the resets (Chapter 9). -/

namespace Sys2Proof.Machine

/-- IDENTIFY (R180). -/
def ownIdentify (_ : Request) (s : State) : State × Response :=
  (s, .answer (be2 0x4410 ++ be1 0x01 ++ be1 s.igs.power.code ++ be1 s.igs.cause.code ++
    be1 s.tau.odometerState.code ++ be1 s.clk.state.code))

/-- IDENTIFY. -/
def execIdentify (s : State) : Host.Outcome State Fault Refusal := takeEvent (serve .identify ownIdentify) s

/-- SUPPLY_RESET (R175): it acts whether the part was supplied or not (log 7). -/
def execSupplyReset (lines : InputLines) (s : State) : Host.Outcome State Fault Refusal :=
  .next (settle (supplyReset lines s))

/-- BATT_BELOW_RETENTION (R168). -/
def execBattBelowRetention (s : State) : Host.Outcome State Fault Refusal := takeEvent losePower s

/-- LINE_RESET (R171). -/
def execLineReset (lines : InputLines) (s : State) : Host.Outcome State Fault Refusal := takeEvent (lineReset lines) s

/-- RUN_ENTRY (R172). -/
def execRunEntry (s : State) : Host.Outcome State Fault Refusal := takeEvent ignitionOn s

/-- PARKED_ENTRY (R172). -/
def execParkedEntry (s : State) : Host.Outcome State Fault Refusal := takeEvent ignitionOff s

/-- CRANK_ON (R170). -/
def execCrankOn (s : State) : Host.Outcome State Fault Refusal := takeEvent crankOn s

/-- CRANK_OFF (R170). -/
def execCrankOff (s : State) : Host.Outcome State Fault Refusal := takeEvent crankOff s

/-- RESET_LINE_HIGH (R171). -/
def execResetLineHigh (s : State) : Host.Outcome State Fault Refusal := takeEvent resetHigh s

end Sys2Proof.Machine
end

