-- ==== Sys2Proof/Machine/Link.lean ====
section
/-! DEFINITION. The commands of the Link Port: SET NOTICE MASK, RESTART, unknown kinds, characters and gaps on HRX, and
the transmitter (Chapter 10). -/

namespace Sys2Proof.Machine

/-- SET NOTICE MASK (R190). -/
def ownSetNoticeMask (r : Request) (s : State) : State × Response :=
  let m := u16 r.body 0
  if 1024 ≤ m then refused .range s
  else emptyAnswer (s.modLkp fun l => { l with
    mask := BitVec.ofNat 10 m
    notices := l.notices.filter fun n => (BitVec.ofNat 10 m).getLsbD n.bit })

/-- SET_NOTICE_MASK. -/
def execSetNoticeMask (s : State) : Host.Outcome State Fault Refusal :=
  takeEvent (serve .setNoticeMask ownSetNoticeMask) s

/-- The requests behind RESTART are answered with ABORTED (R193, step 1). -/
def abortBehind (s : State) : State :=
  (s.lkp.requests.foldl (fun s r => s.reply .ordinary r.kind r.tag (.refuse .aborted)) s).modLkp fun l =>
    { l with requests := [] }

/-- RESTART ends a held pass-through (R164, R193, step 2): one that waits for its retry is not retried. -/
def abortPass (s : State) : State :=
  (endPass (.refuse .aborted) s).modClc fun c =>
    { c with retry := match c.retry with | some (.pass _) => none | k => k }

/-- RESTART (R193). -/
def ownRestart (_ : Request) (s : State) : State × Response :=
  emptyAnswer ((abortPass (abortBehind s)).modLkp fun l => { l with discardAll := true })

/-- RESTART. -/
def execRestart (s : State) : Host.Outcome State Fault Refusal := takeEvent (serve .restart ownRestart) s

/-- UNKNOWN_KIND (R185). -/
def execUnknownKind (s : State) : Host.Outcome State Fault Refusal := takeEvent serveUnknown s

/-- HOST_CHARACTER (R182). -/
def execHostCharacter (value : Byte) (error : Bool) (s : State) : Host.Outcome State Fault Refusal :=
  takeEvent (fun s => s.modLkp (Lkp.receive value error)) s

/-- IDLE_GAP (R182, R183, R184). -/
def execIdleGap (s : State) : Host.Outcome State Fault Refusal := takeEvent idleGap s

/-- The frame that carries RESTART's Answer (R193). -/
def OutFrame.isRestartAnswer (f : OutFrame) : Bool := f.isReply && f.kind = ReqKind.restart.code + 0x40

/-- The last stop bit of the frame being sent (R191, R192); with RESTART's Answer the Restart reset takes effect (R193). -/
def transmissionComplete (lines : InputLines) (s : State) : State :=
  match s.lkp.tx with
  | .sending f =>
    let s1 := s.modLkp (Lkp.frameSent f)
    if f.isRestartAnswer then restartReset lines s1 else s1
  | .idle | .gap => s

/-- TRANSMISSION_COMPLETE (R191). -/
def execTransmissionComplete (lines : InputLines) (s : State) : Host.Outcome State Fault Refusal :=
  takeEvent (transmissionComplete lines) s

/-- Two character times have passed after a frame, or after a reset (R191, log 23). -/
def gapEnd (s : State) : State :=
  s.modLkp fun l => { l with tx := if l.tx = .gap then .idle else l.tx, txHold := false }

/-- GAP_END (R191). -/
def execGapEnd (s : State) : Host.Outcome State Fault Refusal := takeEvent gapEnd s

end Sys2Proof.Machine
end

