-- ==== Sys2Proof/Machine/Pulse.lean ====
section
/-! DEFINITION. The commands of the Pulse Capture Unit (Chapter 1). -/

namespace Sys2Proof.Machine

/-- READ INSTRUMENTS (R22, Table 63), from the standing snapshot. -/
def ownReadInstruments (_ : Request) (s : State) : State × Response :=
  let x := s.pcu.snap
  (s, .answer ((List.finRange 6).flatMap (fun i => be1 x.states[i].code ++ be2 x.freqs[i]) ++ be2 x.roadSpeed ++
    be1 x.roadSource.code ++ be2 x.engineSpeed ++ be2 x.fuelRate ++ be1 (x.disagree.toNat + 2 * x.implausible.toNat)))

/-- READ_INSTRUMENTS. -/
def execReadInstruments (s : State) : Host.Outcome State Fault Refusal :=
  takeEvent (serve .readInstruments ownReadInstruments) s

/-- The fields of SET CHANNEL (R20); none when one is out of range. -/
def channelFields (b : List Byte) : Option (ChannelIx × ChannelConfig) := do
  let ch ← ixOf 6 (u8 b 0)
  let enabled ← flagOf (u8 b 1)
  let polarity ← Polarity.ofCode (u8 b 2)
  let filter ← FilterPeriod.ofCode (u8 b 3)
  let stall ← within 1 64 (u8 b 4)
  let maxFreq ← within 1 6553 (u16 b 5)
  return (ch, { enabled, polarity, filter, stall, maxFreq })

/-- An accepted SET CHANNEL (R20): the channel's samples are loaded (R1); in RUN or CRANK the channel restarts in STILL or goes OFF, and a request naming CH0 or
CH4 sets every cross-check count to 0. -/
def setChannel (p : ChannelIx × ChannelConfig) (s : State) : State × Response :=
  let ch := p.1
  let loaded := s.modInputs (Inputs.loadPulse ch)
  if s.pcu.power = .parked then emptyAnswer (loaded.modChannel ch fun c => { c with cfg := p.2 })
  else
    let s1 := changeChannel ch (fun _ => Channel.restarted p.2) loaded
    emptyAnswer (if ch = 0 ∨ ch = 4 then s1.modPcu fun x => { x with cross := CrossCheck.zero } else s1)

/-- SET CHANNEL (R20). -/
def ownSetChannel (r : Request) (s : State) : State × Response := ranged (channelFields r.body) setChannel s

/-- SET_CHANNEL. -/
def execSetChannel (s : State) : Host.Outcome State Fault Refusal := takeEvent (serve .setChannel ownSetChannel) s

/-- The fields of SET CALIBRATION (R21). -/
def calibrationFields (b : List Byte) : Option Calibration := do
  let kd ← within 1 65535 (u16 b 0)
  let kd2 ← within 1 65535 (u16 b 2)
  let kf ← within 1 255 (u8 b 4)
  let ke ← within 1 24 (u8 b 5)
  let window ← WindowLength.ofCode (u8 b 6)
  return { kd, kd2, kf, ke, window }

/-- A fresh window of the present length with every count at 0 (R21). -/
def Pcu.freshWindow (p : Pcu) : Pcu :=
  { p with
    channels := mapAll (fun c => { c with windowCount := 0, aboveMax := 0, atOrBelow := 0 }) p.channels
    cross := CrossCheck.zero
    gate := some p.cal.window.ms }

/-- An accepted SET CALIBRATION (R21). -/
def setCalibration (cal : Calibration) (s : State) : State × Response :=
  let s1 := s.modPcu fun p => { p with cal, roadResidue := 0, checkResidue := 0, fuelResidue := 0 }
  let s2 := emptyRing (setImplausible false s1)
  emptyAnswer (if s.pcu.power = .parked then s2 else s2.modPcu Pcu.freshWindow)

/-- SET CALIBRATION (R21). -/
def ownSetCalibration (r : Request) (s : State) : State × Response := ranged (calibrationFields r.body) setCalibration s

/-- SET_CALIBRATION. -/
def execSetCalibration (s : State) : Host.Outcome State Fault Refusal :=
  takeEvent (serve .setCalibration ownSetCalibration) s

/-- PULSE_EDGE (R4, R8, R13, R14). -/
def execPulseEdge (ch : ChannelIx) (at10us : Nat) (s : State) : Host.Outcome State Fault Refusal :=
  takeEvent (pulseEdge ch at10us) s

/-- STALL_EXPIRY (R4). -/
def execStallExpiry (ch : ChannelIx) (s : State) : Host.Outcome State Fault Refusal := takeEvent (stallExpiry ch) s

/-- WINDOW_EXPIRY (R6 to R16). -/
def execWindowExpiry (at10us : Nat) (s : State) : Host.Outcome State Fault Refusal := takeEvent (windowExpiry at10us) s

end Sys2Proof.Machine
end

