-- ==== Sys2Proof/Machine/Service.lean ====
section
/-! DEFINITION. The commands of the Service Schedule (Chapter 7). -/

namespace Sys2Proof.Machine

/-- The fields of SET SERVICE ITEM (R138): the item as it is placed, its counts full. -/
def serviceFields (b : List Byte) : Option (ItemIx × ServiceItem) := do
  let i ← ixOf 8 (u8 b 0)
  let enabled ← flagOf (u8 b 1)
  let label ← within 0 15 (u8 b 2)
  let distanceInterval ← optionalOf 0xFFFF (u16 b 3) (within 1 65534)
  let hoursInterval ← optionalOf 0xFFFF (u16 b 5) (within 1 65534)
  let daysInterval ← optionalOf 0xFFFF (u16 b 7) (within 1 3650)
  if enabled ∧ distanceInterval = none ∧ hoursInterval = none ∧ daysInterval = none then none
  else some (i, ServiceItem.fullCounts
    { ServiceItem.supply with enabled, label, distanceInterval, hoursInterval, daysInterval })

/-- SET SERVICE ITEM (R138): the item is replaced whole, its standing state decided afresh. -/
def ownSetServiceItem (r : Request) (s : State) : State × Response :=
  ranged (serviceFields r.body)
    (fun p s => emptyAnswer (changeItem p.1 (fun old => { p.2 with state := old.state }) s)) s

/-- SET_SERVICE_ITEM. -/
def execSetServiceItem (s : State) : Host.Outcome State Fault Refusal :=
  takeEvent (serve .setServiceItem ownSetServiceItem) s

/-- A last-service date in a body (R140). -/
def ServiceDate.fields (d : ServiceDate) : List Byte := be2 d.year ++ be1 d.month ++ be1 d.day

/-- A service item in a body (R140). -/
def ServiceItem.fields (it : ServiceItem) : List Byte :=
  be1 (it.state.code + 16 * it.distanceInterval.isSome.toNat + 32 * it.hoursInterval.isSome.toNat +
      64 * it.daysInterval.isSome.toNat) ++
    optField 3 bes3 it.remainingDistance ++ optField 3 bes3 it.remainingHours ++ optField 2 bes2 it.remainingDays ++
    optField 3 be3 it.lastOdometer ++ optField 4 ServiceDate.fields it.lastDate ++ be1 it.label

/-- READ SERVICE (R140). -/
def ownReadService (r : Request) (s : State) : State × Response :=
  ranged (ixOf 8 (u8 r.body 0)) (fun i s => (s, .answer s.svs.items[i].fields)) s

/-- READ_SERVICE. -/
def execReadService (s : State) : Host.Outcome State Fault Refusal := takeEvent (serve .readService ownReadService) s

/-- The last-service date a service takes (R137): the clock's date while it is SET. -/
def Clk.serviceDate (c : Clk) : Option ServiceDate :=
  match c.state with
  | .set => some { year := c.time.year, month := c.time.month, day := c.time.day }
  | .unset => none

/-- SERVICE DONE on an item (R137, tests 2 to 4 and the accepted effect). -/
def serviceDone (i : ItemIx) (s : State) : State × Response :=
  if s.svs.power = .parked then refused .state s
  else if s.svs.roadLive then refused .moving s
  else if s.svs.items[i].enabled = false then refused .state s
  else emptyAnswer (changeItem i
    (fun it => { it.fullCounts with lastOdometer := some s.tau.odometer, lastDate := s.clk.serviceDate }) s)

/-- SERVICE DONE (R137). -/
def ownServiceDone (r : Request) (s : State) : State × Response := ranged (ixOf 8 (u8 r.body 0)) serviceDone s

/-- SERVICE_DONE. -/
def execServiceDone (s : State) : Host.Outcome State Fault Refusal := takeEvent (serve .serviceDone ownServiceDone) s

end Sys2Proof.Machine
end

