-- ==== Sys2Proof/Machine/Trips.lean ====
section
/-! DEFINITION. The commands of the Trip Accumulator Unit (Chapter 3). -/

namespace Sys2Proof.Machine

/-- A start date in a body (Table 64). -/
def StartDate.fields (d : StartDate) : List Byte := be2 d.year ++ be1 d.month ++ be1 d.day ++ be1 d.hour ++ be1 d.minute

/-- A trip record with its derived values (R54, Table 64). -/
def Trip.fields (t : Trip) : List Byte :=
  be1 t.state.code ++ be3 t.distance ++ be3 t.fuel ++ be3 t.running ++ be3 t.moving ++ be2 t.maxSpeed ++
    be3 t.startOdometer ++ optField 6 StartDate.fields t.startDate ++ optField 2 be2 t.averageSpeed ++
    optField 2 be2 t.economy ++ optField 1 (fun r => be1 r.code) t.resetBy

/-- READ TRIP (R54). -/
def ownReadTrip (r : Request) (s : State) : State × Response :=
  ranged (ixOf 4 (u8 r.body 0)) (fun t s => (s, .answer s.tau.trips[t].fields)) s

/-- READ_TRIP. -/
def execReadTrip (s : State) : Host.Outcome State Fault Refusal := takeEvent (serve .readTrip ownReadTrip) s

/-- The actions of TRIP CONTROL (R46, Table 20). -/
inductive TripAction where
  | reset | pause | resume | close
  deriving DecidableEq, Repr

/-- The codes of Table 20. -/
def TripAction.ofCode : Nat → Option TripAction
  | 0 => some .reset | 1 => some .pause | 2 => some .resume | 3 => some .close
  | _ => none

/-- The state an action other than RESET gives a trip; none where Table 20 refuses it. -/
def TripAction.next (a : TripAction) (st : TripState) : Option TripState :=
  match a, st with
  | .pause, .open => some .paused
  | .resume, .paused => some .open
  | .close, .open => some .closed
  | .close, .paused => some .closed
  | _, _ => none

/-- A trip takes a state by TRIP CONTROL; a change of T3's state is handed (R65). -/
def setTripState (t : TripIx) (st : TripState) (s : State) : State :=
  let s1 := s.modTrip t fun x => { x with state := st }
  if t = 3 then mark .passengerTrip s1 else s1

/-- An accepted pair of fields of TRIP CONTROL acts by the trip's state (R46, Table 20). -/
def tripControl (p : TripIx × TripAction) (s : State) : State × Response :=
  match p.2 with
  | .reset => emptyAnswer (resetTrip p.1 .link s)
  | a =>
    match a.next s.tau.trips[p.1].state with
    | some st => emptyAnswer (setTripState p.1 st s)
    | none => refused .state s

/-- The fields of TRIP CONTROL (R46). -/
def tripControlFields (b : List Byte) : Option (TripIx × TripAction) := do
  let t ← ixOf 4 (u8 b 0)
  let a ← TripAction.ofCode (u8 b 1)
  return (t, a)

/-- TRIP CONTROL (R46). -/
def ownTripControl (r : Request) (s : State) : State × Response := ranged (tripControlFields r.body) tripControl s

/-- TRIP_CONTROL. -/
def execTripControl (s : State) : Host.Outcome State Fault Refusal := takeEvent (serve .tripControl ownTripControl) s

/-- The field of SET DESTINATION (R58): 0 and all ones are absent, 1 .. 999,999 a distance, the rest out of range. -/
def destinationField (d : Nat) : Option (Option Nat) :=
  if d = 0 ∨ d = 0xFFFFFF then some none else (within 1 999999 d).map some

/-- An accepted SET DESTINATION (R58), handed to the CLC (R65). -/
def setDestination (d : Option Nat) (s : State) : State × Response :=
  emptyAnswer (mark .destination (s.modTau fun u => { u with destination := d }))

/-- SET DESTINATION (R58). -/
def ownSetDestination (r : Request) (s : State) : State × Response :=
  ranged (destinationField (u24 r.body 0)) setDestination s

/-- SET_DESTINATION. -/
def execSetDestination (s : State) : Host.Outcome State Fault Refusal :=
  takeEvent (serve .setDestination ownSetDestination) s

/-- READ TOTALS (R64). -/
def ownReadTotals (_ : Request) (s : State) : State × Response :=
  let u := s.tau
  (s, .answer (be3 u.odometer ++ be1 u.odometerState.code ++ be3 u.engineHours ++ optField 3 be3 u.range ++
    optField 2 be2 u.recentEconomy ++ optField 3 be3 u.destination ++
    optField 2 (fun t => be1 t.1 ++ be1 t.2) (eta u s.clk)))

/-- READ_TOTALS. -/
def execReadTotals (s : State) : Host.Outcome State Fault Refusal := takeEvent (serve .readTotals ownReadTotals) s

/-- The records an accepted restore changes in the TAU (R44). -/
def Tau.restore (r : Nat) (u : Tau) : Tau :=
  { u with
    odometer := r + u.accInvalid
    odometerState := .valid
    accInvalid := 0
    trips := mapAll (fun t => { t with startOdometer := (t.startOdometer + r) % Config.odometerModulus }) u.trips }

/-- An accepted RESTORE ODOMETER (R44): the records, the SVS's last-service odometers (R139), and the change of the
odometer state handed to the WTB and the LKP's marker (R43). -/
def restoreOdometer (r : Nat) (s : State) : State :=
  wtbOdometer .valid (lkpOdometer .valid (svsRestore r (s.modTau (Tau.restore r))))

/-- RESTORE ODOMETER (R44). -/
def ownRestoreOdometer (r : Request) (s : State) : State × Response :=
  let v := u24 r.body 0
  match s.tau.odometerState with
  | .valid => refused .locked s
  | .invalid =>
    if 9999999 - s.tau.accInvalid < v then refused .range s
    else (restoreOdometer v s, .answer (be3 (v + s.tau.accInvalid)))

/-- RESTORE_ODOMETER. -/
def execRestoreOdometer (s : State) : Host.Outcome State Fault Refusal :=
  takeEvent (serve .restoreOdometer ownRestoreOdometer) s

/-- The fields of SET FUEL OPTIONS (R56). -/
def fuelFields (b : List Byte) : Option FuelOptions := do
  let slot ← optionalOf 0xFF (u8 b 0) (ixOf 8)
  let threshold ← within 1 65534 (u16 b 1)
  let bucketLength ← within 1 255 (u8 b 3)
  let count ← within 2 8 (u8 b 4)
  let tank := tablePoints true 5 u24 b 5 count
  if increasing tank ∧ tank.all (fun p => p.2 ≤ Config.maxFuel) then some { slot, threshold, bucketLength, tank }
  else none

/-- An accepted SET FUEL OPTIONS (R56): the options, the ring emptied, the level-at-stop taken afresh while the road
source is not LIVE and absent while it is, the range recomputed. -/
def setFuelOptions (o : FuelOptions) (s : State) : State × Response :=
  let s1 := emptyRing (s.modTau fun u => { u with fuel := o })
  let s2 := if s1.tau.roadLive then s1.modTau fun u => { u with levelAtStop := none } else takeLevel s1
  emptyAnswer (recomputeRange s2)

/-- SET FUEL OPTIONS (R56). -/
def ownSetFuelOptions (r : Request) (s : State) : State × Response := ranged (fuelFields r.body) setFuelOptions s

/-- SET_FUEL_OPTIONS. -/
def execSetFuelOptions (s : State) : Host.Outcome State Fault Refusal :=
  takeEvent (serve .setFuelOptions ownSetFuelOptions) s

end Sys2Proof.Machine
end

