-- ==== Sys2Proof/Machine/Warning.lean ====
section
/-! DEFINITION. The commands of the Warning Table (Chapter 5). -/

namespace Sys2Proof.Machine

/-- A value source, the only kind with a threshold and a hysteresis (Table 26). -/
def WarnSource.isValue : WarnSource → Bool
  | .valueAbove _ | .valueBelow _ => true
  | _ => false

/-- A SERVICE source, which cannot latch (R106). -/
def WarnSource.isService : WarnSource → Bool
  | .service _ => true
  | _ => false

/-- The last three checks of SET WARNING (R106). -/
def EntryConfig.consistent (c : EntryConfig) : Bool :=
  (c.source.isValue || (c.threshold = 0 && c.hysteresis = 0)) && 0 ≤ c.hysteresis &&
    (c.pattern.isSome || c.rep.isNone) && !(c.source.isService && c.latching)

/-- The fields of SET WARNING (R106, Table 62). -/
def warningFields (b : List Byte) : Option (EntryIx × EntryConfig) := do
  let w ← ixOf 32 (u8 b 0)
  let enabled ← flagOf (u8 b 1)
  let cls ← ChimeClass.ofCode (u8 b 2)
  let source ← WarnSource.ofCode (u8 b 3) (u8 b 4)
  let gate1 ← Gate.ofCode (u8 b 9)
  let gate2 ← Gate.ofCode (u8 b 10)
  let pattern ← optionalOf 0xFF (u8 b 12) (ixOf 8)
  let dest ← Destination.ofCode (u8 b 13)
  let rep ← optionalOf 0xFFFF (u16 b 14) (within 1 255)
  let lamp ← optionalOf 0xFF (u8 b 16) (ixOf 12)
  let options ← within 0 7 (u8 b 17)
  let c : EntryConfig :=
    { enabled, cls, source, threshold := s16 b 5, hysteresis := s16 b 7, gate1, gate2, qualify := u8 b 11, pattern,
      dest, rep, lamp, latching := options.testBit 0, parkedLive := options.testBit 1, mirrorRear := options.testBit 2 }
  if c.consistent then some (w, c) else none

/-- An accepted SET WARNING (R106, steps 1 to 4). -/
def reconfigureEntry (w : EntryIx) (c : EntryConfig) (s : State) : State :=
  let old := s.wtb.entries[w].state
  let s1 := s.modEntry w fun e => { e with state := .idle, qualifyTimer := none, repeatTimer := none }
  let s2 := if old = .active then removeChime (.warning w) s1 else s1
  evaluateEntry w ((reportEntry w old .idle s2).modEntry w fun _ => Entry.idle c)

/-- SET WARNING (R106). -/
def ownSetWarning (r : Request) (s : State) : State × Response :=
  ranged (warningFields r.body) (fun p s => emptyAnswer (reconfigureEntry p.1 p.2 s)) s

/-- SET_WARNING. -/
def execSetWarning (s : State) : Host.Outcome State Fault Refusal := takeEvent (serve .setWarning ownSetWarning) s

/-- READ WARNINGS (R107). -/
def ownReadWarnings (_ : Request) (s : State) : State × Response :=
  (s, .answer (s.wtb.entries.toList.flatMap fun e => be1 e.state.code))

/-- READ_WARNINGS. -/
def execReadWarnings (s : State) : Host.Outcome State Fault Refusal := takeEvent (serve .readWarnings ownReadWarnings) s

/-- The field of ACKNOWLEDGE (R99): 0xFF is every entry (none). -/
def acknowledgeField (k : Nat) : Option (Option EntryIx) := optionalOf 0xFF k (ixOf 32)

/-- ACKNOWLEDGE (R99). -/
def ownAcknowledge (r : Request) (s : State) : State × Response :=
  ranged (acknowledgeField (u8 r.body 0))
    (fun one s =>
      let q := acknowledgeWhere (fun w _ => one.all fun x => x = w) s
      (q.1, .answer (be1 q.2))) s

/-- ACKNOWLEDGE. -/
def execAcknowledge (s : State) : Host.Outcome State Fault Refusal := takeEvent (serve .acknowledge ownAcknowledge) s

/-- The fields of LINK CONDITION (R90). -/
def linkConditionFields (b : List Byte) : Option (EntryIx × Bool) := do
  let w ← ixOf 32 (u8 b 0)
  let c ← flagOf (u8 b 1)
  return (w, c)

/-- A LINK CONDITION whose fields pass (R90). -/
def linkCondition (p : EntryIx × Bool) (s : State) : State × Response :=
  if s.wtb.entries[p.1].cfg.source = .linkCondition then
    emptyAnswer (evaluateEntry p.1 (s.modEntry p.1 fun e => { e with linkCondition := p.2 }))
  else refused .state s

/-- LINK CONDITION (R90). -/
def ownLinkCondition (r : Request) (s : State) : State × Response := ranged (linkConditionFields r.body) linkCondition s

/-- LINK_CONDITION. -/
def execLinkCondition (s : State) : Host.Outcome State Fault Refusal :=
  takeEvent (serve .linkCondition ownLinkCondition) s

/-- The fields of SET LAMP (R105). -/
def lampFields (b : List Byte) : Option (LampIx × Lamp) := do
  let l ← ixOf 12 (u8 b 0)
  let mode ← LampMode.ofCode (u8 b 1)
  let host ← LampHost.ofCode (u8 b 2)
  return (l, { mode, host })

/-- SET LAMP (R105). -/
def ownSetLamp (r : Request) (s : State) : State × Response :=
  ranged (lampFields r.body)
    (fun p s => emptyAnswer (s.modWtb fun t => { t with lamps := t.lamps.set p.1 p.2 })) s

/-- SET_LAMP. -/
def execSetLamp (s : State) : Host.Outcome State Fault Refusal := takeEvent (serve .setLamp ownSetLamp) s

/-- A switch's record is changed; a change of its state is handed (R84, R85). -/
def changeSwitch (n : SwitchIx) (f : Switch → Switch) (s : State) : State :=
  let s1 := s.modWtb fun t => { t with switches := updAt t.switches n f }
  if s1.wtb.switches[n].active = s.wtb.switches[n].active then s1 else wtbSwitch n s1

/-- The fields of SET SWITCH (R85). -/
def switchFields (b : List Byte) : Option (SwitchIx × Bool) := do
  let n ← ixOf 8 (u8 b 0)
  let high ← flagOf (u8 b 1)
  return (n, high)

/-- SET SWITCH (R85). -/
def ownSetSwitch (r : Request) (s : State) : State × Response :=
  ranged (switchFields r.body)
    (fun p s => emptyAnswer (changeSwitch p.1 (fun w => { w with activeHigh := p.2 }) s)) s

/-- SET_SWITCH. -/
def execSetSwitch (s : State) : Host.Outcome State Fault Refusal := takeEvent (serve .setSwitch ownSetSwitch) s

/-- SWITCH_CHANGE (R84): the filtered level changes, and the switch with it between ACTIVE and INACTIVE. -/
def execSwitchChange (n : SwitchIx) (s : State) : Host.Outcome State Fault Refusal :=
  takeEvent (changeSwitch n fun w => { w with level := !w.level }) s

/-- A PENDING entry's qualify timer expires (R93). -/
def qualifyExpiry (w : EntryIx) (s : State) : State :=
  if s.wtb.entries[w].state = .pending ∧ s.wtb.entries[w].qualifyTimer.isSome then enterActive w s else s

/-- QUALIFY_EXPIRY (R93). -/
def execQualifyExpiry (w : EntryIx) (s : State) : Host.Outcome State Fault Refusal := takeEvent (qualifyExpiry w) s

/-- An ACTIVE entry's repeat timer expires (R96): the timer stops and a new chime request is handed. -/
def repeatExpiry (w : EntryIx) (s : State) : State :=
  if s.wtb.entries[w].state = .active ∧ s.wtb.entries[w].repeatTimer.isSome then
    handWarningChime w (s.modEntry w fun e => { e with repeatTimer := none })
  else s

/-- REPEAT_EXPIRY (R96). -/
def execRepeatExpiry (w : EntryIx) (s : State) : Host.Outcome State Fault Refusal := takeEvent (repeatExpiry w) s

/-- FLASH_PHASE (R103). -/
def execFlashPhase (s : State) : Host.Outcome State Fault Refusal :=
  takeEvent (fun s => s.modWtb fun t => { t with flashLit := !t.flashLit }) s

/-- BULB_CHECK_END (R104). -/
def execBulbCheckEnd (s : State) : Host.Outcome State Fault Refusal :=
  takeEvent (fun s => s.modWtb fun t => { t with bulbCheck := none }) s

end Sys2Proof.Machine
end

