-- ==== Sys2Proof/Machine/Dispatch.lean ====
section
/-! DEFINITION. Each command's meaning, one arm per constructor of Instr. -/

namespace Sys2Proof.Machine

/-- What a command does to everything but the queue of waiting commands. -/
def exec (i : Instr) (s : State) : Host.Outcome State Fault Refusal :=
  match i with
  | .identify => Sys2Proof.Machine.execIdentify s
  | .setNoticeMask => Sys2Proof.Machine.execSetNoticeMask s
  | .restart => Sys2Proof.Machine.execRestart s
  | .readInstruments => Sys2Proof.Machine.execReadInstruments s
  | .setChannel => Sys2Proof.Machine.execSetChannel s
  | .setCalibration => Sys2Proof.Machine.execSetCalibration s
  | .sensorReport => Sys2Proof.Machine.execSensorReport s
  | .setSlot => Sys2Proof.Machine.execSetSlot s
  | .setGauge => Sys2Proof.Machine.execSetGauge s
  | .sweepGauges => Sys2Proof.Machine.execSweepGauges s
  | .readGauges => Sys2Proof.Machine.execReadGauges s
  | .readTrip => Sys2Proof.Machine.execReadTrip s
  | .tripControl => Sys2Proof.Machine.execTripControl s
  | .setDestination => Sys2Proof.Machine.execSetDestination s
  | .readTotals => Sys2Proof.Machine.execReadTotals s
  | .restoreOdometer => Sys2Proof.Machine.execRestoreOdometer s
  | .setFuelOptions => Sys2Proof.Machine.execSetFuelOptions s
  | .readClock => Sys2Proof.Machine.execReadClock s
  | .setClock => Sys2Proof.Machine.execSetClock s
  | .setAlarm => Sys2Proof.Machine.execSetAlarm s
  | .setClockOptions => Sys2Proof.Machine.execSetClockOptions s
  | .setWarning => Sys2Proof.Machine.execSetWarning s
  | .readWarnings => Sys2Proof.Machine.execReadWarnings s
  | .acknowledge => Sys2Proof.Machine.execAcknowledge s
  | .linkCondition => Sys2Proof.Machine.execLinkCondition s
  | .setLamp => Sys2Proof.Machine.execSetLamp s
  | .setSwitch => Sys2Proof.Machine.execSetSwitch s
  | .chime => Sys2Proof.Machine.execChime s
  | .cancelChime => Sys2Proof.Machine.execCancelChime s
  | .setPattern => Sys2Proof.Machine.execSetPattern s
  | .setPrivacy => Sys2Proof.Machine.execSetPrivacy s
  | .setServiceItem => Sys2Proof.Machine.execSetServiceItem s
  | .readService => Sys2Proof.Machine.execReadService s
  | .serviceDone => Sys2Proof.Machine.execServiceDone s
  | .setNode => Sys2Proof.Machine.execSetNode s
  | .coachPass => Sys2Proof.Machine.execCoachPass s
  | .coachReset => Sys2Proof.Machine.execCoachReset s
  | .readNodes => Sys2Proof.Machine.execReadNodes s
  | .setCoachOptions => Sys2Proof.Machine.execSetCoachOptions s
  | .unknownKind => Sys2Proof.Machine.execUnknownKind s
  | .hostCharacter value error => Sys2Proof.Machine.execHostCharacter value error s
  | .idleGap => Sys2Proof.Machine.execIdleGap s
  | .transmissionComplete lines => Sys2Proof.Machine.execTransmissionComplete lines s
  | .gapEnd => Sys2Proof.Machine.execGapEnd s
  | .supplyReset lines => Sys2Proof.Machine.execSupplyReset lines s
  | .battBelowRetention => Sys2Proof.Machine.execBattBelowRetention s
  | .lineReset lines => Sys2Proof.Machine.execLineReset lines s
  | .runEntry => Sys2Proof.Machine.execRunEntry s
  | .parkedEntry => Sys2Proof.Machine.execParkedEntry s
  | .crankOn => Sys2Proof.Machine.execCrankOn s
  | .crankOff => Sys2Proof.Machine.execCrankOff s
  | .pulseEdge ch at10us => Sys2Proof.Machine.execPulseEdge ch at10us s
  | .stallExpiry ch => Sys2Proof.Machine.execStallExpiry ch s
  | .windowExpiry at10us => Sys2Proof.Machine.execWindowExpiry at10us s
  | .slotStaleExpiry n => Sys2Proof.Machine.execSlotStaleExpiry n s
  | .slotLostExpiry n => Sys2Proof.Machine.execSlotLostExpiry n s
  | .needleStep g => Sys2Proof.Machine.execNeedleStep g s
  | .homingEnd g => Sys2Proof.Machine.execHomingEnd g s
  | .secondBoundary => Sys2Proof.Machine.execSecondBoundary s
  | .switchChange n => Sys2Proof.Machine.execSwitchChange n s
  | .qualifyExpiry w => Sys2Proof.Machine.execQualifyExpiry w s
  | .repeatExpiry w => Sys2Proof.Machine.execRepeatExpiry w s
  | .flashPhase => Sys2Proof.Machine.execFlashPhase s
  | .bulbCheckEnd => Sys2Proof.Machine.execBulbCheckEnd s
  | .segmentEnd => Sys2Proof.Machine.execSegmentEnd s
  | .masterFrameSent => Sys2Proof.Machine.execMasterFrameSent s
  | .answerWindowExpiry => Sys2Proof.Machine.execAnswerWindowExpiry s
  | .answerCut => Sys2Proof.Machine.execAnswerCut s
  | .answerComplete => Sys2Proof.Machine.execAnswerComplete s
  | .contention => Sys2Proof.Machine.execContention s
  | .backoffExpiry => Sys2Proof.Machine.execBackoffExpiry s
  | .lineRelease => Sys2Proof.Machine.execLineRelease s
  | .resettingEnd => Sys2Proof.Machine.execResettingEnd s
  | .roundStart => Sys2Proof.Machine.execRoundStart s
  | .sleepStart => Sys2Proof.Machine.execSleepStart s
  | .answerCharacter value mark error => Sys2Proof.Machine.execAnswerCharacter value mark error s
  | .resetLineHigh => Sys2Proof.Machine.execResetLineHigh s

end Sys2Proof.Machine
end

