-- ==== Sys2Proof/Machine/Step.lean ====
section
/-! DEFINITION. One step: the command at the front of the queue is taken; with none waiting the
samplers take the next tick of the input lines. -/

namespace Sys2Proof.Machine

/-- One step (log 1, log 2): the front command runs on the state with the queue's rest; with an empty queue the next tick
of the input lines is taken, and with no tick waiting either the part idles. -/
def step (s : State) : Host.Outcome State Fault Refusal :=
  match s.pending with
  | [] => .next (nextTick s)
  | c :: rest => exec c { s with pending := rest }

/-- A command put at the front of the queue, so that the very next step takes it. -/
def State.withFront (s : State) (c : Instr) : State := { s with pending := c :: s.pending }

/-- The state with the command a table word spells at the front of its queue; unchanged where the word spells none. -/
def State.withFetchWord (s : State) (nbits w : Nat) : State :=
  match decodeTableWord nbits w with
  | some c => s.withFront c
  | none => s

end Sys2Proof.Machine
end

