-- ==== Sys2Proof/Machine/Serial.lean ====
section
/-! DEFINITION. The two serial lines bit by bit: the characters sent on HTX (R181) and on the Coach Line with their mark
bits (R143, R144), the bits read back (R143), and how a receiver finds characters on a line. The commands HOST_CHARACTER,
ANSWER_CHARACTER, MASTER_FRAME_SENT and CONTENTION are what these give (log 3). A level is true for high. -/

namespace Sys2Proof.Machine

/-! ## Sending -/

/-- The data bits of a character, the least significant first (R143, R181). -/
def dataBits (b : Byte) : List Bool := (List.range 8).map b.getLsbD

/-- A host link character (R181): a low start bit, eight data bits, a high stop bit. -/
def hostBits (b : Byte) : List Bool := false :: dataBits b ++ [true]

/-- The bits of a frame on HTX (R181): its characters back to back. -/
def OutFrame.bits (f : OutFrame) : List Bool := f.bytes.flatMap hostBits

/-- The level of HTX in the bit time `bit` from the start of the frame being sent (R181): high between frames. -/
def Lkp.htx (l : Lkp) (bit : Nat) : Bool :=
  match l.tx with
  | .sending f => f.bits.getD bit true
  | .idle | .gap => true

/-- A Coach Line character (R143): a low start bit, eight data bits, the mark bit, a high stop bit. -/
def coachBits (value : Byte) (mark : Bool) : List Bool := false :: dataBits value ++ [mark, true]

/-- The mark bits sent with the characters of a master frame (R144, R200): set on the address character alone. -/
def markedCharacters : List Byte → List (Byte × Bool)
  | [] => []
  | address :: rest => (address, true) :: rest.map fun b => (b, false)

/-- The bits of a master frame on the Coach Line (R143, R144). -/
def Txn.bits (t : Txn) : List Bool := (markedCharacters t.frame).flatMap fun c => coachBits c.1 c.2

/-- What the part drives on the Coach Line in the bit time `bit` from the start of the frame being sent: low throughout
the 25 ms of a Coach reset (R159), the frame's bits while it is sent, and nothing otherwise. -/
def Clc.drives (c : Clc) (bit : Nat) : Option Bool :=
  if c.heldLow then some false
  else match c.txn with
    | some t => if t.phase = .sending then t.bits[bit]? else none
    | none => none

/-- How many bits of a frame the part drives (R143): it stops within the first bit that is read back different. -/
def bitsDriven : List Bool → List Bool → Nat
  | b :: sent, r :: read => if r = b then bitsDriven sent read + 1 else 1
  | _, _ => 0

/-- The command the bits read back bring about (R143, R145): CONTENTION at the first that differs, MASTER_FRAME_SENT once
the last stop bit has been read back, none before that. -/
def readBackCommands : List Bool → List Bool → List Instr
  | [], _ => [.masterFrameSent]
  | b :: sent, r :: read => if r = b then readBackCommands sent read else [.contention]
  | _ :: _, [] => []

/-! ## Receiving -/

/-- The number eight sampled bits carry, the least significant first. -/
def sampledByte (bits : List Samples) : Byte := byteOf (bits.foldr (fun b n => b.level.toNat + 2 * n) 0)

/-- Whether a character of `size` bits carries a noise error or a framing error (R143, R181): the samples of a bit
disagree, or the stop bit is read low. -/
def characterError (size : Nat) (bit : Nat → Samples) : Bool :=
  ((List.range size).any fun k => (bit k).noisy) || !(bit (size - 1)).level

/-- The command a host link character brings about (R181), from the samples of each of its 10 bits. -/
def hostCharacterOf (bit : Nat → Samples) : Instr :=
  .hostCharacter (sampledByte ((List.range 8).map fun k => bit (k + 1))) (characterError 10 bit)

/-- The command a Coach Line character brings about (R143), from the samples of each of its 11 bits: the mark bit stands
before the stop bit. -/
def coachCharacterOf (bit : Nat → Samples) : Instr :=
  .answerCharacter (sampledByte ((List.range 8).map fun k => bit (k + 1))) (bit 9).level (characterError 11 bit)

/-- The three samples about the middle of a bit, of a character that begins at the head of a line observed `rate` times in
a bit time (R143, R181). How far apart the three lie the spec leaves open: the model takes neighbours (log 31). -/
def bitSamples (rate : Nat) (line : List Bool) (k : Nat) : Samples :=
  let middle := k * rate + rate / 2
  { oldest := line.getD (middle - 1) true, middle := line.getD middle true, newest := line.getD (middle + 1) true }

/-- The line from the first falling edge after it has been high for at least one bit time (R143, R181); `high` is for how
long it has been high before. -/
def findCharacter (rate : Nat) : Nat → List Bool → Option (List Bool)
  | _, [] => none
  | high, true :: rest => findCharacter rate (high + 1) rest
  | high, false :: rest => if rate ≤ high then some (false :: rest) else findCharacter rate 0 rest

/-- The commands of the characters of `size` bits on a line, at most `fuel` of them: the search for the next one begins at
the stop bit of the one before, so that characters back to back are found. -/
def characters (rate size : Nat) (read : (Nat → Samples) → Instr) : Nat → List Bool → List Instr
  | 0, _ => []
  | fuel + 1, line =>
    match findCharacter rate 0 line with
    | none => []
    | some c =>
      if c.length < size * rate then []
      else read (bitSamples rate c) :: characters rate size read fuel (c.drop ((size - 1) * rate))

/-- The commands of the characters on HRX (R181). -/
def hostCharacters (rate : Nat) (line : List Bool) : List Instr := characters rate 10 hostCharacterOf line.length line

/-- The commands of the characters of a node on the Coach Line (R143). -/
def coachCharacters (rate : Nat) (line : List Bool) : List Instr := characters rate 11 coachCharacterOf line.length line

end Sys2Proof.Machine
end

