-- ==== Sys2Proof/Safety.lean ====
section
/-! DEFINITION. What the statements speak of: which parts of the state a command may change, when the dispatcher serves a
request, when a warning entry stands as its condition leaves it, and the invariants that every step keeps. -/

namespace Sys2Proof.Machine

/-! ## Frames -/

/-- The parts of the state. -/
inductive Part where
  | igs | pcu | gdu | tau | clk | wtb | chs | svs | clc | lkp | inputs | free | pending
  deriving DecidableEq, Repr

/-- A part holds the same in two states. -/
def Part.Same (p : Part) (s t : State) : Prop :=
  match p with
  | .igs => t.igs = s.igs
  | .pcu => t.pcu = s.pcu
  | .gdu => t.gdu = s.gdu
  | .tau => t.tau = s.tau
  | .clk => t.clk = s.clk
  | .wtb => t.wtb = s.wtb
  | .chs => t.chs = s.chs
  | .svs => t.svs = s.svs
  | .clc => t.clc = s.clc
  | .lkp => t.lkp = s.lkp
  | .inputs => t.inputs = s.inputs
  | .free => t.free = s.free
  | .pending => t.pending = s.pending

/-- Every part but the listed ones holds the same in two states. -/
def OnlyChanges (ps : List Part) (s t : State) : Prop := ∀ p, p ∉ ps → p.Same s t

/-! ## Requests -/

/-- The row of the opcode table that takes a request of a kind. -/
def ReqKind.row : ReqKind → Instr
  | .identify => .identify
  | .setNoticeMask => .setNoticeMask
  | .restart => .restart
  | .readInstruments => .readInstruments
  | .setChannel => .setChannel
  | .setCalibration => .setCalibration
  | .sensorReport => .sensorReport
  | .setSlot => .setSlot
  | .setGauge => .setGauge
  | .sweepGauges => .sweepGauges
  | .readGauges => .readGauges
  | .readTrip => .readTrip
  | .tripControl => .tripControl
  | .setDestination => .setDestination
  | .readTotals => .readTotals
  | .restoreOdometer => .restoreOdometer
  | .setFuelOptions => .setFuelOptions
  | .readClock => .readClock
  | .setClock => .setClock
  | .setAlarm => .setAlarm
  | .setClockOptions => .setClockOptions
  | .setWarning => .setWarning
  | .readWarnings => .readWarnings
  | .acknowledge => .acknowledge
  | .linkCondition => .linkCondition
  | .setLamp => .setLamp
  | .setSwitch => .setSwitch
  | .chime => .chime
  | .cancelChime => .cancelChime
  | .setPattern => .setPattern
  | .setPrivacy => .setPrivacy
  | .setServiceItem => .setServiceItem
  | .readService => .readService
  | .serviceDone => .serviceDone
  | .setNode => .setNode
  | .coachPass => .coachPass
  | .coachReset => .coachReset
  | .readNodes => .readNodes
  | .setCoachOptions => .setCoachOptions

/-- The part has supply, its oldest request has this kind byte, tag and body, and the reply queue has the room R185 asks
for that kind. -/
abbrev ServesKind (kind tag : Byte) (body : List Byte) (s : State) : Prop :=
  s.igs.supplied = true ∧ s.lkp.requests.head? = some { kind, tag, body } ∧ s.lkp.hasRoom kind = true

/-- `ServesKind` for a request kind of Table 60. -/
abbrev Serves (k : ReqKind) (tag : Byte) (body : List Byte) (s : State) : Prop := ServesKind k.code tag body s

/-- The event of a request of kind `k` ends: the Answer with these fields is placed in an ordinary entry (R185, R188). -/
def answered (k : ReqKind) (tag : Byte) (fields : List Byte) (s : State) : State :=
  settle (s.reply .ordinary k.code tag (.answer fields))

/-- The event that refuses the oldest request: it leaves the buffer, nothing is applied, and the Refusal with this reason
and kind is placed in an ordinary entry (R185, R188). -/
def turnedDown (kind tag : Byte) (reason : Reason) (s : State) : State :=
  settle ((takeRequest s).reply .ordinary kind tag (.refuse reason))

/-- What the host sees of a reply, apart from its status byte: its entry, kind, tag and fields. -/
def Reply.content (r : Reply) : ReplyEntry × Byte × Byte × List Byte := (r.entry, r.kind, r.tag, r.fields)

/-! ## Kept Memory -/

/-- The records of Table 52 hold the same in two states. -/
structure KeptMemorySame (s t : State) : Prop where
  channels : ∀ ch : ChannelIx, t.pcu.channels[ch].cfg = s.pcu.channels[ch].cfg
  calibration : t.pcu.cal = s.pcu.cal
  residues : t.pcu.roadResidue = s.pcu.roadResidue ∧ t.pcu.checkResidue = s.pcu.checkResidue ∧
    t.pcu.fuelResidue = s.pcu.fuelResidue
  slots : ∀ n : SlotIx, t.gdu.slots[n].staleTime = s.gdu.slots[n].staleTime ∧
    t.gdu.slots[n].lostTime = s.gdu.slots[n].lostTime
  gauges : ∀ g : GaugeIx, t.gdu.gauges[g].cfg = s.gdu.gauges[g].cfg
  trips : { t.tau with power := .parked, engineRunning := false, roadLive := false, range := none } =
    { s.tau with power := .parked, engineRunning := false, roadLive := false, range := none }
  clock : t.clk = s.clk
  switches : ∀ n : SwitchIx, t.wtb.switches[n].activeHigh = s.wtb.switches[n].activeHigh
  entries : ∀ w : EntryIx, t.wtb.entries[w].cfg = s.wtb.entries[w].cfg
  lamps : ∀ l : LampIx, t.wtb.lamps[l].mode = s.wtb.lamps[l].mode
  patterns : t.chs.patterns = s.chs.patterns
  items : ∀ i : ItemIx, { t.svs.items[i] with state := .off } = { s.svs.items[i] with state := .off }
  nodes : ∀ n : NodeIx, t.clc.nodes[n].enabled = s.clc.nodes[n].enabled ∧
    t.clc.nodes[n].address = s.clc.nodes[n].address ∧ t.clc.nodes[n].nodeAlias = s.clc.nodes[n].nodeAlias ∧
    t.clc.nodes[n].kind = s.clc.nodes[n].kind ∧ t.clc.nodes[n].mirrorSet = s.clc.nodes[n].mirrorSet
  coachOptions : t.clc.roundPeriod = s.clc.roundPeriod ∧ t.clc.callPattern = s.clc.callPattern ∧
    t.clc.outsideSlot = s.clc.outsideSlot

/-! ## Link Port -/

/-- R189: at most 12 notices, no two of one kind and subject, none of a kind that is off. -/
abbrev NoticeQueueOk (l : Lkp) : Prop :=
  l.notices.length ≤ Config.noticeQueueSize ∧ (l.notices.map Notice.key).Nodup ∧
    ∀ n ∈ l.notices, l.mask.getLsbD n.bit = true

/-- R191: while a reply is being sent it still occupies its entry, the oldest of the reply queue. -/
def sendingOk (l : Lkp) : Bool :=
  match l.tx with
  | .sending f => !f.isReply || l.replies.head?.any fun r => r.kind = f.kind && r.tag = f.tag && r.fields = f.fields
  | .idle | .gap => true

/-- R182, R184, R186, R187: the receiver holds at most 52 bytes, the buffer at most 2 requests, the reply queue at most 2
ordinary replies and 1 reserved one, and the reserved entry is free while a pass-through is held. -/
abbrev LinkQueuesOk (s : State) : Prop :=
  s.lkp.rxBytes.length ≤ Config.maxFrame ∧ s.lkp.requests.length ≤ Config.requestBufferSize ∧
    s.lkp.ordinaryHeld ≤ Config.ordinaryEntries ∧ (s.lkp.replies.countP fun r => r.entry = .reserved) ≤ 1 ∧
    (s.clc.pass.isSome = true → s.lkp.reservedFree = true) ∧ sendingOk s.lkp = true

/-- The end of every event leaves no work undone: every reply has its status byte (R192), an IDLE transmitter that need
not wait has neither a reply nor a notice to send (R191), and a free line has no transaction waiting (R150). -/
abbrev NoWorkUndone (s : State) : Prop :=
  (∀ r ∈ s.lkp.replies, r.sealed.isSome = true) ∧
    (s.lkp.tx = .idle → s.lkp.txHold = false → s.lkp.replies = [] ∧ s.lkp.notices = []) ∧
    (s.clc.lineFree = true →
      s.clc.retry = none ∧ (∀ p ∈ s.clc.pass, p.phase ≠ .waiting) ∧ s.clc.firstDue = none ∧ s.clc.mirrorQueue = [])

/-! ## Chime Sequencer -/

/-- R109, R111: a pass count of 1 to 15, or WHILE_ACTIVE. -/
def Passes.ok : Passes → Bool
  | .times n => 1 ≤ n && n ≤ 15
  | .whileActive => true

/-- R109: 1 to 8 segments of 10 to 2550 ms, and a pass count of 1 to 15 where it counts. -/
abbrev PatternOk (p : Pattern) : Prop :=
  1 ≤ p.segments.length ∧ p.segments.length ≤ 8 ∧ (∀ g ∈ p.segments, 1 ≤ g.duration ∧ g.duration ≤ 255) ∧
    p.passes.ok = true

/-- R111: at most 8 requests, no two from one source, in queue order, each with a pass left and with an arrival below the
next one. -/
abbrev ChimeQueueOk (c : Chs) : Prop :=
  (∀ p : PatternIx, PatternOk c.patterns[p]) ∧ c.queue.length ≤ Config.chimeQueueSize ∧
    (c.queue.map fun r => r.source).Nodup ∧ c.queue.Pairwise (fun a b => a.before b = true) ∧
    ∀ r ∈ c.queue, r.arrival < c.nextArrival ∧ (r.source = .link ↔ r.tag.isSome = true) ∧ r.passes.ok = true

/-- R111, R115, R116, R121: the player is SILENT in CRANK; what it plays is a segment of a queued request that may play,
its timer loaded with that segment's duration; it is SILENT outside CRANK only when no queued request may play. -/
abbrev PlayerOk (c : Chs) : Prop :=
  (c.power = .crank → c.player = none) ∧
    (∀ p ∈ c.player, ∃ r ∈ c.queue, r.source = p.source ∧ mayPlay c.privacy r = true ∧
      (c.patterns[r.pattern].segments[p.segment]?).map (fun g => g.duration) = some p.timer) ∧
    (c.power ≠ .crank → c.player = none → ∀ r ∈ c.queue, mayPlay c.privacy r = false)

/-- R111: every queued request whose source is a warning entry belongs to an entry in the ACTIVE state. -/
abbrev WarningChimesActive (s : State) : Prop :=
  ∀ w : EntryIx, s.chs.holds (.warning w) = true → s.wtb.entries[w].state = .active

/-- The chime invariant. -/
abbrev ChimesOk (s : State) : Prop := ChimeQueueOk s.chs ∧ PlayerOk s.chs ∧ WarningChimesActive s

/-! ## Warning Table -/

/-- R86, R93, R95: a PENDING entry's qualify timer runs and no other's; only an ACTIVE entry's repeat timer runs; a
disabled entry is IDLE; a repeat interval stands only beside a pattern, and a SERVICE entry does not latch. -/
abbrev EntryOk (e : Entry) : Prop :=
  (e.qualifyTimer.isSome = true ↔ e.state = .pending) ∧ (e.repeatTimer.isSome = true → e.state = .active) ∧
    (e.cfg.enabled = false → e.state = .idle) ∧ e.cfg.consistent = true

/-- R92, R93, R100: in PARKED an entry that is not parked-live stands IDLE, and one gated by RUN stands IDLE or RESOLVED. -/
abbrev EntryParkedOk (power : PowerState) (e : Entry) : Prop :=
  power = .parked → (e.cfg.parkedLive = false → e.state = .idle) ∧
    (e.cfg.gate1 = .run ∨ e.cfg.gate2 = .run → e.state = .idle ∨ e.state = .resolved)

/-- The warning invariant. -/
abbrev EntriesOk (s : State) : Prop :=
  ∀ w : EntryIx, EntryOk s.wtb.entries[w] ∧ EntryParkedOk s.wtb.view.power s.wtb.entries[w]

/-- The entry's condition, by the WTB's own copies (R91). -/
def Wtb.holds (t : Wtb) (e : Entry) : Bool :=
  e.cfg.enabled && t.sourceCondition e && t.gateTrue e.cfg.gate1 && t.gateTrue e.cfg.gate2

/-- Where an evaluation takes an entry: the columns "condition true" and "condition false" of Table 29 (R93). -/
def Entry.moved (e : Entry) (holds : Bool) : EntryState :=
  match e.state, holds with
  | .idle, true => if e.cfg.qualify = 0 then .active else .pending
  | .pending, false => .idle
  | .active, false => if e.cfg.latching then .resolved else .idle
  | .acked, false => .idle
  | .resolved, true => .active
  | .idle, false | .pending, true | .active, true | .acked, true | .resolved, false => e.state

/-- R92: an enabled entry whose named changes evaluate it, being parked-live or outside PARKED. -/
abbrev Wtb.watches (t : Wtb) (e : Entry) : Prop :=
  e.cfg.enabled = true ∧ (t.view.power ≠ .parked ∨ e.cfg.parkedLive = true)

/-- R92, R93: no change is left unevaluated. Of every entry that its changes evaluate, the source memory is the source
condition of the present copies, and the state is one in which the present condition leaves it. -/
abbrev EntriesCurrent (t : Wtb) : Prop :=
  ∀ w : EntryIx, t.watches t.entries[w] →
    t.entries[w].memory = t.sourceCondition t.entries[w] ∧ t.entries[w].moved (t.holds t.entries[w]) = t.entries[w].state

/-! ## Service Schedule -/

/-- R130: a remaining count lies between its floor and its interval. -/
abbrev CountOk (interval : Option Nat) (remaining : Option Int) : Prop :=
  remaining.isSome = interval.isSome ∧ ∀ i ∈ interval, ∀ r ∈ remaining, countFloor i ≤ r ∧ r ≤ (i : Int)

/-- R129, R130, R131: a count is present with its interval, between its floor and it, and the state is the one R131
decides. -/
abbrev ItemOk (it : ServiceItem) : Prop :=
  it.state = it.decided ∧ CountOk it.distanceDu it.remainingDistance ∧ CountOk it.hoursInterval it.remainingHours ∧
    CountOk it.daysInterval it.remainingDays ∧ (it.enabled = true → it.counts ≠ [])

/-- The service invariant. -/
abbrev ServiceItemsOk (v : Svs) : Prop := ∀ i : ItemIx, ItemOk v.items[i]

/-! ## Gauges -/

/-- R41: the argument of FIXED lies in 0 .. 255. -/
def GaugeSource.argOk : GaugeSource → Bool
  | .fixed arg => arg ≤ 255
  | _ => true

/-- R28, R41: the ranges of a gauge's configuration. -/
abbrev GaugeConfigOk (c : GaugeConfig) : Prop :=
  1 ≤ c.fullScale ∧ c.fullScale ≤ 1080 ∧ 20 ≤ c.slew ∧ c.slew ≤ 2400 ∧ c.damping ∈ [1, 2, 4, 8, 16] ∧
    2 ≤ c.table.length ∧ c.table.length ≤ 8 ∧ increasing c.table = true ∧ (∀ p ∈ c.table, p.2 ≤ c.fullScale) ∧
    c.source.argOk = true

/-- R28, R30, R32, R33, R36, R37, R42: the present angle and the target stay within 0 and the full scale, the buffer
within the damping depth; a phase stands only in SWEEP and a homing time only in HOMING; a needle is of unknown position
in HOMING, of known position in every other state but PARKING, and at 0 in REST; in VOID, REST, HOMING and PARKING its
target is 0. -/
abbrev GaugeOk (g : Gauge) : Prop :=
  GaugeConfigOk g.cfg ∧ (∀ a ∈ g.present, a ≤ g.cfg.fullScale) ∧ g.target ≤ g.cfg.fullScale ∧
    g.buffer.length ≤ g.cfg.damping ∧ (g.phase.isSome = true ↔ g.state = .sweep) ∧
    (g.homingLeft.isSome = true ↔ g.state = .homing) ∧ (g.state = .homing → g.present = none) ∧
    (g.present = none → g.state = .homing ∨ g.state = .parking) ∧ (g.state = .rest → g.present = some 0) ∧
    (g.state = .void ∨ g.state = .rest ∨ g.state = .homing ∨ g.state = .parking → g.target = 0)

/-- R37: a sweep has every gauge in SWEEP, and it lasts until the last of them waits. -/
abbrev SweepOk (d : Gdu) : Prop :=
  (∃ g : GaugeIx, d.gauges[g].state = .sweep) →
    (∀ g : GaugeIx, d.gauges[g].state = .sweep) ∧ ∃ g : GaugeIx, d.gauges[g].phase ≠ some .wait

/-- The gauges are PARKING or at REST in PARKED, and only there (R35, R38); a parking is in progress in PARKED alone
(R38). -/
abbrev GaugesOk (d : Gdu) : Prop :=
  (∀ g : GaugeIx, GaugeOk d.gauges[g] ∧
    (d.power = .parked ↔ d.gauges[g].state = .rest ∨ d.gauges[g].state = .parking)) ∧
    (d.parking = true → d.power = .parked) ∧ SweepOk d

/-- R24: the stale timer runs in FRESH alone and the lost timer in STALE alone. -/
abbrev SlotsOk (d : Gdu) : Prop :=
  ∀ n : SlotIx, (d.slots[n].staleTimer.isSome = true ↔ d.slots[n].state = .fresh) ∧
    (d.slots[n].lostTimer.isSome = true ↔ d.slots[n].state = .stale)

/-! ## Calendar Clock -/

/-- R66, R67, R77: the clock shows a time that exists, the trim lies in its range, and so do the alarms' times. -/
abbrev ClockOk (c : Clk) : Prop :=
  c.time.valid = true ∧ -31 ≤ c.trim ∧ c.trim ≤ 31 ∧
    ∀ a : AlarmIx, c.alarms[a].hour ≤ 23 ∧ c.alarms[a].minute ≤ 59

/-! ## Pulse Capture Unit -/

/-- R3, R4, R8: the fields of a channel by its state. -/
abbrev ChannelOk (c : Channel) : Prop :=
  (c.stallTimer.isSome = true ↔ c.state = .live ∨ c.state = .fault) ∧
    (c.state = .off ∨ c.state = .still →
      c.mode = .period ∧ c.lastPeriod = none ∧ c.latestEdge = none ∧ c.lastFreq = 0 ∧ c.aboveMax = 0 ∧
        c.atOrBelow = 0) ∧
    (c.state = .live → c.aboveMax ≤ 1) ∧ (c.state = .fault → c.atOrBelow ≤ 1) ∧ c.windowCount ≤ 65535 ∧
    c.lastFreq ≤ Config.maxFrequency ∧ (∀ p ∈ c.lastPeriod, p ≤ Config.maxPeriod)

/-- R6, R17, R18: in PARKED every channel is OFF, the gate timer stopped, the source CH0 and the snapshot idle; in RUN and
CRANK the gate timer runs and a channel is OFF exactly while it is disabled. -/
abbrev PulsePowerOk (p : Pcu) : Prop :=
  if p.power = .parked then
    (∀ ch : ChannelIx, p.channels[ch].state = .off) ∧ p.gate = none ∧ p.roadSource = .ch0 ∧ p.snap = Snapshot.idle
  else p.gate.isSome = true ∧ ∀ ch : ChannelIx, p.channels[ch].state = .off ↔ p.channels[ch].cfg.enabled = false

/-- R13, R14: each residue lies within its divisor; the fuel-implausible condition is set at the floor and clear from 0
up. -/
abbrev DividersOk (p : Pcu) : Prop :=
  p.roadResidue < p.cal.kd ∧ p.checkResidue < p.cal.kd2 ∧ -(p.cal.kf : Int) ≤ p.fuelResidue ∧
    p.fuelResidue < (p.cal.kf : Int) ∧ (p.fuelResidue = -(p.cal.kf : Int) → p.implausible = true) ∧
    (0 ≤ p.fuelResidue → p.implausible = false)

/-- R15, R16: the counts stay below the figure at which they act or at it, and the speeds disagree only while CH0 and CH4
are both LIVE. -/
abbrev CrossCheckOk (p : Pcu) : Prop :=
  p.cross.disagreeing ≤ 3 ∧ p.cross.agreeing ≤ 3 ∧ p.cross.fallback < 3 ∧ p.cross.returning < 3 ∧
    (p.disagree = true → p.bothLive = true)

/-- The pulse invariant. -/
abbrev PulseOk (p : Pcu) : Prop :=
  (∀ ch : ChannelIx, ChannelOk p.channels[ch]) ∧ PulsePowerOk p ∧ DividersOk p ∧ CrossCheckOk p

/-! ## Trip Accumulator Unit -/

/-- R45: the maxima of a trip's fields. -/
abbrev TripOk (t : Trip) : Prop :=
  t.distance ≤ Config.maxTripDistance ∧ t.fuel ≤ Config.maxFuel ∧ t.running ≤ Config.maxSeconds ∧
    t.moving ≤ t.running ∧ t.maxSpeed ≤ Config.maxSpeed ∧ t.startOdometer < Config.odometerModulus

/-- R55: the maxima of a bucket's fuel and seconds. -/
abbrev BucketOk (b : Bucket) : Prop := b.fuel ≤ Config.maxFuel ∧ b.seconds ≤ 65535

/-- R43, R50, R55, R56, R58: the ranges of the records; at most 16 closed buckets, each of the bucket length, and the open
one below it. -/
abbrev TripsOk (u : Tau) : Prop :=
  u.odometer < Config.odometerModulus ∧ u.accInvalid < Config.odometerModulus ∧
    (u.odometerState = .valid → u.accInvalid = 0) ∧ u.engineHours ≤ Config.maxEngineHours ∧
    u.engineResidue < Config.engineTenth ∧ (∀ t : TripIx, TripOk u.trips[t]) ∧ u.ring.length ≤ Config.ringSize ∧
    (∀ b ∈ u.ring, b.distance = u.fuel.bucketLength ∧ BucketOk b) ∧ u.bucket.distance < u.fuel.bucketLength ∧
    BucketOk u.bucket ∧ ∀ d ∈ u.destination, 1 ≤ d ∧ d ≤ 999999

/-- R57: the range the TAU holds is the one its records and the fuel slot give. -/
abbrev RangeCurrent (s : State) : Prop := s.tau.range = computedRange s

/-! ## Coach Line Controller -/

/-- R154, R155: the mirror queue never holds a pair twice, holds pairs of PRESENT slots alone, and is empty unless the
line is RUNNING or in BACKOFF. -/
abbrev MirrorQueueOk (c : Clc) : Prop :=
  c.mirrorQueue.Nodup ∧ (∀ p ∈ c.mirrorQueue, c.nodes[p.1].state = .present) ∧
    (c.mirrorQueue ≠ [] → c.line.up = true)

/-- R146, R147, R148: the ranges of a slot's fields; it is DISABLED exactly while it is not enabled. -/
abbrev NodeOk (nd : Node) : Prop :=
  1 ≤ nd.address ∧ nd.address ≤ 30 ∧ 1 ≤ nd.nodeAlias ∧ nd.nodeAlias ≤ 30 ∧ nd.misses ≤ Config.lostMisses ∧
    nd.lostRounds < 8 ∧ (nd.state = .disabled ↔ nd.enabled = false) ∧ (nd.due = true → nd.state ≠ .disabled)

/-- R148: no two enabled slots share an address or an alias. -/
abbrev NodeTableOk (c : Clc) : Prop :=
  (∀ n : NodeIx, NodeOk c.nodes[n]) ∧
    ∀ m n : NodeIx, m ≠ n → c.nodes[m].enabled = true → c.nodes[n].enabled = true →
      c.nodes[m].address ≠ c.nodes[n].address ∧ c.nodes[m].nodeAlias ≠ c.nodes[n].nodeAlias

/-- R149, R151, R157, R158, R159, R160: what runs in each line state. -/
abbrev LineOk (c : Clc) : Prop :=
  (c.roundTimer.isSome = true ↔ c.line.up = true) ∧ (c.backoffTimer.isSome = true ↔ c.line = .backoff) ∧
    (c.heldLow = true → c.line = .resetting) ∧ (c.sleepWaiting = true → c.line = .off) ∧
    (c.power = .parked ↔ c.line = .off) ∧ (c.line.up = true → c.contentions < Config.faultContentions) ∧
    (c.line = .resetting → c.contentions = 0) ∧
    (∀ n : NodeIx, c.nodes[n].due = true → c.line.up = true)

/-- A transaction that carries a pass-through. -/
def TxnKind.isPass : TxnKind → Bool
  | .pass _ => true
  | _ => false

/-- R144, R157, R160, R161, R163: a SLEEP frame is sent on a line that is OFF, any other transaction on one that is RUNNING;
one that waits for its retry is no SLEEP frame, has the line to itself and, a poll or a mirror write, keeps its slot's due
flag cleared; a held pass-through stands while the line is up, and is IN_FLIGHT only with its transaction. -/
abbrev TransactionOk (c : Clc) : Prop :=
  (∀ t ∈ c.txn, if t.kind = .sleep then c.line = .off else c.line = .running) ∧
    (c.retry ≠ none → c.txn = none ∧ c.line.up = true) ∧ c.retry ≠ some .sleep ∧
    (∀ k ∈ c.retry, ∀ n ∈ k.polled, c.nodes[n].due = false) ∧ (c.pass ≠ none → c.line.up = true) ∧
    ∀ p ∈ c.pass, p.data.length ≤ 16 ∧ (p.phase = .inFlight → (c.txn.any fun t => t.kind.isPass) = true)

/-- The Coach Line invariant. -/
abbrev CoachLineOk (c : Clc) : Prop := MirrorQueueOk c ∧ NodeTableOk c ∧ LineOk c ∧ TransactionOk c

/-- R154: an event that marks an item leaves its pair in the mirror queue for every PRESENT slot whose mirror set holds the
item, while the line is RUNNING or in BACKOFF. -/
abbrev Marked (item : MirrorItem) (s t : State) : Prop :=
  s.clc.line = .running ∨ s.clc.line = .backoff → ∀ n : NodeIx, s.clc.nodes[n].state = .present →
    s.clc.nodes[n].mirrorSet.getLsbD item.code = true → (n, item) ∈ t.clc.mirrorQueue

/-! ## Copies -/

/-- R172: every block's copy of the power state is the IGS's. -/
abbrev PowerCopiesOk (s : State) : Prop :=
  s.pcu.power = s.igs.power ∧ s.gdu.power = s.igs.power ∧ s.tau.power = s.igs.power ∧
    s.wtb.view.power = s.igs.power ∧ s.chs.power = s.igs.power ∧ s.svs.power = s.igs.power ∧
    s.clc.power = s.igs.power ∧ s.lkp.power = s.igs.power

/-- The power state of the IGS and of every block's copy. -/
abbrev AllIn (p : PowerState) (s : State) : Prop := s.igs.power = p ∧ PowerCopiesOk s

/-- R5, R87: what the blocks hold of the PCU's states is what the PCU has. -/
abbrev PulseCopiesOk (s : State) : Prop :=
  s.tau.engineRunning = s.pcu.engineRunning ∧ s.wtb.view.engineRunning = s.pcu.engineRunning ∧
    s.tau.roadLive = s.pcu.roadLive ∧ s.wtb.view.roadLive = s.pcu.roadLive ∧ s.svs.roadLive = s.pcu.roadLive ∧
    s.clc.roadLive = s.pcu.roadLive ∧ s.wtb.view.disagree = s.pcu.disagree ∧
    s.wtb.view.implausible = s.pcu.implausible ∧
    ∀ ch : ChannelIx, s.gdu.view.channels[ch] = s.pcu.channels[ch].state ∧
      s.wtb.view.channels[ch] = s.pcu.channels[ch].state

/-- R87, R192: what the WTB and the LKP hold of the other blocks' states is what those blocks have. -/
abbrev StateCopiesOk (s : State) : Prop :=
  s.wtb.view.odometer = s.tau.odometerState ∧ s.wtb.view.clock = s.clk.state ∧ s.wtb.view.line = s.clc.line ∧
    s.wtb.view.range = s.tau.range ∧ s.lkp.odometerInvalid = decide (s.tau.odometerState = .invalid) ∧
    s.lkp.clockUnset = decide (s.clk.state = .unset) ∧
    (∀ i : ItemIx, s.wtb.view.items[i] = s.svs.items[i].state) ∧
    (∀ n : NodeIx, s.wtb.view.nodes[n] = s.clc.nodes[n].state) ∧
    ∀ n : SlotIx, s.wtb.view.slotStates[n] = s.gdu.slots[n].state ∧ s.wtb.view.slotValues[n] = s.gdu.slots[n].value

end Sys2Proof.Machine
end

