-- ==== Sys2Proof/Certificates/Slice0/Obligations.lean ====
section
/-! DEFINITION. The statements for the provers: what a command and the part do, rule by rule. -/

open Sys2Proof Sys2Proof.Machine

/-! ## Steps and events -/

/-- O1: a step takes the front command and runs it on the state with the queue's rest (log 1); with no command waiting
the oldest tick of the input lines is taken, which changes what the samplers hold and appends commands to the queue, and
with no tick waiting either nothing changes (log 2). The order of commands, and the tick in place of idling, are the
model's choice. -/
def Obligations.StepRunsFrontCommand : Prop :=
  (∀ (c : Instr) (rest : List Instr) (s : State), step { s with pending := c :: rest } = exec c { s with pending := rest }) ∧
  (∀ s : State, s.pending = [] → s.inputs.ticks = [] → step s = .next s) ∧
  ∀ (raw : RawLines) (rest : List RawLines) (s : State), s.pending = [] → s.inputs.ticks = raw :: rest →
    ∃ t, step s = .next t ∧ OnlyChanges [.inputs, .pending] s t ∧ t.inputs.ticks = rest ∧
      t.inputs.now = s.inputs.now + 1 ∧ t.inputs.raw = raw

/-- O2: every command answers a next state in every state (log 16) and leaves the queue of the commands behind it as it
is; without supply nothing but a Supply reset happens (R168). -/
def Obligations.EveryCommandAnswersNext : Prop :=
  ∀ (c : Instr) (s : State), ∃ t, exec c s = .next t ∧ t.pending = s.pending ∧
    (s.igs.supplied = false → (∀ lines, c ≠ .supplyReset lines) → t = s)

/-- O3: the end of an event (R150, R191, R192) touches the Coach Line's waiting work, the replies, the notices and the
transmitter alone; with the line not free it touches nothing of the Coach Line. A reply is placed as the newest, behind
every reply that waits, with only a pass-through's reply of the same event behind it; an Answer has the request's kind
plus 0x40 and its fields, a Refusal the kind 0x7F with the reason and the refused kind (R187, R188); its status byte is
that of the end of the event (R192). -/
def Obligations.EventsEnd : Prop :=
  (∀ s : State, OnlyChanges [.clc, .lkp, .free] s (settle s) ∧
    (s.clc.lineFree = false → OnlyChanges [.lkp] s (settle s)) ∧
    { (settle s).clc with nodes := s.clc.nodes, mirrorQueue := s.clc.mirrorQueue, txn := s.clc.txn, retry := s.clc.retry,
                          pass := s.clc.pass } = s.clc ∧
    (∀ n : NodeIx, { (settle s).clc.nodes[n] with due := false } = { s.clc.nodes[n] with due := false }) ∧
    { (settle s).lkp with replies := s.lkp.replies, notices := s.lkp.notices, tx := s.lkp.tx } = s.lkp ∧
    ((settle s).lkp.notices = s.lkp.notices ∨ (settle s).lkp.notices = s.lkp.notices.tail)) ∧
  ∀ (kind tag : Byte) (s : State),
    (∀ fields : List Byte, ∃ more, ((settle (s.reply .ordinary kind tag (.answer fields))).lkp.replies.map Reply.content) =
        s.lkp.replies.map Reply.content ++ (.ordinary, kind + 0x40, tag, fields) :: more ∧
      ∀ x ∈ more, x.1 = .reserved) ∧
    (∀ reason : Reason, ∃ more, ((settle (s.reply .ordinary kind tag (.refuse reason))).lkp.replies.map Reply.content) =
        s.lkp.replies.map Reply.content ++ (.ordinary, 0x7F, tag, [byteOf reason.code, kind]) :: more ∧
      ∀ x ∈ more, x.1 = .reserved) ∧
    ∀ (i : Nat) (r : Reply), s.lkp.replies[i]? = some r → r.sealed = none →
      ∃ x, (settle s).lkp.replies[i]? = some x ∧
        x.sealed.map (fun f => f.status) = some (statusByte (settle s).lkp (settle s).clc.pass.isSome)

/-! ## The dispatcher -/

/-- O4: a request row whose request is not the oldest, or finds no room in the reply queue, leaves it waiting: the event
changes nothing; a request of no known kind is refused with UNKNOWN, one whose body has not the length its kind calls
for with LENGTH, with nothing applied (R185). The room: RESTART needs every ordinary entry free, COACH PASS one and the
reserved entry, any other request one of the two ordinary entries (R185). -/
def Obligations.DispatcherWaitsOrRefuses : Prop :=
  (∀ (l : Lkp) (kind : Byte),
    let ordinary := l.replies.countP fun r => decide (r.entry = .ordinary)
    l.hasRoom kind = true ↔
      if kind = 0x03 then ordinary = 0
      else if kind = 0x39 then ordinary < 2 ∧ ∀ r ∈ l.replies, r.entry ≠ .reserved
      else ordinary < 2) ∧
  ((∀ (k : ReqKind) (s : State), s.igs.supplied = true → (¬ ∃ tag body, Serves k tag body s) →
      exec k.row s = .next (settle s)) ∧
    ∀ s : State, s.igs.supplied = true →
      (¬ ∃ kind tag body, ServesKind kind tag body s ∧ ∀ k : ReqKind, kind ≠ k.code) →
      exec .unknownKind s = .next (settle s)) ∧
  (∀ (kind tag : Byte) (body : List Byte) (s : State), ServesKind kind tag body s → (∀ k : ReqKind, kind ≠ k.code) →
      exec .unknownKind s = .next (turnedDown kind tag .unknown s)) ∧
    ∀ (k : ReqKind) (tag : Byte) (body : List Byte) (s : State), Serves k tag body s → k.lengthOk body = false →
      exec k.row s = .next (turnedDown k.code tag .length s)

/-! ## Invariants -/

/-- O5: right after reset every invariant holds. -/
def Obligations.ResetMeetsInvariants : Prop :=
  NoticeQueueOk State.reset.lkp ∧ LinkQueuesOk State.reset ∧ NoWorkUndone State.reset ∧ ChimesOk State.reset ∧
    EntriesOk State.reset ∧ EntriesCurrent State.reset.wtb ∧ ServiceItemsOk State.reset.svs ∧ GaugesOk State.reset.gdu ∧
    SlotsOk State.reset.gdu ∧ ClockOk State.reset.clk ∧ PulseOk State.reset.pcu ∧ TripsOk State.reset.tau ∧
    RangeCurrent State.reset ∧
    CoachLineOk State.reset.clc ∧ PowerCopiesOk State.reset ∧ PulseCopiesOk State.reset ∧ StateCopiesOk State.reset

/-- O6: the notice queue never holds more than 12 notices, nor two with the same kind and subject, nor one of a kind
that is off (R189, R190); the receiver, the request buffer and the reply queue stay within their sizes; the reserved
entry is free while a pass-through is held; a reply being sent keeps its entry (R182, R184, R186, R187, R191). -/
def Obligations.LinkQueuesKept : Prop :=
  (∀ s t : State, NoticeQueueOk s.lkp → step s = .next t → NoticeQueueOk t.lkp) ∧
  ∀ s t : State, LinkQueuesOk s → step s = .next t → LinkQueuesOk t

/-- O7: no event ends with work undone that could start: every reply has its status byte, an IDLE transmitter has
nothing to send, a free line has nothing waiting (R150, R191, R192). -/
def Obligations.NoWorkLeftUndone : Prop := ∀ s t : State, NoWorkUndone s → step s = .next t → NoWorkUndone t

/-- O8: the chime queue and the player stay as R109, R111, R115, R116 and R121 give, and every queued WARNING request
belongs to an ACTIVE entry (R111). -/
def Obligations.ChimesKept : Prop := ∀ s t : State, ChimesOk s → step s = .next t → ChimesOk t

/-- O9: the timers, the state and the configuration of every warning entry agree, and in PARKED an entry that is not
parked-live stands IDLE and one gated by RUN stands IDLE or RESOLVED (R86, R92, R93, R95, R100, R106). No step leaves a
change unevaluated (R92): every enabled entry that is parked-live, or outside PARKED, remembers the source condition that
the present copies give, and stands in a state in which the present condition leaves it (`EntriesCurrent`); that the
copies are what the other blocks hold is O16. -/
def Obligations.EntriesKept : Prop :=
  (∀ s t : State, EntriesOk s → step s = .next t → EntriesOk t) ∧
  ∀ s t : State, EntriesOk s → EntriesCurrent s.wtb → PowerCopiesOk s → step s = .next t → EntriesCurrent t.wtb

/-- O10: every remaining count stands between its floor and its interval, and every item's state is the one R131 decides
from its counts (R129, R130, R131). -/
def Obligations.ServiceItemsKept : Prop :=
  ∀ s t : State, ServiceItemsOk s.svs → step s = .next t → ServiceItemsOk t.svs

/-- O11: every present angle and target stays within 0 and the gauge's full scale, and every gauge's fields agree with
its state, with a parking in progress in PARKED alone and a sweep on all gauges until the last of them waits (R28, R30,
R33, R35, R36, R37, R38); every slot's timers agree with its state (R24). -/
def Obligations.GaugesKept : Prop :=
  ∀ s t : State, GaugesOk s.gdu → SlotsOk s.gdu → PowerCopiesOk s → step s = .next t → GaugesOk t.gdu ∧ SlotsOk t.gdu

/-- O12: the clock always shows a time that exists, and the trim and the alarms stay in their ranges (R66, R67, R68,
R77). The weekday, 0 Sunday, is derived from the date alone: 1980-01-01 is a Tuesday, and from each date of the calendar
to the next the weekday goes on by one, from Saturday to Sunday (R66). -/
def Obligations.ClockKept : Prop :=
  (∀ s t : State, ClockOk s.clk → step s = .next t → ClockOk t.clk) ∧
  (∀ t : ClockTime, t.year = 1980 → t.month = 1 → t.day = 1 → t.weekday = 2) ∧
  ∀ t u : ClockTime, 1980 ≤ t.year → 1 ≤ t.month → t.month ≤ 12 → 1 ≤ t.day →
    let days := if t.month = 2 then (if t.year % 4 = 0 then 29 else 28)
      else if t.month = 4 ∨ t.month = 6 ∨ t.month = 9 ∨ t.month = 11 then 30 else 31
    (t.day < days ∧ u.year = t.year ∧ u.month = t.month ∧ u.day = t.day + 1) ∨
      (t.day = days ∧ t.month < 12 ∧ u.year = t.year ∧ u.month = t.month + 1 ∧ u.day = 1) ∨
      (t.day = days ∧ t.month = 12 ∧ u.year = t.year + 1 ∧ u.month = 1 ∧ u.day = 1) →
    u.weekday = (t.weekday + 1) % 7

/-- O13: the channels' fields agree with their states and with the power state, every residue lies within its divisor,
and the conditions agree with what sets them (R3, R4, R6, R13, R14, R15, R16, R17, R18). -/
def Obligations.PulseKept : Prop :=
  ∀ s t : State, PulseOk s.pcu → PowerCopiesOk s → step s = .next t → PulseOk t.pcu

/-- O14: the odometer, the trips, the economy ring and the destination stay within their ranges (R43, R45, R50, R55,
R58), and the range held is always the one computed from the present records and the present fuel slot
(`computedRange`). What the sums over the closed buckets give: the range from the fuel amount of a FRESH fuel slot
(R57), the recent economy (R64), and the ETA from the clock and the distance to go (R59), each absent where its rule has
it so. -/
def Obligations.TripsKept : Prop :=
  (∀ s t : State, TripsOk s.tau → step s = .next t → TripsOk t.tau) ∧
  (∀ s t : State, RangeCurrent s → step s = .next t → RangeCurrent t) ∧
  ∀ s : State,
    let distance := (s.tau.ring.map fun b => b.distance).sum
    let fuel := (s.tau.ring.map fun b => b.fuel).sum
    let seconds := (s.tau.ring.map fun b => b.seconds).sum
    (s.tau.fuel.slot = none → computedRange s = none) ∧
    (∀ n : SlotIx, s.tau.fuel.slot = some n → computedRange s =
      if s.gdu.slots[n].state ≠ .fresh ∨ s.tau.ring.length < 4 ∨ fuel = 0 then none
      else some (min (tableLookup s.tau.fuel.tank s.gdu.slots[n].value * distance / fuel) 999999)) ∧
    (s.tau.recentEconomy = if s.tau.ring.length < 4 ∨ fuel = 0 then none else some (min (distance * 1000 / fuel) 65534)) ∧
    (s.tau.destination = none → eta s.tau s.clk = none) ∧
    ∀ d, s.tau.destination = some d →
      let travel := d * seconds / distance
      let now := s.clk.time.hour * 3600 + s.clk.time.minute * 60 + s.clk.time.second
      eta s.tau s.clk =
        if s.clk.state = .unset ∨ s.tau.ring.length < 4 ∨ distance = 0 ∨ 86400 ≤ travel then none
        else some ((now + travel) / 3600 % 24, (now + travel) / 60 % 60)

/-- O15: the mirror queue, the node table, the line state and the transaction in flight agree (R147, R148, R149, R151,
R154, R155, R157 to R163). -/
def Obligations.CoachLineKept : Prop :=
  ∀ s t : State, CoachLineOk s.clc → PowerCopiesOk s → step s = .next t → CoachLineOk t.clc

/-- O16: after every event each block's copy of the power state is the IGS's (R172), and the copies of the PCU's, TAU's,
CLK's, SVS's, GDU's and CLC's states are what those blocks have (R5, R15, R25, R43, R57, R72, R87, R132, R147, R149). -/
def Obligations.CopiesKept : Prop :=
  (∀ s t : State, PowerCopiesOk s → step s = .next t → PowerCopiesOk t) ∧
  ∀ s t : State, PulseCopiesOk s → StateCopiesOk s → step s = .next t → PulseCopiesOk t ∧ StateCopiesOk t

/-! ## Link Port -/

/-- O17: the four cases in which the LKP takes a notice (R189): filtered by the mask, merged in place, dropped with the
notices-lost marker, appended. SET NOTICE MASK replaces the mask, removes the queued notices of kinds now off and is
answered with an empty Answer; a mask with a bit of weight 1024 or more is refused with RANGE (R190). -/
def Obligations.NoticesAreTaken : Prop :=
  (∀ (n : Notice) (l : Lkp),
    (l.mask.getLsbD n.bit = false → l.takeNotice n = l) ∧
    (l.mask.getLsbD n.bit = true → (∃ m ∈ l.notices, m.key = n.key) →
      l.takeNotice n = { l with notices := l.notices.map fun m => if m.key = n.key then n else m }) ∧
    (l.mask.getLsbD n.bit = true → (∀ m ∈ l.notices, m.key ≠ n.key) → 12 ≤ l.notices.length →
      l.takeNotice n = { l with noticesLost := true, lostSets := l.lostSets + 1 }) ∧
    (l.mask.getLsbD n.bit = true → (∀ m ∈ l.notices, m.key ≠ n.key) → l.notices.length < 12 →
      l.takeNotice n = { l with notices := l.notices ++ [n] })) ∧
  ∀ (tag : Byte) (body : List Byte) (s : State), Serves .setNoticeMask tag body s → body.length = 2 →
    (u16 body 0 < 1024 →
      exec .setNoticeMask s = .next (answered .setNoticeMask tag [] ((takeRequest s).modLkp fun l =>
        { l with
          mask := BitVec.ofNat 10 (u16 body 0)
          notices := l.notices.filter fun n => (BitVec.ofNat 10 (u16 body 0)).getLsbD n.bit }))) ∧
    (1024 ≤ u16 body 0 →
      exec .setNoticeMask s = .next (turnedDown ReqKind.setNoticeMask.code tag .range s))

/-- O18: RESTART answers the request behind it and a held pass-through with ABORTED, sets the discard-all flag and
places its own empty Answer last (R193). That the replies stand in the order of the rule's steps is the model's reading
(log 10). -/
def Obligations.RestartAnswers : Prop :=
  ∀ (tag : Byte) (s : State), Serves .restart tag [] s →
    ∃ t, exec .restart s = .next t ∧ OnlyChanges [.clc, .lkp, .free] s t ∧ t.lkp.discardAll = true ∧
      t.lkp.requests = [] ∧ t.clc.pass = none ∧
      t.lkp.replies.map Reply.content = s.lkp.replies.map Reply.content ++
        (s.lkp.requests.tail.map fun r => (ReplyEntry.ordinary, 0x7F, r.tag, [0x0C, r.kind])) ++
        (s.clc.pass.toList.map fun p => (ReplyEntry.reserved, 0x7F, p.tag, [0x0C, 0x39])) ++
        [(ReplyEntry.ordinary, 0x43, tag, [])]

/-- O19: a character moves the receiver as Table 53 gives (R182); an idle gap ends the frame being received, which is
dropped, refused by the receiver or offered to the request buffer in the order of R183; a Refusal without a free
ordinary entry and a good frame without a free buffer entry are lost with the overrun marker set (R183, R184). -/
def Obligations.FramesAreReceived : Prop :=
  (∀ (value : Byte) (error : Bool) (s : State), s.igs.supplied = true →
    exec (.hostCharacter value error) s = .next (settle (
      match s.lkp.rx with
      | .hunting | .discarding => s
      | .ready =>
        if error then s.modLkp fun l => { l with rx := .discarding, rxBytes := [] }
        else s.modLkp fun l => { l with rx := .receiving, rxBytes := [value] }
      | .receiving =>
        if error = true ∨ 52 ≤ s.lkp.rxBytes.length then s.modLkp fun l => { l with rx := .discarding }
        else s.modLkp fun l => { l with rxBytes := l.rxBytes ++ [value] }))) ∧
  ∀ s : State, s.igs.supplied = true →
    let b := s.lkp.rxBytes
    let ready := s.modLkp fun l => { l with rx := .ready, rxBytes := [] }
    let overrun := ready.modLkp fun l => { l with overrun := true, overrunSets := l.overrunSets + 1 }
    let refusal := fun reason => if s.lkp.ordinaryHeld < 2 then
      ready.reply .ordinary (b.getD 0 0) (b.getD 1 0) (.refuse reason) else overrun
    exec .idleGap s = .next (settle (
      match s.lkp.rx with
      | .hunting | .ready => ready
      | .discarding => if s.lkp.discardAll = true ∨ b.length < 2 then ready else refusal .frame
      | .receiving =>
        if s.lkp.discardAll = true ∨ b.length < 4 then ready
        else if b.length ≠ 4 + (b.getD 2 0).toNat then refusal .length
        else if (b.map BitVec.toNat).sum % 256 ≠ 0 then refusal .check
        else if s.lkp.requests.length < 2 then
          ready.modLkp fun l => { l with requests := l.requests ++
            [{ kind := b.getD 0 0, tag := b.getD 1 0, body := (b.drop 3).take (b.getD 2 0).toNat }] }
        else overrun))

/-- O20: a sent frame frees its reply's entry, clears the markers it carried that were not set again, and starts the
GAP; the GAP's end leaves the transmitter IDLE, and it starts the oldest reply, else the head notice (R191, R192). That
the same event also ends the wait of two character times after a reset is the model's reading (log 23). -/
def Obligations.TransmitterSends : Prop :=
  (∀ (lines : InputLines) (f : OutFrame) (s : State), s.igs.supplied = true → s.lkp.tx = .sending f →
    ¬ (f.isReply = true ∧ f.kind = 0x43) →
    exec (.transmissionComplete lines) s = .next (settle (s.modLkp fun l => { l with
      tx := .gap
      replies := if f.isReply then l.replies.tail else l.replies
      overrun := l.overrun && !(f.sealed.status.getLsbD 0 && l.overrunSets == f.sealed.overrunSets)
      noticesLost := l.noticesLost && !(f.sealed.status.getLsbD 1 && l.lostSets == f.sealed.lostSets) }))) ∧
    (∀ s : State, s.igs.supplied = true →
      exec .gapEnd s = .next (settle (s.modLkp fun l =>
        { l with tx := if l.tx = .gap then .idle else l.tx, txHold := false }))) ∧
    ∀ s : State, s.igs.supplied = true → NoWorkUndone s → s.lkp.tx = .gap →
      ∃ t, exec .gapEnd s = .next t ∧ OnlyChanges [.lkp] s t ∧
        (∀ r rest, s.lkp.replies = r :: rest → ∃ f, t.lkp.tx = .sending f ∧ f.isReply = true ∧ f.kind = r.kind ∧
          f.tag = r.tag ∧ f.fields = r.fields ∧ some f.sealed = r.sealed ∧ t.lkp.notices = s.lkp.notices) ∧
        (∀ n rest, s.lkp.replies = [] → s.lkp.notices = n :: rest → ∃ f, t.lkp.tx = .sending f ∧ f.isReply = false ∧
          f.kind = byteOf (0xA0 + n.bit) ∧ f.tag = 0 ∧ f.fields = n.fields ∧
          f.sealed.status = statusByte s.lkp s.clc.pass.isSome ∧ t.lkp.notices = rest) ∧
        (s.lkp.replies = [] → s.lkp.notices = [] → t.lkp.tx = .idle)

/-- O21: every frame sent on HTX has the layout of Table 57 and sums to 0 modulo 256 (R197); the status byte carries the
six fields at the weights of Table 59 and its top bit clear (R198); a master frame is the address character of address
and type, the data length, the data in order and the check, by which length, data and check sum to 0 modulo 256 (R144,
R200). The bits: on HTX each byte is a low start
bit, eight data bits with the least significant first and a high stop bit, back to back, and HTX is high otherwise
(R181); on the Coach Line a character has its mark bit before the stop bit, set in the address character alone (R143,
R144), and the part drives the frame's bits until one is read back different, which is CONTENTION (R143). -/
def Obligations.FramesAreWellFormed : Prop :=
  (∀ f : OutFrame, f.bytes.take 4 = [f.kind, f.tag, byteOf (f.fields.length + 1), f.sealed.status] ∧
    (f.bytes.drop 4).take f.fields.length = f.fields ∧ f.bytes.length = f.fields.length + 5 ∧
    (f.bytes.map BitVec.toNat).sum % 256 = 0) ∧
  (∀ (l : Lkp) (held : Bool), (statusByte l held).toNat = l.overrun.toNat + 2 * l.noticesLost.toNat +
    4 * (match l.power with | .parked => 0 | .run => 1 | .crank => 2) + 16 * l.odometerInvalid.toNat +
    32 * l.clockUnset.toNat + 64 * held.toNat ∧ (statusByte l held).getLsbD 7 = false) ∧
  (∀ (address : Nat) (t : CoachType) (data : List Byte), address ≤ 31 → ∃ check : Byte,
    masterFrame address t data = byteOf (address + 32 *
      (match t with | .poll => 0 | .mirror => 1 | .passRead => 2 | .passWrite => 3 | .sleep => 4)) ::
        byteOf data.length :: data ++ [check] ∧
    ((byteOf data.length :: data ++ [check]).map BitVec.toNat).sum % 256 = 0) ∧
  (∀ (l : Lkp) (f : OutFrame) (i : Nat) (b : Byte), l.tx = .sending f → f.bytes[i]? = some b →
    l.htx (10 * i) = false ∧ (∀ k : Fin 8, l.htx (10 * i + 1 + k) = b.getLsbD k) ∧ l.htx (10 * i + 9) = true ∧
      ∀ n, 10 * f.bytes.length ≤ n → l.htx n = true) ∧
  (∀ (l : Lkp) (n : Nat), l.tx = .idle ∨ l.tx = .gap → l.htx n = true) ∧
  (∀ (c : Clc) (t : Txn) (i : Nat) (b : Byte), c.txn = some t → t.phase = .sending → c.heldLow = false →
    t.frame[i]? = some b →
    c.drives (11 * i) = some false ∧ (∀ k : Fin 8, c.drives (11 * i + 1 + k) = some (b.getLsbD k)) ∧
      c.drives (11 * i + 9) = some (decide (i = 0)) ∧ c.drives (11 * i + 10) = some true) ∧
  (∀ (c : Clc) (n : Nat), (c.heldLow = true → c.drives n = some false) ∧
    (c.heldLow = false → (∀ t, c.txn = some t → t.phase = .sending → 11 * t.frame.length ≤ n) → c.drives n = none)) ∧
  ∀ sent read : List Bool,
    (read = sent → readBackCommands sent read = [.masterFrameSent] ∧ bitsDriven sent read = sent.length) ∧
    ∀ (same restSent restRead : List Bool) (b : Bool), sent = same ++ b :: restSent → read = same ++ (!b) :: restRead →
      readBackCommands sent read = [.contention] ∧ bitsDriven sent read = same.length + 1

/-! ## Ignition Supervisor -/

/-- O22: the transitions of Table 47, each handed to every block and, where POWER is in the mask and the queue has
room, notified with its cause (R170, R172, R173); an event whose table cell is empty moves at most the filtered level;
the clock is not touched (R83). Run entry starts the channels afresh with their samples loaded, sends each needle home
or to its source, starts the bulb check, evaluates the enabled entries and starts a Coach reset, with the NODE notices
of the slots that rejoin (R17, R35, R101, R104, R147, R159); the evaluation is stated of an entry whose source the Run
entry itself leaves as it is; Parked entry turns the channels OFF, parks the needles, takes the entries that are not
parked-live to IDLE and the line to OFF (R18, R38, R100, R160), clears the privacy flag and removes a REAR_CALL request
(R122), and takes the level-at-stop when the road source was LIVE (R60). IGN and CRANK transitions come of raw levels
held for 50 ms and 20 ms (R169, R170), counted in the model's ticks of 25 us (log 26). That a POWER notice with room in
the queue is taken first is the model's reading (log 9), and so is that with CRANK on at Run entry the CRANK notice
takes the RUN notice's place (log 30). -/
def Obligations.PowerStateMoves : Prop :=
  let channel := fun (cfg : ChannelConfig) (state : ChannelState) =>
    ({ cfg, state, mode := .period, windowCount := 0, lastPeriod := none, latestEdge := none, lastFreq := 0,
       aboveMax := 0, atOrBelow := 0, stallTimer := none } : Channel)
  let aborted := fun (s s1 : State) => s1.lkp.replies.map Reply.content = s.lkp.replies.map Reply.content ++
    (s.clc.pass.toList.map fun p => (ReplyEntry.reserved, (0x7F : Byte), p.tag, [(0x0C : Byte), 0x39]))
  let runs := fun (s s1 : State) =>
    s1.pcu = { s.pcu with
      power := s1.igs.power, roadSource := .ch0, disagree := false
      channels := mapAll (fun c => channel c.cfg (if c.cfg.enabled then .still else .off)) s.pcu.channels
      gate := some (match s.pcu.cal.window with | .ms125 => 125 | .ms250 => 250 | .ms500 => 500 | .ms1000 => 1000)
      cross := { disagreeing := 0, agreeing := 0, fallback := 0, returning := 0 } } ∧
    s1.inputs = { s.inputs with pulses := Vector.ofFn fun ch =>
      let raw := s.inputs.raw.pulses[ch]
      if s.pcu.channels[ch].cfg.enabled then { oldest := raw, middle := raw, newest := raw }
      else s.inputs.pulses[ch] } ∧
    s1.gdu.parking = false ∧ s1.gdu.slots = s.gdu.slots ∧
    (∀ g : GaugeIx, (s.gdu.gauges[g].present = none → s1.gdu.gauges[g] = { s.gdu.gauges[g] with
        state := .homing, phase := none, homingLeft := some (11 * s.gdu.gauges[g].cfg.fullScale), target := 0 }) ∧
      (s.gdu.gauges[g].present ≠ none → s1.gdu.gauges[g] = s1.gdu.goCalled s.gdu.gauges[g])) ∧
    s1.wtb.bulbCheck = some 3000 ∧ (∀ w : EntryIx, s1.wtb.entries[w].cfg = s.wtb.entries[w].cfg) ∧
    s1.clc = { s.clc with
      power := s1.igs.power, roadLive := s1.clc.roadLive, line := .resetting, heldLow := true, roundTimer := none
      backoffTimer := none, mirrorQueue := [], txn := none, retry := none, contentions := 0, pass := none
      sleepWaiting := false, nodes := s1.clc.nodes } ∧
    (∀ n : NodeIx, s1.clc.nodes[n] = if s.clc.nodes[n].enabled
      then { s.clc.nodes[n] with state := .joining, misses := 0, lostRounds := 0, due := false }
      else { s.clc.nodes[n] with due := false }) ∧
    (∀ n : NodeIx, s.clc.nodes[n].enabled = true → s.clc.nodes[n].state ≠ .joining → s.lkp.mask.getLsbD 5 = true →
      Notice.node n .joining ∈ s1.lkp.notices ∨ s1.lkp.noticesLost = true) ∧
    (s.clc.line ≠ .resetting → s1.wtb.view.line = .resetting) ∧ aborted s s1
  let evaluates := fun (s s1 : State) =>
    EntriesOk s → (∀ ch : ChannelIx, s.pcu.channels[ch].state = .off) → s.wtb.view.engineRunning = false →
    s.wtb.view.roadLive = false → ∀ w : EntryIx,
      let v := s.wtb.view
      let e := s.wtb.entries[w]
      let value := fun x : WarnValue => match x with
        | .roadSpeed => v.roadSpeed = 0
        | .engineSpeed => v.engineSpeed = 0
        | .checkSpeed => v.checkSpeed = 0
        | .range | .slot _ => True
      let stays := match e.cfg.source with
        | .valueAbove x | .valueBelow x => value x
        | .channelFault ch => v.channels[ch] ≠ .fault
        | .speedDisagree => v.disagree = false
        | .nodeLost n => v.nodes[n] ≠ .lost
        | .lineFault => v.line ≠ .fault
        | .switch _ | .slotStale _ | .fuelImplausible | .service _ | .linkCondition | .odometerInvalid | .clockUnset
        | .arrival => True
      let inRun : Wtb := { s.wtb with view := { v with power := .run } }
      let holds := s.wtb.sourceCondition e && inRun.gateTrue e.cfg.gate1 && inRun.gateTrue e.cfg.gate2
      let next : EntryState := match e.state, holds with
        | .idle, true => if e.cfg.qualify = 0 then .active else .pending
        | .pending, false => .idle
        | .active, false => if e.cfg.latching then .resolved else .idle
        | .acked, false => .idle
        | .resolved, true => .active
        | st, _ => st
      e.cfg.enabled = true → stays →
        s1.wtb.entries[w].state = next ∧ (next ≠ e.state → s.lkp.mask.getLsbD 1 = true →
          Notice.warning w next ∈ s1.lkp.notices ∨ s1.lkp.noticesLost = true)
  let parks := fun (s s1 : State) =>
    let atRest := ∀ g : GaugeIx, s.gdu.gauges[g].present = none ∨ s.gdu.gauges[g].present = some 0
    s1.pcu = { s.pcu with
      power := .parked, gate := none, roadSource := .ch0, disagree := false
      channels := mapAll (fun c => channel c.cfg .off) s.pcu.channels
      cross := { disagreeing := 0, agreeing := 0, fallback := 0, returning := 0 }
      snap := { states := Vector.replicate 6 .off, freqs := Vector.replicate 6 0, roadSpeed := 0, checkSpeed := 0,
                roadSource := .ch0, engineSpeed := 0, fuelRate := 0, disagree := false, implausible := false } } ∧
    s1.gdu.slots = s.gdu.slots ∧
    (∀ g : GaugeIx, s1.gdu.gauges[g] = { s.gdu.gauges[g] with
      state := s1.gdu.gauges[g].state, phase := none, homingLeft := none, target := 0 }) ∧
    (¬ atRest → s1.gdu.parking = true ∧ ∀ g : GaugeIx, s1.gdu.gauges[g].state = .parking) ∧
    (atRest → s1.gdu.parking = false ∧
      (s.lkp.mask.getLsbD 9 = true → .gauge .parked ∈ s1.lkp.notices ∨ s1.lkp.noticesLost = true) ∧
      ∀ g : GaugeIx, s1.gdu.gauges[g].state = if s.gdu.gauges[g].present.isSome then .rest else .parking) ∧
    s1.wtb.bulbCheck = none ∧
    (∀ w : EntryIx, s1.wtb.entries[w].cfg = s.wtb.entries[w].cfg ∧
      (s.wtb.entries[w].cfg.parkedLive = false → s1.wtb.entries[w] = { s.wtb.entries[w] with
        state := .idle, qualifyTimer := none, repeatTimer := none, memory := false })) ∧
    s1.chs.privacy = false ∧ s1.chs.holds .rearCall = false ∧
    s1.clc = { s.clc with
      power := .parked, roadLive := s1.clc.roadLive, line := .off, heldLow := false, roundTimer := none
      backoffTimer := none, mirrorQueue := [], txn := none, retry := none, pass := none
      sleepWaiting := match s.clc.line with
        | .running | .backoff | .resetting => true
        | .off | .fault => false
      nodes := mapAll (fun nd => { nd with due := false }) s.clc.nodes } ∧
    (s.clc.line ≠ .off → s1.wtb.view.line = .off) ∧ aborted s s1 ∧
    let source : ChannelIx := match s.pcu.roadSource with | .ch0 => 0 | .ch4 => 4
    (s.tau.roadLive = true ↔ s.pcu.channels[source].state = .live) →
      s1.tau.levelAtStop = if s.pcu.channels[source].state ≠ .live then s.tau.levelAtStop
        else match s.tau.fuel.slot with
          | some n => if s.gdu.slots[n].state = .fresh then some (tableLookup s.tau.fuel.tank s.gdu.slots[n].value)
                      else none
          | none => none
  (∀ s : State, s.igs.supplied = true →
    (s.igs.power = .parked → ∃ s1, exec .runEntry s = .next (settle s1) ∧ s1.igs.ign = true ∧
      AllIn (if s.igs.crank then .crank else .run) s1 ∧ runs s s1 ∧ evaluates s s1 ∧
      OnlyChanges [.igs, .pcu, .gdu, .tau, .wtb, .chs, .svs, .clc, .lkp, .inputs, .free] s s1 ∧
      (s.lkp.mask.getLsbD 0 = true → s.lkp.notices.length < 12 →
        (if s.igs.crank then Notice.power .crank .crankOn else .power .run .ignOn) ∈ s1.lkp.notices)) ∧
    (s.igs.power ≠ .parked → exec .runEntry s = .next (settle s)) ∧
    (s.igs.power ≠ .parked → ∃ s1, exec .parkedEntry s = .next (settle s1) ∧ s1.igs.ign = false ∧ AllIn .parked s1 ∧
      parks s s1 ∧
      OnlyChanges [.igs, .pcu, .gdu, .tau, .wtb, .chs, .svs, .clc, .lkp, .free] s s1 ∧
      (s.lkp.mask.getLsbD 0 = true → s.lkp.notices.length < 12 →
        Notice.power .parked .ignOff ∈ s1.lkp.notices)) ∧
    (s.igs.power = .parked → exec .parkedEntry s = .next (settle s)) ∧
    (s.igs.power = .run → s.igs.crank = false → ∃ s1, exec .crankOn s = .next (settle s1) ∧ s1.igs.crank = true ∧
      AllIn .crank s1 ∧ OnlyChanges [.igs, .pcu, .gdu, .tau, .wtb, .chs, .svs, .clc, .lkp, .free] s s1 ∧
      (s.lkp.mask.getLsbD 0 = true → s.lkp.notices.length < 12 →
        Notice.power .crank .crankOn ∈ s1.lkp.notices)) ∧
    (s.igs.power ≠ .run → exec .crankOn s = .next (settle (s.modIgs fun g => { g with crank := true }))) ∧
    (s.igs.crank = true → exec .crankOn s = .next (settle s)) ∧
    (s.igs.power = .crank → ∃ s1, exec .crankOff s = .next (settle s1) ∧ s1.igs.crank = false ∧ AllIn .run s1 ∧
      OnlyChanges [.igs, .pcu, .gdu, .tau, .wtb, .chs, .svs, .clc, .lkp, .free] s s1 ∧
      (s.lkp.mask.getLsbD 0 = true → s.lkp.notices.length < 12 →
        Notice.power .run .crankOff ∈ s1.lkp.notices)) ∧
    (s.igs.power ≠ .crank → exec .crankOff s = .next (settle (s.modIgs fun g => { g with crank := false })))) ∧
  (∀ s : State, takeRunEntry .wtb s = evaluateWhere (fun c => c.enabled) (s.modWtb fun t =>
    { t with bulbCheck := some 3000, view := { t.view with power := .run } })) ∧
  ∀ (raw : RawLines) (rest : List RawLines) (s : State), s.igs.supplied = true → s.pending = [] →
    s.inputs.ticks = raw :: rest → ∃ t, step s = .next t ∧
      let held := fun (ticks : Nat) (new old : Bool) (before after : Nat) (on off : Instr) =>
        (new = old → after = 0 ∧ on ∉ t.pending ∧ off ∉ t.pending) ∧
        (new ≠ old → before + 1 < ticks → after = before + 1 ∧ on ∉ t.pending ∧ off ∉ t.pending) ∧
        (new ≠ old → ticks ≤ before + 1 → after = 0 ∧ (on ∈ t.pending ↔ new = true) ∧ (off ∈ t.pending ↔ new = false))
      held 2000 raw.lines.ign s.igs.ign s.inputs.ignFor t.inputs.ignFor .runEntry .parkedEntry ∧
      held 800 raw.lines.crank s.igs.crank s.inputs.crankFor t.inputs.crankFor .crankOn .crankOff

/-- O23: a Supply reset gives every block its Supply reset values (R179) and queues the POWER notice with cause SUPPLY;
with the ignition on, Run entry follows (R175); a fall of BATT stops the part (R168). A Line reset (R171) and the
Restart reset (R176) keep the Kept Memory (R178), empty the Link Port (R195) and leave the power state to the lines
with the cause LINE or RESTART; after them channels are OFF, the snapshot idle, the fuel-implausible condition set
exactly at −Kf, slots NEVER, gauges PARKING at an unknown position, entries IDLE, lamp hosts OFF, the chime queue
empty, the player SILENT, privacy off, the line OFF and nodes JOINING or DISABLED (R19, R23, R40, R63, R102, R128,
R136, R165), the road speed at the CLC alone being the model's choice (log 35); the POWER notice carries that cause, or
CRANK_ON where CRANK follows, and stands alone under the mask of POWER (R175). RESET low for 1 ms brings a Line reset
about; a low that was seen already resets nothing, and RESET seen high re-arms the next one (R171), counted in the
model's ticks of 25 us (log 26). What a part without supply holds, and that SUPPLY_RESET acts on a supplied part, are
the model's choice (log 7). -/
def Obligations.ResetsHappen : Prop :=
  let resets := fun (c : Instr) (lines : InputLines) (s : State) => ∃ r,
    exec c s = .next (settle (
      let e := evaluateWhere (fun c => c.enabled && c.parkedLive) r
      if lines.ign then crankIfOn (enterRun (coachReset e)) else e)) ∧
    AllIn .parked r ∧ PulseCopiesOk r ∧ StateCopiesOk r ∧ KeptMemorySame s r ∧
    r.pcu = { s.pcu with
      power := .parked, gate := none, roadSource := .ch0, disagree := false
      implausible := decide (s.pcu.fuelResidue = -(s.pcu.cal.kf : Int))
      channels := mapAll (fun c => { cfg := c.cfg, state := .off, mode := .period, windowCount := 0, lastPeriod := none,
                                     latestEdge := none, lastFreq := 0, aboveMax := 0, atOrBelow := 0,
                                     stallTimer := none }) s.pcu.channels
      cross := { disagreeing := 0, agreeing := 0, fallback := 0, returning := 0 }
      snap := { states := Vector.replicate 6 .off, freqs := Vector.replicate 6 0, roadSpeed := 0, checkSpeed := 0,
                roadSource := .ch0, engineSpeed := 0, fuelRate := 0, disagree := false, implausible := false } } ∧
    r.gdu.parking = false ∧
    (∀ n : SlotIx, r.gdu.slots[n] =
      { s.gdu.slots[n] with value := 0, state := .never, staleTimer := none, lostTimer := none }) ∧
    (∀ g : GaugeIx, r.gdu.gauges[g] = { cfg := s.gdu.gauges[g].cfg, state := .parking, phase := none, present := none,
                                        target := 0, homingLeft := none, buffer := [] }) ∧
    r.tau = { s.tau with power := .parked, engineRunning := false, roadLive := false, range := none } ∧
    r.wtb.bulbCheck = none ∧
    (∀ w : EntryIx, r.wtb.entries[w] =
      { cfg := s.wtb.entries[w].cfg, state := .idle, qualifyTimer := none, repeatTimer := none, eventPending := false,
        linkCondition := false, memory := false }) ∧
    (∀ l : LampIx, r.wtb.lamps[l] = { s.wtb.lamps[l] with host := .off }) ∧
    (∀ n : SwitchIx, r.wtb.switches[n] = { s.wtb.switches[n] with level := lines.switches[n] }) ∧
    r.chs = { s.chs with power := .parked, queue := [], nextArrival := 0, player := none, privacy := false } ∧
    (∀ i : ItemIx, r.svs.items[i] = { s.svs.items[i] with state := s.svs.items[i].decided }) ∧
    r.clc = { s.clc with
      power := .parked, roadLive := false, roadSpeed := r.clc.roadSpeed, line := .off, heldLow := false
      roundTimer := none, backoffTimer := none, mirrorQueue := [], txn := none, retry := none, contentions := 0
      pass := none, sleepWaiting := false, nodes := r.clc.nodes } ∧
    ∀ n : NodeIx, r.clc.nodes[n] = { s.clc.nodes[n] with
      state := if s.clc.nodes[n].enabled then .joining else .disabled, misses := 0, lostRounds := 0, due := false }
  let notice := fun (lines : InputLines) (cause : PowerCause) =>
    if lines.ign then (if lines.crank then Notice.power .crank .crankOn else .power .run cause) else .power .parked cause
  ((∀ (lines : InputLines) (s : State), lines.ign = false →
    exec (.supplyReset lines) s = .next (settle ((State.supplied lines s.inputs s.free s.pending).modLkp fun l =>
      { l with notices := [.power .parked .supply] }))) ∧
    (∀ (lines : InputLines) (s : State), lines.ign = true → ∃ t, exec (.supplyReset lines) s = .next t ∧
      AllIn (if lines.crank then .crank else .run) t ∧ t.igs.cause = .supply ∧ t.igs.supplied = true ∧
      t.lkp.notices = [notice lines .supply] ∧
      KeptMemorySame (State.supplied lines s.inputs s.free s.pending) t ∧ t.pending = s.pending) ∧
    ∀ s : State, s.igs.supplied = true → ∃ t, exec .battBelowRetention s = .next t ∧ t.igs.supplied = false ∧
      t.pending = s.pending) ∧
  ((∀ (lines : InputLines) (s : State), s.igs.supplied = true → s.igs.resetArmed = true → lines.reset = false →
    ∃ t, exec (.lineReset lines) s = .next t ∧ KeptMemorySame s t ∧ t.igs.cause = .line ∧ t.igs.resetArmed = false ∧
      AllIn (if lines.ign then (if lines.crank then .crank else .run) else .parked) t ∧
      t.lkp.notices = [notice lines .line] ∧
      t.lkp.rx = .hunting ∧ t.lkp.discardAll = false ∧ t.lkp.requests = [] ∧ t.lkp.replies = [] ∧ t.lkp.mask = 1 ∧
      t.lkp.overrun = false ∧ t.lkp.noticesLost = false ∧ t.lkp.tx = .idle ∧ t.lkp.txHold = true) ∧
    (∀ (lines : InputLines) (s : State), s.igs.supplied = true → (s.igs.resetArmed = false ∨ lines.reset = true) →
      exec (.lineReset lines) s = .next (settle s)) ∧
    (∀ s : State, s.igs.supplied = true →
      exec .resetLineHigh s = .next (settle (s.modIgs fun g => { g with resetArmed := true }))) ∧
    ∀ (lines : InputLines) (f : OutFrame) (s : State), s.igs.supplied = true → s.lkp.tx = .sending f →
      f.isReply = true → f.kind = 0x43 →
      ∃ t, exec (.transmissionComplete lines) s = .next t ∧ KeptMemorySame s t ∧ t.igs.cause = .restart ∧
        AllIn (if lines.ign then (if lines.crank then .crank else .run) else .parked) t ∧
        t.lkp.notices = [notice lines .restart] ∧
        t.lkp.rx = .hunting ∧ t.lkp.discardAll = false ∧ t.lkp.requests = [] ∧ t.lkp.replies = [] ∧ t.lkp.mask = 1 ∧
        t.lkp.tx = .idle ∧ t.lkp.txHold = true) ∧
  (∀ (lines : InputLines) (s : State), s.igs.supplied = true →
    (s.igs.resetArmed = true → lines.reset = false → resets (.lineReset lines) lines s) ∧
    ∀ f : OutFrame, s.lkp.tx = .sending f → f.isReply = true → f.kind = 0x43 →
      resets (.transmissionComplete lines) lines s) ∧
  (∀ (raw : RawLines) (rest : List RawLines) (s : State), s.igs.supplied = true → s.pending = [] →
    s.inputs.ticks = raw :: rest → ∃ t, step s = .next t ∧
      (raw.lines.reset = true → t.inputs.resetFor = 0 ∧ (∀ lines, Instr.lineReset lines ∉ t.pending) ∧
        (Instr.resetLineHigh ∈ t.pending ↔ s.igs.resetArmed = false)) ∧
      (raw.lines.reset = false → Instr.resetLineHigh ∉ t.pending ∧
        (s.igs.resetArmed = false → ∀ lines, Instr.lineReset lines ∉ t.pending) ∧
        (s.igs.resetArmed = true → s.inputs.resetFor + 1 < 40 →
          t.inputs.resetFor = s.inputs.resetFor + 1 ∧ ∀ lines, Instr.lineReset lines ∉ t.pending) ∧
        (s.igs.resetArmed = true → 40 ≤ s.inputs.resetFor + 1 → Instr.lineReset raw.lines ∈ t.pending))) ∧
  ∀ (lines : InputLines) (inputs : Inputs) (free : FreeValues) (pending : List Instr),
    let z := State.supplied lines inputs free pending
    z.igs = { supplied := true, power := .parked, cause := .supply, ign := lines.ign, crank := lines.crank
              resetArmed := lines.reset } ∧
    (∀ ch : ChannelIx, z.pcu.channels[ch].cfg =
      { enabled := ch.val < 3, polarity := .rising, filter := .us100
        stall := match ch with | 0 => 20 | 1 => 10 | 2 => 50 | 3 => 50 | 4 => 20 | 5 => 20
        maxFreq := match ch with | 0 => 3000 | 1 => 1000 | 2 => 500 | 3 => 500 | 4 => 3000 | 5 => 3000 } ∧
      z.pcu.channels[ch].state = .off) ∧
    z.pcu.cal = { kd := 800, kd2 := 800, kf := 10, ke := 8, window := .ms250 } ∧
    z.pcu.roadResidue = 0 ∧ z.pcu.checkResidue = 0 ∧ z.pcu.fuelResidue = 0 ∧ z.pcu.implausible = false ∧
    z.pcu.disagree = false ∧ z.pcu.roadSource = .ch0 ∧ z.pcu.gate = none ∧
    (∀ n : SlotIx, z.gdu.slots[n] =
      { value := 0, state := .never, staleTime := 20, lostTime := 10, staleTimer := none, lostTimer := none }) ∧
    (∀ g : GaugeIx, z.gdu.gauges[g] =
      { cfg := match g with
          | 0 => { source := .roadSpeed, fullScale := 1080, slew := 400, damping := 1, table := [(0, 0), (2400, 1080)] }
          | 1 => { source := .engineSpeed, fullScale := 1080, slew := 400, damping := 1, table := [(0, 0), (8000, 1080)] }
          | _ => { source := .fixed 0, fullScale := 360, slew := 400, damping := 1, table := [(0, 0), (1, 360)] }
        state := .parking, phase := none, present := none, target := 0, homingLeft := none, buffer := [] }) ∧
    z.tau = { power := .parked, engineRunning := false, roadLive := false, odometer := 0, odometerState := .invalid
              accInvalid := 0, engineHours := 0, engineResidue := 0
              trips := Vector.replicate 4 { state := .closed, distance := 0, fuel := 0, running := 0, moving := 0,
                                            maxSpeed := 0, startOdometer := 0, startDate := none, resetBy := none }
              ring := [], bucket := { distance := 0, fuel := 0, seconds := 0 }, destination := none
              fuel := { slot := none, threshold := 5000, bucketLength := 10, tank := [(0, 0), (1000, 80000)] }
              levelAtStop := none, range := none } ∧
    z.clk = { time := { year := 1980, month := 1, day := 1, hour := 0, minute := 0, second := 0 }, state := .unset
              trim := 0, secondLength := 1000000, lock := false
              alarms := Vector.replicate 4 { enabled := false, hour := 0, minute := 0, dayMask := 0, rep := .once,
                                             pattern := 3, dest := .front } } ∧
    (∀ w : EntryIx, z.wtb.entries[w].cfg.enabled = false ∧ z.wtb.entries[w].state = .idle) ∧
    (∀ n : SwitchIx, z.wtb.switches[n] = { activeHigh := false, level := lines.switches[n] }) ∧
    (∀ l : LampIx, z.wtb.lamps[l] = { mode := .warning, host := .off }) ∧
    (∀ p : PatternIx, z.chs.patterns[p] = match p with
      | 0 => { segments := [⟨.high, 30⟩], passes := .times 1 }
      | 1 => { segments := [⟨.high, 15⟩, ⟨.rest, 10⟩, ⟨.high, 15⟩], passes := .times 1 }
      | 2 => { segments := [⟨.high, 20⟩, ⟨.low, 20⟩], passes := .whileActive }
      | 3 => { segments := [⟨.mid, 10⟩, ⟨.rest, 90⟩], passes := .times 6 }
      | 4 => { segments := [⟨.bell, 40⟩, ⟨.rest, 20⟩, ⟨.bell, 40⟩], passes := .times 2 }
      | 5 => { segments := [⟨.mid, 10⟩, ⟨.rest, 10⟩, ⟨.mid, 10⟩, ⟨.rest, 10⟩, ⟨.mid, 10⟩, ⟨.rest, 50⟩]
               passes := .times 4 }
      | 6 => { segments := [⟨.mid, 20⟩, ⟨.rest, 30⟩], passes := .whileActive }
      | 7 => { segments := [⟨.low, 25⟩], passes := .times 1 }) ∧
    z.chs.queue = [] ∧ z.chs.player = none ∧ z.chs.privacy = false ∧
    (∀ i : ItemIx, z.svs.items[i].enabled = false ∧ z.svs.items[i].state = .off) ∧
    (∀ n : NodeIx, z.clc.nodes[n] =
      { enabled := false, address := n.val + 1, nodeAlias := n.val + 1, kind := .other, mirrorSet := 0,
        state := .disabled, misses := 0, lostRounds := 0, due := false }) ∧
    z.clc.roundPeriod = 4 ∧ z.clc.callPattern = 4 ∧ z.clc.outsideSlot = none ∧ z.clc.line = .off ∧
    z.lkp.mask = 1 ∧ z.lkp.requests = [] ∧ z.lkp.replies = [] ∧ z.lkp.odometerInvalid = true ∧ z.lkp.clockUnset = true ∧
    z.inputs = { inputs with
      raw := { inputs.raw with lines }, ignFor := 0, crankFor := 0
      resetFor := if lines.reset then 0 else inputs.resetFor
      switches := Vector.ofFn fun n =>
        { oldest := lines.switches[n], middle := lines.switches[n], newest := lines.switches[n] } }

/-! ## Reading -/

/-- O24: READ WARNINGS is answered in every power state with the 32 entry states in order, and changes nothing else
(R107); so are the other requests that read, with the records as they stand (R22, R42, R54, R64, R82, R140, R167, R180);
a trip above 3 or an item above 7 is refused with RANGE. The formulas of the range, the recent economy and the ETA stand
in O14, the weekday's in O12. -/
def Obligations.ReadRequestsAnswer : Prop :=
  (∀ (tag : Byte) (body : List Byte) (s : State), Serves .readWarnings tag body s →
    exec .readWarnings s = .next (if body = [] then
      answered .readWarnings tag ((List.finRange 32).map fun w =>
        match s.wtb.entries[w].state with
        | .idle => 0 | .pending => 1 | .active => 2 | .acked => 3 | .resolved => 4) (takeRequest s)
      else turnedDown ReqKind.readWarnings.code tag .length s)) ∧
  (∀ (tag : Byte) (s : State),
    (Serves .identify tag [] s → exec .identify s = .next (answered .identify tag
      ([0x44, 0x10, 0x01] ++ be1 s.igs.power.code ++ be1 s.igs.cause.code ++ be1 s.tau.odometerState.code ++
        be1 s.clk.state.code) (takeRequest s))) ∧
    (Serves .readInstruments tag [] s → exec .readInstruments s = .next (answered .readInstruments tag
      ((List.finRange 6).flatMap (fun i => be1 s.pcu.snap.states[i].code ++ be2 s.pcu.snap.freqs[i]) ++
        be2 s.pcu.snap.roadSpeed ++ be1 (match s.pcu.snap.roadSource with | .ch0 => 0 | .ch4 => 4) ++
        be2 s.pcu.snap.engineSpeed ++ be2 s.pcu.snap.fuelRate ++
        be1 (s.pcu.snap.disagree.toNat + 2 * s.pcu.snap.implausible.toNat)) (takeRequest s))) ∧
    (Serves .readGauges tag [] s → exec .readGauges s = .next (answered .readGauges tag
      (s.gdu.gauges.toList.flatMap fun g => be1 g.state.code ++
        (match g.present with | some a => be2 a | none => [0xFF, 0xFF]) ++ be2 g.target) (takeRequest s))) ∧
    (Serves .readTotals tag [] s → exec .readTotals s = .next (answered .readTotals tag
      (be3 s.tau.odometer ++ be1 s.tau.odometerState.code ++ be3 s.tau.engineHours ++ optField 3 be3 s.tau.range ++
        optField 2 be2 s.tau.recentEconomy ++ optField 3 be3 s.tau.destination ++
        optField 2 (fun t => be1 t.1 ++ be1 t.2) (eta s.tau s.clk)) (takeRequest s))) ∧
    (Serves .readClock tag [] s → exec .readClock s = .next (answered .readClock tag
      (be1 s.clk.state.code ++ be2 s.clk.time.year ++ be1 s.clk.time.month ++ be1 s.clk.time.day ++
        be1 s.clk.time.hour ++ be1 s.clk.time.minute ++ be1 s.clk.time.second ++ be1 s.clk.time.weekday ++
        be1 s.clk.lock.toNat ++ bes1 s.clk.trim) (takeRequest s))) ∧
    (Serves .readNodes tag [] s → exec .readNodes s = .next (answered .readNodes tag
      ((s.clc.nodes.toList.flatMap fun n => be1 n.state.code ++ be1 n.misses) ++ be1 s.clc.line.code)
      (takeRequest s)))) ∧
  (∀ (tag : Byte) (body : List Byte) (s : State), Serves .readTrip tag body s → body.length = 1 →
    (4 ≤ u8 body 0 → exec .readTrip s = .next (turnedDown ReqKind.readTrip.code tag .range s)) ∧
    ∀ n : TripIx, u8 body 0 = n →
      let t := s.tau.trips[n]
      exec .readTrip s = .next (answered .readTrip tag
        (be1 t.state.code ++ be3 t.distance ++ be3 t.fuel ++ be3 t.running ++ be3 t.moving ++ be2 t.maxSpeed ++
          be3 t.startOdometer ++
          optField 6 (fun d => be2 d.year ++ be1 d.month ++ be1 d.day ++ be1 d.hour ++ be1 d.minute) t.startDate ++
          (if t.running = 0 then [0xFF, 0xFF] else be2 (min (t.distance * 3600 / t.running) 2550)) ++
          (if t.fuel = 0 then [0xFF, 0xFF] else be2 (min (t.distance * 1000 / t.fuel) 65534)) ++
          optField 1 (fun r => be1 r.code) t.resetBy) (takeRequest s))) ∧
  ∀ (tag : Byte) (body : List Byte) (s : State), Serves .readService tag body s → body.length = 1 →
    (8 ≤ u8 body 0 → exec .readService s = .next (turnedDown ReqKind.readService.code tag .range s)) ∧
    ∀ n : ItemIx, u8 body 0 = n →
      let t := s.svs.items[n]
      exec .readService s = .next (answered .readService tag
        (be1 (t.state.code + 16 * t.distanceInterval.isSome.toNat + 32 * t.hoursInterval.isSome.toNat +
            64 * t.daysInterval.isSome.toNat) ++
          optField 3 bes3 t.remainingDistance ++ optField 3 bes3 t.remainingHours ++ optField 2 bes2 t.remainingDays ++
          optField 3 be3 t.lastOdometer ++ optField 4 (fun d => be2 d.year ++ be1 d.month ++ be1 d.day) t.lastDate ++
          be1 t.label) (takeRequest s))

/-! ## Pulse Capture Unit -/

/-- O25: SET CHANNEL writes the channel's configuration and loads its samples from the present level (R1); in RUN and
CRANK the channel restarts in STILL or goes OFF, the change of its state is handed, by which the WTB takes its speed as
0 (R88), a request naming CH0 or CH4 clears the cross-check counts, and the speed disagreement clears when that channel
left LIVE (R20); a request that so ends road source LIVE takes the level-at-stop (R60); a field outside its range is
refused with RANGE. -/
def Obligations.SetChannelAnswers : Prop :=
  ∀ (tag : Byte) (body : List Byte) (s : State), Serves .setChannel tag body s → body.length = 7 →
    ((6 ≤ u8 body 0 ∨ 2 ≤ u8 body 1 ∨ 2 ≤ u8 body 2 ∨ 3 ≤ u8 body 3 ∨ u8 body 4 = 0 ∨ 64 < u8 body 4 ∨
        u16 body 5 = 0 ∨ 6553 < u16 body 5) →
      exec .setChannel s = .next (turnedDown ReqKind.setChannel.code tag .range s)) ∧
    ∀ (ch : ChannelIx) (cfg : ChannelConfig), u8 body 0 = ch → u8 body 1 = cfg.enabled.toNat →
      Polarity.ofCode (u8 body 2) = some cfg.polarity → FilterPeriod.ofCode (u8 body 3) = some cfg.filter →
      u8 body 4 = cfg.stall → 1 ≤ cfg.stall → cfg.stall ≤ 64 → u16 body 5 = cfg.maxFreq → 1 ≤ cfg.maxFreq →
      cfg.maxFreq ≤ 6553 →
      let raw := s.inputs.raw.pulses[ch]
      let loaded := { s.inputs with pulses := s.inputs.pulses.set ch { oldest := raw, middle := raw, newest := raw } }
      (s.pcu.power = .parked → exec .setChannel s = .next (answered .setChannel tag []
        (((takeRequest s).modChannel ch fun c => { c with cfg }).modInputs fun _ => loaded))) ∧
      (s.pcu.power ≠ .parked → ∃ s1, exec .setChannel s = .next (answered .setChannel tag [] s1) ∧
        OnlyChanges [.pcu, .gdu, .wtb, .tau, .svs, .clc, .chs, .lkp, .inputs, .free] s s1 ∧ s1.inputs = loaded ∧
        s1.pcu = { s.pcu with
          channels := s.pcu.channels.set ch
            { cfg, state := if cfg.enabled then .still else .off, mode := .period, windowCount := 0, lastPeriod := none,
              latestEdge := none, lastFreq := 0, aboveMax := 0, atOrBelow := 0, stallTimer := none }
          cross := if ch = 0 ∨ ch = 4 then { disagreeing := 0, agreeing := 0, fallback := 0, returning := 0 }
            else s.pcu.cross
          disagree := if (ch = 0 ∨ ch = 4) ∧ s.pcu.channels[ch].state = .live then false else s.pcu.disagree } ∧
        (s1.pcu.channels[ch].state ≠ s.pcu.channels[ch].state →
          s1.gdu.view.channels[ch] = s1.pcu.channels[ch].state ∧
            s1.wtb.view.channels[ch] = s1.pcu.channels[ch].state ∧
            let v := s.wtb.view
            let road : ChannelIx := match v.roadSource with | .ch0 => 0 | .ch4 => 4
            s1.wtb.view.roadSpeed = (if ch = road then 0 else v.roadSpeed) ∧
            s1.wtb.view.engineSpeed = (if ch = 1 then 0 else v.engineSpeed) ∧
            s1.wtb.view.checkSpeed = if ch = 4 then 0 else v.checkSpeed) ∧
        let source : ChannelIx := match s.pcu.roadSource with | .ch0 => 0 | .ch4 => 4
        (s.tau.roadLive = true ↔ s.pcu.channels[source].state = .live) →
          (s.pcu.channels[ch].state = .live → ch = source → s1.tau.roadLive = false ∧ s1.tau.levelAtStop =
            match s.tau.fuel.slot with
            | some n => if s.gdu.slots[n].state = .fresh then some (tableLookup s.tau.fuel.tank s.gdu.slots[n].value)
                        else none
            | none => none) ∧
          (¬ (s.pcu.channels[ch].state = .live ∧ ch = source) → s1.tau.levelAtStop = s.tau.levelAtStop))

/-- O26: SET CALIBRATION writes the calibration, zeroes the residues, clears the fuel-implausible condition and empties
the economy ring, DESTINATION marked (R65); in RUN and CRANK a fresh window of the new length starts with every count
at 0 (R21); a field outside its range is refused with RANGE. -/
def Obligations.SetCalibrationAnswers : Prop :=
  ∀ (tag : Byte) (body : List Byte) (s : State), Serves .setCalibration tag body s → body.length = 7 →
    ((u16 body 0 = 0 ∨ u16 body 2 = 0 ∨ u8 body 4 = 0 ∨ u8 body 5 = 0 ∨ 24 < u8 body 5 ∨ 4 ≤ u8 body 6) →
      exec .setCalibration s = .next (turnedDown ReqKind.setCalibration.code tag .range s)) ∧
    ∀ cal : Calibration, u16 body 0 = cal.kd → u16 body 2 = cal.kd2 → u8 body 4 = cal.kf → u8 body 5 = cal.ke →
      WindowLength.ofCode (u8 body 6) = some cal.window → 1 ≤ cal.kd → 1 ≤ cal.kd2 → 1 ≤ cal.kf → 1 ≤ cal.ke →
      cal.ke ≤ 24 →
      ∃ s1, exec .setCalibration s = .next (answered .setCalibration tag [] s1) ∧
        OnlyChanges [.pcu, .tau, .wtb, .chs, .clc, .lkp] s s1 ∧
        s1.tau = { s.tau with ring := [], bucket := { distance := 0, fuel := 0, seconds := 0 }, range := none } ∧
        Marked .destination s s1 ∧
        s1.pcu = { s.pcu with
          cal, roadResidue := 0, checkResidue := 0, fuelResidue := 0, implausible := false
          channels := if s.pcu.power = .parked then s.pcu.channels
            else mapAll (fun c => { c with windowCount := 0, aboveMax := 0, atOrBelow := 0 }) s.pcu.channels
          cross := if s.pcu.power = .parked then s.pcu.cross
            else { disagreeing := 0, agreeing := 0, fallback := 0, returning := 0 }
          gate := if s.pcu.power = .parked then s.pcu.gate else some cal.window.ms }

/-- O27: at a tick of the input lines a channel that is not OFF takes a new sample once in its filter period, and a
change of the level that at least two of its last three samples hold is an edge in the direction of its polarity alone
(R1); every switch takes a new sample each 2 ms, and a change of the level that at least two of its last three samples
hold brings SWITCH_CHANGE about (R84). The phase of the sample instants (log 26) and the 10 us instant of an edge (log
32) are the model's choice. An edge is counted, restarts the stall timer, gives the period since the latest edge and
makes a STILL channel LIVE; an OFF channel takes none; a stall expiry makes the channel STILL with its measurements
dropped, and ends the speed disagreement when CH0 or CH4 leaves LIVE (R1, R4, R5, R8, R15). The gauges take the value 0
from it at once and their targets are recomputed (R29, R31), and so does the WTB (R88); with the road source's fall
from LIVE the level-at-stop is taken: the fuel amount of a FRESH fuel slot, else absent (R60). Both its rise and its
fall mark ROAD_SPEED (R5, R154). -/
def Obligations.ChannelsTakeEdgesAndStalls : Prop :=
  (∀ (raw : RawLines) (rest : List RawLines) (s : State), s.igs.supplied = true → s.pending = [] →
    s.inputs.ticks = raw :: rest → ∃ t, step s = .next t ∧ ∀ ch : ChannelIx,
      let c := s.pcu.channels[ch]
      let x := s.inputs.pulses[ch]
      let y : Samples := { oldest := x.middle, middle := x.newest, newest := raw.pulses[ch] }
      let high := fun z : Samples => 2 ≤ z.oldest.toNat + z.middle.toNat + z.newest.toNat
      let period := match c.cfg.filter with | .us25 => 1 | .us100 => 4 | .us400 => 16
      let sampled := c.state ≠ .off ∧ (s.inputs.now + 1) % period = 0
      let edge := match c.cfg.polarity with | .rising => ¬ high x ∧ high y | .falling => high x ∧ ¬ high y
      (sampled → t.inputs.pulses[ch] = y) ∧ (¬ sampled → t.inputs.pulses[ch] = x) ∧
      ∀ at10us, Instr.pulseEdge ch at10us ∈ t.pending ↔
        sampled ∧ edge ∧ at10us = (s.inputs.now + 1) * 25 / 10) ∧
  (∀ (raw : RawLines) (rest : List RawLines) (s : State), s.igs.supplied = true → s.pending = [] →
    s.inputs.ticks = raw :: rest → ∃ t, step s = .next t ∧ ∀ n : SwitchIx,
      let x := s.inputs.switches[n]
      let y : Samples := { oldest := x.middle, middle := x.newest, newest := raw.lines.switches[n] }
      let high := 2 ≤ y.oldest.toNat + y.middle.toNat + y.newest.toNat
      let sampled := (s.inputs.now + 1) * 25 % 2000 = 0
      (sampled → t.inputs.switches[n] = y ∧
        (Instr.switchChange n ∈ t.pending ↔ ¬ (s.wtb.switches[n].level = true ↔ high))) ∧
      (¬ sampled → t.inputs.switches[n] = x ∧ Instr.switchChange n ∉ t.pending)) ∧
  ∀ (ch : ChannelIx) (s : State), s.igs.supplied = true →
    let c := s.pcu.channels[ch]
    let source : ChannelIx := match s.pcu.roadSource with | .ch0 => 0 | .ch4 => 4
    (∀ at10us, c.state = .off → exec (.pulseEdge ch at10us) s = .next (settle s)) ∧
    (∀ at10us, c.state ≠ .off → ∃ s1, exec (.pulseEdge ch at10us) s = .next (settle s1) ∧
      OnlyChanges [.pcu, .gdu, .tau, .wtb, .chs, .svs, .clc, .lkp, .free] s s1 ∧
      s1.pcu.channels = s.pcu.channels.set ch { c with
        state := if c.state = .still then .live else c.state
        windowCount := min (c.windowCount + 1) 65535
        lastPeriod := match c.latestEdge with | some e => some (min (at10us - e) 640000) | none => c.lastPeriod
        latestEdge := some at10us
        stallTimer := some c.cfg.stall } ∧
      (c.state = .still → s1.gdu.view.channels[ch] = .live ∧ s1.wtb.view.channels[ch] = .live) ∧
      (c.state = .still → ch = source → s.clc.roadLive = false → Marked .roadSpeed s s1)) ∧
    (c.stallTimer = none → exec (.stallExpiry ch) s = .next (settle s)) ∧
    (c.stallTimer ≠ none → ∃ s1, exec (.stallExpiry ch) s = .next (settle s1) ∧
      OnlyChanges [.pcu, .gdu, .tau, .wtb, .chs, .svs, .clc, .lkp, .free] s s1 ∧
      s1.pcu.channels = s.pcu.channels.set ch { c with
        state := .still, mode := .period, lastPeriod := none, latestEdge := none, lastFreq := 0, aboveMax := 0,
        atOrBelow := 0, stallTimer := none } ∧
      (c.state = .live → ch = 0 ∨ ch = 4 → s1.pcu.disagree = false) ∧
      (c.state ≠ .still → s1.gdu.view.channels[ch] = .still ∧ s1.wtb.view.channels[ch] = .still) ∧
      (c.state ≠ .still →
        let v := s.wtb.view
        let road : ChannelIx := match v.roadSource with | .ch0 => 0 | .ch4 => 4
        s1.wtb.view.roadSpeed = (if ch = road then 0 else v.roadSpeed) ∧
        s1.wtb.view.engineSpeed = (if ch = 1 then 0 else v.engineSpeed) ∧
        s1.wtb.view.checkSpeed = if ch = 4 then 0 else v.checkSpeed) ∧
      (c.state ≠ .still →
        let v := s.gdu.view
        let road : ChannelIx := match v.roadSource with | .ch0 => 0 | .ch4 => 4
        s1.gdu = { s.gdu with
          view := { v with
            channels := v.channels.set ch .still
            roadSpeed := if ch = road then 0 else v.roadSpeed
            engineSpeed := if ch = 1 then 0 else v.engineSpeed
            checkSpeed := if ch = 4 then 0 else v.checkSpeed
            generalFreq := if ch = 5 then 0 else v.generalFreq }
          gauges := s1.gdu.gauges } ∧
        ∀ g : GaugeIx,
          let x := s.gdu.gauges[g]
          let bound := (x.cfg.source = .roadSpeed ∧ ch = road) ∨ (x.cfg.source = .engineSpeed ∧ ch = 1) ∨
            (x.cfg.source = .checkSpeed ∧ ch = 4) ∨ (x.cfg.source = .generalFreq ∧ ch = 5)
          s1.gdu.gauges[g] = if bound ∧ (x.state = .tracking ∨ x.state = .held ∨ x.state = .void)
            then s1.gdu.goCalled x else x) ∧
      (c.state = .live → ch = source → s.clc.roadLive = true → Marked .roadSpeed s s1 ∧ s1.clc.roadLive = false) ∧
      ((s.tau.roadLive = true ↔ s.pcu.channels[source].state = .live) →
        (c.state = .live → ch = source → s1.tau.roadLive = false ∧ s1.tau.levelAtStop =
          match s.tau.fuel.slot with
          | some n => if s.gdu.slots[n].state = .fresh then some (tableLookup s.tau.fuel.tank s.gdu.slots[n].value)
                      else none
          | none => none) ∧
        (¬ (c.state = .live ∧ ch = source) → s1.tau.levelAtStop = s.tau.levelAtStop)))

/-- O28: an edge of CH0 or CH4 adds 1 to its divider's residue; the edge that reaches the divisor returns it to 0 and
hands a distance unit exactly when its channel is the road source and not in FAULT (R13). A distance unit advances the
odometer and, while it is INVALID, the count beside it, the OPEN trips, the open bucket, which closes at the bucket
length, the distance to go, with the arrival handed and notified at 0, and the remaining distance of every enabled
service item, whose state is decided afresh (R48, R55, R58, R133); without one none of these moves. A trip whose
distance comes to 999999 by it brings the TRIP notice SATURATED, and no trip brings it otherwise (R53). A change of T3's
distance marks PASSENGER_TRIP, a bucket close and a change of the distance to go mark DESTINATION (R65, R154). -/
def Obligations.RoadEdgesCountDistance : Prop :=
  let counts := fun (s s1 : State) =>
    let b : Bucket := { s.tau.bucket with distance := s.tau.bucket.distance + 1 }
    s1.tau.odometer = (s.tau.odometer + 1) % 10000000 ∧
    s1.tau.accInvalid = (if s.tau.odometerState = .invalid then min (s.tau.accInvalid + 1) 9999999
      else s.tau.accInvalid) ∧
    (∀ i : TripIx, s1.tau.trips[i] = if s.tau.trips[i].state = .open
      then { s.tau.trips[i] with distance := min (s.tau.trips[i].distance + 1) 999999 } else s.tau.trips[i]) ∧
    (∀ i : TripIx, s.tau.trips[i].state = .open → s.tau.trips[i].distance = 999998 → s.lkp.mask.getLsbD 8 = true →
      Notice.trip i.castSucc .saturated ∈ s1.lkp.notices ∨ s1.lkp.noticesLost = true) ∧
    (s.tau.trips[(3 : TripIx)].state = .open → s.tau.trips[(3 : TripIx)].distance < 999999 →
      Marked .passengerTrip s s1) ∧
    (s.tau.fuel.bucketLength ≤ b.distance ∨ s.tau.destination ≠ none → Marked .destination s s1) ∧
    (b.distance < s.tau.fuel.bucketLength → s1.tau.bucket = b ∧ s1.tau.ring = s.tau.ring) ∧
    (s.tau.fuel.bucketLength ≤ b.distance → s1.tau.bucket = { distance := 0, fuel := 0, seconds := 0 } ∧
      s1.tau.ring = (if s.tau.ring.length < 16 then s.tau.ring else s.tau.ring.tail) ++ [b]) ∧
    (s.tau.destination = none → s1.tau.destination = none) ∧
    (∀ d, s.tau.destination = some d → 2 ≤ d → s1.tau.destination = some (d - 1)) ∧
    (∀ d, s.tau.destination = some d → d ≤ 1 → s1.tau.destination = none ∧
      (∀ w : EntryIx, s.wtb.entries[w].cfg.enabled = true → s.wtb.entries[w].cfg.source = .arrival →
        s1.wtb.entries[w].eventPending = true) ∧
      (s.lkp.mask.getLsbD 8 = true → Notice.trip 4 .arrival ∈ s1.lkp.notices ∨ s1.lkp.noticesLost = true)) ∧
    ∀ i : ItemIx,
      let it := s.svs.items[i]
      s1.svs.items[i] = if it.enabled then { it with
          remainingDistance := match it.distanceInterval, it.remainingDistance with
            | some n, some r => some (max (r - 1) (-2 * ((n * 10 : Nat) : Int)))
            | _, _ => it.remainingDistance
          state := s1.svs.items[i].decided }
        else it
  let stays := fun (s s1 : State) =>
    s1.tau.odometer = s.tau.odometer ∧ s1.tau.accInvalid = s.tau.accInvalid ∧ s1.tau.trips = s.tau.trips ∧
    s1.tau.bucket = s.tau.bucket ∧ s1.tau.ring = s.tau.ring ∧ s1.tau.destination = s.tau.destination ∧
    s1.svs.items = s.svs.items
  (∀ (i : TripIx) (s : State), (tripDistance i s).lkp =
    if s.tau.trips[i].state = .open ∧ s.tau.trips[i].distance = 999998
    then s.lkp.takeNotice (.trip i.castSucc .saturated) else s.lkp) ∧
  ∀ (at10us : Nat) (s : State), s.igs.supplied = true →
    (s.pcu.channels[(0 : ChannelIx)].state ≠ .off → ∃ s1, exec (.pulseEdge 0 at10us) s = .next (settle s1) ∧
      s1.pcu.roadResidue = (if s.pcu.roadResidue + 1 < s.pcu.cal.kd then s.pcu.roadResidue + 1 else 0) ∧
      s1.pcu.checkResidue = s.pcu.checkResidue ∧ s1.pcu.fuelResidue = s.pcu.fuelResidue ∧
      let unit := s.pcu.cal.kd ≤ s.pcu.roadResidue + 1 ∧ s.pcu.roadSource = .ch0 ∧
        s.pcu.channels[(0 : ChannelIx)].state ≠ .fault
      (unit → counts s s1) ∧ (¬ unit → stays s s1)) ∧
    (s.pcu.channels[(4 : ChannelIx)].state ≠ .off → ∃ s1, exec (.pulseEdge 4 at10us) s = .next (settle s1) ∧
      s1.pcu.checkResidue = (if s.pcu.checkResidue + 1 < s.pcu.cal.kd2 then s.pcu.checkResidue + 1 else 0) ∧
      s1.pcu.roadResidue = s.pcu.roadResidue ∧ s1.pcu.fuelResidue = s.pcu.fuelResidue ∧
      let unit := s.pcu.cal.kd2 ≤ s.pcu.checkResidue + 1 ∧ s.pcu.roadSource = .ch4 ∧
        s.pcu.channels[(4 : ChannelIx)].state ≠ .fault
      (unit → counts s s1) ∧ (¬ unit → stays s s1))

/-- O29: a supply edge raises the net fuel residue and a return edge lowers it, down to −Kf; reaching Kf hands one fuel
unit, which every OPEN trip and the open bucket count, while ring, odometer, the count beside an INVALID odometer,
destination and range stay (R49); an edge that hands no unit leaves the open bucket too; the fuel-implausible condition
is set at −Kf and clears at 0 (R14). A trip whose fuel comes to 9999999 brings the TRIP notice SATURATED, and no trip
brings it otherwise (R53). -/
def Obligations.FuelEdgesCountFuel : Prop :=
  let rest := fun (s s1 : State) => s1.tau.ring = s.tau.ring ∧ s1.tau.odometer = s.tau.odometer ∧
    s1.tau.accInvalid = s.tau.accInvalid ∧ s1.tau.destination = s.tau.destination ∧ s1.tau.range = s.tau.range
  (∀ s : State, OnlyChanges [.tau, .lkp] s (tauFuel s) ∧
    (∀ t : TripIx, (tauFuel s).tau.trips[t] = if s.tau.trips[t].state = .open
      then { s.tau.trips[t] with fuel := min (s.tau.trips[t].fuel + 1) 9999999 } else s.tau.trips[t]) ∧
    (tauFuel s).tau.bucket = { s.tau.bucket with fuel := min (s.tau.bucket.fuel + 1) 9999999 } ∧
    { (tauFuel s).tau with trips := s.tau.trips, bucket := s.tau.bucket } = s.tau ∧
    (∀ t : TripIx, s.tau.trips[t].state = .open → s.tau.trips[t].fuel = 9999998 → s.lkp.mask.getLsbD 8 = true →
      Notice.trip t.castSucc .saturated ∈ (tauFuel s).lkp.notices ∨ (tauFuel s).lkp.noticesLost = true) ∧
    ∀ t : TripIx, (tripFuel t s).lkp =
      if s.tau.trips[t].state = .open ∧ s.tau.trips[t].fuel = 9999998
      then s.lkp.takeNotice (.trip t.castSucc .saturated) else s.lkp) ∧
  ∀ (at10us : Nat) (s : State), s.igs.supplied = true →
    (s.pcu.channels[(2 : ChannelIx)].state ≠ .off → ∃ s1, exec (.pulseEdge 2 at10us) s = .next (settle s1) ∧
      s1.tau.bucket = (if (s.pcu.cal.kf : Int) ≤ s.pcu.fuelResidue + 1
        then { s.tau.bucket with fuel := min (s.tau.bucket.fuel + 1) 9999999 } else s.tau.bucket) ∧
      rest s s1 ∧
      s1.pcu.fuelResidue = (if (s.pcu.cal.kf : Int) ≤ s.pcu.fuelResidue + 1 then s.pcu.fuelResidue + 1 - s.pcu.cal.kf
        else s.pcu.fuelResidue + 1) ∧
      s1.pcu.implausible = (if s1.pcu.fuelResidue = -(s.pcu.cal.kf : Int) then true
        else if 0 ≤ s1.pcu.fuelResidue then false else s.pcu.implausible) ∧
      ∀ t : TripIx, s1.tau.trips[t].fuel =
          (if (s.pcu.cal.kf : Int) ≤ s.pcu.fuelResidue + 1 ∧ s.tau.trips[t].state = .open
            then min (s.tau.trips[t].fuel + 1) 9999999 else s.tau.trips[t].fuel) ∧
        ((s.pcu.cal.kf : Int) ≤ s.pcu.fuelResidue + 1 → s.tau.trips[t].state = .open → s.tau.trips[t].fuel = 9999998 →
          s.lkp.mask.getLsbD 8 = true →
          Notice.trip t.castSucc .saturated ∈ s1.lkp.notices ∨ s1.lkp.noticesLost = true)) ∧
    (s.pcu.channels[(3 : ChannelIx)].state ≠ .off → ∃ s1, exec (.pulseEdge 3 at10us) s = .next (settle s1) ∧
      s1.tau.bucket = s.tau.bucket ∧ rest s s1 ∧
      s1.pcu.fuelResidue = max (s.pcu.fuelResidue - 1) (-(s.pcu.cal.kf : Int)) ∧
      s1.pcu.implausible = (if s1.pcu.fuelResidue = -(s.pcu.cal.kf : Int) then true
        else if 0 ≤ s1.pcu.fuelResidue then false else s.pcu.implausible) ∧
      ∀ t : TripIx, s1.tau.trips[t].fuel = s.tau.trips[t].fuel)

/-- O30: the frequency a channel closes at a window expiry: in COUNT mode the window count over the window, at every
window length, held at 65535; 0 for a channel in STILL, whatever its mode and count (R7); in PERIOD mode 0 without a
period, else 1000000 over the larger of the last period and the time since the latest edge, held at 65535 (R8). The
window expiry gives every channel that is not OFF the frequency it closes; where the period used is 0 any value serves
(log 4). -/
def Obligations.FrequenciesClose : Prop :=
  (∀ (c : Channel) (w : WindowLength) (at10us free : Nat),
    (c.state = .live ∨ c.state = .fault → c.mode = .count →
      c.closedFrequency w at10us free = min (c.windowCount * 10000 /
        (match w with | .ms125 => 125 | .ms250 => 250 | .ms500 => 500 | .ms1000 => 1000)) 65535 ∧
      c.closedFrequency w at10us free = min (c.windowCount *
        (match w with | .ms125 => 80 | .ms250 => 40 | .ms500 => 20 | .ms1000 => 10)) 65535) ∧
    (c.state = .still → c.closedFrequency w at10us free = 0) ∧
    (c.state = .live ∨ c.state = .fault → c.mode = .period → c.lastPeriod = none → c.closedFrequency w at10us free = 0) ∧
    ∀ p e, c.state = .live ∨ c.state = .fault → c.mode = .period → c.lastPeriod = some p → c.latestEdge = some e →
      max p (at10us - e) ≠ 0 → c.closedFrequency w at10us free = min (1000000 / max p (at10us - e)) 65535) ∧
  ∀ (at10us : Nat) (s : State), s.igs.supplied = true → s.pcu.gate ≠ none →
    ∃ t, exec (.windowExpiry at10us) s = .next t ∧
      ∀ ch : ChannelIx, s.pcu.channels[ch].state ≠ .off → ∃ free, t.pcu.channels[ch].lastFreq =
        s.pcu.channels[ch].closedFrequency s.pcu.cal.window at10us free

/-- O31: a window expiry starts the next window, gives every channel its mode and a window count of 0, makes the fault
test of Table 8, and replaces the snapshot whole by this expiry's results, the derived values by R11 (R4, R6, R9, R10,
R11); it counts the disagreeing and agreeing windows, three in a row setting or clearing the speed disagreement (R15),
and the fallback and return windows, three in a row passing the road source to CH4 and back (R16); a stopped gate timer
closes no window. The window result reaches the other blocks (R12): every OPEN trip takes the greater maximum speed
(R52), the gauges on a channel that move with their source go to the state and the target it now calls for (R29, R31),
the WTB finds the speeds and the road source, and the CLC the road speed, ROAD_SPEED marked. When the channel that was
the road source leaves LIVE the level-at-stop is taken: the fuel amount of a FRESH fuel slot, else absent; this holds
also where the source then passes to a LIVE channel (R5, R60). The order within the expiry is DEDUCED (log 9). -/
def Obligations.WindowClosesWhole : Prop :=
  ∀ (at10us : Nat) (s : State), s.igs.supplied = true →
    (s.pcu.gate = none → exec (.windowExpiry at10us) s = .next (settle s)) ∧
    (s.pcu.gate ≠ none → ∃ s1, exec (.windowExpiry at10us) s = .next (settle s1) ∧
      OnlyChanges [.pcu, .gdu, .tau, .wtb, .chs, .svs, .clc, .lkp, .free] s s1 ∧
      s1.pcu.gate = some (match s.pcu.cal.window with | .ms125 => 125 | .ms250 => 250 | .ms500 => 500 | .ms1000 => 1000) ∧
      (∀ ch : ChannelIx,
        let c := s.pcu.channels[ch]
        let d := s1.pcu.channels[ch]
        (c.state = .off → d = c) ∧
        (c.state ≠ .off → d.windowCount = 0 ∧ d.cfg = c.cfg ∧ d.lastPeriod = c.lastPeriod ∧
          d.latestEdge = c.latestEdge ∧ d.stallTimer = c.stallTimer ∧
          d.mode = (match c.mode with
            | .count => if c.windowCount < 4 then .period else .count
            | .period => if 8 ≤ d.lastFreq * s.pcu.cal.window.ms / 10000 then .count else .period)) ∧
        (c.state = .still → d.state = .still) ∧
        (c.state = .live → if c.cfg.maxFreq * 10 < d.lastFreq
          then (if 2 ≤ c.aboveMax + 1 then d.state = .fault ∧ d.atOrBelow = 0
            else d.state = .live ∧ d.aboveMax = c.aboveMax + 1)
          else d.state = .live ∧ d.aboveMax = 0) ∧
        (c.state = .fault → if c.cfg.maxFreq * 10 < d.lastFreq then d.state = .fault ∧ d.atOrBelow = 0
          else (if 2 ≤ c.atOrBelow + 1 then d.state = .live ∧ d.aboveMax = 0
            else d.state = .fault ∧ d.atOrBelow = c.atOrBelow + 1))) ∧
      let f := fun ch : ChannelIx => s1.pcu.channels[ch].lastFreq
      let live := fun (x : State) (ch : ChannelIx) => x.pcu.channels[ch].state = .live
      let s0 := min (f 0 * 360 / s.pcu.cal.kd) 2550
      let s4 := min (f 4 * 360 / s.pcu.cal.kd2) 2550
      let both := live s1 0 ∧ live s1 4
      let agree := max s0 s4 - min s0 s4 ≤ s0 / 8
      let left := (live s 0 ∧ ¬ live s1 0) ∨ (live s 4 ∧ ¬ live s1 4)
      let old := s.pcu.cross
      let new := s1.pcu.cross
      (¬ both → new.disagreeing = 0 ∧ new.agreeing = 0 ∧ (left → s1.pcu.disagree = false) ∧
        (¬ left → s1.pcu.disagree = s.pcu.disagree)) ∧
      (both → agree → new.disagreeing = 0 ∧ new.agreeing = min (old.agreeing + 1) 3 ∧
        s1.pcu.disagree = if 3 ≤ old.agreeing + 1 then false else s.pcu.disagree) ∧
      (both → ¬ agree → new.agreeing = 0 ∧ new.disagreeing = min (old.disagreeing + 1) 3 ∧
        s1.pcu.disagree = if 3 ≤ old.disagreeing + 1 then true else s.pcu.disagree) ∧
      let fallback := ¬ live s1 0 ∧ live s1 4 ∧ 50 < s4
      let back := live s1 0 ∧ (¬ live s1 4 ∨ agree)
      (s.pcu.roadSource = .ch0 →
        (¬ fallback → s1.pcu.roadSource = .ch0 ∧ new.fallback = 0) ∧
        (fallback → old.fallback + 1 < 3 → s1.pcu.roadSource = .ch0 ∧ new.fallback = old.fallback + 1) ∧
        (fallback → 3 ≤ old.fallback + 1 → s1.pcu.roadSource = .ch4 ∧ new.fallback = 0 ∧ new.returning = 0)) ∧
      (s.pcu.roadSource = .ch4 →
        (¬ back → s1.pcu.roadSource = .ch4 ∧ new.returning = 0) ∧
        (back → old.returning + 1 < 3 → s1.pcu.roadSource = .ch4 ∧ new.returning = old.returning + 1) ∧
        (back → 3 ≤ old.returning + 1 → s1.pcu.roadSource = .ch0 ∧ new.fallback = 0 ∧ new.returning = 0)) ∧
      s1.pcu.snap =
        { states := mapAll (fun c => c.state) s1.pcu.channels
          freqs := mapAll (fun c => c.lastFreq) s1.pcu.channels
          roadSpeed := match s1.pcu.roadSource with
            | .ch0 => min (f 0 * 360 / s.pcu.cal.kd) 2550
            | .ch4 => min (f 4 * 360 / s.pcu.cal.kd2) 2550
          checkSpeed := min (f 4 * 360 / s.pcu.cal.kd2) 2550
          roadSource := s1.pcu.roadSource
          engineSpeed := min (f 1 * 12 / s.pcu.cal.ke) 9999
          fuelRate := min ((f 2 - f 3) * 360 / s.pcu.cal.kf) 65535
          disagree := s1.pcu.disagree
          implausible := s1.pcu.implausible } ∧
      (∀ i : TripIx, s1.tau.trips[i] = if s.tau.trips[i].state = .open
        then { s.tau.trips[i] with maxSpeed := max s.tau.trips[i].maxSpeed s1.pcu.snap.roadSpeed }
        else s.tau.trips[i]) ∧
      s1.gdu = { s.gdu with
        view := { s1.gdu.view with
          roadSpeed := s1.pcu.snap.roadSpeed, engineSpeed := s1.pcu.snap.engineSpeed
          checkSpeed := s1.pcu.snap.checkSpeed, generalFreq := f 5, roadSource := s1.pcu.roadSource }
        gauges := s1.gdu.gauges } ∧
      (∀ ch : ChannelIx, s1.gdu.view.channels[ch] = if s1.pcu.channels[ch].state = s.pcu.channels[ch].state
        then s.gdu.view.channels[ch] else s1.pcu.channels[ch].state) ∧
      (∀ g : GaugeIx,
        let x := s.gdu.gauges[g]
        let onChannel := x.cfg.source = .roadSpeed ∨ x.cfg.source = .engineSpeed ∨ x.cfg.source = .checkSpeed ∨
          x.cfg.source = .generalFreq
        s1.gdu.gauges[g] = if onChannel ∧ (x.state = .tracking ∨ x.state = .held ∨ x.state = .void)
          then s1.gdu.goCalled x else x) ∧
      s1.wtb.view.roadSpeed = s1.pcu.snap.roadSpeed ∧ s1.wtb.view.engineSpeed = s1.pcu.snap.engineSpeed ∧
      s1.wtb.view.checkSpeed = s1.pcu.snap.checkSpeed ∧ s1.wtb.view.roadSource = s1.pcu.roadSource ∧
      s1.clc.roadSpeed = s1.pcu.snap.roadSpeed ∧
      Marked .roadSpeed s s1 ∧
      let source := fun x : State => match x.pcu.roadSource with | .ch0 => (0 : ChannelIx) | .ch4 => 4
      (s.tau.roadLive = true ↔ live s (source s)) →
        (s1.tau.roadLive = true ↔ live s1 (source s1)) ∧
        (live s (source s) → ¬ live s1 (source s) → s1.tau.levelAtStop =
          match s.tau.fuel.slot with
          | some n => if s.gdu.slots[n].state = .fresh then some (tableLookup s.tau.fuel.tank s.gdu.slots[n].value)
                      else none
          | none => none) ∧
        (¬ (live s (source s) ∧ ¬ live s1 (source s)) → s1.tau.levelAtStop = s.tau.levelAtStop))

/-! ## Sensor Report Table and Gauge Drive Unit -/

/-- O32: SET SLOT writes the two times and leaves the slot's state, value and running timers (R27); a new time is used
from its timer's next start: the stale timer's at the next report, the lost timer's at the next stale expiry. -/
def Obligations.SetSlotAnswers : Prop :=
  (∀ (tag : Byte) (body : List Byte) (s : State), Serves .setSlot tag body s → body.length = 3 →
    ((8 ≤ u8 body 0 ∨ u8 body 1 < 5 ∨ u8 body 2 = 0) →
      exec .setSlot s = .next (turnedDown ReqKind.setSlot.code tag .range s)) ∧
    ∀ n : SlotIx, u8 body 0 = n → 5 ≤ u8 body 1 → 1 ≤ u8 body 2 →
      exec .setSlot s = .next (answered .setSlot tag [] ((takeRequest s).modGdu fun d =>
        { d with
          slots := d.slots.set n
            { d.slots[n] with staleTime := u8 body 1, lostTime := u8 body 2 } }))) ∧
  (∀ (tag : Byte) (n : SlotIx) (hi lo : Byte) (s : State), Serves .sensorReport tag [byteOf n, hi, lo] s →
    ∃ t, exec .sensorReport s = .next t ∧ t.gdu.slots[n].staleTimer = some s.gdu.slots[n].staleTime) ∧
  ∀ (n : SlotIx) (s : State), s.igs.supplied = true → s.gdu.slots[n].state = .fresh →
    s.gdu.slots[n].staleTimer ≠ none →
    ∃ t, exec (.slotStaleExpiry n) s = .next t ∧ t.gdu.slots[n].lostTimer = some s.gdu.slots[n].lostTime

/-- O33: SENSOR REPORT applies its pairs in order, each as a report (R24, R26), or none when a pair names a slot above
7; the WTB finds the same values and a report to the outside slot marks OUTSIDE_TEMP (R25, R154); a gauge on the slot
takes the value into its damping buffer and, when it moves with its source, tracks the table angle of the buffer's
average (R30, R31, R32). A report to the fuel slot is tested while the road source is not LIVE and a level-at-stop
stands, which it replaces; one that reaches that level and the threshold is a refuel: T2 is reset by AUTO, REFUEL is
notified, and the gauges on the slot have their buffers filled with the value (R39, R47, R61). -/
def Obligations.ReportsReachSlots : Prop :=
  (∀ (tag : Byte) (body : List Byte) (s : State), Serves .sensorReport tag body s →
    3 ≤ body.length → body.length ≤ 24 → body.length % 3 = 0 →
    ∀ k, 3 * k < body.length → 8 ≤ u8 body (3 * k) →
      exec .sensorReport s = .next (turnedDown ReqKind.sensorReport.code tag .range s)) ∧
  (∀ (tag : Byte) (pairs : List (SlotIx × Byte × Byte)) (s : State), 1 ≤ pairs.length → pairs.length ≤ 8 →
    Serves .sensorReport tag (pairs.flatMap fun p => [byteOf p.1, p.2.1, p.2.2]) s →
    ∃ s1, exec .sensorReport s = .next (answered .sensorReport tag [] s1) ∧
      OnlyChanges [.gdu, .tau, .wtb, .chs, .clc, .lkp, .free] s s1 ∧
      s1.gdu.slots = pairs.foldl (fun v p => v.set p.1
        { v[p.1] with value := s16 [p.2.1, p.2.2] 0, state := .fresh, staleTimer := some v[p.1].staleTime,
                      lostTimer := none }) s.gdu.slots ∧
      ∀ p ∈ pairs, s1.wtb.view.slotStates[p.1] = .fresh ∧
        s1.wtb.view.slotValues[p.1] = s1.gdu.slots[p.1].value ∧
        (s.clc.outsideSlot = some p.1 → Marked .outsideTemp s s1)) ∧
  (∀ (tag : Byte) (n : SlotIx) (hi lo : Byte) (s : State), Serves .sensorReport tag [byteOf n, hi, lo] s →
    s.tau.fuel.slot = some n →
    let v := s16 [hi, lo] 0
    let amount := tableLookup s.tau.fuel.tank v
    ∃ s1, exec .sensorReport s = .next (answered .sensorReport tag [] s1) ∧
      (s.tau.roadLive = true ∨ s.tau.levelAtStop = none → s1.tau = { s.tau with range := s1.tau.range }) ∧
      ∀ l, s.tau.roadLive = false → s.tau.levelAtStop = some l →
        (amount < l + s.tau.fuel.threshold →
          s1.tau = { s.tau with range := s1.tau.range, levelAtStop := some amount }) ∧
        (l + s.tau.fuel.threshold ≤ amount →
          s1.tau = { s.tau with
            range := s1.tau.range, levelAtStop := some amount
            trips := s.tau.trips.set 2
              { state := .open, distance := 0, fuel := 0, running := 0, moving := 0, maxSpeed := 0,
                startOdometer := s.tau.odometer
                startDate := match s.clk.state with
                  | .set => some { year := s.clk.time.year, month := s.clk.time.month, day := s.clk.time.day,
                                   hour := s.clk.time.hour, minute := s.clk.time.minute }
                  | .unset => none
                resetBy := some .auto } } ∧
          (s.lkp.mask.getLsbD 8 = true → Notice.trip 2 .reset ∈ s1.lkp.notices ∨ s1.lkp.noticesLost = true) ∧
          (s.lkp.mask.getLsbD 7 = true → Notice.refuel l amount ∈ s1.lkp.notices ∨ s1.lkp.noticesLost = true) ∧
          ∀ g : GaugeIx,
            let x := s.gdu.gauges[g]
            let y := s1.gdu.gauges[g]
            (x.cfg.source ≠ .slot n → y = x) ∧
            (x.cfg.source = .slot n → 1 ≤ x.cfg.damping →
              y.buffer = List.replicate x.cfg.damping v ∧ y.present = x.present ∧
              (x.state = .tracking ∨ x.state = .held ∨ x.state = .void →
                y.state = .tracking ∧ y.target = tableLookup x.cfg.table v) ∧
              (¬ (x.state = .tracking ∨ x.state = .held ∨ x.state = .void) →
                y.state = x.state ∧ y.target = x.target)))) ∧
  ∀ (tag : Byte) (n : SlotIx) (hi lo : Byte) (s : State), Serves .sensorReport tag [byteOf n, hi, lo] s →
    (s.tau.fuel.slot = some n → s.tau.roadLive = true ∨ s.tau.levelAtStop = none ∨ ∃ l, s.tau.levelAtStop = some l ∧
      tableLookup s.tau.fuel.tank (s16 [hi, lo] 0) < l + s.tau.fuel.threshold) →
    ∃ t, exec .sensorReport s = .next t ∧ ∀ g : GaugeIx,
      let x := s.gdu.gauges[g]
      let b := (if x.buffer.length < x.cfg.damping then x.buffer else x.buffer.tail) ++ [s16 [hi, lo] 0]
      (x.cfg.source ≠ .slot n → t.gdu.gauges[g] = x) ∧
      (x.cfg.source = .slot n → t.gdu.gauges[g].buffer = b ∧ t.gdu.gauges[g].present = x.present) ∧
      (x.cfg.source = .slot n → x.state = .tracking ∨ x.state = .held ∨ x.state = .void →
        t.gdu.gauges[g].state = .tracking ∧
        t.gdu.gauges[g].target = tableLookup x.cfg.table (b.sum.tdiv b.length)) ∧
      (x.cfg.source = .slot n → ¬ (x.state = .tracking ∨ x.state = .held ∨ x.state = .void) →
        t.gdu.gauges[g] = { x with buffer := b })

/-- O34: a stale expiry makes a FRESH slot STALE and starts its lost timer, a lost expiry makes a STALE slot LOST;
neither changes any other slot state (Table 13, R24); the change is handed to the WTB, and that of the outside slot
marks OUTSIDE_TEMP (R25, R154); a gauge on the slot stands HELD while it is STALE, and is VOID at target 0 with its
buffer emptied once it is LOST (R29, R31, R32). -/
def Obligations.SlotTimersExpire : Prop :=
  ∀ (n : SlotIx) (s : State), s.igs.supplied = true →
    let x := s.gdu.slots[n]
    (x.state ≠ .fresh ∨ x.staleTimer = none → exec (.slotStaleExpiry n) s = .next (settle s)) ∧
    (x.state = .fresh → x.staleTimer ≠ none → ∃ s1, exec (.slotStaleExpiry n) s = .next (settle s1) ∧
      OnlyChanges [.gdu, .tau, .wtb, .chs, .clc, .lkp, .free] s s1 ∧
      s1.gdu.slots = s.gdu.slots.set n { x with state := .stale, staleTimer := none, lostTimer := some x.lostTime } ∧
      s1.wtb.view.slotStates[n] = .stale ∧ (s.clc.outsideSlot = some n → Marked .outsideTemp s s1) ∧
      ∀ g : GaugeIx, s.gdu.gauges[g].cfg.source = .slot n →
        s1.gdu.gauges[g].buffer = s.gdu.gauges[g].buffer ∧ s1.gdu.gauges[g].present = s.gdu.gauges[g].present ∧
        (s.gdu.gauges[g].state = .tracking ∨ s.gdu.gauges[g].state = .held ∨ s.gdu.gauges[g].state = .void →
          s1.gdu.gauges[g].state = .held ∧ some s1.gdu.gauges[g].target = some (s.gdu.gauges[g].present.getD 0))) ∧
    (x.state ≠ .stale ∨ x.lostTimer = none → exec (.slotLostExpiry n) s = .next (settle s)) ∧
    (x.state = .stale → x.lostTimer ≠ none → ∃ s1, exec (.slotLostExpiry n) s = .next (settle s1) ∧
      OnlyChanges [.gdu, .tau, .wtb, .chs, .clc, .lkp, .free] s s1 ∧
      s1.gdu.slots = s.gdu.slots.set n { x with state := .lost, lostTimer := none } ∧
      s1.wtb.view.slotStates[n] = .lost ∧ (s.clc.outsideSlot = some n → Marked .outsideTemp s s1) ∧
      ∀ g : GaugeIx, s.gdu.gauges[g].cfg.source = .slot n →
        s1.gdu.gauges[g].buffer = [] ∧ s1.gdu.gauges[g].present = s.gdu.gauges[g].present ∧
        (s.gdu.gauges[g].state = .tracking ∨ s.gdu.gauges[g].state = .held ∨ s.gdu.gauges[g].state = .void →
          s1.gdu.gauges[g].state = .void ∧ s1.gdu.gauges[g].target = 0))

/-- O35: SET GAUGE (R41) is refused with RANGE, then with STATE, or writes the configuration, empties the damping buffer
down to a FRESH or STALE slot's present value, and sends a needle in TRACKING, HELD or VOID to the state and target its
source calls for (R29, R30, R31, Table 16). That a needle on a FRESH slot with an empty damping buffer keeps its target
is the model's choice (log 22). -/
def Obligations.SetGaugeAnswers : Prop :=
  (∀ (tag : Byte) (body : List Byte) (s : State), Serves .setGauge tag body s → 9 ≤ body.length →
    body.length = 9 + 4 * u8 body 8 →
    let value := fun i : Nat => if u8 body 1 = 4 then s16 body (9 + 4 * i) else (u16 body (9 + 4 * i) : Int)
    let bad := 6 ≤ u8 body 0 ∨ 6 ≤ u8 body 1 ∨ (u8 body 1 = 4 ∧ 8 ≤ u8 body 2) ∨ (u8 body 1 < 4 ∧ u8 body 2 ≠ 0) ∨
      u16 body 3 = 0 ∨ 1080 < u16 body 3 ∨ u16 body 5 < 20 ∨ 2400 < u16 body 5 ∨ u8 body 7 ∉ [1, 2, 4, 8, 16] ∨
      u8 body 8 < 2 ∨ 8 < u8 body 8 ∨ (∃ i, i + 1 < u8 body 8 ∧ value (i + 1) ≤ value i) ∨
      ∃ i, i < u8 body 8 ∧ u16 body 3 < u16 body (11 + 4 * i)
    (bad → exec .setGauge s = .next (turnedDown ReqKind.setGauge.code tag .range s)) ∧
    ∀ (g : GaugeIx) (cfg : GaugeConfig), ¬ bad → u8 body 0 = g →
      GaugeSource.ofCode (u8 body 1) (u8 body 2) = some cfg.source → u16 body 3 = cfg.fullScale →
      u16 body 5 = cfg.slew → u8 body 7 = cfg.damping →
      cfg.table = (List.range (u8 body 8)).map (fun i => (value i, u16 body (11 + 4 * i))) →
      let x := s.gdu.gauges[g]
      let y : Gauge := { x with
        cfg, buffer := match cfg.source with
          | .slot n => if s.gdu.slots[n].state = .fresh ∨ s.gdu.slots[n].state = .stale then [s.gdu.slots[n].value] else []
          | _ => [] }
      (x.state = .homing ∨ x.state = .sweep ∨ (∃ a, x.present = some a ∧ cfg.fullScale < a) →
        exec .setGauge s = .next (turnedDown ReqKind.setGauge.code tag .state s)) ∧
      (x.state ≠ .homing → x.state ≠ .sweep → (∀ a, x.present = some a → a ≤ cfg.fullScale) →
        exec .setGauge s = .next (answered .setGauge tag [] ((takeRequest s).modGdu fun d =>
          { d with
            gauges := d.gauges.set g
              (if x.state = .rest ∨ x.state = .parking then y else s.gdu.goCalled y) })))) ∧
  ∀ (d : Gdu) (x : Gauge),
    let held : Gauge := { x with state := .held, phase := none, homingLeft := none, target := x.present.getD 0 }
    let void : Gauge := { x with state := .void, phase := none, homingLeft := none, target := 0 }
    let tracking := fun target => ({ x with state := .tracking, phase := none, homingLeft := none, target } : Gauge)
    let byChannel := fun (ch : ChannelIx) (v : Nat) =>
      if d.view.channels[ch] = .fault then held else tracking (tableLookup x.cfg.table v)
    d.goCalled x = match x.cfg.source with
      | .fixed arg => tracking (x.cfg.fullScale * arg / 255)
      | .roadSpeed => byChannel (match d.view.roadSource with | .ch0 => 0 | .ch4 => 4) d.view.roadSpeed
      | .engineSpeed => byChannel 1 d.view.engineSpeed
      | .checkSpeed => byChannel 4 d.view.checkSpeed
      | .generalFreq => byChannel 5 d.view.generalFreq
      | .slot n => match d.slots[n].state with
        | .fresh => if x.buffer = [] then tracking x.target
          else tracking (tableLookup x.cfg.table (x.buffer.sum.tdiv x.buffer.length))
        | .stale => held
        | .lost | .never => void

/-- O36: a table of points gives the first point's angle or fuel at or below its value, the last point's at or above
its, and between two neighbours the interpolated one with the remainder discarded toward zero (R30, R56). -/
def Obligations.TablesInterpolate : Prop :=
  ∀ (table : List (Int × Nat)) (v : Int), 2 ≤ table.length → increasing table = true →
    (∀ p, table.head? = some p → v ≤ p.1 → tableLookup table v = p.2) ∧
    (∀ p, table.getLast? = some p → p.1 ≤ v → tableLookup table v = p.2) ∧
    ∀ (i : Nat) (p q : Int × Nat), table[i]? = some p → table[i + 1]? = some q → p.1 ≤ v → v < q.1 →
      (tableLookup table v : Int) = p.2 + (((q.2 : Int) - p.2) * (v - p.1)).tdiv (q.1 - p.1)

/-- O37: SWEEP GAUGES is refused outside RUN or while a gauge homes with STATE, during a sweep with BUSY, or sends every
gauge into SWEEP (R37); a homing end puts a needle at 0, known, in the state its source calls for, and the last one
queues HOMED (R36); a needle that is not homing, or CRANK, lets it pass. -/
def Obligations.SweepAndHoming : Prop :=
  (∀ (tag : Byte) (s : State), Serves .sweepGauges tag [] s →
    let homing := ∃ g : GaugeIx, s.gdu.gauges[g].state = .homing
    let sweeping := ∃ g : GaugeIx, s.gdu.gauges[g].state = .sweep
    (s.gdu.power ≠ .run ∨ homing →
      exec .sweepGauges s = .next (turnedDown ReqKind.sweepGauges.code tag .state s)) ∧
    (s.gdu.power = .run → ¬ homing → sweeping →
      exec .sweepGauges s = .next (turnedDown ReqKind.sweepGauges.code tag .busy s)) ∧
    (s.gdu.power = .run → ¬ homing → ¬ sweeping →
      exec .sweepGauges s = .next (answered .sweepGauges tag [] ((takeRequest s).modGdu fun d =>
        { d with gauges := mapAll (fun x =>
            if x.present = some x.cfg.fullScale then { x with state := .sweep, phase := some .down, target := 0 }
            else { x with state := .sweep, phase := some .up, target := x.cfg.fullScale }) d.gauges })))) ∧
  ∀ (g : GaugeIx) (s : State), s.igs.supplied = true →
    (s.gdu.gauges[g].state ≠ .homing ∨ s.gdu.power = .crank → exec (.homingEnd g) s = .next (settle s)) ∧
    (s.gdu.gauges[g].state = .homing → s.gdu.power ≠ .crank → ∃ s1, exec (.homingEnd g) s = .next (settle s1) ∧
      OnlyChanges [.gdu, .lkp] s s1 ∧
      s1.gdu = { s.gdu with
        gauges := s.gdu.gauges.set g (s.gdu.goCalled { s.gdu.gauges[g] with present := some 0 }) } ∧
      ((∃ h, h ≠ g ∧ s.gdu.gauges[h].state = .homing) → s1.lkp = s.lkp) ∧
      ((∀ h, h ≠ g → s.gdu.gauges[h].state ≠ .homing) → s1.lkp = s.lkp.takeNotice (.gauge .homed)))

/-- O38: a step moves a driven needle one angle step toward its target and no other needle (R33); a sweeping needle
turns at its full scale and waits at 0, keeps its phase and its target at every other step, and the last one ends the
sweep with SWEPT (R37); the last needle of a parking ends it with PARKED (R38). Stated where the gauges' invariant
holds, by which in a sweep every gauge is in SWEEP and not all of them wait (`GaugesOk`, kept by every step: O11). -/
def Obligations.NeedlesStep : Prop :=
  ∀ (g : GaugeIx) (s : State), s.igs.supplied = true → GaugesOk s.gdu →
    let x := s.gdu.gauges[g]
    let driven := s.gdu.power ≠ .crank ∧
      (x.state = .tracking ∨ x.state = .void ∨ x.state = .sweep ∨ x.state = .parking)
    (¬ driven ∨ x.present = none ∨ x.present = some x.target → exec (.needleStep g) s = .next (settle s)) ∧
    ∀ a, driven → x.present = some a → a ≠ x.target →
      let a1 := if a < x.target then a + 1 else a - 1
      let after := fun h : GaugeIx => if h = g then some a1 else s.gdu.gauges[h].present
      let parked := ∀ h : GaugeIx, after h = none ∨ after h = some 0
      ∃ s1, exec (.needleStep g) s = .next (settle s1) ∧ OnlyChanges [.gdu, .lkp] s s1 ∧
        s1.gdu.power = s.gdu.power ∧ s1.gdu.slots = s.gdu.slots ∧ s1.gdu.view = s.gdu.view ∧
        (∀ h : GaugeIx, s1.gdu.gauges[h].present = after h ∧ s1.gdu.gauges[h].cfg = s.gdu.gauges[h].cfg ∧
          s1.gdu.gauges[h].buffer = s.gdu.gauges[h].buffer) ∧
        (x.state ≠ .sweep → s.gdu.parking = false → s1.gdu = { s.gdu with
          gauges := s.gdu.gauges.set g { x with present := some a1 } } ∧ s1.lkp = s.lkp) ∧
        (x.state = .sweep → ¬ (x.phase = some .down ∧ a1 = 0) → s1.lkp = s.lkp ∧ s1.gdu = { s.gdu with
          gauges := s.gdu.gauges.set g (if x.phase = some .up ∧ a1 = x.cfg.fullScale
            then { x with present := some a1, phase := some .down, target := 0 } else { x with present := some a1 }) }) ∧
        (x.state = .sweep → x.phase = some .down → a1 = 0 → s.gdu.parking = false →
          (∃ h, h ≠ g ∧ s.gdu.gauges[h].state = .sweep ∧ s.gdu.gauges[h].phase ≠ some .wait) →
          s1.lkp = s.lkp ∧ s1.gdu = { s.gdu with
            gauges := s.gdu.gauges.set g { x with present := some a1, phase := some .wait, target := 0 } }) ∧
        (x.state = .sweep → x.phase = some .down → a1 = 0 → s.gdu.parking = false →
          (∀ h, h ≠ g → s.gdu.gauges[h].state = .sweep → s.gdu.gauges[h].phase = some .wait) →
          s1.lkp = s.lkp.takeNotice (.gauge .swept) ∧ ∀ h : GaugeIx, s.gdu.gauges[h].state = .sweep →
            s1.gdu.gauges[h] = s.gdu.goCalled { s.gdu.gauges[h] with present := after h }) ∧
        (s.gdu.parking = true → (∀ h : GaugeIx, s.gdu.gauges[h].state ≠ .sweep) → parked →
          s1.lkp = s.lkp.takeNotice (.gauge .parked) ∧ s1.gdu.parking = false ∧
          ∀ h : GaugeIx, s1.gdu.gauges[h].state = if (after h).isSome then .rest else s.gdu.gauges[h].state) ∧
        (s.gdu.parking = true → (∀ h : GaugeIx, s.gdu.gauges[h].state ≠ .sweep) → ¬ parked →
          s1.lkp = s.lkp ∧ s1.gdu.parking = true ∧
          ∀ h : GaugeIx, s1.gdu.gauges[h].state = s.gdu.gauges[h].state)

/-! ## Trip Accumulator Unit -/

/-- O39: TRIP CONTROL acts by Table 20, a reset by R47 (R46), and marks PASSENGER_TRIP for T3 (R65); SET DESTINATION
sets the distance to go or makes it absent and marks DESTINATION (R58, R65). That a SET DESTINATION which leaves the
distance as it was marks too is the model's reading (log 18). -/
def Obligations.TripRequestsAnswer : Prop :=
  (∀ (tag : Byte) (body : List Byte) (s : State), Serves .tripControl tag body s → body.length = 2 →
    ((4 ≤ u8 body 0 ∨ 4 ≤ u8 body 1) → exec .tripControl s = .next (turnedDown ReqKind.tripControl.code tag .range s)) ∧
    ∀ t : TripIx, u8 body 0 = t →
      let r := s.tau.trips[t]
      let becomes := fun r1 : Trip =>
        let s1 := (takeRequest s).modTau fun u => { u with trips := u.trips.set t r1 }
        exec .tripControl s = .next (answered .tripControl tag [] (if t = 3 then mark .passengerTrip s1 else s1))
      let refuses := exec .tripControl s = .next (turnedDown ReqKind.tripControl.code tag .state s)
      (u8 body 1 = 0 → becomes
        { state := .open, distance := 0, fuel := 0, running := 0, moving := 0, maxSpeed := 0,
          startOdometer := s.tau.odometer
          startDate := match s.clk.state with
            | .set => some { year := s.clk.time.year, month := s.clk.time.month, day := s.clk.time.day,
                             hour := s.clk.time.hour, minute := s.clk.time.minute }
            | .unset => none
          resetBy := some .link }) ∧
      (u8 body 1 = 1 → if r.state = .open then becomes { r with state := .paused } else refuses) ∧
      (u8 body 1 = 2 → if r.state = .paused then becomes { r with state := .open } else refuses) ∧
      (u8 body 1 = 3 → if r.state = .closed then refuses else becomes { r with state := .closed })) ∧
  ∀ (tag : Byte) (body : List Byte) (s : State), Serves .setDestination tag body s → body.length = 3 →
    (1000000 ≤ u24 body 0 → u24 body 0 ≠ 0xFFFFFF →
      exec .setDestination s = .next (turnedDown ReqKind.setDestination.code tag .range s)) ∧
    (u24 body 0 ≤ 999999 ∨ u24 body 0 = 0xFFFFFF →
      exec .setDestination s = .next (answered .setDestination tag [] (mark .destination
        ((takeRequest s).modTau fun u => { u with
          destination := if u24 body 0 = 0 ∨ u24 body 0 = 0xFFFFFF then none else some (u24 body 0) }))))

/-- O40: RESTORE ODOMETER is refused with LOCKED while the odometer is VALID and with RANGE when the reading is too
large, or restores the reading, the trips' start odometers and the last-service odometers, makes the odometer VALID,
hands that to the WTB and the marker, and answers with the new value (R43, R44, R139). -/
def Obligations.RestoreOdometerAnswers : Prop :=
  ∀ (tag : Byte) (body : List Byte) (s : State), Serves .restoreOdometer tag body s → body.length = 3 →
    let r := u24 body 0
    (s.tau.odometerState = .valid →
      exec .restoreOdometer s = .next (turnedDown ReqKind.restoreOdometer.code tag .locked s)) ∧
    (s.tau.odometerState = .invalid → 9999999 < r ∨ 9999999 - s.tau.accInvalid < r →
      exec .restoreOdometer s = .next (turnedDown ReqKind.restoreOdometer.code tag .range s)) ∧
    (s.tau.odometerState = .invalid → r ≤ 9999999 - s.tau.accInvalid →
      ∃ s1, exec .restoreOdometer s =
          .next (answered .restoreOdometer tag (be3 (r + s.tau.accInvalid)) s1) ∧
        OnlyChanges [.tau, .svs, .wtb, .chs, .clc, .lkp] s s1 ∧
        s1.tau = { s.tau with
          odometer := r + s.tau.accInvalid, odometerState := .valid, accInvalid := 0
          trips := mapAll (fun t => { t with startOdometer := (t.startOdometer + r) % 10000000 }) s.tau.trips } ∧
        s1.svs = { s.svs with
          items := mapAll (fun i => { i with lastOdometer := i.lastOdometer.map fun o => (o + r) % 10000000 })
            s.svs.items } ∧
        s1.wtb.view = { s.wtb.view with odometer := .valid } ∧ s1.lkp.odometerInvalid = false)

/-- O41: SET FUEL OPTIONS is refused with RANGE, or writes the options, empties the economy ring, takes the
level-at-stop afresh while the road source is not LIVE (absent while it is), and leaves no range, DESTINATION marked
(R55, R56, R57, R60, R65). -/
def Obligations.SetFuelOptionsAnswers : Prop :=
  ∀ (tag : Byte) (body : List Byte) (s : State), Serves .setFuelOptions tag body s → 5 ≤ body.length →
    body.length = 5 + 5 * u8 body 4 →
    let bad := (8 ≤ u8 body 0 ∧ u8 body 0 ≠ 0xFF) ∨ u16 body 1 = 0 ∨ u16 body 1 = 0xFFFF ∨ u8 body 3 = 0 ∨
      u8 body 4 < 2 ∨ 8 < u8 body 4 ∨
      (∃ i, i + 1 < u8 body 4 ∧ s16 body (5 + 5 * (i + 1)) ≤ s16 body (5 + 5 * i)) ∨
      ∃ i, i < u8 body 4 ∧ 9999999 < u24 body (7 + 5 * i)
    (bad → exec .setFuelOptions s = .next (turnedDown ReqKind.setFuelOptions.code tag .range s)) ∧
    ∀ o : FuelOptions, ¬ bad → u8 body 0 = (match o.slot with | some n => n.val | none => 0xFF) →
      u16 body 1 = o.threshold → u8 body 3 = o.bucketLength →
      o.tank = (List.range (u8 body 4)).map (fun i => (s16 body (5 + 5 * i), u24 body (7 + 5 * i))) →
      ∃ s1, exec .setFuelOptions s = .next (answered .setFuelOptions tag [] s1) ∧
        OnlyChanges [.tau, .wtb, .chs, .clc, .lkp] s s1 ∧ Marked .destination s s1 ∧
        s1.tau = { s.tau with
          fuel := o, ring := [], bucket := { distance := 0, fuel := 0, seconds := 0 }, range := none
          levelAtStop := match s.tau.roadLive, o.slot with
            | false, some n =>
              if s.gdu.slots[n].state = .fresh then some (tableLookup o.tank s.gdu.slots[n].value) else none
            | _, _ => none }

/-! ## Calendar Clock -/

/-- O42: SET CLOCK with a time that does not exist is refused with RANGE; otherwise the fields are set, the second
begins afresh, the state becomes SET, a change of it is handed, and CLOCK is marked (R72, R73). SET ALARM replaces the
record, removes its chime request and marks ALARMS_REAR for A2 and A3 (R77, R80). SET CLOCK OPTIONS writes lock and
trim alone (R75). That the second begun afresh has the present trim is the model's choice (log 29). -/
def Obligations.ClockRequestsAnswer : Prop :=
  (∀ (tag : Byte) (body : List Byte) (s : State), Serves .setClock tag body s → body.length = 7 →
    let y := u16 body 0
    let m := u8 body 2
    let d := u8 body 3
    let days := if m = 2 then (if y % 4 = 0 then 29 else 28) else if m = 4 ∨ m = 6 ∨ m = 9 ∨ m = 11 then 30 else 31
    let bad := y < 1980 ∨ 2079 < y ∨ m = 0 ∨ 12 < m ∨ d = 0 ∨ days < d ∨ 23 < u8 body 4 ∨ 59 < u8 body 5 ∨ 59 < u8 body 6
    (bad → exec .setClock s = .next (turnedDown ReqKind.setClock.code tag .range s)) ∧
    (¬ bad → ∃ s1, exec .setClock s = .next (answered .setClock tag [] s1) ∧
      OnlyChanges [.clk, .wtb, .chs, .clc, .lkp] s s1 ∧ Marked .clock s s1 ∧
      s1.clk = { s.clk with
        time := { year := y, month := m, day := d, hour := u8 body 4, minute := u8 body 5, second := u8 body 6 }
        state := .set, secondLength := (1000000 - 2 * s.clk.trim).toNat } ∧
      (s.clk.state = .unset → s1.wtb.view.clock = .set ∧ s1.lkp.clockUnset = false) ∧
      (s.clk.state = .set → s1.wtb = s.wtb ∧ s1.chs = s.chs ∧ s1.lkp = (takeRequest s).lkp))) ∧
  (∀ (tag : Byte) (body : List Byte) (s : State), Serves .setAlarm tag body s → body.length = 8 →
    ((4 ≤ u8 body 0 ∨ 2 ≤ u8 body 1 ∨ 24 ≤ u8 body 2 ∨ 60 ≤ u8 body 3 ∨ 128 ≤ u8 body 4 ∨ 2 ≤ u8 body 5 ∨
        8 ≤ u8 body 6 ∨ 3 ≤ u8 body 7) →
      exec .setAlarm s = .next (turnedDown ReqKind.setAlarm.code tag .range s)) ∧
    ∀ (a : AlarmIx) (x : Alarm), u8 body 0 = a → u8 body 1 = x.enabled.toNat → u8 body 2 = x.hour → x.hour ≤ 23 →
      u8 body 3 = x.minute → x.minute ≤ 59 → u8 body 4 = x.dayMask.toNat → AlarmRepeat.ofCode (u8 body 5) = some x.rep →
      u8 body 6 = x.pattern → Destination.ofCode (u8 body 7) = some x.dest →
      let s1 := removeChime (.alarm a) ((takeRequest s).modClk fun c => { c with alarms := c.alarms.set a x })
      exec .setAlarm s = .next (answered .setAlarm tag [] (if 2 ≤ a.val then mark .alarmsRear s1 else s1))) ∧
  ∀ (tag : Byte) (body : List Byte) (s : State), Serves .setClockOptions tag body s → body.length = 2 →
    ((2 ≤ u8 body 0 ∨ s8 body 1 < -31 ∨ 31 < s8 body 1) →
      exec .setClockOptions s = .next (turnedDown ReqKind.setClockOptions.code tag .range s)) ∧
    ∀ lock : Bool, u8 body 0 = lock.toNat → -31 ≤ s8 body 1 → s8 body 1 ≤ 31 →
      exec .setClockOptions s = .next (answered .setClockOptions tag []
        ((takeRequest s).modClk fun c => { c with lock, trim := s8 body 1 }))

/-- O43: a second boundary advances the clock with every carry, the end of 2079 making it UNSET (R68), and starts a
second of the present trim (R67); an alarm that matches at a minute of the SET clock makes its chime request and its
ALARM notice, and disables itself when it repeats ONCE, ALARMS_REAR marked for A2 and A3 (R77, R78, R79); every minute
event marks CLOCK, and a change of T3's running minutes PASSENGER_TRIP (R65, R69); the engine hours, the trips' seconds
and the bucket's seconds count (R50, R51), a trip whose running seconds come to 3599999 bringing the TRIP notice
SATURATED and no trip otherwise (R53); at a midnight that leaves the clock SET the enabled items' days count down, and
with a completed tenth of an engine hour their hours (R70, R134, R135). -/
def Obligations.SecondsPass : Prop :=
  (∀ (a : AlarmIx) (s : State),
    let al := s.clk.alarms[a]
    let s1 := (takeChime
      { source := .alarm a, cls := .advisory, pattern := al.pattern, dest := al.dest, arrival := 0, tag := none
        passes := match s.chs.patterns[al.pattern].passes with
          | .times k => .times k
          | .whileActive => .times 1 } s).1.modLkp fun l => l.takeNotice (.alarm a)
    let s2 := s1.modClk fun c => { c with alarms := c.alarms.set a { al with enabled := false } }
    alarmMatch a s = match al.rep with
      | .daily => s1
      | .once => if 2 ≤ a.val then mark .alarmsRear s2 else s2) ∧
  (∀ (i : TripIx) (s : State), (tripSecond i s).lkp =
    if s.tau.trips[i].state = .open ∧ s.tau.trips[i].running = 3599998
    then s.lkp.takeNotice (.trip i.castSucc .saturated) else s.lkp) ∧
  ∀ s : State, s.igs.supplied = true → ∃ s1, exec .secondBoundary s = .next (settle s1) ∧
    OnlyChanges [.clk, .tau, .svs, .wtb, .chs, .clc, .lkp, .free] s s1 ∧
    let t := s.clk.time
    let days := if t.month = 2 then (if t.year % 4 = 0 then 29 else 28)
      else if t.month = 4 ∨ t.month = 6 ∨ t.month = 9 ∨ t.month = 11 then 30 else 31
    let n := s1.clk.time
    n = (if t.second < 59 then { t with second := t.second + 1 }
      else if t.minute < 59 then { t with second := 0, minute := t.minute + 1 }
      else if t.hour < 23 then { t with second := 0, minute := 0, hour := t.hour + 1 }
      else if t.day < days then { t with second := 0, minute := 0, hour := 0, day := t.day + 1 }
      else if t.month < 12 then { t with second := 0, minute := 0, hour := 0, day := 1, month := t.month + 1 }
      else { year := if t.year < 2079 then t.year + 1 else 1980, month := 1, day := 1, hour := 0, minute := 0,
             second := 0 }) ∧
    s1.clk.state = (if t = { year := 2079, month := 12, day := 31, hour := 23, minute := 59, second := 59 } then .unset
      else s.clk.state) ∧
    s1.clk.secondLength = (1000000 - 2 * s.clk.trim).toNat ∧ s1.clk.trim = s.clk.trim ∧ s1.clk.lock = s.clk.lock ∧
    (∀ a : AlarmIx, s1.clk.alarms[a] = { s.clk.alarms[a] with
      enabled := s.clk.alarms[a].enabled &&
        !(decide (n.second = 0 ∧ s1.clk.state = .set ∧ s.clk.alarms[a].hour = n.hour ∧
          s.clk.alarms[a].minute = n.minute ∧ s.clk.alarms[a].rep = .once ∧
          (s.clk.alarms[a].dayMask = 0 ∨ s.clk.alarms[a].dayMask.getLsbD n.weekday = true))) }) ∧
    (∀ a : AlarmIx, s.clk.alarms[a].enabled = true → n.second = 0 → s1.clk.state = .set →
      s.clk.alarms[a].hour = n.hour → s.clk.alarms[a].minute = n.minute →
      s.clk.alarms[a].dayMask = 0 ∨ s.clk.alarms[a].dayMask.getLsbD n.weekday = true →
      (s.lkp.mask.getLsbD 3 = true → Notice.alarm a ∈ s1.lkp.notices ∨ s1.lkp.noticesLost = true) ∧
      ((∀ w : EntryIx, s.wtb.entries[w].cfg.pattern = none) → s.chs.queue.length ≤ 4 →
        s1.chs.holds (.alarm a) = true) ∧
      (2 ≤ a.val → s.clk.alarms[a].rep = .once → Marked .alarmsRear s s1)) ∧
    (n.second = 0 → Marked .clock s s1) ∧
    (s.tau.power ≠ .parked → s.tau.trips[(3 : TripIx)].state = .open →
      min (s.tau.trips[(3 : TripIx)].running + 1) 3599999 / 60 ≠ s.tau.trips[(3 : TripIx)].running / 60 →
      Marked .passengerTrip s s1) ∧
    let tenth := s.tau.engineRunning = true ∧ 360 ≤ s.tau.engineResidue + 1
    s1.tau.engineResidue = (if s.tau.engineRunning then (if s.tau.engineResidue + 1 < 360 then s.tau.engineResidue + 1 else 0)
      else s.tau.engineResidue) ∧
    s1.tau.engineHours = (if tenth then min (s.tau.engineHours + 1) 999999 else s.tau.engineHours) ∧
    s1.tau.odometer = s.tau.odometer ∧ s1.tau.ring = s.tau.ring ∧ s1.tau.destination = s.tau.destination ∧
    (∀ i : TripIx, s1.tau.trips[i] = if s.tau.power ≠ .parked ∧ s.tau.trips[i].state = .open then
        { s.tau.trips[i] with
          running := min (s.tau.trips[i].running + 1) 3599999
          moving := if s.tau.roadLive then min (s.tau.trips[i].moving + 1) 3599999 else s.tau.trips[i].moving }
      else s.tau.trips[i]) ∧
    (∀ i : TripIx, s.tau.power ≠ .parked → s.tau.trips[i].state = .open → s.tau.trips[i].running = 3599998 →
      s.lkp.mask.getLsbD 8 = true →
      Notice.trip i.castSucc .saturated ∈ s1.lkp.notices ∨ s1.lkp.noticesLost = true) ∧
    s1.tau.bucket = (if s.tau.power ≠ .parked then
      { s.tau.bucket with seconds := min (s.tau.bucket.seconds + 1) 65535 } else s.tau.bucket) ∧
    ∀ i : ItemIx,
      let it := s.svs.items[i]
      s1.svs.items[i].remainingDistance = it.remainingDistance ∧
      (∀ (I : Nat) (r : Int), it.daysInterval = some I → it.remainingDays = some r → s1.svs.items[i].remainingDays =
        if it.enabled = true ∧ n.hour = 0 ∧ n.minute = 0 ∧ n.second = 0 ∧ s1.clk.state = .set
          then some (max (r - 1) (-2 * I)) else some r) ∧
      (∀ (I : Nat) (r : Int), it.hoursInterval = some I → it.remainingHours = some r →
        s1.svs.items[i].remainingHours = if it.enabled = true ∧ tenth then some (max (r - 1) (-2 * I)) else some r)

/-! ## Warning Table -/

/-- O44: an evaluation (R91, R92) of an entry that is parked-live, or outside PARKED, remembers the source condition,
moves the entry as Table 29 gives (R93) with its timers (R93, R94, R95), queues a WARNING notice for a change where its
kind is on and the queue has room, or sets the notices-lost marker where it has none, marks REAR_WARNINGS for a change
of a mirror-rear entry that enters, leaves or moves among ACTIVE, ACKED and RESOLVED (R97), and removes the chime
request of an entry that leaves ACTIVE (R95); the other entries keep their states; one that is not parked-live is not
evaluated in PARKED. An entry that enters ACTIVE has its timers stopped and its chime request taken as O50 gives (R94,
R96). The sources and gates decide by Tables 27 and 28 (R87, R88, R89, R91), the value sources with their hysteresis, an
absent value giving false. Where one event evaluates several entries it evaluates each that its test names, W0 first
(R92). What a command hands the WTB evaluates the entries that name it (R92): an enabled entry that is parked-live, or
outside PARKED, remembers its source condition and moves by Table 29 as the copies decide after the change, with its
WARNING notice; this is stated where one event changes what decides the entry once, and O9 says of every event that it
leaves no entry unevaluated. -/
def Obligations.EntriesAreEvaluated : Prop :=
  (∀ (w : EntryIx) (s : State),
    let e := s.wtb.entries[w]
    let t := evaluateEntry w s
    let holds := e.cfg.enabled && s.wtb.sourceCondition e && s.wtb.gateTrue e.cfg.gate1 && s.wtb.gateTrue e.cfg.gate2
    let next : EntryState := match e.state, holds with
      | .idle, true => if e.cfg.qualify = 0 then .active else .pending
      | .pending, false => .idle
      | .active, false => if e.cfg.latching then .resolved else .idle
      | .acked, false => .idle
      | .resolved, true => .active
      | st, _ => st
    (s.wtb.view.power = .parked → e.cfg.parkedLive = false → t = s) ∧
    (s.wtb.view.power ≠ .parked ∨ e.cfg.parkedLive = true →
      OnlyChanges [.wtb, .chs, .clc, .lkp] s t ∧ { t.wtb with entries := s.wtb.entries } = s.wtb ∧
      t.wtb.entries[w].state = next ∧ t.wtb.entries[w].cfg = e.cfg ∧
      t.wtb.entries[w].memory = s.wtb.sourceCondition e ∧ t.wtb.entries[w].eventPending = e.eventPending ∧
      t.wtb.entries[w].linkCondition = e.linkCondition ∧
      (e.state = .idle → next = .pending → t.wtb.entries[w].qualifyTimer = some e.cfg.qualify) ∧
      (e.state = .pending → next = .idle → t.wtb.entries[w].qualifyTimer = none) ∧
      (e.state = .active → next ≠ .active → t.wtb.entries[w].repeatTimer = none ∧
        t.chs = s.chs.remove (.warning w)) ∧
      (e.state ≠ .active → next = .active → ∀ p, e.cfg.pattern = some p → s.chs.queue.length < 8 →
        t.chs.holds (.warning w) = true) ∧
      (e.state ≠ .active → next = .active →
        let entered := s.modWtb fun x => { x with entries := x.entries.set w { e with
          state := .active, qualifyTimer := none, repeatTimer := none, memory := s.wtb.sourceCondition e } }
        let handed := match e.cfg.pattern with
          | some p => (takeChime { source := .warning w, cls := e.cfg.cls, pattern := p, dest := e.cfg.dest, arrival := 0
                                   passes := s.chs.patterns[p].passes, tag := none } entered).1
          | none => entered
        t.wtb = handed.wtb ∧ t.chs = handed.chs) ∧
      (next = e.state → t.chs = s.chs ∧ t.lkp = s.lkp ∧ t.clc = s.clc) ∧
      (next ≠ e.state → s.lkp.mask.getLsbD 1 = true → s.lkp.notices.length < 11 →
        Notice.warning w next ∈ t.lkp.notices) ∧
      (next ≠ e.state → s.lkp.mask.getLsbD 1 = true →
        Notice.warning w next ∈ t.lkp.notices ∨ t.lkp.noticesLost = true) ∧
      (next ≠ e.state → next ≠ .active ∨ e.cfg.pattern = none → t.lkp = s.lkp.takeNotice (.warning w next)) ∧
      (next ≠ e.state → e.cfg.mirrorRear = true → (∃ st ∈ [e.state, next], st = .active ∨ st = .acked ∨ st = .resolved) →
        Marked .rearWarnings s t) ∧
      ∀ v : EntryIx, v ≠ w → { t.wtb.entries[v] with repeatTimer := none } = { s.wtb.entries[v] with repeatTimer := none })) ∧
  (∀ (test : EntryConfig → Bool) (s : State), evaluateWhere test s =
    ((List.finRange 32).filter fun w => test s.wtb.entries[w].cfg).foldl (fun t w => evaluateEntry w t) s) ∧
  (let evaluated := fun (c : Instr) (s : State) (w : EntryIx) =>
      let e := s.wtb.entries[w]
      s.igs.supplied = true → EntriesOk s → EntriesCurrent s.wtb → ServiceItemsOk s.svs → PulseCopiesOk s →
      StateCopiesOk s → s.wtb.watches e →
      ∃ s1, exec c s = .next (settle s1) ∧
        let e1 := s1.wtb.entries[w]
        let decided := { e1 with memory := e.memory }
        e1.cfg = e.cfg ∧ e1.memory = s1.wtb.sourceCondition decided ∧ e1.state = e.moved (s1.wtb.holds decided) ∧
        (e.state ≠ .pending → e1.state = .pending → e1.qualifyTimer = some e.cfg.qualify) ∧
        (e.state ≠ .active → e1.state = .active → e.cfg.pattern.isSome = true →
          s1.chs.holds (.warning w) = true ∨ e1.repeatTimer = e.cfg.rep) ∧
        (e.state = .active → e1.state ≠ .active → e1.repeatTimer = none ∧ s1.chs.holds (.warning w) = false) ∧
        (e1.state ≠ e.state → s.lkp.mask.getLsbD 1 = true →
          Notice.warning w e1.state ∈ s1.lkp.notices ∨ s1.lkp.noticesLost = true)
    let ungated := fun x : EntryConfig => ∀ g ∈ [x.gate1, x.gate2], g ≠ .engine ∧ g ≠ .moving ∧ g ≠ .still
    (∀ c ∈ ([.setChannel, .setCalibration, .setFuelOptions, .restoreOdometer, .setClock, .secondBoundary, .setSwitch,
        .setServiceItem, .serviceDone, .setNode, .coachReset, .contention, .backoffExpiry, .resettingEnd,
        .answerWindowExpiry, .answerCut] : List Instr), ∀ s w, evaluated c s w) ∧
    (∀ (n : SlotIx) (s : State) (w : EntryIx), evaluated (.slotStaleExpiry n) s w ∧ evaluated (.slotLostExpiry n) s w) ∧
    (∀ (n : SwitchIx) (s : State) (w : EntryIx), evaluated (.switchChange n) s w) ∧
    (∀ (tag : Byte) (pairs : List (SlotIx × Byte × Byte)) (s : State) (w : EntryIx),
      (pairs.map fun p => p.1).Nodup → Serves .sensorReport tag (pairs.flatMap fun p => [byteOf p.1, p.2.1, p.2.2]) s →
      evaluated .sensorReport s w) ∧
    (∀ (ch : ChannelIx) (s : State) (w : EntryIx), evaluated (.stallExpiry ch) s w) ∧
    (∀ (ch : ChannelIx) (at10us : Nat) (s : State) (w : EntryIx),
      let x := s.wtb.entries[w].cfg
      s.pcu.channels[ch].state ≠ .still ∨ ungated x ∨ (x.source ≠ .arrival ∧ x.source ≠ .valueAbove .range ∧
        x.source ≠ .valueBelow .range ∧ ∀ i, x.source ≠ .service i) → evaluated (.pulseEdge ch at10us) s w) ∧
    (∀ (at10us : Nat) (s t : State) (w : EntryIx), exec (.windowExpiry at10us) s = .next t →
      ungated s.wtb.entries[w].cfg ∨ (t.pcu.roadSource = s.pcu.roadSource ∧
        ∀ ch : ChannelIx, t.pcu.channels[ch].state = s.pcu.channels[ch].state) → evaluated (.windowExpiry at10us) s w) ∧
    ∀ (s : State) (w : EntryIx), s.wtb.entries[w].cfg.dest ≠ .rear → evaluated .answerComplete s w) ∧
  ∀ (t : Wtb) (e : Entry),
    let value := fun v : WarnValue => match v with
      | .roadSpeed => some (t.view.roadSpeed : Int)
      | .engineSpeed => some (t.view.engineSpeed : Int)
      | .checkSpeed => some (t.view.checkSpeed : Int)
      | .range => t.view.range.map fun r => ((min (r / 10) 32767 : Nat) : Int)
      | .slot n => if t.view.slotStates[n] = .fresh ∨ t.view.slotStates[n] = .stale then some t.view.slotValues[n] else none
    (t.sourceCondition e = true ↔ match e.cfg.source with
      | .valueAbove v => ∃ x, value v = some x ∧
          (if e.memory then e.cfg.threshold - e.cfg.hysteresis < x else e.cfg.threshold < x)
      | .valueBelow v => ∃ x, value v = some x ∧
          (if e.memory then x < e.cfg.threshold + e.cfg.hysteresis else x < e.cfg.threshold)
      | .switch n => t.switches[n].level = t.switches[n].activeHigh
      | .channelFault ch => t.view.channels[ch] = .fault
      | .slotStale n => t.view.slotStates[n] = .stale ∨ t.view.slotStates[n] = .lost
      | .speedDisagree => t.view.disagree = true
      | .fuelImplausible => t.view.implausible = true
      | .service i => t.view.items[i] = .due ∨ t.view.items[i] = .overdue
      | .nodeLost n => t.view.nodes[n] = .lost
      | .lineFault => t.view.line = .fault
      | .linkCondition => e.linkCondition = true
      | .odometerInvalid => t.view.odometer = .invalid
      | .clockUnset => t.view.clock = .unset
      | .arrival => e.eventPending = true) ∧
    ∀ g : Gate, t.gateTrue g = true ↔ match g with
      | .none => True
      | .run => t.view.power ≠ .parked
      | .engine => t.view.engineRunning = true
      | .moving => t.view.roadLive = true
      | .still => t.view.roadLive = false
      | .switchOn n => t.switches[n].level = t.switches[n].activeHigh
      | .switchOff n => t.switches[n].level ≠ t.switches[n].activeHigh

/-- O45: SET WARNING is refused with RANGE, or takes the entry to IDLE with its chime request removed and a WARNING
notice queued, clears its flags, writes the configuration and evaluates the entry (R106); LINK CONDITION is refused with
RANGE, with STATE for another source, or writes the flag and evaluates the entry (R90). -/
def Obligations.WarningRequestsAnswer : Prop :=
  (∀ (tag : Byte) (body : List Byte) (s : State), Serves .setWarning tag body s → body.length = 18 →
    let kind := u8 body 3
    let arg := u8 body 4
    let badGate := fun g : Nat => (5 ≤ g ∧ g < 16) ∨ 32 ≤ g
    let bad := 32 ≤ u8 body 0 ∨ 2 ≤ u8 body 1 ∨ 3 ≤ u8 body 2 ∨ 14 ≤ kind ∨ (kind ≤ 1 ∧ 12 ≤ arg) ∨
      (kind = 2 ∧ 8 ≤ arg) ∨ (kind = 3 ∧ 6 ≤ arg) ∨ (kind = 4 ∧ 8 ≤ arg) ∨ (kind = 7 ∧ 8 ≤ arg) ∨
      (kind = 8 ∧ 6 ≤ arg) ∨ (kind ∈ [5, 6, 9, 10, 11, 12, 13] ∧ arg ≠ 0) ∨ badGate (u8 body 9) ∨ badGate (u8 body 10) ∨
      (8 ≤ u8 body 12 ∧ u8 body 12 ≠ 0xFF) ∨ 3 ≤ u8 body 13 ∨ u16 body 14 = 0 ∨
      (256 ≤ u16 body 14 ∧ u16 body 14 ≠ 0xFFFF) ∨ (12 ≤ u8 body 16 ∧ u8 body 16 ≠ 0xFF) ∨ 8 ≤ u8 body 17 ∨
      (2 ≤ kind ∧ (s16 body 5 ≠ 0 ∨ s16 body 7 ≠ 0)) ∨ s16 body 7 < 0 ∨
      (u16 body 14 ≠ 0xFFFF ∧ u8 body 12 = 0xFF) ∨ (kind = 7 ∧ u8 body 17 % 2 = 1)
    (bad → exec .setWarning s = .next (turnedDown ReqKind.setWarning.code tag .range s)) ∧
    ∀ (w : EntryIx) (c : EntryConfig), ¬ bad → u8 body 0 = w → u8 body 1 = c.enabled.toNat →
      ChimeClass.ofCode (u8 body 2) = some c.cls → WarnSource.ofCode kind arg = some c.source →
      s16 body 5 = c.threshold → s16 body 7 = c.hysteresis → Gate.ofCode (u8 body 9) = some c.gate1 →
      Gate.ofCode (u8 body 10) = some c.gate2 → u8 body 11 = c.qualify →
      u8 body 12 = (match c.pattern with | some p => p.val | none => 0xFF) →
      Destination.ofCode (u8 body 13) = some c.dest → u16 body 14 = (match c.rep with | some r => r | none => 0xFFFF) →
      c.rep ≠ some 0xFFFF →
      u8 body 16 = (match c.lamp with | some l => l.val | none => 0xFF) →
      u8 body 17 = c.latching.toNat + 2 * c.parkedLive.toNat + 4 * c.mirrorRear.toNat →
      ∃ s2, exec .setWarning s = .next (answered .setWarning tag [] (evaluateEntry w s2)) ∧
        OnlyChanges [.wtb, .chs, .clc, .lkp] s s2 ∧
        s2.wtb = { s.wtb with
          entries := s.wtb.entries.set w
            { cfg := c, state := .idle, qualifyTimer := none, repeatTimer := none, eventPending := false,
              linkCondition := false, memory := false } } ∧
        s2.chs = (if s.wtb.entries[w].state = .active then s.chs.remove (.warning w) else s.chs) ∧
        s2.lkp = (takeRequest s).lkp.takeNotice (.warning w .idle) ∧
        s2.clc = (if s.wtb.entries[w].cfg.mirrorRear = true ∧ (s.wtb.entries[w].state = .active ∨
            s.wtb.entries[w].state = .acked ∨ s.wtb.entries[w].state = .resolved)
          then s.clc.mark .rearWarnings else s.clc)) ∧
  ∀ (tag : Byte) (body : List Byte) (s : State), Serves .linkCondition tag body s → body.length = 2 →
    ((32 ≤ u8 body 0 ∨ 2 ≤ u8 body 1) →
      exec .linkCondition s = .next (turnedDown ReqKind.linkCondition.code tag .range s)) ∧
    ∀ (w : EntryIx) (on : Bool), u8 body 0 = w → u8 body 1 = on.toNat →
      (s.wtb.entries[w].cfg.source ≠ .linkCondition →
        exec .linkCondition s = .next (turnedDown ReqKind.linkCondition.code tag .state s)) ∧
      (s.wtb.entries[w].cfg.source = .linkCondition →
        exec .linkCondition s = .next (answered .linkCondition tag [] (evaluateEntry w ((takeRequest s).modWtb fun t =>
          { t with
            entries := t.entries.set w { t.entries[w] with linkCondition := on } }))))

/-- O46: ACKNOWLEDGE takes an ACTIVE entry to ACKED and a RESOLVED one to IDLE, an ARRIVAL entry to IDLE with its flag
cleared, removes the chime request and stops the repeat timer of one that was ACTIVE (R95), marks REAR_WARNINGS when it is
mirror-rear (R97), and answers with the count; 0xFF does the same to every entry, W0 first (R95, R99). Each change of a
state is notified with WARNING, both changes where an ACTIVE ARRIVAL entry goes to IDLE through ACKED (R97). -/
def Obligations.AcknowledgeAnswers : Prop :=
  ∀ (tag : Byte) (body : List Byte) (s : State), Serves .acknowledge tag body s → body.length = 1 →
    let after := fun e : Entry => match e.state with
      | .active => if e.cfg.source = .arrival then .idle else .acked
      | .resolved => .idle
      | st => st
    let acked := fun e : Entry =>
      let idle := e.state = .resolved ∨ e.cfg.source = .arrival
      { e with
        state := after e
        qualifyTimer := if idle then none else e.qualifyTimer
        repeatTimer := if e.state = .active then none else e.repeatTimer
        eventPending := if e.cfg.source = .arrival then false else e.eventPending
        memory := if e.cfg.source = .arrival then false else e.memory }
    let silenced := fun (c : Chs) (w : EntryIx) => if s.wtb.entries[w].state = .active then c.remove (.warning w) else c
    let stands := fun w : EntryIx => s.wtb.entries[w].state = .active ∨ s.wtb.entries[w].state = .resolved
    let notified := fun (l : Lkp) (w : EntryIx) =>
      let e := s.wtb.entries[w]
      if e.state = .active ∧ e.cfg.source = .arrival
        then (l.takeNotice (.warning w .acked)).takeNotice (.warning w .idle)
        else l.takeNotice (.warning w (after e))
    (32 ≤ u8 body 0 → u8 body 0 ≠ 0xFF →
      exec .acknowledge s = .next (turnedDown ReqKind.acknowledge.code tag .range s)) ∧
    (∀ w : EntryIx, u8 body 0 = w →
      (¬ stands w → exec .acknowledge s = .next (answered .acknowledge tag [0] (takeRequest s))) ∧
      (stands w → ∃ s1, exec .acknowledge s = .next (answered .acknowledge tag [1] s1) ∧
        OnlyChanges [.wtb, .chs, .clc, .lkp] s s1 ∧
        s1.wtb = { s.wtb with entries := s.wtb.entries.set w (acked s.wtb.entries[w]) } ∧ s1.chs = silenced s.chs w ∧
        (s.wtb.entries[w].cfg.mirrorRear = true → Marked .rearWarnings s s1) ∧
        s1.lkp = notified (takeRequest s).lkp w)) ∧
    (u8 body 0 = 0xFF → ∃ s1, exec .acknowledge s = .next (answered .acknowledge tag
        [byteOf ((List.finRange 32).countP fun w => decide (stands w))] s1) ∧
      OnlyChanges [.wtb, .chs, .clc, .lkp] s s1 ∧
      (∀ w : EntryIx, stands w → s.wtb.entries[w].cfg.mirrorRear = true → Marked .rearWarnings s s1) ∧
      s1.lkp = (List.finRange 32).foldl (fun l w => if stands w then notified l w else l) (takeRequest s).lkp ∧
      s1.chs = (List.finRange 32).foldl silenced s.chs ∧
      s1.wtb = { s.wtb with
        entries := Vector.ofFn fun w => if stands w then acked s.wtb.entries[w] else s.wtb.entries[w] })

/-- O47: SET SWITCH with a field out of range is refused with RANGE and applies nothing; accepted, it writes the active
level, recomputes the switch's state from the present filtered level, and only a changed state is handed to the entries
that name the switch, by which they are evaluated (R85); a change of the filtered level hands the changed state
(R84). -/
def Obligations.SwitchesAreHanded : Prop :=
  let names := fun (n : SwitchIx) (c : EntryConfig) => decide (c.source = .switch n ∨ c.gate1 = .switchOn n ∨
    c.gate1 = .switchOff n ∨ c.gate2 = .switchOn n ∨ c.gate2 = .switchOff n)
  (∀ (tag : Byte) (body : List Byte) (s : State), Serves .setSwitch tag body s → body.length = 2 →
    ((8 ≤ u8 body 0 ∨ 2 ≤ u8 body 1) → exec .setSwitch s = .next (turnedDown ReqKind.setSwitch.code tag .range s)) ∧
    ∀ (n : SwitchIx) (high : Bool), u8 body 0 = n → u8 body 1 = high.toNat →
      let s1 := (takeRequest s).modWtb fun t =>
        { t with switches := t.switches.set n { t.switches[n] with activeHigh := high } }
      exec .setSwitch s = .next (answered .setSwitch tag []
        (if (s1.wtb.switches[n].active = true ↔ s.wtb.switches[n].active = true) then s1
         else evaluateWhere (names n) s1))) ∧
  (∀ w : Switch, w.active = true ↔ w.level = w.activeHigh) ∧
  ∀ (n : SwitchIx) (s : State), s.igs.supplied = true →
    exec (.switchChange n) s = .next (settle (evaluateWhere (names n) (s.modWtb fun t =>
      { t with switches := t.switches.set n { t.switches[n] with level := !t.switches[n].level } })))

/-- O48: SET LAMP writes mode and host state (R105); what a line shows follows its mode, the bulb check and the states
of its bound entries (R103, R104), a flashing line lit in the lit phase; a phase change and the end of the bulb check
change nothing else. -/
def Obligations.LampsShow : Prop :=
  (∀ (tag : Byte) (body : List Byte) (s : State), Serves .setLamp tag body s → body.length = 3 →
    ((12 ≤ u8 body 0 ∨ 2 ≤ u8 body 1 ∨ 3 ≤ u8 body 2) →
      exec .setLamp s = .next (turnedDown ReqKind.setLamp.code tag .range s)) ∧
    ∀ (l : LampIx) (mode : LampMode) (host : LampHost), u8 body 0 = l → LampMode.ofCode (u8 body 1) = some mode →
      LampHost.ofCode (u8 body 2) = some host →
      exec .setLamp s = .next (answered .setLamp tag []
        ((takeRequest s).modWtb fun t => { t with lamps := t.lamps.set l { mode, host } }))) ∧
  (∀ s : State, s.igs.supplied = true →
    exec .flashPhase s = .next (settle (s.modWtb fun t => { t with flashLit := !t.flashLit })) ∧
    exec .bulbCheckEnd s = .next (settle (s.modWtb fun t => { t with bulbCheck := none }))) ∧
  ∀ (t : Wtb) (l : LampIx),
    let bound := fun st : EntryState => ∃ w : EntryIx, t.entries[w].cfg.lamp = some l ∧ t.entries[w].state = st
    (t.lamps[l].mode = .link → t.lampShow l =
      match t.lamps[l].host with | .off => .dark | .on => .steady | .flash => .flashing) ∧
    (t.lamps[l].mode = .warning → t.bulbCheck ≠ none → t.lampShow l = .steady) ∧
    (t.lamps[l].mode = .warning → t.bulbCheck = none → bound .active ∨ bound .resolved → t.lampShow l = .flashing) ∧
    (t.lamps[l].mode = .warning → t.bulbCheck = none → ¬ bound .active → ¬ bound .resolved → bound .acked →
      t.lampShow l = .steady) ∧
    (t.lamps[l].mode = .warning → t.bulbCheck = none → ¬ bound .active → ¬ bound .resolved → ¬ bound .acked →
      t.lampShow l = .dark) ∧
    (t.lampLit l = true ↔ t.lampShow l = .steady ∨ (t.lampShow l = .flashing ∧ t.flashLit = true))

/-- O49: a qualify expiry makes a PENDING entry ACTIVE with its timers stopped, hands its chime request, notifies it with
WARNING or sets the notices-lost marker, and marks REAR_WARNINGS when it is mirror-rear (R93, R94, R97, R189); the repeat
timer then runs where the request is not queued and the entry has a repeat interval, and is stopped otherwise (R94, R96).
A repeat expiry of an ACTIVE entry stops the timer and hands its chime request anew (R96); neither touches an entry in
another state. What the CHS makes of a request is O50's. -/
def Obligations.EntryTimersExpire : Prop :=
  ∀ (w : EntryIx) (s : State), s.igs.supplied = true →
    let e := s.wtb.entries[w]
    let request := fun p : PatternIx => ({ source := .warning w, cls := e.cfg.cls, pattern := p, dest := e.cfg.dest
                                           passes := s.chs.patterns[p].passes, arrival := 0, tag := none } : ChimeRequest)
    let entered := s.modWtb fun t => { t with
      entries := t.entries.set w { e with state := .active, qualifyTimer := none, repeatTimer := none } }
    (e.state ≠ .pending ∨ e.qualifyTimer = none → exec (.qualifyExpiry w) s = .next (settle s)) ∧
    (e.state = .pending → e.qualifyTimer ≠ none → ∃ s1, exec (.qualifyExpiry w) s = .next (settle s1) ∧
      OnlyChanges [.wtb, .chs, .clc, .lkp] s s1 ∧ s1.wtb.entries[w].state = .active ∧
      s1.wtb.entries[w].qualifyTimer = none ∧ s1.wtb.entries[w].cfg = e.cfg ∧
      s1.wtb.entries[w].repeatTimer = (if e.cfg.pattern.isSome = true ∧ s.chs.holds (.warning w) = false ∧
          8 ≤ s.chs.queue.length ∧ (∀ v, s.chs.victim = some v → e.cfg.cls.rank ≤ v.cls.rank)
        then e.cfg.rep else none) ∧
      (e.cfg.mirrorRear = true → Marked .rearWarnings s s1) ∧
      (∀ p, e.cfg.pattern = some p → s.chs.queue.length < 8 → s1.chs.holds (.warning w) = true) ∧
      (∀ p, e.cfg.pattern = some p → s1.chs = (takeChime (request p) entered).1.chs ∧
        s1.wtb = (takeChime (request p) entered).1.wtb) ∧
      (e.cfg.pattern = none → s1.chs = s.chs ∧ s1.wtb = entered.wtb ∧
        s1.lkp = s.lkp.takeNotice (.warning w .active)) ∧
      (s.lkp.mask.getLsbD 1 = true → s.lkp.notices.length < 11 → Notice.warning w .active ∈ s1.lkp.notices) ∧
      (s.lkp.mask.getLsbD 1 = true → Notice.warning w .active ∈ s1.lkp.notices ∨ s1.lkp.noticesLost = true)) ∧
    (e.state ≠ .active ∨ e.repeatTimer = none → exec (.repeatExpiry w) s = .next (settle s)) ∧
    (e.state = .active → e.repeatTimer ≠ none → e.cfg.pattern = none → exec (.repeatExpiry w) s =
      .next (settle (s.modWtb fun t => { t with entries := t.entries.set w { t.entries[w] with repeatTimer := none } }))) ∧
    ∀ p, e.state = .active → e.repeatTimer ≠ none → e.cfg.pattern = some p →
      exec (.repeatExpiry w) s = .next (settle (takeChime (request p)
        (s.modWtb fun t => { t with entries := t.entries.set w { t.entries[w] with repeatTimer := none } })).1)

/-! ## Chime Sequencer -/

/-- O50: CHIME is refused with RANGE, or makes a LINK request in its place by queue order (R111, R124), which keeps the
others and puts it behind every request of a higher class and every earlier one of its own, ahead of the rest: it
replaces a standing one, which ends REPLACED (R113), joins a queue with room (R112), evicts the newest request of the
lowest class when its own class is higher, or is refused with FULL (R114). CANCEL CHIME removes a standing LINK
request, which ends CANCELLED, and is refused with STATE without one (R119, R125). How any request is taken: one whose
source has a request standing is not queued unless it is LINK's (R112), one that finds room joins with a fresh arrival
order (R112), one that finds the queue full evicts the newest of the lowest class when its own class is higher or is not
queued (R114); an evicted or not queued WARNING request starts the repeat timer of its ACTIVE entry that has a repeat
interval, and an evicted LINK request is notified EVICTED (R96, R114, R123). The player goes on, unless what it plays
left; a player that is or falls SILENT outside CRANK chooses the first request that may play and starts its segment 0
(R116). A removal takes the source's request out and leaves the others; one that plays stops at once and the player
chooses (R119). -/
def Obligations.ChimeRequestsAnswer : Prop :=
  let chooses := fun (before after : Chs) => after.player = if before.power = .crank then none
    else (after.queue.find? (mayPlay after.privacy)).bind fun q => (after.patterns[q.pattern].segments[0]?).map fun g =>
      { source := q.source, segment := 0, timer := g.duration }
  (∀ (r : ChimeRequest) (s : State),
    let c := s.chs
    let joins := fun (queue : List ChimeRequest) (gone : Option ChimeSource) (d : Chs) =>
      d.queue = insertRequest { r with arrival := c.nextArrival } queue ∧ d.nextArrival = c.nextArrival + 1 ∧
      { d with queue := c.queue, nextArrival := c.nextArrival, player := c.player } = c ∧
      (∀ p, c.player = some p → gone ≠ some p.source → d.player = some p) ∧
      ((∀ p, c.player = some p → gone = some p.source) → chooses c d)
    let retried := fun (src : ChimeSource) => match src with
      | .warning w =>
        let e := s.wtb.entries[w]
        if e.state = .active ∧ e.cfg.rep.isSome = true
        then { s.wtb with entries := s.wtb.entries.set w { e with repeatTimer := e.cfg.rep } } else s.wtb
      | .alarm _ | .rearCall | .link => s.wtb
    (c.holds r.source = true → r.source ≠ .link → takeChime r s = (s, .alreadyHeld)) ∧
    (∀ old t, r.source = .link → c.queue.find? (fun q => decide (q.source = .link)) = some old → old.tag = some t →
      ∃ s1, takeChime r s = (s1, .queued) ∧ OnlyChanges [.chs, .lkp] s s1 ∧
        joins (c.queue.filter fun q => decide (q.source ≠ .link)) (some .link) s1.chs ∧
        s1.lkp = s.lkp.takeNotice (.chime t .replaced)) ∧
    (c.holds r.source = false → c.queue.length < 8 →
      ∃ s1, takeChime r s = (s1, .queued) ∧ OnlyChanges [.chs] s s1 ∧ joins c.queue none s1.chs) ∧
    (∀ v, c.holds r.source = false → 8 ≤ c.queue.length → c.victim = some v → v.cls.rank < r.cls.rank →
      ∃ s1, takeChime r s = (s1, .queued) ∧ OnlyChanges [.chs, .wtb, .lkp] s s1 ∧
        joins (c.queue.filter fun q => decide (q.source ≠ v.source)) (some v.source) s1.chs ∧
        s1.wtb = retried v.source ∧ s1.lkp = match v.source, v.tag with
          | .link, some t => s.lkp.takeNotice (.chime t .evicted)
          | _, _ => s.lkp) ∧
    ∀ v, c.holds r.source = false → 8 ≤ c.queue.length → c.victim = some v → r.cls.rank ≤ v.cls.rank →
      ∃ s1, takeChime r s = (s1, .notQueued) ∧ OnlyChanges [.wtb] s s1 ∧ s1.wtb = retried r.source) ∧
  (∀ (src : ChimeSource) (c : Chs),
    let d := c.remove src
    d.queue = c.queue.filter (fun q => decide (q.source ≠ src)) ∧
      { d with queue := c.queue, player := c.player } = c ∧
      (∀ p, c.player = some p → p.source = src → chooses c d) ∧
      ((∀ p, c.player = some p → p.source ≠ src) → d.player = c.player)) ∧
  (∀ (src : ChimeSource) (s : State), removeChime src s = s.modChs fun c => c.remove src) ∧
  (∀ (tag : Byte) (body : List Byte) (s : State), Serves .chime tag body s → body.length = 4 →
    ((8 ≤ u8 body 0 ∨ 3 ≤ u8 body 1 ∨ 3 ≤ u8 body 2 ∨ 16 ≤ u8 body 3) →
      exec .chime s = .next (turnedDown ReqKind.chime.code tag .range s)) ∧
    ∀ (p : PatternIx) (cls : ChimeClass) (dest : Destination), u8 body 0 = p → ChimeClass.ofCode (u8 body 1) = some cls →
      Destination.ofCode (u8 body 2) = some dest → u8 body 3 ≤ 15 →
      let r : ChimeRequest :=
        { source := .link, cls, pattern := p, dest, arrival := s.chs.nextArrival, tag := some tag
          passes := if u8 body 3 = 0 then s.chs.patterns[p].passes else .times (u8 body 3) }
      let queued := fun (queue : List ChimeRequest) (s1 : State) =>
        exec .chime s = .next (answered .chime tag [] s1) ∧ s1.chs.queue = insertRequest r queue ∧
          s1.chs.nextArrival = s.chs.nextArrival + 1 ∧
          { s1.chs with queue := s.chs.queue, nextArrival := s.chs.nextArrival, player := s.chs.player } = s.chs
      (∀ old t, s.chs.queue.find? (fun q => decide (q.source = .link)) = some old → old.tag = some t →
        ∃ s1, queued (s.chs.queue.filter fun q => decide (q.source ≠ .link)) s1 ∧ OnlyChanges [.chs, .lkp] s s1 ∧
          s1.lkp = (takeRequest s).lkp.takeNotice (.chime t .replaced)) ∧
      (s.chs.holds .link = false → s.chs.queue.length < 8 → ∃ s1, queued s.chs.queue s1 ∧
        OnlyChanges [.chs, .lkp] s s1 ∧ s1.lkp = (takeRequest s).lkp ∧
        (s.chs.player ≠ none → s1.chs.player = s.chs.player)) ∧
      (∀ v, s.chs.holds .link = false → 8 ≤ s.chs.queue.length → s.chs.victim = some v → v.cls.rank < cls.rank →
        ∃ s1, queued (s.chs.queue.filter fun q => decide (q.source ≠ v.source)) s1 ∧
          OnlyChanges [.chs, .lkp, .wtb] s s1 ∧ s1.lkp = (takeRequest s).lkp ∧
          ∀ w : EntryIx, s1.wtb.entries[w].repeatTimer =
            if v.source = .warning w ∧ s.wtb.entries[w].state = .active ∧ s.wtb.entries[w].cfg.rep.isSome = true
            then s.wtb.entries[w].cfg.rep else s.wtb.entries[w].repeatTimer) ∧
      ∀ v, s.chs.holds .link = false → 8 ≤ s.chs.queue.length → s.chs.victim = some v → cls.rank ≤ v.cls.rank →
        exec .chime s = .next (turnedDown ReqKind.chime.code tag .full s)) ∧
  (∀ (r : ChimeRequest) (queue : List ChimeRequest),
    queue.Pairwise (fun a b => b.cls.rank < a.cls.rank ∨ (a.cls.rank = b.cls.rank ∧ a.arrival < b.arrival)) →
    (insertRequest r queue).Perm (r :: queue) ∧ ∃ ahead behind, queue = ahead ++ behind ∧
      insertRequest r queue = ahead ++ r :: behind ∧
      (∀ q ∈ ahead, r.cls.rank < q.cls.rank ∨ (r.cls.rank = q.cls.rank ∧ q.arrival ≤ r.arrival)) ∧
      ∀ q ∈ behind, q.cls.rank < r.cls.rank ∨ (r.cls.rank = q.cls.rank ∧ r.arrival < q.arrival)) ∧
  (ChimeClass.advisory.rank < ChimeClass.caution.rank ∧ ChimeClass.caution.rank < ChimeClass.urgent.rank) ∧
  (∀ (c : Chs) (v : ChimeRequest), c.victim = some v → v ∈ c.queue ∧ ∀ q ∈ c.queue,
    v.cls.rank < q.cls.rank ∨ (v.cls.rank = q.cls.rank ∧ q.arrival ≤ v.arrival)) ∧
  ∀ (tag : Byte) (s : State), Serves .cancelChime tag [] s →
    (s.chs.holds .link = false → exec .cancelChime s = .next (turnedDown ReqKind.cancelChime.code tag .state s)) ∧
    ∀ old t, s.chs.queue.find? (fun q => decide (q.source = .link)) = some old → old.tag = some t →
      exec .cancelChime s = .next (answered .cancelChime tag []
        (((takeRequest s).modChs fun c => c.remove .link).modLkp fun l => l.takeNotice (.chime t .cancelled)))

/-- O51: the end of a segment goes on to the next one, or counts a pass at the last; a request out of passes leaves as
finished, its end handed (R96, R117, R123); outside CRANK the first request that may play (R115, stated in O52) then
plays, the same one its next segment, another one its segment 0 (R116, R118). -/
def Obligations.SegmentsEnd : Prop :=
  ∀ s : State, s.igs.supplied = true →
    (s.chs.player = none → exec .segmentEnd s = .next (settle s)) ∧
    ∀ (p : Playing) (r : ChimeRequest), s.chs.player = some p → s.chs.power ≠ .crank →
      s.chs.queue.find? (fun q => decide (q.source = p.source)) = some r →
      let last := s.chs.patterns[r.pattern].segments.length ≤ p.segment + 1
      let plays := fun (c : Chs) (next : Nat) => match c.queue.find? (mayPlay c.privacy) with
        | none => c.player = none
        | some q =>
          let i := if q.source = p.source then next else 0
          c.player = (c.patterns[q.pattern].segments[i]?).map fun g =>
            { source := q.source, segment := i, timer := g.duration }
      (¬ last → ∃ s1, exec .segmentEnd s = .next (settle s1) ∧ OnlyChanges [.chs] s s1 ∧
        { s1.chs with player := s.chs.player } = s.chs ∧ plays s1.chs (p.segment + 1)) ∧
      (last → r.passes = .whileActive → ∃ s1, exec .segmentEnd s = .next (settle s1) ∧ OnlyChanges [.chs] s s1 ∧
        { s1.chs with player := s.chs.player } = s.chs ∧ plays s1.chs 0) ∧
      (∀ k, last → r.passes = .times k → 2 ≤ k → ∃ s1, exec .segmentEnd s = .next (settle s1) ∧ OnlyChanges [.chs] s s1 ∧
        s1.chs.queue = s.chs.queue.map (fun q => if q.source = p.source then { q with passes := .times (k - 1) } else q) ∧
        { s1.chs with player := s.chs.player, queue := s.chs.queue } = s.chs ∧ plays s1.chs 0) ∧
      ∀ k, last → r.passes = .times k → k ≤ 1 → ∃ s1, exec .segmentEnd s = .next (settle s1) ∧
        OnlyChanges [.chs, .lkp, .wtb] s s1 ∧
        s1.chs.queue = s.chs.queue.filter (fun q => decide (q.source ≠ p.source)) ∧ plays s1.chs 0 ∧
        s1.lkp = (match r.source, r.tag with
          | .link, some t => s.lkp.takeNotice (.chime t .finished)
          | _, _ => s.lkp) ∧
        ∀ w : EntryIx, s1.wtb.entries[w] = if r.source = .warning w ∧ s.wtb.entries[w].state = .active ∧
            s.wtb.entries[w].cfg.rep.isSome = true
          then { s.wtb.entries[w] with repeatTimer := s.wtb.entries[w].cfg.rep } else s.wtb.entries[w]

/-- O52: SET PATTERN is refused with RANGE, with BUSY while a queued request names the pattern, or replaces the pattern
whole (R126). SET PRIVACY sets the flag and marks PRIVACY (R127); a set that changes nothing leaves the player; when
privacy comes on, a playing request left without a destination leaves the player and keeps its place (R120). Under
privacy an ADVISORY or CAUTION request has its destination with REAR taken out, any other its destination, and a request
may play while that is not empty (R115). A segment sounds its pitch on the outputs in the playing request's effective
destination alone; REST and a SILENT player leave both outputs quiet (R108). -/
def Obligations.ChimeSettingsAnswer : Prop :=
  (∀ (tag : Byte) (body : List Byte) (s : State), Serves .setPattern tag body s → 3 ≤ body.length →
    body.length = 3 + 2 * u8 body 2 →
    let bad := 8 ≤ u8 body 0 ∨ 16 ≤ u8 body 1 ∨ u8 body 2 = 0 ∨ 8 < u8 body 2 ∨
      ∃ i, i < u8 body 2 ∧ (5 ≤ u8 body (3 + 2 * i) ∨ u8 body (4 + 2 * i) = 0)
    (bad → exec .setPattern s = .next (turnedDown ReqKind.setPattern.code tag .range s)) ∧
    ∀ (p : PatternIx) (x : Pattern), ¬ bad → u8 body 0 = p →
      x.passes = (if u8 body 1 = 0 then .whileActive else .times (u8 body 1)) →
      x.segments.length = u8 body 2 →
      (∀ (i : Nat) (g : Segment), x.segments[i]? = some g →
        Pitch.ofCode (u8 body (3 + 2 * i)) = some g.pitch ∧ u8 body (4 + 2 * i) = g.duration) →
      ((∃ q ∈ s.chs.queue, q.pattern = p) →
        exec .setPattern s = .next (turnedDown ReqKind.setPattern.code tag .busy s)) ∧
      ((∀ q ∈ s.chs.queue, q.pattern ≠ p) →
        exec .setPattern s = .next (answered .setPattern tag []
          ((takeRequest s).modChs fun c => { c with patterns := c.patterns.set p x })))) ∧
  (∀ (tag : Byte) (body : List Byte) (s : State), Serves .setPrivacy tag body s → body.length = 1 →
    (2 ≤ u8 body 0 → exec .setPrivacy s = .next (turnedDown ReqKind.setPrivacy.code tag .range s)) ∧
    ∀ on : Bool, u8 body 0 = on.toNat → exec .setPrivacy s = .next (answered .setPrivacy tag []
      (mark .privacyFlag ((takeRequest s).modChs fun c => c.setPrivacy on)))) ∧
  (∀ (c : Chs) (on : Bool),
    { c.setPrivacy on with player := c.player } = { c with privacy := on } ∧
    (c.privacy = on → c.setPrivacy on = c) ∧
    (∀ r, c.playingRequest = some r → mayPlay on r = true → (c.setPrivacy on).player = c.player) ∧
    (∀ r p, c.privacy ≠ on → c.power ≠ .crank → c.playingRequest = some r → mayPlay on r = false →
      (c.setPrivacy on).player = some p → p.segment = 0 ∧ ∃ q ∈ c.queue, q.source = p.source ∧ mayPlay on q = true) ∧
    (c.privacy ≠ on → c.power ≠ .crank → c.player = none → (∃ r ∈ c.queue, mayPlay on r = true ∧
        (c.patterns[r.pattern].segments ≠ [])) → (∀ r ∈ c.queue, c.patterns[r.pattern].segments ≠ []) →
      (c.setPrivacy on).player ≠ none)) ∧
  (∀ (privacy : Bool) (r : ChimeRequest),
    let shaped := privacy = true ∧ (r.cls = .advisory ∨ r.cls = .caution)
    effectiveDestination privacy r = (if shaped then (match r.dest with | .front | .both => some .front | .rear => none)
      else some r.dest) ∧
    (mayPlay privacy r = false ↔ shaped ∧ r.dest = .rear)) ∧
  (∀ c : Chs, c.player = none → c.frontTone = none ∧ c.rearTone = none) ∧
  (∀ (c : Chs) (p : Playing) (r : ChimeRequest) (g : Segment), c.player = some p →
    c.queue.find? (fun q => decide (q.source = p.source)) = some r →
    c.patterns[r.pattern].segments[p.segment]? = some g →
    let sounds := fun (out : Destination) => g.pitch ≠ .rest ∧
      (effectiveDestination c.privacy r = some out ∨ effectiveDestination c.privacy r = some .both)
    c.frontTone = (if sounds .front then some g.pitch else none) ∧
      c.rearTone = (if sounds .rear then some g.pitch else none)) ∧
  ∀ x : Pitch, x.hertz = match x with
    | .rest => none | .low => some 700 | .mid => some 1400 | .high => some 2100 | .bell => some 1050

/-! ## Service Schedule -/

/-- O53: SET SERVICE ITEM is refused with RANGE, or replaces the item whole with full counts and no last service (R138);
SERVICE DONE is judged by the four tests of R137, or restarts the counts and records the service; the state is decided
afresh, by the first of the tests of R131 that holds with the margins of R130, and a change of it is handed to the WTB
with a SERVICE notice of the item and its new state, nothing when it stays (R131, R132). -/
def Obligations.ServiceRequestsAnswer : Prop :=
  (∀ it : ServiceItem,
    let has := fun (test : Nat → Int → Prop) =>
      (∃ I r, it.distanceInterval = some I ∧ it.remainingDistance = some r ∧ test (I * 10) r) ∨
      (∃ I r, it.hoursInterval = some I ∧ it.remainingHours = some r ∧ test I r) ∨
      (∃ I r, it.daysInterval = some I ∧ it.remainingDays = some r ∧ test I r)
    let overdue := has fun I r => r ≤ -(max (I / 8) 1 : Nat)
    let due := has fun _ r => r ≤ 0
    let near := has fun I r => r ≤ (max (I / 16) 1 : Nat)
    (it.enabled = false → it.decided = .off) ∧
    (it.enabled = true → overdue → it.decided = .overdue) ∧
    (it.enabled = true → ¬ overdue → due → it.decided = .due) ∧
    (it.enabled = true → ¬ overdue → ¬ due → near → it.decided = .near) ∧
    (it.enabled = true → ¬ overdue → ¬ due → ¬ near → it.decided = .counting)) ∧
  let handed := fun (i : ItemIx) (s s1 : State) => OnlyChanges [.svs, .wtb, .chs, .clc, .lkp] s s1 ∧
    (s1.svs.items[i].state = s.svs.items[i].state → OnlyChanges [.svs] (takeRequest s) s1) ∧
    (s1.svs.items[i].state ≠ s.svs.items[i].state → s1.wtb.view.items[i] = s1.svs.items[i].state ∧
      (s.lkp.mask.getLsbD 4 = true →
        Notice.service i s1.svs.items[i].state ∈ s1.lkp.notices ∨ s1.lkp.noticesLost = true))
  (∀ (tag : Byte) (body : List Byte) (s : State), Serves .setServiceItem tag body s → body.length = 9 →
    let bad := 8 ≤ u8 body 0 ∨ 2 ≤ u8 body 1 ∨ 16 ≤ u8 body 2 ∨ u16 body 3 = 0 ∨ u16 body 5 = 0 ∨ u16 body 7 = 0 ∨
      (3651 ≤ u16 body 7 ∧ u16 body 7 ≠ 0xFFFF) ∨
      (u8 body 1 = 1 ∧ u16 body 3 = 0xFFFF ∧ u16 body 5 = 0xFFFF ∧ u16 body 7 = 0xFFFF)
    let interval := fun k : Nat => if k = 0xFFFF then none else some k
    (bad → exec .setServiceItem s = .next (turnedDown ReqKind.setServiceItem.code tag .range s)) ∧
    ∀ i : ItemIx, ¬ bad → u8 body 0 = i → ∃ s1, exec .setServiceItem s = .next (answered .setServiceItem tag [] s1) ∧
      handed i s s1 ∧
      let it : ServiceItem :=
        { enabled := u8 body 1 = 1, label := u8 body 2, distanceInterval := interval (u16 body 3)
          hoursInterval := interval (u16 body 5), daysInterval := interval (u16 body 7)
          remainingDistance := (interval (u16 body 3)).map fun n => ((n * 10 : Nat) : Int)
          remainingHours := (interval (u16 body 5)).map fun n => (n : Int)
          remainingDays := (interval (u16 body 7)).map fun n => (n : Int)
          lastOdometer := none, lastDate := none, state := .off }
      s1.svs = { s.svs with items := s.svs.items.set i { it with state := it.decided } }) ∧
  ∀ (tag : Byte) (body : List Byte) (s : State), Serves .serviceDone tag body s → body.length = 1 →
    (8 ≤ u8 body 0 → exec .serviceDone s = .next (turnedDown ReqKind.serviceDone.code tag .range s)) ∧
    ∀ i : ItemIx, u8 body 0 = i →
      let x := s.svs.items[i]
      (s.svs.power = .parked → exec .serviceDone s = .next (turnedDown ReqKind.serviceDone.code tag .state s)) ∧
      (s.svs.power ≠ .parked → s.svs.roadLive = true →
        exec .serviceDone s = .next (turnedDown ReqKind.serviceDone.code tag .moving s)) ∧
      (s.svs.power ≠ .parked → s.svs.roadLive = false → x.enabled = false →
        exec .serviceDone s = .next (turnedDown ReqKind.serviceDone.code tag .state s)) ∧
      (s.svs.power ≠ .parked → s.svs.roadLive = false → x.enabled = true →
        ∃ s1, exec .serviceDone s = .next (answered .serviceDone tag [] s1) ∧ handed i s s1 ∧
          let it : ServiceItem := { x with
            remainingDistance := x.distanceInterval.map fun n => ((n * 10 : Nat) : Int)
            remainingHours := x.hoursInterval.map fun n => (n : Int)
            remainingDays := x.daysInterval.map fun n => (n : Int)
            lastOdometer := some s.tau.odometer
            lastDate := match s.clk.state with
              | .set => some { year := s.clk.time.year, month := s.clk.time.month, day := s.clk.time.day }
              | .unset => none }
          s1.svs = { s.svs with items := s.svs.items.set i { it with state := it.decided } })

/-! ## Coach Line Controller -/

/-- O54: SET NODE is judged by the three tests of R148, or writes the slot, drops its pairs and its due flag, and makes
it DISABLED, JOINING with miss count 0, or LOST in FAULT, a change of state handed and notified with NODE under the
mask (R147). SET COACH OPTIONS writes the options, a running round timer kept, and marks OUTSIDE_TEMP (R166). That the
miss count stays where the slot becomes DISABLED or LOST is the model's choice (log 17). -/
def Obligations.NodeRequestsAnswer : Prop :=
  (∀ (tag : Byte) (body : List Byte) (s : State), Serves .setNode tag body s → body.length = 6 →
    let bad := 6 ≤ u8 body 0 ∨ 2 ≤ u8 body 1 ∨ u8 body 2 = 0 ∨ 30 < u8 body 2 ∨ u8 body 3 = 0 ∨ 30 < u8 body 3 ∨
      4 ≤ u8 body 4
    (bad → exec .setNode s = .next (turnedDown ReqKind.setNode.code tag .range s)) ∧
    ∀ (n : NodeIx) (kind : NodeKind), ¬ bad → u8 body 0 = n → NodeKind.ofCode (u8 body 4) = some kind →
      let busy := (∃ t, s.clc.txn = some t ∧ t.kind.target = some n) ∨ (∃ k, s.clc.retry = some k ∧ k.target = some n) ∨
        ∃ p, s.clc.pass = some p ∧ s.clc.target p = some n
      let conflict := u8 body 1 = 1 ∧ ∃ m : NodeIx, m ≠ n ∧ s.clc.nodes[m].enabled = true ∧
        (s.clc.nodes[m].address = u8 body 2 ∨ s.clc.nodes[m].nodeAlias = u8 body 3)
      let st : NodeState := if u8 body 1 = 0 then .disabled else if s.clc.line = .fault then .lost else .joining
      (busy → exec .setNode s = .next (turnedDown ReqKind.setNode.code tag .busy s)) ∧
      (¬ busy → conflict → exec .setNode s = .next (turnedDown ReqKind.setNode.code tag .conflict s)) ∧
      (¬ busy → ¬ conflict → ∃ s1, exec .setNode s = .next (answered .setNode tag [] s1) ∧
        OnlyChanges [.clc, .wtb, .chs, .lkp] s s1 ∧
        { s1.clc with nodes := s.clc.nodes, mirrorQueue := s.clc.mirrorQueue } = s.clc ∧
        (∀ m : NodeIx, m ≠ n → s1.clc.nodes[m] = s.clc.nodes[m]) ∧
        s1.clc.nodes[n] = { enabled := u8 body 1 = 1, address := u8 body 2, nodeAlias := u8 body 3, kind,
                            mirrorSet := body.getD 5 0, state := st, due := false,
                            misses := if st = .joining then 0 else s.clc.nodes[n].misses,
                            lostRounds := s1.clc.nodes[n].lostRounds } ∧
        (st = .joining → s1.clc.nodes[n].lostRounds = 0) ∧ (∀ q ∈ s1.clc.mirrorQueue, q.1 ≠ n) ∧
        (st = s.clc.nodes[n].state → s1.wtb = s.wtb ∧ s1.lkp = (takeRequest s).lkp) ∧
        (st ≠ s.clc.nodes[n].state → s1.wtb.view.nodes[n] = st ∧ (s.lkp.mask.getLsbD 5 = true →
          Notice.node n st ∈ s1.lkp.notices ∨ s1.lkp.noticesLost = true)))) ∧
  ∀ (tag : Byte) (body : List Byte) (s : State), Serves .setCoachOptions tag body s → body.length = 3 →
    ((u8 body 0 < 2 ∨ 20 < u8 body 0 ∨ 8 ≤ u8 body 1 ∨ (8 ≤ u8 body 2 ∧ u8 body 2 ≠ 0xFF)) →
      exec .setCoachOptions s = .next (turnedDown ReqKind.setCoachOptions.code tag .range s)) ∧
    ∀ (p : PatternIx) (slot : Option SlotIx), 2 ≤ u8 body 0 → u8 body 0 ≤ 20 → u8 body 1 = p →
      u8 body 2 = (match slot with | some n => n.val | none => 0xFF) →
      exec .setCoachOptions s = .next (answered .setCoachOptions tag [] (mark .outsideTemp
        ((takeRequest s).modClc fun c => { c with roundPeriod := u8 body 0, callPattern := p, outsideSlot := slot })))

/-- O55: COACH PASS is refused with BUSY while one is held, else judged by the three tests of R162; accepted, it is held
in WAITING and not answered (R161, R162, R186). -/
def Obligations.CoachPassIsJudged : Prop :=
  ∀ (tag : Byte) (body : List Byte) (s : State), Serves .coachPass tag body s → 4 ≤ body.length →
    body.length = 4 + u8 body 3 →
    let bad := 30 < u8 body 0 ∨ 2 ≤ u8 body 1 ∨ 16 < u8 body 3 ∨ (u8 body 0 = 0 ∧ u8 body 1 = 0) ∨
      (u8 body 0 = 0 ∧ (u8 body 2 = 0 ∨ 30 < u8 body 2)) ∨ (1 ≤ u8 body 0 ∧ u8 body 2 ≠ 0xFF)
    let shut := s.clc.power = .parked ∨ (s.clc.line ≠ .running ∧ s.clc.line ≠ .backoff)
    let holder := fun n : NodeIx => s.clc.nodes[n].enabled = true ∧
      s.clc.nodes[n].nodeAlias = if u8 body 0 = 0 then u8 body 2 else u8 body 0
    let refuses := fun r : Reason => exec .coachPass s = .next (turnedDown ReqKind.coachPass.code tag r s)
    (s.clc.pass ≠ none → refuses .busy) ∧
    (s.clc.pass = none → bad → refuses .range) ∧
    (s.clc.pass = none → ¬ bad → shut → refuses .state) ∧
    (s.clc.pass = none → ¬ bad → ¬ shut → (∀ n, holder n → s.clc.nodes[n].state ≠ .present) → refuses .absent) ∧
    ((∃ n, holder n) → (∀ n, holder n → s.clc.nodes[n].state = .present) → s.clc.pass = none → ¬ bad → ¬ shut →
      exec .coachPass s = .next (settle ((takeRequest s).modClc fun c => { c with
        pass := some
          { tag, nodeAlias := u8 body 0, kind := if u8 body 1 = 0 then .read else .write
            answerAlias := if u8 body 0 = 0 then some (u8 body 2) else none
            data := body.drop 4, phase := .waiting } })))

/-- O56: COACH RESET is refused with STATE in PARKED, or starts a Coach reset (R159): the transaction is abandoned, a
held pass-through ends with ABORTED, the line is RESETTING and held low, the mirror queue and the due flags are
cleared, every enabled slot is JOINING with miss count 0, a change of its state handed and notified with NODE (R147).
The release lets the line go; the end of RESETTING makes it RUNNING and starts the first round; a round expiry starts
the next, with the due flags of R151, but for a slot whose poll or mirror write waits for its retry (R157). That the
pass-through's ABORTED stands before the COACH RESET's own Answer is the model's reading (log 10, section 8.7). -/
def Obligations.CoachResetsAndRounds : Prop :=
  let round := fun nd : Node => match nd.state with
    | .disabled => nd
    | .joining | .present => { nd with due := true }
    | .lost => if nd.lostRounds + 1 < 8 then { nd with lostRounds := nd.lostRounds + 1 }
               else { nd with lostRounds := 0, due := true }
  let waits := fun (c : Clc) (n : NodeIx) => match c.retry with
    | some (.poll m) => decide (m = n)
    | some (.mirror m _) => decide (m = n)
    | some (.pass _) | some .sleep | none => false
  (∀ (tag : Byte) (s : State), Serves .coachReset tag [] s →
    (s.clc.power = .parked → exec .coachReset s = .next (turnedDown ReqKind.coachReset.code tag .state s)) ∧
    (s.clc.power ≠ .parked → ∃ s1, exec .coachReset s = .next (answered .coachReset tag [] s1) ∧
      OnlyChanges [.clc, .wtb, .chs, .lkp] s s1 ∧
      s1.clc = { s.clc with
        line := .resetting, heldLow := true, roundTimer := none, backoffTimer := none, mirrorQueue := [], txn := none
        retry := none, contentions := 0, pass := none, sleepWaiting := false, nodes := s1.clc.nodes } ∧
      (∀ n : NodeIx, s1.clc.nodes[n] = if s.clc.nodes[n].enabled
        then { s.clc.nodes[n] with state := .joining, misses := 0, lostRounds := 0, due := false }
        else { s.clc.nodes[n] with due := false }) ∧
      s1.lkp.replies.map Reply.content = s.lkp.replies.map Reply.content ++
        (s.clc.pass.toList.map fun p => (ReplyEntry.reserved, 0x7F, p.tag, [0x0C, 0x39])) ∧
      (∀ n : NodeIx, s.clc.nodes[n].enabled = true → s.clc.nodes[n].state ≠ .joining → s1.wtb.view.nodes[n] = .joining ∧
        (s.lkp.mask.getLsbD 5 = true → Notice.node n .joining ∈ s1.lkp.notices ∨ s1.lkp.noticesLost = true)) ∧
      (s.clc.line ≠ .resetting → s1.wtb.view.line = .resetting))) ∧
  ∀ s : State, s.igs.supplied = true →
    (s.clc.line = .resetting →
      exec .lineRelease s = .next (settle (s.modClc fun c => { c with heldLow := false }))) ∧
    (s.clc.line ≠ .resetting → exec .lineRelease s = .next (settle s)) ∧
    (s.clc.line ≠ .resetting ∨ s.clc.heldLow = true → exec .resettingEnd s = .next (settle s)) ∧
    (s.clc.line = .resetting → s.clc.heldLow = false → ∃ s1, exec .resettingEnd s = .next (settle s1) ∧
      OnlyChanges [.clc, .wtb, .chs, .lkp] s s1 ∧ s1.wtb.view.line = .running ∧
      s1.clc = { s.clc with
        line := .running, roundTimer := some (50 * s.clc.roundPeriod)
        nodes := Vector.ofFn fun n =>
          if waits s.clc n then { round s.clc.nodes[n] with due := false } else round s.clc.nodes[n]
        mirrorQueue := s1.clc.mirrorQueue }) ∧
    (s.clc.roundTimer = none → exec .roundStart s = .next (settle s)) ∧
    (s.clc.roundTimer ≠ none → exec .roundStart s = .next (settle (s.modClc fun c => { c with
      nodes := Vector.ofFn fun n => if waits c n then { round c.nodes[n] with due := false } else round c.nodes[n]
      roundTimer := some (50 * c.roundPeriod) })))

/-- O57: contention makes the transaction the one to be retried and the line BACKOFF, the due flag of the slot of a
poll or a mirror write cleared (R157, log 27), but a SLEEP frame is dropped (log 14); the fifth in a row makes the line
FAULT, with every enabled slot LOST, each change handed and notified with NODE (R147), and nothing left waiting (R158);
backoff expiry returns the line to RUNNING; a SLEEP frame follows Parked entry (R160). -/
def Obligations.ContentionAndSleep : Prop :=
  ∀ s : State, s.igs.supplied = true →
    (∀ t, s.clc.txn = some t → t.phase = .sending → t.kind = .sleep →
      exec .contention s = .next (settle (s.modClc fun c => { c with txn := none }))) ∧
    (s.clc.txn = none ∨ (∃ t, s.clc.txn = some t ∧ t.phase ≠ .sending) → exec .contention s = .next (settle s)) ∧
    (∀ t, s.clc.txn = some t → t.phase = .sending → t.kind ≠ .sleep → s.clc.contentions + 1 < 5 →
      ∃ s1, exec .contention s = .next (settle s1) ∧ OnlyChanges [.clc, .wtb, .chs, .lkp] s s1 ∧
        s1.clc = { s.clc with
          txn := none, contentions := s.clc.contentions + 1, line := .backoff, backoffTimer := some 50
          retry := if t.kind.isPass = true ∧ s.clc.pass = none then none else some t.kind
          pass := s.clc.pass.map fun p => { p with phase := .waiting }
          nodes := s1.clc.nodes, mirrorQueue := s1.clc.mirrorQueue } ∧
        (∀ n : NodeIx,
          ((t.kind = .poll n ∨ ∃ item, t.kind = .mirror n item) →
            s1.clc.nodes[n] = { s.clc.nodes[n] with due := false }) ∧
          (¬ (t.kind = .poll n ∨ ∃ item, t.kind = .mirror n item) → s1.clc.nodes[n] = s.clc.nodes[n])) ∧
        (s.clc.line ≠ .backoff → s1.wtb.view.line = .backoff)) ∧
    (∀ t, s.clc.txn = some t → t.phase = .sending → t.kind ≠ .sleep → 5 ≤ s.clc.contentions + 1 →
      ∃ s1, exec .contention s = .next (settle s1) ∧ OnlyChanges [.clc, .wtb, .chs, .lkp] s s1 ∧
        s1.clc = { s.clc with
          txn := none, retry := none, contentions := s.clc.contentions + 1, line := .fault, roundTimer := none
          backoffTimer := none, mirrorQueue := [], pass := none, nodes := s1.clc.nodes } ∧
        (∀ n : NodeIx, s1.clc.nodes[n] = if s.clc.nodes[n].enabled = true ∧ s.clc.nodes[n].state ≠ .lost
          then { s.clc.nodes[n] with state := .lost, due := false, lostRounds := 0 }
          else { s.clc.nodes[n] with due := false }) ∧
        s1.lkp.replies.map Reply.content = s.lkp.replies.map Reply.content ++
          (s.clc.pass.toList.map fun p => (ReplyEntry.reserved, 0x7F, p.tag, [0x0C, 0x39])) ∧
        (∀ n : NodeIx, s.clc.nodes[n].enabled = true → s.clc.nodes[n].state ≠ .lost → s1.wtb.view.nodes[n] = .lost ∧
          (s.lkp.mask.getLsbD 5 = true → Notice.node n .lost ∈ s1.lkp.notices ∨ s1.lkp.noticesLost = true)) ∧
        (s.clc.line ≠ .fault → s1.wtb.view.line = .fault)) ∧
    (s.clc.line ≠ .backoff ∨ s.clc.backoffTimer = none → exec .backoffExpiry s = .next (settle s)) ∧
    (s.clc.line = .backoff → s.clc.backoffTimer ≠ none → ∃ s1, exec .backoffExpiry s = .next (settle s1) ∧
      OnlyChanges [.clc, .wtb, .chs, .lkp] s s1 ∧ s1.wtb.view.line = .running ∧
      s1.clc = { s.clc with line := .running, backoffTimer := none, mirrorQueue := s1.clc.mirrorQueue }) ∧
    (s.clc.sleepWaiting = false → exec .sleepStart s = .next (settle s)) ∧
    (s.clc.sleepWaiting = true → ∃ s1, exec .sleepStart s = .next (settle s1) ∧ OnlyChanges [.clc, .free] s s1 ∧
      s1.clc = { s.clc with
        sleepWaiting := false
        txn := some { kind := .sleep, frame := [0x9F, 0x00, 0x00], phase := .sending } })

/-- O58: which transaction the arbiter starts on a free line (R150): the retry, then the waiting pass-through, then the
due poll of the lowest slot, then the head of the mirror queue; and the frame it sends, a retry's like a first start's
read anew (R144, R151, R156, R157, R163). A pass-through's target is checked again at its start and at its retry: it is
answered with ABSENT when it is no longer PRESENT, and the next work is chosen; else its frame goes to the target's
address with its data, or, broadcast, to address 31 with the target's address before the data. A mark of an item puts at
the end of the mirror queue its pair for each PRESENT slot whose mirror set holds it, while the line is RUNNING or in
BACKOFF, unless the pair waits already (R154, R155); that the pairs of one mark go N0 first is the model's choice
(log 28). The code and the content
of each mirror item are those of Table 43 and Table 69; with no outside slot the two value bytes of OUTSIDE_TEMP are
free (log 15), and before a first window result the road speed that ROAD_SPEED carries is the model's choice (log 35). -/
def Obligations.ArbiterChooses : Prop :=
  (∀ (item : MirrorItem) (s : State), mark item s = s.modClc fun c =>
    let taken := fun n : NodeIx => c.nodes[n].state = .present ∧ (c.line = .running ∨ c.line = .backoff) ∧
      c.nodes[n].mirrorSet.getLsbD item.code = true ∧ (n, item) ∉ c.mirrorQueue
    { c with mirrorQueue := c.mirrorQueue ++
        ((List.finRange 6).filter fun n => decide (taken n)).map fun n => (n, item) }) ∧
  (∀ s : State,
    let sends := fun (k : TxnKind) => (arbiter s).clc.txn.map (fun t => (t.kind, t.phase)) = some (k, TxnPhase.sending)
    let carries := fun (frame : List Byte) => (arbiter s).clc.txn.map (fun t => t.frame) = some frame
    let poll := fun (n : NodeIx) => carries [byteOf s.clc.nodes[n].address, 0x00, 0x00]
    let write := fun (n : NodeIx) (item : MirrorItem) =>
      carries (masterFrame s.clc.nodes[n].address .mirror (byteOf item.code :: mirrorContent s item))
    let passes := fun (n : NodeIx) (p : PassThrough) => sends (.pass n) ∧
      (arbiter s).clc.pass = some { p with phase := .inFlight } ∧
      carries (if p.nodeAlias = 0 then masterFrame 31 .passWrite (byteOf s.clc.nodes[n].address :: p.data)
        else masterFrame s.clc.nodes[n].address (match p.kind with | .read => .passRead | .write => .passWrite) p.data)
    let chooses :=
      (∀ n : NodeIx, s.clc.nodes[n].due = true → (∀ m : NodeIx, m < n → s.clc.nodes[m].due = false) →
        sends (.poll n) ∧ (arbiter s).clc.nodes[n].due = false ∧ poll n) ∧
      (∀ n item rest, (∀ m : NodeIx, s.clc.nodes[m].due = false) → s.clc.mirrorQueue = (n, item) :: rest →
        sends (.mirror n item) ∧ (arbiter s).clc.mirrorQueue = rest ∧ write n item) ∧
      ((∀ m : NodeIx, s.clc.nodes[m].due = false) → s.clc.mirrorQueue = [] → (arbiter s).clc.txn = none)
    let absent := fun (p : PassThrough) => chooses ∧ (arbiter s).clc.pass = none ∧
      (arbiter s).lkp.replies.map Reply.content =
        s.lkp.replies.map Reply.content ++ [(ReplyEntry.reserved, 0x7F, p.tag, [0x0A, 0x39])]
    let idle := s.clc.retry = none ∧ ∀ p ∈ s.clc.pass, p.phase ≠ .waiting
    (s.clc.line ≠ .running ∨ s.clc.txn ≠ none ∨ s.clc.power = .crank → arbiter s = s) ∧
    (s.clc.line = .running → s.clc.txn = none → s.clc.power ≠ .crank →
      (∀ k, s.clc.retry = some k → (arbiter s).clc.retry = none ∧ (k.isPass = false → sends k)) ∧
      (∀ n, s.clc.retry = some (.poll n) → poll n) ∧
      (∀ n item, s.clc.retry = some (.mirror n item) → write n item) ∧
      (∀ p n, s.clc.retry = some (.pass n) → s.clc.pass = some p →
        if s.clc.nodes[n].state = .present then passes n p else absent p) ∧
      (∀ p n, s.clc.retry = none → s.clc.pass = some p → p.phase = .waiting → s.clc.target p = some n →
        s.clc.nodes[n].state = .present → passes n p) ∧
      (∀ p, s.clc.retry = none → s.clc.pass = some p → p.phase = .waiting →
        (∀ n, s.clc.target p = some n → s.clc.nodes[n].state ≠ .present) → absent p) ∧
      (idle → chooses) ∧
      (idle → (∀ m : NodeIx, s.clc.nodes[m].due = false) → s.clc.mirrorQueue = [] → arbiter s = s))) ∧
  (∀ (c : Clc) (p : PassThrough), c.target p = (List.finRange 6).find? fun n =>
    c.nodes[n].enabled && decide (c.nodes[n].nodeAlias = if p.nodeAlias = 0 then p.answerAlias.getD 0 else p.nodeAlias)) ∧
  (∀ item : MirrorItem, item.code = match item with
    | .clock => 0 | .outsideTemp => 1 | .passengerTrip => 2 | .destination => 3 | .roadSpeed => 4 | .rearWarnings => 5
    | .privacyFlag => 6 | .alarmsRear => 7) ∧
  ∀ s : State,
    let standing := (List.finRange 32).filter fun w => s.wtb.entries[w].cfg.mirrorRear &&
      decide (s.wtb.entries[w].state = .active ∨ s.wtb.entries[w].state = .acked ∨ s.wtb.entries[w].state = .resolved)
    let alarm := fun a : Alarm => be1 a.enabled.toNat ++ be1 a.hour ++ be1 a.minute
    mirrorContent s .clock = (if s.clk.state = .set then be1 s.clk.time.hour ++ be1 s.clk.time.minute else [0xFF, 0xFF]) ∧
    (∀ n, s.clc.outsideSlot = some n → mirrorContent s .outsideTemp =
      be1 (match s.gdu.slots[n].state with | .never => 0 | .fresh => 1 | .stale => 2 | .lost => 3) ++
        bes2 s.gdu.slots[n].value) ∧
    (s.clc.outsideSlot = none → ∃ high low : Byte, mirrorContent s .outsideTemp = [0xFF, high, low]) ∧
    mirrorContent s .passengerTrip =
      be1 (match s.tau.trips[(3 : TripIx)].state with | .closed => 0 | .open => 1 | .paused => 2) ++
        be3 s.tau.trips[(3 : TripIx)].distance ++ be2 (s.tau.trips[(3 : TripIx)].running / 60) ∧
    mirrorContent s .destination =
      (match s.tau.destination with | some d => be3 d | none => [0xFF, 0xFF, 0xFF]) ++
        (match eta s.tau s.clk with | some t => be1 t.1 ++ be1 t.2 | none => [0xFF, 0xFF]) ∧
    mirrorContent s .roadSpeed = be2 (if s.clc.roadLive = true then s.clc.roadSpeed else 0) ∧
    mirrorContent s .rearWarnings = be1 standing.length ++ (standing.take 9).flatMap (fun w =>
      be1 w.val ++ be1 (match s.wtb.entries[w].state with
        | .idle => 0 | .pending => 1 | .active => 2 | .acked => 3 | .resolved => 4)) ∧
    mirrorContent s .privacyFlag = be1 s.chs.privacy.toNat ∧
    mirrorContent s .alarmsRear = alarm s.clk.alarms[(2 : AlarmIx)] ++ alarm s.clk.alarms[(3 : AlarmIx)]

/-- O59: when an answer holds the characters its length calls for, which answers are valid (R145, R200), and which poll
answers are well formed, with the refresh bit and the events they carry (R151, R201). -/
def Obligations.AnswersAreJudged : Prop :=
  (∀ cs : List CoachChar, answerComplete cs = true ↔
    ∃ a l rest, cs = a :: l :: rest ∧ rest.length = l.value.toNat + 1) ∧
  (∀ (cs : List CoachChar) (d : List Byte), answerData cs = some d ↔
    ∃ a l rest c, cs = a :: l :: (rest ++ [c]) ∧ (∀ x ∈ cs, x.error = false) ∧ a.mark = true ∧ a.value = 0xA0 ∧
      (∀ x ∈ l :: (rest ++ [c]), x.mark = false) ∧ rest.length = l.value.toNat ∧ l.value.toNat ≤ 20 ∧
      ((l :: (rest ++ [c])).map fun x => x.value.toNat).sum % 256 = 0 ∧ d = rest.map fun x => x.value) ∧
  ∀ (d : List Byte) (refresh : Bool) (events : List RearEvent), parsePoll d = some (refresh, events) ↔
    events.length ≤ 4 ∧ (∀ e ∈ events, e.data.length = match e.kind with
      | .clockSet => 6 | .alarmSet => 4 | .key => 1 | _ => 0) ∧
    ∃ status : Byte, refresh = status.getLsbD 0 ∧ d = status :: events.flatMap fun e =>
      (match e.kind with
        | .intercomCall => 0 | .privacyOn => 1 | .privacyOff => 2 | .passengerTripReset => 3 | .rearAck => 4
        | .clockSet => 5 | .alarmSet => 6 | .key => 7) :: e.data

/-- O60: the stop bit of a master frame opens the answer window, or completes a SLEEP frame; a character begins an
answer in the window and continues one; the window's expiry, the gap that cuts an answer and the last stop bit of a
complete answer complete the transaction (R145). A valid answer makes a JOINING or LOST slot PRESENT with miss count 0,
a miss counts up to LOST at 3, each change of state handed and notified with NODE (R147); a pass-through is answered
with the answer's data or with TIMEOUT (R163), but where RESTART has emptied its record no reply is placed (R164), and a
poll or a mirror write places none; a mirror write that was missed waits again while its slot is PRESENT
(R156). The rear events of a valid poll answer are taken in order after the state change and the marks of a refresh
(R151, R152), each handed to its owning block where the node's kind allows it, with its REAR notice (R76, R81, R153);
REAR_ACK acknowledges the entries of destination REAR as O46 gives (R99, R153). The place of those marks before the rear events, and of a joining node's own pairs before the pairs that its change
makes the WTB mark, is the model's choice (log 34), and so are the trim of the second that CLOCK_SET begins and when
the commands of an answer act (log 29, log 19). -/
def Obligations.TransactionsComplete : Prop :=
  (∀ (n : NodeIx) (d : List Byte) (refresh : Bool) (events : List RearEvent) (t : Txn) (s : State),
    s.clc.txn = some t → t.kind = .poll n → parsePoll d = some (refresh, events) →
    ∃ s1, completeTxn (some d) s = events.foldl (takeRearEvent n) s1 ∧ OnlyChanges [.clc, .wtb, .chs, .lkp] s s1 ∧
      s1.clc.nodes[n].misses = 0 ∧ (s1.clc.nodes[n].state = .present ∨ s.clc.nodes[n].state = .disabled) ∧
      ∀ item : MirrorItem, s.clc.line = .running → s.clc.nodes[n].mirrorSet.getLsbD item.code = true →
        (s.clc.nodes[n].state = .joining ∨ s.clc.nodes[n].state = .lost ∨
          (s.clc.nodes[n].state = .present ∧ refresh = true)) → (n, item) ∈ s1.clc.mirrorQueue) ∧
  (∀ (n : NodeIx) (s : State), s.clc.line = .running → s.clc.nodes[n].state = .joining ∨ s.clc.nodes[n].state = .lost →
    (∀ q ∈ s.clc.mirrorQueue, q.1 ≠ n) → ∃ more, (validAnswer n s).clc.mirrorQueue = s.clc.mirrorQueue ++
      ((MirrorItem.all.filter fun item => s.clc.nodes[n].mirrorSet.getLsbD item.code).map fun item => (n, item)) ++ more) ∧
  (∀ (n : NodeIx) (e : RearEvent) (s : State),
    let kind := s.clc.nodes[n].kind
    let handed := match e.kind with
      | .intercomCall | .privacyOn | .privacyOff | .passengerTripReset | .rearAck => kind = .console ∨ kind = .panel
      | .clockSet | .alarmSet => kind = .console
      | .key => False
    let after := takeRearEvent n s e
    let notified := fun (s1 : State) (r : RearResult) (data : List Byte) =>
      after = s1.modLkp fun l => l.takeNotice (.rear n e.kind r data)
    (¬ handed → notified s .forwarded (if e.kind = .rearAck then [0] else e.data)) ∧
    (handed → e.kind = .intercomCall →
      let q := takeChime { source := .rearCall, cls := .caution, pattern := s.clc.callPattern, dest := .front, arrival := 0
                           tag := none
                           passes := match s.chs.patterns[s.clc.callPattern].passes with
                             | .times k => .times k
                             | .whileActive => .times 1 } s
      notified q.1 (match q.2 with | .queued => .queued | .alreadyHeld => .alreadyHeld | .notQueued => .notQueued)
        e.data) ∧
    (handed → ∀ on : Bool, e.kind = (if on then .privacyOn else .privacyOff) →
      notified (mark .privacyFlag (s.modChs fun c => c.setPrivacy on)) .applied e.data) ∧
    (handed → e.kind = .passengerTripReset →
      let trip : Trip :=
        { state := .open, distance := 0, fuel := 0, running := 0, moving := 0, maxSpeed := 0
          startOdometer := s.tau.odometer
          startDate := match s.clk.state with
            | .set => some { year := s.clk.time.year, month := s.clk.time.month, day := s.clk.time.day,
                             hour := s.clk.time.hour, minute := s.clk.time.minute }
            | .unset => none
          resetBy := some .rear }
      notified ((mark .passengerTrip (s.modTau fun u => { u with trips := u.trips.set 3 trip })).modLkp fun l =>
        l.takeNotice (.trip 3 .reset)) .applied e.data) ∧
    (handed → e.kind = .rearAck →
      let taken := fun w : EntryIx => s.wtb.entries[w].cfg.dest = .rear ∧
        (s.wtb.entries[w].state = .active ∨ s.wtb.entries[w].state = .resolved)
      ∃ s1, notified s1 .applied [byteOf ((List.finRange 32).countP fun w => decide (taken w))] ∧
        OnlyChanges [.wtb, .chs, .clc, .lkp] s s1 ∧
        s1.chs = (List.finRange 32).foldl
          (fun c w => if taken w ∧ s.wtb.entries[w].state = .active then c.remove (.warning w) else c) s.chs ∧
        ∀ w : EntryIx, (¬ taken w → s1.wtb.entries[w] = s.wtb.entries[w]) ∧
          (taken w → s1.wtb.entries[w].cfg = s.wtb.entries[w].cfg ∧
            s1.wtb.entries[w].state = (if s.wtb.entries[w].state = .active ∧ s.wtb.entries[w].cfg.source ≠ .arrival
              then .acked else .idle) ∧
            s1.wtb.entries[w].repeatTimer =
              (if s.wtb.entries[w].state = .active then none else s.wtb.entries[w].repeatTimer) ∧
            s1.wtb.entries[w].eventPending =
              (if s.wtb.entries[w].cfg.source = .arrival then false else s.wtb.entries[w].eventPending))) ∧
    (handed → e.kind = .clockSet →
      let y := 1980 + u8 e.data 0
      let m := u8 e.data 1
      let d := u8 e.data 2
      let days := if m = 2 then (if y % 4 = 0 then 29 else 28) else if m = 4 ∨ m = 6 ∨ m = 9 ∨ m = 11 then 30 else 31
      let bad := 2079 < y ∨ m = 0 ∨ 12 < m ∨ d = 0 ∨ days < d ∨ 23 < u8 e.data 3 ∨ 59 < u8 e.data 4 ∨ 59 < u8 e.data 5
      (s.clk.lock = true ∨ bad → notified s .refused e.data) ∧
      (s.clk.lock = false → ¬ bad → ∃ s1, notified s1 .applied e.data ∧
        OnlyChanges [.clk, .wtb, .chs, .clc, .lkp] s s1 ∧
        Marked .clock s s1 ∧
        s1.clk = { s.clk with
          time := { year := y, month := m, day := d, hour := u8 e.data 3, minute := u8 e.data 4
                    second := u8 e.data 5 }
          state := .set, secondLength := (1000000 - 2 * s.clk.trim).toNat })) ∧
    (handed → e.kind = .alarmSet →
      let a := u8 e.data 0
      let bad := (a ≠ 2 ∧ a ≠ 3) ∨ 2 ≤ u8 e.data 1 ∨ 23 < u8 e.data 2 ∨ 59 < u8 e.data 3
      (bad → notified s .refused e.data) ∧
      ∀ i : AlarmIx, ¬ bad → a = i → notified (mark .alarmsRear (removeChime (.alarm i) (s.modClk fun c =>
        { c with alarms := c.alarms.set i { c.alarms[i] with
            enabled := u8 e.data 1 = 1, hour := u8 e.data 2, minute := u8 e.data 3 } }))) .applied e.data)) ∧
  (∀ s : State, s.igs.supplied = true →
    (∀ t, s.clc.txn = some t → t.phase = .sending →
      exec .masterFrameSent s = .next (settle (s.modClc fun c => if t.kind = .sleep
        then { c with txn := none, contentions := 0 } else { c with txn := some { t with phase := .window } }))) ∧
    (∀ (value : Byte) (mark error : Bool) (t : Txn), s.clc.txn = some t →
      let takes := fun cs : List CoachChar => exec (.answerCharacter value mark error) s =
        .next (settle (s.modClc fun c => { c with txn := some { t with phase := .receiving cs } }))
      (t.phase = .sending → exec (.answerCharacter value mark error) s = .next (settle s)) ∧
      (t.phase = .window → takes [{ value := value, mark := mark, error := error }]) ∧
      ∀ cs, t.phase = .receiving cs →
        if answerComplete cs then exec (.answerCharacter value mark error) s = .next (settle s)
        else takes (cs ++ [{ value := value, mark := mark, error := error }])) ∧
    (∀ (value : Byte) (mark error : Bool), s.clc.txn = none →
      exec (.answerCharacter value mark error) s = .next (settle s)) ∧
    (s.clc.txn = none → exec .masterFrameSent s = .next (settle s) ∧ exec .answerWindowExpiry s = .next (settle s) ∧
      exec .answerCut s = .next (settle s) ∧ exec .answerComplete s = .next (settle s)) ∧
    (∀ t, s.clc.txn = some t → t.phase ≠ .sending → exec .masterFrameSent s = .next (settle s)) ∧
    (∀ t, s.clc.txn = some t → t.phase ≠ .window → exec .answerWindowExpiry s = .next (settle s)) ∧
    (∀ t, s.clc.txn = some t → t.phase = .window → exec .answerWindowExpiry s = .next (settle (completeTxn none s))) ∧
    (∀ t cs, s.clc.txn = some t → t.phase = .receiving cs → answerComplete cs = false →
      exec .answerCut s = .next (settle (completeTxn none s)) ∧ exec .answerComplete s = .next (settle s)) ∧
    ∀ t cs, s.clc.txn = some t → t.phase = .receiving cs → answerComplete cs = true →
      exec .answerComplete s = .next (settle (completeTxn (answerData cs) s)) ∧
      exec .answerCut s = .next (settle s)) ∧
  ∀ (answer : Option (List Byte)) (t : Txn) (n : NodeIx) (s : State), s.clc.txn = some t → t.kind.target = some n →
    let s1 := completeTxn answer s
    let x := s.clc.nodes[n]
    let y := s1.clc.nodes[n]
    let valid := ∃ d, answer = some d ∧ (t.kind = .poll n → parsePoll d ≠ none)
    OnlyChanges [.clc, .tau, .clk, .wtb, .chs, .lkp] s s1 ∧
    s1.clc.txn = none ∧ s1.clc.contentions = 0 ∧ (∀ m, m ≠ n → s1.clc.nodes[m] = s.clc.nodes[m]) ∧
    (valid → y.misses = 0 ∧ y.state = if x.state = .disabled then .disabled else .present) ∧
    (¬ valid → if x.state = .joining ∨ x.state = .present
      then y.misses = min (x.misses + 1) 3 ∧ y.state = if 3 ≤ x.misses + 1 then .lost else x.state
      else y = x) ∧
    (¬ valid → s1.tau = s.tau ∧ s1.clk = s.clk) ∧
    (y.state ≠ x.state → s1.wtb.view.nodes[n] = y.state ∧ (s.lkp.mask.getLsbD 5 = true →
      Notice.node n y.state ∈ s1.lkp.notices ∨ s1.lkp.noticesLost = true)) ∧
    (∀ item, t.kind = .mirror n item → ¬ valid → y.state = .present → s.clc.line = .running →
      (n, item) ∈ s1.clc.mirrorQueue) ∧
    (∀ p, t.kind = .pass n → s.clc.pass = some p → s1.clc.pass = none ∧
      s1.lkp.replies.map Reply.content = s.lkp.replies.map Reply.content ++
        [match answer with
          | some d => (ReplyEntry.reserved, (0x79 : Byte), p.tag, d)
          | none => (ReplyEntry.reserved, (0x7F : Byte), p.tag, [0x0B, 0x39])]) ∧
    (t.kind = .pass n → s.clc.pass = none → s1.clc.pass = none ∧ s1.lkp.replies = s.lkp.replies) ∧
    (t.kind ≠ .pass n → s1.clc.pass = s.clc.pass ∧ s1.lkp.replies = s.lkp.replies)
end

