-- ==== Sys2Proof/Laws/State.lean ====
section
/-! SUPPORT. What each update leaves and sets, field by field, so that no proof unfolds a record update. -/

namespace Sys2Proof.Machine

/-! ### State.modIgs -/

section
variable (f : Igs → Igs) (s : State)
@[simp] theorem State.modIgs_igs : (s.modIgs f).igs = f s.igs := rfl
@[simp] theorem State.modIgs_pcu : (s.modIgs f).pcu = s.pcu := rfl
@[simp] theorem State.modIgs_gdu : (s.modIgs f).gdu = s.gdu := rfl
@[simp] theorem State.modIgs_tau : (s.modIgs f).tau = s.tau := rfl
@[simp] theorem State.modIgs_clk : (s.modIgs f).clk = s.clk := rfl
@[simp] theorem State.modIgs_wtb : (s.modIgs f).wtb = s.wtb := rfl
@[simp] theorem State.modIgs_chs : (s.modIgs f).chs = s.chs := rfl
@[simp] theorem State.modIgs_svs : (s.modIgs f).svs = s.svs := rfl
@[simp] theorem State.modIgs_clc : (s.modIgs f).clc = s.clc := rfl
@[simp] theorem State.modIgs_lkp : (s.modIgs f).lkp = s.lkp := rfl
@[simp] theorem State.modIgs_inputs : (s.modIgs f).inputs = s.inputs := rfl
@[simp] theorem State.modIgs_free : (s.modIgs f).free = s.free := rfl
@[simp] theorem State.modIgs_pending : (s.modIgs f).pending = s.pending := rfl
end

/-! ### State.modPcu -/

section
variable (f : Pcu → Pcu) (s : State)
@[simp] theorem State.modPcu_igs : (s.modPcu f).igs = s.igs := rfl
@[simp] theorem State.modPcu_pcu : (s.modPcu f).pcu = f s.pcu := rfl
@[simp] theorem State.modPcu_gdu : (s.modPcu f).gdu = s.gdu := rfl
@[simp] theorem State.modPcu_tau : (s.modPcu f).tau = s.tau := rfl
@[simp] theorem State.modPcu_clk : (s.modPcu f).clk = s.clk := rfl
@[simp] theorem State.modPcu_wtb : (s.modPcu f).wtb = s.wtb := rfl
@[simp] theorem State.modPcu_chs : (s.modPcu f).chs = s.chs := rfl
@[simp] theorem State.modPcu_svs : (s.modPcu f).svs = s.svs := rfl
@[simp] theorem State.modPcu_clc : (s.modPcu f).clc = s.clc := rfl
@[simp] theorem State.modPcu_lkp : (s.modPcu f).lkp = s.lkp := rfl
@[simp] theorem State.modPcu_inputs : (s.modPcu f).inputs = s.inputs := rfl
@[simp] theorem State.modPcu_free : (s.modPcu f).free = s.free := rfl
@[simp] theorem State.modPcu_pending : (s.modPcu f).pending = s.pending := rfl
end

/-! ### State.modGdu -/

section
variable (f : Gdu → Gdu) (s : State)
@[simp] theorem State.modGdu_igs : (s.modGdu f).igs = s.igs := rfl
@[simp] theorem State.modGdu_pcu : (s.modGdu f).pcu = s.pcu := rfl
@[simp] theorem State.modGdu_gdu : (s.modGdu f).gdu = f s.gdu := rfl
@[simp] theorem State.modGdu_tau : (s.modGdu f).tau = s.tau := rfl
@[simp] theorem State.modGdu_clk : (s.modGdu f).clk = s.clk := rfl
@[simp] theorem State.modGdu_wtb : (s.modGdu f).wtb = s.wtb := rfl
@[simp] theorem State.modGdu_chs : (s.modGdu f).chs = s.chs := rfl
@[simp] theorem State.modGdu_svs : (s.modGdu f).svs = s.svs := rfl
@[simp] theorem State.modGdu_clc : (s.modGdu f).clc = s.clc := rfl
@[simp] theorem State.modGdu_lkp : (s.modGdu f).lkp = s.lkp := rfl
@[simp] theorem State.modGdu_inputs : (s.modGdu f).inputs = s.inputs := rfl
@[simp] theorem State.modGdu_free : (s.modGdu f).free = s.free := rfl
@[simp] theorem State.modGdu_pending : (s.modGdu f).pending = s.pending := rfl
end

/-! ### State.modTau -/

section
variable (f : Tau → Tau) (s : State)
@[simp] theorem State.modTau_igs : (s.modTau f).igs = s.igs := rfl
@[simp] theorem State.modTau_pcu : (s.modTau f).pcu = s.pcu := rfl
@[simp] theorem State.modTau_gdu : (s.modTau f).gdu = s.gdu := rfl
@[simp] theorem State.modTau_tau : (s.modTau f).tau = f s.tau := rfl
@[simp] theorem State.modTau_clk : (s.modTau f).clk = s.clk := rfl
@[simp] theorem State.modTau_wtb : (s.modTau f).wtb = s.wtb := rfl
@[simp] theorem State.modTau_chs : (s.modTau f).chs = s.chs := rfl
@[simp] theorem State.modTau_svs : (s.modTau f).svs = s.svs := rfl
@[simp] theorem State.modTau_clc : (s.modTau f).clc = s.clc := rfl
@[simp] theorem State.modTau_lkp : (s.modTau f).lkp = s.lkp := rfl
@[simp] theorem State.modTau_inputs : (s.modTau f).inputs = s.inputs := rfl
@[simp] theorem State.modTau_free : (s.modTau f).free = s.free := rfl
@[simp] theorem State.modTau_pending : (s.modTau f).pending = s.pending := rfl
end

/-! ### State.modClk -/

section
variable (f : Clk → Clk) (s : State)
@[simp] theorem State.modClk_igs : (s.modClk f).igs = s.igs := rfl
@[simp] theorem State.modClk_pcu : (s.modClk f).pcu = s.pcu := rfl
@[simp] theorem State.modClk_gdu : (s.modClk f).gdu = s.gdu := rfl
@[simp] theorem State.modClk_tau : (s.modClk f).tau = s.tau := rfl
@[simp] theorem State.modClk_clk : (s.modClk f).clk = f s.clk := rfl
@[simp] theorem State.modClk_wtb : (s.modClk f).wtb = s.wtb := rfl
@[simp] theorem State.modClk_chs : (s.modClk f).chs = s.chs := rfl
@[simp] theorem State.modClk_svs : (s.modClk f).svs = s.svs := rfl
@[simp] theorem State.modClk_clc : (s.modClk f).clc = s.clc := rfl
@[simp] theorem State.modClk_lkp : (s.modClk f).lkp = s.lkp := rfl
@[simp] theorem State.modClk_inputs : (s.modClk f).inputs = s.inputs := rfl
@[simp] theorem State.modClk_free : (s.modClk f).free = s.free := rfl
@[simp] theorem State.modClk_pending : (s.modClk f).pending = s.pending := rfl
end

/-! ### State.modWtb -/

section
variable (f : Wtb → Wtb) (s : State)
@[simp] theorem State.modWtb_igs : (s.modWtb f).igs = s.igs := rfl
@[simp] theorem State.modWtb_pcu : (s.modWtb f).pcu = s.pcu := rfl
@[simp] theorem State.modWtb_gdu : (s.modWtb f).gdu = s.gdu := rfl
@[simp] theorem State.modWtb_tau : (s.modWtb f).tau = s.tau := rfl
@[simp] theorem State.modWtb_clk : (s.modWtb f).clk = s.clk := rfl
@[simp] theorem State.modWtb_wtb : (s.modWtb f).wtb = f s.wtb := rfl
@[simp] theorem State.modWtb_chs : (s.modWtb f).chs = s.chs := rfl
@[simp] theorem State.modWtb_svs : (s.modWtb f).svs = s.svs := rfl
@[simp] theorem State.modWtb_clc : (s.modWtb f).clc = s.clc := rfl
@[simp] theorem State.modWtb_lkp : (s.modWtb f).lkp = s.lkp := rfl
@[simp] theorem State.modWtb_inputs : (s.modWtb f).inputs = s.inputs := rfl
@[simp] theorem State.modWtb_free : (s.modWtb f).free = s.free := rfl
@[simp] theorem State.modWtb_pending : (s.modWtb f).pending = s.pending := rfl
end

/-! ### State.modChs -/

section
variable (f : Chs → Chs) (s : State)
@[simp] theorem State.modChs_igs : (s.modChs f).igs = s.igs := rfl
@[simp] theorem State.modChs_pcu : (s.modChs f).pcu = s.pcu := rfl
@[simp] theorem State.modChs_gdu : (s.modChs f).gdu = s.gdu := rfl
@[simp] theorem State.modChs_tau : (s.modChs f).tau = s.tau := rfl
@[simp] theorem State.modChs_clk : (s.modChs f).clk = s.clk := rfl
@[simp] theorem State.modChs_wtb : (s.modChs f).wtb = s.wtb := rfl
@[simp] theorem State.modChs_chs : (s.modChs f).chs = f s.chs := rfl
@[simp] theorem State.modChs_svs : (s.modChs f).svs = s.svs := rfl
@[simp] theorem State.modChs_clc : (s.modChs f).clc = s.clc := rfl
@[simp] theorem State.modChs_lkp : (s.modChs f).lkp = s.lkp := rfl
@[simp] theorem State.modChs_inputs : (s.modChs f).inputs = s.inputs := rfl
@[simp] theorem State.modChs_free : (s.modChs f).free = s.free := rfl
@[simp] theorem State.modChs_pending : (s.modChs f).pending = s.pending := rfl
end

/-! ### State.modSvs -/

section
variable (f : Svs → Svs) (s : State)
@[simp] theorem State.modSvs_igs : (s.modSvs f).igs = s.igs := rfl
@[simp] theorem State.modSvs_pcu : (s.modSvs f).pcu = s.pcu := rfl
@[simp] theorem State.modSvs_gdu : (s.modSvs f).gdu = s.gdu := rfl
@[simp] theorem State.modSvs_tau : (s.modSvs f).tau = s.tau := rfl
@[simp] theorem State.modSvs_clk : (s.modSvs f).clk = s.clk := rfl
@[simp] theorem State.modSvs_wtb : (s.modSvs f).wtb = s.wtb := rfl
@[simp] theorem State.modSvs_chs : (s.modSvs f).chs = s.chs := rfl
@[simp] theorem State.modSvs_svs : (s.modSvs f).svs = f s.svs := rfl
@[simp] theorem State.modSvs_clc : (s.modSvs f).clc = s.clc := rfl
@[simp] theorem State.modSvs_lkp : (s.modSvs f).lkp = s.lkp := rfl
@[simp] theorem State.modSvs_inputs : (s.modSvs f).inputs = s.inputs := rfl
@[simp] theorem State.modSvs_free : (s.modSvs f).free = s.free := rfl
@[simp] theorem State.modSvs_pending : (s.modSvs f).pending = s.pending := rfl
end

/-! ### State.modClc -/

section
variable (f : Clc → Clc) (s : State)
@[simp] theorem State.modClc_igs : (s.modClc f).igs = s.igs := rfl
@[simp] theorem State.modClc_pcu : (s.modClc f).pcu = s.pcu := rfl
@[simp] theorem State.modClc_gdu : (s.modClc f).gdu = s.gdu := rfl
@[simp] theorem State.modClc_tau : (s.modClc f).tau = s.tau := rfl
@[simp] theorem State.modClc_clk : (s.modClc f).clk = s.clk := rfl
@[simp] theorem State.modClc_wtb : (s.modClc f).wtb = s.wtb := rfl
@[simp] theorem State.modClc_chs : (s.modClc f).chs = s.chs := rfl
@[simp] theorem State.modClc_svs : (s.modClc f).svs = s.svs := rfl
@[simp] theorem State.modClc_clc : (s.modClc f).clc = f s.clc := rfl
@[simp] theorem State.modClc_lkp : (s.modClc f).lkp = s.lkp := rfl
@[simp] theorem State.modClc_inputs : (s.modClc f).inputs = s.inputs := rfl
@[simp] theorem State.modClc_free : (s.modClc f).free = s.free := rfl
@[simp] theorem State.modClc_pending : (s.modClc f).pending = s.pending := rfl
end

/-! ### State.modLkp -/

section
variable (f : Lkp → Lkp) (s : State)
@[simp] theorem State.modLkp_igs : (s.modLkp f).igs = s.igs := rfl
@[simp] theorem State.modLkp_pcu : (s.modLkp f).pcu = s.pcu := rfl
@[simp] theorem State.modLkp_gdu : (s.modLkp f).gdu = s.gdu := rfl
@[simp] theorem State.modLkp_tau : (s.modLkp f).tau = s.tau := rfl
@[simp] theorem State.modLkp_clk : (s.modLkp f).clk = s.clk := rfl
@[simp] theorem State.modLkp_wtb : (s.modLkp f).wtb = s.wtb := rfl
@[simp] theorem State.modLkp_chs : (s.modLkp f).chs = s.chs := rfl
@[simp] theorem State.modLkp_svs : (s.modLkp f).svs = s.svs := rfl
@[simp] theorem State.modLkp_clc : (s.modLkp f).clc = s.clc := rfl
@[simp] theorem State.modLkp_lkp : (s.modLkp f).lkp = f s.lkp := rfl
@[simp] theorem State.modLkp_inputs : (s.modLkp f).inputs = s.inputs := rfl
@[simp] theorem State.modLkp_free : (s.modLkp f).free = s.free := rfl
@[simp] theorem State.modLkp_pending : (s.modLkp f).pending = s.pending := rfl
end

/-! ### State.modInputs -/

section
variable (f : Inputs → Inputs) (s : State)
@[simp] theorem State.modInputs_igs : (s.modInputs f).igs = s.igs := rfl
@[simp] theorem State.modInputs_pcu : (s.modInputs f).pcu = s.pcu := rfl
@[simp] theorem State.modInputs_gdu : (s.modInputs f).gdu = s.gdu := rfl
@[simp] theorem State.modInputs_tau : (s.modInputs f).tau = s.tau := rfl
@[simp] theorem State.modInputs_clk : (s.modInputs f).clk = s.clk := rfl
@[simp] theorem State.modInputs_wtb : (s.modInputs f).wtb = s.wtb := rfl
@[simp] theorem State.modInputs_chs : (s.modInputs f).chs = s.chs := rfl
@[simp] theorem State.modInputs_svs : (s.modInputs f).svs = s.svs := rfl
@[simp] theorem State.modInputs_clc : (s.modInputs f).clc = s.clc := rfl
@[simp] theorem State.modInputs_lkp : (s.modInputs f).lkp = s.lkp := rfl
@[simp] theorem State.modInputs_inputs : (s.modInputs f).inputs = f s.inputs := rfl
@[simp] theorem State.modInputs_free : (s.modInputs f).free = s.free := rfl
@[simp] theorem State.modInputs_pending : (s.modInputs f).pending = s.pending := rfl
end

/-! ### State.modFree -/

section
variable (f : FreeValues → FreeValues) (s : State)
@[simp] theorem State.modFree_igs : (s.modFree f).igs = s.igs := rfl
@[simp] theorem State.modFree_pcu : (s.modFree f).pcu = s.pcu := rfl
@[simp] theorem State.modFree_gdu : (s.modFree f).gdu = s.gdu := rfl
@[simp] theorem State.modFree_tau : (s.modFree f).tau = s.tau := rfl
@[simp] theorem State.modFree_clk : (s.modFree f).clk = s.clk := rfl
@[simp] theorem State.modFree_wtb : (s.modFree f).wtb = s.wtb := rfl
@[simp] theorem State.modFree_chs : (s.modFree f).chs = s.chs := rfl
@[simp] theorem State.modFree_svs : (s.modFree f).svs = s.svs := rfl
@[simp] theorem State.modFree_clc : (s.modFree f).clc = s.clc := rfl
@[simp] theorem State.modFree_lkp : (s.modFree f).lkp = s.lkp := rfl
@[simp] theorem State.modFree_inputs : (s.modFree f).inputs = s.inputs := rfl
@[simp] theorem State.modFree_free : (s.modFree f).free = f s.free := rfl
@[simp] theorem State.modFree_pending : (s.modFree f).pending = s.pending := rfl
end

/-! ### State.modChannel -/

section
variable (i : ChannelIx) (f : Channel → Channel) (s : State)
@[simp] theorem State.modChannel_igs : (s.modChannel i f).igs = s.igs := rfl
@[simp] theorem State.modChannel_channels : (s.modChannel i f).pcu.channels = updAt s.pcu.channels i f := rfl
theorem State.modChannel_pcu : (s.modChannel i f).pcu = { s.pcu with channels := updAt s.pcu.channels i f } := rfl
@[simp] theorem State.modChannel_gdu : (s.modChannel i f).gdu = s.gdu := rfl
@[simp] theorem State.modChannel_tau : (s.modChannel i f).tau = s.tau := rfl
@[simp] theorem State.modChannel_clk : (s.modChannel i f).clk = s.clk := rfl
@[simp] theorem State.modChannel_wtb : (s.modChannel i f).wtb = s.wtb := rfl
@[simp] theorem State.modChannel_chs : (s.modChannel i f).chs = s.chs := rfl
@[simp] theorem State.modChannel_svs : (s.modChannel i f).svs = s.svs := rfl
@[simp] theorem State.modChannel_clc : (s.modChannel i f).clc = s.clc := rfl
@[simp] theorem State.modChannel_lkp : (s.modChannel i f).lkp = s.lkp := rfl
@[simp] theorem State.modChannel_inputs : (s.modChannel i f).inputs = s.inputs := rfl
@[simp] theorem State.modChannel_free : (s.modChannel i f).free = s.free := rfl
@[simp] theorem State.modChannel_pending : (s.modChannel i f).pending = s.pending := rfl
end

/-! ### State.modSlot -/

section
variable (i : SlotIx) (f : Slot → Slot) (s : State)
@[simp] theorem State.modSlot_igs : (s.modSlot i f).igs = s.igs := rfl
@[simp] theorem State.modSlot_pcu : (s.modSlot i f).pcu = s.pcu := rfl
@[simp] theorem State.modSlot_slots : (s.modSlot i f).gdu.slots = updAt s.gdu.slots i f := rfl
theorem State.modSlot_gdu : (s.modSlot i f).gdu = { s.gdu with slots := updAt s.gdu.slots i f } := rfl
@[simp] theorem State.modSlot_tau : (s.modSlot i f).tau = s.tau := rfl
@[simp] theorem State.modSlot_clk : (s.modSlot i f).clk = s.clk := rfl
@[simp] theorem State.modSlot_wtb : (s.modSlot i f).wtb = s.wtb := rfl
@[simp] theorem State.modSlot_chs : (s.modSlot i f).chs = s.chs := rfl
@[simp] theorem State.modSlot_svs : (s.modSlot i f).svs = s.svs := rfl
@[simp] theorem State.modSlot_clc : (s.modSlot i f).clc = s.clc := rfl
@[simp] theorem State.modSlot_lkp : (s.modSlot i f).lkp = s.lkp := rfl
@[simp] theorem State.modSlot_inputs : (s.modSlot i f).inputs = s.inputs := rfl
@[simp] theorem State.modSlot_free : (s.modSlot i f).free = s.free := rfl
@[simp] theorem State.modSlot_pending : (s.modSlot i f).pending = s.pending := rfl
end

/-! ### State.modGauge -/

section
variable (i : GaugeIx) (f : Gauge → Gauge) (s : State)
@[simp] theorem State.modGauge_igs : (s.modGauge i f).igs = s.igs := rfl
@[simp] theorem State.modGauge_pcu : (s.modGauge i f).pcu = s.pcu := rfl
@[simp] theorem State.modGauge_gauges : (s.modGauge i f).gdu.gauges = updAt s.gdu.gauges i f := rfl
theorem State.modGauge_gdu : (s.modGauge i f).gdu = { s.gdu with gauges := updAt s.gdu.gauges i f } := rfl
@[simp] theorem State.modGauge_tau : (s.modGauge i f).tau = s.tau := rfl
@[simp] theorem State.modGauge_clk : (s.modGauge i f).clk = s.clk := rfl
@[simp] theorem State.modGauge_wtb : (s.modGauge i f).wtb = s.wtb := rfl
@[simp] theorem State.modGauge_chs : (s.modGauge i f).chs = s.chs := rfl
@[simp] theorem State.modGauge_svs : (s.modGauge i f).svs = s.svs := rfl
@[simp] theorem State.modGauge_clc : (s.modGauge i f).clc = s.clc := rfl
@[simp] theorem State.modGauge_lkp : (s.modGauge i f).lkp = s.lkp := rfl
@[simp] theorem State.modGauge_inputs : (s.modGauge i f).inputs = s.inputs := rfl
@[simp] theorem State.modGauge_free : (s.modGauge i f).free = s.free := rfl
@[simp] theorem State.modGauge_pending : (s.modGauge i f).pending = s.pending := rfl
end

/-! ### State.modTrip -/

section
variable (i : TripIx) (f : Trip → Trip) (s : State)
@[simp] theorem State.modTrip_igs : (s.modTrip i f).igs = s.igs := rfl
@[simp] theorem State.modTrip_pcu : (s.modTrip i f).pcu = s.pcu := rfl
@[simp] theorem State.modTrip_gdu : (s.modTrip i f).gdu = s.gdu := rfl
@[simp] theorem State.modTrip_trips : (s.modTrip i f).tau.trips = updAt s.tau.trips i f := rfl
theorem State.modTrip_tau : (s.modTrip i f).tau = { s.tau with trips := updAt s.tau.trips i f } := rfl
@[simp] theorem State.modTrip_clk : (s.modTrip i f).clk = s.clk := rfl
@[simp] theorem State.modTrip_wtb : (s.modTrip i f).wtb = s.wtb := rfl
@[simp] theorem State.modTrip_chs : (s.modTrip i f).chs = s.chs := rfl
@[simp] theorem State.modTrip_svs : (s.modTrip i f).svs = s.svs := rfl
@[simp] theorem State.modTrip_clc : (s.modTrip i f).clc = s.clc := rfl
@[simp] theorem State.modTrip_lkp : (s.modTrip i f).lkp = s.lkp := rfl
@[simp] theorem State.modTrip_inputs : (s.modTrip i f).inputs = s.inputs := rfl
@[simp] theorem State.modTrip_free : (s.modTrip i f).free = s.free := rfl
@[simp] theorem State.modTrip_pending : (s.modTrip i f).pending = s.pending := rfl
end

/-! ### State.modAlarm -/

section
variable (i : AlarmIx) (f : Alarm → Alarm) (s : State)
@[simp] theorem State.modAlarm_igs : (s.modAlarm i f).igs = s.igs := rfl
@[simp] theorem State.modAlarm_pcu : (s.modAlarm i f).pcu = s.pcu := rfl
@[simp] theorem State.modAlarm_gdu : (s.modAlarm i f).gdu = s.gdu := rfl
@[simp] theorem State.modAlarm_tau : (s.modAlarm i f).tau = s.tau := rfl
@[simp] theorem State.modAlarm_alarms : (s.modAlarm i f).clk.alarms = updAt s.clk.alarms i f := rfl
theorem State.modAlarm_clk : (s.modAlarm i f).clk = { s.clk with alarms := updAt s.clk.alarms i f } := rfl
@[simp] theorem State.modAlarm_wtb : (s.modAlarm i f).wtb = s.wtb := rfl
@[simp] theorem State.modAlarm_chs : (s.modAlarm i f).chs = s.chs := rfl
@[simp] theorem State.modAlarm_svs : (s.modAlarm i f).svs = s.svs := rfl
@[simp] theorem State.modAlarm_clc : (s.modAlarm i f).clc = s.clc := rfl
@[simp] theorem State.modAlarm_lkp : (s.modAlarm i f).lkp = s.lkp := rfl
@[simp] theorem State.modAlarm_inputs : (s.modAlarm i f).inputs = s.inputs := rfl
@[simp] theorem State.modAlarm_free : (s.modAlarm i f).free = s.free := rfl
@[simp] theorem State.modAlarm_pending : (s.modAlarm i f).pending = s.pending := rfl
end

/-! ### State.modEntry -/

section
variable (i : EntryIx) (f : Entry → Entry) (s : State)
@[simp] theorem State.modEntry_igs : (s.modEntry i f).igs = s.igs := rfl
@[simp] theorem State.modEntry_pcu : (s.modEntry i f).pcu = s.pcu := rfl
@[simp] theorem State.modEntry_gdu : (s.modEntry i f).gdu = s.gdu := rfl
@[simp] theorem State.modEntry_tau : (s.modEntry i f).tau = s.tau := rfl
@[simp] theorem State.modEntry_clk : (s.modEntry i f).clk = s.clk := rfl
@[simp] theorem State.modEntry_entries : (s.modEntry i f).wtb.entries = updAt s.wtb.entries i f := rfl
theorem State.modEntry_wtb : (s.modEntry i f).wtb = { s.wtb with entries := updAt s.wtb.entries i f } := rfl
@[simp] theorem State.modEntry_chs : (s.modEntry i f).chs = s.chs := rfl
@[simp] theorem State.modEntry_svs : (s.modEntry i f).svs = s.svs := rfl
@[simp] theorem State.modEntry_clc : (s.modEntry i f).clc = s.clc := rfl
@[simp] theorem State.modEntry_lkp : (s.modEntry i f).lkp = s.lkp := rfl
@[simp] theorem State.modEntry_inputs : (s.modEntry i f).inputs = s.inputs := rfl
@[simp] theorem State.modEntry_free : (s.modEntry i f).free = s.free := rfl
@[simp] theorem State.modEntry_pending : (s.modEntry i f).pending = s.pending := rfl
end

/-! ### State.modItem -/

section
variable (i : ItemIx) (f : ServiceItem → ServiceItem) (s : State)
@[simp] theorem State.modItem_igs : (s.modItem i f).igs = s.igs := rfl
@[simp] theorem State.modItem_pcu : (s.modItem i f).pcu = s.pcu := rfl
@[simp] theorem State.modItem_gdu : (s.modItem i f).gdu = s.gdu := rfl
@[simp] theorem State.modItem_tau : (s.modItem i f).tau = s.tau := rfl
@[simp] theorem State.modItem_clk : (s.modItem i f).clk = s.clk := rfl
@[simp] theorem State.modItem_wtb : (s.modItem i f).wtb = s.wtb := rfl
@[simp] theorem State.modItem_chs : (s.modItem i f).chs = s.chs := rfl
@[simp] theorem State.modItem_items : (s.modItem i f).svs.items = updAt s.svs.items i f := rfl
theorem State.modItem_svs : (s.modItem i f).svs = { s.svs with items := updAt s.svs.items i f } := rfl
@[simp] theorem State.modItem_clc : (s.modItem i f).clc = s.clc := rfl
@[simp] theorem State.modItem_lkp : (s.modItem i f).lkp = s.lkp := rfl
@[simp] theorem State.modItem_inputs : (s.modItem i f).inputs = s.inputs := rfl
@[simp] theorem State.modItem_free : (s.modItem i f).free = s.free := rfl
@[simp] theorem State.modItem_pending : (s.modItem i f).pending = s.pending := rfl
end

/-! ### State.modNode -/

section
variable (i : NodeIx) (f : Node → Node) (s : State)
@[simp] theorem State.modNode_igs : (s.modNode i f).igs = s.igs := rfl
@[simp] theorem State.modNode_pcu : (s.modNode i f).pcu = s.pcu := rfl
@[simp] theorem State.modNode_gdu : (s.modNode i f).gdu = s.gdu := rfl
@[simp] theorem State.modNode_tau : (s.modNode i f).tau = s.tau := rfl
@[simp] theorem State.modNode_clk : (s.modNode i f).clk = s.clk := rfl
@[simp] theorem State.modNode_wtb : (s.modNode i f).wtb = s.wtb := rfl
@[simp] theorem State.modNode_chs : (s.modNode i f).chs = s.chs := rfl
@[simp] theorem State.modNode_svs : (s.modNode i f).svs = s.svs := rfl
@[simp] theorem State.modNode_nodes : (s.modNode i f).clc.nodes = updAt s.clc.nodes i f := rfl
theorem State.modNode_clc : (s.modNode i f).clc = { s.clc with nodes := updAt s.clc.nodes i f } := rfl
@[simp] theorem State.modNode_lkp : (s.modNode i f).lkp = s.lkp := rfl
@[simp] theorem State.modNode_inputs : (s.modNode i f).inputs = s.inputs := rfl
@[simp] theorem State.modNode_free : (s.modNode i f).free = s.free := rfl
@[simp] theorem State.modNode_pending : (s.modNode i f).pending = s.pending := rfl
end

/-! ### State.modWarnView -/

section
variable (f : WarnView → WarnView) (s : State)
@[simp] theorem State.modWarnView_view : (s.modWarnView f).wtb.view = f s.wtb.view := rfl
@[simp] theorem State.modWarnView_entries : (s.modWarnView f).wtb.entries = s.wtb.entries := rfl
@[simp] theorem State.modWarnView_switches : (s.modWarnView f).wtb.switches = s.wtb.switches := rfl
@[simp] theorem State.modWarnView_lamps : (s.modWarnView f).wtb.lamps = s.wtb.lamps := rfl
@[simp] theorem State.modWarnView_igs : (s.modWarnView f).igs = s.igs := rfl
@[simp] theorem State.modWarnView_pcu : (s.modWarnView f).pcu = s.pcu := rfl
@[simp] theorem State.modWarnView_gdu : (s.modWarnView f).gdu = s.gdu := rfl
@[simp] theorem State.modWarnView_tau : (s.modWarnView f).tau = s.tau := rfl
@[simp] theorem State.modWarnView_clk : (s.modWarnView f).clk = s.clk := rfl
@[simp] theorem State.modWarnView_chs : (s.modWarnView f).chs = s.chs := rfl
@[simp] theorem State.modWarnView_svs : (s.modWarnView f).svs = s.svs := rfl
@[simp] theorem State.modWarnView_clc : (s.modWarnView f).clc = s.clc := rfl
@[simp] theorem State.modWarnView_lkp : (s.modWarnView f).lkp = s.lkp := rfl
@[simp] theorem State.modWarnView_inputs : (s.modWarnView f).inputs = s.inputs := rfl
@[simp] theorem State.modWarnView_free : (s.modWarnView f).free = s.free := rfl
@[simp] theorem State.modWarnView_pending : (s.modWarnView f).pending = s.pending := rfl
end

/-! ### Tables of records -/

@[simp] theorem updAt_get_same {α : Type} {n : Nat} (v : Vector α n) (i : Fin n) (f : α → α) :
    (updAt v i f)[i] = f v[i] := by simp [updAt]

theorem updAt_get_other {α : Type} {n : Nat} (v : Vector α n) (i j : Fin n) (f : α → α) (h : i ≠ j) :
    (updAt v i f)[j] = v[j] := by
  have : (i : Nat) ≠ j := fun e => h (Fin.ext e)
  simp [updAt, this]

theorem updAt_get {α : Type} {n : Nat} (v : Vector α n) (i j : Fin n) (f : α → α) :
    (updAt v i f)[j] = if i = j then f v[i] else v[j] := by
  by_cases h : i = j
  · subst h; rw [if_pos rfl]; exact updAt_get_same v i f
  · simp [h, updAt_get_other v i j f h]

@[simp] theorem mapAll_get {α β : Type} {n : Nat} (f : α → β) (v : Vector α n) (i : Fin n) :
    (mapAll f v)[i] = f v[i] := by simp [mapAll]

end Sys2Proof.Machine
end

