-- ==== Sys2Proof/Laws/Frames.lean ====
section
/-! SUPPORT. What each shared operation can change: one frame lemma per operation, and the by-products that notices,
marks, chime requests and evaluations leave in the blocks they reach. -/

namespace Sys2Proof.Machine

-- One theorem at a time, so that a build as one text needs few threads.
set_option Elab.async false

/-! ## Composing frames -/

theorem OnlyChanges.refl (ps : List Part) (s : State) : OnlyChanges ps s s := by
  intro p _; cases p <;> rfl

theorem OnlyChanges.mono {ps qs : List Part} {s t : State} (h : OnlyChanges ps s t) (hpq : ps ⊆ qs) :
    OnlyChanges qs s t := fun p hp => h p fun hmem => hp (hpq hmem)

theorem OnlyChanges.trans {ps : List Part} {s t u : State} (h : OnlyChanges ps s t) (k : OnlyChanges ps t u) :
    OnlyChanges ps s u := by
  intro p hp
  have a := h p hp
  have b := k p hp
  cases p <;> exact Eq.trans b a

/-- Two frames in a row, each inside a larger one. -/
theorem OnlyChanges.comp {ps qs rs : List Part} {s t u : State} (h : OnlyChanges ps s t) (k : OnlyChanges qs t u)
    (hp : ps ⊆ rs := by decide) (hq : qs ⊆ rs := by decide) : OnlyChanges rs s u := (h.mono hp).trans (k.mono hq)

/-- Operations taken in a row keep a frame that each of them keeps. -/
theorem OnlyChanges.foldl {α : Type} {ps : List Part} {f : State → α → State} (h : ∀ s a, OnlyChanges ps s (f s a))
    (l : List α) (s : State) : OnlyChanges ps s (l.foldl f s) := by
  induction l generalizing s with
  | nil => exact .refl _ _
  | cons a l ih => exact (h s a).trans (ih _)

theorem eachIx_only {n : Nat} {ps : List Part} {f : Fin n → State → State} (h : ∀ i s, OnlyChanges ps s (f i s))
    (s : State) : OnlyChanges ps s (eachIx n f s) := OnlyChanges.foldl (fun s i => h i s) _ s

section
variable (s : State)
theorem modIgs_only (f) : OnlyChanges [.igs] s (s.modIgs f) := by intro p h; cases p <;> first | rfl | simp at h
theorem modPcu_only (f) : OnlyChanges [.pcu] s (s.modPcu f) := by intro p h; cases p <;> first | rfl | simp at h
theorem modGdu_only (f) : OnlyChanges [.gdu] s (s.modGdu f) := by intro p h; cases p <;> first | rfl | simp at h
theorem modTau_only (f) : OnlyChanges [.tau] s (s.modTau f) := by intro p h; cases p <;> first | rfl | simp at h
theorem modClk_only (f) : OnlyChanges [.clk] s (s.modClk f) := by intro p h; cases p <;> first | rfl | simp at h
theorem modWtb_only (f) : OnlyChanges [.wtb] s (s.modWtb f) := by intro p h; cases p <;> first | rfl | simp at h
theorem modChs_only (f) : OnlyChanges [.chs] s (s.modChs f) := by intro p h; cases p <;> first | rfl | simp at h
theorem modSvs_only (f) : OnlyChanges [.svs] s (s.modSvs f) := by intro p h; cases p <;> first | rfl | simp at h
theorem modClc_only (f) : OnlyChanges [.clc] s (s.modClc f) := by intro p h; cases p <;> first | rfl | simp at h
theorem modLkp_only (f) : OnlyChanges [.lkp] s (s.modLkp f) := by intro p h; cases p <;> first | rfl | simp at h
theorem modInputs_only (f) : OnlyChanges [.inputs] s (s.modInputs f) := by
  intro p h; cases p <;> first | rfl | simp at h
theorem modFree_only (f) : OnlyChanges [.free] s (s.modFree f) := by intro p h; cases p <;> first | rfl | simp at h
theorem modChannel_only (i f) : OnlyChanges [.pcu] s (s.modChannel i f) := modPcu_only s _
theorem modSlot_only (i f) : OnlyChanges [.gdu] s (s.modSlot i f) := modGdu_only s _
theorem modGauge_only (i f) : OnlyChanges [.gdu] s (s.modGauge i f) := modGdu_only s _
theorem modTrip_only (i f) : OnlyChanges [.tau] s (s.modTrip i f) := modTau_only s _
theorem modAlarm_only (i f) : OnlyChanges [.clk] s (s.modAlarm i f) := modClk_only s _
theorem modEntry_only (i f) : OnlyChanges [.wtb] s (s.modEntry i f) := modWtb_only s _
theorem modWarnView_only (f) : OnlyChanges [.wtb] s (s.modWarnView f) := modWtb_only s _
theorem modItem_only (i f) : OnlyChanges [.svs] s (s.modItem i f) := modSvs_only s _
theorem modNode_only (i f) : OnlyChanges [.clc] s (s.modNode i f) := modClc_only s _
end

/-- A handing changes what each of its takers may change, and draws one order. -/
theorem hand_only {ps : List Part} {targets : List Block} {take : Block → State → State}
    (h : ∀ b s, OnlyChanges ps s (take b s)) (s : State) : OnlyChanges (.free :: ps) s (hand targets take s) :=
  OnlyChanges.trans ((modFree_only s _).mono (by simp))
    (OnlyChanges.mono (OnlyChanges.foldl (fun s b => h b s) _ _) (List.subset_cons_self _ _))

/-! ## Link Port and mirror marks -/

section
variable (s : State)
theorem notify_only (n) : OnlyChanges [.lkp] s (s.notify n) := modLkp_only s _
theorem mark_only (i) : OnlyChanges [.clc] s (mark i s) := modClc_only s _
theorem takeRequest_only : OnlyChanges [.lkp] s (takeRequest s) := modLkp_only s _
theorem sealReplies_only : OnlyChanges [.lkp] s (sealReplies s) := modLkp_only s _

theorem reply_only (e k t r) : OnlyChanges [.lkp] s (s.reply e k t r) := by
  unfold State.reply; split
  · exact modLkp_only s _
  · exact .refl _ _

theorem startTransmitter_only : OnlyChanges [.lkp] s (startTransmitter s) := by
  unfold startTransmitter; split
  · split
    · exact modLkp_only s _
    · exact modLkp_only s _
    · exact .refl _ _
  · exact .refl _ _

theorem receiverRefusal_only (r k t) : OnlyChanges [.lkp] s (receiverRefusal r k t s) := by
  unfold receiverRefusal; split
  · exact reply_only s _ _ _ _
  · exact modLkp_only s _

end

/-- Taking a notice changes the queue and the notices-lost marker alone. -/
theorem Lkp.takeNotice_keeps (n : Notice) (l : Lkp) :
    { l.takeNotice n with notices := l.notices, noticesLost := l.noticesLost, lostSets := l.lostSets } = l := by
  unfold Lkp.takeNotice Lkp.setNoticesLost; split_ifs <;> rfl

theorem Clc.appendPair_keeps (i : MirrorItem) (n : NodeIx) (c : Clc) :
    { c.appendPair i n with mirrorQueue := c.mirrorQueue } = c := by
  unfold Clc.appendPair; split_ifs <;> rfl

/-- Two operations in a row that change the mirror queue alone do so together. -/
theorem Clc.keeps_trans {a b c : Clc} (h : { b with mirrorQueue := a.mirrorQueue } = a)
    (k : { c with mirrorQueue := b.mirrorQueue } = b) : { c with mirrorQueue := a.mirrorQueue } = a := by
  cases a; cases b; cases c; simp_all

theorem Clc.mark_keeps (i : MirrorItem) (c : Clc) : { c.mark i with mirrorQueue := c.mirrorQueue } = c := by
  unfold Clc.mark
  generalize List.finRange 6 = l
  induction l generalizing c with
  | nil => rfl
  | cons n l ih =>
    refine Clc.keeps_trans (b := if c.nodes[n].shows i then c.appendPair i n else c) ?_ (ih _)
    split_ifs
    · exact Clc.appendPair_keeps i n c
    · rfl

theorem Clc.markWhole_keeps (n : NodeIx) (c : Clc) : { c.markWhole n with mirrorQueue := c.mirrorQueue } = c := by
  unfold Clc.markWhole
  generalize MirrorItem.all = l
  induction l generalizing c with
  | nil => rfl
  | cons i l ih =>
    refine Clc.keeps_trans (b := if c.nodes[n].shows i then c.appendPair i n else c) ?_ (ih _)
    split_ifs
    · exact Clc.appendPair_keeps i n c
    · rfl

/-- What a mark does for one slot. -/
abbrev Clc.markFor (i : MirrorItem) (c : Clc) (n : NodeIx) : Clc := if c.nodes[n].shows i then c.appendPair i n else c

/-- One slot's mark changes neither the slots nor the line, and keeps every pair that waits (R155). -/
theorem Clc.markFor_holds (i : MirrorItem) (c : Clc) (n : NodeIx) : (c.markFor i n).nodes = c.nodes ∧
    (c.markFor i n).line = c.line ∧ c.mirrorQueue ⊆ (c.markFor i n).mirrorQueue := by
  unfold Clc.markFor Clc.appendPair; split_ifs
  · exact ⟨rfl, rfl, List.subset_append_left _ _⟩
  all_goals exact ⟨rfl, rfl, List.Subset.refl _⟩

/-- The marks of several slots keep every pair that waits (R155). -/
theorem Clc.markFor_foldl_holds (i : MirrorItem) (l : List NodeIx) (c : Clc) :
    c.mirrorQueue ⊆ (l.foldl (Clc.markFor i) c).mirrorQueue := by
  induction l generalizing c with
  | nil => exact List.Subset.refl _
  | cons n l ih => exact List.Subset.trans (Clc.markFor_holds i c n).2.2 (ih _)

/-- The marks of several slots leave the pair of each that is PRESENT and shows the item, on a line that takes them. -/
theorem Clc.markFor_foldl_marks (i : MirrorItem) (l : List NodeIx) (c : Clc) (up : c.line.up = true) (n : NodeIx)
    (mem : n ∈ l) (st : c.nodes[n].state = .present) (set : c.nodes[n].shows i = true) :
    (n, i) ∈ (l.foldl (Clc.markFor i) c).mirrorQueue := by
  induction l generalizing c with
  | nil => cases mem
  | cons m l ih =>
    obtain ⟨nodes, line, -⟩ := Clc.markFor_holds i c m
    rcases List.mem_cons.mp mem with rfl | later
    · refine Clc.markFor_foldl_holds i l _ ?_
      unfold Clc.markFor Clc.appendPair; split_ifs <;> simp_all
    · exact ih _ (by rw [line]; exact up) later (by simp only [nodes]; exact st) (by simp only [nodes]; exact set)

/-- A mark keeps every pair that waits (R155). -/
theorem mark_holds (i : MirrorItem) (s : State) : s.clc.mirrorQueue ⊆ (mark i s).clc.mirrorQueue :=
  Clc.markFor_foldl_holds i _ _

/-- A mark leaves the pair of every PRESENT slot that shows the item, on a line that takes marks (R154). -/
theorem marked_mark (i : MirrorItem) (s : State) : Marked i s (mark i s) := fun up n st set =>
  Clc.markFor_foldl_marks i _ _ (by rcases up with h | h <;> rw [h] <;> rfl) n (List.mem_finRange n) st set

/-! ## By-products

What notices, marks, chime requests, removals and evaluations leave behind: the configuration and the inputs of every
block they reach stay as they are. -/

/-- Between two states only these change: an entry's state, timers, flags and memory; the chime queue and the player; the
mirror queue; the notice queue with its marker. -/
structure ByProducts (s t : State) : Prop where
  frame : OnlyChanges [.wtb, .chs, .clc, .lkp] s t
  wtb : { t.wtb with entries := s.wtb.entries } = s.wtb
  cfg : ∀ w : EntryIx, t.wtb.entries[w].cfg = s.wtb.entries[w].cfg
  chs : { t.chs with queue := s.chs.queue, nextArrival := s.chs.nextArrival, player := s.chs.player } = s.chs
  clc : { t.clc with mirrorQueue := s.clc.mirrorQueue } = s.clc
  lkp : { t.lkp with notices := s.lkp.notices, noticesLost := s.lkp.noticesLost, lostSets := s.lkp.lostSets } = s.lkp

namespace ByProducts

theorem refl (s : State) : ByProducts s s := ⟨.refl _ _, rfl, fun _ => rfl, rfl, rfl, rfl⟩

theorem trans {s t u : State} (h : ByProducts s t) (k : ByProducts t u) : ByProducts s u where
  frame := h.frame.trans k.frame
  wtb := by have a := h.wtb; have b := k.wtb; rw [← b] at a; exact a
  cfg := fun w => (k.cfg w).trans (h.cfg w)
  chs := by have a := h.chs; have b := k.chs; rw [← b] at a; exact a
  clc := Clc.keeps_trans h.clc k.clc
  lkp := by have a := h.lkp; have b := k.lkp; rw [← b] at a; exact a

/-- Operations in a row that leave by-products alone do so together. -/
theorem foldl {α : Type} {f : State → α → State} (h : ∀ s a, ByProducts s (f s a)) (l : List α) (s : State) :
    ByProducts s (l.foldl f s) := by
  induction l generalizing s with
  | nil => exact .refl _
  | cons a l ih => exact (h s a).trans (ih _)

theorem eachIx {n : Nat} {f : Fin n → State → State} (h : ∀ i s, ByProducts s (f i s)) (s : State) :
    ByProducts s (Machine.eachIx n f s) := foldl (fun s i => h i s) _ s

theorem notify (n : Notice) (s : State) : ByProducts s (s.notify n) :=
  ⟨(notify_only s n).mono (by decide), rfl, fun _ => rfl, rfl, rfl, Lkp.takeNotice_keeps n s.lkp⟩

theorem mark (i : MirrorItem) (s : State) : ByProducts s (Machine.mark i s) :=
  ⟨(mark_only s i).mono (by decide), rfl, fun _ => rfl, rfl, Clc.mark_keeps i s.clc, rfl⟩

/-- A change of an entry that keeps its configuration. -/
theorem modEntry (w : EntryIx) {f : Entry → Entry} (s : State) (hf : ∀ e, (f e).cfg = e.cfg := by intro _; rfl) :
    ByProducts s (s.modEntry w f) := by
  refine ⟨(modEntry_only s w f).mono (by decide), rfl, fun v => ?_, rfl, rfl, rfl⟩
  by_cases h : v = w
  · subst h; simp [State.modEntry, updAt, hf]
  · have : w.val ≠ v.val := fun e => h (Fin.ext e.symm)
    simp [State.modEntry, updAt, this]

/-- A change of the CHS that keeps its patterns, its privacy flag and its power state. -/
theorem modChs {f : Chs → Chs} (s : State)
    (hf : { f s.chs with queue := s.chs.queue, nextArrival := s.chs.nextArrival, player := s.chs.player } = s.chs) :
    ByProducts s (s.modChs f) := ⟨(modChs_only s f).mono (by decide), rfl, fun _ => rfl, hf, rfl, rfl⟩

end ByProducts

end Sys2Proof.Machine
end

