-- ==== Sys2Proof/Laws/ByProducts.lean ====
section
/-! SUPPORT. The operations that leave by-products alone: chime requests, removals and ends, acknowledgments, evaluations,
and every change the WTB takes. -/

namespace Sys2Proof.Machine

-- One theorem at a time, so that a build as one text needs few threads.
set_option Elab.async false

/-! ## The Chime Sequencer -/

/-- A CHS that differs in its queue, its arrival count and its player alone. -/
abbrev Chs.Keeps (c d : Chs) : Prop :=
  { d with queue := c.queue, nextArrival := c.nextArrival, player := c.player } = c

theorem Chs.Keeps.trans {a b c : Chs} (h : a.Keeps b) (k : b.Keeps c) : a.Keeps c := by
  unfold Chs.Keeps at *; rw [← k] at h; exact h

theorem Chs.enqueue_keeps (r : ChimeRequest) (c : Chs) : c.Keeps (c.enqueue r) := rfl

theorem Chs.drop_keeps (src : ChimeSource) (c : Chs) : c.Keeps (c.drop src) := rfl

theorem Chs.start_keeps (r : ChimeRequest) (i : Nat) (c : Chs) : c.Keeps (c.start r i) := rfl

theorem Chs.setPasses_keeps (src : ChimeSource) (p : Passes) (c : Chs) : c.Keeps (c.setPasses src p) := rfl

theorem Chs.choose_keeps (c : Chs) : c.Keeps c.choose := by
  unfold Chs.choose; split_ifs
  · rfl
  · split <;> rfl

theorem Chs.chooseIfSilent_keeps (c : Chs) : c.Keeps c.chooseIfSilent := by
  unfold Chs.chooseIfSilent; split_ifs
  · exact c.choose_keeps
  · rfl

theorem Chs.chooseAfter_keeps (src : ChimeSource) (i : Nat) (c : Chs) : c.Keeps (c.chooseAfter src i) := by
  unfold Chs.chooseAfter; split_ifs
  · rfl
  · split
    · split_ifs <;> rfl
    · rfl

theorem Chs.remove_keeps (src : ChimeSource) (c : Chs) : c.Keeps (c.remove src) := by
  unfold Chs.remove; split_ifs
  · exact Chs.Keeps.trans (c.drop_keeps src) (Chs.choose_keeps _)
  · exact c.drop_keeps src

namespace ByProducts

theorem wtbRequestEnd (w : EntryIx) (s : State) : ByProducts s (Machine.wtbRequestEnd w s) := by
  unfold Machine.wtbRequestEnd; split_ifs
  · split
    · exact .modEntry w s
    · exact .refl s
  · exact .refl s

theorem handEnd (o : ChimeOutcome) (r : ChimeRequest) (s : State) : ByProducts s (Machine.handEnd o r s) := by
  unfold Machine.handEnd; split
  · exact .wtbRequestEnd _ s
  · split
    · exact .notify _ s
    · exact .refl s
  · exact .refl s
  · exact .refl s

theorem handNotQueued (src : ChimeSource) (s : State) : ByProducts s (Machine.handNotQueued src s) := by
  unfold Machine.handNotQueued; split
  · exact .wtbRequestEnd _ s
  · exact .refl s
  · exact .refl s
  · exact .refl s

theorem takeChime (r : ChimeRequest) (s : State) : ByProducts s (Machine.takeChime r s).1 := by
  unfold Machine.takeChime; split
  · split_ifs <;> dsimp only
    · refine (ByProducts.handEnd _ _ s).trans (.modChs _ ?_)
      dsimp only
      split_ifs
      · exact Chs.Keeps.trans (Chs.Keeps.trans (Chs.drop_keeps _ _) (Chs.enqueue_keeps r _)) (Chs.choose_keeps _)
      · exact Chs.Keeps.trans (Chs.Keeps.trans (Chs.drop_keeps _ _) (Chs.enqueue_keeps r _)) (Chs.chooseIfSilent_keeps _)
    · exact .refl s
  · split_ifs
    · exact ByProducts.modChs (f := fun c => (c.enqueue r).chooseIfSilent) s
        (Chs.Keeps.trans (Chs.enqueue_keeps r s.chs) (Chs.chooseIfSilent_keeps _))
    · split
      · split_ifs <;> dsimp only
        · exact (ByProducts.handEnd _ _ s).trans (.modChs _ (Chs.Keeps.trans
            (Chs.Keeps.trans (Chs.drop_keeps _ _) (Chs.enqueue_keeps r _)) (Chs.chooseIfSilent_keeps _)))
        · exact .handNotQueued _ s
      · exact .handNotQueued _ s

theorem removeChime (src : ChimeSource) (s : State) : ByProducts s (Machine.removeChime src s) :=
  .modChs s (Chs.remove_keeps src s.chs)

theorem segmentEnd (s : State) : ByProducts s (Machine.segmentEnd s) := by
  unfold Machine.segmentEnd; split
  · split_ifs
    · exact .modChs s (Chs.chooseAfter_keeps _ _ _)
    · split
      · exact .modChs s (Chs.chooseAfter_keeps _ _ _)
      · split_ifs
        · exact (ByProducts.modChs s ((Chs.drop_keeps _ _).trans (Chs.choose_keeps _))).trans (.handEnd _ _ _)
        · exact .modChs s ((Chs.setPasses_keeps _ _ _).trans (Chs.chooseAfter_keeps _ _ _))
  · exact .refl s

/-! ## The Warning Table -/

theorem reportEntry (w : EntryIx) (old new : EntryState) (s : State) :
    ByProducts s (Machine.reportEntry w old new s) := by
  unfold Machine.reportEntry; split_ifs
  · exact (ByProducts.notify _ s).trans (.mark _ _)
  · exact .notify _ s

theorem handWarningChime (w : EntryIx) (s : State) : ByProducts s (Machine.handWarningChime w s) := by
  unfold Machine.handWarningChime; split
  · exact .takeChime _ s
  · exact .refl s

theorem enterActive (w : EntryIx) (s : State) : ByProducts s (Machine.enterActive w s) :=
  ((ByProducts.modEntry w s).trans (.handWarningChime w _)).trans (.reportEntry w _ _ _)

theorem leaveActive (w : EntryIx) (new : EntryState) (s : State) : ByProducts s (Machine.leaveActive w new s) :=
  ((ByProducts.modEntry w s).trans (.removeChime _ _)).trans (.reportEntry w _ _ _)

theorem enterPending (w : EntryIx) (s : State) : ByProducts s (Machine.enterPending w s) :=
  (ByProducts.modEntry w s).trans (.reportEntry w _ _ _)

theorem enterIdle (w : EntryIx) (s : State) : ByProducts s (Machine.enterIdle w s) :=
  (ByProducts.modEntry w s).trans (.reportEntry w _ _ _)

theorem moveEntry (w : EntryIx) (b : Bool) (s : State) : ByProducts s (Machine.moveEntry w b s) := by
  unfold Machine.moveEntry; split
  · split_ifs
    · exact .enterActive w s
    · exact .enterPending w s
  · exact .enterIdle w s
  · exact .leaveActive w _ s
  · exact .enterIdle w s
  · exact .enterActive w s
  all_goals exact .refl s

theorem evaluateEntry (w : EntryIx) (s : State) : ByProducts s (Machine.evaluateEntry w s) := by
  unfold Machine.evaluateEntry; dsimp only; split_ifs
  · exact .refl s
  · exact (ByProducts.modEntry w s).trans (.moveEntry w _ _)

theorem evaluateWhere (test : EntryConfig → Bool) (s : State) : ByProducts s (Machine.evaluateWhere test s) := by
  refine ByProducts.eachIx (fun w s => ?_) s
  split_ifs
  · exact .evaluateEntry w s
  · exact .refl s

theorem clearArrival (w : EntryIx) (s : State) : ByProducts s (Machine.clearArrival w s) := by
  unfold Machine.clearArrival; split_ifs
  · exact (ByProducts.modEntry w s).trans (.moveEntry w _ _)
  · exact .refl s

theorem acknowledgeEntry (w : EntryIx) (s : State) : ByProducts s (Machine.acknowledgeEntry w s).1 := by
  unfold Machine.acknowledgeEntry; split
  · exact (ByProducts.leaveActive w _ s).trans (.clearArrival w _)
  · exact (ByProducts.enterIdle w s).trans (.clearArrival w _)
  all_goals exact .refl s

theorem acknowledgeWhere (test : EntryIx → EntryConfig → Bool) (s : State) :
    ByProducts s (Machine.acknowledgeWhere test s).1 := by
  unfold Machine.acknowledgeWhere
  suffices h : ∀ (l : List EntryIx) (p : State × Nat), ByProducts p.1 (l.foldl (fun (p : State × Nat) w =>
      if test w p.1.wtb.entries[w].cfg then
        let q := Machine.acknowledgeEntry w p.1
        (q.1, p.2 + q.2.toNat)
      else p) p).1 from h _ (s, 0)
  intro l
  induction l with
  | nil => exact fun p => .refl p.1
  | cons w l ih =>
    intro p
    rw [List.foldl_cons]
    refine ByProducts.trans ?_ (ih _)
    split_ifs
    · exact .acknowledgeEntry w p.1
    · exact .refl p.1

theorem parkEntry (w : EntryIx) (s : State) : ByProducts s (Machine.parkEntry w s) := by
  unfold Machine.parkEntry
  dsimp only
  refine ByProducts.trans ?_ (.modEntry w _)
  split
  · exact .leaveActive w _ s
  · exact .enterIdle w s
  · exact .enterIdle w s
  · exact .enterIdle w s
  · exact .refl s

/-- A change the WTB takes: its copies change as given, the rest are by-products. -/
theorem wtbTake (f : WarnView → WarnView) (test : EntryConfig → Bool) (s : State) :
    ByProducts (s.modWarnView f) (Machine.wtbTake f test s) := .evaluateWhere test _

theorem wtbSwitch (n : SwitchIx) (s : State) : ByProducts s (Machine.wtbSwitch n s) := .evaluateWhere _ s

theorem wtbArrival (s : State) : ByProducts s (Machine.wtbArrival s) := by
  unfold Machine.wtbArrival; dsimp only
  refine ByProducts.trans ?_ (.evaluateWhere _ _)
  refine ⟨(modWtb_only s _).mono (by decide), by rw [State.modWtb_wtb], fun w => ?_, by rw [State.modWtb_chs],
    by rw [State.modWtb_clc], by rw [State.modWtb_lkp]⟩
  simp only [State.modWtb_wtb, mapAll, Fin.getElem_fin, Vector.getElem_ofFn]
  split_ifs <;> rfl

end ByProducts

/-- What a change the WTB takes does to its copies. -/
theorem wtbTake_view (f : WarnView → WarnView) (test : EntryConfig → Bool) (s : State) :
    (wtbTake f test s).wtb.view = f s.wtb.view :=
  congrArg Wtb.view (ByProducts.wtbTake f test s).wtb

/-- A change the WTB takes reaches the WTB, the CHS, the CLC and the LKP alone. -/
theorem wtbTake_only (f : WarnView → WarnView) (test : EntryConfig → Bool) (s : State) :
    OnlyChanges [.wtb, .chs, .clc, .lkp] s (wtbTake f test s) :=
  (modWarnView_only s f).comp (ByProducts.wtbTake f test s).frame

end Sys2Proof.Machine
end

