-- ==== Sys2Proof/Laws/Blocks.lean ====
section
/-! SUPPORT. The frame of every operation of the blocks: service items, gauges, trips, the clock, pulses, reports, the
Coach Line and the ignition. -/

namespace Sys2Proof.Machine

-- One theorem at a time, so that a build as one text needs few threads.
set_option Elab.async false

/-- The parts that by-products reach. -/
theorem ByProducts.only {s t : State} (h : ByProducts s t) : OnlyChanges [.wtb, .chs, .clc, .lkp] s t := h.frame

section
variable (s : State)

/-! ## What the other blocks hand the WTB -/

theorem wtbChannel_only (ch st e r) : OnlyChanges [.wtb, .chs, .clc, .lkp] s (wtbChannel ch st e r s) := by
  unfold wtbChannel; exact wtbTake_only _ _ s
theorem wtbRoadLive_only (r) : OnlyChanges [.wtb, .chs, .clc, .lkp] s (wtbRoadLive r s) := by
  unfold wtbRoadLive; exact wtbTake_only _ _ s
theorem wtbWindow_only (x) : OnlyChanges [.wtb, .chs, .clc, .lkp] s (wtbWindow x s) := by
  unfold wtbWindow; exact wtbTake_only _ _ s
theorem wtbDisagree_only (b) : OnlyChanges [.wtb, .chs, .clc, .lkp] s (wtbDisagree b s) := by
  unfold wtbDisagree; exact wtbTake_only _ _ s
theorem wtbImplausible_only (b) : OnlyChanges [.wtb, .chs, .clc, .lkp] s (wtbImplausible b s) := by
  unfold wtbImplausible; exact wtbTake_only _ _ s
theorem wtbSlot_only (n st v) : OnlyChanges [.wtb, .chs, .clc, .lkp] s (wtbSlot n st v s) := by
  unfold wtbSlot; exact wtbTake_only _ _ s
theorem wtbRange_only (r) : OnlyChanges [.wtb, .chs, .clc, .lkp] s (wtbRange r s) := by
  unfold wtbRange; exact wtbTake_only _ _ s
theorem wtbOdometer_only (o) : OnlyChanges [.wtb, .chs, .clc, .lkp] s (wtbOdometer o s) := by
  unfold wtbOdometer; exact wtbTake_only _ _ s
theorem wtbClock_only (c) : OnlyChanges [.wtb, .chs, .clc, .lkp] s (wtbClock c s) := by
  unfold wtbClock; exact wtbTake_only _ _ s
theorem wtbItem_only (i st) : OnlyChanges [.wtb, .chs, .clc, .lkp] s (wtbItem i st s) := by
  unfold wtbItem; exact wtbTake_only _ _ s
theorem wtbNode_only (n st) : OnlyChanges [.wtb, .chs, .clc, .lkp] s (wtbNode n st s) := by
  unfold wtbNode; exact wtbTake_only _ _ s
theorem wtbLine_only (st) : OnlyChanges [.wtb, .chs, .clc, .lkp] s (wtbLine st s) := by
  unfold wtbLine; exact wtbTake_only _ _ s
theorem wtbCrank_only (p) : OnlyChanges [.wtb, .chs, .clc, .lkp] s (wtbCrank p s) := by
  unfold wtbCrank; exact wtbTake_only _ _ s
theorem wtbArrival_only : OnlyChanges [.wtb, .chs, .clc, .lkp] s (wtbArrival s) := (ByProducts.wtbArrival s).only

/-! ## Service Schedule -/

theorem decideItem_only (i) : OnlyChanges [.svs, .wtb, .chs, .clc, .lkp] s (decideItem i s) := by
  unfold decideItem; dsimp only; split_ifs
  · exact .refl _ _
  · exact ((modItem_only s i _).comp (notify_only _ _) : OnlyChanges [.svs, .lkp] _ _).comp (wtbItem_only _ _ _)

theorem changeItem_only (i f) : OnlyChanges [.svs, .wtb, .chs, .clc, .lkp] s (changeItem i f s) :=
  (modItem_only s i f).comp (decideItem_only _ i)

theorem countItems_only (down) : OnlyChanges [.svs, .wtb, .chs, .clc, .lkp] s (countItems down s) := by
  refine eachIx_only (fun i s => ?_) s
  split_ifs
  · exact changeItem_only s i down
  · exact .refl _ _

/-! ## Gauges -/

theorem gduReport_only (n) : OnlyChanges [.gdu] s (gduReport n s) := modGdu_only s _
theorem gduSlotState_only (n) : OnlyChanges [.gdu] s (gduSlotState n s) := modGdu_only s _
theorem gduRefuel_only : OnlyChanges [.gdu] s (gduRefuel s) := by
  unfold gduRefuel; split
  · exact modGdu_only s _
  · exact .refl _ _
theorem gduChannel_only (ch st) : OnlyChanges [.gdu] s (gduChannel ch st s) := modGdu_only s _
theorem gduWindow_only (x) : OnlyChanges [.gdu] s (gduWindow x s) := modGdu_only s _

theorem endParking_only : OnlyChanges [.gdu, .lkp] s (endParking s) := by
  unfold endParking; split_ifs
  · exact (modGdu_only s _).comp (notify_only _ _)
  · exact .refl _ _

theorem endSweep_only : OnlyChanges [.gdu, .lkp] s (endSweep s) := by
  unfold endSweep; split_ifs
  · exact (modGdu_only s _).comp (notify_only _ _)
  · exact .refl _ _

theorem needleStep_only (g) : OnlyChanges [.gdu, .lkp] s (needleStep g s) := by
  unfold needleStep; dsimp only; split
  · split_ifs
    · exact ((modGauge_only s g _).comp (endSweep_only _) : OnlyChanges [.gdu, .lkp] _ _).comp (endParking_only _)
    · exact .refl _ _
  · exact .refl _ _

theorem homingEnd_only (g) : OnlyChanges [.gdu, .lkp] s (homingEnd g s) := by
  unfold homingEnd; dsimp only; split_ifs
  · exact (modGdu_only s _).mono (by decide)
  · exact (modGdu_only s _).comp (notify_only _ _)
  · exact .refl _ _

theorem startSweep_only : OnlyChanges [.gdu] s (startSweep s) := modGdu_only s _
theorem gduRunEntry_only : OnlyChanges [.gdu] s (gduRunEntry s) := modGdu_only s _
theorem gduParkedEntry_only : OnlyChanges [.gdu, .lkp] s (gduParkedEntry s) :=
  (modGdu_only s _).comp (endParking_only _)
theorem gduCrank_only (p) : OnlyChanges [.gdu] s (gduCrank p s) := modGdu_only s _

/-! ## Trips -/

theorem recomputeRange_only : OnlyChanges [.tau, .wtb, .chs, .clc, .lkp] s (recomputeRange s) := by
  unfold recomputeRange; split_ifs
  · exact .refl _ _
  · exact (modTau_only s _).comp (wtbRange_only _ _)

theorem takeLevel_only : OnlyChanges [.tau] s (takeLevel s) := modTau_only s _

theorem emptyRing_only : OnlyChanges [.tau, .wtb, .chs, .clc, .lkp] s (emptyRing s) :=
  ((modTau_only s _).comp (recomputeRange_only _) : OnlyChanges [.tau, .wtb, .chs, .clc, .lkp] _ _).comp (mark_only _ _)

theorem bucketDistance_only : OnlyChanges [.tau, .wtb, .chs, .clc, .lkp] s (bucketDistance s) := by
  unfold bucketDistance; dsimp only; split_ifs
  · exact (modTau_only s _).mono (by decide)
  · exact ((modTau_only s _).comp (recomputeRange_only _) : OnlyChanges [.tau, .wtb, .chs, .clc, .lkp] _ _).comp
      (mark_only _ _)

theorem tripNotice_only (t w) : OnlyChanges [.lkp] s (tripNotice t w s) := notify_only s _

theorem tripDistance_only (t) : OnlyChanges [.tau, .clc, .lkp] s (tripDistance t s) := by
  have h := modTrip_only s t fun x => { x with distance := countUp Config.maxTripDistance s.tau.trips[t].distance }
  unfold tripDistance; dsimp only; split_ifs
  · exact (h.comp (mark_only _ _) : OnlyChanges [.tau, .clc] _ _).comp (tripNotice_only _ _ _)
  · exact h.comp (tripNotice_only _ _ _)
  · exact h.comp (mark_only _ _)
  · exact h.mono (by decide)
  · exact .refl _ _

theorem tripFuel_only (t) : OnlyChanges [.tau, .lkp] s (tripFuel t s) := by
  unfold tripFuel; dsimp only; split_ifs
  · exact (modTrip_only s t _).comp (tripNotice_only _ _ _)
  · exact (modTrip_only s t _).mono (by decide)
  · exact .refl _ _

theorem tripSecond_only (t) : OnlyChanges [.tau, .clc, .lkp] s (tripSecond t s) := by
  unfold tripSecond; dsimp only
  generalize hf : (fun x : Trip => { x with
    running := countUp Config.maxSeconds s.tau.trips[t].running
    moving := if s.tau.roadLive then countUp Config.maxSeconds x.moving else x.moving }) = f
  split_ifs
  · exact ((modTrip_only s t _).comp (mark_only _ _) : OnlyChanges [.tau, .clc] _ _).comp (tripNotice_only _ _ _)
  · exact (modTrip_only s t _).comp (tripNotice_only _ _ _)
  · exact (modTrip_only s t _).comp (mark_only _ _)
  · exact (modTrip_only s t _).mono (by decide)
  · exact .refl _ _

theorem resetTrip_only (t b) : OnlyChanges [.tau, .clc] s (resetTrip t b s) := by
  unfold resetTrip; dsimp only; split_ifs
  · exact (modTrip_only s t _).comp (mark_only _ _)
  · exact (modTrip_only s t _).mono (by decide)

theorem destinationUnit_only : OnlyChanges [.tau, .wtb, .chs, .clc, .lkp] s (destinationUnit s) := by
  unfold destinationUnit; split
  · split_ifs
    · exact (((modTau_only s _).comp (mark_only _ _) : OnlyChanges [.tau, .clc] _ _).comp
        (wtbArrival_only _) : OnlyChanges [.tau, .wtb, .chs, .clc, .lkp] _ _).comp (notify_only _ _)
    · exact (modTau_only s _).comp (mark_only _ _)
  · exact .refl _ _

theorem tauDistance_only : OnlyChanges [.tau, .svs, .wtb, .chs, .clc, .lkp] s (tauDistance s) := by
  unfold tauDistance
  have h1 : OnlyChanges [.tau, .clc, .lkp] s (eachIx 4 tripDistance (odometerUnit s)) :=
    (modTau_only s _).comp (eachIx_only (fun t s => tripDistance_only s t) _)
  have h2 := (h1.comp (bucketDistance_only _) : OnlyChanges [.tau, .wtb, .chs, .clc, .lkp] _ _)
  have h3 := (h2.comp (destinationUnit_only _) : OnlyChanges [.tau, .wtb, .chs, .clc, .lkp] _ _)
  exact h3.comp (countItems_only _ _)

theorem tauFuel_frame : OnlyChanges [.tau, .lkp] s (eachIx 4 tripFuel s) := eachIx_only (fun t s => tripFuel_only s t) s
theorem tauWindow_only (v) : OnlyChanges [.tau] s (tauWindow v s) := modTau_only s _
theorem tauEngine_only (b) : OnlyChanges [.tau] s (tauEngine b s) := modTau_only s _

theorem tauRoadLive_only (b) : OnlyChanges [.tau] s (tauRoadLive b s) := by
  unfold tauRoadLive; dsimp only; split_ifs
  · exact (modTau_only s _).comp (takeLevel_only _)
  · exact modTau_only s _

theorem engineSecond_only : OnlyChanges [.tau, .svs, .wtb, .chs, .clc, .lkp] s (engineSecond s) := by
  unfold engineSecond; split_ifs
  · exact (modTau_only s _).mono (by decide)
  · exact (modTau_only s _).comp (countItems_only _ _)
  · exact .refl _ _

theorem tauSecond_only : OnlyChanges [.tau, .svs, .wtb, .chs, .clc, .lkp] s (tauSecond s) := by
  unfold tauSecond; dsimp only; split_ifs
  · exact engineSecond_only s
  · exact ((engineSecond_only s).comp (eachIx_only (fun t s => tripSecond_only s t) _) :
      OnlyChanges [.tau, .svs, .wtb, .chs, .clc, .lkp] _ _).comp (modTau_only _ _)

theorem refuel_only (a b) : OnlyChanges [.gdu, .tau, .clc, .lkp] s (refuel a b s) :=
  (((resetTrip_only s 2 .auto).comp (tripNotice_only _ _ _) : OnlyChanges [.tau, .clc, .lkp] _ _).comp (notify_only _ _) :
    OnlyChanges [.tau, .clc, .lkp] _ _).comp (gduRefuel_only _)

theorem testRefuel_only (a) : OnlyChanges [.gdu, .tau, .clc, .lkp] s (testRefuel a s) := by
  unfold testRefuel; split
  · split_ifs
    · exact .refl _ _
    · exact (refuel_only s _ a).comp (modTau_only _ _)
    · exact (modTau_only s _).mono (by decide)
  · exact .refl _ _

theorem tauReport_only (n) : OnlyChanges [.gdu, .tau, .wtb, .chs, .clc, .lkp] s (tauReport n s) := by
  unfold tauReport; split_ifs
  · exact (testRefuel_only s _).comp (recomputeRange_only _)
  · exact .refl _ _

theorem tauSlotState_only (n) : OnlyChanges [.tau, .wtb, .chs, .clc, .lkp] s (tauSlotState n s) := by
  unfold tauSlotState; split_ifs
  · exact recomputeRange_only s
  · exact .refl _ _

theorem tauPower_only (p) : OnlyChanges [.tau] s (tauPower p s) := modTau_only s _

/-! ## Clock -/

theorem handClockState_only (c) : OnlyChanges [.wtb, .chs, .clc, .lkp] s (handClockState c s) :=
  (modLkp_only s _).comp (wtbClock_only _ c)

theorem setClockTo_only (t) : OnlyChanges [.clk, .wtb, .chs, .clc, .lkp] s (setClockTo t s) := by
  unfold setClockTo; dsimp only; split_ifs
  · exact ((modClk_only s _).comp (handClockState_only _ _) : OnlyChanges [.clk, .wtb, .chs, .clc, .lkp] _ _).comp
      (mark_only _ _)
  · exact (modClk_only s _).comp (mark_only _ _)

theorem markAlarm_only (a) : OnlyChanges [.clc] s (markAlarm a s) := by
  unfold markAlarm; split_ifs
  · exact mark_only s _
  · exact .refl _ _

theorem alarmMatch_only (a) : OnlyChanges [.clk, .wtb, .chs, .clc, .lkp] s (alarmMatch a s) := by
  have h : OnlyChanges [.wtb, .chs, .clc, .lkp] s
      (((takeChime (alarmRequest s.chs a s.clk.alarms[a]) s).1).notify (.alarm a)) :=
    ((ByProducts.takeChime _ s).trans (.notify _ _)).only
  unfold alarmMatch; dsimp only; split_ifs
  · exact (h.comp (modAlarm_only _ a _) : OnlyChanges [.clk, .wtb, .chs, .clc, .lkp] _ _).comp (markAlarm_only _ a)
  · exact h.mono (by decide)

theorem testAlarms_only (t) : OnlyChanges [.clk, .wtb, .chs, .clc, .lkp] s (testAlarms t s) := by
  refine eachIx_only (fun a s => ?_) s
  split_ifs
  · exact alarmMatch_only s a
  · exact .refl _ _

theorem changeAlarm_only (a f) : OnlyChanges [.clk, .chs, .clc] s (changeAlarm a f s) :=
  ((modAlarm_only s a f).comp (modChs_only _ _) : OnlyChanges [.clk, .chs] _ _).comp (markAlarm_only _ a)

theorem takeSecond_only (t c r b) : OnlyChanges [.clk, .tau, .svs, .wtb, .chs, .clc, .lkp] s (takeSecond t c r b s) := by
  cases b
  case tau => exact (tauSecond_only s).mono (by decide)
  case clk =>
    unfold takeSecond; dsimp only; split_ifs
    · exact (testAlarms_only s t).mono (by decide)
    · exact .refl _ _
  case clc =>
    unfold takeSecond; dsimp only; split_ifs
    · exact (mark_only s _).mono (by decide)
    · exact .refl _ _
  case svs =>
    unfold takeSecond; dsimp only; split_ifs
    · exact (countItems_only s _).mono (by decide)
    · exact .refl _ _
  case wtb =>
    unfold takeSecond; dsimp only; split_ifs
    · exact (wtbClock_only s c).mono (by decide)
    · exact .refl _ _
  case lkp =>
    unfold takeSecond; dsimp only; split_ifs
    · exact (modLkp_only s _).mono (by decide)
    · exact .refl _ _
  all_goals exact .refl _ _

theorem secondBoundary_only : OnlyChanges [.clk, .tau, .svs, .wtb, .chs, .clc, .lkp, .free] s (secondBoundary s) :=
  (modClk_only s _).comp (hand_only (fun b s => takeSecond_only s _ _ _ b) _)

/-! ## Pulses -/

theorem clcRoadLive_only (b) : OnlyChanges [.clc] s (clcRoadLive b s) := by
  unfold clcRoadLive; split_ifs
  · exact .refl _ _
  · exact (modClc_only s _).comp (mark_only _ _)

theorem takeChannel_only (ch st e r b) :
    OnlyChanges [.gdu, .tau, .svs, .wtb, .chs, .clc, .lkp] s (takeChannel ch st e r b s) := by
  cases b
  case gdu => exact (gduChannel_only s ch st).mono (by decide)
  case wtb => exact (wtbChannel_only s _ _ _ _).mono (by decide)
  case tau => exact (tauEngine_only s e).comp (tauRoadLive_only _ r)
  case svs => exact (modSvs_only s _).mono (by decide)
  case clc => exact (clcRoadLive_only s r).mono (by decide)
  all_goals exact .refl _ _

theorem setDisagree_only (b) : OnlyChanges [.pcu, .wtb, .chs, .clc, .lkp] s (setDisagree b s) := by
  unfold setDisagree; split_ifs
  · exact .refl _ _
  · exact (modPcu_only s _).comp (wtbDisagree_only _ _)

theorem leaveLive_only : OnlyChanges [.pcu, .wtb, .chs, .clc, .lkp] s (leaveLive s) :=
  (modPcu_only s _).comp (setDisagree_only _ _)

theorem changeChannel_only (ch f) :
    OnlyChanges [.pcu, .gdu, .tau, .svs, .wtb, .chs, .clc, .lkp, .free] s (changeChannel ch f s) := by
  unfold changeChannel; dsimp only; split_ifs
  · exact (modChannel_only s ch f).mono (by decide)
  · exact ((modChannel_only s ch f).comp (leaveLive_only _) : OnlyChanges [.pcu, .wtb, .chs, .clc, .lkp] _ _).comp
      (hand_only (fun b s => takeChannel_only s _ _ _ _ b) _)
  · exact (modChannel_only s ch f).comp (hand_only (fun b s => takeChannel_only s _ _ _ _ b) _)

theorem setImplausible_only (b) : OnlyChanges [.pcu, .wtb, .chs, .clc, .lkp] s (setImplausible b s) := by
  unfold setImplausible; split_ifs
  · exact .refl _ _
  · exact (modPcu_only s _).comp (wtbImplausible_only _ _)

theorem followImplausible_only : OnlyChanges [.pcu, .wtb, .chs, .clc, .lkp] s (followImplausible s) := by
  unfold followImplausible; split_ifs
  · exact setImplausible_only s _
  · exact setImplausible_only s _
  · exact .refl _ _

theorem roadEdge_only : OnlyChanges [.pcu, .tau, .svs, .wtb, .chs, .clc, .lkp] s (roadEdge s) := by
  unfold roadEdge; dsimp only; split_ifs
  · exact (modPcu_only s _).mono (by decide)
  · exact (modPcu_only s _).comp (tauDistance_only _)
  · exact (modPcu_only s _).mono (by decide)

theorem checkEdge_only : OnlyChanges [.pcu, .tau, .svs, .wtb, .chs, .clc, .lkp] s (checkEdge s) := by
  unfold checkEdge; dsimp only; split_ifs
  · exact (modPcu_only s _).mono (by decide)
  · exact (modPcu_only s _).comp (tauDistance_only _)
  · exact (modPcu_only s _).mono (by decide)

theorem supplyEdge_only : OnlyChanges [.pcu, .tau, .wtb, .chs, .clc, .lkp] s (supplyEdge s) := by
  unfold supplyEdge; dsimp only; split_ifs
  · exact (((modPcu_only s _).comp (tauFuel_frame _) : OnlyChanges [.pcu, .tau, .lkp] _ _).comp (modTau_only _ _) :
      OnlyChanges [.pcu, .tau, .lkp] _ _).comp (followImplausible_only _)
  · exact (modPcu_only s _).comp (followImplausible_only _)

theorem returnEdge_only : OnlyChanges [.pcu, .wtb, .chs, .clc, .lkp] s (returnEdge s) :=
  (modPcu_only s _).comp (followImplausible_only _)

theorem dividerEdge_only (ch) : OnlyChanges [.pcu, .tau, .svs, .wtb, .chs, .clc, .lkp] s (dividerEdge ch s) := by
  unfold dividerEdge; split
  · exact roadEdge_only s
  · exact .refl _ _
  · exact (supplyEdge_only s).mono (by decide)
  · exact (returnEdge_only s).mono (by decide)
  · exact checkEdge_only s
  · exact .refl _ _

theorem pulseEdge_only (ch a) :
    OnlyChanges [.pcu, .gdu, .tau, .svs, .wtb, .chs, .clc, .lkp, .free] s (pulseEdge ch a s) := by
  unfold pulseEdge; split_ifs
  · exact .refl _ _
  · exact (changeChannel_only s ch _).comp (dividerEdge_only _ ch)

theorem closeWindow_only (a) :
    OnlyChanges [.pcu, .gdu, .tau, .svs, .wtb, .chs, .clc, .lkp, .free] s (closeWindow a s) :=
  eachIx_only (fun ch s => changeChannel_only s ch _) s

theorem disagreeTest_only : OnlyChanges [.pcu, .wtb, .chs, .clc, .lkp] s (disagreeTest s) := by
  unfold disagreeTest; dsimp only; split_ifs
  · exact (modPcu_only s _).mono (by decide)
  · exact (modPcu_only s _).comp (setDisagree_only _ _)
  · exact (modPcu_only s _).mono (by decide)
  · exact (modPcu_only s _).comp (setDisagree_only _ _)
  · exact (modPcu_only s _).mono (by decide)

theorem takeRoadLive_only (r b) : OnlyChanges [.tau, .svs, .wtb, .chs, .clc, .lkp] s (takeRoadLive r b s) := by
  cases b
  case wtb => exact (wtbRoadLive_only s _).mono (by decide)
  case tau => exact (tauRoadLive_only s r).mono (by decide)
  case svs => exact (modSvs_only s _).mono (by decide)
  case clc => exact (clcRoadLive_only s r).mono (by decide)
  all_goals exact .refl _ _

theorem moveSource_only : OnlyChanges [.pcu, .tau, .svs, .wtb, .chs, .clc, .lkp, .free] s (moveSource s) := by
  unfold moveSource; dsimp only; split_ifs
  · exact (modPcu_only s _).mono (by decide)
  · exact (modPcu_only s _).comp (hand_only (fun b s => takeRoadLive_only s _ b) _)

theorem takeWindow_only (x b) : OnlyChanges [.gdu, .tau, .wtb, .chs, .clc, .lkp] s (takeWindow x b s) := by
  cases b
  case gdu => exact (gduWindow_only s x).mono (by decide)
  case wtb => exact (wtbWindow_only s _).mono (by decide)
  case tau => exact (tauWindow_only s _).mono (by decide)
  case clc => exact (modClc_only s _).comp (mark_only _ _)
  all_goals exact .refl _ _

theorem windowResult_only : OnlyChanges [.pcu, .gdu, .tau, .wtb, .chs, .clc, .lkp, .free] s (windowResult s) :=
  (modPcu_only s _).comp (hand_only (fun b s => takeWindow_only s _ b) _)

theorem pcuRunEntry_only :
    OnlyChanges [.pcu, .gdu, .tau, .svs, .wtb, .chs, .clc, .lkp, .inputs, .free] s (pcuRunEntry s) :=
  (((modInputs_only s _).comp (modPcu_only _ _) : OnlyChanges [.pcu, .inputs] _ _).comp (setDisagree_only _ _) :
    OnlyChanges [.pcu, .wtb, .chs, .clc, .lkp, .inputs] _ _).comp
    (eachIx_only (fun ch s => changeChannel_only s ch _) _)

theorem pcuParkedEntry_only :
    OnlyChanges [.pcu, .gdu, .tau, .svs, .wtb, .chs, .clc, .lkp, .free] s (pcuParkedEntry s) :=
  ((modPcu_only s _).comp (setDisagree_only _ _) : OnlyChanges [.pcu, .wtb, .chs, .clc, .lkp] _ _).comp
    (eachIx_only (fun ch s => changeChannel_only s ch _) _)

/-! ## Reports -/

theorem clcSlot_only (n) : OnlyChanges [.clc] s (clcSlot n s) := by
  unfold clcSlot; split_ifs
  · exact mark_only s _
  · exact .refl _ _

theorem takeReport_only (n b) : OnlyChanges [.gdu, .tau, .wtb, .chs, .clc, .lkp] s (takeReport n b s) := by
  cases b
  case gdu => exact (gduReport_only s n).mono (by decide)
  case wtb => exact (wtbSlot_only s _ _ _).mono (by decide)
  case tau => exact tauReport_only s n
  case clc => exact (clcSlot_only s n).mono (by decide)
  all_goals exact .refl _ _

theorem takeSlotState_only (n b) : OnlyChanges [.gdu, .tau, .wtb, .chs, .clc, .lkp] s (takeSlotState n b s) := by
  cases b
  case gdu => exact (gduSlotState_only s n).mono (by decide)
  case wtb => exact (wtbSlot_only s _ _ _).mono (by decide)
  case tau => exact (tauSlotState_only s n).mono (by decide)
  case clc => exact (clcSlot_only s n).mono (by decide)
  all_goals exact .refl _ _

theorem reportSlot_only (n v) : OnlyChanges [.gdu, .tau, .wtb, .chs, .clc, .lkp, .free] s (reportSlot n v s) :=
  (modSlot_only s n _).comp (hand_only (fun b s => takeReport_only s n b) _)

/-! ## Coach Line -/

theorem setNodeState_only (n st) : OnlyChanges [.wtb, .chs, .clc, .lkp] s (setNodeState n st s) := by
  unfold setNodeState; dsimp only; split_ifs
  · exact .refl _ _
  · exact (((modNode_only s n _).comp (modClc_only _ _) : OnlyChanges [.clc] _ _).comp (notify_only _ _) :
      OnlyChanges [.clc, .lkp] _ _).comp (wtbNode_only _ _ _)

theorem setLine_only (st) : OnlyChanges [.wtb, .chs, .clc, .lkp] s (setLine st s) := by
  unfold setLine; split_ifs
  · exact .refl _ _
  · exact (modClc_only s _).comp (wtbLine_only _ _)

theorem handLine_only (old) : OnlyChanges [.wtb, .chs, .clc, .lkp] s (handLine old s) := by
  unfold handLine; split_ifs
  · exact .refl _ _
  · exact wtbLine_only s _

theorem endPass_only (r) : OnlyChanges [.clc, .lkp] s (endPass r s) := by
  unfold endPass; split
  · exact (modClc_only s _).comp (reply_only _ _ _ _ _)
  · exact .refl _ _

theorem startTxn_only (k) : OnlyChanges [.clc, .free] s (startTxn k s) := (modClc_only s _).comp (modFree_only _ _)

theorem chooseWork_only : OnlyChanges [.clc, .free] s (chooseWork s) := by
  unfold chooseWork; split
  · exact (modNode_only s _ _).comp (startTxn_only _ _)
  · exact (modClc_only s _).comp (startTxn_only _ _)
  · exact .refl _ _

theorem startPass_only (n) : OnlyChanges [.clc, .lkp, .free] s (startPass n s) := by
  unfold startPass; split_ifs
  · exact (modClc_only s _).comp (startTxn_only _ _)
  · exact (endPass_only s _).comp (chooseWork_only _)

theorem arbiter_only : OnlyChanges [.clc, .lkp, .free] s (arbiter s) := by
  unfold arbiter; split_ifs
  · split
    · exact (modClc_only s _).comp (startPass_only _ _)
    · exact (modClc_only s _).comp (startTxn_only _ _)
    · split
      · split_ifs
        · split
          · exact startPass_only s _
          · exact (endPass_only s _).comp (chooseWork_only _)
        · exact (chooseWork_only s).mono (by decide)
      · exact (chooseWork_only s).mono (by decide)
  · exact .refl _ _

theorem validAnswer_only (n) : OnlyChanges [.wtb, .chs, .clc, .lkp] s (validAnswer n s) := by
  unfold validAnswer; dsimp only; split
  · exact (modNode_only s n _).comp (setNodeState_only _ _ _)
  · exact (modNode_only s n _).comp (setNodeState_only _ _ _)
  all_goals exact (modNode_only s n _).mono (by decide)

theorem nodeMiss_only (n) : OnlyChanges [.wtb, .chs, .clc, .lkp] s (nodeMiss n s) := by
  unfold nodeMiss; split
  · dsimp only; split_ifs
    · exact (modNode_only s n _).comp (setNodeState_only _ _ _)
    · exact (modNode_only s n _).mono (by decide)
  · dsimp only; split_ifs
    · exact (modNode_only s n _).comp (setNodeState_only _ _ _)
    · exact (modNode_only s n _).mono (by decide)
  all_goals exact .refl _ _

theorem takePrivacy_only (b) : OnlyChanges [.chs, .clc] s (takePrivacy b s) := (modChs_only s _).comp (mark_only _ _)

theorem rearClockSet_only (d) : OnlyChanges [.clk, .wtb, .chs, .clc, .lkp] s (rearClockSet d s).1 := by
  unfold rearClockSet; dsimp only; split_ifs
  · exact .refl _ _
  · exact setClockTo_only s _

theorem rearAlarmSet_only (d) : OnlyChanges [.clk, .chs, .clc] s (rearAlarmSet d s).1 := by
  unfold rearAlarmSet; split
  · exact changeAlarm_only s _ _
  · exact .refl _ _

theorem ownRearEvent_only (e) : OnlyChanges [.tau, .clk, .wtb, .chs, .clc, .lkp] s (ownRearEvent e s).1 := by
  unfold ownRearEvent; split
  · exact (ByProducts.takeChime _ s).only.mono (by decide)
  · exact (takePrivacy_only s _).mono (by decide)
  · exact (takePrivacy_only s _).mono (by decide)
  · exact (resetTrip_only s 3 .rear).comp (tripNotice_only _ _ _)
  · dsimp only; exact (ByProducts.acknowledgeWhere _ s).only.mono (by decide)
  · exact (rearClockSet_only s _).mono (by decide)
  · exact (rearAlarmSet_only s _).mono (by decide)
  · exact .refl _ _

theorem takeRearEvent_only (n e) : OnlyChanges [.tau, .clk, .wtb, .chs, .clc, .lkp] s (takeRearEvent n s e) := by
  unfold takeRearEvent; split_ifs
  · exact (ownRearEvent_only s e).comp (notify_only _ _)
  · exact (notify_only s _).mono (by decide)

theorem completePoll_only (n a) : OnlyChanges [.tau, .clk, .wtb, .chs, .clc, .lkp] s (completePoll n a s) := by
  unfold completePoll; split
  · refine OnlyChanges.trans ?_ (OnlyChanges.foldl (fun s e => takeRearEvent_only s n e) _ _)
    split_ifs
    · exact (validAnswer_only s n).comp (modClc_only _ _)
    · exact (validAnswer_only s n).mono (by decide)
  · exact (nodeMiss_only s n).mono (by decide)

theorem completeMirror_only (n i a) : OnlyChanges [.wtb, .chs, .clc, .lkp] s (completeMirror n i a s) := by
  unfold completeMirror; split
  · exact validAnswer_only s n
  · exact (nodeMiss_only s n).comp (modClc_only _ _)

theorem completePass_only (n a) : OnlyChanges [.wtb, .chs, .clc, .lkp] s (completePass n a s) := by
  unfold completePass; split
  · exact (validAnswer_only s n).comp (endPass_only _ _)
  · exact (nodeMiss_only s n).comp (endPass_only _ _)

theorem lineFault_only : OnlyChanges [.wtb, .chs, .clc, .lkp] s (lineFault s) := by
  unfold lineFault; dsimp only
  have h : ∀ (n : NodeIx) (s : State), OnlyChanges [.wtb, .chs, .clc, .lkp] s
      (if s.clc.nodes[n].enabled then setNodeState n .lost s else s) := by
    intro n s; split_ifs
    · exact setNodeState_only s n _
    · exact .refl _ _
  have h1 := ((modClc_only s fun c => { c.abandon with line := .fault }).comp (endPass_only _ (.refuse .aborted)) :
    OnlyChanges [.clc, .lkp] _ _)
  exact ((h1.comp (eachIx_only h _) : OnlyChanges [.wtb, .chs, .clc, .lkp] _ _).comp (handLine_only _ _))

theorem rejoin_only (n) : OnlyChanges [.wtb, .chs, .clc, .lkp] s (rejoin n s) := by
  unfold rejoin; split_ifs
  · exact (modNode_only s n _).comp (setNodeState_only _ _ _)
  · exact .refl _ _

theorem coachReset_only : OnlyChanges [.wtb, .chs, .clc, .lkp] s (coachReset s) :=
  (((modClc_only s _).comp (endPass_only _ _) : OnlyChanges [.clc, .lkp] _ _).comp
    (eachIx_only (fun n s => rejoin_only s n) _) : OnlyChanges [.wtb, .chs, .clc, .lkp] _ _).comp (handLine_only _ _)

theorem contention_only : OnlyChanges [.wtb, .chs, .clc, .lkp] s (contention s) := by
  unfold contention; split
  · split_ifs
    · exact .refl _ _
    · exact (modClc_only s _).mono (by decide)
    · dsimp only; split_ifs
      · exact (((modClc_only s _).comp (modClc_only _ _) : OnlyChanges [.clc] _ _).comp (modClc_only _ _) :
          OnlyChanges [.clc] _ _).comp (setLine_only _ _)
      · exact ((modClc_only s _).comp (modClc_only _ _) : OnlyChanges [.clc] _ _).comp (lineFault_only _)
  · exact .refl _ _

theorem backoffExpiry_only : OnlyChanges [.wtb, .chs, .clc, .lkp] s (backoffExpiry s) := by
  unfold backoffExpiry; split_ifs
  · exact (modClc_only s _).comp (setLine_only _ _)
  · exact .refl _ _

theorem resettingEnd_only : OnlyChanges [.wtb, .chs, .clc, .lkp] s (resettingEnd s) := by
  unfold resettingEnd; split_ifs
  · exact (setLine_only s _).comp (modClc_only _ _)
  · exact .refl _ _

theorem clcParkedEntry_only : OnlyChanges [.wtb, .chs, .clc, .lkp] s (clcParkedEntry s) :=
  ((modClc_only s _).comp (endPass_only _ _) : OnlyChanges [.clc, .lkp] _ _).comp (setLine_only _ _)

/-! ## Chime Sequencer and Warning Table at a power-state change -/

theorem chsParkedEntry_only : OnlyChanges [.chs, .clc] s (chsParkedEntry s) := by
  unfold chsParkedEntry; dsimp only; split_ifs
  · exact ((takePrivacy_only s _).comp (modChs_only _ _) : OnlyChanges [.chs, .clc] _ _).comp (modChs_only _ _)
  · exact (modChs_only s _).comp (modChs_only _ _)

theorem chsPower_only (p) : OnlyChanges [.chs, .clc] s (chsPower p s) := by
  unfold chsPower; split
  · exact chsParkedEntry_only s
  · exact (modChs_only s _).mono (by decide)
  · split_ifs
    · exact (modChs_only s _).mono (by decide)
    · exact (modChs_only s _).mono (by decide)

theorem wtbParkedEntry_only : OnlyChanges [.wtb, .chs, .clc, .lkp] s (wtbParkedEntry s) := by
  unfold wtbParkedEntry; dsimp only
  refine (modWtb_only s _).comp (eachIx_only (ps := [.wtb, .chs, .clc, .lkp]) (fun w s => ?_) _)
  split_ifs
  · exact (ByProducts.evaluateEntry w s).only
  · exact .refl _ _
  · exact (ByProducts.parkEntry w s).only

theorem wtbRunEntry_only : OnlyChanges [.wtb, .chs, .clc, .lkp] s (wtbRunEntry s) :=
  (modWtb_only s _).comp (ByProducts.evaluateWhere _ _).only

/-! ## Ignition -/

theorem takeRunEntry_only (b) :
    OnlyChanges [.pcu, .gdu, .tau, .svs, .wtb, .chs, .clc, .lkp, .inputs, .free] s (takeRunEntry b s) := by
  cases b
  case pcu => exact pcuRunEntry_only s
  case gdu => exact (gduRunEntry_only s).mono (by decide)
  case tau => exact (tauPower_only s _).mono (by decide)
  case clk => exact .refl _ _
  case wtb => exact (wtbRunEntry_only s).mono (by decide)
  case chs => exact (chsPower_only s _).mono (by decide)
  case svs => exact (modSvs_only s _).mono (by decide)
  case clc =>
    exact ((modClc_only s fun c => { c with power := .run }).comp (coachReset_only _) :
      OnlyChanges [.wtb, .chs, .clc, .lkp] s (clcRunEntry s)).mono (by decide)
  case lkp => exact (modLkp_only s _).mono (by decide)

theorem takeParkedEntry_only (b) :
    OnlyChanges [.pcu, .gdu, .tau, .svs, .wtb, .chs, .clc, .lkp, .free] s (takeParkedEntry b s) := by
  cases b
  case pcu => exact pcuParkedEntry_only s
  case gdu => exact (gduParkedEntry_only s).mono (by decide)
  case tau => exact (tauPower_only s _).mono (by decide)
  case clk => exact .refl _ _
  case wtb => exact (wtbParkedEntry_only s).mono (by decide)
  case chs => exact (chsPower_only s _).mono (by decide)
  case svs => exact (modSvs_only s _).mono (by decide)
  case clc => exact (clcParkedEntry_only s).mono (by decide)
  case lkp => exact (modLkp_only s _).mono (by decide)

theorem takeCrank_only (p b) :
    OnlyChanges [.pcu, .gdu, .tau, .svs, .wtb, .chs, .clc, .lkp] s (takeCrank p b s) := by
  cases b
  case pcu => exact (modPcu_only s _).mono (by decide)
  case gdu => exact (gduCrank_only s _).mono (by decide)
  case tau => exact (tauPower_only s _).mono (by decide)
  case clk => exact .refl _ _
  case wtb => exact (wtbCrank_only s _).mono (by decide)
  case chs => exact (chsPower_only s _).mono (by decide)
  case svs => exact (modSvs_only s _).mono (by decide)
  case clc => exact (modClc_only s _).mono (by decide)
  case lkp => exact (modLkp_only s _).mono (by decide)

theorem enterCrank_only (p) :
    OnlyChanges [.igs, .pcu, .gdu, .tau, .svs, .wtb, .chs, .clc, .lkp, .free] s (enterCrank p s) :=
  (modIgs_only s _).comp (hand_only (fun b s => takeCrank_only s p b) _)

theorem crankIfOn_only :
    OnlyChanges [.igs, .pcu, .gdu, .tau, .svs, .wtb, .chs, .clc, .lkp, .free] s (crankIfOn s) := by
  unfold crankIfOn; split_ifs
  · exact (notify_only s _).comp (enterCrank_only _ _)
  · exact .refl _ _

theorem enterRun_only :
    OnlyChanges [.igs, .pcu, .gdu, .tau, .svs, .wtb, .chs, .clc, .lkp, .inputs, .free] s (enterRun s) :=
  (modIgs_only s _).comp (hand_only (fun b s => takeRunEntry_only s b) _)

theorem enterParked_only :
    OnlyChanges [.igs, .pcu, .gdu, .tau, .svs, .wtb, .chs, .clc, .lkp, .free] s (enterParked s) :=
  (modIgs_only s _).comp (hand_only (fun b s => takeParkedEntry_only s b) _)

end

end Sys2Proof.Machine
end

