-- ==== Sys2Proof/Laws/Events.lean ====
section
/-! SUPPORT. How a command becomes an event: what the dispatcher makes of the request it serves, and what reading the
fields of a body gives. -/

namespace Sys2Proof.Machine

-- One theorem at a time, so that a build as one text needs few threads.
set_option Elab.async false

/-! ## Events -/

theorem takeEvent_supplied {f : State → State} {s : State} (h : s.igs.supplied = true) :
    takeEvent f s = .next (settle (f s)) := by simp [takeEvent, h]

theorem takeEvent_unsupplied {f : State → State} {s : State} (h : s.igs.supplied = false) :
    takeEvent f s = .next s := by simp [takeEvent, h]

/-- Every event answers a next state. -/
theorem takeEvent_next (f : State → State) (s : State) :
    takeEvent f s = .next (if s.igs.supplied then settle (f s) else s) := by
  unfold takeEvent; split_ifs <;> rfl

/-- The dispatcher hands a request it serves to its owner and places the reply. -/
theorem serve_eq {k : ReqKind} {tag : Byte} {body : List Byte} {s : State} {owner : Request → State → State × Response}
    (h : Serves k tag body s) (hl : k.lengthOk body = true) :
    serve k owner s = (owner { kind := k.code, tag, body } (takeRequest s)).1.reply .ordinary k.code tag
      (owner { kind := k.code, tag, body } (takeRequest s)).2 := by
  obtain ⟨-, hq, hr⟩ := h
  unfold serve
  match hs : s.lkp.requests, hq with
  | r :: rest, hq =>
    have : r = { kind := k.code, tag, body } := by simpa [hs] using hq
    subst this
    simp [hr, hl]

/-- A request its owner answers. -/
theorem served_answer {k : ReqKind} {tag : Byte} {body : List Byte} {s s1 : State} {fields : List Byte}
    {owner : Request → State → State × Response} (h : Serves k tag body s) (hl : k.lengthOk body = true)
    (ho : owner { kind := k.code, tag, body } (takeRequest s) = (s1, .answer fields)) :
    takeEvent (serve k owner) s = .next (answered k tag fields s1) := by
  rw [takeEvent_supplied h.1, serve_eq h hl, ho, answered]

/-- A request its owner refuses. -/
theorem served_refuse {k : ReqKind} {tag : Byte} {body : List Byte} {s : State} {reason : Reason}
    {owner : Request → State → State × Response} (h : Serves k tag body s) (hl : k.lengthOk body = true)
    (ho : owner { kind := k.code, tag, body } (takeRequest s) = (takeRequest s, .refuse reason)) :
    takeEvent (serve k owner) s = .next (turnedDown k.code tag reason s) := by
  rw [takeEvent_supplied h.1, serve_eq h hl, ho, turnedDown]

/-! ## Reading fields -/

theorem ixOf_eq_some {n k : Nat} {i : Fin n} : ixOf n k = some i ↔ k = i.val := by
  unfold ixOf; split_ifs with h
  · simp [Fin.ext_iff]
  · simp only [false_iff]; omega

theorem ixOf_eq_none {n k : Nat} : ixOf n k = none ↔ n ≤ k := by
  unfold ixOf; split_ifs with h <;> simp <;> omega

theorem flagOf_eq_some {k : Nat} {b : Bool} : flagOf k = some b ↔ k = b.toNat := by
  rcases b <;> match k with
    | 0 => simp [flagOf]
    | 1 => simp [flagOf]
    | k + 2 => simp [flagOf]

theorem flagOf_eq_none {k : Nat} : flagOf k = none ↔ 2 ≤ k := by
  match k with
  | 0 => simp [flagOf]
  | 1 => simp [flagOf]
  | k + 2 => simp [flagOf]

theorem within_eq_some {lo hi k v : Nat} : within lo hi k = some v ↔ k = v ∧ lo ≤ k ∧ k ≤ hi := by
  unfold within; split_ifs with h <;> simp <;> omega

theorem within_eq_none {lo hi k : Nat} : within lo hi k = none ↔ k < lo ∨ hi < k := by
  unfold within; split_ifs with h <;> simp <;> omega

theorem u8_lt (b : List Byte) (i : Nat) : u8 b i < 256 := (byteAt b i).isLt

theorem u16_lt (b : List Byte) (i : Nat) : u16 b i < 65536 := by
  have := u8_lt b i; have := u8_lt b (i + 1); unfold u16; omega

theorem u24_lt (b : List Byte) (i : Nat) : u24 b i < 16777216 := by
  have := u16_lt b i; have := u8_lt b (i + 2); unfold u24; omega

end Sys2Proof.Machine
end

