-- ==== Sys2Proof/Laws/Inputs.lean ====
section
/-! SUPPORT. What a tick of the input lines can do: it touches what the samplers hold and the queue alone, and each command
stands in the queue for exactly one cause. -/

namespace Sys2Proof.Machine

-- One theorem at a time, so that a build as one text needs few threads.
set_option Elab.async false

theorem takeTick_only (raw : RawLines) (s : State) : OnlyChanges [.inputs, .pending] s (takeTick raw s) := by
  unfold takeTick
  split_ifs
  · intro p h; cases p <;> first | rfl | simp at h
  · exact (modInputs_only s _).mono (by decide)

theorem nextTick_only (s : State) : OnlyChanges [.inputs, .pending] s (nextTick s) := by
  unfold nextTick
  split
  · exact .refl _ _
  · exact (modInputs_only s _).comp (takeTick_only _ _)

/-- A step with no command waiting takes the next tick. -/
theorem step_empty {s : State} (h : s.pending = []) : step s = .next (nextTick s) := by simp [step, h]

section
variable (tick : Nat) (raw : RawLines) (s : State)

/-- An edge stands among the commands of a tick exactly when its channel's new sample makes it (R1). -/
theorem pulseEdge_mem_tickCommands {ch : ChannelIx} {at10us : Nat} :
    .pulseEdge ch at10us ∈ tickCommands tick raw s ↔
      (s.pcu.channels[ch].sampledAt tick && s.pcu.channels[ch].cfg.polarity.isActive s.inputs.pulses[ch].level
        (s.inputs.pulses[ch].push raw.pulses[ch]).level) = true ∧ at10us = instantOf tick := by
  simp only [tickCommands, pulseCommand, switchCommand, ignCommand, crankCommand, resetCommand, List.mem_append,
    List.mem_flatMap]
  constructor
  · rintro ((((⟨i, -, h⟩ | ⟨i, -, h⟩) | h) | h) | h) <;> (split_ifs at h <;> simp_all)
  · rintro ⟨h, rfl⟩
    exact .inl (.inl (.inl (.inl ⟨ch, List.mem_finRange _, by rw [if_pos h]; exact List.mem_singleton_self _⟩)))

/-- A switch change stands among the commands of a tick exactly when the new sample changes the filtered level (R84). -/
theorem switchChange_mem_tickCommands {n : SwitchIx} :
    .switchChange n ∈ tickCommands tick raw s ↔
      (switchesSampledAt tick &&
        (s.inputs.switches[n].push raw.lines.switches[n]).level != s.wtb.switches[n].level) = true := by
  simp only [tickCommands, pulseCommand, switchCommand, ignCommand, crankCommand, resetCommand, List.mem_append,
    List.mem_flatMap]
  constructor
  · rintro ((((⟨i, -, h⟩ | ⟨i, -, h⟩) | h) | h) | h) <;> (split_ifs at h <;> simp_all)
  · intro h
    exact .inl (.inl (.inl (.inr ⟨n, List.mem_finRange _, by rw [if_pos h]; exact List.mem_singleton_self _⟩)))

/-- The commands of the three lines that are neither pulse nor switch inputs stand in their own part of the queue
(R169, R170, R171). -/
theorem mem_tickCommands_of_line {c : Instr} (hp : ∀ ch at10us, c ≠ .pulseEdge ch at10us) (hs : ∀ n, c ≠ .switchChange n) :
    c ∈ tickCommands tick raw s ↔ c ∈ ignCommand raw s ∨ c ∈ crankCommand raw s ∨ c ∈ resetCommand raw s := by
  have h1 : c ∉ (List.finRange 6).flatMap (pulseCommand tick raw s) := fun h => by
    obtain ⟨i, -, h⟩ := List.mem_flatMap.mp h
    simp only [pulseCommand] at h
    split_ifs at h <;> simp_all
  have h2 : c ∉ (List.finRange 8).flatMap (switchCommand tick raw s) := fun h => by
    obtain ⟨i, -, h⟩ := List.mem_flatMap.mp h
    unfold switchCommand at h
    split_ifs at h <;> simp_all
  simp only [tickCommands, List.mem_append, h1, h2, false_or, or_assoc]

end

end Sys2Proof.Machine
end

