-- ==== Sys2Proof/Laws/PerInstr.lean ====
section
/-! SUPPORT. A family of statements about the commands as syntax: no word of the table spells a command, since no row of
the table gives bits. -/

namespace Sys2Proof.Laws.NoWord

/-- No table word decodes to the command. -/
def Statement (i : Instr) : Prop := ∀ nbits w : Nat, decodeTableWord nbits w ≠ some i

theorem identify : Statement .identify := by intro nbits w h; cases h
theorem setNoticeMask : Statement .setNoticeMask := by intro nbits w h; cases h
theorem restart : Statement .restart := by intro nbits w h; cases h
theorem readInstruments : Statement .readInstruments := by intro nbits w h; cases h
theorem setChannel : Statement .setChannel := by intro nbits w h; cases h
theorem setCalibration : Statement .setCalibration := by intro nbits w h; cases h
theorem sensorReport : Statement .sensorReport := by intro nbits w h; cases h
theorem setSlot : Statement .setSlot := by intro nbits w h; cases h
theorem setGauge : Statement .setGauge := by intro nbits w h; cases h
theorem sweepGauges : Statement .sweepGauges := by intro nbits w h; cases h
theorem readGauges : Statement .readGauges := by intro nbits w h; cases h
theorem readTrip : Statement .readTrip := by intro nbits w h; cases h
theorem tripControl : Statement .tripControl := by intro nbits w h; cases h
theorem setDestination : Statement .setDestination := by intro nbits w h; cases h
theorem readTotals : Statement .readTotals := by intro nbits w h; cases h
theorem restoreOdometer : Statement .restoreOdometer := by intro nbits w h; cases h
theorem setFuelOptions : Statement .setFuelOptions := by intro nbits w h; cases h
theorem readClock : Statement .readClock := by intro nbits w h; cases h
theorem setClock : Statement .setClock := by intro nbits w h; cases h
theorem setAlarm : Statement .setAlarm := by intro nbits w h; cases h
theorem setClockOptions : Statement .setClockOptions := by intro nbits w h; cases h
theorem setWarning : Statement .setWarning := by intro nbits w h; cases h
theorem readWarnings : Statement .readWarnings := by intro nbits w h; cases h
theorem acknowledge : Statement .acknowledge := by intro nbits w h; cases h
theorem linkCondition : Statement .linkCondition := by intro nbits w h; cases h
theorem setLamp : Statement .setLamp := by intro nbits w h; cases h
theorem setSwitch : Statement .setSwitch := by intro nbits w h; cases h
theorem chime : Statement .chime := by intro nbits w h; cases h
theorem cancelChime : Statement .cancelChime := by intro nbits w h; cases h
theorem setPattern : Statement .setPattern := by intro nbits w h; cases h
theorem setPrivacy : Statement .setPrivacy := by intro nbits w h; cases h
theorem setServiceItem : Statement .setServiceItem := by intro nbits w h; cases h
theorem readService : Statement .readService := by intro nbits w h; cases h
theorem serviceDone : Statement .serviceDone := by intro nbits w h; cases h
theorem setNode : Statement .setNode := by intro nbits w h; cases h
theorem coachPass : Statement .coachPass := by intro nbits w h; cases h
theorem coachReset : Statement .coachReset := by intro nbits w h; cases h
theorem readNodes : Statement .readNodes := by intro nbits w h; cases h
theorem setCoachOptions : Statement .setCoachOptions := by intro nbits w h; cases h
theorem unknownKind : Statement .unknownKind := by intro nbits w h; cases h
theorem hostCharacter (value : Byte) (error : Bool) : Statement (.hostCharacter value error) := by intro nbits w h; cases h
theorem idleGap : Statement .idleGap := by intro nbits w h; cases h
theorem transmissionComplete (lines : InputLines) : Statement (.transmissionComplete lines) := by intro nbits w h; cases h
theorem gapEnd : Statement .gapEnd := by intro nbits w h; cases h
theorem supplyReset (lines : InputLines) : Statement (.supplyReset lines) := by intro nbits w h; cases h
theorem battBelowRetention : Statement .battBelowRetention := by intro nbits w h; cases h
theorem lineReset (lines : InputLines) : Statement (.lineReset lines) := by intro nbits w h; cases h
theorem runEntry : Statement .runEntry := by intro nbits w h; cases h
theorem parkedEntry : Statement .parkedEntry := by intro nbits w h; cases h
theorem crankOn : Statement .crankOn := by intro nbits w h; cases h
theorem crankOff : Statement .crankOff := by intro nbits w h; cases h
theorem pulseEdge (ch : ChannelIx) (at10us : Nat) : Statement (.pulseEdge ch at10us) := by intro nbits w h; cases h
theorem stallExpiry (ch : ChannelIx) : Statement (.stallExpiry ch) := by intro nbits w h; cases h
theorem windowExpiry (at10us : Nat) : Statement (.windowExpiry at10us) := by intro nbits w h; cases h
theorem slotStaleExpiry (n : SlotIx) : Statement (.slotStaleExpiry n) := by intro nbits w h; cases h
theorem slotLostExpiry (n : SlotIx) : Statement (.slotLostExpiry n) := by intro nbits w h; cases h
theorem needleStep (g : GaugeIx) : Statement (.needleStep g) := by intro nbits w h; cases h
theorem homingEnd (g : GaugeIx) : Statement (.homingEnd g) := by intro nbits w h; cases h
theorem secondBoundary : Statement .secondBoundary := by intro nbits w h; cases h
theorem switchChange (n : SwitchIx) : Statement (.switchChange n) := by intro nbits w h; cases h
theorem qualifyExpiry (w : EntryIx) : Statement (.qualifyExpiry w) := by intro nbits w h; cases h
theorem repeatExpiry (w : EntryIx) : Statement (.repeatExpiry w) := by intro nbits w h; cases h
theorem flashPhase : Statement .flashPhase := by intro nbits w h; cases h
theorem bulbCheckEnd : Statement .bulbCheckEnd := by intro nbits w h; cases h
theorem segmentEnd : Statement .segmentEnd := by intro nbits w h; cases h
theorem masterFrameSent : Statement .masterFrameSent := by intro nbits w h; cases h
theorem answerWindowExpiry : Statement .answerWindowExpiry := by intro nbits w h; cases h
theorem answerCut : Statement .answerCut := by intro nbits w h; cases h
theorem answerComplete : Statement .answerComplete := by intro nbits w h; cases h
theorem contention : Statement .contention := by intro nbits w h; cases h
theorem backoffExpiry : Statement .backoffExpiry := by intro nbits w h; cases h
theorem lineRelease : Statement .lineRelease := by intro nbits w h; cases h
theorem resettingEnd : Statement .resettingEnd := by intro nbits w h; cases h
theorem roundStart : Statement .roundStart := by intro nbits w h; cases h
theorem sleepStart : Statement .sleepStart := by intro nbits w h; cases h
theorem answerCharacter (value : Byte) (mark : Bool) (error : Bool) : Statement (.answerCharacter value mark error) := by intro nbits w h; cases h
theorem resetLineHigh : Statement .resetLineHigh := by intro nbits w h; cases h

end Sys2Proof.Laws.NoWord
end

