-- ==== Sys2Proof/Tests/Slice0.lean ====
section
/-! SUPPORT. Small tests: the check of ill-formed commands, figures of the spec, one step of many commands, and for every
statement with hypotheses a state and operands that meet them. -/

namespace Sys2Proof.Tests

open Sys2Proof.Machine

-- One theorem at a time: many kernel evaluations side by side take more threads than a build may have.
set_option Elab.async false

/-! ## Small states -/

/-- A request of kind `k`, tag 5, waits alone in the request buffer. -/
def asking (k : ReqKind) (body : List Byte) (s : State) : State :=
  s.modLkp fun l => { l with requests := [{ kind := k.code, tag := 5, body }] }

/-- Every block is in this power state. -/
def inPower (p : PowerState) (s : State) : State :=
  { s with
    igs := { s.igs with power := p }
    pcu := { s.pcu with power := p }
    gdu := { s.gdu with power := p }
    tau := { s.tau with power := p }
    wtb := { s.wtb with view := { s.wtb.view with power := p } }
    chs := { s.chs with power := p }
    svs := { s.svs with power := p }
    clc := { s.clc with power := p }
    lkp := { s.lkp with power := p } }

/-- The state right after reset, moved to RUN. -/
def running : State := inPower .run State.reset

/-- The state after a command. -/
def after (c : Instr) (s : State) : State :=
  match exec c s with
  | .next t => t
  | .fault _ => s
  | .refused _ => s

/-- The replies that wait after a command: kind and fields. -/
def repliesOf (c : Instr) (s : State) : List (Byte × List Byte) := (after c s).lkp.replies.map fun r => (r.kind, r.fields)

/-- A channel in a state. -/
def withChannel (ch : ChannelIx) (st : ChannelState) (s : State) : State :=
  s.modChannel ch fun c => { c with state := st, stallTimer := some c.cfg.stall }

/-- A slot in a state. -/
def withSlot (n : SlotIx) (f : Slot → Slot) (s : State) : State :=
  s.modGdu fun d => { d with slots := d.slots.set n (f d.slots[n]) }

/-- A gauge changed. -/
def withGauge (g : GaugeIx) (f : Gauge → Gauge) (s : State) : State :=
  s.modGdu fun d => { d with gauges := d.gauges.set g (f d.gauges[g]) }

/-- A warning entry changed. -/
def withEntry (w : EntryIx) (f : Entry → Entry) (s : State) : State :=
  s.modWtb fun t => { t with entries := t.entries.set w (f t.entries[w]) }

/-- A node slot changed. -/
def withNode (n : NodeIx) (f : Node → Node) (s : State) : State :=
  s.modClc fun c => { c with nodes := c.nodes.set n (f c.nodes[n]) }

/-- A node that is enabled and PRESENT. -/
def present (nd : Node) : Node := { nd with enabled := true, state := .present }

/-- A pass-through of alias 1 that waits. -/
def heldPass : PassThrough :=
  { tag := 9, nodeAlias := 1, kind := .read, answerAlias := none, data := [7], phase := .waiting }

/-- A LINK chime request. -/
def linkChime (arrival : Nat) : ChimeRequest :=
  { source := .link, cls := .caution, pattern := 0, dest := .front, passes := .times 1, arrival, tag := some 3 }

/-- A chime request of a warning entry. -/
def warningChime (w : EntryIx) (cls : ChimeClass) (arrival : Nat) : ChimeRequest :=
  { source := .warning w, cls, pattern := 0, dest := .front, passes := .times 1, arrival, tag := none }

/-- Eight chime requests of warning entries, of class CAUTION. -/
def eightChimes : List ChimeRequest :=
  (List.finRange 8).map fun i => warningChime (Fin.castLE (by decide) i) .caution i.val

/-- The commands that a tick brings about, the input lines at these levels and the samplers as given. -/
def tickBrings (raw : RawLines) (inputs : Inputs) (s : State) : List Instr :=
  (nextTick { s with pending := [], inputs := { inputs with ticks := [raw] } }).pending

/-- Every pulse input low, and the other lines quiet. -/
def quietRaw : RawLines := { pulses := Vector.replicate 6 false, lines := quietLines }

/-- The lines at a reset with the ignition on. -/
def ignitionLines : InputLines := { quietLines with ign := true }

/-- Every gauge known, in VOID at 0. -/
def steady : State :=
  running.modGdu fun d => { d with gauges := mapAll (fun g => { g with state := .void, present := some 0 }) d.gauges }

/-- Every gauge in a sweep, waiting at 0. -/
def swept : State :=
  steady.modGdu fun d => { d with gauges := mapAll (fun g => { g with state := .sweep, phase := some .wait }) d.gauges }

/-- A transaction in flight. -/
def withTxn (kind : TxnKind) (phase : TxnPhase) (s : State) : State :=
  s.modClc fun c => { c with txn := some { kind, frame := [], phase } }

/-- An entry whose LINK CONDITION source holds, with a pattern, in a state. -/
def condition (st : EntryState) (qualify : Nat) : Entry → Entry := fun e =>
  { e with
    cfg := { e.cfg with enabled := true, qualify, pattern := some 0, rep := some 5 }
    state := st
    linkCondition := true }

/-- The fuel slot is slot 7, in a state with the value 250: 20000 FU by the tank table after a Supply reset. -/
def fuelled (st : SlotState) (s : State) : State :=
  withSlot 7 (fun x => { x with value := 250, state := st })
    (s.modTau fun u => { u with fuel := { u.fuel with slot := some 7 } })

/-- The line RUNNING with N0 PRESENT at address 1. -/
def lineUp : State :=
  withNode 0 present (running.modClc fun c => { c with line := .running, roundTimer := some 200 })

/-- N0's mirror set holds every item, and a frame on the line keeps the arbiter from taking a pair. -/
def mirroring : State := withTxn .sleep .window (withNode 0 (fun n => { n with mirrorSet := 0xFF }) lineUp)

/-- A queue given, with the arrivals counted past it. -/
def chiming (queue : List ChimeRequest) (s : State) : State := s.modChs fun c => { c with queue, nextArrival := 20 }

/-! ## Well-formed commands -/

/-- A Line reset whose lines show RESET high cannot come about: the check refuses it. -/
theorem test_wellFormed_refuses_line_reset_high : (Instr.lineReset quietLines).wellFormed = false := by decide

theorem test_wellFormed_takes_line_reset_low :
    (Instr.lineReset { quietLines with reset := false }).wellFormed = true := by decide

/-! ## Codes and frames of the spec -/

/-- Table 28: the gate codes, with a switch number in the low bits; 5 to 15 and 32 up are no gate. -/
theorem test_gate_codes : (List.range 34).map (fun k => (Gate.ofCode k).isSome) =
    List.replicate 5 true ++ List.replicate 11 false ++ List.replicate 16 true ++ [false, false] := by decide +kernel

/-- R200: the frames of a POLL of address 5 and of a MIRROR write of three data bytes. -/
theorem test_master_frames : masterFrame 5 .poll [] = [0x05, 0x00, 0x00] ∧
    (masterFrame 5 .mirror [0, 14, 37]).map BitVec.toNat = [0x25, 3, 0, 14, 37, 202] := by decide +kernel

/-- R66: 1980-01-01 is a Tuesday and 2079-12-31 a Sunday; 2000 is a leap year. -/
theorem test_calendar : ClockTime.epoch.weekday = 2 ∧
    ({ year := 2079, month := 12, day := 31, hour := 0, minute := 0, second := 0 } : ClockTime).weekday = 0 ∧
    daysInMonth 2000 2 = 29 ∧ daysInMonth 2001 2 = 28 := by decide +kernel

/-- R66: the weekday goes on by one within a month, past the end of one and past the end of a year. -/
theorem test_weekdays : let date := fun y m d => ({ year := y, month := m, day := d, hour := 0, minute := 0, second := 0 } :
      ClockTime).weekday
    [date 2000 2 28, date 2000 2 29, date 2000 3 1, date 1999 12 31, date 2000 1 1] = [1, 2, 3, 5, 6] := by decide +kernel

/-- Table 59: CRANK, the odometer and the clock not set, and a pass-through held. -/
theorem test_status_byte : (statusByte (inPower .crank State.reset).lkp true).toNat = 8 + 16 + 32 + 64 := by decide +kernel

/-- No word spells a command: the table gives no row any bits. -/
theorem test_no_word_spells_a_command : decodeTableWord 8 0 = none ∧ decodeTableWord 64 81985529216486895 = none := by
  decide

/-! ## States that meet the hypotheses: steps, the dispatcher, invariants -/

theorem meets_StepRunsFrontCommand :
    let fed := { State.reset with inputs := { Inputs.quiet with ticks := [quietRaw] } }
    State.reset.pending = [] ∧ State.reset.inputs.ticks = [] ∧ fed.pending = [] ∧ fed.inputs.ticks = quietRaw :: [] := by
  decide +kernel

theorem meets_EveryCommandAnswersNext :
    (after .battBelowRetention State.reset).igs.supplied = false ∧ ∀ lines, Instr.flashPhase ≠ .supplyReset lines :=
  ⟨by decide +kernel, fun _ h => nomatch h⟩

theorem meets_EventsEnd : State.reset.clc.lineFree = false ∧
    (State.reset.reply .ordinary 3 5 (.answer [])).lkp.replies[0]?.map (fun r => r.sealed) = some none := by decide +kernel

theorem meets_DispatcherWaitsOrRefuses :
    (¬ ∃ tag body, Serves .identify tag body State.reset) ∧
    (¬ ∃ kind tag body, ServesKind kind tag body State.reset ∧ ∀ k : ReqKind, kind ≠ k.code) ∧
    (∃ s, ServesKind 0x7E 5 [] s ∧ ∀ k ∈ ReqKind.all, (0x7E : Byte) ≠ k.code) ∧
    Serves .identify 5 [1] (asking .identify [1] State.reset) ∧ ReqKind.identify.lengthOk [1] = false :=
  ⟨fun ⟨_, _, h⟩ => by have := h.2.1; simp [State.reset, State.supplied, Lkp.atReset] at this,
   fun ⟨_, _, _, h, _⟩ => by have := h.2.1; simp [State.reset, State.supplied, Lkp.atReset] at this,
   ⟨State.reset.modLkp fun l => { l with requests := [{ kind := 0x7E, tag := 5, body := [] }] }, by decide +kernel⟩,
   by decide +kernel⟩

/-- Every invariant holds in a state that goes on: RUN was entered, and the flash phase is about to change. -/
def going : State := { after .runEntry State.reset with pending := [.flashPhase] }

/-- The state of a step that answers a next one. -/
theorem next_of {s : State} (h : (match step s with | .next _ => true | _ => false) = true) : ∃ t, step s = .next t := by
  match hs : step s with
  | .next t => exact ⟨t, rfl⟩
  | .fault _ => simp [hs] at h
  | .refused _ => simp [hs] at h

theorem meets_going_steps : ∃ t, step going = .next t := next_of (by decide +kernel)

theorem meets_LinkQueuesKept : NoticeQueueOk going.lkp ∧ LinkQueuesOk going := by decide +kernel

theorem meets_NoWorkLeftUndone : NoWorkUndone going := by decide +kernel

theorem meets_ChimesKept : ChimesOk going := by decide +kernel

theorem meets_EntriesKept : EntriesOk going ∧ EntriesCurrent going.wtb ∧ PowerCopiesOk going := by decide +kernel

theorem meets_ServiceItemsKept : ServiceItemsOk going.svs := by decide +kernel

theorem meets_GaugesKept : GaugesOk going.gdu ∧ SlotsOk going.gdu ∧ PowerCopiesOk going := by
  refine ⟨?_, ?_, ?_⟩ <;> decide +kernel

theorem meets_ClockKept : ClockOk going.clk := by decide +kernel

theorem meets_PulseKept : PulseOk going.pcu ∧ PowerCopiesOk going := by decide +kernel

theorem meets_TripsKept : TripsOk going.tau ∧ RangeCurrent going := by decide +kernel

theorem meets_CoachLineKept : CoachLineOk going.clc ∧ PowerCopiesOk going := by
  refine ⟨⟨?_, ?_, ?_, ?_⟩, ?_⟩ <;> decide +kernel

theorem meets_CopiesKept : PowerCopiesOk going ∧ PulseCopiesOk going ∧ StateCopiesOk going := by decide +kernel

/-! ## States that meet the hypotheses: the Link Port and the power states -/

/-- Twelve notices of different warning entries. -/
def twelveNotices : List Notice := (List.finRange 12).map fun i => .warning (Fin.castLE (by decide) i) .active

/-- The Link Port with the mask given and these notices waiting. -/
def noticing (mask : BitVec 10) (notices : List Notice) : Lkp := { State.reset.lkp with mask, notices }

theorem meets_NoticesAreTaken :
    (noticing 1 []).mask.getLsbD (Notice.warning 0 .active).bit = false ∧
    ((noticing 3 [.warning 0 .idle]).mask.getLsbD (Notice.warning 0 .active).bit = true ∧
      ∃ m ∈ (noticing 3 [.warning 0 .idle]).notices, m.key = (Notice.warning 0 .active).key) ∧
    ((∀ m ∈ (noticing 3 twelveNotices).notices, m.key ≠ (Notice.warning 12 .active).key) ∧
      12 ≤ (noticing 3 twelveNotices).notices.length) ∧
    ((∀ m ∈ (noticing 3 twelveNotices.tail).notices, m.key ≠ (Notice.warning 12 .active).key) ∧
      (noticing 3 twelveNotices.tail).notices.length < 12) ∧
    (Serves .setNoticeMask 5 [3, 255] (asking .setNoticeMask [3, 255] State.reset) ∧ u16 [3, 255] 0 < 1024) ∧
    Serves .setNoticeMask 5 [4, 0] (asking .setNoticeMask [4, 0] State.reset) ∧ 1024 ≤ u16 [4, 0] 0 := by decide +kernel

theorem meets_RestartAnswers : Serves .restart 5 [] (asking .restart [] State.reset) := by decide

/-- The receiver in a state with these bytes. -/
def receiving (rx : RxState) (bytes : List Byte) : State := State.reset.modLkp fun l => { l with rx, rxBytes := bytes }

/-- R182, R183: 52 bytes and one more make the frame too long; a frame without an error and with its sum 0 modulo 256 is
offered. -/
theorem meets_FramesAreReceived : State.reset.igs.supplied = true ∧
    (after (.hostCharacter 3 false) (receiving .receiving (List.replicate 52 0))).lkp.rx = .discarding ∧
    (after (.hostCharacter 3 false) (receiving .receiving (List.replicate 51 0))).lkp.rxBytes.length = 52 ∧
    (after .idleGap (receiving .receiving [0x01, 9, 0, 0xF6])).lkp.requests = [{ kind := 1, tag := 9, body := [] }] ∧
    repliesOf .idleGap (receiving .receiving [0x01, 9, 0, 0xF5]) = [(0x7F, [byteOf Reason.check.code, 1])] := by
  decide +kernel

/-- The transmitter sends this frame. -/
def sendingFrame (f : OutFrame) (s : State) : State := s.modLkp fun l => { l with tx := .sending f }

/-- A POWER notice on its way. -/
def noticeFrame : OutFrame :=
  { isReply := false, kind := 0xA0, tag := 0, fields := [0, 0], sealed := { status := 0, overrunSets := 0, lostSets := 0 } }

theorem meets_TransmitterSends :
    ((sendingFrame noticeFrame State.reset).igs.supplied = true ∧
      ¬ (noticeFrame.isReply = true ∧ noticeFrame.kind = 0x43)) ∧
    let gap := State.reset.modLkp fun l => { l with tx := .gap, txHold := false }
    let sealing := after .identify (asking .identify [] (sendingFrame noticeFrame State.reset))
    let answering := sealing.modLkp fun l => { l with tx := .gap }
    let empty := gap.modLkp fun l => { l with notices := [] }
    (NoWorkUndone gap ∧ gap.lkp.tx = .gap ∧ gap.lkp.replies = [] ∧ gap.lkp.notices ≠ []) ∧
      (NoWorkUndone answering ∧ answering.lkp.tx = .gap ∧ answering.lkp.replies ≠ []) ∧
      NoWorkUndone empty ∧ empty.lkp.tx = .gap ∧ (after .gapEnd empty).lkp.tx = .idle := by
  refine ⟨?_, ?_, ?_, ?_⟩ <;> decide +kernel

/-- R143, R181: a character of each line bit by bit, sent and found again; the part stops in the first bit that differs. -/
theorem meets_FramesAreWellFormed :
    let polling := withTxn (.poll 0) .sending State.reset
    let poll := polling.modClc fun c => { c with txn := some { kind := .poll 0, frame := [5, 0, 0], phase := .sending } }
    let stretched := fun bits : List Bool => (true :: bits ++ [true]).flatMap fun b => List.replicate 4 b
    (sendingFrame noticeFrame State.reset).lkp.tx = .sending noticeFrame ∧ State.reset.lkp.tx = .idle ∧
      ((List.range 12).map fun n => poll.clc.drives n) =
        [false, true, false, true, false, false, false, false, false, true, true, false].map some ∧
      poll.clc.heldLow = false ∧
      hostCharacters 4 (stretched (hostBits 0xA5 ++ hostBits 1)) = [.hostCharacter 0xA5 false, .hostCharacter 1 false] ∧
      coachCharacters 4 (stretched (coachBits 0xA0 true ++ coachBits 1 false)) =
        [.answerCharacter 0xA0 true false, .answerCharacter 1 false false] ∧
      readBackCommands (coachBits 5 true) (coachBits 4 true) = [.contention] ∧
      bitsDriven (coachBits 5 true) (coachBits 4 true) = 2 := by decide +kernel

theorem meets_PowerStateMoves :
    let cranking := State.reset.modIgs fun g => { g with crank := true }
    State.reset.igs.supplied = true ∧ State.reset.igs.power = .parked ∧ running.igs.power = .run ∧
      running.igs.crank = false ∧ (inPower .crank State.reset).igs.power = .crank ∧
      running.lkp.mask.getLsbD 0 = true ∧ running.lkp.notices.length < 12 ∧
      (after .runEntry cranking).igs.power = .crank ∧ (after .parkedEntry steady).gdu.parking = false ∧
      (after .parkedEntry (withGauge 0 (fun g => { g with present := some 9 }) steady)).gdu.parking = true := by
  decide +kernel

/-- R60, R97, R101, R147: Run entry evaluates an enabled entry, with its WARNING notice, and a node that was PRESENT rejoins
with its NODE notice; Parked entry takes the level-at-stop of a LIVE road source. -/
theorem test_power_entries :
    let s := (withNode 5 present (withEntry 31 (condition .idle 0) State.reset)).modLkp fun l => { l with mask := 1023 }
    let up := after .runEntry s
    let live := fuelled .fresh ((withChannel 0 .live running).modTau fun u => { u with roadLive := true })
    (EntriesOk s ∧ s.igs.power = .parked ∧ (∀ ch : ChannelIx, s.pcu.channels[ch].state = .off) ∧
      s.wtb.view.engineRunning = false ∧ s.wtb.view.roadLive = false) ∧
    (up.wtb.entries[(31 : EntryIx)].state = .active ∧ .warning 31 .active ∈ up.lkp.notices ∧
      .node 5 .joining ∈ up.lkp.notices) ∧
    (live.igs.power ≠ .parked ∧ (after .parkedEntry live).tau.levelAtStop = some 20000) := by decide +kernel

/-- R1, R84, R169, R170, R171: what the tick brings about that ends each filter, and none of it a tick before. -/
theorem test_ticks :
    let rising : Samples := { oldest := false, middle := false, newest := true }
    let high := { quietRaw with pulses := Vector.replicate 6 true }
    let pulses := fun now => { Inputs.quiet with now, pulses := Vector.replicate 6 rising }
    let dark := { quietRaw with lines := { quietLines with switches := Vector.replicate 8 false } }
    let falling : Samples := { oldest := true, middle := true, newest := false }
    let switches := fun now => { Inputs.quiet with now, switches := Vector.ofFn fun n => if n = 7 then falling else .load true }
    let ign := { quietRaw with lines := ignitionLines }
    let crank := { quietRaw with lines := { ignitionLines with crank := true } }
    let low := { quietRaw with lines := { quietLines with reset := false } }
    tickBrings high (pulses 3) (withChannel 0 .live running) = [.pulseEdge 0 10] ∧
      tickBrings high (pulses 2) (withChannel 0 .live running) = [] ∧
      tickBrings quietRaw (pulses 3) (withChannel 0 .live running) = [] ∧
      tickBrings dark (switches 79) State.reset = [.switchChange 7] ∧ tickBrings dark (switches 78) State.reset = [] ∧
      tickBrings ign { Inputs.quiet with ignFor := 1999 } State.reset = [.runEntry] ∧
      tickBrings ign { Inputs.quiet with ignFor := 1998 } State.reset = [] ∧
      tickBrings crank { Inputs.quiet with crankFor := 799 } State.reset = [.crankOn] ∧
      tickBrings crank { Inputs.quiet with crankFor := 798 } State.reset = [] ∧
      tickBrings low { Inputs.quiet with resetFor := 39 } State.reset = [.lineReset low.lines] ∧
      tickBrings low { Inputs.quiet with resetFor := 38 } State.reset = [] ∧
      tickBrings quietRaw Inputs.quiet (State.reset.modIgs fun g => { g with resetArmed := false }) = [.resetLineHigh] := by
  decide +kernel

theorem meets_ResetsHappen : quietLines.ign = false ∧ ignitionLines.ign = true ∧ State.reset.igs.supplied = true ∧
    State.reset.igs.resetArmed = true ∧ ({ quietLines with reset := false } : InputLines).reset = false ∧
    (sendingFrame { noticeFrame with isReply := true, kind := 0x43 } State.reset).lkp.tx =
      .sending { noticeFrame with isReply := true, kind := 0x43 } ∧
    (after (.lineReset { quietLines with reset := false }) State.reset).igs.resetArmed = false := by decide +kernel

/-- R19, R23, R102, R128, R165: what a Line reset with the ignition off leaves of a state that goes on. -/
theorem test_line_reset_leaves :
    let s := fuelled .stale (withEntry 31 (condition .active 0) (withChannel 0 .live (chiming eightChimes (withNode 0 (fun n =>
      { n with misses := 2, due := true }) mirroring)))) |>.modPcu fun p => { p with fuelResidue := -10 }
    let r := after (.lineReset { quietLines with reset := false }) s
    s.igs.supplied = true ∧ s.igs.resetArmed = true ∧ s.pcu.cal.kf = 10 ∧ r.pcu.implausible = true ∧
      r.pcu.channels[(0 : ChannelIx)].state = .off ∧ r.gdu.slots[(7 : SlotIx)].state = .never ∧
      r.gdu.gauges[(0 : GaugeIx)].state = .parking ∧ r.wtb.entries[(31 : EntryIx)].state = .idle ∧ r.chs.queue = [] ∧
      r.clc.line = .off ∧ r.clc.nodes[(0 : NodeIx)].state = .joining ∧ r.clc.nodes[(0 : NodeIx)].misses = 0 := by
  decide +kernel

theorem meets_ReadRequestsAnswer :
    Serves .readWarnings 5 [] (asking .readWarnings [] State.reset) ∧ Serves .identify 5 [] (asking .identify [] State.reset) ∧
    Serves .readInstruments 5 [] (asking .readInstruments [] State.reset) ∧
    Serves .readGauges 5 [] (asking .readGauges [] State.reset) ∧ Serves .readTotals 5 [] (asking .readTotals [] State.reset) ∧
    Serves .readClock 5 [] (asking .readClock [] State.reset) ∧ Serves .readNodes 5 [] (asking .readNodes [] State.reset) ∧
    (Serves .readTrip 5 [3] (asking .readTrip [3] State.reset) ∧ u8 [3] 0 = (3 : TripIx).val ∧ 4 ≤ u8 [4] 0) ∧
    Serves .readService 5 [7] (asking .readService [7] State.reset) ∧ u8 [7] 0 = (7 : ItemIx).val ∧ 8 ≤ u8 [8] 0 := by
  decide +kernel

/-! ## States that meet the hypotheses: the Pulse Capture Unit -/

/-- SET CHANNEL of CH5 with the largest stall time and frequency, and of CH6. -/
theorem meets_SetChannelAnswers :
    let body : List Byte := [5, 1, 1, 2, 64, 0x19, 0x99]
    let cfg : ChannelConfig := { enabled := true, polarity := .falling, filter := .us400, stall := 64, maxFreq := 6553 }
    (Serves .setChannel 5 body (asking .setChannel body running) ∧ body.length = 7 ∧ u8 body 0 = (5 : ChannelIx).val ∧
      u8 body 1 = cfg.enabled.toNat ∧ Polarity.ofCode (u8 body 2) = some cfg.polarity ∧
      FilterPeriod.ofCode (u8 body 3) = some cfg.filter ∧ u8 body 4 = cfg.stall ∧ u16 body 5 = cfg.maxFreq ∧
      (asking .setChannel body running).pcu.power ≠ .parked ∧ (asking .setChannel body State.reset).pcu.power = .parked) ∧
    Serves .setChannel 5 [6, 1, 1, 2, 65, 0, 0] (asking .setChannel [6, 1, 1, 2, 65, 0, 0] running) ∧
      6 ≤ u8 [6, 1, 1, 2, 65, 0, 0] 0 := by decide +kernel

theorem meets_SetCalibrationAnswers :
    let body : List Byte := [0xFF, 0xFF, 0, 1, 255, 24, 3]
    let cal : Calibration := { kd := 65535, kd2 := 1, kf := 255, ke := 24, window := .ms1000 }
    (Serves .setCalibration 5 body (asking .setCalibration body running) ∧ u16 body 0 = cal.kd ∧ u16 body 2 = cal.kd2 ∧
      u8 body 4 = cal.kf ∧ u8 body 5 = cal.ke ∧ WindowLength.ofCode (u8 body 6) = some cal.window) ∧
    Serves .setCalibration 5 [0, 1, 0, 1, 1, 25, 0] (asking .setCalibration [0, 1, 0, 1, 1, 25, 0] running) ∧
      24 < u8 [0, 1, 0, 1, 1, 25, 0] 5 := by decide +kernel

theorem meets_ChannelsTakeEdgesAndStalls :
    State.reset.pcu.channels[(0 : ChannelIx)].state = .off ∧ State.reset.pcu.channels[(0 : ChannelIx)].stallTimer = none ∧
    (withChannel 0 .still running).pcu.channels[(0 : ChannelIx)].state = .still ∧
    (withChannel 4 .live running).pcu.channels[(4 : ChannelIx)].state = .live ∧
    (withChannel 4 .live running).pcu.channels[(4 : ChannelIx)].stallTimer ≠ none := by decide +kernel

/-- The 800th edge of CH0 is one distance unit (R13). -/
theorem meets_RoadEdgesCountDistance :
    let s := (withChannel 0 .live running).modPcu fun p => { p with roadResidue := 799 }
    let u := (withChannel 4 .live running).modPcu fun p => { p with checkResidue := 799, roadSource := .ch4 }
    let arriving := s.modTau fun t => { t with destination := some 1, fuel := { t.fuel with bucketLength := 1 } }
    s.pcu.channels[(0 : ChannelIx)].state ≠ .off ∧ (after (.pulseEdge 0 100) s).tau.odometer = 1 ∧
      u.pcu.channels[(4 : ChannelIx)].state ≠ .off ∧ (after (.pulseEdge 4 100) u).tau.odometer = 1 ∧
      (after (.pulseEdge 0 100) (u.modPcu fun p => { p with channels := s.pcu.channels })).tau.odometer = 0 ∧
      s.tau.bucket.distance + 1 < s.tau.fuel.bucketLength ∧ s.tau.destination = none ∧
      (after (.pulseEdge 0 100) arriving).tau.destination = none ∧ (after (.pulseEdge 0 100) arriving).tau.ring.length = 1 ∧
      (after (.pulseEdge 0 100) (s.modTau fun t => { t with destination := some 2 })).tau.destination = some 1 := by
  decide +kernel

/-- A supply edge at Kf − 1 is one fuel unit; a return edge at −Kf + 1 is fuel implausible (R14). -/
theorem meets_FuelEdgesCountFuel :
    let s := (withChannel 2 .live running).modPcu fun p => { p with fuelResidue := 9 }
    let u := (withChannel 3 .live running).modPcu fun p => { p with fuelResidue := -9 }
    s.igs.supplied = true ∧ s.pcu.channels[(2 : ChannelIx)].state ≠ .off ∧ (after (.pulseEdge 2 100) s).tau.bucket.fuel = 1 ∧
      u.pcu.channels[(3 : ChannelIx)].state ≠ .off ∧ (after (.pulseEdge 3 100) u).pcu.implausible = true := by
  decide +kernel

/-- A channel LIVE in COUNT mode with 100 edges in a window of 250 ms: 400.0 Hz (R7); one in PERIOD mode with a period of
0.25 s: 4.0 Hz (R8). -/
theorem meets_FrequenciesClose :
    let s := ((withChannel 1 .live running).modChannel 1 fun c => { c with mode := .count, windowCount := 100 }).modPcu
      fun p => { p with gate := some 250 }
    s.igs.supplied = true ∧ s.pcu.gate ≠ none ∧ s.pcu.channels[(1 : ChannelIx)].state = .live ∧
      s.pcu.channels[(1 : ChannelIx)].mode = .count ∧ (after (.windowExpiry 100) s).pcu.channels[(1 : ChannelIx)].lastFreq = 4000 ∧
      (withChannel 1 .still running).pcu.channels[(1 : ChannelIx)].state = .still ∧
      ({ (Channel.off (ChannelConfig.supply 0)) with
        state := .live, lastPeriod := some 25000, latestEdge := some 7 } : Channel).closedFrequency .ms250 7 0 = 40 := by
  decide +kernel

/-- A LIVE channel above its maximum for the second time goes to FAULT; one in FAULT at or below it for the second time
returns (R9). -/
theorem meets_WindowClosesWhole :
    let s := ((withChannel 1 .live running).modChannel 1 fun c =>
      { c with mode := .count, windowCount := 251, aboveMax := 1 }).modPcu fun p => { p with gate := some 250 }
    let u := ((withChannel 1 .fault running).modChannel 1 fun c =>
      { c with mode := .count, windowCount := 250, atOrBelow := 1 }).modPcu fun p => { p with gate := some 250 }
    State.reset.pcu.gate = none ∧ s.pcu.gate ≠ none ∧
      (after (.windowExpiry 100) s).pcu.channels[(1 : ChannelIx)].state = .fault ∧
      (after (.windowExpiry 100) u).pcu.channels[(1 : ChannelIx)].state = .live := by decide +kernel

/-- R15, R16: the third window that disagrees sets the speed disagreement and the third that agrees clears it; the third
fallback window passes the road source to CH4 and the third return window passes it back. -/
theorem test_cross_check :
    let counting := fun n => fun c : Channel => { c with state := .live, mode := .count, windowCount := n, stallTimer := some 20 }
    let closes := fun (n m : Nat) (cross : CrossCheck) (source : RoadSource) (disagree : Bool) =>
      after (.windowExpiry 100) (((running.modChannel 0 (counting n)).modChannel 4 (counting m)).modPcu fun p =>
        { p with gate := some 250, cross, roadSource := source, disagree })
    let third : CrossCheck := { disagreeing := 2, agreeing := 2, fallback := 2, returning := 2 }
    let fell := after (.windowExpiry 100) ((running.modChannel 4 (counting 100)).modPcu fun p =>
      { p with gate := some 250, cross := third })
    (closes 100 200 third .ch0 false).pcu.disagree = true ∧ (closes 100 101 third .ch0 true).pcu.disagree = false ∧
      (closes 100 200 { third with disagreeing := 1 } .ch0 false).pcu.disagree = false ∧
      fell.pcu.roadSource = .ch4 ∧ (closes 100 101 third .ch4 false).pcu.roadSource = .ch0 ∧
      (closes 100 101 { third with returning := 1 } .ch4 false).pcu.roadSource = .ch4 ∧
      (closes 100 200 third .ch4 false).pcu.roadSource = .ch4 := by decide +kernel

/-- R12, R52, R60: CH0 as road source with 100 edges in a window of 250 ms, 180.0 units: the OPEN trip and the gauge
follow, and PAUSED does not; with its second window above the maximum CH0 goes to FAULT, its gauge is HELD, and the
level-at-stop is taken from a FRESH fuel slot alone. -/
theorem test_window_result :
    let moving := withGauge 0 (fun g => { g with state := .tracking, present := some 9 }) running
    let s := fun (edges above : Nat) (fuel : SlotState) =>
      fuelled fuel (((withChannel 0 .live moving).modChannel 0 fun c =>
        { c with mode := .count, windowCount := edges, aboveMax := above }).modPcu fun p => { p with gate := some 250 })
        |>.modTau fun u => { u with
          roadLive := true
          trips := (u.trips.set (0 : TripIx) { u.trips[(0 : TripIx)] with state := .open, maxSpeed := 7 }).set (1 : TripIx)
            { u.trips[(1 : TripIx)] with state := .paused, maxSpeed := 7 } }
    let closes := fun edges above fuel => after (.windowExpiry 100) (s edges above fuel)
    let went := closes 100 0 .fresh
    (went.tau.trips[(0 : TripIx)].maxSpeed = 1800 ∧ went.tau.trips[(1 : TripIx)].maxSpeed = 7 ∧
      went.gdu.gauges[(0 : GaugeIx)].target = 810 ∧ went.tau.levelAtStop = none) ∧
    ((s 751 1 .fresh).tau.roadLive = true ∧ (s 751 1 .fresh).pcu.channels[(0 : ChannelIx)].state = .live ∧
      (closes 751 1 .fresh).gdu.gauges[(0 : GaugeIx)].state = .held ∧
      (closes 751 1 .fresh).gdu.gauges[(0 : GaugeIx)].target = 9 ∧
      (closes 751 1 .fresh).tau.levelAtStop = some 20000 ∧ (closes 751 1 .stale).tau.levelAtStop = none) := by
  decide +kernel

/-- R5, R16, R60: CH4, the road source, goes to FAULT in the expiry that counts the third return window, with CH0 LIVE: its
fall takes the level-at-stop, and the source that it passes to is LIVE. A SET CHANNEL of the source takes one too. -/
theorem test_source_passes_in_its_fall :
    let cross : CrossCheck := { disagreeing := 0, agreeing := 0, fallback := 0, returning := 2 }
    let s := fuelled .fresh ((((withChannel 0 .live (withChannel 4 .live running)).modChannel 4 fun c =>
      { c with mode := .count, windowCount := 751, aboveMax := 1 }).modPcu fun p =>
        { p with gate := some 250, roadSource := .ch4, cross }).modTau fun u => { u with roadLive := true })
    let t := after (.windowExpiry 100) s
    let set := after .setChannel (asking .setChannel [4, 1, 0, 0, 20, 11, 184] s)
    s.pcu.channels[(4 : ChannelIx)].state = .live ∧ t.pcu.channels[(4 : ChannelIx)].state = .fault ∧
      t.pcu.roadSource = .ch0 ∧ t.pcu.channels[(0 : ChannelIx)].state = .live ∧ t.tau.roadLive = true ∧
      t.tau.levelAtStop = some 20000 ∧ set.tau.roadLive = false ∧ set.tau.levelAtStop = some 20000 := by decide +kernel

/-- R4, R29, R60, R88: the stall expiry of the road source takes the level-at-stop, its gauge goes for 0, and so does the
WTB's road speed. -/
theorem test_stall_takes_level :
    let s := fuelled .fresh (withChannel 0 .live (withGauge 0 (fun g => { g with state := .held, present := some 9 })
      (running.modTau fun u => { u with roadLive := true }))) |>.modWtb fun w =>
        { w with view := { w.view with roadSpeed := 77, engineSpeed := 78 } }
    let t := after (.stallExpiry 0) s
    (s.tau.roadLive = true ∧ s.pcu.roadSource = .ch0 ∧ s.pcu.channels[(0 : ChannelIx)].stallTimer ≠ none) ∧
      t.tau.levelAtStop = some 20000 ∧ t.tau.roadLive = false ∧ t.gdu.gauges[(0 : GaugeIx)].state = .tracking ∧
      t.gdu.gauges[(0 : GaugeIx)].target = 0 ∧ t.wtb.view.roadSpeed = 0 ∧ t.wtb.view.engineSpeed = 78 := by
  decide +kernel

/-- R53: an OPEN trip that comes to the maximum of its distance, its fuel or its running seconds brings SATURATED. -/
theorem test_trips_saturate :
    let s := ((withChannel 2 .live (withChannel 0 .live running)).modTau fun u => { u with
      trips := u.trips.set (3 : TripIx) { u.trips[(3 : TripIx)] with
        state := .open, distance := 999998, fuel := 9999998, running := 3599998 } }).modLkp fun l => { l with mask := 256 }
    let brings := fun (c : Instr) (p : Pcu → Pcu) =>
      decide (Notice.trip ((3 : TripIx).castSucc) .saturated ∈ (after c (s.modPcu p)).lkp.notices)
    brings (.pulseEdge 0 100) (fun p => { p with roadResidue := 799 }) = true ∧
      brings (.pulseEdge 0 100) (fun p => { p with roadResidue := 798 }) = false ∧
      brings (.pulseEdge 2 100) (fun p => { p with fuelResidue := 9 }) = true ∧ brings .secondBoundary id = true := by decide +kernel

/-! ## States that meet the hypotheses: slots and gauges -/

/-- SET SLOT of slot 7 at the least times, and its three refusals. -/
theorem meets_SetSlotAnswers :
    (Serves .setSlot 5 [7, 5, 1] (asking .setSlot [7, 5, 1] State.reset) ∧ u8 [7, 5, 1] 0 = (7 : SlotIx).val ∧
      5 ≤ u8 [7, 5, 1] 1 ∧ 1 ≤ u8 [7, 5, 1] 2) ∧
    (Serves .setSlot 5 [8, 5, 1] (asking .setSlot [8, 5, 1] State.reset) ∧ 8 ≤ u8 [8, 5, 1] 0) ∧
    u8 [7, 4, 1] 1 < 5 ∧ u8 [7, 5, 0] 2 = 0 ∧
    Serves .sensorReport 5 [byteOf (7 : SlotIx), 0, 1] (asking .sensorReport [7, 0, 1] State.reset) ∧
    (let s := withSlot 7 (fun x => { x with state := .fresh, staleTimer := some 20 }) State.reset
     s.gdu.slots[(7 : SlotIx)].state = .fresh ∧ s.gdu.slots[(7 : SlotIx)].staleTimer ≠ none ∧
       (after (.slotStaleExpiry 7) s).gdu.slots[(7 : SlotIx)].lostTimer = some 10) := by decide +kernel

theorem meets_ReportsReachSlots :
    (Serves .sensorReport 5 [0, 0, 1, 8, 0, 1] (asking .sensorReport [0, 0, 1, 8, 0, 1] State.reset) ∧
      8 ≤ u8 [0, 0, 1, 8, 0, 1] (3 * 1)) ∧
    (let pairs : List (SlotIx × Byte × Byte) := [(7, 0xFF, 0xFE), (0, 0, 1)]
     pairs.length ≤ 8 ∧ Serves .sensorReport 5 (pairs.flatMap fun p => [byteOf p.1, p.2.1, p.2.2])
      (asking .sensorReport [7, 0xFF, 0xFE, 0, 0, 1] State.reset)) ∧
    (let bound := fun g : Gauge => { g with cfg := { g.cfg with source := .slot 7, damping := 2 }, state := .void }
     let s := withGauge 2 (fun g => { bound g with present := some 0, buffer := [5, 6] }) running
     Serves .sensorReport 5 [byteOf (7 : SlotIx), 0, 8] (asking .sensorReport [7, 0, 8] s) ∧
       s.tau.fuel.slot ≠ some 7 ∧ s.gdu.gauges[(2 : GaugeIx)].cfg.source = .slot 7 ∧
       (after .sensorReport (asking .sensorReport [7, 0, 8] s)).gdu.gauges[(2 : GaugeIx)].buffer = [6, 8]) ∧
    (let stopped := running.modTau fun u =>
       { u with levelAtStop := some 10000, fuel := { u.fuel with slot := some 7, threshold := 5000 } }
     let bound := withGauge 2 (fun g => { g with cfg := { g.cfg with source := .slot 7, damping := 2 }, buffer := [5] }) stopped
     let report := fun (hi lo : Byte) => after .sensorReport (asking .sensorReport [7, hi, lo] bound)
     Serves .sensorReport 5 [byteOf (7 : SlotIx), 0, 187] (asking .sensorReport [7, 0, 187] bound) ∧
       bound.tau.roadLive = false ∧ running.tau.levelAtStop = none ∧
       (report 0 187).tau.levelAtStop = some 14960 ∧ (report 0 187).tau.trips[(2 : TripIx)].resetBy = none ∧
       (report 0 188).tau.levelAtStop = some 15040 ∧ (report 0 188).tau.trips[(2 : TripIx)].resetBy = some .auto ∧
       (report 0 188).gdu.gauges[(2 : GaugeIx)].buffer = [188, 188] ∧
       (report 0 187).gdu.gauges[(2 : GaugeIx)].buffer = [5, 187]) := by
  decide +kernel

theorem meets_SlotTimersExpire :
    let fresh := withSlot 0 (fun x => { x with state := .fresh, staleTimer := some 20 }) running
    let stale := withSlot 0 (fun x => { x with state := .stale, lostTimer := some 10 }) running
    let bound := withGauge 2 (fun g => { g with cfg := { g.cfg with source := .slot 0 }, state := .held }) stale
    running.gdu.slots[(0 : SlotIx)].state ≠ .fresh ∧ running.gdu.slots[(0 : SlotIx)].state ≠ .stale ∧
      fresh.gdu.slots[(0 : SlotIx)].state = .fresh ∧ fresh.gdu.slots[(0 : SlotIx)].staleTimer ≠ none ∧
      bound.gdu.slots[(0 : SlotIx)].state = .stale ∧ bound.gdu.slots[(0 : SlotIx)].lostTimer ≠ none ∧
      bound.gdu.gauges[(2 : GaugeIx)].cfg.source = .slot 0 ∧
      (after (.slotLostExpiry 0) bound).gdu.gauges[(2 : GaugeIx)].state = .void := by decide +kernel

/-- SET GAUGE of G5 at the limits of its ranges, with two points. -/
theorem meets_SetGaugeAnswers :
    let body : List Byte := [5, 5, 255, 4, 0x38, 0, 20, 16, 2, 0, 0, 0, 0, 0, 1, 4, 0x38]
    let cfg : GaugeConfig := { source := .fixed 255, fullScale := 1080, slew := 20, damping := 16, table := [(0, 0), (1, 1080)] }
    let s := withGauge 5 (fun g => { g with state := .rest, present := some 0 }) State.reset
    let far := withGauge 5 (fun g => { g with state := .held, present := some 1081 }) running
    (Serves .setGauge 5 body (asking .setGauge body s) ∧ body.length = 9 + 4 * u8 body 8 ∧ u8 body 0 = (5 : GaugeIx).val ∧
      GaugeSource.ofCode (u8 body 1) (u8 body 2) = some cfg.source ∧ u16 body 3 = cfg.fullScale ∧ u16 body 5 = cfg.slew ∧
      u8 body 7 = cfg.damping ∧
      cfg.table = (List.range (u8 body 8)).map (fun i => ((u16 body (9 + 4 * i) : Int), u16 body (11 + 4 * i))) ∧
      repliesOf .setGauge (asking .setGauge body s) = [(ReqKind.setGauge.code + 0x40, [])]) ∧
    repliesOf .setGauge (asking .setGauge body far) =
      [(0x7F, [byteOf Reason.state.code, ReqKind.setGauge.code])] := by decide +kernel

theorem meets_TablesInterpolate :
    let table : List (Int × Nat) := [(-10, 0), (0, 100), (10, 50)]
    2 ≤ table.length ∧ increasing table = true ∧ table.head? = some (-10, 0) ∧ table.getLast? = some (10, 50) ∧
      table[1]? = some (0, 100) ∧ table[2]? = some (10, 50) ∧ tableLookup table 3 = 85 ∧ tableLookup table (-11) = 0 ∧
      tableLookup table 10 = 50 := by decide +kernel

theorem meets_SweepAndHoming :
    let homing := withGauge 3 (fun g => { g with state := .homing, present := none, homingLeft := some 11 }) steady
    let sweeping := withGauge 3 (fun g => { g with state := .sweep, phase := some .up }) steady
    Serves .sweepGauges 5 [] (asking .sweepGauges [] steady) ∧ steady.gdu.power = .run ∧
      (¬ ∃ g : GaugeIx, steady.gdu.gauges[g].state = .homing) ∧ (¬ ∃ g : GaugeIx, steady.gdu.gauges[g].state = .sweep) ∧
      (∃ g : GaugeIx, homing.gdu.gauges[g].state = .homing) ∧ (∃ g : GaugeIx, sweeping.gdu.gauges[g].state = .sweep) ∧
      (∀ h : GaugeIx, h ≠ 3 → homing.gdu.gauges[h].state ≠ .homing) ∧ homing.gdu.power ≠ .crank := by decide +kernel

/-- A tracking needle one step from its target, a sweep's needle at its turn and at its end, and the last needle of a
parking, in gauge tables that keep their invariant. -/
theorem meets_NeedlesStep :
    let tracking := withGauge 3 (fun g => { g with state := .tracking, target := 1 }) steady
    let up := withGauge 3 (fun g => { g with phase := some .up, present := some 359, target := 360 }) swept
    let down := withGauge 3 (fun g => { g with phase := some .down, present := some 1 }) swept
    let both := withGauge 2 (fun g => { g with phase := some .up, target := 360 }) down
    let parking := ((inPower .parked steady).modGdu fun d =>
      { d with parking := true, gauges := mapAll (fun g => { g with state := .parking }) d.gauges })
    let last := withGauge 3 (fun g => { g with present := some 1 }) parking
    let two := withGauge 2 (fun g => { g with present := some 2 }) last
    (GaugesOk tracking.gdu ∧ GaugesOk up.gdu ∧ GaugesOk down.gdu) ∧
      (GaugesOk both.gdu ∧ GaugesOk last.gdu ∧ GaugesOk two.gdu) ∧
      tracking.gdu.gauges[(3 : GaugeIx)].present = some 0 ∧
      (after (.needleStep 3) tracking).gdu.gauges[(3 : GaugeIx)].present = some 1 ∧
      (after (.needleStep 3) up).gdu.gauges[(3 : GaugeIx)].phase = some .down ∧
      (after (.needleStep 3) both).gdu.gauges[(3 : GaugeIx)].phase = some .wait ∧
      (after (.needleStep 2) both).gdu.gauges[(2 : GaugeIx)].phase = some .up ∧
      (∀ h : GaugeIx, h ≠ 3 → down.gdu.gauges[h].state = .sweep → down.gdu.gauges[h].phase = some .wait) ∧
      (after (.needleStep 3) down).gdu.gauges[(0 : GaugeIx)].state = .tracking ∧
      (∀ h : GaugeIx, last.gdu.gauges[h].state ≠ .sweep) ∧ (after (.needleStep 3) last).gdu.parking = false ∧
      (after (.needleStep 3) two).gdu.parking = true := by
  refine ⟨⟨?_, ?_, ?_⟩, ⟨?_, ?_, ?_⟩, ?_⟩ <;> decide +kernel

/-! ## States that meet the hypotheses: trips, fuel and the clock -/

/-- The figures of notes 22 and 23 (R57, R59), the recent economy (R64), and what makes them absent. -/
theorem test_derived_values :
    let ring := List.replicate 16 ({ distance := 10, fuel := 100, seconds := 72 } : Bucket)
    let s := fun st ring => (fuelled st running).modTau fun u => { u with ring, destination := some 2500 }
    let clock := { running.clk with
      state := .set, time := { year := 2023, month := 2, day := 28, hour := 14, minute := 37, second := 50 } }
    computedRange (s .fresh ring) = some 2000 ∧ computedRange (s .stale ring) = none ∧
      computedRange (s .fresh (ring.take 3)) = none ∧ (s .fresh ring).tau.recentEconomy = some 100 ∧
      eta (s .fresh ring).tau clock = some (19, 37) ∧ eta (s .fresh ring).tau running.clk = none ∧
      eta (s .fresh (ring.take 3)).tau clock = none := by decide +kernel

theorem meets_TripRequestsAnswer :
    (Serves .tripControl 5 [3, 0] (asking .tripControl [3, 0] running) ∧ u8 [3, 0] 0 = (3 : TripIx).val ∧ u8 [3, 0] 1 = 0) ∧
    (Serves .tripControl 5 [4, 3] (asking .tripControl [4, 3] running) ∧ 4 ≤ u8 [4, 3] 0) ∧ 4 ≤ u8 [3, 4] 1 ∧
    repliesOf .tripControl (asking .tripControl [3, 3] running) =
      [(0x7F, [byteOf Reason.state.code, ReqKind.tripControl.code])] ∧
    Serves .setDestination 5 [0xF, 0x42, 0x3F] (asking .setDestination [0xF, 0x42, 0x3F] running) ∧
    u24 [0xF, 0x42, 0x3F] 0 = 999999 ∧ u24 [0xF, 0x42, 0x40] 0 = 1000000 ∧ u24 [0xFF, 0xFF, 0xFF] 0 = 0xFFFFFF := by
  decide +kernel

theorem meets_RestoreOdometerAnswers :
    let s := State.reset.modTau fun u => { u with accInvalid := 1 }
    let valid := State.reset.modTau fun u => { u with odometerState := .valid }
    Serves .restoreOdometer 5 [0x98, 0x96, 0x7E] (asking .restoreOdometer [0x98, 0x96, 0x7E] s) ∧
      s.tau.odometerState = .invalid ∧ u24 [0x98, 0x96, 0x7E] 0 = 9999999 - s.tau.accInvalid ∧
      9999999 - s.tau.accInvalid < u24 [0x98, 0x96, 0x7F] 0 ∧ 9999999 < u24 [0x98, 0x96, 0x80] 0 ∧
      valid.tau.odometerState = .valid ∧
      (after .restoreOdometer (asking .restoreOdometer [0x98, 0x96, 0x7E] s)).tau.odometer = 9999999 := by decide +kernel

/-- Two tank points; the slot absent, the threshold and the bucket length at their limits. -/
theorem meets_SetFuelOptionsAnswers :
    let body : List Byte := [0xFF, 0xFF, 0xFE, 255, 2, 0x80, 0, 0, 0, 0, 0x7F, 0xFF, 0x98, 0x96, 0x7F]
    let o : FuelOptions := { slot := none, threshold := 65534, bucketLength := 255, tank := [(-32768, 0), (32767, 9999999)] }
    (Serves .setFuelOptions 5 body (asking .setFuelOptions body State.reset) ∧ body.length = 5 + 5 * u8 body 4 ∧
      u8 body 0 = (match o.slot with | some n => n.val | none => 0xFF) ∧ u16 body 1 = o.threshold ∧
      u8 body 3 = o.bucketLength ∧
      o.tank = (List.range (u8 body 4)).map (fun i => (s16 body (5 + 5 * i), u24 body (7 + 5 * i))) ∧
      repliesOf .setFuelOptions (asking .setFuelOptions body State.reset) = [(ReqKind.setFuelOptions.code + 0x40, [])]) ∧
    u16 [8, 0, 0] 1 = 0 ∧ 8 ≤ u8 [8, 0, 0] 0 := by decide +kernel

/-- 29 February exists in 2000 and not in 2001. -/
theorem meets_ClockRequestsAnswer :
    let leap : List Byte := [7, 208, 2, 29, 23, 59, 59]
    let none : List Byte := [7, 209, 2, 29, 23, 59, 59]
    let alarm : List Byte := [3, 1, 23, 59, 127, 1, 7, 2]
    (Serves .setClock 5 leap (asking .setClock leap State.reset) ∧
      (after .setClock (asking .setClock leap State.reset)).clk.state = .set) ∧
    repliesOf .setClock (asking .setClock none State.reset) =
      [(0x7F, [byteOf Reason.range.code, ReqKind.setClock.code])] ∧
    (Serves .setAlarm 5 alarm (asking .setAlarm alarm State.reset) ∧ u8 alarm 0 = (3 : AlarmIx).val ∧
      u8 alarm 4 = (127 : BitVec 7).toNat ∧ AlarmRepeat.ofCode (u8 alarm 5) = some .daily ∧
      u8 alarm 6 = (7 : PatternIx).val ∧ Destination.ofCode (u8 alarm 7) = some .both) ∧
    24 ≤ u8 [0, 0, 24] 2 ∧
    (Serves .setClockOptions 5 [1, 225] (asking .setClockOptions [1, 225] State.reset) ∧
      u8 [1, 225] 0 = true.toNat ∧ -31 ≤ s8 [1, 225] 1 ∧ s8 [1, 225] 1 ≤ 31) ∧ s8 [1, 224] 1 < -31 := by decide +kernel

/-- The end of 2079 (R68), and a midnight that leaves the clock SET with an item's days counting down (R135). -/
theorem meets_SecondsPass :
    let lastOf2079 : ClockTime := { year := 2079, month := 12, day := 31, hour := 23, minute := 59, second := 59 }
    let midnight : ClockTime := { year := 2023, month := 2, day := 28, hour := 23, minute := 59, second := 59 }
    let s := State.reset.modClk fun c => { c with time := lastOf2079, state := .set }
    let item := { ServiceItem.supply with enabled := true, daysInterval := some 10, remainingDays := some 10 }
    let u := (State.reset.modClk fun c => { c with time := midnight, state := .set }).modSvs fun v =>
      { v with items := v.items.set (0 : ItemIx) item }
    s.igs.supplied = true ∧ (after .secondBoundary s).clk.state = .unset ∧
      (after .secondBoundary u).clk.time = { year := 2023, month := 3, day := 1, hour := 0, minute := 0, second := 0 } ∧
      (after .secondBoundary u).svs.items[(0 : ItemIx)].remainingDays = some 9 := by decide +kernel

/-- R78, R79: A3 set ONCE for every day and A0 DAILY for Wednesdays meet 00:00 on Wednesday, 1 March 2023. -/
theorem test_alarms_match :
    let midnight : ClockTime := { year := 2023, month := 2, day := 28, hour := 23, minute := 59, second := 59 }
    let once := { Alarm.supply with enabled := true, dayMask := 0, rep := .once }
    let daily := { Alarm.supply with enabled := true, dayMask := 8, rep := .daily }
    let s := (State.reset.modClk fun c =>
      { c with time := midnight, state := .set, alarms := (c.alarms.set (0 : AlarmIx) daily).set (3 : AlarmIx) once }).modLkp
      fun l => { l with mask := 8 }
    let t := after .secondBoundary s
    (∀ w : EntryIx, s.wtb.entries[w].cfg.pattern = none) ∧ s.chs.queue.length ≤ 4 ∧
      Notice.alarm 0 ∈ t.lkp.notices ∧ Notice.alarm 3 ∈ t.lkp.notices ∧ t.chs.holds (.alarm 0) = true ∧
      t.chs.holds (.alarm 3) = true ∧ t.clk.alarms[(0 : AlarmIx)].enabled = true ∧
      t.clk.alarms[(3 : AlarmIx)].enabled = false := by decide +kernel

/-! ## States that meet the hypotheses: warnings, switches and lamps -/

theorem meets_EntriesAreEvaluated :
    let idle := withEntry 31 (condition .idle 1) running
    let once := withEntry 31 (condition .idle 0) running
    let gone := withEntry 31 (fun e => { condition .active 0 e with linkCondition := false }) running
    State.reset.wtb.view.power = .parked ∧ State.reset.wtb.entries[(31 : EntryIx)].cfg.parkedLive = false ∧
      idle.wtb.view.power ≠ .parked ∧ (evaluateEntry 31 idle).wtb.entries[(31 : EntryIx)].state = .pending ∧
      (evaluateEntry 31 idle).wtb.entries[(31 : EntryIx)].qualifyTimer = some 1 ∧
      (evaluateEntry 31 once).wtb.entries[(31 : EntryIx)].state = .active ∧
      (evaluateEntry 31 once).chs.holds (.warning 31) = true ∧ once.chs.queue.length < 8 ∧
      (evaluateEntry 31 gone).wtb.entries[(31 : EntryIx)].state = .idle := by decide +kernel

/-- Whether a state meets what O44 asks before it says that a command evaluates entry 31. -/
def isWatching (s : State) : Bool :=
  s.igs.supplied && decide (EntriesOk s) && decide (EntriesCurrent s.wtb) && decide (ServiceItemsOk s.svs) &&
    decide (PulseCopiesOk s) && decide (StateCopiesOk s) && decide (s.wtb.watches s.wtb.entries[(31 : EntryIx)])

/-- RUN entered after reset, and then entry 31 enabled with a source and a first gate and evaluated. -/
def watched (source : WarnSource) (gate1 : Gate) (s : State) : State :=
  evaluateEntry 31 (withEntry 31 (fun e =>
    { e with cfg := { e.cfg with enabled := true, source, gate1, pattern := some 0 }, linkCondition := true }) s)

/-- The state of entry 31 before and after a command. -/
def moves (c : Instr) (s : State) : EntryState × EntryState :=
  (s.wtb.entries[(31 : EntryIx)].state, (after c s).wtb.entries[(31 : EntryIx)].state)

/-- R92: a first edge and a stall move an entry gated by MOVING; neither a window result nor a further edge leaves the
premises of O44. -/
theorem meets_EntriesAreEvaluated_of_pulses :
    let still := watched .linkCondition .moving (after .runEntry State.reset)
    let live := after (.pulseEdge 0 100) still
    (isWatching still = true ∧ moves (.pulseEdge 0 100) still = (.idle, .active) ∧ still.pcu.channels[(0 : ChannelIx)].state = .still) ∧
    (isWatching live = true ∧ moves (.stallExpiry 0) live = (.active, .idle) ∧ live.pcu.channels[(0 : ChannelIx)].state ≠ .still) ∧
    (after (.windowExpiry 200) live).pcu.roadSource = live.pcu.roadSource ∧
      ∀ ch : ChannelIx, (after (.windowExpiry 200) live).pcu.channels[ch].state = live.pcu.channels[ch].state := by
  decide +kernel

/-- R92: a report, a stale slot, a switch, a request and a rear event move the entry that names what they change. -/
theorem meets_EntriesAreEvaluated_of_changes :
    let on := after .runEntry State.reset
    let reporting := asking .sensorReport [7, 0, 9] (watched (.valueAbove (.slot 7)) .none on)
    let fresh := watched (.slotStale 7) .none (after .sensorReport (asking .sensorReport [7, 0, 9] on))
    let switching := watched (.switch 7) .none on
    let setting := asking .setClock [7, 231, 3, 1, 12, 0, 0] (watched .clockUnset .none on)
    (Serves .sensorReport 5 ([((7 : SlotIx), (0 : Byte), (9 : Byte))].flatMap fun p => [byteOf p.1, p.2.1, p.2.2]) reporting ∧
      isWatching reporting = true ∧ moves .sensorReport reporting = (.idle, .active)) ∧
    (isWatching fresh = true ∧ moves (.slotStaleExpiry 7) fresh = (.idle, .active)) ∧
    (isWatching switching = true ∧ (moves (.switchChange 7) switching).2 ≠ (moves (.switchChange 7) switching).1) ∧
    (isWatching setting = true ∧ moves .setClock setting = (.active, .idle)) := by decide +kernel

/-- R92: the CLOCK_SET that a CONSOLE's poll answer carries moves an entry of source CLOCK_UNSET. -/
theorem meets_EntriesAreEvaluated_of_answers :
    let plain := fun v : Byte => ({ value := v, mark := false, error := false } : CoachChar)
    let data : List Byte := [8, 0, 5, 43, 3, 1, 0, 0, 0]
    let answer := ({ value := 0xA0, mark := true, error := false } : CoachChar) :: (data ++ [checkByte data]).map plain
    let s := withTxn (.poll 0) (.receiving answer) (watched .clockUnset .none
      (after .setNode (asking .setNode [0, 1, 1, 1, 0, 255] (after .runEntry State.reset))))
    isWatching s = true ∧ s.wtb.entries[(31 : EntryIx)].cfg.dest ≠ .rear ∧ moves .answerComplete s = (.active, .idle) := by
  decide +kernel

/-- SET WARNING of W31: a slot value below −32768 + 1, both gates on switch 7, every optional field present. -/
theorem meets_WarningRequestsAnswer :
    let body : List Byte := [31, 1, 2, 1, 11, 0x80, 1, 0x7F, 0xFF, 31, 23, 255, 7, 2, 0, 255, 11, 7]
    let bad : List Byte := [31, 1, 2, 7, 0, 0, 0, 0, 0, 0, 0, 0, 7, 2, 0, 255, 11, 1]
    let c : EntryConfig :=
      { enabled := true, cls := .urgent, source := .valueBelow (.slot 7), threshold := -32767, hysteresis := 32767,
        gate1 := .switchOff 7, gate2 := .switchOn 7, qualify := 255, pattern := some 7, dest := .both, rep := some 255,
        lamp := some 11, latching := true, parkedLive := true, mirrorRear := true }
    (Serves .setWarning 5 body (asking .setWarning body running) ∧ u8 body 0 = (31 : EntryIx).val ∧
      ChimeClass.ofCode (u8 body 2) = some c.cls ∧ WarnSource.ofCode (u8 body 3) (u8 body 4) = some c.source ∧
      s16 body 5 = c.threshold ∧ s16 body 7 = c.hysteresis ∧ Gate.ofCode (u8 body 9) = some c.gate1 ∧
      Gate.ofCode (u8 body 10) = some c.gate2 ∧ u16 body 14 = (match c.rep with | some r => r | none => 0xFFFF) ∧
      u8 body 17 = c.latching.toNat + 2 * c.parkedLive.toNat + 4 * c.mirrorRear.toNat ∧
      repliesOf .setWarning (asking .setWarning body running) = [(ReqKind.setWarning.code + 0x40, [])]) ∧
    (u8 bad 3 = 7 ∧ u8 bad 17 % 2 = 1 ∧ repliesOf .setWarning (asking .setWarning bad running) =
      [(0x7F, [byteOf Reason.range.code, ReqKind.setWarning.code])]) ∧
    (Serves .linkCondition 5 [31, 1] (asking .linkCondition [31, 1] running) ∧ u8 [31, 1] 1 = true.toNat ∧
      running.wtb.entries[(31 : EntryIx)].cfg.source = .linkCondition ∧ 32 ≤ u8 [32, 1] 0) ∧
    (withEntry 31 (fun e => { e with cfg := c }) running).wtb.entries[(31 : EntryIx)].cfg.source ≠ .linkCondition := by
  decide +kernel

theorem meets_AcknowledgeAnswers :
    let s := withEntry 0 (condition .resolved 0) (withEntry 31 (condition .active 0) running)
    Serves .acknowledge 5 [31] (asking .acknowledge [31] s) ∧ u8 [31] 0 = (31 : EntryIx).val ∧
      s.wtb.entries[(31 : EntryIx)].state = .active ∧ s.wtb.entries[(0 : EntryIx)].state = .resolved ∧
      s.wtb.entries[(1 : EntryIx)].state = .idle ∧ 32 ≤ u8 [32] 0 ∧ u8 [255] 0 = 0xFF ∧
      repliesOf .acknowledge (asking .acknowledge [255] s) = [(ReqKind.acknowledge.code + 0x40, [2])] := by decide +kernel

/-- R97, R99: an acknowledged entry is notified ACKED, an ARRIVAL entry IDLE in the same place of the queue. -/
theorem test_acknowledge_notices :
    let s := withEntry 31 (fun e => let x := condition .active 0 e
      { x with cfg := { x.cfg with source := .arrival }, eventPending := true }) (withEntry 0 (condition .active 0) running)
    let t := after .acknowledge (asking .acknowledge [255] (s.modLkp fun l => { l with mask := 2, notices := [] }))
    t.lkp.notices = [.warning 0 .acked, .warning 31 .idle] ∧
      (s.wtb.entries[(31 : EntryIx)].eventPending = true ∧ t.wtb.entries[(31 : EntryIx)].eventPending = false) ∧
      (after .acknowledge (asking .acknowledge [255]
        (chiming [warningChime 0 .caution 1, linkChime 2, warningChime 31 .caution 3] s))).chs.queue = [linkChime 2] := by
  decide +kernel

/-- R97, R189: with the notice queue full a change of an entry sets the notices-lost marker. -/
theorem test_entry_notice_lost :
    let full := running.modLkp fun l => { l with mask := 2, notices := twelveNotices }
    let pending := withEntry 31 (fun e => { condition .pending 1 e with qualifyTimer := some 1 }) full
    (evaluateEntry 31 (withEntry 31 (condition .idle 0) full)).lkp.noticesLost = true ∧
      (evaluateEntry 31 (withEntry 31 (condition .idle 1) full)).lkp.noticesLost = true ∧
      (after (.qualifyExpiry 31) pending).lkp.noticesLost = true := by decide +kernel

theorem meets_SwitchesAreHanded :
    Serves .setSwitch 5 [7, 1] (asking .setSwitch [7, 1] running) ∧ u8 [7, 1] 0 = (7 : SwitchIx).val ∧
      u8 [7, 1] 1 = true.toNat ∧ 8 ≤ u8 [8, 1] 0 ∧ 2 ≤ u8 [7, 2] 1 ∧
      (after .setSwitch (asking .setSwitch [7, 1] running)).wtb.switches[(7 : SwitchIx)].active = true ∧
      running.wtb.switches[(7 : SwitchIx)].active = false := by decide +kernel

theorem meets_LampsShow :
    let lit := fun st => (withEntry 31 (fun e => { e with cfg := { e.cfg with lamp := some 11 }, state := st }) running).wtb
    Serves .setLamp 5 [11, 1, 2] (asking .setLamp [11, 1, 2] running) ∧ LampMode.ofCode 1 = some .link ∧
      LampHost.ofCode 2 = some .flash ∧ 12 ≤ u8 [12, 1, 2] 0 ∧ running.wtb.lamps[(11 : LampIx)].mode = .warning ∧
      running.wtb.bulbCheck = none ∧ (lit .active).lampShow 11 = .flashing ∧ (lit .resolved).lampShow 11 = .flashing ∧
      (lit .acked).lampShow 11 = .steady ∧ (lit .idle).lampShow 11 = .dark ∧
      ({ (lit .idle) with bulbCheck := some 3000 } : Wtb).lampShow 11 = .steady := by decide +kernel

theorem meets_EntryTimersExpire :
    let pending := withEntry 31 (fun e => { condition .pending 1 e with qualifyTimer := some 1 }) running
    let active := withEntry 31 (fun e => { condition .active 1 e with repeatTimer := some 5 }) running
    running.wtb.entries[(31 : EntryIx)].state ≠ .pending ∧ pending.wtb.entries[(31 : EntryIx)].state = .pending ∧
      pending.wtb.entries[(31 : EntryIx)].qualifyTimer ≠ none ∧
      (after (.qualifyExpiry 31) pending).wtb.entries[(31 : EntryIx)].state = .active ∧
      active.wtb.entries[(31 : EntryIx)].state = .active ∧ active.wtb.entries[(31 : EntryIx)].repeatTimer ≠ none ∧
      (after (.repeatExpiry 31) active).chs.holds (.warning 31) = true ∧
      (after (.qualifyExpiry 31) (chiming eightChimes pending)).wtb.entries[(31 : EntryIx)].repeatTimer = some 5 ∧
      (chiming eightChimes pending).chs.victim = some (warningChime 7 .caution 7) ∧
      pending.wtb.entries[(31 : EntryIx)].cfg.cls.rank ≤ ChimeClass.caution.rank := by decide +kernel

/-! ## States that meet the hypotheses: chimes and service -/

theorem meets_ChimeRequestsAnswer :
    let body : List Byte := [7, 2, 2, 15]
    let refused : List Byte := [7, 1, 2, 15]
    let full := chiming eightChimes State.reset
    let replacing := chiming [linkChime 3] State.reset
    (Serves .chime 5 body (asking .chime body State.reset) ∧ u8 body 0 = (7 : PatternIx).val ∧
      ChimeClass.ofCode (u8 body 1) = some .urgent ∧ Destination.ofCode (u8 body 2) = some .both ∧ u8 body 3 ≤ 15 ∧
      16 ≤ u8 [0, 0, 0, 16] 3) ∧
    (replacing.chs.queue.find? (fun q => decide (q.source = .link)) = some (linkChime 3) ∧
      (linkChime 3).tag = some 3 ∧ Serves .cancelChime 5 [] (asking .cancelChime [] replacing)) ∧
    (State.reset.chs.holds .link = false ∧ State.reset.chs.queue.length < 8 ∧ State.reset.chs.player = none) ∧
    (full.chs.holds .link = false ∧ 8 ≤ full.chs.queue.length ∧ full.chs.victim = some (warningChime 7 .caution 7) ∧
      ChimeClass.caution.rank < ChimeClass.urgent.rank) ∧
    repliesOf .chime (asking .chime refused full) = [(0x7F, [byteOf Reason.full.code, ReqKind.chime.code])] := by
  decide +kernel

/-- R96, R112, R114, R116: a WARNING request already held, one that finds room and starts the player, one that evicts an
ACTIVE entry's request, one that evicts LINK's, and one that is not queued. -/
theorem meets_ChimeRequestsAnswer_of_warnings :
    let s := (withEntry 7 (condition .active 0) (withEntry 31 (condition .active 0) running)).modLkp fun l =>
      { l with mask := 1023, notices := [] }
    let full := chiming eightChimes s
    let linked := chiming (eightChimes.take 7 ++ [linkChime 8]) s
    (takeChime (warningChime 7 .urgent 0) full).2 = .alreadyHeld ∧
      (takeChime (warningChime 31 .caution 0) s).1.chs.player = some { source := .warning 31, segment := 0, timer := 30 } ∧
      (full.chs.holds (.warning 31) = false ∧ full.chs.victim = some (warningChime 7 .caution 7) ∧
        (takeChime (warningChime 31 .urgent 0) full).1.chs.holds (.warning 7) = false ∧
        (takeChime (warningChime 31 .urgent 0) full).1.wtb.entries[(7 : EntryIx)].repeatTimer = some 5) ∧
      (linked.chs.victim = some (linkChime 8) ∧
        (takeChime (warningChime 31 .urgent 0) linked).1.lkp.notices = [.chime 3 .evicted]) ∧
      (takeChime (warningChime 31 .caution 0) full).2 = .notQueued ∧
      (takeChime (warningChime 31 .caution 0) full).1.wtb.entries[(31 : EntryIx)].repeatTimer = some 5 := by decide +kernel

/-- R119: the removal of a request that plays makes the player choose; that of another leaves the player. -/
theorem test_removal :
    let playing := ((chiming eightChimes running).modChs fun c =>
      { c with player := some { source := .warning 0, segment := 0, timer := 9 } }).chs
    (playing.remove (.warning 0)).player = some { source := .warning 1, segment := 0, timer := 30 } ∧
      (playing.remove (.warning 0)).queue = eightChimes.tail ∧
      (playing.remove (.warning 1)).player = playing.player ∧ (playing.remove .link).queue = eightChimes := by decide +kernel

/-- R111: a request stands behind the higher classes and the earlier ones of its own. -/
theorem test_queue_order :
    let queue := [warningChime 0 .urgent 4, warningChime 1 .caution 2, warningChime 2 .caution 5, warningChime 3 .advisory 1]
    queue.Pairwise (fun a b => b.cls.rank < a.cls.rank ∨ (a.cls.rank = b.cls.rank ∧ a.arrival < b.arrival)) ∧
      insertRequest (linkChime 6) queue = queue.take 3 ++ linkChime 6 :: queue.drop 3 := by decide +kernel

/-- P1 has three segments and one pass, P2 plays while its entry is ACTIVE, P4 plays twice. -/
theorem meets_SegmentsEnd :
    let playing := fun (p : PatternIx) (passes : Passes) (segment : Nat) =>
      (chiming [{ linkChime 3 with pattern := p, passes }] running).modChs fun c =>
        { c with player := some { source := .link, segment, timer := 15 } }
    running.chs.player = none ∧ (playing 1 (.times 1) 0).chs.power ≠ .crank ∧
      (after .segmentEnd (playing 1 (.times 1) 1)).chs.player = some { source := .link, segment := 2, timer := 15 } ∧
      (after .segmentEnd (playing 1 (.times 1) 2)).chs.queue = [] ∧
      (after .segmentEnd (playing 2 .whileActive 1)).chs.player = some { source := .link, segment := 0, timer := 20 } ∧
      (after .segmentEnd (playing 4 (.times 2) 2)).chs.player = some { source := .link, segment := 0, timer := 40 } := by
  decide +kernel

theorem meets_ChimeSettingsAnswer :
    let body : List Byte := [7, 0, 1, 4, 255]
    let x : Pattern := { segments := [{ pitch := .bell, duration := 255 }], passes := .whileActive }
    let named := chiming [{ linkChime 3 with pattern := 7 }] running
    let front := (chiming [linkChime 3, { linkChime 4 with source := .rearCall, dest := .rear, tag := none }] running).modChs
      fun c => { c with player := some { source := .rearCall, segment := 0, timer := 30 } }
    (Serves .setPattern 5 body (asking .setPattern body running) ∧ body.length = 3 + 2 * u8 body 2 ∧
      u8 body 0 = (7 : PatternIx).val ∧ x.segments.length = u8 body 2 ∧ Pitch.ofCode (u8 body 3) = some .bell ∧
      (∀ q ∈ running.chs.queue, q.pattern ≠ 7) ∧ ∃ q ∈ named.chs.queue, q.pattern = 7) ∧
    (u8 [0, 0, 1, 5, 1] 3 = 5 ∧ u8 [0, 0, 9] 2 = 9 ∧ u8 [0, 16, 1] 1 = 16) ∧
    (Serves .setPrivacy 5 [1] (asking .setPrivacy [1] running) ∧ u8 [1] 0 = true.toNat ∧ 2 ≤ u8 [2] 0) ∧
    front.chs.privacy = false ∧ front.chs.playingRequest.map (mayPlay true) = some false ∧
      (front.chs.setPrivacy true).player = some { source := .link, segment := 0, timer := 30 } := by decide +kernel

/-- R108, R115: a CAUTION request for BOTH sounds on both outputs, on FRONT alone under privacy; an URGENT one keeps
both; REST is quiet. -/
theorem test_tones :
    let plays := fun (cls : ChimeClass) (privacy : Bool) (segment : Nat) =>
      ((chiming [{ linkChime 3 with cls, pattern := 1, dest := .both }] running).modChs fun c =>
        { c with privacy, player := some { source := .link, segment, timer := 15 } }).chs
    let tones := fun c : Chs => (c.frontTone, c.rearTone)
    tones (plays .caution false 0) = (some .high, some .high) ∧ tones (plays .caution true 0) = (some .high, none) ∧
      tones (plays .urgent true 0) = (some .high, some .high) ∧ tones (plays .urgent true 1) = (none, none) ∧
      mayPlay true { linkChime 3 with dest := .rear } = false ∧ tones running.chs = (none, none) := by decide +kernel

theorem meets_ServiceRequestsAnswer :
    let body : List Byte := [7, 1, 15, 0xFF, 0xFE, 0, 1, 0x0E, 0x42]
    let item := { ServiceItem.supply with enabled := true, hoursInterval := some 16, remainingHours := some 0, state := .due }
    let due := running.modSvs fun v => { v with items := v.items.set (7 : ItemIx) item }
    let moving := due.modSvs fun v => { v with roadLive := true }
    (Serves .setServiceItem 5 body (asking .setServiceItem body running) ∧ u8 body 0 = (7 : ItemIx).val ∧
      u16 body 7 = 3650 ∧ repliesOf .setServiceItem (asking .setServiceItem body running) =
        [(ReqKind.setServiceItem.code + 0x40, [])]) ∧
    u16 [0x0E, 0x43] 0 = 3651 ∧
    (Serves .serviceDone 5 [7] (asking .serviceDone [7] due) ∧ due.svs.power ≠ .parked ∧ due.svs.roadLive = false ∧
      due.svs.items[(7 : ItemIx)].enabled = true ∧
      (after .serviceDone (asking .serviceDone [7] due)).svs.items[(7 : ItemIx)].state = .counting ∧
      Notice.service 7 .counting ∈ (after .serviceDone (asking .serviceDone [7] (due.modLkp fun l =>
        { l with mask := 16 }))).lkp.notices) ∧
    moving.svs.roadLive = true ∧ State.reset.svs.power = .parked ∧ running.svs.items[(7 : ItemIx)].enabled = false := by
  decide +kernel

/-- The margins of R130 at an interval of 16 hours: 1 hour before, 2 hours after. -/
theorem test_service_states :
    let item := fun r => ({ ServiceItem.supply with enabled := true, hoursInterval := some 16, remainingHours := some r }).decided
    item 2 = .counting ∧ item 1 = .near ∧ item 0 = .due ∧ item (-1) = .due ∧ item (-2) = .overdue := by decide +kernel

/-! ## States that meet the hypotheses: the Coach Line -/

theorem meets_NodeRequestsAnswer :
    let body : List Byte := [5, 1, 30, 30, 3, 255]
    let same : List Byte := [5, 1, 1, 30, 3, 255]
    let busy := withTxn (.poll 5) .sending lineUp
    (Serves .setNode 5 body (asking .setNode body lineUp) ∧ u8 body 0 = (5 : NodeIx).val ∧
      NodeKind.ofCode (u8 body 4) = some .other ∧ lineUp.clc.txn = none ∧ lineUp.clc.retry = none ∧ lineUp.clc.pass = none ∧
      repliesOf .setNode (asking .setNode body lineUp) = [(ReqKind.setNode.code + 0x40, [])]) ∧
    repliesOf .setNode (asking .setNode same lineUp) = [(0x7F, [byteOf Reason.conflict.code, ReqKind.setNode.code])] ∧
    repliesOf .setNode (asking .setNode body busy) = [(0x7F, [byteOf Reason.busy.code, ReqKind.setNode.code])] ∧
    (u8 [0, 0, 31] 2 = 31 ∧ u8 [0, 0, 0] 2 = 0) ∧
    (Serves .setCoachOptions 5 [20, 7, 255] (asking .setCoachOptions [20, 7, 255] lineUp) ∧
      u8 [20, 7, 255] 1 = (7 : PatternIx).val ∧ 20 < u8 [21, 7, 255] 0 ∧ u8 [1, 7, 255] 0 < 2) := by decide +kernel

theorem meets_CoachPassIsJudged :
    let body : List Byte := [1, 0, 255, 0]
    let absent : List Byte := [2, 0, 255, 0]
    let held := lineUp.modClc fun c => { c with pass := some heldPass }
    (Serves .coachPass 5 body (asking .coachPass body lineUp) ∧ body.length = 4 + u8 body 3 ∧ lineUp.clc.pass = none ∧
      lineUp.clc.power ≠ .parked ∧ lineUp.clc.line = .running ∧
      (∃ n : NodeIx, lineUp.clc.nodes[n].enabled = true ∧ lineUp.clc.nodes[n].nodeAlias = u8 body 0) ∧
      ∀ n : NodeIx, lineUp.clc.nodes[n].enabled = true ∧ lineUp.clc.nodes[n].nodeAlias = u8 body 0 →
        lineUp.clc.nodes[n].state = .present) ∧
    (∀ n : NodeIx, lineUp.clc.nodes[n].enabled = true ∧ lineUp.clc.nodes[n].nodeAlias = u8 absent 0 →
      lineUp.clc.nodes[n].state ≠ .present) ∧
    held.clc.pass ≠ none ∧ State.reset.clc.power = .parked ∧ 30 < u8 [31, 0, 255, 0] 0 ∧ 16 < u8 [1, 1, 255, 17] 3 := by
  decide +kernel

theorem meets_CoachResetsAndRounds :
    let low := running.modClc fun c => { c with line := .resetting, heldLow := true }
    let high := running.modClc fun c => { c with line := .resetting }
    let waiting := withNode 1 present (lineUp.modClc fun c =>
      { c with line := .backoff, backoffTimer := some 50, retry := some (.mirror 0 .clock) })
    Serves .coachReset 5 [] (asking .coachReset [] lineUp) ∧ State.reset.clc.power = .parked ∧
      lineUp.clc.power ≠ .parked ∧ lineUp.clc.line ≠ .resetting ∧ low.clc.line = .resetting ∧
      (after .lineRelease low).clc.heldLow = false ∧ (after .resettingEnd low).clc.line = .resetting ∧
      (after .resettingEnd high).clc.line = .running ∧ running.clc.roundTimer = none ∧ lineUp.clc.roundTimer ≠ none ∧
      (after .roundStart waiting).clc.nodes[(0 : NodeIx)].due = false ∧
      (after .roundStart waiting).clc.nodes[(1 : NodeIx)].due = true := by
  decide +kernel

theorem meets_ContentionAndSleep :
    let sleeping := withTxn .sleep .sending State.reset
    let polling := withTxn (.poll 0) .sending lineUp
    let fifth := polling.modClc fun c => { c with contentions := 4 }
    let backoff := lineUp.modClc fun c => { c with line := .backoff, backoffTimer := some 50 }
    let due := after .contention (withNode 0 (fun n => { n with due := true }) polling)
    (after .contention sleeping).clc.txn = none ∧ (after .contention polling).clc.line = .backoff ∧
      due.clc.nodes[(0 : NodeIx)].due = false ∧ due.clc.retry = some (.poll 0) ∧
      (after .contention fifth).clc.line = .fault ∧ lineUp.clc.line ≠ .backoff ∧
      (after .backoffExpiry backoff).clc.line = .running ∧ State.reset.clc.sleepWaiting = false ∧
      (after .sleepStart (State.reset.modClc fun c => { c with sleepWaiting := true })).clc.txn.map (fun t => t.frame) =
        some [0x9F, 0x00, 0x00] := by decide +kernel

theorem meets_ArbiterChooses :
    let free := lineUp.clc.line = .running ∧ lineUp.clc.txn = none ∧ lineUp.clc.power ≠ .crank
    let retry := lineUp.modClc fun c => { c with retry := some (.poll 0) }
    let retried := lineUp.modClc fun c => { c with retry := some (.pass 0), pass := some heldPass }
    let pass := lineUp.modClc fun c => { c with pass := some heldPass }
    let absent := pass.modClc fun c => { c with pass := some { heldPass with nodeAlias := 2 } }
    let due := withNode 5 (fun n => { present n with due := true }) lineUp
    let queued := lineUp.modClc fun c => { c with mirrorQueue := [(0, .clock)] }
    free ∧ retry.clc.retry = some (.poll 0) ∧ retried.clc.nodes[(0 : NodeIx)].state = .present ∧
      (pass.clc.retry = none ∧ pass.clc.target heldPass = some 0) ∧
      (arbiter absent).clc.pass = none ∧
      (due.clc.nodes[(5 : NodeIx)].due = true ∧ ∀ m : NodeIx, m < 5 → due.clc.nodes[m].due = false) ∧
      (∀ m : NodeIx, queued.clc.nodes[m].due = false) ∧ queued.clc.mirrorQueue = [(0, .clock)] ∧
      (arbiter due).clc.txn.map (fun t => t.frame) = some [6, 0, 0] := by decide +kernel

/-- R156, R157, R163: the frames of a pass-through, addressed and broadcast, at its start and at its retry, and ABSENT
where its target has gone, with the next work chosen. -/
theorem test_pass_frames :
    let broadcast := { heldPass with nodeAlias := 0, answerAlias := some 1, kind := .write }
    let s := fun (p : PassThrough) (retry : Option TxnKind) => lineUp.modClc fun c => { c with pass := some p, retry }
    let frame := fun s : State => (arbiter s).clc.txn.map fun t => t.frame
    let gone := withNode 0 (fun n => { n with state := .joining, due := true }) (s heldPass (some (.pass 0)))
    frame (s heldPass none) = some (masterFrame 1 .passRead [7]) ∧
      frame (s broadcast none) = some (masterFrame 31 .passWrite [1, 7]) ∧
      frame (s broadcast (some (.pass 0))) = some (masterFrame 31 .passWrite [1, 7]) ∧
      (masterFrame 31 .passWrite [1, 7]).map BitVec.toNat = [0x7F, 2, 1, 7, 246] ∧
      frame (s heldPass (some (.mirror 0 .privacyFlag))) = some (masterFrame 1 .mirror [6, 0]) ∧
      frame gone = some [1, 0, 0] ∧ (arbiter gone).clc.pass = none ∧
      (arbiter gone).lkp.replies.map Reply.content = [(.reserved, 0x7F, 9, [0x0A, 0x39])] := by decide +kernel

/-- Table 43: items whose content depends on more than one record, and the mark of a window result (R12). -/
theorem test_mirror_contents :
    let standing := running.modWtb fun t => { t with entries := mapAll (fun e =>
      { e with cfg := { e.cfg with mirrorRear := true }, state := .acked }) t.entries }
    let sensor := withSlot 7 (fun x => { x with value := -2, state := .stale }) running
    let speed := fun live => running.modClc fun c => { c with roadSpeed := 1800, roadLive := live }
    (mirrorContent standing .rearWarnings).length = 19 ∧
      (mirrorContent standing .rearWarnings).take 5 = [32, 0, 3, 1, 3] ∧
      mirrorContent (sensor.modClc fun c => { c with outsideSlot := some 7 }) .outsideTemp = [2, 0xFF, 0xFE] ∧
      running.clc.outsideSlot = none ∧ (mirrorContent running .outsideTemp).head? = some 0xFF ∧
      mirrorContent (speed true) .roadSpeed = [7, 8] ∧ mirrorContent (speed false) .roadSpeed = [0, 0] ∧
      mirrorContent running .clock = [0xFF, 0xFF] ∧ mirrorContent running .destination = List.replicate 5 0xFF ∧
      (after (.windowExpiry 100) ((withNode 0 (fun n => { n with mirrorSet := 16 }) lineUp).modPcu fun p =>
        { p with gate := some 250 })).clc.txn.map (fun t => t.kind) = some (.mirror 0 .roadSpeed) := by
  decide +kernel

/-- R145, R200, R201: the answer [0xA0, 1, 1, 254] carries the status byte 1, a refresh with no event. -/
theorem meets_AnswersAreJudged :
    let plain := fun v : Byte => ({ value := v, mark := false, error := false } : CoachChar)
    let first : CoachChar := { value := 0xA0, mark := true, error := false }
    answerData [first, plain 1, plain 1, plain 254] = some [1] ∧ answerData [first, plain 1, plain 1, plain 253] = none ∧
      parsePoll [1] = some (true, []) ∧ parsePoll [0, 6, 2, 1, 3, 4] = some (false, [{ kind := .alarmSet, data := [2, 1, 3, 4] }]) ∧
      parsePoll [] = none ∧ parsePoll [0, 4, 4, 4, 4, 4] = none := by decide +kernel

theorem meets_TransactionsComplete :
    let plain := fun v : Byte => ({ value := v, mark := false, error := false } : CoachChar)
    let answer := [({ value := 0xA0, mark := true, error := false } : CoachChar), plain 1, plain 0, plain 255]
    let sending := withTxn (.poll 0) .sending lineUp
    let window := withTxn (.poll 0) .window lineUp
    let cut := withTxn (.poll 0) (.receiving (answer.take 3)) lineUp
    let whole := withTxn (.poll 0) (.receiving answer) lineUp
    let third := withNode 0 (fun n => { n with misses := 2 }) window
    sending.clc.txn.map (fun t => t.phase) = some .sending ∧ lineUp.clc.txn = none ∧
      answerComplete (answer.take 3) = false ∧ answerComplete answer = true ∧ (TxnKind.poll 0).target = some 0 ∧
      (after .masterFrameSent sending).clc.txn.map (fun t => t.phase) = some .window ∧
      (after .answerWindowExpiry third).clc.nodes[(0 : NodeIx)].state = .lost ∧
      (after .answerCut cut).clc.nodes[(0 : NodeIx)].misses = 1 ∧
      (after .answerComplete whole).clc.nodes[(0 : NodeIx)].state = .present ∧
      repliesOf .answerComplete ((withTxn (.pass 0) (.receiving answer) lineUp).modClc fun c =>
        { c with pass := some { heldPass with phase := .inFlight } }) = [(0x79, [0])] ∧
      repliesOf .answerComplete (withTxn (.pass 0) (.receiving answer) lineUp) = [] ∧
      repliesOf .answerComplete whole = [] := by decide +kernel

/-- R147, R148, R158, R159: the NODE notices of a SET NODE in FAULT, a COACH RESET, the fifth contention and a third miss. -/
theorem test_node_notices :
    let s := lineUp.modLkp fun l => { l with mask := 1023 }
    let body : List Byte := [5, 1, 30, 30, 3, 255]
    let polling := fun ph => withTxn (.poll 0) ph (s.modClc fun c => { c with contentions := 4 })
    .node 5 .lost ∈ (after .setNode (asking .setNode body (s.modClc fun c => { c with line := .fault }))).lkp.notices ∧
      .node 0 .joining ∈ (after .coachReset (asking .coachReset [] s)).lkp.notices ∧
      .node 0 .lost ∈ (after .contention (polling .sending)).lkp.notices ∧
      .node 0 .lost ∈ (after .answerWindowExpiry (withNode 0 (fun n => { n with misses := 2 })
        (polling .window))).lkp.notices := by decide +kernel

/-- R65, R69, R73, R97, R154, R166: what marks the mirror items of a PRESENT node whose set holds them. -/
theorem test_marks :
    let marked := fun (item : MirrorItem) (s : State) => s.clc.mirrorQueue.contains (0, item)
    let outside := fun st => withSlot 7 (fun x => { x with state := st, staleTimer := some 5, lostTimer := some 5 })
      (mirroring.modClc fun c => { c with outsideSlot := some 7 })
    let open3 := fun u : Tau => { u with
      destination := some 2, trips := u.trips.set (3 : TripIx) { u.trips[(3 : TripIx)] with state := .open, running := 59 } }
    let counting := ((withChannel 0 .live mirroring).modPcu fun p => { p with roadResidue := p.cal.kd - 1 }).modTau open3
    let late := (mirroring.modTau open3).modClk fun c => { c with time := { c.time with second := 59 } }
    let rear := fun st q => withEntry 31 (fun e => let x := condition st 0 e
      { x with cfg := { x.cfg with mirrorRear := true }, qualifyTimer := q }) mirroring
    (marked .outsideTemp (after .sensorReport (asking .sensorReport [7, 0, 9] (outside .never))) ∧
      marked .outsideTemp (after (.slotStaleExpiry 7) (outside .fresh)) ∧
      marked .outsideTemp (after (.slotLostExpiry 7) (outside .stale))) ∧
    (marked .passengerTrip (after (.pulseEdge 0 100) counting) ∧ marked .destination (after (.pulseEdge 0 100) counting)) ∧
    (marked .clock (after .secondBoundary late) ∧ marked .passengerTrip (after .secondBoundary late) ∧
      marked .clock (after .setClock (asking .setClock [7, 231, 3, 1, 12, 0, 0] mirroring))) ∧
    marked .rearWarnings (evaluateEntry 31 (rear .idle none)) ∧
      marked .rearWarnings (after (.qualifyExpiry 31) (rear .pending (some 5))) ∧
      marked .rearWarnings (after .acknowledge (asking .acknowledge [31] (rear .active none))) := by decide +kernel

/-- R76, R81, R152, R153: each rear event of a CONSOLE, and one that is only forwarded. -/
theorem test_rear_events :
    let console := (withNode 0 (fun n => { n with kind := .console }) lineUp).modLkp fun l => { l with mask := 1023 }
    let taken := fun (k : RearKind) (data : List Byte) => takeRearEvent 0 console { kind := k, data }
    let waiting := withEntry 31 (fun e => { condition .active 0 e with cfg := { e.cfg with dest := .rear } }) console
    let last := fun s : State => s.lkp.notices.getLast?
    (taken .intercomCall []).chs.holds .rearCall = true ∧ (taken .privacyOn []).chs.privacy = true ∧
      last (taken .privacyOff []) = some (.rear 0 .privacyOff .applied []) ∧
      (taken .passengerTripReset []).tau.trips[(3 : TripIx)].resetBy = some .rear ∧
      last (takeRearEvent 0 waiting { kind := .rearAck, data := [] }) = some (.rear 0 .rearAck .applied [1]) ∧
      (takeRearEvent 0 (chiming [warningChime 31 .caution 1, linkChime 2] waiting)
        { kind := .rearAck, data := [] }).chs.queue = [linkChime 2] ∧
      last (takeRearEvent 0 lineUp { kind := .rearAck, data := [] }) = lineUp.lkp.notices.getLast? ∧
      last (takeRearEvent 5 console { kind := .rearAck, data := [] }) = some (.rear 5 .rearAck .forwarded [0]) ∧
      (taken .clockSet [43, 3, 1, 0, 0, 0]).clk.state = .set ∧
      last (taken .clockSet [100, 3, 1, 0, 0, 0]) = some (.rear 0 .clockSet .refused [100, 3, 1, 0, 0, 0]) ∧
      (taken .alarmSet [3, 1, 6, 30]).clk.alarms[(3 : AlarmIx)].hour = 6 ∧
      last (taken .alarmSet [1, 1, 6, 30]) = some (.rear 0 .alarmSet .refused [1, 1, 6, 30]) ∧
      last (taken .key [7]) = some (.rear 0 .key .forwarded [7]) := by decide +kernel

/-- R154: a node that answers again is marked whole, its items in order; what its return makes a NODE_LOST entry mark
anew stands in its place already. -/
theorem test_join_marks_in_item_order :
    let lost := withNode 0 (fun n => { n with state := .lost, mirrorSet := 0x21 }) lineUp
    let warned := withEntry 31 (fun e => { condition .active 0 e with
      cfg := { e.cfg with enabled := true, source := .nodeLost 0, mirrorRear := true } }) lost
    (validAnswer 0 warned).wtb.entries[(31 : EntryIx)].state = .idle ∧
      (validAnswer 0 warned).clc.mirrorQueue = [(0, .clock), (0, .rearWarnings)] := by decide +kernel

end Sys2Proof.Tests
end

section
/-! Chapter 1, the measurement window: what the operations of a window expiry do to the channels, and the frequency each
channel closes (R6, R7, R8). -/

namespace Sys2Proof.Machine

-- One theorem at a time, so that a build as one text needs few threads.
set_option Elab.async false

/-! ## Taking every record of a table in turn -/

/-- Operations on other numbers leave what belongs to `i`. -/
theorem foldl_keeps_of_not_mem {n : Nat} {α : Type} {f : Fin n → State → State} {get : State → α} {i : Fin n}
    (other : ∀ j s, j ≠ i → get (f j s) = get s) (l : List (Fin n)) (hi : i ∉ l) (s : State) :
    get (l.foldl (fun s j => f j s) s) = get s := by
  induction l generalizing s with
  | nil => rfl
  | cons j l ih =>
    obtain ⟨hj, hl⟩ := List.ne_and_not_mem_of_not_mem_cons hi
    exact (ih hl (f j s)).trans (other j s hj.symm)

/-- What belongs to `i`, and only the operation on `i` changes, is in the end what that operation makes of what it was
at the start. -/
theorem eachIx_at {n : Nat} {α : Type} {f : Fin n → State → State} {get : State → α} {i : Fin n}
    (other : ∀ j s, j ≠ i → get (f j s) = get s) (s : State) :
    ∃ t, get t = get s ∧ get (eachIx n f s) = get (f i t) := by
  obtain ⟨before, after, split⟩ := List.append_of_mem (List.mem_finRange i)
  have nodup := List.nodup_finRange n
  rw [split, List.nodup_middle, List.nodup_cons, List.mem_append, not_or] at nodup
  obtain ⟨⟨notBefore, notAfter⟩, -⟩ := nodup
  refine ⟨before.foldl (fun s j => f j s) s, foldl_keeps_of_not_mem other before notBefore s, ?_⟩
  rw [eachIx, split, List.foldl_append, List.foldl_cons]
  exact foldl_keeps_of_not_mem other after notAfter _

/-! ## What the operations of the PCU do to its own block -/

/-- A frame without the PCU leaves the PCU. -/
theorem OnlyChanges.pcu_eq {ps : List Part} {s t : State} (h : OnlyChanges ps s t) (hp : Part.pcu ∉ ps := by decide) :
    t.pcu = s.pcu := h .pcu hp

/-- The end of an event reaches the CLC, the LKP and the free values alone (log 8). -/
theorem settle_only (s : State) : OnlyChanges [.clc, .lkp, .free] s (settle s) :=
  ((arbiter_only s).comp (sealReplies_only _) : OnlyChanges [.clc, .lkp, .free] _ _).comp (startTransmitter_only _)

@[simp] theorem settle_pcu (s : State) : (settle s).pcu = s.pcu := (settle_only s).pcu_eq

@[simp] theorem setDisagree_pcu (b : Bool) (s : State) : (setDisagree b s).pcu = { s.pcu with disagree := b } := by
  unfold setDisagree
  split_ifs with h
  · rw [← h]
  · exact (wtbDisagree_only _ b).pcu_eq

@[simp] theorem leaveLive_pcu (s : State) : (leaveLive s).pcu =
    { s.pcu with disagree := false, cross := { s.pcu.cross with disagreeing := 0, agreeing := 0 } } := by
  simp [leaveLive]

/-- The handing of a channel's change leaves the PCU as it is. -/
@[simp] theorem hand_takeChannel_pcu (targets : List Block) (ch : ChannelIx) (st : ChannelState) (engine road : Bool)
    (s : State) : (hand targets (takeChannel ch st engine road) s).pcu = s.pcu :=
  (hand_only (fun b s => takeChannel_only s ch st engine road b) s).pcu_eq

@[simp] theorem changeChannel_channels (ch : ChannelIx) (f : Channel → Channel) (s : State) :
    (changeChannel ch f s).pcu.channels = updAt s.pcu.channels ch f := by
  unfold changeChannel
  dsimp only
  split_ifs <;> simp

@[simp] theorem changeChannel_cal (ch : ChannelIx) (f : Channel → Channel) (s : State) :
    (changeChannel ch f s).pcu.cal = s.pcu.cal := by
  unfold changeChannel
  dsimp only
  split_ifs <;> simp [State.modChannel_pcu]

@[simp] theorem disagreeTest_channels (s : State) : (disagreeTest s).pcu.channels = s.pcu.channels := by
  unfold disagreeTest
  dsimp only
  split_ifs <;> simp

@[simp] theorem sourceTest_channels (p : Pcu) : p.sourceTest.channels = p.channels := by
  unfold Pcu.sourceTest
  split <;> split_ifs <;> rfl

@[simp] theorem moveSource_channels (s : State) : (moveSource s).pcu.channels = s.pcu.channels := by
  unfold moveSource
  dsimp only
  split_ifs
  · simp
  · rw [(hand_only (fun b s => takeRoadLive_only s _ b) _).pcu_eq]
    simp

@[simp] theorem windowResult_channels (s : State) : (windowResult s).pcu.channels = s.pcu.channels := by
  unfold windowResult
  rw [(hand_only (fun b s => takeWindow_only s _ b) _).pcu_eq]
  rfl

/-- After the channels have closed their windows, a window expiry leaves them as they are. -/
theorem windowExpiry_channels {s : State} (running : s.pcu.gate ≠ none) (at10us : Nat) :
    (windowExpiry at10us s).pcu.channels = (closeWindow at10us s).pcu.channels := by
  simp [windowExpiry, Option.isSome_iff_ne_none.mpr running]

/-! ## The frequency a channel closes -/

section
variable {c : Channel} {w : WindowLength} {at10us free : Nat}

/-- STILL gives 0, whatever the mode and the count (R7). -/
theorem closedFrequency_of_still (still : c.state = .still) : c.closedFrequency w at10us free = 0 := by
  simp [Channel.closedFrequency, still]

/-- COUNT mode (R7). -/
theorem closedFrequency_of_count (on : c.state = .live ∨ c.state = .fault) (mode : c.mode = .count) :
    c.closedFrequency w at10us free = min (c.windowCount * 10000 / w.ms) 65535 := by
  rcases on with st | st <;> simp [Channel.closedFrequency, st, mode]

/-- PERIOD mode (R8). -/
theorem closedFrequency_of_period (on : c.state = .live ∨ c.state = .fault) (mode : c.mode = .period) :
    c.closedFrequency w at10us free = c.periodFrequency at10us free := by
  rcases on with st | st <;> simp [Channel.closedFrequency, st, mode]

theorem periodFrequency_of_none (period : c.lastPeriod = none) : c.periodFrequency at10us free = 0 := by
  simp [Channel.periodFrequency, period]

/-- With a period other than 0 no free value is used (log 4). -/
theorem periodFrequency_of_some {p e : Nat} (period : c.lastPeriod = some p) (edge : c.latestEdge = some e)
    (pos : max p (at10us - e) ≠ 0) :
    c.periodFrequency at10us free = min (1000000 / max p (at10us - e)) 65535 := by
  simp only [Channel.periodFrequency, period, edge, Option.getD_some, if_neg pos]

/-- A channel that is not OFF holds the frequency it closed (R6). -/
theorem Channel.close_lastFreq (on : c.state ≠ .off) (w : WindowLength) (f : Nat) : (c.close w f).lastFreq = f := by
  unfold Channel.close
  split
  · contradiction
  all_goals rfl

end

/-- A whole number of windows fills the 10 s that a frequency in 0.1 Hz counts (R7). -/
theorem WindowLength.ms_dvd (w : WindowLength) : w.ms ∣ 10000 := by cases w <;> decide

/-- What a window expiry does with one channel. -/
def closeChannel (at10us : Nat) (ch : ChannelIx) (s : State) : State :=
  changeChannel ch (Channel.close s.pcu.cal.window (s.pcu.channels[ch].closedFrequency s.pcu.cal.window at10us
    (Config.zeroPeriodFrequency s.free.draws ch.val))) s

theorem closeWindow_eq (at10us : Nat) (s : State) : closeWindow at10us s = eachIx 6 (closeChannel at10us) s := rfl

@[simp] theorem closeChannel_cal (at10us : Nat) (ch : ChannelIx) (s : State) :
    (closeChannel at10us ch s).pcu.cal = s.pcu.cal := changeChannel_cal _ _ _

theorem closeChannel_same (at10us : Nat) (ch : ChannelIx) (s : State) :
    (closeChannel at10us ch s).pcu.channels[ch] = s.pcu.channels[ch].close s.pcu.cal.window
      (s.pcu.channels[ch].closedFrequency s.pcu.cal.window at10us
        (Config.zeroPeriodFrequency s.free.draws ch.val)) := by
  rw [closeChannel, changeChannel_channels, updAt_get_same]

theorem closeChannel_other (at10us : Nat) {j ch : ChannelIx} (ne : j ≠ ch) (s : State) :
    (closeChannel at10us j s).pcu.channels[ch] = s.pcu.channels[ch] := by
  rw [closeChannel, changeChannel_channels, updAt_get_other _ _ _ _ ne]

/-- A channel closes its own window alone, with what its record and the calibration held before the expiry. -/
theorem closeWindow_channel (at10us : Nat) (s : State) (ch : ChannelIx) :
    ∃ free, (closeWindow at10us s).pcu.channels[ch] = s.pcu.channels[ch].close s.pcu.cal.window
      (s.pcu.channels[ch].closedFrequency s.pcu.cal.window at10us free) := by
  obtain ⟨t, before, after⟩ := eachIx_at (get := fun s => (s.pcu.channels[ch], s.pcu.cal)) (i := ch)
    (f := closeChannel at10us) (fun j s ne => by rw [closeChannel_other at10us ne, closeChannel_cal]) s
  obtain ⟨sameChannel, sameCal⟩ := Prod.mk.inj before
  obtain ⟨closed, -⟩ := Prod.mk.inj after
  exact ⟨_, by rw [closeWindow_eq, closed, closeChannel_same, sameChannel, sameCal]⟩

/-- A window expiry gives a channel that is not OFF the frequency it closes (R6). -/
theorem windowExpiry_lastFreq {s : State} (running : s.pcu.gate ≠ none) (at10us : Nat) {ch : ChannelIx}
    (on : s.pcu.channels[ch].state ≠ .off) :
    ∃ free, (windowExpiry at10us s).pcu.channels[ch].lastFreq =
      s.pcu.channels[ch].closedFrequency s.pcu.cal.window at10us free := by
  obtain ⟨free, closed⟩ := closeWindow_channel at10us s ch
  exact ⟨free, by rw [windowExpiry_channels running, closed, Channel.close_lastFreq on]⟩

/-- The window expiry of a supplied part is one event. -/
theorem exec_windowExpiry {s : State} (supplied : s.igs.supplied = true) (at10us : Nat) :
    exec (.windowExpiry at10us) s = .next (settle (windowExpiry at10us s)) := takeEvent_supplied supplied

/-- Settles O30: the frequency by state and mode, and that each channel takes it at a window expiry. -/
theorem frequenciesClose : Obligations.FrequenciesClose := by
  unfold Obligations.FrequenciesClose
  refine ⟨fun c w at10us free => ⟨fun on mode => ?_, closedFrequency_of_still, fun on mode period => ?_,
    fun p e on mode period edge pos => ?_⟩, fun at10us s supplied running => ?_⟩
  · rw [closedFrequency_of_count on mode]
    constructor
    · cases w <;> rfl
    · rw [Nat.mul_div_assoc _ w.ms_dvd]
      cases w <;> rfl
  · rw [closedFrequency_of_period on mode, periodFrequency_of_none period]
  · rw [closedFrequency_of_period on mode, periodFrequency_of_some period edge pos]
  · refine ⟨_, exec_windowExpiry supplied at10us, fun ch on => ?_⟩
    rw [settle_pcu]
    exact windowExpiry_lastFreq running at10us on

end Sys2Proof.Machine
end

section
/-! Chapter 2, the slots of the Sensor Report Table: what a request that sets one reads, and what reports, expiries and
their handings leave of the slots (R24 to R27). -/

namespace Sys2Proof.Machine

-- One theorem at a time, so that a build as one text needs few threads.
set_option Elab.async false

/-! ## What leaves the GDU or its slots as they are -/

/-- A frame without the GDU leaves the GDU. -/
theorem OnlyChanges.gdu_eq {ps : List Part} {s t : State} (h : OnlyChanges ps s t) (hp : Part.gdu ∉ ps := by decide) :
    t.gdu = s.gdu := h .gdu hp

@[simp] theorem settle_gdu (s : State) : (settle s).gdu = s.gdu := (settle_only s).gdu_eq

@[simp] theorem takeRequest_gdu (s : State) : (takeRequest s).gdu = s.gdu := (takeRequest_only s).gdu_eq

@[simp] theorem reply_gdu (entry : ReplyEntry) (kind tag : Byte) (resp : Response) (s : State) :
    (s.reply entry kind tag resp).gdu = s.gdu := (reply_only s entry kind tag resp).gdu_eq

@[simp] theorem answered_gdu (k : ReqKind) (tag : Byte) (fields : List Byte) (s : State) :
    (answered k tag fields s).gdu = s.gdu := by simp [answered]

@[simp] theorem withBuffers_slots (n : SlotIx) (f : Gauge → List Int) (d : Gdu) :
    (d.withBuffers n f).slots = d.slots := rfl

@[simp] theorem gduReport_slots (n : SlotIx) (s : State) : (gduReport n s).gdu.slots = s.gdu.slots := by simp [gduReport]

@[simp] theorem gduSlotState_slots (n : SlotIx) (s : State) : (gduSlotState n s).gdu.slots = s.gdu.slots := by
  simp [gduSlotState]

@[simp] theorem gduRefuel_slots (s : State) : (gduRefuel s).gdu.slots = s.gdu.slots := by
  unfold gduRefuel
  split
  · simp
  · rfl

@[simp] theorem refuel_slots (before after : Nat) (s : State) : (refuel before after s).gdu.slots = s.gdu.slots := by
  rw [refuel, gduRefuel_slots, (notify_only _ _).gdu_eq, (tripNotice_only _ _ _).gdu_eq, (resetTrip_only _ _ _).gdu_eq]

@[simp] theorem testRefuel_slots (amount : Nat) (s : State) : (testRefuel amount s).gdu.slots = s.gdu.slots := by
  unfold testRefuel
  split
  · split_ifs <;> simp
  · rfl

@[simp] theorem tauReport_slots (n : SlotIx) (s : State) : (tauReport n s).gdu.slots = s.gdu.slots := by
  unfold tauReport
  split_ifs
  · rw [(recomputeRange_only _).gdu_eq, testRefuel_slots]
  · rfl

/-- A block that takes a report reads the slots and writes none. -/
theorem takeReport_slots (n : SlotIx) (b : Block) (s : State) : (takeReport n b s).gdu.slots = s.gdu.slots := by
  cases b
  case gdu => exact gduReport_slots n s
  case tau => exact tauReport_slots n s
  case wtb => rw [takeReport, (wtbSlot_only _ _ _ _).gdu_eq]
  case clc => rw [takeReport, (clcSlot_only _ _).gdu_eq]
  all_goals rfl

/-- A block that takes a change of a slot's state reads the slots and writes none. -/
theorem takeSlotState_slots (n : SlotIx) (b : Block) (s : State) : (takeSlotState n b s).gdu.slots = s.gdu.slots := by
  cases b
  case gdu => exact gduSlotState_slots n s
  case tau => rw [takeSlotState, (tauSlotState_only _ _).gdu_eq]
  case wtb => rw [takeSlotState, (wtbSlot_only _ _ _ _).gdu_eq]
  case clc => rw [takeSlotState, (clcSlot_only _ _).gdu_eq]
  all_goals rfl

/-- A handing, in whatever order, leaves the slots that each of its takers leaves. -/
theorem hand_slots {take : Block → State → State} (keeps : ∀ b s, (take b s).gdu.slots = s.gdu.slots)
    (targets : List Block) (s : State) : (hand targets take s).gdu.slots = s.gdu.slots := by
  unfold hand
  exact List.foldlRecOn (motive := fun t => t.gdu.slots = s.gdu.slots) _ _ (congrArg Gdu.slots (State.modFree_gdu _ s))
    fun t same b _ => (keeps b t).trans same

/-! ## What reports and expiries do to the slots -/

@[simp] theorem reportSlot_slots (n : SlotIx) (value : Int) (s : State) :
    (reportSlot n value s).gdu.slots = updAt s.gdu.slots n (Slot.reported value) :=
  hand_slots (takeReport_slots n) _ _

/-- The stale expiry of a FRESH slot starts the lost timer from the lost time the slot holds then (R24). -/
theorem slotStaleExpiry_slots {n : SlotIx} {s : State} (fresh : s.gdu.slots[n].state = .fresh)
    (running : s.gdu.slots[n].staleTimer ≠ none) :
    (slotStaleExpiry n s).gdu.slots = updAt s.gdu.slots n fun x =>
      { x with state := .stale, staleTimer := none, lostTimer := some x.lostTime } := by
  rw [slotStaleExpiry, if_pos ⟨fresh, Option.isSome_iff_ne_none.mpr running⟩, hand_slots (takeSlotState_slots n)]
  rfl

/-! ## What the bodies carry -/

/-- The fields of SET SLOT and their ranges (R27). -/
theorem slotFields_eq_some {b : List Byte} {n : SlotIx} {stale lost : Nat} :
    slotFields b = some (n, stale, lost) ↔
      u8 b 0 = n ∧ (u8 b 1 = stale ∧ 5 ≤ u8 b 1) ∧ (u8 b 2 = lost ∧ 1 ≤ u8 b 2) := by
  have staleFits := u8_lt b 1
  have lostFits := u8_lt b 2
  simp only [slotFields, bind, Option.bind_eq_some_iff, pure, Option.some.injEq, Prod.mk.injEq, ixOf_eq_some,
    within_eq_some]
  constructor
  · rintro ⟨_, slot, _, ⟨staleIs, low, -⟩, _, ⟨lostIs, pos, -⟩, rfl, rfl, rfl⟩
    exact ⟨slot, ⟨staleIs, low⟩, lostIs, pos⟩
  · rintro ⟨slot, ⟨staleIs, low⟩, lostIs, pos⟩
    exact ⟨_, slot, _, ⟨staleIs, low, by omega⟩, _, ⟨lostIs, pos, by omega⟩, rfl, rfl, rfl⟩

/-- A field out of its range leaves SET SLOT without fields (R27). -/
theorem slotFields_eq_none {b : List Byte} (out : 8 ≤ u8 b 0 ∨ u8 b 1 < 5 ∨ u8 b 2 = 0) : slotFields b = none := by
  rw [Option.eq_none_iff_forall_ne_some]
  rintro ⟨n, stale, lost⟩ fields
  obtain ⟨slot, ⟨-, low⟩, -, pos⟩ := slotFields_eq_some.mp fields
  have := n.isLt
  omega

/-- The pair at the head of a SENSOR REPORT that names a slot (R26). -/
theorem reportPairs_cons (n : SlotIx) (hi lo : Byte) (rest : List Byte) :
    reportPairs (byteOf n :: hi :: lo :: rest) = (reportPairs rest).map ((n, s16 [hi, lo] 0) :: ·) := by
  have slot : ixOf 8 (byteOf n).toNat = some n := ixOf_eq_some.mpr (by simp; omega)
  rw [reportPairs, slot]
  cases reportPairs rest <;> rfl

/-! ## The events -/

/-- SET SLOT with a field out of range is refused with RANGE (R27). -/
theorem exec_setSlot_range {tag : Byte} {body : List Byte} {s : State} (serves : Serves .setSlot tag body s)
    (length : body.length = 3) (out : 8 ≤ u8 body 0 ∨ u8 body 1 < 5 ∨ u8 body 2 = 0) :
    exec .setSlot s = .next (turnedDown ReqKind.setSlot.code tag .range s) :=
  served_refuse serves (decide_eq_true length) (by rw [ownSetSlot, slotFields_eq_none out]; rfl)

/-- SET SLOT with its fields in range writes the two times (R27). -/
theorem exec_setSlot_accepted {tag : Byte} {body : List Byte} {s : State} {n : SlotIx}
    (serves : Serves .setSlot tag body s) (length : body.length = 3) (slot : u8 body 0 = n) (stale : 5 ≤ u8 body 1)
    (lost : 1 ≤ u8 body 2) :
    exec .setSlot s = .next (answered .setSlot tag [] ((takeRequest s).modSlot n fun x =>
      { x with staleTime := u8 body 1, lostTime := u8 body 2 })) :=
  have fields := slotFields_eq_some.mpr ⟨slot, ⟨rfl, stale⟩, rfl, lost⟩
  served_answer serves (decide_eq_true length) (by rw [ownSetSlot, fields]; rfl)

/-- SENSOR REPORT of one pair is a report to its slot (R26). -/
theorem exec_sensorReport_one {tag : Byte} {n : SlotIx} {hi lo : Byte} {s : State}
    (serves : Serves .sensorReport tag [byteOf n, hi, lo] s) :
    exec .sensorReport s =
      .next (answered .sensorReport tag [] (reportSlot n (s16 [hi, lo] 0) (takeRequest s))) :=
  served_answer serves (by simp [ReqKind.lengthOk]) (by rw [ownSensorReport, reportPairs_cons]; rfl)

/-- The stale expiry of a slot of the supplied part is one event. -/
theorem exec_slotStaleExpiry {s : State} (supplied : s.igs.supplied = true) (n : SlotIx) :
    exec (.slotStaleExpiry n) s = .next (settle (slotStaleExpiry n s)) := takeEvent_supplied supplied

/-- Settles O32: what SET SLOT writes, and that each timer's next start loads the time the slot holds then. -/
theorem setSlotAnswers : Obligations.SetSlotAnswers := by
  unfold Obligations.SetSlotAnswers
  refine ⟨fun tag body s serves length => ⟨exec_setSlot_range serves length, fun n slot stale lost =>
    exec_setSlot_accepted serves length slot stale lost⟩, fun tag n hi lo s serves => ?_,
    fun n s supplied fresh running => ?_⟩
  · refine ⟨_, exec_sensorReport_one serves, ?_⟩
    rw [answered_gdu, reportSlot_slots, updAt_get_same, takeRequest_gdu, Slot.reported]
  · refine ⟨_, exec_slotStaleExpiry supplied n, ?_⟩
    rw [settle_gdu, slotStaleExpiry_slots fresh running, updAt_get_same]

end Sys2Proof.Machine
end


section
/-! Chapters 3 and 7, RESTORE ODOMETER: what a restore leaves in the records, and what it hands (R43, R44, R139). -/

namespace Sys2Proof.Machine

-- One theorem at a time, so that a build as one text needs few threads.
set_option Elab.async false

/-! ## What leaves the TAU and the SVS as they are -/

/-- A frame without the TAU leaves the TAU. -/
theorem OnlyChanges.tau_eq {ps : List Part} {s t : State} (h : OnlyChanges ps s t) (hp : Part.tau ∉ ps := by decide) :
    t.tau = s.tau := h .tau hp

/-- A frame without the SVS leaves the SVS. -/
theorem OnlyChanges.svs_eq {ps : List Part} {s t : State} (h : OnlyChanges ps s t) (hp : Part.svs ∉ ps := by decide) :
    t.svs = s.svs := h .svs hp

/-- A frame without the LKP leaves the LKP. -/
theorem OnlyChanges.lkp_eq {ps : List Part} {s t : State} (h : OnlyChanges ps s t) (hp : Part.lkp ∉ ps := by decide) :
    t.lkp = s.lkp := h .lkp hp

@[simp] theorem takeRequest_tau (s : State) : (takeRequest s).tau = s.tau := (takeRequest_only s).tau_eq

@[simp] theorem takeRequest_svs (s : State) : (takeRequest s).svs = s.svs := (takeRequest_only s).svs_eq

@[simp] theorem takeRequest_wtb (s : State) : (takeRequest s).wtb = s.wtb := rfl

/-! ## The restore -/

@[simp] theorem lkpOdometer_tau (o : OdometerState) (s : State) : (lkpOdometer o s).tau = s.tau := rfl

@[simp] theorem lkpOdometer_svs (o : OdometerState) (s : State) : (lkpOdometer o s).svs = s.svs := rfl

@[simp] theorem lkpOdometer_wtb (o : OdometerState) (s : State) : (lkpOdometer o s).wtb = s.wtb := rfl

@[simp] theorem svsRestore_tau (r : Nat) (s : State) : (svsRestore r s).tau = s.tau := rfl

@[simp] theorem svsRestore_wtb (r : Nat) (s : State) : (svsRestore r s).wtb = s.wtb := rfl

theorem restoreOdometer_only (r : Nat) (s : State) :
    OnlyChanges [.tau, .svs, .wtb, .chs, .clc, .lkp] s (restoreOdometer r s) :=
  (((modTau_only s (Tau.restore r)).comp (modSvs_only _ _) : OnlyChanges [.tau, .svs] _ _).comp (modLkp_only _ _) :
    OnlyChanges [.tau, .svs, .lkp] _ _).comp (wtbOdometer_only _ _)

theorem restoreOdometer_tau (r : Nat) (s : State) : (restoreOdometer r s).tau = s.tau.restore r :=
  (wtbOdometer_only _ _).tau_eq

theorem restoreOdometer_svs (r : Nat) (s : State) : (restoreOdometer r s).svs =
    { s.svs with items := mapAll (fun it =>
      { it with lastOdometer := it.lastOdometer.map fun o => (o + r) % Config.odometerModulus }) s.svs.items } :=
  (wtbOdometer_only _ _).svs_eq

/-- The WTB takes the odometer's new state (R43). -/
theorem restoreOdometer_view (r : Nat) (s : State) :
    (restoreOdometer r s).wtb.view = { s.wtb.view with odometer := .valid } := by
  rw [restoreOdometer, wtbOdometer, wtbTake_view]
  rfl

/-- What a change at the WTB brings about leaves the status byte's odometer marker (R192). -/
theorem wtbTake_odometerInvalid (f : WarnView → WarnView) (test : EntryConfig → Bool) (s : State) :
    (wtbTake f test s).lkp.odometerInvalid = s.lkp.odometerInvalid :=
  (congrArg Lkp.odometerInvalid (ByProducts.wtbTake f test s).lkp :)

/-- The status byte's odometer marker clears (R43). -/
theorem restoreOdometer_odometerInvalid (r : Nat) (s : State) :
    (restoreOdometer r s).lkp.odometerInvalid = false := by
  rw [restoreOdometer, wtbOdometer, wtbTake_odometerInvalid]
  rfl

/-! ## The request -/

section
variable {tag : Byte} {body : List Byte} {s : State} (serves : Serves .restoreOdometer tag body s)
  (length : body.length = 3)
include serves length

theorem exec_restoreOdometer_locked (valid : s.tau.odometerState = .valid) :
    exec .restoreOdometer s = .next (turnedDown ReqKind.restoreOdometer.code tag .locked s) :=
  served_refuse serves (decide_eq_true length) (by simp only [ownRestoreOdometer, takeRequest_tau, valid]; rfl)

theorem exec_restoreOdometer_range (invalid : s.tau.odometerState = .invalid)
    (large : 9999999 - s.tau.accInvalid < u24 body 0) :
    exec .restoreOdometer s = .next (turnedDown ReqKind.restoreOdometer.code tag .range s) :=
  served_refuse serves (decide_eq_true length)
    (by simp only [ownRestoreOdometer, takeRequest_tau, invalid, if_pos large]; rfl)

theorem exec_restoreOdometer_accepted (invalid : s.tau.odometerState = .invalid)
    (fits : u24 body 0 ≤ 9999999 - s.tau.accInvalid) :
    exec .restoreOdometer s = .next (answered .restoreOdometer tag (be3 (u24 body 0 + s.tau.accInvalid))
      (restoreOdometer (u24 body 0) (takeRequest s))) :=
  served_answer serves (decide_eq_true length)
    (by simp only [ownRestoreOdometer, takeRequest_tau, invalid, if_neg (Nat.not_lt.mpr fits)])

end

/-- Settles O40: the refusals of R44 in order, then the records an accepted restore leaves and what it hands. -/
theorem restoreOdometerAnswers : Obligations.RestoreOdometerAnswers := by
  unfold Obligations.RestoreOdometerAnswers
  intro tag body s serves length
  refine ⟨exec_restoreOdometer_locked serves length,
    fun invalid large => exec_restoreOdometer_range serves length invalid (by omega),
    fun invalid fits => ⟨_, exec_restoreOdometer_accepted serves length invalid fits,
      (takeRequest_only s).comp (restoreOdometer_only _ _), ?_, ?_, ?_, restoreOdometer_odometerInvalid _ _⟩⟩
  · rw [restoreOdometer_tau, takeRequest_tau, Tau.restore]
  · rw [restoreOdometer_svs, takeRequest_svs]
  · rw [restoreOdometer_view, takeRequest_wtb]

end Sys2Proof.Machine
end


section
/-! The requests that read: each is answered with the records as they stand, and takes nothing but itself out of the
request buffer (R22, R42, R54, R64, R82, R107, R140, R167, R180). -/

namespace Sys2Proof.Machine

-- One theorem at a time, so that a build as one text needs few threads.
set_option Elab.async false

/-- A request whose body has not the length its kind calls for is refused with LENGTH before its owner sees it (R185). -/
theorem served_wrongLength {k : ReqKind} {tag : Byte} {body : List Byte} {s : State}
    {owner : Request → State → State × Response} (serves : Serves k tag body s) (wrong : k.lengthOk body = false) :
    takeEvent (serve k owner) s = .next (turnedDown k.code tag .length s) := by
  obtain ⟨supplied, oldest, room⟩ := serves
  obtain ⟨rest, requests⟩ := List.head?_eq_some_iff.mp oldest
  rw [takeEvent_supplied supplied, turnedDown]
  simp [serve, requests, room, wrong]

/-! ## How the records are written -/

theorem toList_eq_map_finRange {α : Type} {n : Nat} (v : Vector α n) :
    v.toList = (List.finRange n).map fun i => v[i] :=
  List.ext_getElem (by simp) (by simp)

/-- One byte for each record of a table, in the order of the table. -/
theorem flatMap_toList_be1 {α : Type} {n : Nat} (v : Vector α n) (code : α → Nat) :
    (v.toList.flatMap fun a => be1 (code a)) = (List.finRange n).map fun i => byteOf (code v[i]) := by
  rw [toList_eq_map_finRange, List.flatMap_map]
  exact List.map_eq_flatMap.symm

theorem optField_averageSpeed (t : Trip) : optField 2 be2 t.averageSpeed =
    if t.running = 0 then [0xFF, 0xFF] else be2 (min (t.distance * 3600 / t.running) 2550) := by
  unfold Trip.averageSpeed
  split_ifs <;> rfl

theorem optField_economy (t : Trip) : optField 2 be2 t.economy =
    if t.fuel = 0 then [0xFF, 0xFF] else be2 (min (t.distance * 1000 / t.fuel) 65534) := by
  unfold Trip.economy
  split_ifs <;> rfl

/-! ## The requests -/

section
variable {tag : Byte} {body : List Byte} {s : State}

/-- READ WARNINGS (R107). -/
theorem exec_readWarnings (serves : Serves .readWarnings tag [] s) :
    exec .readWarnings s = .next (answered .readWarnings tag
      ((List.finRange 32).map fun w => byteOf s.wtb.entries[w].state.code) (takeRequest s)) :=
  served_answer serves rfl
    (congrArg (fun fields => (takeRequest s, Response.answer fields)) (flatMap_toList_be1 s.wtb.entries fun e => e.state.code))

/-- READ WARNINGS has no body (Table 60). -/
theorem exec_readWarnings_length (serves : Serves .readWarnings tag body s) (nonempty : body ≠ []) :
    exec .readWarnings s = .next (turnedDown ReqKind.readWarnings.code tag .length s) :=
  served_wrongLength serves (decide_eq_false (mt List.length_eq_zero_iff.mp nonempty))

/-- READ TRIP of a trip there is (R54). -/
theorem exec_readTrip {n : TripIx} (serves : Serves .readTrip tag body s) (length : body.length = 1)
    (trip : u8 body 0 = n) :
    exec .readTrip s = .next (answered .readTrip tag s.tau.trips[n].fields (takeRequest s)) :=
  served_answer serves (decide_eq_true length) (by rw [ownReadTrip, ixOf_eq_some.mpr trip]; rfl)

theorem exec_readTrip_range (serves : Serves .readTrip tag body s) (length : body.length = 1) (out : 4 ≤ u8 body 0) :
    exec .readTrip s = .next (turnedDown ReqKind.readTrip.code tag .range s) :=
  served_refuse serves (decide_eq_true length) (by rw [ownReadTrip, ixOf_eq_none.mpr out]; rfl)

/-- READ SERVICE of an item there is (R140). -/
theorem exec_readService {n : ItemIx} (serves : Serves .readService tag body s) (length : body.length = 1)
    (item : u8 body 0 = n) :
    exec .readService s = .next (answered .readService tag s.svs.items[n].fields (takeRequest s)) :=
  served_answer serves (decide_eq_true length) (by rw [ownReadService, ixOf_eq_some.mpr item]; rfl)

theorem exec_readService_range (serves : Serves .readService tag body s) (length : body.length = 1)
    (out : 8 ≤ u8 body 0) :
    exec .readService s = .next (turnedDown ReqKind.readService.code tag .range s) :=
  served_refuse serves (decide_eq_true length) (by rw [ownReadService, ixOf_eq_none.mpr out]; rfl)

end

/-- Settles O24: the entry states by their codes, the records of the other blocks as they stand, and READ TRIP and READ
SERVICE by their index. -/
theorem readRequestsAnswer : Obligations.ReadRequestsAnswer := by
  unfold Obligations.ReadRequestsAnswer
  refine ⟨fun tag body s serves => ?readWarnings,
    fun tag s => ⟨fun serves => served_answer serves rfl rfl, fun serves => served_answer serves rfl rfl,
      fun serves => ?readGauges, fun serves => served_answer serves rfl rfl, fun serves => served_answer serves rfl rfl,
      fun serves => served_answer serves rfl rfl⟩,
    fun tag body s serves length => ⟨exec_readTrip_range serves length, fun n trip => ?readTrip⟩,
    fun tag body s serves length => ⟨exec_readService_range serves length, fun n => exec_readService serves length⟩⟩
  case readWarnings =>
    split_ifs with empty
    · subst empty
      rw [exec_readWarnings serves]
      congr 3
      funext w
      cases s.wtb.entries[w].state <;> rfl
    · exact exec_readWarnings_length serves empty
  case readGauges =>
    refine served_answer serves rfl (congrArg (fun fields => (takeRequest s, Response.answer fields)) ?_)
    congr 1
    funext g
    cases g.present <;> rfl
  case readTrip =>
    rw [exec_readTrip serves length trip, Trip.fields, optField_averageSpeed, optField_economy]
    rfl

end Sys2Proof.Machine
end


section
/-! The notices that an operation hands the LKP, and what they leave of the notices that wait (R189). -/

namespace Sys2Proof.Machine

-- One theorem at a time, so that a build as one text needs few threads.
set_option Elab.async false

/-! ## A notice that has been handed -/

/-- A notice waits in the queue, or the notices-lost marker says that one found no room (R189). -/
def Lkp.Told (n : Notice) (l : Lkp) : Prop := n ∈ l.notices ∨ l.noticesLost = true

theorem Lkp.takeNotice_mask (n : Notice) (l : Lkp) : (l.takeNotice n).mask = l.mask :=
  (congrArg Lkp.mask (Lkp.takeNotice_keeps n l) :)

/-- A notice of a kind that is on is told once it is handed (R189). -/
theorem Lkp.told_takeNotice {n : Notice} {l : Lkp} (on : l.mask.getLsbD n.bit = true) :
    Lkp.Told n (l.takeNotice n) := by
  unfold Lkp.takeNotice
  split_ifs with off same full
  · simp [on] at off
  · obtain ⟨m, held, key⟩ := List.any_eq_true.mp same
    exact .inl (List.mem_map.mpr ⟨m, held, if_pos (of_decide_eq_true key)⟩)
  · exact .inr rfl
  · exact .inl (List.mem_append_right _ (List.mem_singleton_self n))

/-- A notice that is told stays so when another one is handed that does not take its place (R189). -/
theorem Lkp.Told.takeNotice {n m : Notice} {l : Lkp} (told : l.Told n) (place : n.key = m.key → m = n) :
    (l.takeNotice m).Told n := by
  unfold Lkp.takeNotice
  split_ifs with off same full
  · exact told
  · refine told.imp_left fun held => List.mem_map.mpr ⟨n, held, ?_⟩
    split_ifs with key
    · exact place key
    · rfl
  · exact .inr rfl
  · exact told.imp_left fun held => List.mem_append_left _ held

/-! ## Operations that hand notices of certain kinds alone -/

/-- Of the LKP only the notice queue changes between two states, by notices of these kinds, by their mask bits, taken one
after another. -/
def NoticesOnly (bits : List Nat) (s t : State) : Prop :=
  ∃ ns : List Notice, (∀ n ∈ ns, n.bit ∈ bits) ∧ t.lkp = ns.foldl (fun l n => l.takeNotice n) s.lkp

namespace NoticesOnly

variable {bits : List Nat} {s t u : State}

theorem of_lkp_eq (same : t.lkp = s.lkp) : NoticesOnly bits s t := ⟨[], by simp, same⟩

theorem of_only {ps : List Part} (h : OnlyChanges ps s t) (hp : Part.lkp ∉ ps := by decide) : NoticesOnly bits s t :=
  of_lkp_eq (h.lkp_eq hp)

theorem refl (s : State) : NoticesOnly bits s s := of_lkp_eq rfl

theorem trans (h : NoticesOnly bits s t) (k : NoticesOnly bits t u) : NoticesOnly bits s u := by
  obtain ⟨ns, kinds, first⟩ := h
  obtain ⟨ms, kinds', second⟩ := k
  refine ⟨ns ++ ms, fun n mem => (List.mem_append.mp mem).elim (kinds n) (kinds' n), ?_⟩
  rw [second, first, List.foldl_append]

theorem notify {n : Notice} (kind : n.bit ∈ bits) (s : State) : NoticesOnly bits s (s.notify n) :=
  ⟨[n], by simpa using kind, rfl⟩

theorem foldl {α : Type} {f : State → α → State} (h : ∀ s a, NoticesOnly bits s (f s a)) (l : List α) (s : State) :
    NoticesOnly bits s (l.foldl f s) :=
  List.foldlRecOn l f (refl s) fun t before a _ => before.trans (h t a)

theorem eachIx {n : Nat} {f : Fin n → State → State} (h : ∀ i s, NoticesOnly bits s (f i s)) (s : State) :
    NoticesOnly bits s (Machine.eachIx n f s) := foldl (fun s i => h i s) _ s

theorem hand {take : Block → State → State} (h : ∀ b s, NoticesOnly bits s (take b s)) (targets : List Block)
    (s : State) : NoticesOnly bits s (Machine.hand targets take s) :=
  (of_only (modFree_only s _)).trans (foldl (fun s b => h b s) _ _)

theorem mask_eq (h : NoticesOnly bits s t) : t.lkp.mask = s.lkp.mask := by
  obtain ⟨ns, -, taken⟩ := h
  rw [taken]
  exact List.foldlRecOn (motive := fun l => l.mask = s.lkp.mask) ns _ rfl
    fun l same n _ => (Lkp.takeNotice_mask n l).trans same

/-- A notice of another kind stays told. -/
theorem told (h : NoticesOnly bits s t) {n : Notice} (other : n.bit ∉ bits) (before : s.lkp.Told n) :
    t.lkp.Told n := by
  obtain ⟨ns, kinds, taken⟩ := h
  rw [taken]
  refine List.foldlRecOn (motive := Lkp.Told n) ns _ before fun l told m mem => told.takeNotice fun key => ?_
  have bit : n.bit = m.bit := congrArg Prod.fst key
  exact absurd (bit ▸ kinds m mem) other

/-! ## The WTB and the CHS hand WARNING and CHIME notices -/

/-- The mask bits of the WARNING and the CHIME notices (Table 65). -/
abbrev warnBits : List Nat := [1, 2]

theorem wtbRequestEnd (w : EntryIx) (s : State) : NoticesOnly warnBits s (Machine.wtbRequestEnd w s) := by
  unfold Machine.wtbRequestEnd
  split_ifs
  · split
    · exact .of_only (modEntry_only s w _)
    · exact .refl s
  · exact .refl s

theorem handEnd (o : ChimeOutcome) (r : ChimeRequest) (s : State) :
    NoticesOnly warnBits s (Machine.handEnd o r s) := by
  unfold Machine.handEnd
  split
  · exact .wtbRequestEnd _ s
  · split
    · exact .notify (by simp [Notice.bit]) s
    · exact .refl s
  · exact .refl s
  · exact .refl s

theorem handNotQueued (src : ChimeSource) (s : State) : NoticesOnly warnBits s (Machine.handNotQueued src s) := by
  unfold Machine.handNotQueued
  split
  · exact .wtbRequestEnd _ s
  all_goals exact .refl s

theorem takeChime (r : ChimeRequest) (s : State) : NoticesOnly warnBits s (Machine.takeChime r s).1 := by
  unfold Machine.takeChime
  split
  · split_ifs
    · exact (NoticesOnly.handEnd _ _ s).trans (.of_only (modChs_only _ _))
    · exact .refl s
  · split_ifs
    · exact .of_only (modChs_only s _)
    · split
      · split_ifs
        · exact (NoticesOnly.handEnd _ _ s).trans (.of_only (modChs_only _ _))
        · exact .handNotQueued _ s
      · exact .handNotQueued _ s

theorem reportEntry (w : EntryIx) (old new : EntryState) (s : State) :
    NoticesOnly warnBits s (Machine.reportEntry w old new s) := by
  have report : NoticesOnly warnBits s (s.notify (.warning w new)) := .notify (by simp [Notice.bit]) s
  unfold Machine.reportEntry
  split_ifs
  · exact report.trans (.of_only (mark_only _ _))
  · exact report

theorem handWarningChime (w : EntryIx) (s : State) : NoticesOnly warnBits s (Machine.handWarningChime w s) := by
  unfold Machine.handWarningChime
  split
  · exact .takeChime _ s
  · exact .refl s

/-- An entry changes its state, hands the CHS what goes with it, and reports the change (R94, R95, R97). -/
theorem entryChange {w : EntryIx} {f : Entry → Entry} {chime : State → State} (old new : EntryState)
    (h : ∀ s, NoticesOnly warnBits s (chime s)) (s : State) :
    NoticesOnly warnBits s (Machine.reportEntry w old new (chime (s.modEntry w f))) :=
  ((of_only (modEntry_only s w f)).trans (h _)).trans (.reportEntry w old new _)

theorem enterActive (w : EntryIx) (s : State) : NoticesOnly warnBits s (Machine.enterActive w s) :=
  entryChange _ _ (.handWarningChime w) s

theorem leaveActive (w : EntryIx) (new : EntryState) (s : State) :
    NoticesOnly warnBits s (Machine.leaveActive w new s) :=
  entryChange _ _ (fun s => .of_only (modChs_only s _)) s

theorem enterPending (w : EntryIx) (s : State) : NoticesOnly warnBits s (Machine.enterPending w s) :=
  entryChange (chime := id) _ _ .refl s

theorem enterIdle (w : EntryIx) (s : State) : NoticesOnly warnBits s (Machine.enterIdle w s) :=
  entryChange (chime := id) _ _ .refl s

theorem moveEntry (w : EntryIx) (condition : Bool) (s : State) :
    NoticesOnly warnBits s (Machine.moveEntry w condition s) := by
  unfold Machine.moveEntry
  split
  · split_ifs
    · exact .enterActive w s
    · exact .enterPending w s
  · exact .enterIdle w s
  · exact .leaveActive w _ s
  · exact .enterIdle w s
  · exact .enterActive w s
  all_goals exact .refl s

theorem evaluateEntry (w : EntryIx) (s : State) : NoticesOnly warnBits s (Machine.evaluateEntry w s) := by
  unfold Machine.evaluateEntry
  dsimp only
  split_ifs
  · exact .refl s
  · exact (of_only (modEntry_only s w _)).trans (.moveEntry w _ _)

theorem evaluateWhere (test : EntryConfig → Bool) (s : State) :
    NoticesOnly warnBits s (Machine.evaluateWhere test s) := by
  refine eachIx (fun w s => ?_) s
  split_ifs
  · exact .evaluateEntry w s
  · exact .refl s

/-- A change the WTB takes. -/
theorem wtbTake (f : WarnView → WarnView) (test : EntryConfig → Bool) (s : State) :
    NoticesOnly warnBits s (Machine.wtbTake f test s) :=
  (of_only (modWarnView_only s f)).trans (.evaluateWhere test _)

/-! ## The PCU's changes reach the LKP through the WTB alone -/

theorem setDisagree (b : Bool) (s : State) : NoticesOnly warnBits s (Machine.setDisagree b s) := by
  unfold Machine.setDisagree
  split_ifs
  · exact .refl s
  · exact (of_only (modPcu_only s _)).trans (.wtbTake _ _ _)

theorem leaveLive (s : State) : NoticesOnly warnBits s (Machine.leaveLive s) :=
  (of_only (modPcu_only s _)).trans (.setDisagree _ _)

theorem takeChannel (ch : ChannelIx) (st : ChannelState) (engine road : Bool) (b : Block) (s : State) :
    NoticesOnly warnBits s (Machine.takeChannel ch st engine road b s) := by
  cases b
  case gdu => exact .of_only (gduChannel_only s ch st)
  case wtb =>
    unfold Machine.takeChannel wtbChannel
    exact .wtbTake _ _ s
  case tau => exact (of_only (tauEngine_only s engine)).trans (.of_only (tauRoadLive_only _ road))
  case svs => exact .of_only (modSvs_only s _)
  case clc => exact .of_only (clcRoadLive_only s road)
  all_goals exact .refl s

/-- A channel's change with its handing (R5). -/
theorem changeChannel (ch : ChannelIx) (f : Channel → Channel) (s : State) :
    NoticesOnly warnBits s (Machine.changeChannel ch f s) := by
  have first : NoticesOnly warnBits s (s.modChannel ch f) := .of_only (modChannel_only s ch f)
  unfold Machine.changeChannel
  dsimp only
  split_ifs
  · exact first
  · exact (first.trans (.leaveLive _)).trans (hand (.takeChannel _ _ _ _) _ _)
  · exact first.trans (hand (.takeChannel _ _ _ _) _ _)

theorem setImplausible (b : Bool) (s : State) : NoticesOnly warnBits s (Machine.setImplausible b s) := by
  unfold Machine.setImplausible
  split_ifs
  · exact .refl s
  · exact (of_only (modPcu_only s _)).trans (.wtbTake _ _ _)

theorem followImplausible (s : State) : NoticesOnly warnBits s (Machine.followImplausible s) := by
  unfold Machine.followImplausible
  split_ifs
  · exact .setImplausible _ s
  · exact .setImplausible _ s
  · exact .refl s

end NoticesOnly
end Sys2Proof.Machine
end


section
/-! Chapters 1 and 3, net fuel: what the edges of CH2 and CH3 do to the divider, and what a fuel unit does to the trips and
the open bucket (R14, R49, R53). -/

namespace Sys2Proof.Machine

-- One theorem at a time, so that a build as one text needs few threads.
set_option Elab.async false

/-! ## Taking every record of a table in turn -/

/-- What each operation of a table leaves as it is, all of them leave. -/
theorem eachIx_keeps {n : Nat} {α : Type} {f : Fin n → State → State} {get : State → α}
    (keeps : ∀ i s, get (f i s) = get s) (s : State) : get (eachIx n f s) = get s :=
  List.foldlRecOn (motive := fun t => get t = get s) _ _ rfl fun t same i _ => (keeps i t).trans same

/-- What the operation on `i` brings about, from what the others leave standing, and what none undoes, holds at the
end. -/
theorem eachIx_reaches {n : Nat} {f : Fin n → State → State} {i : Fin n} {before goal : State → Prop}
    (reach : ∀ s, before s → goal (f i s)) (others : ∀ j s, j ≠ i → before s → before (f j s))
    (stays : ∀ j s, goal s → goal (f j s)) {s : State} (start : before s) : goal (eachIx n f s) := by
  suffices ∀ (l : List (Fin n)) (s : State), i ∈ l → before s → goal (l.foldl (fun s j => f j s) s) from
    this _ s (List.mem_finRange i) start
  intro l
  induction l with
  | nil => intro s mem; cases mem
  | cons j l ih =>
    intro s mem start
    rw [List.foldl_cons]
    by_cases turn : j = i
    · subst turn
      exact List.foldlRecOn (motive := goal) _ _ (reach s start) fun t held k _ => stays k t held
    · exact ih _ (List.mem_of_ne_of_mem (Ne.symm turn) mem) (others j s turn start)

/-- A handing leaves what each of its takers leaves, and what no free value touches. -/
theorem hand_keeps {α : Type} {get : State → α} {take : Block → State → State}
    (free : ∀ s f, get (s.modFree f) = get s) (keeps : ∀ b s, get (take b s) = get s) (targets : List Block) (s : State) :
    get (hand targets take s) = get s :=
  List.foldlRecOn (motive := fun t => get t = get s) _ _ (free s _) fun t same b _ => (keeps b t).trans same

theorem updAt_congr {α : Type} {n : Nat} {v : Vector α n} {i : Fin n} {f g : α → α} (same : f v[i] = g v[i]) :
    updAt v i f = updAt v i g := by rw [updAt, updAt, same]

theorem updAt_of_fixed {α : Type} {n : Nat} {v : Vector α n} {i : Fin n} {f : α → α} (fixed : f v[i] = v[i]) :
    updAt v i f = v := by
  rw [updAt, fixed]
  simp

/-! ## A fuel unit -/

/-- A trip after a fuel unit: it counts while it is OPEN (R49). -/
def Trip.takeFuel (t : Trip) : Trip := if t.state = .open then { t with fuel := min (t.fuel + 1) 9999999 } else t

/-- The TAU after a fuel unit (R49). -/
def Tau.takeFuel (u : Tau) : Tau :=
  { u with
    trips := mapAll Trip.takeFuel u.trips
    bucket := { u.bucket with fuel := min (u.bucket.fuel + 1) 9999999 } }

theorem Tau.takeFuel_trip (u : Tau) (t : TripIx) : u.takeFuel.trips[t] = u.trips[t].takeFuel :=
  mapAll_get Trip.takeFuel u.trips t

theorem Trip.takeFuel_fuel (t : Trip) :
    t.takeFuel.fuel = if t.state = .open then min (t.fuel + 1) 9999999 else t.fuel := by
  unfold Trip.takeFuel
  split_ifs <;> rfl

@[simp] theorem tripNotice_tau (t : TripIx) (what : TripWhat) (s : State) : (tripNotice t what s).tau = s.tau :=
  (tripNotice_only s t what).tau_eq

theorem tripFuel_tau (t : TripIx) (s : State) :
    (tripFuel t s).tau = { s.tau with trips := updAt s.tau.trips t Trip.takeFuel } := by
  unfold tripFuel
  dsimp only
  by_cases opened : s.tau.trips[t].state = .open
  · have counts : updAt s.tau.trips t (fun x => { x with fuel := countUp Config.maxFuel s.tau.trips[t].fuel }) =
        updAt s.tau.trips t Trip.takeFuel := updAt_congr (by rw [Trip.takeFuel, if_pos opened, countUp])
    rw [if_pos opened, ← counts]
    split_ifs
    · rw [tripNotice_tau]; rfl
    · rfl
  · rw [if_neg opened, updAt_of_fixed (by rw [Trip.takeFuel, if_neg opened])]

/-- A trip's fuel comes to its maximum from one below it (R53). -/
theorem justSaturated_maxFuel (n : Nat) :
    justSaturated Config.maxFuel n (countUp Config.maxFuel n) = true ↔ n = 9999998 := by
  change (decide (n < 9999999) && decide (min (n + 1) 9999999 = 9999999)) = true ↔ _
  rw [Bool.and_eq_true, decide_eq_true_iff, decide_eq_true_iff]
  omega

/-- A trip brings its notice SATURATED at the unit that fills its fuel, and no other (R53). -/
theorem tripFuel_lkp (t : TripIx) (s : State) : (tripFuel t s).lkp =
    if s.tau.trips[t].state = .open ∧ s.tau.trips[t].fuel = 9999998
    then s.lkp.takeNotice (.trip t.castSucc .saturated) else s.lkp := by
  unfold tripFuel
  simp only [justSaturated_maxFuel, ite_and]
  split_ifs <;> rfl

theorem tauFuel_only (s : State) : OnlyChanges [.tau, .lkp] s (tauFuel s) := (tauFuel_frame s).comp (modTau_only _ _)

theorem eachIx_tripFuel_tau (s : State) :
    (eachIx 4 tripFuel s).tau = { s.tau with trips := mapAll Trip.takeFuel s.tau.trips } := by
  have others : { (eachIx 4 tripFuel s).tau with trips := s.tau.trips } = s.tau :=
    eachIx_keeps (get := fun x => { x.tau with trips := s.tau.trips }) (fun t x => by rw [tripFuel_tau]) s
  have trips : (eachIx 4 tripFuel s).tau.trips = mapAll Trip.takeFuel s.tau.trips := by
    refine Vector.ext fun i bound => ?_
    obtain ⟨x, same, taken⟩ := eachIx_at (f := tripFuel) (get := fun x => x.tau.trips[(⟨i, bound⟩ : TripIx)])
      (fun t x ne => by rw [tripFuel_tau, updAt_get_other _ _ _ _ ne]) s
    rw [tripFuel_tau, updAt_get_same, same, ← mapAll_get Trip.takeFuel] at taken
    exact taken
  rw [← others, ← trips]

theorem tauFuel_tau (s : State) : (tauFuel s).tau = s.tau.takeFuel := by
  rw [tauFuel, State.modTau_tau, eachIx_tripFuel_tau]
  rfl

/-- No other trip's notice takes the place of a trip's SATURATED (R189). -/
theorem tripFuel_told {n : TripIx} (t : TripIx) (s : State) (told : s.lkp.Told (.trip n.castSucc .saturated)) :
    (tripFuel t s).lkp.Told (.trip n.castSucc .saturated) := by
  rw [tripFuel_lkp]
  split_ifs
  · refine told.takeNotice fun key => ?_
    have trip : n.val = t.val := congrArg Prod.snd key
    rw [Fin.ext trip]
  · exact told

/-- The next fuel unit fills a trip's fuel, while the TRIP notices are on. -/
def FuelFillsNext (n : TripIx) (s : State) : Prop :=
  (s.tau.trips[n].state = .open ∧ s.tau.trips[n].fuel = 9999998) ∧ s.lkp.mask.getLsbD 8 = true

theorem tripFuel_told_of_fillsNext {n : TripIx} {s : State} (next : FuelFillsNext n s) :
    (tripFuel n s).lkp.Told (.trip n.castSucc .saturated) := by
  obtain ⟨filled, on⟩ := next
  rw [tripFuel_lkp, if_pos filled]
  exact Lkp.told_takeNotice on

/-- The unit at the other trips leaves that standing. -/
theorem FuelFillsNext.tripFuel {n t : TripIx} {s : State} (ne : t ≠ n) (next : FuelFillsNext n s) :
    FuelFillsNext n (tripFuel t s) := by
  obtain ⟨filled, on⟩ := next
  rw [FuelFillsNext, tripFuel_tau, updAt_get_other _ _ _ _ ne, tripFuel_lkp]
  refine ⟨filled, ?_⟩
  split_ifs
  · rw [Lkp.takeNotice_mask, on]
  · exact on

/-- A fuel unit that fills an OPEN trip's fuel tells it (R53). -/
theorem tauFuel_told {n : TripIx} {s : State} (next : FuelFillsNext n s) :
    (tauFuel s).lkp.Told (.trip n.castSucc .saturated) := by
  rw [tauFuel, State.modTau_lkp]
  exact eachIx_reaches (goal := fun x => x.lkp.Told (.trip n.castSucc .saturated))
    (fun _ => tripFuel_told_of_fillsNext) (fun _ _ => FuelFillsNext.tripFuel) tripFuel_told next

/-! ## The edge of a channel -/

/-- The TAU's records, without its copies of the PCU's states and the level-at-stop that the fall of one takes (R60). -/
def Tau.records (u : Tau) : Tau := { u with engineRunning := false, roadLive := false, levelAtStop := none }

theorem tauRoadLive_records (b : Bool) (s : State) : (tauRoadLive b s).tau.records = s.tau.records := by
  unfold tauRoadLive
  dsimp only
  split_ifs <;> rfl

theorem takeChannel_records (ch : ChannelIx) (st : ChannelState) (engine road : Bool) (b : Block) (s : State) :
    (takeChannel ch st engine road b s).tau.records = s.tau.records := by
  cases b
  case tau => exact tauRoadLive_records road _
  case wtb => rw [takeChannel, (wtbChannel_only _ _ _ _ _).tau_eq]
  case clc => rw [takeChannel, (clcRoadLive_only _ _).tau_eq]
  all_goals rfl

/-- A channel's change reaches none of the TAU's records (R5). -/
theorem changeChannel_records (ch : ChannelIx) (f : Channel → Channel) (s : State) :
    (changeChannel ch f s).tau.records = s.tau.records := by
  have handed (st : ChannelState) (engine road : Bool) (t : State) :
      (hand [.gdu, .wtb, .tau, .svs, .clc] (takeChannel ch st engine road) t).tau.records = t.tau.records :=
    hand_keeps (get := fun s => s.tau.records) (fun _ _ => rfl) (takeChannel_records ch st engine road) _ t
  unfold changeChannel
  dsimp only
  split_ifs
  · rfl
  · rw [handed, (leaveLive_only _).tau_eq, State.modChannel_tau]
  · rw [handed, State.modChannel_tau]

/-- A channel's change leaves the PCU's other records but the cross-check and the speed disagreement (R15). -/
theorem changeChannel_pcu_keeps (ch : ChannelIx) (f : Channel → Channel) (s : State) :
    { (changeChannel ch f s).pcu with channels := s.pcu.channels, cross := s.pcu.cross, disagree := s.pcu.disagree } =
      s.pcu := by
  unfold changeChannel
  dsimp only
  split_ifs
  · rfl
  · rw [hand_takeChannel_pcu, leaveLive_pcu]; rfl
  · rw [hand_takeChannel_pcu]; rfl

section
variable (ch : ChannelIx) (f : Channel → Channel) (s : State)

@[simp] theorem changeChannel_fuelResidue : (changeChannel ch f s).pcu.fuelResidue = s.pcu.fuelResidue :=
  (congrArg Pcu.fuelResidue (changeChannel_pcu_keeps ch f s) :)

@[simp] theorem changeChannel_implausible : (changeChannel ch f s).pcu.implausible = s.pcu.implausible :=
  (congrArg Pcu.implausible (changeChannel_pcu_keeps ch f s) :)

end

/-! ## The net fuel divider -/

@[simp] theorem setImplausible_pcu (b : Bool) (s : State) :
    (setImplausible b s).pcu = { s.pcu with implausible := b } := by
  unfold setImplausible
  split_ifs with same
  · rw [← same]
  · exact (wtbImplausible_only _ b).pcu_eq

/-- The condition is set at −Kf and clears at 0 (R14). -/
theorem followImplausible_pcu (s : State) : (followImplausible s).pcu =
    { s.pcu with implausible := if s.pcu.fuelResidue = -(s.pcu.cal.kf : Int) then true
      else if 0 ≤ s.pcu.fuelResidue then false else s.pcu.implausible } := by
  unfold followImplausible
  split_ifs <;> simp

@[simp] theorem followImplausible_tau (s : State) : (followImplausible s).tau = s.tau :=
  (followImplausible_only s).tau_eq

section
variable {s : State}

/-- A supply edge that reaches Kf: the fuel unit, and the condition after it (R14). -/
theorem supplyEdge_of_unit (unit : (s.pcu.cal.kf : Int) ≤ s.pcu.fuelResidue + 1) : supplyEdge s =
    followImplausible (tauFuel (s.modPcu fun p => { p with fuelResidue := s.pcu.fuelResidue + 1 - p.cal.kf })) :=
  congrArg followImplausible (if_pos unit)

theorem supplyEdge_of_no_unit (no : ¬ (s.pcu.cal.kf : Int) ≤ s.pcu.fuelResidue + 1) : supplyEdge s =
    followImplausible (s.modPcu fun p => { p with fuelResidue := s.pcu.fuelResidue + 1 }) :=
  congrArg followImplausible (if_neg no)

end

theorem supplyEdge_tau (s : State) : (supplyEdge s).tau =
    if (s.pcu.cal.kf : Int) ≤ s.pcu.fuelResidue + 1 then s.tau.takeFuel else s.tau := by
  split_ifs with unit
  · rw [supplyEdge_of_unit unit, followImplausible_tau, tauFuel_tau]; rfl
  · rw [supplyEdge_of_no_unit unit, followImplausible_tau]; rfl

theorem supplyEdge_pcu (s : State) :
    let r := if (s.pcu.cal.kf : Int) ≤ s.pcu.fuelResidue + 1 then s.pcu.fuelResidue + 1 - s.pcu.cal.kf
      else s.pcu.fuelResidue + 1
    (supplyEdge s).pcu = { s.pcu with
      fuelResidue := r
      implausible := if r = -(s.pcu.cal.kf : Int) then true else if 0 ≤ r then false else s.pcu.implausible } := by
  dsimp only
  by_cases unit : (s.pcu.cal.kf : Int) ≤ s.pcu.fuelResidue + 1
  · simp only [supplyEdge_of_unit unit, if_pos unit, followImplausible_pcu, (tauFuel_only _).pcu_eq]
    rfl
  · simp only [supplyEdge_of_no_unit unit, if_neg unit, followImplausible_pcu]
    rfl

/-- A fuel unit tells the trips it fills, and the change of the condition that follows leaves that told. -/
theorem supplyEdge_told {n : TripIx} {s : State} (unit : (s.pcu.cal.kf : Int) ≤ s.pcu.fuelResidue + 1)
    (next : FuelFillsNext n s) : (supplyEdge s).lkp.Told (.trip n.castSucc .saturated) := by
  rw [supplyEdge_of_unit unit]
  exact (NoticesOnly.followImplausible _).told (by simp [Notice.bit]) (tauFuel_told next)

theorem returnEdge_tau (s : State) : (returnEdge s).tau = s.tau := (returnEdge_only s).tau_eq

theorem returnEdge_pcu (s : State) :
    let r := max (s.pcu.fuelResidue - 1) (-(s.pcu.cal.kf : Int))
    (returnEdge s).pcu = { s.pcu with
      fuelResidue := r
      implausible := if r = -(s.pcu.cal.kf : Int) then true else if 0 ≤ r then false else s.pcu.implausible } :=
  followImplausible_pcu _

/-- An edge of a channel that is not OFF is one event: the channel takes it, then the divider it feeds (R4, Table 6). -/
theorem exec_pulseEdge {s : State} (supplied : s.igs.supplied = true) {ch : ChannelIx} (at10us : Nat)
    (on : s.pcu.channels[ch].state ≠ .off) : exec (.pulseEdge ch at10us) s =
      .next (settle (dividerEdge ch (changeChannel ch (Channel.edge at10us) s))) :=
  (takeEvent_supplied supplied).trans (by rw [pulseEdge, if_neg on])

/-! ## The edges of CH2 and CH3 -/

/-- The ring, the odometer with the count beside it, the destination and the range are not for a fuel unit (R49). -/
theorem fuelUnit_keeps {u v : Tau} (same : v.records = u.records ∨ v.records = u.takeFuel.records) :
    v.ring = u.ring ∧ v.odometer = u.odometer ∧ v.accInvalid = u.accInvalid ∧ v.destination = u.destination ∧
      v.range = u.range := by
  rcases same with same | same <;>
  · have field {α : Type} (get : Tau → α) := congrArg get same
    exact ⟨field Tau.ring, field Tau.odometer, field Tau.accInvalid, field Tau.destination, field Tau.range⟩

section
variable (f : Channel → Channel) (s : State)

/-- An edge of CH2: of the TAU's records only the fuel unit's change. -/
theorem supplyEdge_changeChannel_records : (supplyEdge (changeChannel 2 f s)).tau.records =
    if (s.pcu.cal.kf : Int) ≤ s.pcu.fuelResidue + 1 then s.tau.takeFuel.records else s.tau.records := by
  rw [supplyEdge_tau, changeChannel_cal, changeChannel_fuelResidue]
  split_ifs
  · exact congrArg Tau.takeFuel (changeChannel_records 2 f s)
  · exact changeChannel_records 2 f s

/-- An edge of CH3 changes none of the TAU's records. -/
theorem returnEdge_changeChannel_records : (returnEdge (changeChannel 3 f s)).tau.records = s.tau.records := by
  rw [returnEdge_tau, changeChannel_records]

/-- The handing of a channel's change leaves a trip as near to its maximum as it was. -/
theorem FuelFillsNext.changeChannel {n : TripIx} {s : State} (ch : ChannelIx) (next : FuelFillsNext n s) :
    FuelFillsNext n (Machine.changeChannel ch f s) := by
  have trips : (Machine.changeChannel ch f s).tau.trips = s.tau.trips :=
    (congrArg Tau.trips (changeChannel_records ch f s) :)
  rw [FuelFillsNext, trips, (NoticesOnly.changeChannel ch f s).mask_eq]
  exact next

end

/-- Settles O29: the fuel unit at the TAU, then the edges of CH2 and CH3, whose handing of the channel's own change (R5)
reaches none of the records that count fuel. -/
theorem fuelEdgesCountFuel : Obligations.FuelEdgesCountFuel := by
  unfold Obligations.FuelEdgesCountFuel
  refine ⟨fun s => ?fuelUnit, fun at10us s supplied => ⟨fun on => ?supply, fun on => ?back⟩⟩
  case fuelUnit =>
    rw [tauFuel_tau]
    exact ⟨tauFuel_only s, s.tau.takeFuel_trip, rfl, rfl, fun t opened last on => tauFuel_told ⟨⟨opened, last⟩, on⟩,
      fun t => tripFuel_lkp t s⟩
  case supply =>
    have records := supplyEdge_changeChannel_records (Channel.edge at10us) s
    refine ⟨supplyEdge _, exec_pulseEdge supplied at10us on, ?_, ?_, ?_, ?_, fun t => ⟨?_, fun unit opened last mask =>
      supplyEdge_told (by simpa using unit) (.changeChannel _ 2 ⟨⟨opened, last⟩, mask⟩)⟩⟩
    · split_ifs at records ⊢ <;> exact (congrArg Tau.bucket records :)
    · refine fuelUnit_keeps ?_
      split_ifs at records
      · exact .inr records
      · exact .inl records
    · simp [supplyEdge_pcu]
    · simp [supplyEdge_pcu]
    · have trip := congrArg (fun u => u.trips[t].fuel) records
      rw [ite_and, ← Trip.takeFuel_fuel, ← Tau.takeFuel_trip]
      split_ifs at trip ⊢ <;> exact (trip :)
  case back =>
    have records := returnEdge_changeChannel_records (Channel.edge at10us) s
    refine ⟨returnEdge _, exec_pulseEdge supplied at10us on, (congrArg Tau.bucket records :),
      fuelUnit_keeps (.inl records), ?_, ?_, fun t => (congrArg (fun u => u.trips[t].fuel) records :)⟩
    · simp [returnEdge_pcu]
    · simp [returnEdge_pcu]

end Sys2Proof.Machine
end


section
/-! Chapter 5, SET WARNING and LINK CONDITION: the fields a body carries, and what the requests do to the entry they
name (R90, R106). -/

namespace Sys2Proof.Machine

-- One theorem at a time, so that a build as one text needs few threads.
set_option Elab.async false

/-! ## An index and a flag -/

section
variable {n k f : Nat}

theorem ixOf_flagOf_eq_some {i : Fin n} {b : Bool} (index : k = i) (flag : f = b.toNat) :
    (do let i ← ixOf n k; let b ← flagOf f; return (i, b)) = some (i, b) := by
  rw [ixOf_eq_some.mpr index, flagOf_eq_some.mpr flag]
  rfl

theorem ixOf_flagOf_eq_none (out : n ≤ k ∨ 2 ≤ f) :
    (do let i ← ixOf n k; let b ← flagOf f; return (i, b)) = none := by
  rcases out with index | flag
  · rw [ixOf_eq_none.mpr index]
    rfl
  · rw [flagOf_eq_none.mpr flag]
    cases ixOf n k <;> rfl

end

/-! ## The codes of Tables 27 and 28, written -/

/-- The argument of a value source (Table 27). -/
def WarnValue.code : WarnValue → Nat
  | .roadSpeed => 0 | .engineSpeed => 1 | .checkSpeed => 2 | .range => 3
  | .slot n => n + 4

/-- The kind of a source (Table 27). -/
def WarnSource.kind : WarnSource → Nat
  | .valueAbove _ => 0 | .valueBelow _ => 1 | .switch _ => 2 | .channelFault _ => 3 | .slotStale _ => 4
  | .speedDisagree => 5 | .fuelImplausible => 6 | .service _ => 7 | .nodeLost _ => 8 | .lineFault => 9
  | .linkCondition => 10 | .odometerInvalid => 11 | .clockUnset => 12 | .arrival => 13

/-- The argument of a source (Table 27): 0 where it has none. -/
def WarnSource.arg : WarnSource → Nat
  | .valueAbove v | .valueBelow v => v.code
  | .switch n | .slotStale n => n
  | .channelFault ch => ch
  | .service i => i
  | .nodeLost n => n
  | .speedDisagree | .fuelImplausible | .lineFault | .linkCondition | .odometerInvalid | .clockUnset | .arrival => 0

/-- The code of a gate (Table 28). -/
def Gate.code : Gate → Nat
  | .none => 0 | .run => 1 | .engine => 2 | .moving => 3 | .still => 4
  | .switchOn n => 16 + n
  | .switchOff n => 24 + n

theorem WarnValue.code_of_ofCode {k : Nat} {v : WarnValue} (read : WarnValue.ofCode k = some v) : k = v.code := by
  unfold WarnValue.ofCode at read
  split at read
  case h_5 n =>
    obtain ⟨i, slot, rfl⟩ := Option.map_eq_some_iff.mp read
    exact congrArg (· + 4) (ixOf_eq_some.mp slot)
  all_goals
    cases read
    rfl

/-- A source is read from its own kind and argument alone. -/
theorem WarnSource.code_of_ofCode {kind arg : Nat} {src : WarnSource} (read : WarnSource.ofCode kind arg = some src) :
    kind = src.kind ∧ arg = src.arg := by
  unfold WarnSource.ofCode at read
  split at read
  case h_1 | h_2 =>
    obtain ⟨v, value, rfl⟩ := Option.map_eq_some_iff.mp read
    exact ⟨rfl, WarnValue.code_of_ofCode value⟩
  case h_3 | h_4 | h_5 | h_8 | h_9 =>
    obtain ⟨i, index, rfl⟩ := Option.map_eq_some_iff.mp read
    exact ⟨rfl, ixOf_eq_some.mp index⟩
  case h_15 => cases read
  all_goals
    obtain ⟨zero, same⟩ := Option.ite_none_right_eq_some.mp read
    cases same
    exact ⟨rfl, zero⟩

theorem Gate.code_of_ofCode {k : Nat} {g : Gate} (read : Gate.ofCode k = some g) : k = g.code := by
  unfold Gate.ofCode at read
  split at read
  case h_6 =>
    split_ifs at read with low high
    all_goals
      obtain ⟨i, index, rfl⟩ := Option.map_eq_some_iff.mp read
      have offset := ixOf_eq_some.mp index
      rw [Gate.code]
      omega
  all_goals
    cases read
    rfl

theorem WarnValue.code_lt (v : WarnValue) : v.code < 12 := by
  cases v
  case slot n => exact Nat.add_lt_add_right n.isLt 4
  all_goals decide

/-- The arguments of each kind of source (Table 27). -/
theorem WarnSource.arg_bounds (src : WarnSource) : src.kind < 14 ∧ (src.kind ≤ 1 → src.arg < 12) ∧
    (src.kind = 2 ∨ src.kind = 4 ∨ src.kind = 7 → src.arg < 8) ∧ (src.kind = 3 ∨ src.kind = 8 → src.arg < 6) ∧
    (src.kind = 5 ∨ src.kind = 6 ∨ 9 ≤ src.kind → src.arg = 0) := by
  cases src
  case valueAbove v | valueBelow v => simp [WarnSource.kind, WarnSource.arg, v.code_lt]
  all_goals simp [WarnSource.kind, WarnSource.arg]

theorem WarnSource.isValue_iff (src : WarnSource) : src.isValue = true ↔ src.kind ≤ 1 := by
  cases src <;> simp [WarnSource.isValue, WarnSource.kind]

theorem WarnSource.isService_iff (src : WarnSource) : src.isService = true ↔ src.kind = 7 := by
  cases src <;> simp [WarnSource.isService, WarnSource.kind]

/-- The codes of Table 28. -/
theorem Gate.code_bounds (g : Gate) : g.code < 32 ∧ (g.code < 5 ∨ 16 ≤ g.code) := by
  cases g <;> simp only [Gate.code] <;> omega

theorem ChimeClass.lt_of_ofCode {k : Nat} {cls : ChimeClass} (read : ChimeClass.ofCode k = some cls) : k < 3 := by
  unfold ChimeClass.ofCode at read
  split at read
  case h_4 => cases read
  all_goals decide

theorem Destination.lt_of_ofCode {k : Nat} {dest : Destination} (read : Destination.ofCode k = some dest) : k < 3 := by
  unfold Destination.ofCode at read
  split at read
  case h_4 => cases read
  all_goals decide

/-! ## Optional fields and option bits -/

/-- An optional field that holds an index, or all ones. -/
theorem optionalOf_ixOf_eq_some {n k allOnes : Nat} {o : Option (Fin n)} (fits : n ≤ allOnes) :
    optionalOf allOnes k (ixOf n) = some o ↔ k = o.elim allOnes Fin.val := by
  unfold optionalOf
  split_ifs with absent
  · rcases o with _ | i
    · simp [absent]
    · simp [absent, Nat.ne_of_gt (i.isLt.trans_le fits)]
  · rcases o with _ | i
    · simp [absent]
    · simp [ixOf_eq_some]

/-- An optional field that holds a number within a range, or all ones. -/
theorem optionalOf_within_eq_some {lo hi k allOnes : Nat} {o : Option Nat} (fits : hi < allOnes) :
    optionalOf allOnes k (within lo hi) = some o ↔ k = o.elim allOnes id ∧ ∀ r ∈ o, lo ≤ r ∧ r ≤ hi := by
  unfold optionalOf
  split_ifs with absent
  · rcases o with _ | r
    · simp [absent]
    · simp [absent]
      omega
  · rcases o with _ | r
    · simp [absent]
    · simp [within_eq_some]
      grind

theorem options_lt (latching parkedLive mirrorRear : Bool) :
    latching.toNat + 2 * parkedLive.toNat + 4 * mirrorRear.toNat < 8 := by
  have := latching.toNat_le
  have := parkedLive.toNat_le
  have := mirrorRear.toNat_le
  omega

/-- The three option bits of SET WARNING (Table 62). -/
theorem options_eq_some {k v : Nat} {latching parkedLive mirrorRear : Bool} :
    (within 0 7 k = some v ∧ v.testBit 0 = latching ∧ v.testBit 1 = parkedLive ∧ v.testBit 2 = mirrorRear) ↔
      k = v ∧ k = latching.toNat + 2 * parkedLive.toNat + 4 * mirrorRear.toNat := by
  have bits : ∀ k < 8, (k.testBit 0 = latching ∧ k.testBit 1 = parkedLive ∧ k.testBit 2 = mirrorRear) ↔
      k = latching.toNat + 2 * parkedLive.toNat + 4 * mirrorRear.toNat := by
    revert latching parkedLive mirrorRear
    decide
  rw [within_eq_some]
  constructor
  · rintro ⟨⟨rfl, -, small⟩, read⟩
    exact ⟨rfl, (bits k (by omega)).mp read⟩
  · rintro ⟨rfl, sum⟩
    have small := sum ▸ options_lt latching parkedLive mirrorRear
    exact ⟨⟨rfl, by omega, by omega⟩, (bits k small).mpr sum⟩

/-! ## The body of SET WARNING -/

/-- The last three checks of SET WARNING, by the kind of the source (R106). -/
theorem EntryConfig.consistent_iff (c : EntryConfig) : c.consistent = true ↔
    (c.source.kind ≤ 1 ∨ c.threshold = 0 ∧ c.hysteresis = 0) ∧ 0 ≤ c.hysteresis ∧
      (c.rep.isSome = true → c.pattern.isSome = true) ∧ ¬ (c.source.kind = 7 ∧ c.latching = true) := by
  rw [← c.source.isValue_iff, ← c.source.isService_iff]
  cases rep : c.rep <;> simp [EntryConfig.consistent, rep, and_assoc, ← Bool.not_eq_true, imp_iff_not_or]

/-- What the fields of SET WARNING spell: an entry's number and a configuration (Table 62). A repeat interval of 0xFFFF
is none. -/
structure SpellsEntry (b : List Byte) (w : EntryIx) (c : EntryConfig) : Prop where
  entry : u8 b 0 = w
  enabled : u8 b 1 = c.enabled.toNat
  cls : ChimeClass.ofCode (u8 b 2) = some c.cls
  source : WarnSource.ofCode (u8 b 3) (u8 b 4) = some c.source
  threshold : s16 b 5 = c.threshold
  hysteresis : s16 b 7 = c.hysteresis
  gate1 : Gate.ofCode (u8 b 9) = some c.gate1
  gate2 : Gate.ofCode (u8 b 10) = some c.gate2
  qualify : u8 b 11 = c.qualify
  pattern : u8 b 12 = c.pattern.elim 0xFF Fin.val
  dest : Destination.ofCode (u8 b 13) = some c.dest
  rep : u16 b 14 = c.rep.elim 0xFFFF id
  repIsNumber : c.rep ≠ some 0xFFFF
  lamp : u8 b 16 = c.lamp.elim 0xFF Fin.val
  options : u8 b 17 = c.latching.toNat + 2 * c.parkedLive.toNat + 4 * c.mirrorRear.toNat

/-- The checks that a spelled configuration still has to pass (R106). -/
def EntryConfig.Accepted (c : EntryConfig) : Prop := (∀ r ∈ c.rep, 1 ≤ r ∧ r ≤ 255) ∧ c.consistent = true

theorem warningFields_eq_some {b : List Byte} {w : EntryIx} {c : EntryConfig} :
    warningFields b = some (w, c) ↔ SpellsEntry b w c ∧ c.Accepted := by
  simp only [warningFields, bind, Option.bind_eq_some_iff, Option.ite_none_right_eq_some, Option.some.injEq,
    Prod.mk.injEq, ixOf_eq_some, flagOf_eq_some]
  constructor
  · rintro ⟨_, entry, _, enabled, _, cls, _, source, _, gate1, _, gate2, _, pattern, _, dest, _, rep, _, lamp, _,
      options, consistent, rfl, rfl⟩
    obtain ⟨rep, repFits⟩ := (optionalOf_within_eq_some (by decide)).mp rep
    obtain ⟨-, options⟩ := options_eq_some.mp ⟨options, rfl, rfl, rfl⟩
    exact ⟨⟨entry, enabled, cls, source, rfl, rfl, gate1, gate2, rfl, (optionalOf_ixOf_eq_some (by decide)).mp pattern,
      dest, rep, fun absent => absurd (repFits _ absent) (by decide), (optionalOf_ixOf_eq_some (by decide)).mp lamp,
      options⟩, repFits, consistent⟩
  · rintro ⟨h, repFits, consistent⟩
    obtain ⟨options, latching, parkedLive, mirrorRear⟩ := options_eq_some.mpr ⟨rfl, h.options⟩
    refine ⟨_, h.entry, _, h.enabled, _, h.cls, _, h.source, _, h.gate1, _, h.gate2, _,
      (optionalOf_ixOf_eq_some (by decide)).mpr h.pattern, _, h.dest, _,
      (optionalOf_within_eq_some (by decide)).mpr ⟨h.rep, repFits⟩, _,
      (optionalOf_ixOf_eq_some (by decide)).mpr h.lamp, _, options, ?_⟩
    rw [latching, parkedLive, mirrorRear, h.threshold, h.hysteresis, h.qualify]
    exact ⟨consistent, rfl, rfl⟩

/-- A field of SET WARNING lies out of its range, or the fields fail one of the last checks (R106, Table 62). -/
def WarningFieldsOut (b : List Byte) : Prop :=
  let kind := u8 b 3
  let arg := u8 b 4
  let badGate := fun g : Nat => (5 ≤ g ∧ g < 16) ∨ 32 ≤ g
  32 ≤ u8 b 0 ∨ 2 ≤ u8 b 1 ∨ 3 ≤ u8 b 2 ∨ 14 ≤ kind ∨ (kind ≤ 1 ∧ 12 ≤ arg) ∨
    (kind = 2 ∧ 8 ≤ arg) ∨ (kind = 3 ∧ 6 ≤ arg) ∨ (kind = 4 ∧ 8 ≤ arg) ∨ (kind = 7 ∧ 8 ≤ arg) ∨
    (kind = 8 ∧ 6 ≤ arg) ∨ (kind ∈ [5, 6, 9, 10, 11, 12, 13] ∧ arg ≠ 0) ∨ badGate (u8 b 9) ∨ badGate (u8 b 10) ∨
    (8 ≤ u8 b 12 ∧ u8 b 12 ≠ 0xFF) ∨ 3 ≤ u8 b 13 ∨ u16 b 14 = 0 ∨
    (256 ≤ u16 b 14 ∧ u16 b 14 ≠ 0xFFFF) ∨ (12 ≤ u8 b 16 ∧ u8 b 16 ≠ 0xFF) ∨ 8 ≤ u8 b 17 ∨
    (2 ≤ kind ∧ (s16 b 5 ≠ 0 ∨ s16 b 7 ≠ 0)) ∨ s16 b 7 < 0 ∨
    (u16 b 14 ≠ 0xFFFF ∧ u8 b 12 = 0xFF) ∨ (kind = 7 ∧ u8 b 17 % 2 = 1)

/-- An optional field of an index holds one exactly when it is not all ones. -/
theorem elim_val_bounds {n k allOnes : Nat} {o : Option (Fin n)} (fits : n ≤ allOnes)
    (field : k = o.elim allOnes Fin.val) : (k < n ∨ k = allOnes) ∧ (o.isSome = true ↔ k ≠ allOnes) := by
  subst field
  rcases o with _ | i
  · simp
  · simp [Nat.ne_of_lt (i.isLt.trans_le fits)]

namespace SpellsEntry

variable {b : List Byte} {w : EntryIx} {c : EntryConfig} (h : SpellsEntry b w c)
include h

theorem repFits_iff : (∀ r ∈ c.rep, 1 ≤ r ∧ r ≤ 255) ↔ u16 b 14 = 0xFFFF ∨ 1 ≤ u16 b 14 ∧ u16 b 14 ≤ 255 := by
  have number := h.repIsNumber
  rw [h.rep]
  rcases rep : c.rep with _ | r
  · simp
  · simp_all

theorem rep_isSome_iff : c.rep.isSome = true ↔ u16 b 14 ≠ 0xFFFF := by
  have number := h.repIsNumber
  rw [h.rep]
  rcases rep : c.rep with _ | r
  · simp
  · simp_all

theorem latching_iff : c.latching = true ↔ u8 b 17 % 2 = 1 := by
  rw [h.options]
  cases c.latching <;> simp <;> omega

/-- The ranges and the last checks that a body meets are those that what it spells meets (R106). -/
theorem accepted_iff : c.Accepted ↔ ¬ WarningFieldsOut b := by
  have entry := h.entry ▸ w.isLt
  have enabled := h.enabled ▸ c.enabled.toNat_le
  have cls := ChimeClass.lt_of_ofCode h.cls
  obtain ⟨kind, arg⟩ := WarnSource.code_of_ofCode h.source
  have source := c.source.arg_bounds
  rw [← kind, ← arg] at source
  have gate1 := Gate.code_of_ofCode h.gate1 ▸ c.gate1.code_bounds
  have gate2 := Gate.code_of_ofCode h.gate2 ▸ c.gate2.code_bounds
  have dest := Destination.lt_of_ofCode h.dest
  obtain ⟨pattern, patternGiven⟩ := elim_val_bounds (by decide) h.pattern
  obtain ⟨lamp, -⟩ := elim_val_bounds (by decide) h.lamp
  have options := h.options ▸ options_lt c.latching c.parkedLive c.mirrorRear
  rw [EntryConfig.Accepted, h.repFits_iff, EntryConfig.consistent_iff, patternGiven, h.rep_isSome_iff, h.latching_iff,
    ← h.threshold, ← h.hysteresis, ← kind]
  simp only [WarningFieldsOut, List.mem_cons, List.not_mem_nil, or_false, not_or]
  constructor
  · rintro ⟨fits, value, sign, repeats, latches⟩
    and_intros <;> omega
  · rintro ⟨-, -, -, -, -, -, -, -, -, -, -, -, -, -, -, repPos, repSmall, -, -, value, sign, repeats, latches⟩
    and_intros <;> omega

end SpellsEntry

/-- A field out of its range leaves SET WARNING without fields (R106). -/
theorem warningFields_eq_none {b : List Byte} (out : WarningFieldsOut b) : warningFields b = none := by
  rw [Option.eq_none_iff_forall_ne_some]
  rintro ⟨w, c⟩ fields
  obtain ⟨spelled, accepted⟩ := warningFields_eq_some.mp fields
  exact spelled.accepted_iff.mp accepted out

/-! ## What a report and a reconfiguration leave -/

section
variable (w : EntryIx) (old new : EntryState) (s : State)

@[simp] theorem reportEntry_wtb : (reportEntry w old new s).wtb = s.wtb := by
  unfold reportEntry
  split_ifs <;> rfl

@[simp] theorem reportEntry_chs : (reportEntry w old new s).chs = s.chs := by
  unfold reportEntry
  split_ifs <;> rfl

/-- One WARNING notice (R97). -/
@[simp] theorem reportEntry_lkp : (reportEntry w old new s).lkp = s.lkp.takeNotice (.warning w new) := by
  unfold reportEntry
  split_ifs <;> rfl

/-- The mark of a mirror-rear entry (R97). -/
theorem reportEntry_clc : (reportEntry w old new s).clc =
    if s.wtb.entries[w].cfg.mirrorRear = true ∧ (old.standing = true ∨ new.standing = true)
    then s.clc.mark .rearWarnings else s.clc := by
  unfold reportEntry
  split_ifs <;> rfl

end

theorem EntryState.standing_iff (st : EntryState) :
    st.standing = true ↔ st = .active ∨ st = .acked ∨ st = .resolved := by
  cases st <;> decide

/-- SET WARNING takes the entry to IDLE, from whatever state (R106): its timers stop, and the chime request of one that
was ACTIVE is removed. -/
def stopEntry (w : EntryIx) (s : State) : State :=
  let s1 := s.modEntry w fun e => { e with state := .idle, qualifyTimer := none, repeatTimer := none }
  if s.wtb.entries[w].state = .active then removeChime (.warning w) s1 else s1

/-- SET WARNING up to the evaluation (R106): the entry is stopped and reported, its flags cleared and its
configuration written. -/
def rewriteEntry (w : EntryIx) (c : EntryConfig) (s : State) : State :=
  (reportEntry w s.wtb.entries[w].state .idle (stopEntry w s)).modEntry w fun _ => Entry.idle c

theorem reconfigureEntry_eq (w : EntryIx) (c : EntryConfig) (s : State) :
    reconfigureEntry w c s = evaluateEntry w (rewriteEntry w c s) := rfl

section
variable (w : EntryIx) (c : EntryConfig) (s : State)

theorem stopEntry_byProducts : ByProducts s (stopEntry w s) := by
  unfold stopEntry
  dsimp only
  split_ifs
  · exact (ByProducts.modEntry w s).trans (.removeChime _ _)
  · exact .modEntry w s

theorem stopEntry_wtb : (stopEntry w s).wtb = { s.wtb with
    entries := updAt s.wtb.entries w fun e =>
      { e with state := .idle, qualifyTimer := none, repeatTimer := none } } := by
  unfold stopEntry
  dsimp only
  split_ifs <;> rfl

theorem stopEntry_chs : (stopEntry w s).chs =
    if s.wtb.entries[w].state = .active then s.chs.remove (.warning w) else s.chs := by
  unfold stopEntry
  dsimp only
  split_ifs <;> rfl

@[simp] theorem stopEntry_lkp : (stopEntry w s).lkp = s.lkp := by
  unfold stopEntry
  dsimp only
  split_ifs <;> rfl

@[simp] theorem stopEntry_clc : (stopEntry w s).clc = s.clc := by
  unfold stopEntry
  dsimp only
  split_ifs <;> rfl

theorem rewriteEntry_only : OnlyChanges [.wtb, .chs, .clc, .lkp] s (rewriteEntry w c s) :=
  ((stopEntry_byProducts w s).trans (.reportEntry w _ _ _)).only.comp (modEntry_only _ _ _)

theorem rewriteEntry_wtb : (rewriteEntry w c s).wtb =
    { s.wtb with entries := s.wtb.entries.set w (Entry.idle c) } := by
  rw [rewriteEntry, State.modEntry_wtb, reportEntry_wtb, stopEntry_wtb]
  simp [updAt]

theorem rewriteEntry_chs : (rewriteEntry w c s).chs =
    if s.wtb.entries[w].state = .active then s.chs.remove (.warning w) else s.chs := by
  rw [rewriteEntry, State.modEntry_chs, reportEntry_chs, stopEntry_chs]

theorem rewriteEntry_lkp : (rewriteEntry w c s).lkp = s.lkp.takeNotice (.warning w .idle) := by
  rw [rewriteEntry, State.modEntry_lkp, reportEntry_lkp, stopEntry_lkp]

theorem rewriteEntry_clc : (rewriteEntry w c s).clc =
    if s.wtb.entries[w].cfg.mirrorRear = true ∧ (s.wtb.entries[w].state = .active ∨
      s.wtb.entries[w].state = .acked ∨ s.wtb.entries[w].state = .resolved)
    then s.clc.mark .rearWarnings else s.clc := by
  have idle : EntryState.standing .idle = false := rfl
  rw [rewriteEntry, State.modEntry_clc, reportEntry_clc, (stopEntry_byProducts w s).cfg, stopEntry_clc, idle]
  simp only [EntryState.standing_iff, Bool.false_eq_true, or_false]

end

/-! ## The requests -/

section
variable {tag : Byte} {body : List Byte} {s : State}

/-- SET WARNING with a field out of range is refused with RANGE (R106). -/
theorem exec_setWarning_range (serves : Serves .setWarning tag body s) (length : body.length = 18)
    (out : WarningFieldsOut body) :
    exec .setWarning s = .next (turnedDown ReqKind.setWarning.code tag .range s) :=
  served_refuse serves (decide_eq_true length) (by rw [ownSetWarning, warningFields_eq_none out]; rfl)

/-- SET WARNING whose fields pass rewrites the entry and evaluates it (R106). -/
theorem exec_setWarning_accepted {w : EntryIx} {c : EntryConfig} (serves : Serves .setWarning tag body s)
    (length : body.length = 18) (spelled : SpellsEntry body w c) (inRange : ¬ WarningFieldsOut body) :
    exec .setWarning s =
      .next (answered .setWarning tag [] (evaluateEntry w (rewriteEntry w c (takeRequest s)))) :=
  have fields := warningFields_eq_some.mpr ⟨spelled, spelled.accepted_iff.mpr inRange⟩
  served_answer serves (decide_eq_true length) (by rw [ownSetWarning, fields]; rfl)

variable (serves : Serves .linkCondition tag body s) (length : body.length = 2)
include serves length

/-- LINK CONDITION with a field out of range is refused with RANGE (R90). -/
theorem exec_linkCondition_range (out : 32 ≤ u8 body 0 ∨ 2 ≤ u8 body 1) :
    exec .linkCondition s = .next (turnedDown ReqKind.linkCondition.code tag .range s) :=
  served_refuse serves (decide_eq_true length)
    (by rw [ownLinkCondition, linkConditionFields, ixOf_flagOf_eq_none out]; rfl)

variable {w : EntryIx} {on : Bool} (entry : u8 body 0 = w) (flag : u8 body 1 = on.toNat)
include entry flag

/-- LINK CONDITION for an entry of another source is refused with STATE (R90). -/
theorem exec_linkCondition_state (other : s.wtb.entries[w].cfg.source ≠ .linkCondition) :
    exec .linkCondition s = .next (turnedDown ReqKind.linkCondition.code tag .state s) :=
  served_refuse serves (decide_eq_true length) (by
    rw [ownLinkCondition, linkConditionFields, ixOf_flagOf_eq_some entry flag]
    exact if_neg other)

/-- LINK CONDITION writes the flag and evaluates the entry (R90). -/
theorem exec_linkCondition_accepted (source : s.wtb.entries[w].cfg.source = .linkCondition) :
    exec .linkCondition s = .next (answered .linkCondition tag []
      (evaluateEntry w ((takeRequest s).modEntry w fun e => { e with linkCondition := on }))) :=
  served_answer serves (decide_eq_true length) (by
    rw [ownLinkCondition, linkConditionFields, ixOf_flagOf_eq_some entry flag]
    exact if_pos source)

end

/-- Settles O45: the ranges and the last checks of SET WARNING, the entry it leaves to be evaluated, and the refusals of
LINK CONDITION in order. -/
theorem warningRequestsAnswer : Obligations.WarningRequestsAnswer := by
  unfold Obligations.WarningRequestsAnswer
  refine ⟨fun tag body s serves length => ⟨exec_setWarning_range serves length, fun w c inRange entry enabled cls source
      threshold hysteresis gate1 gate2 qualify pattern dest rep repIsNumber lamp options => ?setWarning⟩,
    fun tag body s serves length => ⟨exec_linkCondition_range serves length, fun w on entry flag =>
      ⟨exec_linkCondition_state serves length entry flag, exec_linkCondition_accepted serves length entry flag⟩⟩⟩
  case setWarning =>
    have spelled : SpellsEntry body w c :=
      { pattern := pattern.trans (by cases c.pattern <;> rfl)
        rep := rep.trans (by cases c.rep <;> rfl)
        lamp := lamp.trans (by cases c.lamp <;> rfl)
        entry, enabled, cls, source, threshold, hysteresis, gate1, gate2, qualify, dest, repIsNumber, options }
    exact ⟨_, exec_setWarning_accepted serves length spelled inRange,
      (takeRequest_only s).comp (rewriteEntry_only w c _), rewriteEntry_wtb w c _, rewriteEntry_chs w c _,
      rewriteEntry_lkp w c _, rewriteEntry_clc w c _⟩

end Sys2Proof.Machine
end

section
/-! Chapter 5, the switch inputs: what a change of a switch's record hands the entries that name the switch
(R84, R85). -/

namespace Sys2Proof.Machine

-- One theorem at a time, so that a build as one text needs few threads.
set_option Elab.async false

/-! ## A switch's record -/

theorem Switch.active_iff (w : Switch) : w.active = true ↔ w.level = w.activeHigh := beq_iff_eq

/-- A change of the filtered level is a change of the switch's state (R84). -/
theorem Switch.active_level_not (w : Switch) : ({ w with level := !w.level } : Switch).active = !w.active := by
  rcases w with ⟨_ | _, _ | _⟩ <;> rfl

/-- The entries that name a switch are evaluated (R84). -/
theorem wtbSwitch_eq (n : SwitchIx) (s : State) : wtbSwitch n s = evaluateWhere (fun c =>
    decide (c.source = .switch n ∨ c.gate1 = .switchOn n ∨ c.gate1 = .switchOff n ∨ c.gate2 = .switchOn n ∨
      c.gate2 = .switchOff n)) s := by
  unfold wtbSwitch EntryConfig.gated
  simp only [Bool.decide_or, Bool.or_assoc]

/-- A change of a switch's record is handed exactly when it changes the switch's state (R85). -/
theorem changeSwitch_eq (n : SwitchIx) (f : Switch → Switch) (s : State) : changeSwitch n f s =
    let s1 := s.modWtb fun t => { t with switches := t.switches.set n (f t.switches[n]) }
    if (f s.wtb.switches[n]).active = s.wtb.switches[n].active then s1 else wtbSwitch n s1 := by
  unfold changeSwitch
  simp [updAt]

/-! ## The request and the event -/

section
variable {tag : Byte} {body : List Byte} {s : State}

/-- SET SWITCH with a field out of range is refused with RANGE (R85). -/
theorem exec_setSwitch_range (serves : Serves .setSwitch tag body s) (length : body.length = 2)
    (out : 8 ≤ u8 body 0 ∨ 2 ≤ u8 body 1) :
    exec .setSwitch s = .next (turnedDown ReqKind.setSwitch.code tag .range s) :=
  served_refuse serves (decide_eq_true length) (by rw [ownSetSwitch, switchFields, ixOf_flagOf_eq_none out]; rfl)

/-- SET SWITCH writes the active level (R85). -/
theorem exec_setSwitch_accepted {n : SwitchIx} {high : Bool} (serves : Serves .setSwitch tag body s)
    (length : body.length = 2) (switch : u8 body 0 = n) (level : u8 body 1 = high.toNat) :
    exec .setSwitch s = .next (answered .setSwitch tag []
      (changeSwitch n (fun w => { w with activeHigh := high }) (takeRequest s))) :=
  served_answer serves (decide_eq_true length)
    (by rw [ownSetSwitch, switchFields, ixOf_flagOf_eq_some switch level]; rfl)

/-- A change of a filtered level of the supplied part is one event (R84). -/
theorem exec_switchChange (supplied : s.igs.supplied = true) (n : SwitchIx) :
    exec (.switchChange n) s = .next (settle (changeSwitch n (fun w => { w with level := !w.level }) s)) :=
  takeEvent_supplied supplied

end

/-- Settles O47: an active level that leaves the switch's state hands nothing, and a filtered level that changes always
changes it. -/
theorem switchesAreHanded : Obligations.SwitchesAreHanded := by
  unfold Obligations.SwitchesAreHanded
  refine ⟨fun tag body s serves length => ⟨exec_setSwitch_range serves length, fun n high switch level => ?setSwitch⟩,
    Switch.active_iff, fun n s supplied => ?switchChange⟩
  case setSwitch =>
    rw [exec_setSwitch_accepted serves length switch level, changeSwitch_eq]
    simp [wtbSwitch_eq]
  case switchChange =>
    rw [exec_switchChange supplied, changeSwitch_eq, Switch.active_level_not]
    simp [wtbSwitch_eq]

end Sys2Proof.Machine
end

section
/-! Chapter 5, the lamp lines: what SET LAMP writes, and what a line shows (R103 to R105). -/

namespace Sys2Proof.Machine

-- One theorem at a time, so that a build as one text needs few threads.
set_option Elab.async false

/-! ## What a line shows -/

/-- What a line in LINK mode shows (R103). -/
def LampHost.shows : LampHost → LampShow
  | .off => .dark | .on => .steady | .flash => .flashing

/-- An entry bound to the line stands in one of the states. -/
theorem Wtb.boundIn_iff {t : Wtb} {l : LampIx} {states : List EntryState} : t.boundIn l states = true ↔
    ∃ w : EntryIx, t.entries[w].cfg.lamp = some l ∧ t.entries[w].state ∈ states := by
  rw [Wtb.boundIn, toList_eq_map_finRange]
  simp

section
variable {t : Wtb} {l : LampIx}

theorem Wtb.lampShow_of_link (mode : t.lamps[l].mode = .link) : t.lampShow l = t.lamps[l].host.shows := by
  rw [Wtb.lampShow, mode]
  cases t.lamps[l].host <;> rfl

section
variable (mode : t.lamps[l].mode = .warning)
include mode

theorem Wtb.lampShow_of_warning : t.lampShow l =
    if t.bulbCheck.isSome then .steady
    else if t.boundIn l [.active, .resolved] then .flashing
    else if t.boundIn l [.acked] then .steady
    else .dark := by
  rw [Wtb.lampShow, mode]

/-- The bulb check lights every line in WARNING mode (R104). -/
theorem Wtb.lampShow_of_bulbCheck (check : t.bulbCheck ≠ none) : t.lampShow l = .steady := by
  rw [t.lampShow_of_warning mode, if_pos (Option.isSome_iff_ne_none.mpr check)]

variable (ended : t.bulbCheck = none)
include ended

theorem Wtb.lampShow_of_bound : t.lampShow l =
    if t.boundIn l [.active, .resolved] then .flashing
    else if t.boundIn l [.acked] then .steady
    else .dark := by
  rw [t.lampShow_of_warning mode, ended]
  rfl

end

/-- A flashing line is lit in the lit phase (R103). -/
theorem Wtb.lampLit_iff :
    t.lampLit l = true ↔ t.lampShow l = .steady ∨ (t.lampShow l = .flashing ∧ t.flashLit = true) := by
  unfold Wtb.lampLit
  cases t.lampShow l <;> simp

end

/-! ## The request and the events -/

section
variable {tag : Byte} {body : List Byte} {s : State}

theorem LampMode.lt_of_ofCode {k : Nat} {mode : LampMode} (read : LampMode.ofCode k = some mode) : k < 2 := by
  unfold LampMode.ofCode at read
  split at read
  case h_3 => cases read
  all_goals decide

theorem LampHost.lt_of_ofCode {k : Nat} {host : LampHost} (read : LampHost.ofCode k = some host) : k < 3 := by
  unfold LampHost.ofCode at read
  split at read
  case h_4 => cases read
  all_goals decide

/-- The fields of SET LAMP (R105). -/
theorem lampFields_eq_some {l : LampIx} {mode : LampMode} {host : LampHost} :
    lampFields body = some (l, { mode, host }) ↔
      u8 body 0 = l ∧ LampMode.ofCode (u8 body 1) = some mode ∧ LampHost.ofCode (u8 body 2) = some host := by
  simp only [lampFields, bind, Option.bind_eq_some_iff, pure, Option.some.injEq, Prod.mk.injEq, Lamp.mk.injEq,
    ixOf_eq_some]
  constructor
  · rintro ⟨_, line, _, mode, _, host, rfl, rfl, rfl⟩
    exact ⟨line, mode, host⟩
  · rintro ⟨line, mode, host⟩
    exact ⟨_, line, _, mode, _, host, rfl, rfl, rfl⟩

/-- A field out of its range leaves SET LAMP without fields (R105). -/
theorem lampFields_eq_none (out : 12 ≤ u8 body 0 ∨ 2 ≤ u8 body 1 ∨ 3 ≤ u8 body 2) : lampFields body = none := by
  rw [Option.eq_none_iff_forall_ne_some]
  rintro ⟨l, mode, host⟩ fields
  obtain ⟨line, mode, host⟩ := lampFields_eq_some.mp fields
  have := l.isLt
  have := LampMode.lt_of_ofCode mode
  have := LampHost.lt_of_ofCode host
  omega

variable (serves : Serves .setLamp tag body s) (length : body.length = 3)
include serves length

/-- SET LAMP with a field out of range is refused with RANGE (R105). -/
theorem exec_setLamp_range (out : 12 ≤ u8 body 0 ∨ 2 ≤ u8 body 1 ∨ 3 ≤ u8 body 2) :
    exec .setLamp s = .next (turnedDown ReqKind.setLamp.code tag .range s) :=
  served_refuse serves (decide_eq_true length) (by rw [ownSetLamp, lampFields_eq_none out]; rfl)

/-- SET LAMP writes the mode and the host state of its line (R105). -/
theorem exec_setLamp_accepted {l : LampIx} {mode : LampMode} {host : LampHost} (line : u8 body 0 = l)
    (modeCode : LampMode.ofCode (u8 body 1) = some mode) (hostCode : LampHost.ofCode (u8 body 2) = some host) :
    exec .setLamp s = .next (answered .setLamp tag []
      ((takeRequest s).modWtb fun t => { t with lamps := t.lamps.set l { mode, host } })) :=
  served_answer serves (decide_eq_true length)
    (by rw [ownSetLamp, lampFields_eq_some.mpr ⟨line, modeCode, hostCode⟩]; rfl)

end

/-- Settles O48: the fields SET LAMP writes, the two timers' events, and what a line shows by its mode, the bulb check
and its bound entries. -/
theorem lampsShow : Obligations.LampsShow := by
  unfold Obligations.LampsShow
  refine ⟨fun tag body s serves length => ⟨exec_setLamp_range serves length, fun l mode host =>
      exec_setLamp_accepted serves length⟩,
    fun s supplied => ⟨takeEvent_supplied supplied, takeEvent_supplied supplied⟩,
    fun t l => ⟨fun mode => ?link, Wtb.lampShow_of_bulbCheck, fun mode ended standing => ?flashing,
      fun mode ended active resolved acked => ?steady, fun mode ended active resolved acked => ?dark,
      Wtb.lampLit_iff⟩⟩
  case link =>
    rw [Wtb.lampShow_of_link mode]
    cases t.lamps[l].host <;> rfl
  all_goals
    rw [Wtb.lampShow_of_bound mode ended]
    simp only [Wtb.boundIn_iff, List.mem_cons, List.not_mem_nil, or_false, and_or_left, exists_or]
  case flashing => exact if_pos standing
  case steady => rw [if_neg (not_or.mpr ⟨active, resolved⟩), if_pos acked]
  case dark => rw [if_neg (not_or.mpr ⟨active, resolved⟩), if_neg acked]

end Sys2Proof.Machine
end

section
/-! Chapter 6, chime requests: what the player takes up, how a request of any source is taken or removed, and what CHIME
and CANCEL CHIME make of it (R111 to R119, R124, R125). -/

namespace Sys2Proof.Machine

-- One theorem at a time, so that a build as one text needs few threads.
set_option Elab.async false

/-! ## What the player takes up -/

/-- What a player that chooses outside CRANK plays next: the first request that may play, at its segment 0 (R116). -/
def Chs.chosen (c : Chs) : Option Playing := c.firstPlayable.bind fun q => (c.start q 0).player

/-- The player of `after` is one that chose: in CRANK it stays SILENT (R116, R121). -/
def Chs.Chooses (before after : Chs) : Prop :=
  after.player = if before.power = .crank then none else after.chosen

section
variable {b c : Chs}

/-- The choice reads nothing that it changes. -/
theorem Chs.choose_chosen (c : Chs) : c.choose.chosen = c.chosen := by
  unfold Chs.choose
  split_ifs
  · rfl
  · split <;> rfl

theorem Chs.choose_player_of_not_crank (awake : c.power ≠ .crank) : c.choose.player = c.chosen := by
  rw [Chs.choose, if_neg awake, Chs.chosen]
  cases c.firstPlayable <;> rfl

theorem Chs.choose_of_crank (crank : c.power = .crank) : c.choose = c := if_pos crank

/-- A SILENT player that is to choose does so, outside CRANK (R116). -/
theorem Chs.chooses_choose (silent : c.player = none) (power : c.power = b.power) : b.Chooses c.choose := by
  rw [Chs.Chooses, Chs.choose_chosen, ← power]
  split_ifs with crank
  · rw [Chs.choose_of_crank crank, silent]
  · exact Chs.choose_player_of_not_crank crank

/-- A choice changes the player alone (R116). -/
theorem Chs.choose_frame (c : Chs) : { c.choose with player := c.player } = c := by
  unfold Chs.choose
  split_ifs
  · rfl
  · split <;> rfl

theorem Chs.chooseIfSilent_of_silent (silent : c.player = none) : c.chooseIfSilent = c.choose := by
  rw [Chs.chooseIfSilent, silent]
  rfl

theorem Chs.chooseIfSilent_of_playing {p : Playing} (playing : c.player = some p) : c.chooseIfSilent = c := by
  rw [Chs.chooseIfSilent, playing]
  rfl

theorem Chs.chooseIfSilent_frame (c : Chs) : { c.chooseIfSilent with player := c.player } = c := by
  unfold Chs.chooseIfSilent
  split_ifs
  · exact c.choose_frame
  · rfl

theorem Chs.chooseIfSilent_queue (c : Chs) : c.chooseIfSilent.queue = c.queue :=
  (congrArg Chs.queue c.chooseIfSilent_frame :)

theorem Chs.chooseIfSilent_nextArrival (c : Chs) : c.chooseIfSilent.nextArrival = c.nextArrival :=
  (congrArg Chs.nextArrival c.chooseIfSilent_frame :)

end

/-! ## A request that leaves -/

section
variable {c : Chs} {src : ChimeSource}

theorem Chs.plays_iff : c.plays src = true ↔ ∃ p, c.player = some p ∧ p.source = src := by
  simp [Chs.plays, Option.any_eq_true]

theorem Chs.not_plays_of_other (other : ∀ p, c.player = some p → p.source ≠ src) : ¬ c.plays src = true := fun plays =>
  have ⟨p, playing, same⟩ := Chs.plays_iff.mp plays
  other p playing same

/-- What plays goes on when another request leaves. -/
theorem Chs.drop_player_of_other (other : ∀ p, c.player = some p → p.source ≠ src) : (c.drop src).player = c.player :=
  if_neg (Chs.not_plays_of_other other)

/-- The tone of a request that leaves stops at once (R119). -/
theorem Chs.drop_player_of_same (same : ∀ p, c.player = some p → p.source = src) : (c.drop src).player = none := by
  match playing : c.player with
  | none => simp [Chs.drop, playing]
  | some p => exact if_pos (Chs.plays_iff.mpr ⟨p, playing, same p playing⟩)

theorem Chs.remove_of_plays (plays : c.plays src = true) : c.remove src = (c.drop src).choose := if_pos plays

theorem Chs.remove_of_not_plays (silent : ¬ c.plays src = true) : c.remove src = c.drop src := if_neg silent

theorem Chs.remove_queue (src : ChimeSource) (c : Chs) :
    (c.remove src).queue = c.queue.filter fun q => decide (q.source ≠ src) := by
  by_cases plays : c.plays src = true
  · rw [Chs.remove_of_plays plays]
    exact congrArg Chs.queue (c.drop src).choose_frame
  · rw [Chs.remove_of_not_plays plays, Chs.drop]

/-- A removal changes the queue and the player alone (R119). -/
theorem Chs.remove_frame (src : ChimeSource) (c : Chs) :
    { c.remove src with queue := c.queue, player := c.player } = c := by
  by_cases plays : c.plays src = true
  · rw [Chs.remove_of_plays plays]
    exact congrArg (fun d => { d with queue := c.queue, player := c.player }) (c.drop src).choose_frame
  · rw [Chs.remove_of_not_plays plays, Chs.drop]

/-- A removal of what plays stops it and makes the player choose (R119). -/
theorem Chs.remove_chooses {p : Playing} (playing : c.player = some p) (same : p.source = src) :
    c.Chooses (c.remove src) := by
  have plays : c.plays src = true := Chs.plays_iff.mpr ⟨p, playing, same⟩
  rw [Chs.remove_of_plays plays]
  exact Chs.chooses_choose (if_pos plays) rfl

/-- A removal of another request leaves the player (R119). -/
theorem Chs.remove_player_of_other (other : ∀ p, c.player = some p → p.source ≠ src) :
    (c.remove src).player = c.player := by
  rw [Chs.remove_of_not_plays (Chs.not_plays_of_other other), Chs.drop_player_of_other other]

end

/-! ## A request that joins the queue -/

/-- A request has joined `queue`, which is what `gone` left of the queue of `c`: the player goes on unless it played
`gone`, and chooses when it is or falls SILENT (R112, R116). -/
def Chs.Joins (c : Chs) (r : ChimeRequest) (queue : List ChimeRequest) (gone : Option ChimeSource) (d : Chs) : Prop :=
  d.queue = insertRequest { r with arrival := c.nextArrival } queue ∧ d.nextArrival = c.nextArrival + 1 ∧ c.Keeps d ∧
    (∀ p, c.player = some p → gone ≠ some p.source → d.player = some p) ∧
    ((∀ p, c.player = some p → gone = some p.source) → c.Chooses d)

section
variable {c : Chs} (r : ChimeRequest)

/-- A request joins what is left, `e`, where the player of `c` has stopped exactly when it played what is gone: it goes
on, or it chooses from the queue that holds the new request (R112, R116). -/
theorem Chs.joins_enqueue {e : Chs} {gone : Option ChimeSource} (keeps : c.Keeps e)
    (count : e.nextArrival = c.nextArrival)
    (stays : ∀ p, c.player = some p → gone ≠ some p.source → e.player = some p)
    (stops : (∀ p, c.player = some p → gone = some p.source) → e.player = none) :
    c.Joins r e.queue gone (e.enqueue r).chooseIfSilent := by
  refine ⟨?queue, ?arrivals, ?frame, fun p playing other => ?goesOn, fun all => ?chooses⟩
  case queue => rw [Chs.chooseIfSilent_queue, Chs.enqueue, count]
  case arrivals => rw [Chs.chooseIfSilent_nextArrival, Chs.enqueue, count]
  case frame => exact (keeps.trans (e.enqueue_keeps r)).trans (Chs.chooseIfSilent_keeps _)
  case goesOn =>
    have playing : (e.enqueue r).player = some p := stays p playing other
    rw [Chs.chooseIfSilent_of_playing playing, playing]
  case chooses =>
    have silent : (e.enqueue r).player = none := stops all
    have power : e.power = c.power := by rw [← keeps]
    rw [Chs.chooseIfSilent_of_silent silent]
    exact Chs.chooses_choose silent power

/-- A request joins a queue with room (R112). -/
theorem Chs.joins_room (c : Chs) : c.Joins r c.queue none (c.enqueue r).chooseIfSilent :=
  Chs.joins_enqueue r rfl rfl (fun _ playing _ => playing)
    fun all => Option.eq_none_iff_forall_ne_some.mpr fun p playing => nomatch all p playing

/-- A request joins a queue that another one leaves for it (R113, R114). -/
theorem Chs.joins_drop (c : Chs) (src : ChimeSource) :
    c.Joins r (c.queue.filter fun q => decide (q.source ≠ src)) (some src) ((c.drop src).enqueue r).chooseIfSilent :=
  Chs.joins_enqueue r (c.drop_keeps src) rfl
    (fun p playing other => (Chs.drop_player_of_other fun q same => by
      obtain rfl : p = q := Option.some.inj (playing.symm.trans same)
      exact fun gone => other (congrArg some gone.symm)).trans playing)
    fun all => Chs.drop_player_of_same fun p playing => (Option.some.inj (all p playing)).symm

end

/-! ## The ends of a request -/

/-- The WTB takes the end of a request that it did not remove: an ACTIVE entry that has a repeat interval starts its
repeat timer (R96). -/
def Wtb.retried (src : ChimeSource) (t : Wtb) : Wtb :=
  match src with
  | .warning w =>
    if t.entries[w].state = .active ∧ t.entries[w].cfg.rep.isSome = true
    then { t with entries := t.entries.set w { t.entries[w] with repeatTimer := t.entries[w].cfg.rep } } else t
  | .alarm _ | .rearCall | .link => t

/-- The LKP takes the end of a LINK request (R123). -/
def Lkp.hearEnd (o : ChimeOutcome) (r : ChimeRequest) (l : Lkp) : Lkp :=
  match r.source, r.tag with
  | .link, some t => l.takeNotice (.chime t o)
  | _, _ => l

theorem Lkp.hearEnd_of_other {o : ChimeOutcome} {r : ChimeRequest} {l : Lkp} (other : r.source ≠ .link) :
    l.hearEnd o r = l := by
  unfold Lkp.hearEnd
  split
  case h_1 link _ => exact absurd link other
  case h_2 => rfl

/-- The one timer an end may start is that of its own entry (R96). -/
theorem Wtb.retried_repeatTimer (src : ChimeSource) (t : Wtb) (w : EntryIx) :
    (t.retried src).entries[w].repeatTimer =
      if src = .warning w ∧ t.entries[w].state = .active ∧ t.entries[w].cfg.rep.isSome = true
      then t.entries[w].cfg.rep else t.entries[w].repeatTimer := by
  match src with
  | .warning v =>
    by_cases same : v = w
    · subst same
      simp only [Wtb.retried, true_and]
      split_ifs <;> simp
    · have apart : v.val ≠ w.val := fun val => same (Fin.ext val)
      simp only [Wtb.retried, ChimeSource.warning.injEq, same, false_and, if_false]
      split_ifs
      · simp [apart]
      · rfl
  | .alarm _ | .rearCall | .link => simp [Wtb.retried]

section
variable (s : State)

theorem wtbRequestEnd_only (w : EntryIx) : OnlyChanges [.wtb] s (wtbRequestEnd w s) := by
  unfold wtbRequestEnd
  split_ifs
  · split
    · exact modEntry_only s w _
    · exact .refl _ s
  · exact .refl _ s

theorem wtbRequestEnd_wtb (w : EntryIx) : (wtbRequestEnd w s).wtb = s.wtb.retried (.warning w) := by
  unfold wtbRequestEnd Wtb.retried
  by_cases active : s.wtb.entries[w].state = .active
  · match repeats : s.wtb.entries[w].cfg.rep with
    | none => simp only [active, repeats, if_true, Option.isSome_none, Bool.false_eq_true, and_false, if_false]
    | some k => simp only [active, repeats, if_true, Option.isSome_some, and_self, State.modEntry_wtb, updAt]
  · simp only [active, if_false, false_and]

theorem handNotQueued_only (src : ChimeSource) : OnlyChanges [.wtb] s (handNotQueued src s) := by
  match src with
  | .warning w => exact wtbRequestEnd_only s w
  | .alarm _ | .rearCall | .link => exact .refl _ s

theorem handNotQueued_wtb (src : ChimeSource) : (handNotQueued src s).wtb = s.wtb.retried src := by
  match src with
  | .warning w => exact wtbRequestEnd_wtb s w
  | .alarm _ | .rearCall | .link => rfl

variable (o : ChimeOutcome)

theorem handEnd_of_link {r : ChimeRequest} {t : Byte} (link : r.source = .link) (tagged : r.tag = some t) :
    handEnd o r s = s.notify (.chime t o) := by
  rw [handEnd, link, tagged]

theorem handEnd_of_other {r : ChimeRequest} (other : r.source ≠ .link) : handEnd o r s = handNotQueued r.source s := by
  unfold handEnd handNotQueued
  match source : r.source, other with
  | .warning _, _ | .alarm _, _ | .rearCall, _ => rfl

theorem handEnd_of_untagged {r : ChimeRequest} (link : r.source = .link) (untagged : r.tag = none) :
    handEnd o r s = s := by
  rw [handEnd, link, untagged]

/-- The end of a request reaches the WTB for a warning and the LKP for LINK's, and nothing else (R123). -/
theorem handEnd_spec (r : ChimeRequest) : OnlyChanges [.wtb, .lkp] s (handEnd o r s) ∧
    (handEnd o r s).wtb = s.wtb.retried r.source ∧ (handEnd o r s).lkp = s.lkp.hearEnd o r := by
  by_cases link : r.source = .link
  · match tagged : r.tag with
    | some t =>
      rw [handEnd_of_link s o link tagged]
      refine ⟨(notify_only s _).mono (by decide), ?_, ?_⟩
      · rw [link]; rfl
      · rw [Lkp.hearEnd, link, tagged]; rfl
    | none =>
      rw [handEnd_of_untagged s o link tagged]
      refine ⟨.refl _ s, ?_, ?_⟩
      · rw [link]; rfl
      · rw [Lkp.hearEnd, link, tagged]
  · rw [handEnd_of_other s o link]
    have frame := handNotQueued_only s r.source
    exact ⟨frame.mono (by decide), handNotQueued_wtb s r.source, frame.lkp_eq.trans (Lkp.hearEnd_of_other link).symm⟩

end

/-! ## How a request is taken -/

theorem Chs.find?_of_not_holds {c : Chs} {src : ChimeSource} (absent : c.holds src = false) :
    c.queue.find? (fun q => decide (q.source = src)) = none := by
  simpa [Chs.holds] using absent

theorem Chs.find?_of_holds {c : Chs} {src : ChimeSource} (held : c.holds src = true) :
    ∃ old, c.queue.find? (fun q => decide (q.source = src)) = some old :=
  Option.isSome_iff_exists.mp (by simpa [Chs.holds, List.find?_isSome] using held)

theorem Chs.source_of_find? {c : Chs} {src : ChimeSource} {old : ChimeRequest}
    (stands : c.queue.find? (fun q => decide (q.source = src)) = some old) : old.source = src :=
  of_decide_eq_true (List.find?_some (p := fun q : ChimeRequest => decide (q.source = src)) stands)

section
variable {r : ChimeRequest} {s : State}

/-- A request whose source has one standing is not queued, unless it is LINK's (R112). -/
theorem takeChime_held (held : s.chs.holds r.source = true) (other : r.source ≠ .link) :
    takeChime r s = (s, .alreadyHeld) := by
  obtain ⟨old, stands⟩ := Chs.find?_of_holds held
  simp only [takeChime, stands, if_neg other]

/-- A LINK request takes the place of the standing one: a player that fell SILENT with it chooses like one that was
SILENT before (R113). -/
theorem takeChime_replaces {old : ChimeRequest} {t : Byte} (link : r.source = .link)
    (stands : s.chs.queue.find? (fun q => decide (q.source = .link)) = some old) (tagged : old.tag = some t) :
    takeChime r s = ((s.notify (.chime t .replaced)).modChs fun c => ((c.drop .link).enqueue r).chooseIfSilent,
      .queued) := by
  have choose : ∀ c : Chs, (if c.plays .link then ((c.drop .link).enqueue r).choose
      else ((c.drop .link).enqueue r).chooseIfSilent) = ((c.drop .link).enqueue r).chooseIfSilent := fun c => by
    split_ifs with plays
    · exact (Chs.chooseIfSilent_of_silent (c := (c.drop .link).enqueue r) (if_pos plays)).symm
    · rfl
  simp only [takeChime, link, stands, if_true, handEnd_of_link s .replaced (Chs.source_of_find? stands) tagged, choose]

variable (absent : s.chs.holds r.source = false)
include absent

/-- A request finds room (R112). -/
theorem takeChime_room (room : s.chs.queue.length < 8) :
    takeChime r s = (s.modChs fun c => (c.enqueue r).chooseIfSilent, .queued) := by
  simp only [takeChime, Chs.find?_of_not_holds absent, if_pos room]

variable {v : ChimeRequest} (full : 8 ≤ s.chs.queue.length) (victim : s.chs.victim = some v)
include full victim

/-- A full queue gives up its victim to a request of a higher class (R114). -/
theorem takeChime_evicts (higher : v.cls.rank < r.cls.rank) : takeChime r s =
    ((handEnd .evicted v s).modChs fun c => ((c.drop v.source).enqueue r).chooseIfSilent, .queued) := by
  simp only [takeChime, Chs.find?_of_not_holds absent, if_neg (Nat.not_lt.mpr full), victim, if_pos higher]

/-- A full queue has no room for a request of no higher class than its victim (R114). -/
theorem takeChime_full (notHigher : r.cls.rank ≤ v.cls.rank) :
    takeChime r s = (handNotQueued r.source s, .notQueued) := by
  simp only [takeChime, Chs.find?_of_not_holds absent, if_neg (Nat.not_lt.mpr full), victim,
    if_neg (Nat.not_lt.mpr notHigher)]

end

/-! ## The order of the queue -/

/-- Queue order (R111). -/
theorem ChimeRequest.before_iff {a b : ChimeRequest} :
    a.before b = true ↔ b.cls.rank < a.cls.rank ∨ (a.cls.rank = b.cls.rank ∧ a.arrival < b.arrival) := by
  simp [ChimeRequest.before]

/-- A request that comes in queue order no earlier than another: of a lower class, or of the same class and not older
(R111). An eviction takes a request that comes after all others (R114). -/
def ChimeRequest.After (a b : ChimeRequest) : Prop :=
  a.cls.rank < b.cls.rank ∨ (a.cls.rank = b.cls.rank ∧ b.arrival ≤ a.arrival)

theorem ChimeRequest.After.refl (a : ChimeRequest) : a.After a := .inr ⟨rfl, le_rfl⟩

theorem ChimeRequest.After.trans {a b c : ChimeRequest} (h : a.After b) (k : b.After c) : a.After c := by
  unfold ChimeRequest.After at *
  omega

theorem ChimeRequest.not_before_iff {a b : ChimeRequest} : ¬ a.before b = true ↔ a.After b := by
  rw [ChimeRequest.before_iff, ChimeRequest.After]
  omega

theorem ChimeRequest.before_trans {a b c : ChimeRequest} (first : a.before b = true) (second : b.before c = true) :
    a.before c = true := by
  rw [ChimeRequest.before_iff] at *
  omega

theorem insertRequest_perm (r : ChimeRequest) (queue : List ChimeRequest) :
    (insertRequest r queue).Perm (r :: queue) := by
  induction queue with
  | nil => exact .refl _
  | cons q qs ih =>
    rw [insertRequest]
    split_ifs
    · exact .refl _
    · exact (ih.cons q).trans (.swap r q qs)

/-- A request goes in front of the first one it stands before; in a queue in queue order that is in front of all of
them (R111). -/
theorem insertRequest_splits (r : ChimeRequest) {queue : List ChimeRequest}
    (ordered : queue.Pairwise fun a b => a.before b = true) :
    ∃ ahead behind, queue = ahead ++ behind ∧ insertRequest r queue = ahead ++ r :: behind ∧
      (∀ q ∈ ahead, r.After q) ∧ ∀ q ∈ behind, r.before q = true := by
  induction queue with
  | nil => exact ⟨[], [], rfl, rfl, by simp, by simp⟩
  | cons q qs ih =>
    obtain ⟨first, rest⟩ := List.pairwise_cons.mp ordered
    rw [insertRequest]
    split_ifs with stands
    · exact ⟨[], q :: qs, rfl, rfl, by simp,
        List.forall_mem_cons.mpr ⟨stands, fun q' mem => ChimeRequest.before_trans stands (first q' mem)⟩⟩
    · obtain ⟨ahead, behind, parts, inserted, later, earlier⟩ := ih rest
      exact ⟨q :: ahead, behind, congrArg (q :: ·) parts, congrArg (q :: ·) inserted,
        List.forall_mem_cons.mpr ⟨ChimeRequest.not_before_iff.mp stands, later⟩, earlier⟩

/-! ## The victim of an eviction -/

theorem evictWorse_spec (a b : ChimeRequest) :
    (evictWorse a b = a ∨ evictWorse a b = b) ∧ (evictWorse a b).After a ∧ (evictWorse a b).After b := by
  unfold evictWorse
  split_ifs with worse
  · refine ⟨.inr rfl, ?_, .refl b⟩
    unfold ChimeRequest.After
    omega
  · refine ⟨.inl rfl, .refl a, ?_⟩
    unfold ChimeRequest.After
    omega

theorem foldl_evictWorse_spec (r : ChimeRequest) (rs : List ChimeRequest) :
    rs.foldl evictWorse r ∈ r :: rs ∧ ∀ q ∈ r :: rs, (rs.foldl evictWorse r).After q := by
  induction rs generalizing r with
  | nil => simp [ChimeRequest.After.refl]
  | cons b rs ih =>
    obtain ⟨one, afterLeft, afterRight⟩ := evictWorse_spec r b
    obtain ⟨mem, last⟩ := ih (evictWorse r b)
    obtain ⟨afterKept, afterRest⟩ := List.forall_mem_cons.mp last
    rw [List.foldl_cons]
    refine ⟨?member, List.forall_mem_cons.mpr ⟨afterKept.trans afterLeft,
      List.forall_mem_cons.mpr ⟨afterKept.trans afterRight, afterRest⟩⟩⟩
    case member =>
      rcases List.mem_cons.mp mem with kept | rest
      · rw [kept]
        rcases one with left | right
        · simp [left]
        · simp [right]
      · exact .tail _ (.tail _ rest)

/-- The victim is the newest request of the lowest class (R114). -/
theorem Chs.victim_spec {c : Chs} {v : ChimeRequest} (victim : c.victim = some v) :
    v ∈ c.queue ∧ ∀ q ∈ c.queue, v.After q := by
  unfold Chs.victim at victim
  match queue : c.queue with
  | [] => simp [queue] at victim
  | r :: rs =>
    obtain rfl : rs.foldl evictWorse r = v := by simpa [queue] using victim
    exact foldl_evictWorse_spec r rs

/-! ## What a request of any source does -/

section
variable {r : ChimeRequest} {s : State}

/-- A LINK request replaces the standing one, which ends REPLACED (R113). -/
theorem takeChime_link {old : ChimeRequest} {t : Byte} (link : r.source = .link)
    (stands : s.chs.queue.find? (fun q => decide (q.source = .link)) = some old) (tagged : old.tag = some t) :
    ∃ s1, takeChime r s = (s1, .queued) ∧ OnlyChanges [.chs, .lkp] s s1 ∧
      s.chs.Joins r (s.chs.queue.filter fun q => decide (q.source ≠ .link)) (some .link) s1.chs ∧
      s1.lkp = s.lkp.takeNotice (.chime t .replaced) :=
  ⟨_, takeChime_replaces link stands tagged, (notify_only s _).comp (modChs_only _ _), Chs.joins_drop r s.chs .link,
    rfl⟩

variable (absent : s.chs.holds r.source = false)
include absent

/-- A request that finds room joins the queue and changes nothing else (R112). -/
theorem takeChime_joins (room : s.chs.queue.length < 8) :
    ∃ s1, takeChime r s = (s1, .queued) ∧ OnlyChanges [.chs] s s1 ∧ s.chs.Joins r s.chs.queue none s1.chs :=
  ⟨_, takeChime_room absent room, modChs_only s _, Chs.joins_room r s.chs⟩

variable {v : ChimeRequest} (full : 8 ≤ s.chs.queue.length) (victim : s.chs.victim = some v)
include full victim

/-- A request of a higher class joins in the place of the victim, whose end is handed (R114, R123). -/
theorem takeChime_joins_evicting (higher : v.cls.rank < r.cls.rank) :
    ∃ s1, takeChime r s = (s1, .queued) ∧ OnlyChanges [.chs, .wtb, .lkp] s s1 ∧
      s.chs.Joins r (s.chs.queue.filter fun q => decide (q.source ≠ v.source)) (some v.source) s1.chs ∧
      s1.wtb = s.wtb.retried v.source ∧ s1.lkp = s.lkp.hearEnd .evicted v := by
  obtain ⟨frame, wtb, lkp⟩ := handEnd_spec s .evicted v
  refine ⟨_, takeChime_evicts absent full victim higher, frame.comp (modChs_only _ _), ?_, wtb, lkp⟩
  have chs : (handEnd .evicted v s).chs = s.chs := frame .chs (by decide)
  rw [State.modChs_chs, chs]
  exact Chs.joins_drop r s.chs v.source

/-- A request that is not queued leaves the CHS; the WTB alone takes its end (R114). -/
theorem takeChime_notQueued (notHigher : r.cls.rank ≤ v.cls.rank) :
    ∃ s1, takeChime r s = (s1, .notQueued) ∧ OnlyChanges [.wtb] s s1 ∧ s1.wtb = s.wtb.retried r.source :=
  ⟨_, takeChime_full absent full victim notHigher, handNotQueued_only s _, handNotQueued_wtb s _⟩

end

/-! ## CHIME -/

@[simp] theorem takeRequest_chs (s : State) : (takeRequest s).chs = s.chs := rfl

section
variable {tag : Byte} {body : List Byte} {s : State}

/-- The fields of CHIME (R124). -/
theorem chimeFields_eq_some {p : PatternIx} {cls : ChimeClass} {dest : Destination} {passes : Nat} :
    chimeFields body = some (p, cls, dest, passes) ↔ u8 body 0 = p ∧ ChimeClass.ofCode (u8 body 1) = some cls ∧
      Destination.ofCode (u8 body 2) = some dest ∧ u8 body 3 = passes ∧ u8 body 3 ≤ 15 := by
  simp only [chimeFields, bind, Option.bind_eq_some_iff, pure, Option.some.injEq, Prod.mk.injEq, ixOf_eq_some,
    within_eq_some, Nat.zero_le, true_and]
  constructor
  · rintro ⟨_, pattern, _, cls, _, dest, _, ⟨passes, few⟩, rfl, rfl, rfl, rfl⟩
    exact ⟨pattern, cls, dest, passes, few⟩
  · rintro ⟨pattern, cls, dest, passes, few⟩
    exact ⟨_, pattern, _, cls, _, dest, _, ⟨passes, few⟩, rfl, rfl, rfl, rfl⟩

/-- A field out of its range leaves CHIME without fields (R124). -/
theorem chimeFields_eq_none (out : 8 ≤ u8 body 0 ∨ 3 ≤ u8 body 1 ∨ 3 ≤ u8 body 2 ∨ 16 ≤ u8 body 3) :
    chimeFields body = none := by
  rw [Option.eq_none_iff_forall_ne_some]
  rintro ⟨p, cls, dest, passes⟩ fields
  obtain ⟨pattern, cls, dest, -, few⟩ := chimeFields_eq_some.mp fields
  have := p.isLt
  have := ChimeClass.lt_of_ofCode cls
  have := Destination.lt_of_ofCode dest
  omega

variable (serves : Serves .chime tag body s) (length : body.length = 4)
include serves length

/-- CHIME with a field out of range is refused with RANGE (R124). -/
theorem exec_chime_range (out : 8 ≤ u8 body 0 ∨ 3 ≤ u8 body 1 ∨ 3 ≤ u8 body 2 ∨ 16 ≤ u8 body 3) :
    exec .chime s = .next (turnedDown ReqKind.chime.code tag .range s) :=
  served_refuse serves (decide_eq_true length) (by rw [ownChime, chimeFields_eq_none out]; rfl)

variable {p : PatternIx} {cls : ChimeClass} {dest : Destination} {passes : Nat}
  (fields : chimeFields body = some (p, cls, dest, passes))
include fields

/-- CHIME is answered when its LINK request is queued (R124). -/
theorem exec_chime_queued {s1 : State}
    (taken : takeChime (linkRequest s.chs p cls dest passes tag) (takeRequest s) = (s1, .queued)) :
    exec .chime s = .next (answered .chime tag [] s1) :=
  served_answer serves (decide_eq_true length)
    (by simp [ownChime, fields, ranged, taken, emptyAnswer])

/-- CHIME is refused with FULL when its LINK request is not queued (R124). -/
theorem exec_chime_full
    (taken : takeChime (linkRequest s.chs p cls dest passes tag) (takeRequest s) = (takeRequest s, .notQueued)) :
    exec .chime s = .next (turnedDown ReqKind.chime.code tag .full s) :=
  served_refuse serves (decide_eq_true length) (by simp [ownChime, fields, ranged, taken])

end

/-! ## CANCEL CHIME -/

section
variable {tag : Byte} {s : State} (serves : Serves .cancelChime tag [] s)
include serves

/-- CANCEL CHIME is refused with STATE when no LINK request stands (R125). -/
theorem exec_cancelChime_state (absent : s.chs.holds .link = false) :
    exec .cancelChime s = .next (turnedDown ReqKind.cancelChime.code tag .state s) :=
  served_refuse serves rfl (by
    simp only [ownCancelChime, takeRequest_chs, Chs.find?_of_not_holds absent, refused])

/-- CANCEL CHIME removes the LINK request that stands (R119, R125). -/
theorem exec_cancelChime_accepted {old : ChimeRequest} {t : Byte}
    (stands : s.chs.queue.find? (fun q => decide (q.source = .link)) = some old) (tagged : old.tag = some t) :
    exec .cancelChime s = .next (answered .cancelChime tag []
      (((takeRequest s).modChs fun c => c.remove .link).modLkp fun l => l.takeNotice (.chime t .cancelled))) :=
  served_answer serves rfl (by
    simp only [ownCancelChime, takeRequest_chs, stands,
      handEnd_of_link _ .cancelled (Chs.source_of_find? stands) tagged]
    rfl)

end

/-! ## What becomes of CHIME -/

section
variable {tag : Byte} {body : List Byte} {s : State} {p : PatternIx} {cls : ChimeClass} {dest : Destination}

/-- CHIME is answered, and its LINK request has taken its place in `queue` (R111, R124). -/
def ChimeAnswered (tag : Byte) (r : ChimeRequest) (s : State) (queue : List ChimeRequest) (s1 : State) : Prop :=
  exec .chime s = .next (answered .chime tag [] s1) ∧
    s1.chs.queue = insertRequest { r with arrival := s.chs.nextArrival } queue ∧
    s1.chs.nextArrival = s.chs.nextArrival + 1 ∧ s.chs.Keeps s1.chs

variable (serves : Serves .chime tag body s) (length : body.length = 4) {passes : Nat}
  (fields : chimeFields body = some (p, cls, dest, passes))
include serves length fields

/-- CHIME is answered whenever its request joins. -/
theorem chimeAnswered_of_joins {s1 : State} {queue : List ChimeRequest} {gone : Option ChimeSource}
    (taken : takeChime (linkRequest s.chs p cls dest passes tag) (takeRequest s) = (s1, .queued))
    (joins : s.chs.Joins (linkRequest s.chs p cls dest passes tag) queue gone s1.chs) :
    ChimeAnswered tag (linkRequest s.chs p cls dest passes tag) s queue s1 := by
  obtain ⟨place, count, keeps, -, -⟩ := joins
  exact ⟨exec_chime_queued serves length fields taken, place, count, keeps⟩

/-- CHIME with a LINK request that stands (R113). -/
theorem chime_replaces {old : ChimeRequest} {t : Byte}
    (stands : s.chs.queue.find? (fun q => decide (q.source = .link)) = some old) (tagged : old.tag = some t) :
    ∃ s1, ChimeAnswered tag (linkRequest s.chs p cls dest passes tag) s
        (s.chs.queue.filter fun q => decide (q.source ≠ .link)) s1 ∧
      OnlyChanges [.chs, .lkp] s s1 ∧ s1.lkp = (takeRequest s).lkp.takeNotice (.chime t .replaced) := by
  obtain ⟨s1, taken, frame, joins, lkp⟩ :=
    takeChime_link (r := linkRequest s.chs p cls dest passes tag) (s := takeRequest s) rfl stands tagged
  exact ⟨s1, chimeAnswered_of_joins serves length fields taken joins, (takeRequest_only s).comp frame, lkp⟩

variable (absent : s.chs.holds .link = false)
include absent

/-- CHIME with room in the queue (R112). -/
theorem chime_joins (room : s.chs.queue.length < 8) :
    ∃ s1, ChimeAnswered tag (linkRequest s.chs p cls dest passes tag) s s.chs.queue s1 ∧
      OnlyChanges [.chs, .lkp] s s1 ∧ s1.lkp = (takeRequest s).lkp ∧
      (s.chs.player ≠ none → s1.chs.player = s.chs.player) := by
  obtain ⟨s1, taken, frame, joins⟩ :=
    takeChime_joins (r := linkRequest s.chs p cls dest passes tag) (s := takeRequest s) absent room
  refine ⟨s1, chimeAnswered_of_joins serves length fields taken joins, (takeRequest_only s).comp frame, frame.lkp_eq,
    fun plays => ?_⟩
  obtain ⟨-, -, -, goesOn, -⟩ := joins
  obtain ⟨q, playing⟩ := Option.ne_none_iff_exists'.mp plays
  exact (goesOn q playing nofun).trans playing.symm

variable {v : ChimeRequest} (full : 8 ≤ s.chs.queue.length) (victim : s.chs.victim = some v)
include full victim

/-- CHIME with a full queue that holds a lower class: the victim is not LINK's, so that no notice is queued (R114). -/
theorem chime_evicts (higher : v.cls.rank < cls.rank) :
    ∃ s1, ChimeAnswered tag (linkRequest s.chs p cls dest passes tag) s
        (s.chs.queue.filter fun q => decide (q.source ≠ v.source)) s1 ∧
      OnlyChanges [.chs, .lkp, .wtb] s s1 ∧ s1.lkp = (takeRequest s).lkp ∧ s1.wtb = s.wtb.retried v.source := by
  obtain ⟨s1, taken, frame, joins, wtb, lkp⟩ := takeChime_joins_evicting
    (r := linkRequest s.chs p cls dest passes tag) (s := takeRequest s) absent full victim higher
  have other : v.source ≠ .link := fun link => by
    have held : s.chs.holds .link = true :=
      List.any_eq_true.mpr ⟨v, (Chs.victim_spec victim).1, decide_eq_true link⟩
    rw [absent] at held
    cases held
  exact ⟨s1, chimeAnswered_of_joins serves length fields taken joins, (takeRequest_only s).comp frame,
    lkp.trans (Lkp.hearEnd_of_other other), wtb⟩

/-- CHIME with a full queue that holds no lower class (R114). -/
theorem chime_full (notHigher : cls.rank ≤ v.cls.rank) :
    exec .chime s = .next (turnedDown ReqKind.chime.code tag .full s) :=
  exec_chime_full serves length fields
    (takeChime_full (r := linkRequest s.chs p cls dest passes tag) (s := takeRequest s) absent full victim notHigher)

end

/-- Settles O50: how a request of any source is taken, what a removal does, the place of a request in the queue and the
victim of an eviction; CHIME and CANCEL CHIME are these with LINK's requests. -/
theorem chimeRequestsAnswer : Obligations.ChimeRequestsAnswer := by
  unfold Obligations.ChimeRequestsAnswer
  refine ⟨fun r s => ⟨takeChime_held, fun _ _ => takeChime_link, takeChime_joins, fun _ absent full victim =>
      takeChime_joins_evicting absent full victim, fun _ absent full victim => takeChime_notQueued absent full victim⟩,
    fun src c => ⟨c.remove_queue src, c.remove_frame src, fun _ => Chs.remove_chooses, Chs.remove_player_of_other⟩,
    fun _ _ => rfl,
    fun tag body s serves length =>
      ⟨exec_chime_range serves length, fun p cls dest pattern classCode destCode few => ?chime⟩,
    fun r queue ordered => ⟨insertRequest_perm r queue, ?place⟩,
    by decide, fun _ _ => Chs.victim_spec,
    fun _ _ serves => ⟨exec_cancelChime_state serves, fun _ _ => exec_cancelChime_accepted serves⟩⟩
  case chime =>
    have fields := chimeFields_eq_some.mpr ⟨pattern, classCode, destCode, rfl, few⟩
    refine ⟨fun _ _ => chime_replaces serves length fields, chime_joins serves length fields,
      fun v absent full victim higher => ?evicts,
      fun _ absent full victim => chime_full serves length fields absent full victim⟩
    obtain ⟨s1, queued, frame, lkp, wtb⟩ := chime_evicts serves length fields absent full victim higher
    exact ⟨s1, queued, frame, lkp, fun w => wtb ▸ Wtb.retried_repeatTimer v.source s.wtb w⟩
  case place =>
    simp only [← ChimeRequest.before_iff] at ordered
    obtain ⟨ahead, behind, parts, inserted, later, earlier⟩ := insertRequest_splits r ordered
    exact ⟨ahead, behind, parts, inserted, later, fun q mem => ChimeRequest.before_iff.mp (earlier q mem)⟩

end Sys2Proof.Machine
end

section
/-! Chapter 10, the receiver: what a character does to it, and how the frame that an idle gap ends is judged
(R182 to R184, Table 53). -/

namespace Sys2Proof.Machine

-- One theorem at a time, so that a build as one text needs few threads.
set_option Elab.async false

/-- An operation on the LKP that takes one of two ways. -/
theorem State.modLkp_of_ite {f g h : Lkp → Lkp} {s : State} {p : Prop} [Decidable p]
    (ways : f s.lkp = if p then g s.lkp else h s.lkp) : s.modLkp f = if p then s.modLkp g else s.modLkp h := by
  rw [State.modLkp, ways]
  split_ifs <;> rfl

/-! ## A character -/

section
variable {l : Lkp} {value : Byte} {error : Bool}

/-- A receiver that waits for an idle gap passes over every character (Table 53, HUNTING and DISCARDING). -/
theorem Lkp.receive_waiting (rx : l.rx = .hunting ∨ l.rx = .discarding) : l.receive value error = l := by
  rcases rx with rx | rx
  · simp only [Lkp.receive, rx]
  · simp only [Lkp.receive, rx]

/-- The first character of a frame (Table 53, READY). -/
theorem Lkp.receive_ready (rx : l.rx = .ready) :
    l.receive value error =
      if error then { l with rx := .discarding, rxBytes := [] } else { l with rx := .receiving, rxBytes := [value] } := by
  simp only [Lkp.receive, rx]

/-- A further character of a frame (Table 53, RECEIVING). -/
theorem Lkp.receive_receiving (rx : l.rx = .receiving) :
    l.receive value error =
      if error = true ∨ 52 ≤ l.rxBytes.length then { l with rx := .discarding }
      else { l with rxBytes := l.rxBytes ++ [value] } := by
  simp only [Lkp.receive, rx]

end

theorem exec_hostCharacter {s : State} (supplied : s.igs.supplied = true) (value : Byte) (error : Bool) :
    exec (.hostCharacter value error) s = .next (settle (s.modLkp (Lkp.receive value error))) :=
  takeEvent_supplied supplied

/-! ## The end of a frame -/

theorem exec_idleGap {s : State} (supplied : s.igs.supplied = true) :
    exec .idleGap s = .next (settle (idleGap s)) :=
  takeEvent_supplied supplied

theorem State.modLkp_offer (r : Request) (s : State) :
    s.modLkp (Lkp.offer r) =
      if s.lkp.requests.length < 2 then s.modLkp fun l => { l with requests := l.requests ++ [r] }
      else s.modLkp Lkp.setOverrun :=
  State.modLkp_of_ite rfl

section
variable {s : State}

/-- A gap that ends no frame leaves the receiver READY (Table 53, HUNTING and READY). -/
theorem idleGap_noFrame (rx : s.lkp.rx = .hunting ∨ s.lkp.rx = .ready) : idleGap s = s.modLkp Lkp.rxReady := by
  rcases rx with rx | rx
  · simp only [idleGap, rx]
  · simp only [idleGap, rx]

/-- A failed frame: dropped under discard-all or without its first two bytes, else refused with FRAME (R183, cases 1
and 2). -/
theorem idleGap_discarding (rx : s.lkp.rx = .discarding) :
    idleGap s =
      if s.lkp.discardAll = true ∨ s.lkp.rxBytes.length < 2 then s.modLkp Lkp.rxReady
      else receiverRefusal .frame (byteAt s.lkp.rxBytes 0) (byteAt s.lkp.rxBytes 1) (s.modLkp Lkp.rxReady) := by
  rw [ite_or, ← ite_not (p := _ < _)]
  simp only [idleGap, rx, not_lt]

/-- A complete run of bytes: dropped under discard-all, else judged by what it holds (R183, cases 1 and 3 to 6). -/
theorem idleGap_receiving (rx : s.lkp.rx = .receiving) :
    idleGap s =
      if s.lkp.discardAll = true then s.modLkp Lkp.rxReady else judgeBytes s.lkp.rxBytes (s.modLkp Lkp.rxReady) := by
  simp only [idleGap, rx]

end

/-- Settles O19: the character by the receiver's state; the gap by the state and then the order of R183, where what the
gap does to the receiver leaves the reply queue and the request buffer as they are. -/
theorem framesAreReceived : Obligations.FramesAreReceived := by
  unfold Obligations.FramesAreReceived
  refine ⟨fun value error s supplied => ?character, fun s supplied => ?gap⟩
  case character =>
    rw [exec_hostCharacter supplied]
    congr 2
    cases rx : s.lkp.rx with
    | hunting => rw [State.modLkp, Lkp.receive_waiting (.inl rx)]
    | discarding => rw [State.modLkp, Lkp.receive_waiting (.inr rx)]
    | ready => exact State.modLkp_of_ite (Lkp.receive_ready rx)
    | receiving => exact State.modLkp_of_ite (Lkp.receive_receiving rx)
  case gap =>
    intro b ready overrun refusal
    have refused (reason : Reason) :
        receiverRefusal reason (byteAt b 0) (byteAt b 1) (s.modLkp Lkp.rxReady) = refusal reason := rfl
    rw [exec_idleGap supplied]
    congr 2
    cases rx : s.lkp.rx with
    | hunting => exact idleGap_noFrame (.inl rx)
    | ready => exact idleGap_noFrame (.inr rx)
    | discarding => rw [idleGap_discarding rx, refused]; rfl
    | receiving =>
      rw [idleGap_receiving rx, judgeBytes, refused, refused, State.modLkp_offer, ← ite_or]
      rfl

end Sys2Proof.Machine
end


section
/-! Every command as one event: its effect, the parts of the state the effect may change, and the induction by which a
property that every event keeps is kept by every step. -/

namespace Sys2Proof.Machine

-- One theorem at a time, so that a build as one text needs few threads.
set_option Elab.async false

/-! ## The effect of a command -/

/-- What the owning block makes of a request of a kind. -/
def ReqKind.owner : ReqKind → Request → State → State × Response
  | .identify => ownIdentify
  | .setNoticeMask => ownSetNoticeMask
  | .restart => ownRestart
  | .readInstruments => ownReadInstruments
  | .setChannel => ownSetChannel
  | .setCalibration => ownSetCalibration
  | .sensorReport => ownSensorReport
  | .setSlot => ownSetSlot
  | .setGauge => ownSetGauge
  | .sweepGauges => ownSweepGauges
  | .readGauges => ownReadGauges
  | .readTrip => ownReadTrip
  | .tripControl => ownTripControl
  | .setDestination => ownSetDestination
  | .readTotals => ownReadTotals
  | .restoreOdometer => ownRestoreOdometer
  | .setFuelOptions => ownSetFuelOptions
  | .readClock => ownReadClock
  | .setClock => ownSetClock
  | .setAlarm => ownSetAlarm
  | .setClockOptions => ownSetClockOptions
  | .setWarning => ownSetWarning
  | .readWarnings => ownReadWarnings
  | .acknowledge => ownAcknowledge
  | .linkCondition => ownLinkCondition
  | .setLamp => ownSetLamp
  | .setSwitch => ownSetSwitch
  | .chime => ownChime
  | .cancelChime => ownCancelChime
  | .setPattern => ownSetPattern
  | .setPrivacy => ownSetPrivacy
  | .setServiceItem => ownSetServiceItem
  | .readService => ownReadService
  | .serviceDone => ownServiceDone
  | .setNode => ownSetNode
  | .coachPass => ownCoachPass
  | .coachReset => ownCoachReset
  | .readNodes => ownReadNodes
  | .setCoachOptions => ownSetCoachOptions

/-- A request row is the dispatcher's taking of a request of its kind (R185). -/
theorem exec_row (k : ReqKind) (s : State) : exec k.row s = takeEvent (serve k k.owner) s := by cases k <;> rfl

/-- What a command that is no request row does in its event; a request row does what the dispatcher does. -/
def otherEffect : Instr → State → State
  | .unknownKind => serveUnknown
  | .hostCharacter value error => fun s => s.modLkp (Lkp.receive value error)
  | .idleGap => idleGap
  | .transmissionComplete lines => transmissionComplete lines
  | .gapEnd => gapEnd
  | .supplyReset lines => supplyReset lines
  | .battBelowRetention => losePower
  | .lineReset lines => lineReset lines
  | .runEntry => ignitionOn
  | .parkedEntry => ignitionOff
  | .crankOn => crankOn
  | .crankOff => crankOff
  | .pulseEdge ch at10us => pulseEdge ch at10us
  | .stallExpiry ch => stallExpiry ch
  | .windowExpiry at10us => windowExpiry at10us
  | .slotStaleExpiry n => slotStaleExpiry n
  | .slotLostExpiry n => slotLostExpiry n
  | .needleStep g => needleStep g
  | .homingEnd g => homingEnd g
  | .secondBoundary => secondBoundary
  | .switchChange n => changeSwitch n fun w => { w with level := !w.level }
  | .qualifyExpiry w => qualifyExpiry w
  | .repeatExpiry w => repeatExpiry w
  | .flashPhase => fun s => s.modWtb fun t => { t with flashLit := !t.flashLit }
  | .bulbCheckEnd => fun s => s.modWtb fun t => { t with bulbCheck := none }
  | .segmentEnd => segmentEnd
  | .masterFrameSent => masterFrameSent
  | .answerWindowExpiry => answerWindowExpiry
  | .answerCut => answerCut
  | .answerComplete => answerDone
  | .contention => contention
  | .backoffExpiry => backoffExpiry
  | .lineRelease => lineRelease
  | .resettingEnd => resettingEnd
  | .roundStart => roundExpiry
  | .sleepStart => sleepStart
  | .answerCharacter value mark error => answerCharacter { value, mark, error }
  | .resetLineHigh => resetHigh
  | _ => id

/-- Every command is the row of a request kind, the Supply reset, or another event (log 7). -/
theorem exec_cases (c : Instr) (s : State) :
    (∃ k : ReqKind, c = k.row) ∨ (∃ lines, c = .supplyReset lines) ∨
      exec c s = takeEvent (otherEffect c) s ∧ ∀ lines, c ≠ .supplyReset lines := by
  cases c
  case identify => exact .inl ⟨.identify, rfl⟩
  case setNoticeMask => exact .inl ⟨.setNoticeMask, rfl⟩
  case restart => exact .inl ⟨.restart, rfl⟩
  case readInstruments => exact .inl ⟨.readInstruments, rfl⟩
  case setChannel => exact .inl ⟨.setChannel, rfl⟩
  case setCalibration => exact .inl ⟨.setCalibration, rfl⟩
  case sensorReport => exact .inl ⟨.sensorReport, rfl⟩
  case setSlot => exact .inl ⟨.setSlot, rfl⟩
  case setGauge => exact .inl ⟨.setGauge, rfl⟩
  case sweepGauges => exact .inl ⟨.sweepGauges, rfl⟩
  case readGauges => exact .inl ⟨.readGauges, rfl⟩
  case readTrip => exact .inl ⟨.readTrip, rfl⟩
  case tripControl => exact .inl ⟨.tripControl, rfl⟩
  case setDestination => exact .inl ⟨.setDestination, rfl⟩
  case readTotals => exact .inl ⟨.readTotals, rfl⟩
  case restoreOdometer => exact .inl ⟨.restoreOdometer, rfl⟩
  case setFuelOptions => exact .inl ⟨.setFuelOptions, rfl⟩
  case readClock => exact .inl ⟨.readClock, rfl⟩
  case setClock => exact .inl ⟨.setClock, rfl⟩
  case setAlarm => exact .inl ⟨.setAlarm, rfl⟩
  case setClockOptions => exact .inl ⟨.setClockOptions, rfl⟩
  case setWarning => exact .inl ⟨.setWarning, rfl⟩
  case readWarnings => exact .inl ⟨.readWarnings, rfl⟩
  case acknowledge => exact .inl ⟨.acknowledge, rfl⟩
  case linkCondition => exact .inl ⟨.linkCondition, rfl⟩
  case setLamp => exact .inl ⟨.setLamp, rfl⟩
  case setSwitch => exact .inl ⟨.setSwitch, rfl⟩
  case chime => exact .inl ⟨.chime, rfl⟩
  case cancelChime => exact .inl ⟨.cancelChime, rfl⟩
  case setPattern => exact .inl ⟨.setPattern, rfl⟩
  case setPrivacy => exact .inl ⟨.setPrivacy, rfl⟩
  case setServiceItem => exact .inl ⟨.setServiceItem, rfl⟩
  case readService => exact .inl ⟨.readService, rfl⟩
  case serviceDone => exact .inl ⟨.serviceDone, rfl⟩
  case setNode => exact .inl ⟨.setNode, rfl⟩
  case coachPass => exact .inl ⟨.coachPass, rfl⟩
  case coachReset => exact .inl ⟨.coachReset, rfl⟩
  case readNodes => exact .inl ⟨.readNodes, rfl⟩
  case setCoachOptions => exact .inl ⟨.setCoachOptions, rfl⟩
  case supplyReset lines => exact .inr (.inl ⟨lines, rfl⟩)
  all_goals exact .inr (.inr ⟨rfl, nofun⟩)

/-! ## What the effect of a command may change -/

section
variable {ps : List Part} {s : State}

theorem ranged_only {α : Type} {fields : Option α} {f : α → State → State × Response}
    (accepted : ∀ a, OnlyChanges ps s (f a s).1) : OnlyChanges ps s (ranged fields f s).1 := by
  unfold ranged
  split
  · exact accepted _
  · exact .refl _ _

/-- The parts that the owner of a request kind may change. -/
def ReqKind.parts : ReqKind → List Part
  | .identify | .readInstruments | .readGauges | .readTrip | .readTotals | .readClock | .readWarnings | .readService
  | .readNodes => []
  | .setNoticeMask => [.lkp]
  | .restart => [.clc, .lkp]
  | .setChannel => [.pcu, .gdu, .tau, .svs, .wtb, .chs, .clc, .lkp, .inputs, .free]
  | .setCalibration => [.pcu, .tau, .wtb, .chs, .clc, .lkp]
  | .sensorReport => [.gdu, .tau, .wtb, .chs, .clc, .lkp, .free]
  | .setSlot | .setGauge | .sweepGauges => [.gdu]
  | .tripControl | .setDestination => [.tau, .clc]
  | .restoreOdometer => [.tau, .svs, .wtb, .chs, .clc, .lkp]
  | .setFuelOptions => [.tau, .wtb, .chs, .clc, .lkp]
  | .setClock => [.clk, .wtb, .chs, .clc, .lkp]
  | .setAlarm => [.clk, .chs, .clc]
  | .setClockOptions => [.clk]
  | .setWarning | .acknowledge | .linkCondition | .setSwitch | .chime | .cancelChime | .setNode | .coachReset =>
    [.wtb, .chs, .clc, .lkp]
  | .setLamp => [.wtb]
  | .setPattern => [.chs]
  | .setPrivacy => [.chs, .clc]
  | .setServiceItem | .serviceDone => [.svs, .wtb, .chs, .clc, .lkp]
  | .coachPass | .setCoachOptions => [.clc]

theorem changeSwitch_only (n : SwitchIx) (f : Switch → Switch) (s : State) :
    OnlyChanges [.wtb, .chs, .clc, .lkp] s (changeSwitch n f s) := by
  unfold changeSwitch
  dsimp only
  split_ifs
  · exact (modWtb_only s _).mono (by decide)
  · exact (modWtb_only s _).comp (ByProducts.wtbSwitch n _).only

theorem reconfigureEntry_only (w : EntryIx) (c : EntryConfig) (s : State) :
    OnlyChanges [.wtb, .chs, .clc, .lkp] s (reconfigureEntry w c s) := by
  rw [reconfigureEntry_eq]
  exact ((rewriteEntry_only (w := w) (c := c) (s := s)).trans (ByProducts.evaluateEntry w _).only)

theorem abortBehind_only (s : State) : OnlyChanges [.lkp] s (abortBehind s) :=
  (OnlyChanges.foldl (fun s _ => reply_only s _ _ _ _) _ s).trans (modLkp_only _ _)

theorem abortPass_only (s : State) : OnlyChanges [.clc, .lkp] s (abortPass s) :=
  (endPass_only s _).comp (modClc_only _ _)

theorem ownSetNoticeMask_only (r : Request) (s : State) :
    OnlyChanges [.lkp] s (ownSetNoticeMask r s).1 := by
  unfold ownSetNoticeMask
  dsimp only
  split_ifs
  · exact .refl _ _
  · exact modLkp_only _ _

theorem ownSetChannel_only (r : Request) (s : State) :
    OnlyChanges [.pcu, .gdu, .tau, .svs, .wtb, .chs, .clc, .lkp, .inputs, .free] s (ownSetChannel r s).1 := by
  refine ranged_only fun p => ?_
  unfold setChannel emptyAnswer
  dsimp only
  split_ifs
  · exact (modInputs_only s _).comp (modChannel_only _ _ _)
  · exact ((modInputs_only s _).comp (changeChannel_only _ _ _) :
      OnlyChanges [.pcu, .gdu, .tau, .svs, .wtb, .chs, .clc, .lkp, .inputs, .free] _ _).comp (modPcu_only _ _)
  · exact (modInputs_only s _).comp (changeChannel_only _ _ _)

theorem ownSetCalibration_only (r : Request) (s : State) :
    OnlyChanges [.pcu, .tau, .wtb, .chs, .clc, .lkp] s (ownSetCalibration r s).1 := by
  refine ranged_only fun cal => ?_
  have whole : OnlyChanges [.pcu, .tau, .wtb, .chs, .clc, .lkp] s (emptyRing (setImplausible false
      (s.modPcu fun p => { p with cal, roadResidue := 0, checkResidue := 0, fuelResidue := 0 }))) :=
    ((modPcu_only s _).comp (setImplausible_only _ _) : OnlyChanges [.pcu, .wtb, .chs, .clc, .lkp] _ _).comp
      (emptyRing_only _)
  unfold setCalibration emptyAnswer
  dsimp only
  split_ifs
  · exact whole
  · exact whole.comp (modPcu_only _ _)

theorem ownSetGauge_only (r : Request) (s : State) :
    OnlyChanges [.gdu] s (ownSetGauge r s).1 := by
  refine ranged_only fun p => ?_
  unfold setGauge
  split_ifs
  · exact .refl _ _
  · exact modGdu_only _ _

theorem ownSweepGauges_only (r : Request) (s : State) :
    OnlyChanges [.gdu] s (ownSweepGauges r s).1 := by
  unfold ownSweepGauges
  split_ifs
  · exact .refl _ _
  · exact .refl _ _
  · exact startSweep_only _

theorem ownTripControl_only (r : Request) (s : State) :
    OnlyChanges [.tau, .clc] s (ownTripControl r s).1 := by
  refine ranged_only fun p => ?_
  unfold tripControl
  split
  · exact resetTrip_only _ _ _
  · split
    · unfold setTripState emptyAnswer
      dsimp only
      split_ifs
      · exact (modTrip_only s _ _).comp (mark_only _ _)
      · exact (modTrip_only s _ _).mono (by decide)
    · exact .refl _ _

theorem ownRestoreOdometer_only (r : Request) (s : State) :
    OnlyChanges [.tau, .svs, .wtb, .chs, .clc, .lkp] s (ownRestoreOdometer r s).1 := by
  unfold ownRestoreOdometer
  dsimp only
  split
  · exact .refl _ _
  · split_ifs
    · exact .refl _ _
    · dsimp only
      exact restoreOdometer_only _ s

theorem ownSetFuelOptions_only (r : Request) (s : State) :
    OnlyChanges [.tau, .wtb, .chs, .clc, .lkp] s (ownSetFuelOptions r s).1 := by
  refine ranged_only fun o => ?_
  have emptied : OnlyChanges [.tau, .wtb, .chs, .clc, .lkp] s (emptyRing (s.modTau fun u => { u with fuel := o })) :=
    (modTau_only s _).comp (emptyRing_only _)
  unfold setFuelOptions emptyAnswer
  dsimp only
  split_ifs
  · exact (emptied.comp (modTau_only _ _) : OnlyChanges [.tau, .wtb, .chs, .clc, .lkp] _ _).comp (recomputeRange_only _)
  · exact (emptied.comp (takeLevel_only _) : OnlyChanges [.tau, .wtb, .chs, .clc, .lkp] _ _).comp (recomputeRange_only _)

theorem ownLinkCondition_only (r : Request) (s : State) :
    OnlyChanges [.wtb, .chs, .clc, .lkp] s (ownLinkCondition r s).1 := by
  refine ranged_only fun p => ?_
  unfold linkCondition
  split_ifs
  · exact (modEntry_only s _ _).comp (ByProducts.evaluateEntry _ _).only
  · exact .refl _ _

theorem ownChime_only (r : Request) (s : State) :
    OnlyChanges [.wtb, .chs, .clc, .lkp] s (ownChime r s).1 := by
  refine ranged_only fun f => ?_
  dsimp only
  split_ifs <;> exact (ByProducts.takeChime _ s).only

theorem ownCancelChime_only (r : Request) (s : State) :
    OnlyChanges [.wtb, .chs, .clc, .lkp] s (ownCancelChime r s).1 := by
  unfold ownCancelChime
  split
  · exact ((ByProducts.removeChime _ s).trans (ByProducts.handEnd _ _ _)).only
  · exact .refl _ _

theorem ownSetPattern_only (r : Request) (s : State) :
    OnlyChanges [.chs] s (ownSetPattern r s).1 := by
  refine ranged_only fun p => ?_
  unfold setPattern
  split_ifs
  · exact .refl _ _
  · exact modChs_only _ _

theorem ownServiceDone_only (r : Request) (s : State) :
    OnlyChanges [.svs, .wtb, .chs, .clc, .lkp] s (ownServiceDone r s).1 := by
  refine ranged_only fun i => ?_
  unfold serviceDone
  split_ifs
  · exact .refl _ _
  · exact .refl _ _
  · exact .refl _ _
  · exact changeItem_only s _ _

theorem ownSetNode_only (r : Request) (s : State) :
    OnlyChanges [.wtb, .chs, .clc, .lkp] s (ownSetNode r s).1 := by
  refine ranged_only fun p => ?_
  unfold setNode
  split_ifs
  · exact .refl _ _
  · exact .refl _ _
  · exact ((modNode_only s _ _).comp (modClc_only _ _) : OnlyChanges [.clc] _ _).comp (setNodeState_only _ _ _)

theorem ownCoachPass_only (r : Request) (s : State) :
    OnlyChanges [.clc] s (ownCoachPass r s).1 := by
  unfold ownCoachPass
  split_ifs
  · exact .refl _ _
  · refine ranged_only fun p => ?_
    unfold acceptPass
    split_ifs
    · exact .refl _ _
    · split
      · split_ifs
        · exact modClc_only _ _
        · exact .refl _ _
      · exact .refl _ _

theorem ownCoachReset_only (r : Request) (s : State) :
    OnlyChanges [.wtb, .chs, .clc, .lkp] s (ownCoachReset r s).1 := by
  unfold ownCoachReset emptyAnswer
  split_ifs
  · exact .refl _ _
  · dsimp only
    exact coachReset_only s

theorem ownRestart_only (r : Request) (s : State) :
    OnlyChanges [.clc, .lkp] s (ownRestart r s).1 :=
  ((abortBehind_only s).comp (abortPass_only _) : OnlyChanges [.clc, .lkp] _ _).comp (modLkp_only _ _)

theorem ownSensorReport_only (r : Request) (s : State) :
    OnlyChanges [.gdu, .tau, .wtb, .chs, .clc, .lkp, .free] s (ownSensorReport r s).1 :=
  ranged_only fun _ => OnlyChanges.foldl (fun s _ => reportSlot_only s _ _) _ s

theorem ownSetSlot_only (r : Request) (s : State) :
    OnlyChanges [.gdu] s (ownSetSlot r s).1 :=
  ranged_only fun _ => modSlot_only s _ _

theorem ownSetDestination_only (r : Request) (s : State) :
    OnlyChanges [.tau, .clc] s (ownSetDestination r s).1 :=
  ranged_only fun _ => (modTau_only s _).comp (mark_only _ _)

theorem ownSetClock_only (r : Request) (s : State) :
    OnlyChanges [.clk, .wtb, .chs, .clc, .lkp] s (ownSetClock r s).1 :=
  ranged_only fun _ => setClockTo_only s _

theorem ownSetAlarm_only (r : Request) (s : State) :
    OnlyChanges [.clk, .chs, .clc] s (ownSetAlarm r s).1 :=
  ranged_only fun _ => changeAlarm_only s _ _

theorem ownSetClockOptions_only (r : Request) (s : State) :
    OnlyChanges [.clk] s (ownSetClockOptions r s).1 :=
  ranged_only fun _ => modClk_only s _

theorem ownSetWarning_only (r : Request) (s : State) :
    OnlyChanges [.wtb, .chs, .clc, .lkp] s (ownSetWarning r s).1 :=
  ranged_only fun _ => reconfigureEntry_only _ _ s

theorem ownAcknowledge_only (r : Request) (s : State) :
    OnlyChanges [.wtb, .chs, .clc, .lkp] s (ownAcknowledge r s).1 :=
  ranged_only fun _ => (ByProducts.acknowledgeWhere _ s).only

theorem ownSetLamp_only (r : Request) (s : State) :
    OnlyChanges [.wtb] s (ownSetLamp r s).1 :=
  ranged_only fun _ => modWtb_only s _

theorem ownSetSwitch_only (r : Request) (s : State) :
    OnlyChanges [.wtb, .chs, .clc, .lkp] s (ownSetSwitch r s).1 :=
  ranged_only fun _ => changeSwitch_only _ _ s

theorem ownSetPrivacy_only (r : Request) (s : State) :
    OnlyChanges [.chs, .clc] s (ownSetPrivacy r s).1 :=
  ranged_only fun _ => takePrivacy_only s _

theorem ownSetServiceItem_only (r : Request) (s : State) :
    OnlyChanges [.svs, .wtb, .chs, .clc, .lkp] s (ownSetServiceItem r s).1 :=
  ranged_only fun _ => changeItem_only s _ _

theorem ownSetCoachOptions_only (r : Request) (s : State) :
    OnlyChanges [.clc] s (ownSetCoachOptions r s).1 :=
  ranged_only fun _ => (modClc_only s _).comp (mark_only _ _)

theorem ownReadTrip_only (r : Request) (s : State) :
    OnlyChanges [] s (ownReadTrip r s).1 :=
  ranged_only fun _ => .refl _ _

theorem ownReadService_only (r : Request) (s : State) :
    OnlyChanges [] s (ownReadService r s).1 :=
  ranged_only fun _ => .refl _ _

theorem owner_only (k : ReqKind) (r : Request) (s : State) : OnlyChanges k.parts s (k.owner r s).1 := by
  cases k
  case setNoticeMask => exact ownSetNoticeMask_only r s
  case restart => exact ownRestart_only r s
  case setChannel => exact ownSetChannel_only r s
  case setCalibration => exact ownSetCalibration_only r s
  case sensorReport => exact ownSensorReport_only r s
  case setSlot => exact ownSetSlot_only r s
  case setGauge => exact ownSetGauge_only r s
  case sweepGauges => exact ownSweepGauges_only r s
  case tripControl => exact ownTripControl_only r s
  case setDestination => exact ownSetDestination_only r s
  case restoreOdometer => exact ownRestoreOdometer_only r s
  case setFuelOptions => exact ownSetFuelOptions_only r s
  case setClock => exact ownSetClock_only r s
  case setAlarm => exact ownSetAlarm_only r s
  case setClockOptions => exact ownSetClockOptions_only r s
  case setWarning => exact ownSetWarning_only r s
  case acknowledge => exact ownAcknowledge_only r s
  case linkCondition => exact ownLinkCondition_only r s
  case setLamp => exact ownSetLamp_only r s
  case setSwitch => exact ownSetSwitch_only r s
  case chime => exact ownChime_only r s
  case cancelChime => exact ownCancelChime_only r s
  case setPattern => exact ownSetPattern_only r s
  case setPrivacy => exact ownSetPrivacy_only r s
  case setServiceItem => exact ownSetServiceItem_only r s
  case serviceDone => exact ownServiceDone_only r s
  case setNode => exact ownSetNode_only r s
  case coachPass => exact ownCoachPass_only r s
  case coachReset => exact ownCoachReset_only r s
  case setCoachOptions => exact ownSetCoachOptions_only r s
  case readTrip => exact ownReadTrip_only r s
  case readService => exact ownReadService_only r s
  all_goals exact .refl _ _

/-- What the dispatcher makes of a request keeps what its parts keep: it changes the Link Port and what the owner
changes. -/
theorem serve_only (k : ReqKind) (s : State) : OnlyChanges (.lkp :: k.parts) s (serve k k.owner s) := by
  unfold serve
  split
  · split_ifs
    · exact ((takeRequest_only s).comp (owner_only k _ _) (rs := .lkp :: k.parts) (by simp)
        (List.subset_cons_self _ _)).comp (reply_only _ _ _ _ _) (List.Subset.refl _) (by simp)
    · exact ((takeRequest_only s).trans (reply_only _ _ _ _ _)).mono (by simp)
    · exact .refl _ _
  · exact .refl _ _

end

/-! ## The other commands -/

section
variable (s : State)

theorem completeTxn_only (answer : Option (List Byte)) :
    OnlyChanges [.tau, .clk, .wtb, .chs, .clc, .lkp] s (completeTxn answer s) := by
  unfold completeTxn
  split
  · dsimp only
    split
    · exact (modClc_only s _).comp (completePoll_only _ _ _)
    · exact (modClc_only s _).comp (completeMirror_only _ _ _ _)
    · exact (modClc_only s _).comp (completePass_only _ _ _)
    · exact (modClc_only s _).mono (by decide)
  · exact .refl _ _

theorem masterFrameSent_only : OnlyChanges [.tau, .clk, .wtb, .chs, .clc, .lkp] s (masterFrameSent s) := by
  unfold masterFrameSent
  split
  · split_ifs
    · exact completeTxn_only s _
    · exact (modClc_only s _).mono (by decide)
    · exact .refl _ _
  · exact .refl _ _

theorem answerCharacter_only (ch : CoachChar) : OnlyChanges [.clc] s (answerCharacter ch s) := by
  unfold answerCharacter
  split
  · exact modClc_only s _
  · split_ifs
    · exact .refl _ _
    · exact modClc_only s _
  · exact .refl _ _
  · exact .refl _ _

theorem answerWindowExpiry_only : OnlyChanges [.tau, .clk, .wtb, .chs, .clc, .lkp] s (answerWindowExpiry s) := by
  unfold answerWindowExpiry
  split_ifs
  · exact completeTxn_only s _
  · exact .refl _ _

theorem answerCut_only : OnlyChanges [.tau, .clk, .wtb, .chs, .clc, .lkp] s (answerCut s) := by
  unfold answerCut
  split
  · split_ifs
    · exact .refl _ _
    · exact completeTxn_only s _
  · exact .refl _ _

theorem answerDone_only : OnlyChanges [.tau, .clk, .wtb, .chs, .clc, .lkp] s (answerDone s) := by
  unfold answerDone
  split
  · split_ifs
    · exact completeTxn_only s _
    · exact .refl _ _
  · exact .refl _ _

theorem roundExpiry_only : OnlyChanges [.clc] s (roundExpiry s) := by
  unfold roundExpiry
  split_ifs
  · exact modClc_only s _
  · exact .refl _ _

theorem lineRelease_only : OnlyChanges [.clc] s (lineRelease s) := by
  unfold lineRelease
  split_ifs
  · exact modClc_only s _
  · exact .refl _ _

theorem sleepStart_only : OnlyChanges [.clc, .free] s (sleepStart s) := by
  unfold sleepStart
  split_ifs
  · exact (modClc_only s _).comp (startTxn_only _ _)
  · exact .refl _ _

theorem qualifyExpiry_only (w : EntryIx) : OnlyChanges [.wtb, .chs, .clc, .lkp] s (qualifyExpiry w s) := by
  unfold qualifyExpiry
  split_ifs
  · exact (ByProducts.enterActive w s).only
  · exact .refl _ _

theorem repeatExpiry_only (w : EntryIx) : OnlyChanges [.wtb, .chs, .clc, .lkp] s (repeatExpiry w s) := by
  unfold repeatExpiry
  split_ifs
  · exact (modEntry_only s _ _).comp (ByProducts.handWarningChime w _).only
  · exact .refl _ _

theorem stallExpiry_only (ch : ChannelIx) :
    OnlyChanges [.pcu, .gdu, .tau, .svs, .wtb, .chs, .clc, .lkp, .free] s (stallExpiry ch s) := by
  unfold stallExpiry
  split_ifs
  · exact changeChannel_only s _ _
  · exact .refl _ _

theorem windowExpiry_only (at10us : Nat) :
    OnlyChanges [.pcu, .gdu, .tau, .svs, .wtb, .chs, .clc, .lkp, .free] s (windowExpiry at10us s) := by
  unfold windowExpiry
  split_ifs
  · have closed : OnlyChanges [.pcu, .gdu, .tau, .svs, .wtb, .chs, .clc, .lkp, .free] s
        (disagreeTest (closeWindow at10us s)) := (closeWindow_only s _).comp (disagreeTest_only _)
    have result : OnlyChanges [.pcu, .gdu, .tau, .svs, .wtb, .chs, .clc, .lkp, .free] s
        (windowResult (moveSource (disagreeTest (closeWindow at10us s)))) :=
      (closed.comp (moveSource_only _) : OnlyChanges [.pcu, .gdu, .tau, .svs, .wtb, .chs, .clc, .lkp, .free] _ _).comp
        (windowResult_only _)
    exact (result.comp (modPcu_only _ _) : OnlyChanges [.pcu, .gdu, .tau, .svs, .wtb, .chs, .clc, .lkp, .free] _ _).comp
      (modFree_only _ _)
  · exact .refl _ _

theorem slotStaleExpiry_only (n : SlotIx) :
    OnlyChanges [.gdu, .tau, .wtb, .chs, .clc, .lkp, .free] s (slotStaleExpiry n s) := by
  unfold slotStaleExpiry
  split_ifs
  · exact (modSlot_only s _ _).comp (hand_only (fun b s => takeSlotState_only s n b) _)
  · exact .refl _ _

theorem slotLostExpiry_only (n : SlotIx) :
    OnlyChanges [.gdu, .tau, .wtb, .chs, .clc, .lkp, .free] s (slotLostExpiry n s) := by
  unfold slotLostExpiry
  split_ifs
  · exact (modSlot_only s _ _).comp (hand_only (fun b s => takeSlotState_only s n b) _)
  · exact .refl _ _

theorem judgeBytes_only (b : List Byte) : OnlyChanges [.lkp] s (judgeBytes b s) := by
  unfold judgeBytes
  split_ifs
  · exact .refl _ _
  · exact receiverRefusal_only s _ _ _
  · exact receiverRefusal_only s _ _ _
  · exact modLkp_only s _

theorem idleGap_only : OnlyChanges [.lkp] s (idleGap s) := by
  unfold idleGap
  have ready := modLkp_only s Lkp.rxReady
  dsimp only
  split
  · exact ready
  · exact ready
  · split_ifs
    · exact ready
    · exact ready.trans (judgeBytes_only _ _)
  · split_ifs
    · exact ready
    · exact ready.trans (receiverRefusal_only _ _ _ _)
    · exact ready

theorem serveUnknown_only : OnlyChanges [.lkp] s (serveUnknown s) := by
  unfold serveUnknown
  split
  · split_ifs
    · exact (takeRequest_only s).trans (reply_only _ _ _ _ _)
    · exact .refl _ _
  · exact .refl _ _

/-- The parts a change of the power state may reach. -/
abbrev powerParts : List Part := [.igs, .pcu, .gdu, .tau, .svs, .wtb, .chs, .clc, .lkp, .inputs, .free]

theorem ignitionOn_only : OnlyChanges powerParts s (ignitionOn s) := by
  unfold ignitionOn
  split_ifs
  · have entered : OnlyChanges powerParts s
        (enterRun ((s.modIgs fun g => { g with ign := true }).notify (.power .run .ignOn))) :=
      ((modIgs_only s _).comp (notify_only _ _) : OnlyChanges [.igs, .lkp] _ _).comp (enterRun_only _)
    exact entered.comp (crankIfOn_only _)
  · exact .refl _ _

theorem ignitionOff_only : OnlyChanges powerParts s (ignitionOff s) := by
  unfold ignitionOff
  split_ifs
  · exact .refl _ _
  · exact ((modIgs_only s _).comp (notify_only _ _) : OnlyChanges [.igs, .lkp] _ _).comp (enterParked_only _)

theorem crankOn_only : OnlyChanges powerParts s (crankOn s) := by
  unfold crankOn
  split_ifs
  · exact .refl _ _
  · exact (modIgs_only s _).comp (crankIfOn_only _)

theorem crankOff_only : OnlyChanges powerParts s (crankOff s) := by
  unfold crankOff
  dsimp only
  split_ifs
  · exact ((modIgs_only s _).comp (notify_only _ _) : OnlyChanges [.igs, .lkp] _ _).comp (enterCrank_only _ _)
  · exact (modIgs_only s _).mono (by decide)

theorem runAfterReset_only : OnlyChanges powerParts s (runAfterReset s) := by
  unfold runAfterReset
  split_ifs
  · exact (enterRun_only s).comp (crankIfOn_only _)
  · exact .refl _ _

theorem resetBlocks_only : OnlyChanges powerParts s (resetBlocks s) := by
  intro p h
  cases p <;> first | rfl | exact absurd (by decide) h

theorem keptReset_only (cause : ResetCause) (armed : Bool) (lines : InputLines) :
    OnlyChanges powerParts s (keptReset cause armed lines s) := by
  unfold keptReset
  have blocks : OnlyChanges powerParts s (wtbReset lines
      (((resetBlocks s).modIgs fun _ => Igs.atReset cause lines armed).modInputs (Inputs.atReset lines))) :=
    (((resetBlocks_only s).comp (modIgs_only _ _) : OnlyChanges powerParts _ _).comp (modInputs_only _ _) :
      OnlyChanges powerParts _ _).comp (modWtb_only _ _)
  have evaluated := (blocks.comp (notify_only _ (.power (powerAfter lines) cause.powerCause)) :
    OnlyChanges powerParts _ _).comp (rs := powerParts)
      (ByProducts.evaluateWhere (fun c => c.enabled && c.parkedLive) _).only
  dsimp only
  split_ifs
  · exact (evaluated.comp (coachReset_only _) : OnlyChanges powerParts _ _).trans (runAfterReset_only _)
  · exact evaluated.trans (runAfterReset_only _)

theorem lineReset_only (lines : InputLines) : OnlyChanges powerParts s (lineReset lines s) := by
  unfold lineReset
  split_ifs
  · exact keptReset_only s _ _ _
  · exact .refl _ _

theorem transmissionComplete_only (lines : InputLines) : OnlyChanges powerParts s (transmissionComplete lines s) := by
  unfold transmissionComplete
  split
  · dsimp only
    split_ifs
    · exact (modLkp_only s _).comp (keptReset_only _ _ _ _)
    · exact (modLkp_only s _).mono (by decide)
  · exact .refl _ _
  · exact .refl _ _

/-- The parts a Supply reset may reach. -/
abbrev supplyParts : List Part := .clk :: powerParts

theorem supplied_only (lines : InputLines) :
    OnlyChanges supplyParts s (State.supplied lines s.inputs s.free s.pending) := by
  intro p h
  cases p <;> first | rfl | exact absurd (by decide) h

theorem supplyReset_only (lines : InputLines) : OnlyChanges supplyParts s (supplyReset lines s) :=
  ((supplied_only s lines).comp (notify_only _ _) : OnlyChanges supplyParts _ _).comp (runAfterReset_only _)

theorem losePower_only : OnlyChanges supplyParts s (losePower s) := (supplied_only s _).comp (modIgs_only _ _)

end

/-- The parts that a command may change which is no request row. -/
def otherParts : Instr → List Part
  | .unknownKind | .hostCharacter .. | .idleGap | .gapEnd => [.lkp]
  | .transmissionComplete _ | .lineReset _ | .runEntry | .parkedEntry | .crankOn | .crankOff => powerParts
  | .supplyReset _ | .battBelowRetention => supplyParts
  | .pulseEdge .. | .stallExpiry _ | .windowExpiry _ => [.pcu, .gdu, .tau, .svs, .wtb, .chs, .clc, .lkp, .free]
  | .slotStaleExpiry _ | .slotLostExpiry _ => [.gdu, .tau, .wtb, .chs, .clc, .lkp, .free]
  | .needleStep _ | .homingEnd _ => [.gdu, .lkp]
  | .secondBoundary => [.clk, .tau, .svs, .wtb, .chs, .clc, .lkp, .free]
  | .switchChange _ | .qualifyExpiry _ | .repeatExpiry _ | .segmentEnd | .contention | .backoffExpiry
  | .resettingEnd => [.wtb, .chs, .clc, .lkp]
  | .flashPhase | .bulbCheckEnd => [.wtb]
  | .masterFrameSent | .answerWindowExpiry | .answerCut | .answerComplete => [.tau, .clk, .wtb, .chs, .clc, .lkp]
  | .lineRelease | .roundStart | .answerCharacter .. => [.clc]
  | .sleepStart => [.clc, .free]
  | .resetLineHigh => [.igs]
  | _ => []

theorem otherEffect_only (c : Instr) (s : State) : OnlyChanges (otherParts c) s (otherEffect c s) := by
  cases c
  case unknownKind => exact serveUnknown_only s
  case hostCharacter => exact modLkp_only s _
  case idleGap => exact idleGap_only s
  case transmissionComplete lines => exact transmissionComplete_only s lines
  case gapEnd => exact modLkp_only s _
  case supplyReset lines => exact supplyReset_only s lines
  case battBelowRetention => exact losePower_only s
  case lineReset lines => exact lineReset_only s lines
  case runEntry => exact ignitionOn_only s
  case parkedEntry => exact ignitionOff_only s
  case crankOn => exact crankOn_only s
  case crankOff => exact crankOff_only s
  case pulseEdge ch at10us => exact pulseEdge_only s ch at10us
  case stallExpiry ch => exact stallExpiry_only s ch
  case windowExpiry at10us => exact windowExpiry_only s at10us
  case slotStaleExpiry n => exact slotStaleExpiry_only s n
  case slotLostExpiry n => exact slotLostExpiry_only s n
  case needleStep g => exact needleStep_only s g
  case homingEnd g => exact homingEnd_only s g
  case secondBoundary => exact secondBoundary_only s
  case switchChange n => exact changeSwitch_only n _ s
  case qualifyExpiry w => exact qualifyExpiry_only s w
  case repeatExpiry w => exact repeatExpiry_only s w
  case flashPhase => exact modWtb_only s _
  case bulbCheckEnd => exact modWtb_only s _
  case segmentEnd => exact (ByProducts.segmentEnd s).only
  case masterFrameSent => exact masterFrameSent_only s
  case answerWindowExpiry => exact answerWindowExpiry_only s
  case answerCut => exact answerCut_only s
  case answerComplete => exact answerDone_only s
  case contention => exact contention_only s
  case backoffExpiry => exact backoffExpiry_only s
  case lineRelease => exact lineRelease_only s
  case resettingEnd => exact resettingEnd_only s
  case roundStart => exact roundExpiry_only s
  case sleepStart => exact sleepStart_only s
  case answerCharacter value mark error => exact answerCharacter_only s _
  case resetLineHigh => exact modIgs_only s _
  all_goals exact .refl _ _

/-! ## Steps -/

/-- What a step does: the next tick with no command waiting, else the event of the front command on the queue's rest
(log 1, log 2). -/
theorem step_cases {s t : State} (stepped : step s = .next t) :
    t = nextTick s ∨ ∃ c rest, s.pending = c :: rest ∧ exec c { s with pending := rest } = .next t := by
  unfold step at stepped
  split at stepped
  case h_1 => exact .inl (Host.Outcome.next.inj stepped).symm
  case h_2 c rest waiting => exact .inr ⟨c, rest, waiting, stepped⟩

/-- A property that the queue, the ticks, the end of an event and the effect of every command keep is kept by every
step. -/
theorem step_keeps {P : State → Prop} (queue : ∀ s rest, P s → P { s with pending := rest })
    (tick : ∀ s, P s → P (nextTick s)) (settled : ∀ s, P s → P (settle s))
    (row : ∀ (k : ReqKind) s, P s → P (serve k k.owner s))
    (other : ∀ c s, P s → P (otherEffect c s)) {s t : State} (before : P s) (stepped : step s = .next t) : P t := by
  have event : ∀ {f : State → State} {u v : State}, (P u → P (f u)) → P u → takeEvent f u = .next v → P v := by
    intro f u v keeps ok taken
    rw [takeEvent_next] at taken
    cases taken
    split_ifs
    · exact settled _ (keeps ok)
    · exact ok
  rcases step_cases stepped with rfl | ⟨c, rest, -, ran⟩
  · exact tick s before
  · have ready := queue s rest before
    rcases exec_cases c { s with pending := rest } with ⟨k, rfl⟩ | ⟨lines, rfl⟩ | ⟨eq, -⟩
    · rw [exec_row] at ran
      exact event (row k _) ready ran
    · cases ran
      exact settled _ (other (.supplyReset lines) _ ready)
    · rw [eq] at ran
      exact event (other c _) ready ran

end Sys2Proof.Machine
end

section
/-! Steps, the dispatcher and the reset: what a step takes, that every command answers a next state, when the dispatcher
waits or refuses, and the invariants right after reset (R168, R185, log 1, log 2, log 6, log 7, log 16). -/

namespace Sys2Proof.Machine

-- One theorem at a time, so that a build as one text needs few threads.
set_option Elab.async false

/-! ## Steps -/

theorem takeTick_clock (raw : RawLines) (s : State) : (takeTick raw s).inputs.ticks = s.inputs.ticks ∧
    (takeTick raw s).inputs.now = s.inputs.now + 1 ∧ (takeTick raw s).inputs.raw = raw := by
  unfold takeTick
  dsimp only
  split_ifs <;> exact ⟨rfl, rfl, rfl⟩

/-- Settles O1: the front command, else the oldest tick, else nothing. -/
theorem stepRunsFrontCommand : Obligations.StepRunsFrontCommand := by
  unfold Obligations.StepRunsFrontCommand
  refine ⟨fun _ _ _ => rfl, fun s empty idle => ?_, fun raw rest s empty waiting => ?_⟩
  · rw [step_empty empty, nextTick, idle]
  · obtain ⟨ticks, now, level⟩ := takeTick_clock raw (s.modInputs fun x => { x with ticks := rest })
    refine ⟨nextTick s, step_empty empty, nextTick_only s, ?_⟩
    rw [nextTick, waiting]
    exact ⟨ticks, now, level⟩

/-! ## Every command answers -/

theorem OnlyChanges.pending_eq {ps : List Part} {s t : State} (h : OnlyChanges ps s t) (hp : Part.pending ∉ ps) :
    t.pending = s.pending := h .pending hp

theorem pending_not_mem_row (k : ReqKind) : Part.pending ∉ Part.lkp :: k.parts := by cases k <;> decide

theorem pending_not_mem_other (c : Instr) : Part.pending ∉ otherParts c := by
  cases c <;> simp [otherParts, powerParts, supplyParts]

theorem settle_pending (s : State) : (settle s).pending = s.pending := (settle_only s).pending_eq (by decide)

/-- An event answers a next state, and without supply it changes nothing (R168, log 16). -/
theorem takeEvent_answers {f : State → State} {s : State} (queue : (f s).pending = s.pending) :
    ∃ t, takeEvent f s = .next t ∧ t.pending = s.pending ∧ (s.igs.supplied = false → t = s) := by
  cases supplied : s.igs.supplied
  · exact ⟨s, takeEvent_unsupplied supplied, rfl, fun _ => rfl⟩
  · exact ⟨_, takeEvent_supplied supplied, (settle_pending _).trans queue, nofun⟩

/-- Settles O2: every command is an event or the Supply reset. -/
theorem everyCommandAnswersNext : Obligations.EveryCommandAnswersNext := by
  unfold Obligations.EveryCommandAnswersNext
  intro c s
  rcases exec_cases c s with ⟨k, rfl⟩ | ⟨lines, rfl⟩ | ⟨eq, -⟩
  · rw [exec_row]
    obtain ⟨t, next, queue, stopped⟩ := takeEvent_answers (f := serve k k.owner)
      ((serve_only k s).pending_eq (pending_not_mem_row k))
    exact ⟨t, next, queue, fun off _ => stopped off⟩
  · exact ⟨_, rfl, (settle_pending _).trans ((supplyReset_only s lines).pending_eq (by decide)),
      fun _ other => absurd rfl (other lines)⟩
  · rw [eq]
    obtain ⟨t, next, queue, stopped⟩ := takeEvent_answers ((otherEffect_only c s).pending_eq (pending_not_mem_other c))
    exact ⟨t, next, queue, fun off _ => stopped off⟩

/-! ## The dispatcher -/

theorem Lkp.hasRoom_iff (l : Lkp) (kind : Byte) : l.hasRoom kind = true ↔
    if kind = 0x03 then l.ordinaryHeld = 0
    else if kind = 0x39 then l.ordinaryHeld < 2 ∧ ∀ r ∈ l.replies, r.entry ≠ .reserved
    else l.ordinaryHeld < 2 := by
  have free : l.reservedFree = true ↔ ∀ r ∈ l.replies, r.entry ≠ .reserved := by
    rw [Lkp.reservedFree, List.all_eq_true]
    refine forall₂_congr fun r _ => ?_
    cases r.entry <;> simp
  change (if kind = 0x03 then decide (l.ordinaryHeld = 0)
    else if kind = 0x39 then decide (l.ordinaryHeld < 2) && l.reservedFree
    else decide (l.ordinaryHeld < 2)) = true ↔ _
  split_ifs <;> simp [free]

/-- The dispatcher serves no request unless the oldest is of the kind and finds room (R185). -/
theorem serve_waits {k : ReqKind} {s : State} {owner : Request → State → State × Response}
    (supplied : s.igs.supplied = true) (none : ¬ ∃ tag body, Serves k tag body s) : serve k owner s = s := by
  unfold serve
  split
  case h_1 r rest waiting =>
    refine if_neg fun ⟨kind, room⟩ => none ⟨r.tag, r.body, supplied, ?_, kind ▸ room⟩
    rw [waiting, ← kind]
    rfl
  case h_2 => rfl

theorem isRequestKind_eq_false {kind : Byte} : isRequestKind kind = false ↔ ∀ k : ReqKind, kind ≠ k.code := by
  have all : ∀ k : ReqKind, k ∈ ReqKind.all := by intro k; cases k <;> decide
  simp only [isRequestKind, List.any_eq_false, decide_eq_true_eq]
  exact ⟨fun h k eq => h k (all k) eq.symm, fun h k _ eq => h k eq.symm⟩

theorem serveUnknown_waits {s : State} (supplied : s.igs.supplied = true)
    (none : ¬ ∃ kind tag body, ServesKind kind tag body s ∧ ∀ k : ReqKind, kind ≠ k.code) : serveUnknown s = s := by
  unfold serveUnknown
  split
  case h_1 r rest waiting =>
    refine if_neg fun ⟨kind, room⟩ => none ⟨r.kind, r.tag, r.body, ⟨supplied, ?_, room⟩, isRequestKind_eq_false.mp kind⟩
    rw [waiting]
    rfl
  case h_2 => rfl

theorem exec_unknownKind {s : State} (supplied : s.igs.supplied = true) :
    exec .unknownKind s = .next (settle (serveUnknown s)) := takeEvent_supplied supplied

theorem serveUnknown_refuses {kind tag : Byte} {body : List Byte} {s : State} (serves : ServesKind kind tag body s)
    (unknown : ∀ k : ReqKind, kind ≠ k.code) :
    serveUnknown s = (takeRequest s).reply .ordinary kind tag (.refuse .unknown) := by
  obtain ⟨-, oldest, room⟩ := serves
  obtain ⟨rest, waiting⟩ := List.head?_eq_some_iff.mp oldest
  rw [serveUnknown, waiting]
  exact if_pos ⟨isRequestKind_eq_false.mpr unknown, room⟩

/-- Settles O4: the room of R185, the requests that wait, and the two refusals of the dispatcher itself. -/
theorem dispatcherWaitsOrRefuses : Obligations.DispatcherWaitsOrRefuses := by
  unfold Obligations.DispatcherWaitsOrRefuses
  refine ⟨Lkp.hasRoom_iff, ⟨fun k s supplied none => ?_, fun s supplied none => ?_⟩,
    fun kind tag body s serves unknown => ?_, fun k tag body s serves wrong => ?_⟩
  · rw [exec_row, takeEvent_supplied supplied, serve_waits supplied none]
  · rw [exec_unknownKind supplied, serveUnknown_waits supplied none]
  · rw [exec_unknownKind serves.1, serveUnknown_refuses serves unknown, turnedDown]
  · rw [exec_row]
    exact served_wrongLength serves wrong

/-! ## The reset -/

/-- Settles O5: State.reset is one state, so its invariants are evaluated. -/
theorem resetMeetsInvariants : Obligations.ResetMeetsInvariants := by
  unfold Obligations.ResetMeetsInvariants
  refine ⟨by decide +kernel, by decide +kernel, by decide +kernel, by decide +kernel, by decide +kernel,
    by decide +kernel, by decide +kernel, by decide +kernel, by decide +kernel, by decide +kernel, by decide +kernel,
    by decide +kernel, by decide +kernel, ⟨by decide +kernel, by decide +kernel, by decide +kernel, by decide +kernel⟩,
    by decide +kernel, by decide +kernel, by decide +kernel⟩

end Sys2Proof.Machine
end

section
/-! The end of an event: what the arbiter, the sealing of the replies and the transmitter leave as it is, and where the
replies of an event stand (R150, R187, R188, R191, R192, log 8). -/

namespace Sys2Proof.Machine

-- One theorem at a time, so that a build as one text needs few threads.
set_option Elab.async false

/-! ## What the arbiter leaves -/

/-- Between two states only the Coach Line's waiting work differs, and replies to pass-throughs have been placed. -/
structure TakesUpWork (s t : State) : Prop where
  clc : { t.clc with nodes := s.clc.nodes, mirrorQueue := s.clc.mirrorQueue, txn := s.clc.txn, retry := s.clc.retry,
                     pass := s.clc.pass } = s.clc
  nodes : ∀ n : NodeIx, { t.clc.nodes[n] with due := false } = { s.clc.nodes[n] with due := false }
  replies : ∃ more, t.lkp = { s.lkp with replies := s.lkp.replies ++ more } ∧ ∀ r ∈ more, r.entry = .reserved

namespace TakesUpWork
variable {s t u : State}

theorem refl (s : State) : TakesUpWork s s := ⟨rfl, fun _ => rfl, [], by simp, by simp⟩

theorem trans (h : TakesUpWork s t) (k : TakesUpWork t u) : TakesUpWork s u where
  clc := by
    have first := h.clc
    rw [← k.clc] at first
    exact first
  nodes n := (k.nodes n).trans (h.nodes n)
  replies := by
    obtain ⟨more, placed, reserved⟩ := h.replies
    obtain ⟨more', placed', reserved'⟩ := k.replies
    refine ⟨more ++ more', by rw [placed', placed, List.append_assoc], fun r mem => ?_⟩
    exact (List.mem_append.mp mem).elim (reserved r) (reserved' r)

/-- A change of the Coach Line that keeps all but its waiting work. -/
theorem modClc {f : Clc → Clc}
    (keeps : { f s.clc with nodes := s.clc.nodes, mirrorQueue := s.clc.mirrorQueue, txn := s.clc.txn,
                            retry := s.clc.retry, pass := s.clc.pass } = s.clc)
    (nodes : ∀ n : NodeIx, { (f s.clc).nodes[n] with due := false } = { s.clc.nodes[n] with due := false }) :
    TakesUpWork s (s.modClc f) := ⟨keeps, nodes, [], by simp, by simp⟩

theorem startTxn (k : TxnKind) (s : State) : TakesUpWork s (Machine.startTxn k s) :=
  ⟨rfl, fun _ => rfl, [], by simp [Machine.startTxn], by simp⟩

theorem endPass (resp : Response) (s : State) : TakesUpWork s (Machine.endPass resp s) := by
  unfold Machine.endPass
  split
  case h_1 p held =>
    refine (modClc (f := fun c => { c with pass := none }) rfl fun _ => rfl).trans ?_
    unfold State.reply
    split
    case h_1 r placed =>
      refine ⟨rfl, fun _ => rfl, [r], rfl, fun x mem => ?_⟩
      rw [List.mem_singleton.mp mem]
      cases resp <;> simp only [replyOf, reduceCtorEq, Option.some.injEq] at placed <;> rw [← placed]
    case h_2 => exact refl _
  case h_2 => exact refl s

theorem chooseWork (s : State) : TakesUpWork s (Machine.chooseWork s) := by
  unfold Machine.chooseWork
  split
  case h_1 n _ _ =>
    refine .trans ?_ (startTxn _ _)
    refine modClc rfl fun m => ?_
    dsimp only
    rw [updAt_get]
    split_ifs with same
    · subst same; rfl
    · rfl
  case h_2 rest _ _ =>
    exact (modClc (f := fun c => { c with mirrorQueue := rest }) rfl fun _ => rfl).trans (startTxn _ _)
  case h_3 => exact refl s

theorem startPass (n : NodeIx) (s : State) : TakesUpWork s (Machine.startPass n s) := by
  unfold Machine.startPass
  split_ifs
  · exact (modClc rfl fun _ => rfl).trans (startTxn _ _)
  · exact (endPass _ s).trans (chooseWork _)

theorem arbiter (s : State) : TakesUpWork s (Machine.arbiter s) := by
  have dropped : TakesUpWork s (s.modClc fun c => { c with retry := none }) := modClc rfl fun _ => rfl
  unfold Machine.arbiter
  split_ifs
  · split
    · exact dropped.trans (startPass _ _)
    · exact dropped.trans (startTxn _ _)
    · split
      · split_ifs
        · split
          · exact startPass _ s
          · exact (endPass _ s).trans (chooseWork _)
        · exact chooseWork s
      · exact chooseWork s
  · exact refl s

end TakesUpWork

/-! ## The sealing and the transmitter -/

section
variable (s : State)

theorem sealReplies_lkp : (sealReplies s).lkp = { s.lkp with replies := s.lkp.replies.map fun r =>
    { r with sealed := match r.sealed with | some f => some f | none => some (sealNow s) } } := rfl

/-- The transmitter takes at most the head notice out of its queue. -/
theorem startTransmitter_lkp :
    { (startTransmitter s).lkp with notices := s.lkp.notices, tx := s.lkp.tx } = s.lkp ∧
      ((startTransmitter s).lkp.notices = s.lkp.notices ∨ (startTransmitter s).lkp.notices = s.lkp.notices.tail) := by
  unfold startTransmitter
  split_ifs
  · split
    · exact ⟨rfl, .inl rfl⟩
    · rename_i notices
      exact ⟨rfl, .inr (by rw [notices]; rfl)⟩
    · exact ⟨rfl, .inl rfl⟩
  · exact ⟨rfl, .inl rfl⟩

theorem startTransmitter_replies : (startTransmitter s).lkp.replies = s.lkp.replies := by
  unfold startTransmitter
  split_ifs
  · split <;> rfl
  · rfl

@[simp] theorem settle_clc : (settle s).clc = (arbiter s).clc :=
  ((startTransmitter_only _) .clc (by decide)).trans ((sealReplies_only (arbiter s)) .clc (by decide))

theorem settle_replies : (settle s).lkp.replies = (sealReplies (arbiter s)).lkp.replies := startTransmitter_replies _

/-- The end of an event keeps all of the Link Port but the replies, the notices and the transmitter. -/
theorem settle_lkp : { (settle s).lkp with replies := s.lkp.replies, notices := s.lkp.notices, tx := s.lkp.tx } = s.lkp ∧
    ((settle s).lkp.notices = s.lkp.notices ∨ (settle s).lkp.notices = s.lkp.notices.tail) := by
  obtain ⟨more, placed, -⟩ := (TakesUpWork.arbiter s).replies
  obtain ⟨frame, notices⟩ := startTransmitter_lkp (sealReplies (arbiter s))
  rw [sealReplies_lkp, placed] at frame notices
  refine ⟨?_, notices⟩
  have := congrArg (fun l : Lkp => { l with replies := s.lkp.replies }) frame
  exact this

/-- The arbiter does nothing while the line is not free (R150). -/
theorem arbiter_of_busy {s : State} (busy : s.clc.lineFree = false) : arbiter s = s := by simp [arbiter, busy]

theorem settle_only_of_busy {s : State} (busy : s.clc.lineFree = false) : OnlyChanges [.lkp] s (settle s) := by
  rw [settle, arbiter_of_busy busy]
  exact (sealReplies_only s).trans (startTransmitter_only _)

/-- The replies after an event are those before its end, with only replies to a pass-through behind them. -/
theorem settle_contents : ∃ more, (settle s).lkp.replies.map Reply.content = s.lkp.replies.map Reply.content ++ more ∧
    ∀ x ∈ more, x.1 = .reserved := by
  obtain ⟨more, placed, reserved⟩ := (TakesUpWork.arbiter s).replies
  refine ⟨more.map Reply.content, ?_, fun x mem => ?_⟩
  · rw [settle_replies, sealReplies_lkp, placed, ← List.map_append, List.map_map]
    rfl
  · obtain ⟨r, stands, rfl⟩ := List.mem_map.mp mem
    exact reserved r stands

/-- A reply placed last before the end of the event stands behind those that wait (R187). -/
theorem settle_reply_contents {r : Reply} {entry : ReplyEntry} {kind tag : Byte} {resp : Response}
    (placed : replyOf entry kind tag resp = some r) :
    ∃ more, (settle (s.reply entry kind tag resp)).lkp.replies.map Reply.content =
      s.lkp.replies.map Reply.content ++ r.content :: more ∧ ∀ x ∈ more, x.1 = .reserved := by
  obtain ⟨more, contents, reserved⟩ := settle_contents (s.reply entry kind tag resp)
  refine ⟨more, ?_, reserved⟩
  rw [contents, State.reply, placed]
  simp

/-- The status byte as the end of the event leaves what it is made of (R192). -/
theorem statusByte_settle (held : Bool) : statusByte (settle s).lkp held = statusByte (arbiter s).lkp held := by
  obtain ⟨frame, -⟩ := startTransmitter_lkp (sealReplies (arbiter s))
  have same := congrArg (statusByte · held) frame
  exact same

theorem settle_seals {s : State} {i : Nat} {r : Reply} (waits : s.lkp.replies[i]? = some r) (fresh : r.sealed = none) :
    ∃ x, (settle s).lkp.replies[i]? = some x ∧
      x.sealed.map (fun f => f.status) = some (statusByte (settle s).lkp (settle s).clc.pass.isSome) := by
  obtain ⟨more, placed, -⟩ := (TakesUpWork.arbiter s).replies
  have stands : (arbiter s).lkp.replies[i]? = some r := by
    rw [placed, List.getElem?_append_left (List.getElem?_eq_some_iff.mp waits).1, waits]
  refine ⟨{ r with sealed := some (sealNow (arbiter s)) }, ?_, ?_⟩
  · rw [settle_replies, sealReplies_lkp, List.getElem?_map, stands]
    simp [fresh]
  · rw [statusByte_settle, settle_clc]
    rfl

end

/-- Settles O3: the arbiter takes up work alone, the sealing and the transmitter keep the replies' contents. -/
theorem eventsEnd : Obligations.EventsEnd := by
  unfold Obligations.EventsEnd
  refine ⟨fun s => ⟨settle_only s, settle_only_of_busy, ?_, ?_, settle_lkp s⟩,
    fun kind tag s => ⟨fun fields => settle_reply_contents s (resp := .answer fields) rfl, fun reason => settle_reply_contents s (resp := .refuse reason) rfl,
      fun i r => settle_seals⟩⟩
  · rw [settle_clc]
    exact (TakesUpWork.arbiter s).clc
  · rw [settle_clc]
    exact (TakesUpWork.arbiter s).nodes

end Sys2Proof.Machine
end

section
/-! Properties that operations keep: how they compose, what reads none of the changed parts, and what is enough for a
property to be kept by every step. -/

namespace Sys2Proof.Machine

-- One theorem at a time, so that a build as one text needs few threads.
set_option Elab.async false

/-- A property that holds of one state holds of another one reached from it. -/
def Keeps (P : State → Prop) (s t : State) : Prop := P s → P t

/-- A property that depends on the listed parts alone. -/
def Reads (ps : List Part) (P : State → Prop) : Prop := ∀ s t : State, (∀ p ∈ ps, p.Same s t) → P s → P t

namespace Keeps
variable {P Q : State → Prop} {s t u : State}

theorem refl (s : State) : Keeps P s s := id

theorem trans (h : Keeps P s t) (k : Keeps P t u) : Keeps P s u := k ∘ h

/-- What changes other parts than a property reads keeps it. -/
theorem of_only {ps qs : List Part} (reads : Reads ps P) (only : OnlyChanges qs s t)
    (apart : ∀ p ∈ ps, p ∉ qs := by decide) : Keeps P s t := fun ok => reads s t (fun p mem => only p (apart p mem)) ok

theorem of_holds (holds : P t) : Keeps P s t := fun _ => holds

/-- What keeps a property where the property holds already keeps it. -/
theorem of_imp (h : P s → Keeps P s t) : Keeps P s t := fun ok => h ok ok

theorem and (h : Keeps P s t) (k : Keeps Q s t) : Keeps (fun s => P s ∧ Q s) s t := fun ⟨p, q⟩ => ⟨h p, k q⟩

theorem foldl {α : Type} {f : State → α → State} (h : ∀ s a, Keeps P s (f s a)) (l : List α) (s : State) :
    Keeps P s (l.foldl f s) := by
  induction l generalizing s with
  | nil => exact refl s
  | cons a l ih => exact (h s a).trans (ih _)

theorem eachIx {n : Nat} {f : Fin n → State → State} (h : ∀ i s, Keeps P s (f i s)) (s : State) :
    Keeps P s (Machine.eachIx n f s) := foldl (fun s i => h i s) _ s

/-- A handing keeps what each of its takers keeps, in whatever order they take it. -/
theorem hand {ps : List Part} (reads : Reads ps P) {targets : List Block} {take : Block → State → State}
    (h : ∀ b ∈ targets, ∀ s, Keeps P s (take b s)) (s : State) (apart : ∀ p ∈ ps, p ∉ [Part.free] := by decide) :
    Keeps P s (Machine.hand targets take s) := by
  intro ok
  have drawn : P (s.modFree fun v => { v with orders := v.orders.tail }) := of_only reads (modFree_only s _) apart ok
  refine List.foldlRecOn (motive := fun t => P t) _ _ drawn fun t kept b mem => h b ?_ t kept
  simpa using (List.mem_filter.mp mem).2

theorem ranged {α : Type} {fields : Option α} {f : α → State → State × Response}
    (h : ∀ a, fields = some a → Keeps P s (f a s).1) : Keeps P s (Machine.ranged fields f s).1 := by
  unfold Machine.ranged
  split
  · exact h _ rfl
  · exact refl s

/-- The dispatcher keeps what the owners keep, where the Link Port plays no part. -/
theorem serve {ps : List Part} (reads : Reads ps P) {k : ReqKind} {owner : Request → State → State × Response}
    (h : ∀ r s, Keeps P s (owner r s).1) (s : State) (apart : ∀ p ∈ ps, p ∉ [Part.lkp] := by decide) :
    Keeps P s (Machine.serve k owner s) := by
  unfold Machine.serve
  split
  · split_ifs
    · exact ((of_only reads (takeRequest_only s) apart).trans (h _ _)).trans
        (of_only reads (reply_only _ _ _ _ _) apart)
    · exact (of_only reads (takeRequest_only s) apart).trans (of_only reads (reply_only _ _ _ _ _) apart)
    · exact refl s
  · exact refl s

end Keeps

/-- A property of the blocks apart from the Coach Line and the Link Port is kept by every step when the owners of the
requests and the other commands keep it. -/
theorem step_keeps_blocks {P : State → Prop} {ps : List Part} (reads : Reads ps P)
    (owner : ∀ (k : ReqKind) r s, Keeps P s (k.owner r s).1) (other : ∀ c s, Keeps P s (otherEffect c s))
    {s t : State} (before : P s) (stepped : step s = .next t)
    (apart : ∀ p ∈ ps, p ∉ [Part.clc, .lkp, .free, .inputs, .pending] := by decide) : P t := by
  have away : ∀ {qs : List Part}, qs ⊆ [Part.clc, .lkp, .free, .inputs, .pending] → ∀ p ∈ ps, p ∉ qs :=
    fun sub p mem memQ => apart p mem (sub memQ)
  refine step_keeps (fun s rest ok => reads s _ (fun p mem => ?_) ok)
    (fun s => Keeps.of_only reads (nextTick_only s) (away (by decide)))
    (fun s => Keeps.of_only reads (settle_only s) (away (by decide)))
    (fun k s => Keeps.serve reads (fun r s => owner k r s) s (away (by decide))) other before stepped
  have := apart p mem
  cases p <;> first | rfl | simp at this

/-! ## Which parts each block's taking may change -/

section
variable (s : State)

/-- The parts that a block may change when it takes a change of a channel's state. -/
def channelParts : Block → List Part
  | .gdu => [.gdu]
  | .wtb => [.wtb, .chs, .clc, .lkp]
  | .tau => [.tau]
  | .svs => [.svs]
  | .clc => [.clc]
  | .pcu | .clk | .chs | .lkp => []

theorem takeChannel_parts (ch : ChannelIx) (st : ChannelState) (engine road : Bool) (b : Block) :
    OnlyChanges (channelParts b) s (takeChannel ch st engine road b s) := by
  cases b
  case gdu => exact gduChannel_only s _ _
  case wtb => exact wtbChannel_only s _ _ _ _
  case tau => exact (tauEngine_only s _).trans (tauRoadLive_only _ _)
  case svs => exact modSvs_only s _
  case clc => exact clcRoadLive_only s _
  all_goals exact .refl _ _

/-- The parts that a block may change when it takes a change of road source LIVE. -/
def roadLiveParts : Block → List Part
  | .wtb => [.wtb, .chs, .clc, .lkp]
  | .tau => [.tau]
  | .svs => [.svs]
  | .clc => [.clc]
  | .gdu | .pcu | .clk | .chs | .lkp => []

theorem takeRoadLive_parts (road : Bool) (b : Block) : OnlyChanges (roadLiveParts b) s (takeRoadLive road b s) := by
  cases b
  case wtb => exact wtbRoadLive_only s _
  case tau => exact tauRoadLive_only s _
  case svs => exact modSvs_only s _
  case clc => exact clcRoadLive_only s _
  all_goals exact .refl _ _

/-- The parts that a block may change when it takes a window result. -/
def windowParts : Block → List Part
  | .gdu => [.gdu]
  | .wtb => [.wtb, .chs, .clc, .lkp]
  | .tau => [.tau]
  | .clc => [.clc]
  | .pcu | .clk | .chs | .svs | .lkp => []

theorem takeWindow_parts (snap : Snapshot) (b : Block) : OnlyChanges (windowParts b) s (takeWindow snap b s) := by
  cases b
  case gdu => exact gduWindow_only s _
  case wtb => exact wtbWindow_only s _
  case tau => exact tauWindow_only s _
  case clc => exact (modClc_only s _).trans (mark_only _ _)
  all_goals exact .refl _ _

/-- The parts that a block may change when it takes a report to a slot or a change of a slot's state. -/
def slotParts : Block → List Part
  | .gdu => [.gdu]
  | .tau => [.gdu, .tau, .wtb, .chs, .clc, .lkp]
  | .wtb => [.wtb, .chs, .clc, .lkp]
  | .clc => [.clc]
  | .pcu | .clk | .chs | .svs | .lkp => []

theorem takeReport_parts (n : SlotIx) (b : Block) : OnlyChanges (slotParts b) s (takeReport n b s) := by
  cases b
  case gdu => exact gduReport_only s _
  case tau => exact tauReport_only s _
  case wtb => exact wtbSlot_only s _ _ _
  case clc => exact clcSlot_only s _
  all_goals exact .refl _ _

theorem takeSlotState_parts (n : SlotIx) (b : Block) : OnlyChanges (slotParts b) s (takeSlotState n b s) := by
  cases b
  case gdu => exact gduSlotState_only s _
  case tau => exact (tauSlotState_only s _).mono (by decide)
  case wtb => exact wtbSlot_only s _ _ _
  case clc => exact clcSlot_only s _
  all_goals exact .refl _ _

/-- The parts that a block may change when it takes a second boundary. -/
def secondParts : Block → List Part
  | .tau => [.tau, .svs, .wtb, .chs, .clc, .lkp]
  | .clk => [.clk, .wtb, .chs, .clc, .lkp]
  | .clc => [.clc]
  | .svs => [.svs, .wtb, .chs, .clc, .lkp]
  | .wtb => [.wtb, .chs, .clc, .lkp]
  | .lkp => [.lkp]
  | .pcu | .gdu | .chs => []

theorem takeSecond_parts (t : ClockTime) (st : ClockState) (rollover : Bool) (b : Block) :
    OnlyChanges (secondParts b) s (takeSecond t st rollover b s) := by
  cases b <;> unfold takeSecond <;> dsimp only [secondParts]
  case tau => exact tauSecond_only s
  case clk =>
    split_ifs
    · exact testAlarms_only s t
    · exact .refl _ _
  case clc =>
    split_ifs
    · exact mark_only s _
    · exact .refl _ _
  case svs =>
    split_ifs
    · exact countItems_only s _
    · exact .refl _ _
  case wtb =>
    split_ifs
    · exact wtbClock_only s _
    · exact .refl _ _
  case lkp =>
    split_ifs
    · exact modLkp_only s _
    · exact .refl _ _
  all_goals exact .refl _ _

/-- The parts that a block may change when it takes Run entry, Parked entry or a passage between RUN and CRANK. -/
def entryParts : Block → List Part
  | .pcu => [.pcu, .gdu, .tau, .svs, .wtb, .chs, .clc, .lkp, .inputs, .free]
  | .gdu => [.gdu, .lkp]
  | .tau => [.tau]
  | .clk => []
  | .wtb => [.wtb, .chs, .clc, .lkp]
  | .chs => [.chs, .clc]
  | .svs => [.svs]
  | .clc => [.wtb, .chs, .clc, .lkp]
  | .lkp => [.lkp]

theorem takeRunEntry_parts (b : Block) : OnlyChanges (entryParts b) s (takeRunEntry b s) := by
  cases b
  case pcu => exact pcuRunEntry_only s
  case gdu => exact (gduRunEntry_only s).mono (by decide)
  case tau => exact tauPower_only s _
  case clk => exact .refl _ _
  case wtb => exact wtbRunEntry_only s
  case chs => exact chsPower_only s _
  case svs => exact modSvs_only s _
  case clc =>
    exact ((modClc_only s fun c => { c with power := .run }).comp (coachReset_only _) :
      OnlyChanges [.wtb, .chs, .clc, .lkp] s (clcRunEntry s))
  case lkp => exact modLkp_only s _

theorem takeParkedEntry_parts (b : Block) : OnlyChanges (entryParts b) s (takeParkedEntry b s) := by
  cases b
  case pcu => exact (pcuParkedEntry_only s).mono (by decide)
  case gdu => exact gduParkedEntry_only s
  case tau => exact tauPower_only s _
  case clk => exact .refl _ _
  case wtb => exact wtbParkedEntry_only s
  case chs => exact chsPower_only s _
  case svs => exact modSvs_only s _
  case clc => exact clcParkedEntry_only s
  case lkp => exact modLkp_only s _

theorem takeCrank_parts (p : PowerState) (b : Block) : OnlyChanges (entryParts b) s (takeCrank p b s) := by
  cases b
  case pcu => exact (modPcu_only s _).mono (by decide)
  case gdu => exact (gduCrank_only s _).mono (by decide)
  case tau => exact tauPower_only s _
  case clk => exact .refl _ _
  case wtb => exact wtbCrank_only s _
  case chs => exact chsPower_only s _
  case svs => exact modSvs_only s _
  case clc => exact (modClc_only s _).mono (by decide)
  case lkp => exact modLkp_only s _

end

/-! ## Power states and resets -/

/-- A Line or Restart reset of every block, before its POWER notice and the evaluation of the entries (R175, R176). -/
def resetAll (cause : ResetCause) (armed : Bool) (lines : InputLines) (s : State) : State :=
  wtbReset lines (((resetBlocks s).modIgs fun _ => Igs.atReset cause lines armed).modInputs (Inputs.atReset lines))

theorem keptReset_eq (cause : ResetCause) (armed : Bool) (lines : InputLines) (s : State) :
    keptReset cause armed lines s =
      let evaluated := evaluateWhere (fun c => c.enabled && c.parkedLive)
        ((resetAll cause armed lines s).notify (.power (powerAfter lines) cause.powerCause))
      runAfterReset (if evaluated.igs.ign then coachReset evaluated else evaluated) := by
  unfold keptReset resetAll
  rfl

/-- The commands that change the power state or reset the part. -/
def isPowerCommand : Instr → Bool
  | .transmissionComplete _ | .supplyReset _ | .battBelowRetention | .lineReset _ | .runEntry | .parkedEntry | .crankOn
  | .crankOff => true
  | _ => false

/-- What is enough for a property to be kept by every change of the power state and every reset. -/
structure KeepsPower (P : State → Prop) : Prop where
  igs : ∀ s f, Keeps P s (s.modIgs f)
  free : ∀ s f, Keeps P s (s.modFree f)
  notify : ∀ s n, Keeps P s (s.notify n)
  sent : ∀ s f, Keeps P s (s.modLkp (Lkp.frameSent f))
  run : ∀ b s, Keeps P s (takeRunEntry b s)
  parked : ∀ b s, Keeps P s (takeParkedEntry b s)
  crank : ∀ p b s, p ≠ .parked → Keeps P s (takeCrank p b s)
  coach : ∀ s, Keeps P s (coachReset s)
  evaluate : ∀ test s, Keeps P s (evaluateWhere test s)
  reset : ∀ cause armed lines s, Keeps P s (resetAll cause armed lines s)
  supplied : ∀ (lines : InputLines) (s : State), P (State.supplied lines s.inputs s.free s.pending)

namespace KeepsPower
variable {P : State → Prop} (h : KeepsPower P) {s : State}
include h

theorem hand {targets : List Block} {take : Block → State → State} (takes : ∀ b s, Keeps P s (take b s)) :
    Keeps P s (Machine.hand targets take s) :=
  (h.free s _).trans (.foldl (fun s b => takes b s) _ _)

theorem enterRun : Keeps P s (Machine.enterRun s) := (h.igs s _).trans (h.hand h.run)

theorem enterCrank {p : PowerState} (runs : p ≠ .parked) : Keeps P s (Machine.enterCrank p s) :=
  (h.igs s _).trans (h.hand fun b u => h.crank p b u runs)

theorem crankIfOn : Keeps P s (Machine.crankIfOn s) := by
  unfold Machine.crankIfOn
  split_ifs
  · exact (h.notify s _).trans (h.enterCrank nofun)
  · exact .refl s

theorem runAfterReset : Keeps P s (Machine.runAfterReset s) := by
  unfold Machine.runAfterReset
  split_ifs
  · exact h.enterRun.trans h.crankIfOn
  · exact .refl s

theorem keptReset (cause : ResetCause) (armed : Bool) (lines : InputLines) :
    Keeps P s (Machine.keptReset cause armed lines s) := by
  rw [keptReset_eq]
  refine (((h.reset cause armed lines s).trans (h.notify _ (.power (powerAfter lines) cause.powerCause))).trans
    (h.evaluate (fun c => c.enabled && c.parkedLive) _)).trans ?_
  dsimp only
  split_ifs
  · exact (h.coach _).trans h.runAfterReset
  · exact h.runAfterReset

/-- Every command that changes the power state or resets the part keeps such a property. -/
theorem effect {c : Instr} (power : isPowerCommand c = true) : Keeps P s (otherEffect c s) := by
  cases c
  case transmissionComplete lines =>
    show Keeps P s (Machine.transmissionComplete lines s)
    unfold Machine.transmissionComplete
    split
    · dsimp only
      split_ifs
      · exact (h.sent s _).trans (h.keptReset _ _ _)
      · exact h.sent s _
    · exact .refl s
    · exact .refl s
  case supplyReset lines => exact (Keeps.of_holds (h.supplied lines s)).trans ((h.notify _ _).trans h.runAfterReset)
  case battBelowRetention =>
    exact (Keeps.of_holds (h.supplied quietLines s)).trans (h.igs _ fun g => { g with supplied := false })
  case lineReset lines =>
    show Keeps P s (Machine.lineReset lines s)
    unfold Machine.lineReset
    split_ifs
    · exact h.keptReset _ _ _
    · exact .refl s
  case runEntry =>
    show Keeps P s (Machine.ignitionOn s)
    unfold Machine.ignitionOn
    split_ifs
    · exact (((h.igs s _).trans (h.notify _ _)).trans h.enterRun).trans h.crankIfOn
    · exact .refl s
  case parkedEntry =>
    show Keeps P s (Machine.ignitionOff s)
    unfold Machine.ignitionOff
    split_ifs
    · exact .refl s
    · exact ((h.igs s _).trans (h.notify _ _)).trans ((h.igs _ _).trans (h.hand h.parked))
  case crankOn =>
    show Keeps P s (Machine.crankOn s)
    unfold Machine.crankOn
    split_ifs
    · exact .refl s
    · exact (h.igs s _).trans h.crankIfOn
  case crankOff =>
    show Keeps P s (Machine.crankOff s)
    unfold Machine.crankOff
    dsimp only
    split_ifs
    · exact ((h.igs s _).trans (h.notify _ _)).trans (h.enterCrank nofun)
    · exact h.igs s _
  all_goals exact absurd power (by simp [isPowerCommand])

end KeepsPower

/-- A property that reads none of the IGS, the Link Port and the free values needs less. -/
theorem KeepsPower.of_reads {P : State → Prop} {ps : List Part} (reads : Reads ps P)
    (apart : ∀ p ∈ ps, p ∉ [Part.igs, .lkp, .free])
    (run : ∀ b s, Keeps P s (takeRunEntry b s)) (parked : ∀ b s, Keeps P s (takeParkedEntry b s))
    (crank : ∀ p b s, Keeps P s (takeCrank p b s)) (coach : ∀ s, Keeps P s (coachReset s))
    (evaluate : ∀ test s, Keeps P s (evaluateWhere test s))
    (reset : ∀ cause armed lines s, Keeps P s (resetAll cause armed lines s))
    (supplied : ∀ (lines : InputLines) (s : State), P (State.supplied lines s.inputs s.free s.pending)) : KeepsPower P where
  igs s f := .of_only reads (modIgs_only s f) fun p mem mem' => apart p mem (by simp_all)
  free s f := .of_only reads (modFree_only s f) fun p mem mem' => apart p mem (by simp_all)
  notify s n := .of_only reads (notify_only s n) fun p mem mem' => apart p mem (by simp_all)
  sent s f := .of_only reads (modLkp_only s _) fun p mem mem' => apart p mem (by simp_all)
  run := run
  parked := parked
  crank p b s _ := crank p b s
  coach := coach
  evaluate := evaluate
  reset := reset
  supplied := supplied

/-! ## Pulses -/

namespace Keeps
variable {P : State → Prop}

/-- A change of a channel keeps what the record's change, the end of the speed disagreement and the takers keep. -/
theorem changeChannel {ch : ChannelIx} {f : Channel → Channel} {s : State} (free : ∀ s f, Keeps P s (s.modFree f))
    (record : Keeps P s (s.modChannel ch f)) (leave : ∀ s, Keeps P s (leaveLive s))
    (take : ∀ st engine road b s, Keeps P s (takeChannel ch st engine road b s)) :
    Keeps P s (Machine.changeChannel ch f s) := by
  have handed : ∀ {st engine road} u, Keeps P u (Machine.hand [.gdu, .wtb, .tau, .svs, .clc]
      (takeChannel ch st engine road) u) := fun u => (free u _).trans (.foldl (fun s b => take _ _ _ b s) _ _)
  unfold Machine.changeChannel
  dsimp only
  split_ifs
  · exact record
  · exact (record.trans (leave _)).trans (handed _)
  · exact record.trans (handed _)

/-- A window expiry keeps what its operations keep, for a property that reads neither the PCU nor the free values. -/
theorem windowExpiry {ps : List Part} (reads : Reads ps P) (apart : ∀ p ∈ ps, p ∉ [Part.pcu, .free])
    (change : ∀ ch f s, Keeps P s (Machine.changeChannel ch f s)) (disagree : ∀ s, Keeps P s (disagreeTest s))
    (road : ∀ r b s, Keeps P s (takeRoadLive r b s)) (window : ∀ x b s, Keeps P s (takeWindow x b s))
    (at10us : Nat) (s : State) : Keeps P s (Machine.windowExpiry at10us s) := by
  have pcu : ∀ s f, Keeps P s (s.modPcu f) := fun s f =>
    .of_only reads (modPcu_only s f) fun p mem mem' => apart p mem (by simp_all)
  have free : ∀ s f, Keeps P s (s.modFree f) := fun s f =>
    .of_only reads (modFree_only s f) fun p mem mem' => apart p mem (by simp_all)
  have moved : ∀ u, Keeps P u (moveSource u) := by
    intro u
    unfold moveSource
    dsimp only
    split_ifs
    · exact pcu u _
    · exact ((pcu u _).trans (free _ _)).trans (.foldl (fun s b => road _ b s) _ _)
  unfold Machine.windowExpiry
  split_ifs
  · have closed : Keeps P s (closeWindow at10us s) := .eachIx (fun ch s => change ch _ s) s
    have result : ∀ u, Keeps P u (windowResult u) := fun u =>
      ((pcu u _).trans (free _ _)).trans (.foldl (fun s b => window _ b s) _ _)
    exact ((((closed.trans (disagree _)).trans (moved _)).trans (result _)).trans (pcu _ _)).trans (free _ _)
  · exact .refl s

/-- Run entry at the PCU, for a property that reads neither the PCU nor the inputs. -/
theorem pcuRunEntry {ps : List Part} (reads : Reads ps P) (apart : ∀ p ∈ ps, p ∉ [Part.pcu, .inputs])
    (change : ∀ ch f s, Keeps P s (Machine.changeChannel ch f s)) (disagree : ∀ b s, Keeps P s (setDisagree b s))
    (s : State) : Keeps P s (Machine.pcuRunEntry s) :=
  (((Keeps.of_only reads (modInputs_only s _) fun p mem mem' => apart p mem (by simp_all)).trans
    (.of_only reads (modPcu_only _ _) fun p mem mem' => apart p mem (by simp_all))).trans (disagree _ _)).trans
    (.eachIx (fun ch s => change ch _ s) _)

/-- Parked entry at the PCU, for a property that does not read the PCU. -/
theorem pcuParkedEntry {ps : List Part} (reads : Reads ps P) (apart : ∀ p ∈ ps, p ∉ [Part.pcu])
    (change : ∀ ch f s, Keeps P s (Machine.changeChannel ch f s)) (disagree : ∀ b s, Keeps P s (setDisagree b s))
    (s : State) : Keeps P s (Machine.pcuParkedEntry s) :=
  ((Keeps.of_only reads (modPcu_only s _) apart).trans (disagree _ _)).trans (.eachIx (fun ch s => change ch _ s) _)

end Keeps

end Sys2Proof.Machine
end

section
/-! Chapter 7: every operation that reaches the service items keeps their counts within their bounds and their states
decided (R129 to R141). -/

namespace Sys2Proof.Machine

-- One theorem at a time, so that a build as one text needs few threads.
set_option Elab.async false

/-! ## An item and its state -/

/-- The counts of an item, apart from its state: present with their intervals, between floor and interval, and one at
least while the item is enabled (R129, R130). -/
abbrev ItemCountsOk (it : ServiceItem) : Prop :=
  CountOk it.distanceDu it.remainingDistance ∧ CountOk it.hoursInterval it.remainingHours ∧
    CountOk it.daysInterval it.remainingDays ∧ (it.enabled = true → it.counts ≠ [])

/-- The state plays no part in what an item's state is decided from. -/
@[simp] theorem ServiceItem.decided_state (it : ServiceItem) (st : ItemState) :
    ({ it with state := st } : ServiceItem).decided = it.decided := rfl

theorem ItemCountsOk.decided {it : ServiceItem} (counts : ItemCountsOk it) :
    ItemOk { it with state := it.decided } := ⟨rfl, counts⟩

/-- A count one lower stays between its floor and its interval (R130). -/
theorem CountOk.countDown {i : Nat} {r : Int} (ok : CountOk (some i) (some r)) :
    CountOk (some i) (some (countDown i r)) := by
  obtain ⟨-, bounds⟩ := ok
  have := bounds i rfl r rfl
  refine ⟨rfl, fun j hj q hq => ?_⟩
  cases hj
  cases hq
  unfold Machine.countDown countFloor at *
  omega

/-- A count at its interval (R137, R138). -/
theorem CountOk.full (interval : Option Nat) : CountOk interval (interval.map fun n => (n : Int)) := by
  cases interval with
  | none => exact ⟨rfl, nofun⟩
  | some i =>
    refine ⟨rfl, fun j hj r hr => ?_⟩
    cases hj
    cases hr
    simp only [countFloor]
    omega

theorem presentCount_eq_nil {interval : Option Nat} {remaining : Option Int} :
    presentCount interval remaining = [] ↔ interval = none ∨ remaining = none := by
  cases interval <;> cases remaining <;> simp [presentCount]

theorem presentCount_full_eq_nil {interval : Option Nat} :
    presentCount interval (interval.map fun n => (n : Int)) = [] ↔ interval = none := by
  cases interval <;> simp [presentCount]

/-! ## What changes an item -/

section
variable {it : ServiceItem}

theorem ItemCountsOk.downDistance (ok : ItemCountsOk it) : ItemCountsOk it.downDistance := by
  obtain ⟨distance, hours, days, some⟩ := ok
  unfold ServiceItem.downDistance
  split
  case h_1 i r interval remaining =>
    rw [interval, remaining] at distance
    refine ⟨?_, hours, days, fun _ => ?_⟩
    · show CountOk it.distanceDu _
      rw [interval]
      exact distance.countDown
    · show presentCount it.distanceDu _ ++ _ ++ _ ≠ []
      simp [interval, presentCount]
  case h_2 => exact ⟨distance, hours, days, some⟩

theorem ItemCountsOk.downHours (ok : ItemCountsOk it) : ItemCountsOk it.downHours := by
  obtain ⟨distance, hours, days, some⟩ := ok
  unfold ServiceItem.downHours
  split
  case h_1 i r interval remaining =>
    rw [interval, remaining] at hours
    refine ⟨distance, ?_, days, fun _ => ?_⟩
    · show CountOk it.hoursInterval _
      rw [interval]
      exact hours.countDown
    · show _ ++ presentCount it.hoursInterval _ ++ _ ≠ []
      simp [interval, presentCount]
  case h_2 => exact ⟨distance, hours, days, some⟩

theorem ItemCountsOk.downDays (ok : ItemCountsOk it) : ItemCountsOk it.downDays := by
  obtain ⟨distance, hours, days, some⟩ := ok
  unfold ServiceItem.downDays
  split
  case h_1 i r interval remaining =>
    rw [interval, remaining] at days
    refine ⟨distance, hours, ?_, fun _ => ?_⟩
    · show CountOk it.daysInterval _
      rw [interval]
      exact days.countDown
    · show _ ++ _ ++ presentCount it.daysInterval _ ≠ []
      simp [interval, presentCount]
  case h_2 => exact ⟨distance, hours, days, some⟩

/-- Full counts, present with their intervals (R137, R138). -/
theorem ItemCountsOk.fullCounts (some : it.enabled = true →
      ¬ (it.distanceInterval = none ∧ it.hoursInterval = none ∧ it.daysInterval = none)) :
    ItemCountsOk it.fullCounts := by
  refine ⟨CountOk.full it.distanceDu, CountOk.full it.hoursInterval, CountOk.full it.daysInterval, fun on empty => ?_⟩
  refine some on ?_
  have counts : presentCount it.distanceDu (it.distanceDu.map fun n => (n : Int)) ++
      presentCount it.hoursInterval (it.hoursInterval.map fun n => (n : Int)) ++
      presentCount it.daysInterval (it.daysInterval.map fun n => (n : Int)) = [] := empty
  simp only [List.append_eq_nil_iff, presentCount_full_eq_nil, ServiceItem.distanceDu, Option.map_eq_none_iff] at counts
  exact ⟨counts.1.1, counts.1.2, counts.2⟩

/-- An enabled item whose counts are within their bounds has an interval. -/
theorem ItemCountsOk.has_interval (ok : ItemCountsOk it) (on : it.enabled = true) :
    ¬ (it.distanceInterval = none ∧ it.hoursInterval = none ∧ it.daysInterval = none) := by
  rintro ⟨distance, hours, days⟩
  obtain ⟨-, -, -, some⟩ := ok
  exact some on (by simp [ServiceItem.counts, ServiceItem.distanceDu, distance, hours, days, presentCount])

/-- The fields of SET SERVICE ITEM make an item with full counts (R138). -/
theorem serviceFields_counts {b : List Byte} {i : ItemIx} {it : ServiceItem} (fields : serviceFields b = some (i, it)) :
    ItemCountsOk it := by
  simp only [serviceFields, bind, Option.bind_eq_some_iff] at fields
  obtain ⟨_, -, _, -, _, -, _, -, _, -, _, -, fields⟩ := fields
  split_ifs at fields with none
  cases fields
  exact .fullCounts fun on intervals => none ⟨on, intervals⟩

end

/-! ## The operations on the items -/

theorem decideItem_svs (i : ItemIx) (s : State) : (decideItem i s).svs =
    { s.svs with items := updAt s.svs.items i fun it => { it with state := it.decided } } := by
  unfold decideItem
  dsimp only
  split_ifs with same
  · have : s.svs.items = updAt s.svs.items i fun it => { it with state := it.decided } := by
      rw [updAt_of_fixed]
      rw [same]
    rw [← this]
  · rw [(wtbItem_only _ _ _).svs_eq, (notify_only _ _).svs_eq]
    rfl

theorem changeItem_items (i : ItemIx) (f : ServiceItem → ServiceItem) (s : State) : (changeItem i f s).svs.items =
    updAt s.svs.items i fun it => { f it with state := (f it).decided } := by
  rw [changeItem, decideItem_svs]
  refine Vector.ext fun j hj => ?_
  have at_ := updAt_get (updAt s.svs.items i f) i ⟨j, hj⟩ fun it => { it with state := it.decided }
  have at' := updAt_get s.svs.items i ⟨j, hj⟩ fun it => { f it with state := (f it).decided }
  have inner := updAt_get s.svs.items i ⟨j, hj⟩ f
  simp only [Fin.getElem_fin] at at_ at' inner
  rw [State.modItem_items, at_, at']
  split_ifs with same
  · have own := updAt_get_same s.svs.items i f
    simp only [Fin.getElem_fin] at own
    rw [own]
  · rw [inner, if_neg same]

/-- The service invariant, as a property of the state. -/
def ItemsOk (s : State) : Prop := ServiceItemsOk s.svs

theorem ItemsOk.reads : Reads [.svs] ItemsOk := by
  intro s t same ok
  have svs : t.svs = s.svs := same .svs (List.mem_singleton_self _)
  rw [ItemsOk, svs]
  exact ok

/-- An item changed so that its counts stay within their bounds, and decided, keeps the invariant (R132). -/
theorem changeItem_itemsOk {i : ItemIx} {f : ServiceItem → ServiceItem} (s : State)
    (counts : ItemCountsOk s.svs.items[i] → ItemCountsOk (f s.svs.items[i])) : Keeps ItemsOk s (changeItem i f s) := by
  intro ok j
  rw [changeItem_items, updAt_get]
  split_ifs
  · exact (counts (ok i).2).decided
  · exact ok j

theorem countItems_itemsOk {down : ServiceItem → ServiceItem} (keeps : ∀ it, ItemCountsOk it → ItemCountsOk (down it))
    (s : State) : Keeps ItemsOk s (countItems down s) := by
  refine Keeps.eachIx (fun i s => ?_) s
  split_ifs
  · exact changeItem_itemsOk s (keeps _)
  · exact .refl s

/-- A change of the SVS that keeps every item. -/
theorem modSvs_itemsOk {f : Svs → Svs} (s : State) (items : ∀ v, (f v).items = v.items) :
    Keeps ItemsOk s (s.modSvs f) := by
  intro ok i
  rw [State.modSvs_svs, items]
  exact ok i

theorem svsRestore_itemsOk (r : Nat) (s : State) : Keeps ItemsOk s (svsRestore r s) := by
  intro ok i
  simp only [svsRestore, State.modSvs_svs, mapAll_get]
  exact ok i

theorem Svs.reset_ok {v : Svs} (ok : ServiceItemsOk v) : ServiceItemsOk v.reset := by
  intro i
  simp only [Svs.reset, mapAll_get]
  exact ItemCountsOk.decided (ok i).2

theorem Svs.supply_ok : ServiceItemsOk Svs.supply := by decide +kernel

/-! ## The events that reach the items -/

section
variable (s : State)

theorem tauDistance_itemsOk : Keeps ItemsOk s (tauDistance s) := by
  have trips : Keeps ItemsOk s (eachIx 4 tripDistance (odometerUnit s)) :=
    (Keeps.of_only ItemsOk.reads (modTau_only s _)).trans
      (.of_only ItemsOk.reads (eachIx_only (fun t s => tripDistance_only s t) _))
  exact ((trips.trans (.of_only ItemsOk.reads (bucketDistance_only _))).trans
    (.of_only ItemsOk.reads (destinationUnit_only _))).trans (countItems_itemsOk (fun _ => ItemCountsOk.downDistance) _)

theorem engineSecond_itemsOk : Keeps ItemsOk s (engineSecond s) := by
  unfold engineSecond
  split_ifs
  · exact .of_only ItemsOk.reads (modTau_only s _)
  · exact (Keeps.of_only ItemsOk.reads (modTau_only s _)).trans (countItems_itemsOk (fun _ => ItemCountsOk.downHours) _)
  · exact .refl s

theorem tauSecond_itemsOk : Keeps ItemsOk s (tauSecond s) := by
  unfold tauSecond
  dsimp only
  split_ifs
  · exact engineSecond_itemsOk s
  · exact ((engineSecond_itemsOk s).trans (.of_only ItemsOk.reads (eachIx_only (fun t s => tripSecond_only s t) _))).trans
      (.of_only ItemsOk.reads (modTau_only _ _))

theorem takeSecond_itemsOk (t : ClockTime) (st : ClockState) (rollover : Bool) (b : Block) :
    Keeps ItemsOk s (takeSecond t st rollover b s) := by
  cases b
  case tau => exact tauSecond_itemsOk s
  case svs =>
    unfold takeSecond
    dsimp only
    split_ifs
    · exact countItems_itemsOk (fun _ => ItemCountsOk.downDays) s
    · exact .refl s
  all_goals exact .of_only ItemsOk.reads (takeSecond_parts s _ _ _ _)

theorem secondBoundary_itemsOk : Keeps ItemsOk s (secondBoundary s) :=
  (Keeps.of_only ItemsOk.reads (modClk_only s _)).trans
    (.hand ItemsOk.reads (fun b _ s => takeSecond_itemsOk s _ _ _ b) _)

theorem changeChannel_itemsOk (ch : ChannelIx) (f : Channel → Channel) : Keeps ItemsOk s (changeChannel ch f s) := by
  refine .changeChannel (fun s _ => .of_only ItemsOk.reads (modFree_only s _))
    (.of_only ItemsOk.reads (modChannel_only s _ _)) (fun s => .of_only ItemsOk.reads (leaveLive_only s))
    fun st engine road b s => ?_
  cases b
  case svs => exact modSvs_itemsOk s fun _ => rfl
  all_goals exact .of_only ItemsOk.reads (takeChannel_parts s _ _ _ _ _)

theorem roadEdge_itemsOk : Keeps ItemsOk s (roadEdge s) := by
  unfold roadEdge
  dsimp only
  split_ifs
  · exact .of_only ItemsOk.reads (modPcu_only s _)
  · exact (Keeps.of_only ItemsOk.reads (modPcu_only s _)).trans (tauDistance_itemsOk _)
  · exact .of_only ItemsOk.reads (modPcu_only s _)

theorem checkEdge_itemsOk : Keeps ItemsOk s (checkEdge s) := by
  unfold checkEdge
  dsimp only
  split_ifs
  · exact .of_only ItemsOk.reads (modPcu_only s _)
  · exact (Keeps.of_only ItemsOk.reads (modPcu_only s _)).trans (tauDistance_itemsOk _)
  · exact .of_only ItemsOk.reads (modPcu_only s _)

theorem pulseEdge_itemsOk (ch : ChannelIx) (at10us : Nat) : Keeps ItemsOk s (pulseEdge ch at10us s) := by
  unfold pulseEdge
  split_ifs
  · exact .refl s
  · refine (changeChannel_itemsOk s ch (Channel.edge at10us)).trans ?_
    unfold dividerEdge
    split
    · exact roadEdge_itemsOk _
    · exact .refl _
    · exact .of_only ItemsOk.reads (supplyEdge_only _)
    · exact .of_only ItemsOk.reads (returnEdge_only _)
    · exact checkEdge_itemsOk _
    · exact .refl _

theorem windowExpiry_itemsOk (at10us : Nat) : Keeps ItemsOk s (windowExpiry at10us s) := by
  refine .windowExpiry ItemsOk.reads (by decide) (fun ch f s => changeChannel_itemsOk s ch f)
    (fun s => .of_only ItemsOk.reads (disagreeTest_only s)) (fun road b s => ?_) (fun x b s => ?_) at10us s
  · cases b
    case svs => exact modSvs_itemsOk s fun _ => rfl
    all_goals exact .of_only ItemsOk.reads (takeRoadLive_parts s _ _)
  · cases b <;> exact .of_only ItemsOk.reads (takeWindow_parts s _ _)

/-! ## Power states and resets -/

theorem power_itemsOk : KeepsPower ItemsOk := by
  have disagree : ∀ b s, Keeps ItemsOk s (setDisagree b s) := fun b s => .of_only ItemsOk.reads (setDisagree_only s b)
  refine .of_reads ItemsOk.reads (by decide) (fun b s => ?_) (fun b s => ?_) (fun p b s => ?_)
    (fun s => .of_only ItemsOk.reads (coachReset_only s))
    (fun test s => .of_only ItemsOk.reads (ByProducts.evaluateWhere test s).only)
    (fun cause armed lines s ok => Svs.reset_ok ok) fun lines s => Svs.supply_ok
  · cases b
    case pcu =>
      exact .pcuRunEntry ItemsOk.reads (by decide) (fun ch f s => changeChannel_itemsOk s ch f) disagree s
    case svs => exact modSvs_itemsOk s fun _ => rfl
    all_goals exact .of_only ItemsOk.reads (takeRunEntry_parts s _)
  · cases b
    case pcu =>
      exact .pcuParkedEntry ItemsOk.reads (by decide) (fun ch f s => changeChannel_itemsOk s ch f) disagree s
    case svs => exact modSvs_itemsOk s fun _ => rfl
    all_goals exact .of_only ItemsOk.reads (takeParkedEntry_parts s _)
  · cases b
    case pcu => exact .of_only ItemsOk.reads (modPcu_only s _)
    case svs => exact modSvs_itemsOk s fun _ => rfl
    all_goals exact .of_only ItemsOk.reads (takeCrank_parts s _ _)

end

/-! ## Requests and steps -/

theorem owner_itemsOk (k : ReqKind) (r : Request) (s : State) : Keeps ItemsOk s (k.owner r s).1 := by
  cases k
  case setChannel =>
    refine .ranged fun p _ => ?_
    have loaded : Keeps ItemsOk s (s.modInputs (Inputs.loadPulse p.1)) := .of_only ItemsOk.reads (modInputs_only s _)
    have changed := loaded.trans (changeChannel_itemsOk _ p.1 fun _ => Channel.restarted p.2)
    unfold setChannel emptyAnswer
    dsimp only
    split_ifs
    · exact loaded.trans (.of_only ItemsOk.reads (modChannel_only _ _ _))
    · exact changed.trans (.of_only ItemsOk.reads (modPcu_only _ _))
    · exact changed
  case restoreOdometer =>
    have restored : ∀ v, Keeps ItemsOk s (restoreOdometer v s) := fun v =>
      (((Keeps.of_only ItemsOk.reads (modTau_only s _)).trans (svsRestore_itemsOk v _)).trans
        (.of_only ItemsOk.reads (modLkp_only _ _))).trans (.of_only ItemsOk.reads (wtbOdometer_only _ _))
    show Keeps ItemsOk s (ownRestoreOdometer r s).1
    unfold ownRestoreOdometer
    dsimp only
    split
    · exact .refl s
    · split_ifs
      · exact .refl s
      · dsimp only
        exact restored _
  case setServiceItem =>
    refine .ranged fun p fields => changeItem_itemsOk s fun _ => ?_
    have counts : ItemCountsOk p.2 := serviceFields_counts fields
    exact counts
  case serviceDone =>
    refine .ranged fun i _ => ?_
    unfold serviceDone emptyAnswer
    split_ifs
    · exact .refl s
    · exact .refl s
    · exact .refl s
    · exact changeItem_itemsOk s fun ok => ItemCountsOk.fullCounts ok.has_interval
  all_goals exact .of_only ItemsOk.reads (owner_only _ r s)

theorem other_itemsOk (c : Instr) (s : State) : Keeps ItemsOk s (otherEffect c s) := by
  by_cases power : isPowerCommand c = true
  · exact power_itemsOk.effect power
  · cases c
    case pulseEdge ch at10us => exact pulseEdge_itemsOk s ch at10us
    case stallExpiry ch =>
      show Keeps ItemsOk s (stallExpiry ch s)
      unfold stallExpiry
      split_ifs
      · exact changeChannel_itemsOk s ch _
      · exact .refl s
    case windowExpiry at10us => exact windowExpiry_itemsOk s at10us
    case secondBoundary => exact secondBoundary_itemsOk s
    all_goals first
      | exact absurd rfl power
      | exact .of_only ItemsOk.reads (otherEffect_only _ s) (by simp [otherParts])

/-- Settles O10: an item is decided whenever its counts change, and every change keeps the counts within their bounds. -/
theorem serviceItemsKept : Obligations.ServiceItemsKept := by
  unfold Obligations.ServiceItemsKept
  exact fun _ _ => step_keeps_blocks ItemsOk.reads owner_itemsOk other_itemsOk

end Sys2Proof.Machine
end

section
/-! Chapter 4: the calendar, and that every operation that reaches the clock leaves it on a time that exists, its trim and
its alarms in their ranges (R66, R67, R68, R77). -/

namespace Sys2Proof.Machine

-- One theorem at a time, so that a build as one text needs few threads.
set_option Elab.async false

/-! ## The calendar -/

theorem daysInMonth_bounds (year month : Nat) : 28 ≤ daysInMonth year month ∧ daysInMonth year month ≤ 31 := by
  unfold daysInMonth
  split_ifs <;> omega

/-- The checks of R73, as a proposition. -/
theorem ClockTime.valid_iff (t : ClockTime) : t.valid = true ↔
    (1980 ≤ t.year ∧ t.year ≤ 2079) ∧ (1 ≤ t.month ∧ t.month ≤ 12) ∧
      (1 ≤ t.day ∧ t.day ≤ daysInMonth t.year t.month) ∧ t.hour ≤ 23 ∧ t.minute ≤ 59 ∧ t.second ≤ 59 := by
  simp only [ClockTime.valid, Bool.and_eq_true, decide_eq_true_eq]
  tauto

/-- One second later is a time that exists again (R68). -/
theorem ClockTime.valid_tick {t : ClockTime} (valid : t.valid = true) : t.tick.valid = true := by
  obtain ⟨year, month, day, hour, minute, second⟩ := t.valid_iff.mp valid
  have first := fun y m => (daysInMonth_bounds y m).1
  unfold ClockTime.tick
  split_ifs
  case neg => decide
  all_goals
    rw [ClockTime.valid_iff]
    dsimp only
    have := first t.year (t.month + 1)
    have := first (t.year + 1) 1
    omega

theorem daysBefore_one (year : Nat) : daysBefore year 1 = 0 := rfl

theorem daysBefore_succ (year month : Nat) (pos : 1 ≤ month) :
    daysBefore year (month + 1) = daysBefore year month + daysInMonth year month := by
  obtain ⟨m, rfl⟩ := Nat.exists_eq_add_of_le' pos
  simp [daysBefore, List.range_succ]

/-- A year has the days of its twelve months. -/
theorem daysBefore_december (year : Nat) : daysBefore year 12 = if year % 4 = 0 then 335 else 334 := by
  simp only [daysBefore, daysInMonth, List.range_succ, List.range_zero]
  split_ifs <;> rfl

/-- The weekday goes on by one from each date to the next (R66). -/
theorem ClockTime.weekday_next {t u : ClockTime} (year : 1980 ≤ t.year) (month : 1 ≤ t.month) (day : 1 ≤ t.day)
    (next : (u.year = t.year ∧ u.month = t.month ∧ u.day = t.day + 1) ∨
      (t.day = daysInMonth t.year t.month ∧ u.year = t.year ∧ u.month = t.month + 1 ∧ u.day = 1) ∨
      (t.day = 31 ∧ t.month = 12 ∧ u.year = t.year + 1 ∧ u.month = 1 ∧ u.day = 1)) :
    u.weekday = (t.weekday + 1) % 7 := by
  unfold ClockTime.weekday
  rcases next with ⟨y, m, d⟩ | ⟨last, y, m, d⟩ | ⟨last, december, y, m, d⟩
  · rw [y, m, d]
    omega
  · rw [y, m, d, daysBefore_succ _ _ month]
    omega
  · rw [y, m, d, december, daysBefore_one, daysBefore_december]
    have leaps : (t.year + 1 - 1980 + 3) / 4 = (t.year - 1980 + 3) / 4 + if t.year % 4 = 0 then 1 else 0 := by
      split_ifs <;> omega
    have years : t.year + 1 - 1980 = t.year - 1980 + 1 := by omega
    rw [leaps, years]
    split_ifs <;> omega

/-! ## The clock's own operations -/

/-- The clock invariant, as a property of the state. -/
def ClockKept (s : State) : Prop := ClockOk s.clk

theorem ClockKept.reads : Reads [.clk] ClockKept := by
  intro s t same ok
  have clk : t.clk = s.clk := same .clk (List.mem_singleton_self _)
  rw [ClockKept, clk]
  exact ok

section
variable (s : State)

theorem setClockTo_clockKept {t : ClockTime} (valid : t.valid = true) : Keeps ClockKept s (setClockTo t s) := by
  have set : Keeps ClockKept s
      (s.modClk fun c => { c with time := t, state := .set, secondLength := trimmedSecond c.trim }) :=
    fun ⟨_, trim⟩ => ⟨valid, trim⟩
  unfold setClockTo
  dsimp only
  split_ifs
  · exact (set.trans (.of_only ClockKept.reads (handClockState_only _ _))).trans
      (.of_only ClockKept.reads (mark_only _ _))
  · exact set.trans (.of_only ClockKept.reads (mark_only _ _))

/-- A change of an alarm that leaves its time in range. -/
theorem modAlarm_clockKept (a : AlarmIx) {f : Alarm → Alarm}
    (range : ∀ x : Alarm, x.hour ≤ 23 ∧ x.minute ≤ 59 → (f x).hour ≤ 23 ∧ (f x).minute ≤ 59) :
    Keeps ClockKept s (s.modAlarm a f) := by
  rintro ⟨valid, low, high, alarms⟩
  refine ⟨valid, low, high, fun b => ?_⟩
  rw [State.modAlarm_alarms, updAt_get]
  split_ifs
  · exact range _ (alarms a)
  · exact alarms b

theorem changeAlarm_clockKept (a : AlarmIx) {f : Alarm → Alarm}
    (range : ∀ x : Alarm, x.hour ≤ 23 ∧ x.minute ≤ 59 → (f x).hour ≤ 23 ∧ (f x).minute ≤ 59) :
    Keeps ClockKept s (changeAlarm a f s) :=
  ((modAlarm_clockKept s a range).trans (.of_only ClockKept.reads (ByProducts.removeChime _ _).only)).trans
    (.of_only ClockKept.reads (markAlarm_only _ _))

theorem alarmMatch_clockKept (a : AlarmIx) : Keeps ClockKept s (alarmMatch a s) := by
  have taken : Keeps ClockKept s (((takeChime (alarmRequest s.chs a s.clk.alarms[a]) s).1).notify (.alarm a)) :=
    (Keeps.of_only ClockKept.reads (ByProducts.takeChime _ s).only).trans (.of_only ClockKept.reads (notify_only _ _))
  unfold alarmMatch
  dsimp only
  split_ifs
  · exact (taken.trans (modAlarm_clockKept _ a (f := fun x => { x with enabled := false }) fun _ ok => ok)).trans
      (.of_only ClockKept.reads (markAlarm_only _ a))
  · exact taken

theorem takeSecond_clockKept (t : ClockTime) (st : ClockState) (rollover : Bool) (b : Block) :
    Keeps ClockKept s (takeSecond t st rollover b s) := by
  cases b
  case clk =>
    unfold takeSecond
    dsimp only
    split_ifs
    · refine .eachIx (fun a s => ?_) s
      split_ifs
      · exact alarmMatch_clockKept s a
      · exact .refl s
    · exact .refl s
  all_goals exact .of_only ClockKept.reads (takeSecond_parts s _ _ _ _)

theorem secondBoundary_clockKept : Keeps ClockKept s (secondBoundary s) := by
  refine Keeps.trans (t := s.modClk fun c => { c with
      time := s.clk.time.tick
      state := if s.clk.time.lastSecond then .unset else s.clk.state
      secondLength := trimmedSecond c.trim }) ?_ (.hand ClockKept.reads (fun b _ s => takeSecond_clockKept s _ _ _ b) _)
  exact fun ⟨valid, trim⟩ => ⟨ClockTime.valid_tick valid, trim⟩

/-! ## Rear events -/

theorem rearClockSet_clockKept (d : List Byte) : Keeps ClockKept s (rearClockSet d s).1 := by
  unfold rearClockSet
  dsimp only
  split_ifs with refused
  · exact .refl s
  · exact setClockTo_clockKept s (not_not.mp (not_or.mp refused).2)

theorem rearAlarmSet_clockKept (d : List Byte) : Keeps ClockKept s (rearAlarmSet d s).1 := by
  unfold rearAlarmSet
  split
  case h_1 a enabled hour minute _ _ hourIn minuteIn =>
    have hours := within_eq_some.mp hourIn
    have minutes := within_eq_some.mp minuteIn
    exact changeAlarm_clockKept s a fun _ _ => ⟨hours.1 ▸ hours.2.2, minutes.1 ▸ minutes.2.2⟩
  case h_2 => exact .refl s

theorem ownRearEvent_clockKept (e : RearEvent) : Keeps ClockKept s (ownRearEvent e s).1 := by
  unfold ownRearEvent
  split <;> dsimp only
  · exact .of_only ClockKept.reads (ByProducts.takeChime _ s).only
  · exact .of_only ClockKept.reads (takePrivacy_only s _)
  · exact .of_only ClockKept.reads (takePrivacy_only s _)
  · exact (Keeps.of_only ClockKept.reads (resetTrip_only s _ _)).trans (.of_only ClockKept.reads (tripNotice_only _ _ _))
  · exact .of_only ClockKept.reads (ByProducts.acknowledgeWhere _ s).only
  · exact rearClockSet_clockKept s _
  · exact rearAlarmSet_clockKept s _
  · exact .refl s

theorem takeRearEvent_clockKept (n : NodeIx) (e : RearEvent) : Keeps ClockKept s (takeRearEvent n s e) := by
  unfold takeRearEvent
  split_ifs
  · exact (ownRearEvent_clockKept s e).trans (.of_only ClockKept.reads (notify_only _ _))
  · exact .of_only ClockKept.reads (notify_only s _)

theorem completeTxn_clockKept (answer : Option (List Byte)) : Keeps ClockKept s (completeTxn answer s) := by
  unfold completeTxn
  split
  case h_2 => exact .refl s
  case h_1 t _ =>
    have dropped : Keeps ClockKept s (s.modClc fun c => { c with txn := none, contentions := 0 }) :=
      .of_only ClockKept.reads (modClc_only s _)
    dsimp only
    split
    · refine dropped.trans ?_
      unfold completePoll
      split
      · refine Keeps.trans ?_ (.foldl (fun s e => takeRearEvent_clockKept s _ e) _ _)
        split_ifs
        · exact (Keeps.of_only ClockKept.reads (validAnswer_only _ _)).trans (.of_only ClockKept.reads (modClc_only _ _))
        · exact .of_only ClockKept.reads (validAnswer_only _ _)
      · exact .of_only ClockKept.reads (nodeMiss_only _ _)
    · exact dropped.trans (.of_only ClockKept.reads (completeMirror_only _ _ _ _))
    · exact dropped.trans (.of_only ClockKept.reads (completePass_only _ _ _))
    · exact dropped

end

/-! ## Requests and steps -/

theorem alarmFields_range {b : List Byte} {a : AlarmIx} {al : Alarm} (fields : alarmFields b = some (a, al)) :
    al.hour ≤ 23 ∧ al.minute ≤ 59 := by
  simp only [alarmFields, bind, Option.bind_eq_some_iff, within_eq_some, pure, Option.some.injEq, Prod.mk.injEq] at fields
  obtain ⟨_, -, _, -, _, ⟨hour, -, hourIn⟩, _, ⟨minute, -, minuteIn⟩, _, -, _, -, _, -, _, -, -, rfl⟩ := fields
  exact ⟨hour ▸ hourIn, minute ▸ minuteIn⟩

theorem owner_clockKept (k : ReqKind) (r : Request) (s : State) : Keeps ClockKept s (k.owner r s).1 := by
  cases k
  case setClock =>
    refine .ranged fun t fields => setClockTo_clockKept s ?_
    unfold clockFields at fields
    dsimp only at fields
    split_ifs at fields with valid
    cases fields
    exact valid
  case setAlarm =>
    refine .ranged fun p fields => changeAlarm_clockKept s p.1 fun _ _ => ?_
    exact alarmFields_range fields
  case setClockOptions =>
    refine .ranged fun p fields => ?_
    simp only [clockOptionFields, bind, Option.bind_eq_some_iff] at fields
    obtain ⟨lock, -, fields⟩ := fields
    split_ifs at fields with trim
    cases fields
    exact fun ⟨valid, _, _, alarms⟩ => ⟨valid, trim.1, trim.2, alarms⟩
  all_goals exact .of_only ClockKept.reads (owner_only _ r s)

theorem power_clockKept : KeepsPower ClockKept :=
  .of_reads ClockKept.reads (by decide)
    (fun b s => by cases b <;> exact .of_only ClockKept.reads (takeRunEntry_parts s _))
    (fun b s => by cases b <;> exact .of_only ClockKept.reads (takeParkedEntry_parts s _))
    (fun p b s => by cases b <;> exact .of_only ClockKept.reads (takeCrank_parts s p _))
    (fun s => .of_only ClockKept.reads (coachReset_only s))
    (fun test s => .of_only ClockKept.reads (ByProducts.evaluateWhere test s).only)
    (fun cause armed lines s ok => ok) fun lines s => (by decide +kernel : ClockOk Clk.supply)

theorem other_clockKept (c : Instr) (s : State) : Keeps ClockKept s (otherEffect c s) := by
  by_cases power : isPowerCommand c = true
  · exact power_clockKept.effect power
  · cases c
    case secondBoundary => exact secondBoundary_clockKept s
    case masterFrameSent =>
      show Keeps ClockKept s (masterFrameSent s)
      unfold masterFrameSent
      split
      · split_ifs
        · exact completeTxn_clockKept s _
        · exact .of_only ClockKept.reads (modClc_only s _)
        · exact .refl s
      · exact .refl s
    case answerWindowExpiry =>
      show Keeps ClockKept s (answerWindowExpiry s)
      unfold answerWindowExpiry
      split_ifs
      · exact completeTxn_clockKept s _
      · exact .refl s
    case answerCut =>
      show Keeps ClockKept s (answerCut s)
      unfold answerCut
      split
      · split_ifs
        · exact .refl s
        · exact completeTxn_clockKept s _
      · exact .refl s
    case answerComplete =>
      show Keeps ClockKept s (answerDone s)
      unfold answerDone
      split
      · split_ifs
        · exact completeTxn_clockKept s _
        · exact .refl s
      · exact .refl s
    all_goals first
      | exact absurd rfl power
      | exact .of_only ClockKept.reads (otherEffect_only _ s) (by simp [otherParts])

/-- Settles O12: times that exist tick and are set to times that exist; the weekday counts the days. -/
theorem clockKept : Obligations.ClockKept := by
  unfold Obligations.ClockKept
  refine ⟨fun _ _ => step_keeps_blocks ClockKept.reads owner_clockKept other_clockKept,
    fun t year month day => ?_, fun t u year month _ day next => ?_⟩
  · simp [ClockTime.weekday, year, month, day, daysBefore_one]
  · refine ClockTime.weekday_next year month day ?_
    rcases next with ⟨-, next⟩ | ⟨last, -, next⟩ | ⟨last, december, next⟩
    · exact .inl next
    · exact .inr (.inl ⟨last, next⟩)
    · exact .inr (.inr ⟨by simpa [december] using last, december, next⟩)

end Sys2Proof.Machine
end

section
/-! What the blocks share: the states each block has and the copies the others hold of them and which operations
leave them as they are (R5, R15, R25, R43, R57, R72, R87, R132, R147, R149, R172). -/

namespace Sys2Proof.Machine

-- One theorem at a time, so that a build as one text needs few threads.
set_option Elab.async false

/-! ## Completed transactions -/

section
variable {P : State → Prop} {s : State}

/-- What is enough for a property to be kept by the completion of a transaction. -/
structure KeepsCompletion (P : State → Prop) : Prop where
  dropped : ∀ s, Keeps P s (s.modClc fun c => { c with txn := none, contentions := 0 })
  valid : ∀ n s, Keeps P s (validAnswer n s)
  miss : ∀ n s, Keeps P s (nodeMiss n s)
  whole : ∀ n s, Keeps P s (s.modClc (Clc.markWhole n))
  append : ∀ n item s, Keeps P s (s.modClc fun c => c.appendPair item n)
  notify : ∀ n s, Keeps P s (s.notify n)
  own : ∀ e s, Keeps P s (ownRearEvent e s).1
  endPass : ∀ r s, Keeps P s (endPass r s)

namespace KeepsCompletion
variable (h : KeepsCompletion P)
include h

theorem rearEvent (n : NodeIx) (s : State) (e : RearEvent) : Keeps P s (takeRearEvent n s e) := by
  unfold takeRearEvent
  split_ifs
  · exact (h.own e s).trans (h.notify _ _)
  · exact h.notify _ s

theorem completeTxn (answer : Option (List Byte)) (s : State) : Keeps P s (completeTxn answer s) := by
  unfold Machine.completeTxn
  split
  case h_2 => exact .refl s
  case h_1 t _ =>
    refine Keeps.trans (t := s.modClc fun c => { c with txn := none, contentions := 0 }) (h.dropped s) ?_
    dsimp only
    split
    · unfold completePoll
      split
      · refine Keeps.trans ?_ (.foldl (fun s e => h.rearEvent _ s e) _ _)
        split_ifs
        · exact (h.valid _ _).trans (h.whole _ _)
        · exact h.valid _ _
      · exact h.miss _ _
    · unfold completeMirror
      split
      · exact h.valid _ _
      · exact (h.miss _ _).trans (h.append _ _ _)
    · unfold completePass
      split
      · exact (h.valid _ _).trans (h.endPass _ _)
      · exact (h.miss _ _).trans (h.endPass _ _)
    · exact .refl _

end KeepsCompletion

/-- The commands that may complete a transaction. -/
def isAnswerCommand : Instr → Bool
  | .masterFrameSent | .answerWindowExpiry | .answerCut | .answerComplete => true
  | _ => false

/-- The commands that may complete a transaction keep what its completion and a new phase keep. -/
theorem Keeps.answerCommand (phase : Keeps P s (setTxnPhase .window s)) (complete : ∀ a, Keeps P s (completeTxn a s))
    {c : Instr} (answer : isAnswerCommand c = true) : Keeps P s (otherEffect c s) := by
  cases c
  case masterFrameSent =>
    show Keeps P s (Machine.masterFrameSent s)
    unfold Machine.masterFrameSent
    split
    · split_ifs
      · exact complete _
      · exact phase
      · exact .refl s
    · exact .refl s
  case answerWindowExpiry =>
    show Keeps P s (Machine.answerWindowExpiry s)
    unfold Machine.answerWindowExpiry
    split_ifs
    · exact complete _
    · exact .refl s
  case answerCut =>
    show Keeps P s (Machine.answerCut s)
    unfold Machine.answerCut
    split
    · split_ifs
      · exact .refl s
      · exact complete _
    · exact .refl s
  case answerComplete =>
    show Keeps P s (answerDone s)
    unfold answerDone
    split
    · split_ifs
      · exact complete _
      · exact .refl s
    · exact .refl s
  all_goals exact absurd answer (by simp [isAnswerCommand])

end

/-! ## What the blocks share -/

/-- Every copy of the power state, the IGS's own first. -/
structure Powers where
  igs : PowerState
  pcu : PowerState
  gdu : PowerState
  tau : PowerState
  wtb : PowerState
  chs : PowerState
  svs : PowerState
  clc : PowerState
  lkp : PowerState

/-- The states a block has that others hold copies of, and the copies it holds. -/
structure Shared where
  powers : Powers
  states : Vector ChannelState 6
  roadSource : RoadSource
  disagree : Bool
  implausible : Bool
  gaugeStates : Vector ChannelState 6
  slots : Vector (SlotState × Int) 8
  tauEngine : Bool
  tauRoadLive : Bool
  odometer : OdometerState
  range : Option Nat
  clock : ClockState
  view : WarnView
  svsRoadLive : Bool
  items : Vector ItemState 8
  clcRoadLive : Bool
  line : LineState
  nodes : Vector NodeState 6
  odometerInvalid : Bool
  clockUnset : Bool

def State.powers (s : State) : Powers :=
  { igs := s.igs.power, pcu := s.pcu.power, gdu := s.gdu.power, tau := s.tau.power, wtb := s.wtb.view.power,
    chs := s.chs.power, svs := s.svs.power, clc := s.clc.power, lkp := s.lkp.power }

/-- What the blocks share in a state. The speeds the WTB holds are no copies of a block's state. -/
def State.shared (s : State) : Shared :=
  { powers := s.powers
    states := mapAll (fun c => c.state) s.pcu.channels
    roadSource := s.pcu.roadSource
    disagree := s.pcu.disagree
    implausible := s.pcu.implausible
    gaugeStates := s.gdu.view.channels
    slots := mapAll (fun x => (x.state, x.value)) s.gdu.slots
    tauEngine := s.tau.engineRunning
    tauRoadLive := s.tau.roadLive
    odometer := s.tau.odometerState
    range := s.tau.range
    clock := s.clk.state
    view := { s.wtb.view with roadSpeed := 0, checkSpeed := 0, engineSpeed := 0, roadSource := .ch0 }
    svsRoadLive := s.svs.roadLive
    items := mapAll (fun it => it.state) s.svs.items
    clcRoadLive := s.clc.roadLive
    line := s.clc.line
    nodes := mapAll (fun nd => nd.state) s.clc.nodes
    odometerInvalid := s.lkp.odometerInvalid
    clockUnset := s.lkp.clockUnset }

theorem mapAll_congr_get {α β : Type} {n : Nat} {f : α → β} {v w : Vector α n} (same : mapAll f v = mapAll f w)
    (i : Fin n) : f v[i] = f w[i] := by
  have := congrArg (fun x : Vector β n => x[i]) same
  simpa only [mapAll_get] using this

theorem mapAll_congr {α β : Type} {n : Nat} {f : α → β} {v w : Vector α n} (same : ∀ i : Fin n, f v[i] = f w[i]) :
    mapAll f v = mapAll f w := by
  refine Vector.ext fun i hi => ?_
  have := same ⟨i, hi⟩
  simpa [mapAll] using this

/-- A change of one record that leaves what is looked at. -/
theorem mapAll_updAt {α β : Type} {n : Nat} {f : α → β} {v : Vector α n} {i : Fin n} {g : α → α}
    (same : f (g v[i]) = f v[i]) : mapAll f (updAt v i g) = mapAll f v := by
  refine mapAll_congr fun j => ?_
  rw [updAt_get]
  split_ifs with h
  · subst h; exact same
  · rfl

/-! ## What leaves the shared states as they are -/

section
variable (s : State)

theorem ByProducts.shared {s t : State} (h : ByProducts s t) : t.shared = s.shared := by
  have view : t.wtb.view = s.wtb.view := by have := congrArg Wtb.view h.wtb; exact this
  have chs : t.chs.power = s.chs.power := by have := congrArg Chs.power h.chs; exact this
  have clcPower : t.clc.power = s.clc.power := by have := congrArg Clc.power h.clc; exact this
  have road : t.clc.roadLive = s.clc.roadLive := by have := congrArg Clc.roadLive h.clc; exact this
  have line : t.clc.line = s.clc.line := by have := congrArg Clc.line h.clc; exact this
  have nodes : t.clc.nodes = s.clc.nodes := by have := congrArg Clc.nodes h.clc; exact this
  have lkpPower : t.lkp.power = s.lkp.power := by have := congrArg Lkp.power h.lkp; exact this
  have odometer : t.lkp.odometerInvalid = s.lkp.odometerInvalid := by have := congrArg Lkp.odometerInvalid h.lkp; exact this
  have clock : t.lkp.clockUnset = s.lkp.clockUnset := by have := congrArg Lkp.clockUnset h.lkp; exact this
  have igs : t.igs = s.igs := h.frame .igs (by decide)
  have pcu : t.pcu = s.pcu := h.frame .pcu (by decide)
  have gdu : t.gdu = s.gdu := h.frame .gdu (by decide)
  have tau : t.tau = s.tau := h.frame .tau (by decide)
  have clk : t.clk = s.clk := h.frame .clk (by decide)
  have svs : t.svs = s.svs := h.frame .svs (by decide)
  simp only [State.shared, State.powers, view, chs, clcPower, road, line, nodes, lkpPower, odometer, clock, igs, pcu, gdu,
    tau, clk, svs]

/-- A change of a channel's record that leaves its state. -/
theorem modChannel_shared {ch : ChannelIx} {f : Channel → Channel}
    (same : (f s.pcu.channels[ch]).state = s.pcu.channels[ch].state) : (s.modChannel ch f).shared = s.shared := by
  have states : mapAll (fun c => c.state) (updAt s.pcu.channels ch f) = mapAll (fun c => c.state) s.pcu.channels :=
    mapAll_updAt same
  simp only [State.shared, State.modChannel_channels, states]
  rfl

theorem reply_shared (entry : ReplyEntry) (kind tag : Byte) (resp : Response) :
    (s.reply entry kind tag resp).shared = s.shared := by
  unfold State.reply
  split <;> rfl

theorem endPass_shared (resp : Response) : (endPass resp s).shared = s.shared := by
  unfold endPass
  split
  · rw [reply_shared]; rfl
  · rfl

theorem TakesUpWork.shared {s t : State} (h : TakesUpWork s t) (only : OnlyChanges [.clc, .lkp, .free] s t) :
    t.shared = s.shared := by
  obtain ⟨more, lkp, -⟩ := h.replies
  have power : t.clc.power = s.clc.power := by have := congrArg Clc.power h.clc; exact this
  have road : t.clc.roadLive = s.clc.roadLive := by have := congrArg Clc.roadLive h.clc; exact this
  have line : t.clc.line = s.clc.line := by have := congrArg Clc.line h.clc; exact this
  have nodes : mapAll (fun nd => nd.state) t.clc.nodes = mapAll (fun nd => nd.state) s.clc.nodes :=
    mapAll_congr fun n => by have := congrArg Node.state (h.nodes n); exact this
  have igs : t.igs = s.igs := only .igs (by decide)
  have pcu : t.pcu = s.pcu := only .pcu (by decide)
  have gdu : t.gdu = s.gdu := only .gdu (by decide)
  have tau : t.tau = s.tau := only .tau (by decide)
  have clk : t.clk = s.clk := only .clk (by decide)
  have wtb : t.wtb = s.wtb := only .wtb (by decide)
  have chs : t.chs = s.chs := only .chs (by decide)
  have svs : t.svs = s.svs := only .svs (by decide)
  simp only [State.shared, State.powers, power, road, line, nodes, lkp, igs, pcu, gdu, tau, clk, wtb, chs, svs]

theorem startTransmitter_shared : (startTransmitter s).shared = s.shared := by
  unfold startTransmitter
  split_ifs
  · split <;> rfl
  · rfl

theorem settle_shared : (settle s).shared = s.shared := by
  rw [settle, startTransmitter_shared]
  exact (TakesUpWork.arbiter s).shared (arbiter_only s)

end

end Sys2Proof.Machine
end

section
/-! The tables of points: what a scale table or a tank table gives for a value (R30, R56). -/

namespace Sys2Proof.Machine

-- One theorem at a time, so that a build as one text needs few threads.
set_option Elab.async false

section
variable {v : Int} {p q : Int × Nat} {rest : List (Int × Nat)}

theorem lookupFrom_of_le (below : v ≤ p.1) : lookupFrom v p rest = p.2 := by
  cases rest with
  | nil => rfl
  | cons q rest => exact if_pos below

/-- Beyond the second point the first one no longer counts. -/
theorem lookupFrom_of_ge (rising : p.1 < q.1) (beyond : q.1 ≤ v) : lookupFrom v p (q :: rest) = lookupFrom v q rest := by
  rw [lookupFrom, if_neg (by omega), if_neg (by omega)]

/-- The interpolated value is no less than 0. -/
theorem interpolate_nonneg (after : p.1 ≤ v) (before : v < q.1) :
    0 ≤ (p.2 : Int) + (((q.2 : Int) - p.2) * (v - p.1)).tdiv (q.1 - p.1) := by
  have span : 0 < q.1 - p.1 := by omega
  have large : (q.1 - p.1) * -(p.2 : Int) ≤ ((q.2 : Int) - p.2) * (v - p.1) := by
    have drop : (p.2 : Int) * (v - p.1) ≤ (p.2 : Int) * (q.1 - p.1) :=
      Int.mul_le_mul_of_nonneg_left (by omega) (by omega)
    have gain : 0 ≤ (q.2 : Int) * (v - p.1) := Int.mul_nonneg (by omega) (by omega)
    nlinarith
  have quotient : -(p.2 : Int) ≤ (((q.2 : Int) - p.2) * (v - p.1)).tdiv (q.1 - p.1) := by
    rw [← Int.mul_tdiv_cancel_left (-(p.2 : Int)) span.ne']
    exact Int.tdiv_le_tdiv span large
  omega

theorem lookupFrom_between (after : p.1 ≤ v) (before : v < q.1) : (lookupFrom v p (q :: rest) : Int) =
    p.2 + (((q.2 : Int) - p.2) * (v - p.1)).tdiv (q.1 - p.1) := by
  by_cases first : v ≤ p.1
  · rw [lookupFrom_of_le first, show v - p.1 = 0 by omega]
    simp
  · rw [lookupFrom, if_neg first, if_pos before, Int.toNat_of_nonneg (interpolate_nonneg after before)]

theorem increasing_cons_cons : increasing (p :: q :: rest) = true ↔ p.1 < q.1 ∧ increasing (q :: rest) = true := by
  simp [increasing]

/-- In an increasing table no point lies below the first. -/
theorem le_of_increasing (rising : increasing (p :: rest) = true) (mem : q ∈ p :: rest) : p.1 ≤ q.1 := by
  induction rest generalizing p with
  | nil => rw [List.mem_singleton.mp mem]
  | cons r rest ih =>
    obtain ⟨step, tail⟩ := increasing_cons_cons.mp rising
    rcases List.mem_cons.mp mem with rfl | later
    · exact le_rfl
    · have := ih tail later
      omega

/-- At or beyond the last point the table gives its value. -/
theorem lookupFrom_last (rising : increasing (p :: rest) = true) (last : (p :: rest).getLast? = some q)
    (beyond : q.1 ≤ v) : lookupFrom v p rest = q.2 := by
  induction rest generalizing p with
  | nil =>
    simp only [List.getLast?_singleton, Option.some.injEq] at last
    rw [← last]
    rfl
  | cons r rest ih =>
    obtain ⟨step, tail⟩ := increasing_cons_cons.mp rising
    rw [List.getLast?_cons_cons] at last
    have := le_of_increasing tail (List.mem_of_getLast? last)
    rw [lookupFrom_of_ge step (by omega)]
    exact ih tail last

/-- Between two neighbours the table gives the interpolated value. -/
theorem lookupFrom_neighbours {i : Nat} {a b : Int × Nat} (rising : increasing (p :: rest) = true)
    (left : (p :: rest)[i]? = some a) (right : (p :: rest)[i + 1]? = some b) (after : a.1 ≤ v) (before : v < b.1) :
    (lookupFrom v p rest : Int) = a.2 + (((b.2 : Int) - a.2) * (v - a.1)).tdiv (b.1 - a.1) := by
  induction rest generalizing p i with
  | nil => simp at right
  | cons r rest ih =>
    obtain ⟨step, tail⟩ := increasing_cons_cons.mp rising
    cases i with
    | zero =>
      simp only [List.getElem?_cons_zero, Option.some.injEq, zero_add, List.getElem?_cons_succ] at left right
      subst left right
      exact lookupFrom_between after before
    | succ i =>
      rw [List.getElem?_cons_succ] at left right
      have := le_of_increasing tail (List.mem_of_getElem? left)
      rw [lookupFrom_of_ge step (by omega)]
      exact ih tail left right

end

/-- Settles O36: a table is walked point by point, by induction on its rest. -/
theorem tablesInterpolate : Obligations.TablesInterpolate := by
  unfold Obligations.TablesInterpolate
  intro table v long rising
  match table with
  | [] => simp at long
  | p :: rest =>
    refine ⟨fun q first below => ?_, fun q last beyond => lookupFrom_last rising last beyond,
      fun i a b left right after before => lookupFrom_neighbours rising left right after before⟩
    simp only [List.head?_cons, Option.some.injEq] at first
    subst first
    exact lookupFrom_of_le below

end Sys2Proof.Machine
end

section
/-! The Link Port's notices, RESTART and the transmitter (R189, R190, R191, R192, R193). -/

namespace Sys2Proof.Machine

-- One theorem at a time, so that a build as one text needs few threads.
set_option Elab.async false

/-! ## Notices -/

section
variable {n : Notice} {l : Lkp}

theorem Lkp.takeNotice_off (off : l.mask.getLsbD n.bit = false) : l.takeNotice n = l := if_pos off

theorem Lkp.takeNotice_merged (on : l.mask.getLsbD n.bit = true) (held : ∃ m ∈ l.notices, m.key = n.key) :
    l.takeNotice n = { l with notices := l.notices.map fun m => if m.key = n.key then n else m } := by
  have same : (l.notices.any fun m => m.key = n.key) = true := by simpa using held
  rw [Lkp.takeNotice, if_neg (by simp [on]), if_pos same]

theorem Lkp.takeNotice_dropped (on : l.mask.getLsbD n.bit = true) (other : ∀ m ∈ l.notices, m.key ≠ n.key)
    (full : 12 ≤ l.notices.length) :
    l.takeNotice n = { l with noticesLost := true, lostSets := l.lostSets + 1 } := by
  have none : ¬ (l.notices.any fun m => m.key = n.key) = true := by simpa using other
  rw [Lkp.takeNotice, if_neg (by simp [on]), if_neg none, if_pos full]
  rfl

theorem Lkp.takeNotice_appended (on : l.mask.getLsbD n.bit = true) (other : ∀ m ∈ l.notices, m.key ≠ n.key)
    (room : l.notices.length < 12) : l.takeNotice n = { l with notices := l.notices ++ [n] } := by
  have none : ¬ (l.notices.any fun m => m.key = n.key) = true := by simpa using other
  rw [Lkp.takeNotice, if_neg (by simp [on]), if_neg none, if_neg (Nat.not_le.mpr room)]

end

/-- Settles O17: the four cases of a taken notice, and SET NOTICE MASK by its range. -/
theorem noticesAreTaken : Obligations.NoticesAreTaken := by
  unfold Obligations.NoticesAreTaken
  refine ⟨fun n l => ⟨Lkp.takeNotice_off, Lkp.takeNotice_merged, Lkp.takeNotice_dropped, Lkp.takeNotice_appended⟩,
    fun tag body s serves length => ⟨fun fits => ?_, fun large => ?_⟩⟩
  · refine served_answer serves (decide_eq_true length) ?_
    exact if_neg (Nat.not_le.mpr fits)
  · refine served_refuse serves (decide_eq_true length) ?_
    exact if_pos large

/-! ## RESTART -/

section
variable (s : State)

theorem endPass_of_none (empty : s.clc.pass = none) (resp : Response) : endPass resp s = s := by
  rw [endPass, empty]

/-- A held pass-through is answered with its tag, and its record is emptied. -/
theorem endPass_refuse (reason : Reason) : (endPass (.refuse reason) s).clc.pass = none ∧
    (endPass (.refuse reason) s).lkp = { s.lkp with replies := s.lkp.replies ++ (s.clc.pass.toList.map fun p =>
      { entry := .reserved, kind := 0x7F, tag := p.tag, fields := be1 reason.code ++ [ReqKind.coachPass.code],
        sealed := none }) } := by
  cases held : s.clc.pass with
  | none =>
    rw [endPass_of_none s held]
    exact ⟨held, by simp⟩
  | some p =>
    rw [endPass, held]
    exact ⟨rfl, rfl⟩

/-- With no pass-through held the arbiter leaves the Link Port as it is. -/
theorem arbiter_of_no_pass (empty : s.clc.pass = none) : (arbiter s).lkp = s.lkp ∧ (arbiter s).clc.pass = none := by
  have chooses : ∀ u : State, u.clc.pass = none → (chooseWork u).lkp = u.lkp ∧ (chooseWork u).clc.pass = none := by
    intro u empty
    refine ⟨(chooseWork_only u).lkp_eq (by decide), ?_⟩
    unfold chooseWork
    split <;> exact empty
  have starts : ∀ (n : NodeIx) (u : State), u.clc.pass = none →
      (startPass n u).lkp = u.lkp ∧ (startPass n u).clc.pass = none := by
    intro n u empty
    unfold startPass
    split_ifs
    · exact ⟨rfl, congrArg (Option.map _) empty⟩
    · rw [endPass_of_none u empty]
      exact chooses u empty
  unfold arbiter
  split_ifs
  · split
    · exact starts _ (s.modClc fun c => { c with retry := none }) empty
    · exact ⟨rfl, empty⟩
    · rw [empty]
      exact chooses s empty
  · exact ⟨rfl, empty⟩

/-- With no pass-through held the end of an event places no reply. -/
theorem settle_of_no_pass (empty : s.clc.pass = none) :
    (settle s).lkp.replies.map Reply.content = s.lkp.replies.map Reply.content ∧ (settle s).clc.pass = none := by
  obtain ⟨lkp, pass⟩ := arbiter_of_no_pass s empty
  refine ⟨?_, by rw [settle_clc, pass]⟩
  rw [settle_replies, sealReplies_lkp, lkp, List.map_map]
  rfl

/-- The requests behind RESTART are answered in their order, and leave the buffer. -/
theorem abortBehind_lkp : (abortBehind s).lkp = { s.lkp with
    requests := []
    replies := s.lkp.replies ++ s.lkp.requests.map fun r =>
      { entry := .ordinary, kind := 0x7F, tag := r.tag, fields := be1 Reason.aborted.code ++ [r.kind], sealed := none } } := by
  have places : ∀ (rs : List Request) (s : State),
      (rs.foldl (fun s r => s.reply .ordinary r.kind r.tag (.refuse .aborted)) s).lkp = { s.lkp with
        replies := s.lkp.replies ++ rs.map fun r =>
          { entry := .ordinary, kind := 0x7F, tag := r.tag, fields := be1 Reason.aborted.code ++ [r.kind],
            sealed := none } } := by
    intro rs
    induction rs with
    | nil => simp
    | cons r rs ih =>
      intro s
      rw [List.foldl_cons, ih]
      simp [State.reply, replyOf]
  simp only [abortBehind, State.modLkp_lkp, places]

end

theorem exec_restart {tag : Byte} {s : State} (serves : Serves .restart tag [] s) : exec .restart s =
    .next (answered .restart tag [] ((abortPass (abortBehind (takeRequest s))).modLkp fun l =>
      { l with discardAll := true })) := served_answer serves (by decide) rfl

/-- Settles O18: the replies of the three steps of R193, in their order. -/
theorem restartAnswers : Obligations.RestartAnswers := by
  unfold Obligations.RestartAnswers
  intro tag s serves
  set u := (abortPass (abortBehind (takeRequest s))).modLkp fun l => { l with discardAll := true } with hu
  have pass : u.clc.pass = none := (endPass_refuse (abortBehind (takeRequest s)) .aborted).1
  have lkp : u.lkp = { s.lkp with
      requests := []
      discardAll := true
      replies := s.lkp.replies ++ (s.lkp.requests.tail.map fun r =>
        { entry := .ordinary, kind := 0x7F, tag := r.tag, fields := be1 Reason.aborted.code ++ [r.kind], sealed := none }) ++
        s.clc.pass.toList.map fun p =>
          { entry := .reserved, kind := 0x7F, tag := p.tag, fields := be1 Reason.aborted.code ++ [ReqKind.coachPass.code],
            sealed := none } } := by
    have held : (abortBehind (takeRequest s)).clc = s.clc := (abortBehind_only (takeRequest s)) .clc (by decide)
    have ended := (endPass_refuse (abortBehind (takeRequest s)) .aborted).2
    rw [abortBehind_lkp, held] at ended
    exact congrArg (fun l : Lkp => { l with discardAll := true }) ended
  have only : OnlyChanges [.clc, .lkp] s u :=
    ((((takeRequest_only s).trans (abortBehind_only _)).comp (abortPass_only _)) : OnlyChanges [.clc, .lkp] _ _).comp
      (modLkp_only _ _)
  refine ⟨_, exec_restart serves, ?_⟩
  rw [← hu, answered]
  have placed : (u.reply .ordinary ReqKind.restart.code tag (.answer [])).clc.pass = none := pass
  obtain ⟨frame, -⟩ := settle_lkp (u.reply .ordinary ReqKind.restart.code tag (.answer []))
  obtain ⟨replies, none⟩ := settle_of_no_pass _ placed
  refine ⟨(only.trans ((reply_only u _ _ _ _).mono (by decide))).comp (settle_only _), ?_, ?_, none, ?_⟩
  · have := congrArg Lkp.discardAll frame
    exact this.trans (by simp [State.reply, replyOf, lkp])
  · have := congrArg Lkp.requests frame
    exact this.trans (by simp [State.reply, replyOf, lkp])
  · rw [replies]
    simp only [State.reply, replyOf, State.modLkp_lkp, lkp, List.map_append, List.map_map]
    rfl

/-! ## The transmitter -/

/-- With no work undone the arbiter finds nothing to start (R150). -/
theorem arbiter_of_no_work {s : State} (done : s.clc.lineFree = true → s.clc.retry = none ∧
    (∀ p ∈ s.clc.pass, p.phase ≠ .waiting) ∧ s.clc.firstDue = none ∧ s.clc.mirrorQueue = []) : arbiter s = s := by
  cases free : s.clc.lineFree
  · exact arbiter_of_busy free
  · obtain ⟨retry, pass, due, mirror⟩ := done free
    have nothing : chooseWork s = s := by simp [chooseWork, due, mirror]
    rw [arbiter, if_pos free, retry]
    dsimp only
    split
    · rename_i p held
      rw [if_neg (pass p held), nothing]
    · exact nothing

theorem sealReplies_of_sealed {s : State} (made : ∀ r ∈ s.lkp.replies, r.sealed.isSome = true) : sealReplies s = s := by
  have same : (s.lkp.replies.map fun r =>
      { r with sealed := match r.sealed with | some f => some f | none => some (sealNow s) }) = s.lkp.replies := by
    refine (List.map_congr_left fun r mem => ?_).trans (List.map_id _)
    obtain ⟨f, eq⟩ := Option.isSome_iff_exists.mp (made r mem)
    cases r
    simp_all
  exact congrArg (fun replies => { s with lkp := { s.lkp with replies } }) same

/-- With every reply sealed and no work for the arbiter the end of an event is the transmitter's alone. -/
theorem settle_of_no_work {s : State} (made : ∀ r ∈ s.lkp.replies, r.sealed.isSome = true)
    (done : s.clc.lineFree = true → s.clc.retry = none ∧
      (∀ p ∈ s.clc.pass, p.phase ≠ .waiting) ∧ s.clc.firstDue = none ∧ s.clc.mirrorQueue = []) :
    settle s = startTransmitter s := by
  rw [settle, arbiter_of_no_work done, sealReplies_of_sealed made]

theorem exec_transmissionComplete {s : State} (supplied : s.igs.supplied = true) {lines : InputLines} {f : OutFrame}
    (sending : s.lkp.tx = .sending f) (other : f.isRestartAnswer = false) :
    exec (.transmissionComplete lines) s = .next (settle (s.modLkp (Lkp.frameSent f))) := by
  refine (takeEvent_supplied supplied).trans ?_
  simp [transmissionComplete, sending, other]

theorem exec_gapEnd {s : State} (supplied : s.igs.supplied = true) :
    exec .gapEnd s = .next (settle (gapEnd s)) := takeEvent_supplied supplied

/-- Settles O20: the sent frame, the GAP's end, and what the transmitter then finds to send. -/
theorem transmitterSends : Obligations.TransmitterSends := by
  unfold Obligations.TransmitterSends
  refine ⟨fun lines f s supplied sending other => ?_, fun s => exec_gapEnd, fun s supplied work gap => ?_⟩
  · rw [exec_transmissionComplete supplied sending]
    · rfl
    · cases reply : f.isReply
      · simp [OutFrame.isRestartAnswer, reply]
      · have kind : f.kind ≠ 0x43 := fun kind => other ⟨reply, kind⟩
        exact Bool.and_eq_false_iff.mpr (.inr (decide_eq_false kind))
  · obtain ⟨made, -, done⟩ := work
    have starts : settle (gapEnd s) = startTransmitter (gapEnd s) := settle_of_no_work (s := gapEnd s) made done
    have idle : (gapEnd s).lkp.tx = .idle ∧ (gapEnd s).lkp.txHold = false := by simp [gapEnd, gap]
    refine ⟨_, exec_gapEnd supplied, ?_, ?_, ?_, ?_⟩
    · rw [starts]
      exact (modLkp_only s _).trans (startTransmitter_only _)
    · intro r rest waits
      have waits' : (gapEnd s).lkp.replies = r :: rest := waits
      rw [starts, startTransmitter, if_pos idle, waits']
      obtain ⟨f, sealed⟩ := Option.isSome_iff_exists.mp (made r (waits ▸ List.mem_cons_self))
      exact ⟨_, rfl, rfl, rfl, rfl, rfl, by simp [Reply.frame, sealed], rfl⟩
    · intro n rest none waits
      have none' : (gapEnd s).lkp.replies = [] := none
      have waits' : (gapEnd s).lkp.notices = n :: rest := waits
      rw [starts, startTransmitter, if_pos idle, none', waits']
      exact ⟨_, rfl, rfl, rfl, rfl, rfl, rfl, rfl⟩
    · intro none nothing
      have none' : (gapEnd s).lkp.replies = [] := none
      have nothing' : (gapEnd s).lkp.notices = [] := nothing
      rw [starts, startTransmitter, if_pos idle, none', nothing']
      exact idle.1

end Sys2Proof.Machine
end

section
/-! The requests that set trips, the destination, the clock and the alarms (R46, R47, R58, R65, R72, R73, R75, R77, R80). -/

namespace Sys2Proof.Machine

-- One theorem at a time, so that a build as one text needs few threads.
set_option Elab.async false

/-! ## Marks behind other changes -/

section
variable {i : MirrorItem} {s t u : State}

/-- A mark on a state with the line and the slots of another marks for that one too. -/
theorem Marked.of_frame (line : t.clc.line = s.clc.line) (nodes : t.clc.nodes = s.clc.nodes) (marked : Marked i t u) :
    Marked i s u := by
  intro up n st set
  rw [← line] at up
  exact marked up n (by rw [nodes]; exact st) (by rw [nodes]; exact set)

/-- What keeps the pairs that wait keeps a mark. -/
theorem Marked.then (marked : Marked i s t) (holds : t.clc.mirrorQueue ⊆ u.clc.mirrorQueue) : Marked i s u :=
  fun up n st set => holds (marked up n st set)

theorem ByProducts.line_eq (h : ByProducts s t) : t.clc.line = s.clc.line := by
  have := congrArg Clc.line h.clc
  exact this

theorem ByProducts.nodes_eq (h : ByProducts s t) : t.clc.nodes = s.clc.nodes := by
  have := congrArg Clc.nodes h.clc
  exact this

theorem ByProducts.view_eq (h : ByProducts s t) : t.wtb.view = s.wtb.view := by
  have := congrArg Wtb.view h.wtb
  exact this

theorem ByProducts.clockUnset_eq (h : ByProducts s t) : t.lkp.clockUnset = s.lkp.clockUnset := by
  have := congrArg Lkp.clockUnset h.lkp
  exact this

end

/-! ## Trips and the destination -/

section
variable {tag : Byte} {body : List Byte} {s : State}

theorem TripAction.lt_of_ofCode {k : Nat} {a : TripAction} (read : TripAction.ofCode k = some a) : k < 4 := by
  unfold TripAction.ofCode at read
  split at read
  case h_5 => cases read
  all_goals decide

/-- The fields of TRIP CONTROL (R46). -/
theorem tripControlFields_eq_some {t : TripIx} {a : TripAction} :
    tripControlFields body = some (t, a) ↔ u8 body 0 = t ∧ TripAction.ofCode (u8 body 1) = some a := by
  simp only [tripControlFields, bind, Option.bind_eq_some_iff, pure, Option.some.injEq, Prod.mk.injEq, ixOf_eq_some]
  constructor
  · rintro ⟨_, trip, _, action, rfl, rfl⟩
    exact ⟨trip, action⟩
  · rintro ⟨trip, action⟩
    exact ⟨_, trip, _, action, rfl, rfl⟩

theorem tripControlFields_eq_none (out : 4 ≤ u8 body 0 ∨ 4 ≤ u8 body 1) : tripControlFields body = none := by
  rw [Option.eq_none_iff_forall_ne_some]
  rintro ⟨t, a⟩ fields
  obtain ⟨trip, action⟩ := tripControlFields_eq_some.mp fields
  have := t.isLt
  have := TripAction.lt_of_ofCode action
  omega

theorem exec_tripControl {t : TripIx} {a : TripAction} (serves : Serves .tripControl tag body s)
    (length : body.length = 2) (trip : u8 body 0 = t) (action : TripAction.ofCode (u8 body 1) = some a) :
    (∀ s1, tripControl (t, a) (takeRequest s) = (s1, .answer []) →
      exec .tripControl s = .next (answered .tripControl tag [] s1)) ∧
    (tripControl (t, a) (takeRequest s) = (takeRequest s, .refuse .state) →
      exec .tripControl s = .next (turnedDown ReqKind.tripControl.code tag .state s)) := by
  have fields := tripControlFields_eq_some.mpr ⟨trip, action⟩
  exact ⟨fun s1 acts => served_answer serves (decide_eq_true length) (by rw [ownTripControl, fields]; exact acts),
    fun acts => served_refuse serves (decide_eq_true length) (by rw [ownTripControl, fields]; exact acts)⟩

/-- What the actions other than RESET make of a trip (Table 20). -/
theorem tripControl_next {t : TripIx} {a : TripAction} (other : a ≠ .reset) (u : State) : tripControl (t, a) u =
    match a.next u.tau.trips[t].state with
    | some st => emptyAnswer (setTripState t st u)
    | none => refused .state u := by
  cases a
  case reset => exact absurd rfl other
  all_goals rfl

end

/-- Settles O39: TRIP CONTROL by the action and the trip's state, SET DESTINATION by the distance. -/
theorem tripRequestsAnswer : Obligations.TripRequestsAnswer := by
  unfold Obligations.TripRequestsAnswer
  refine ⟨fun tag body s serves length => ⟨fun out => ?_, fun t trip => ⟨?_, ?_, ?_, ?_⟩⟩,
    fun tag body s serves length => ⟨fun large notAbsent => ?_, fun fits => ?_⟩⟩
  · exact served_refuse serves (decide_eq_true length) (by rw [ownTripControl, tripControlFields_eq_none out]; rfl)
  · intro action
    have acts := exec_tripControl serves length trip (a := .reset) (by rw [action]; rfl)
    exact acts.1 _ rfl
  · intro action
    have acts := exec_tripControl serves length trip (a := .pause) (by rw [action]; rfl)
    rw [tripControl_next (by decide), takeRequest_tau] at acts
    cases state : s.tau.trips[t].state <;> rw [state] at acts
    · exact acts.2 rfl
    · exact acts.1 _ rfl
    · exact acts.2 rfl
  · intro action
    have acts := exec_tripControl serves length trip (a := .resume) (by rw [action]; rfl)
    rw [tripControl_next (by decide), takeRequest_tau] at acts
    cases state : s.tau.trips[t].state <;> rw [state] at acts
    · exact acts.2 rfl
    · exact acts.2 rfl
    · exact acts.1 _ rfl
  · intro action
    have acts := exec_tripControl serves length trip (a := .close) (by rw [action]; rfl)
    rw [tripControl_next (by decide), takeRequest_tau] at acts
    cases state : s.tau.trips[t].state <;> rw [state] at acts
    · exact acts.2 rfl
    · exact acts.1 _ rfl
    · exact acts.1 _ rfl
  · have fields : destinationField (u24 body 0) = none := by
      rw [destinationField, if_neg (by omega), within_eq_none.mpr (by omega)]
      rfl
    exact served_refuse serves (decide_eq_true length) (by rw [ownSetDestination, fields]; rfl)
  · have fields : destinationField (u24 body 0) =
        some (if u24 body 0 = 0 ∨ u24 body 0 = 0xFFFFFF then none else some (u24 body 0)) := by
      unfold destinationField
      split_ifs
      · rfl
      · rw [within_eq_some.mpr ⟨rfl, by omega, by omega⟩]
        rfl
    exact served_answer serves (decide_eq_true length) (by rw [ownSetDestination, fields]; rfl)

/-! ## The clock and the alarms -/

section
variable {tag : Byte} {body : List Byte} {s : State}

/-- The clock takes the time and is SET, with a second of the present trim (R72). -/
theorem setClockTo_clk (t : ClockTime) (s : State) : (setClockTo t s).clk =
    { s.clk with time := t, state := .set, secondLength := (1000000 - 2 * s.clk.trim).toNat } := by
  have marks : ∀ u : State, (mark .clock u).clk = u.clk := fun u => (mark_only u _) .clk (by decide)
  have hands : ∀ (c : ClockState) (u : State), (handClockState c u).clk = u.clk :=
    fun c u => (handClockState_only u c) .clk (by decide)
  unfold setClockTo
  dsimp only
  rw [marks]
  split_ifs
  · rw [hands]; rfl
  · rfl

/-- A change of the clock's state: the copies change, the rest are by-products. -/
theorem handClockState_byProducts (c : ClockState) (s : State) :
    ByProducts ((lkpClock c s).modWarnView fun x => { x with clock := c }) (handClockState c s) := by
  unfold handClockState wtbClock
  exact .wtbTake _ _ _

theorem handClockState_clockUnset (c : ClockState) (s : State) :
    (handClockState c s).lkp.clockUnset = decide (c = .unset) := by
  rw [(handClockState_byProducts c s).clockUnset_eq]
  rfl

/-- A set of the clock marks CLOCK (R65, R72). -/
theorem setClockTo_marked (t : ClockTime) (s : State) : Marked .clock s (setClockTo t s) := by
  have hands := handClockState_byProducts .set
    (s.modClk fun c => { c with time := t, state := .set, secondLength := trimmedSecond c.trim })
  unfold setClockTo
  dsimp only
  refine Marked.of_frame ?_ ?_ (marked_mark _ _)
  · split_ifs
    · rw [hands.line_eq]; rfl
    · rfl
  · split_ifs
    · rw [hands.nodes_eq]; rfl
    · rfl

/-- A clock that becomes SET is handed (R72). -/
theorem setClockTo_handed (t : ClockTime) {s : State} (unset : s.clk.state = .unset) :
    (setClockTo t s).wtb.view.clock = .set ∧ (setClockTo t s).lkp.clockUnset = false := by
  have hands := handClockState_byProducts .set
    (s.modClk fun c => { c with time := t, state := .set, secondLength := trimmedSecond c.trim })
  have marks := fun u : State => mark_only u .clock
  unfold setClockTo
  dsimp only
  rw [if_pos unset, marks _ .wtb (by decide), (marks _).lkp_eq (by decide), hands.view_eq, handClockState_clockUnset]
  exact ⟨rfl, rfl⟩

theorem setClockTo_unhanded (t : ClockTime) {s : State} (set : s.clk.state = .set) :
    (setClockTo t s).wtb = s.wtb ∧ (setClockTo t s).chs = s.chs ∧ (setClockTo t s).lkp = s.lkp := by
  unfold setClockTo
  dsimp only
  rw [if_neg (by rw [set]; decide)]
  exact ⟨rfl, rfl, rfl⟩

theorem AlarmRepeat.lt_of_ofCode {k : Nat} {rep : AlarmRepeat} (read : AlarmRepeat.ofCode k = some rep) : k < 2 := by
  unfold AlarmRepeat.ofCode at read
  split at read
  case h_3 => cases read
  all_goals decide

/-- The fields of SET ALARM (R77). -/
theorem alarmFields_eq_some {a : AlarmIx} {x : Alarm} : alarmFields body = some (a, x) ↔
    u8 body 0 = a ∧ u8 body 1 = x.enabled.toNat ∧ (u8 body 2 = x.hour ∧ x.hour ≤ 23) ∧
      (u8 body 3 = x.minute ∧ x.minute ≤ 59) ∧ u8 body 4 = x.dayMask.toNat ∧
      AlarmRepeat.ofCode (u8 body 5) = some x.rep ∧ u8 body 6 = x.pattern ∧
      Destination.ofCode (u8 body 7) = some x.dest := by
  simp only [alarmFields, bind, Option.bind_eq_some_iff, pure, Option.some.injEq, Prod.mk.injEq, ixOf_eq_some,
    flagOf_eq_some, within_eq_some]
  constructor
  · rintro ⟨_, ix, _, on, _, ⟨hour, -, hourIn⟩, _, ⟨minute, -, minuteIn⟩, _, ⟨days, -, daysIn⟩, _, rep, _, pattern, _,
      dest, rfl, rfl⟩
    refine ⟨ix, on, ⟨hour, hour ▸ hourIn⟩, ⟨minute, minute ▸ minuteIn⟩, ?_, rep, pattern, dest⟩
    rw [BitVec.toNat_ofNat]
    omega
  · rintro ⟨ix, on, ⟨hour, hourIn⟩, ⟨minute, minuteIn⟩, days, rep, pattern, dest⟩
    have daysIn := x.dayMask.isLt
    exact ⟨_, ix, _, on, _, ⟨hour, by omega, by omega⟩, _, ⟨minute, by omega, by omega⟩, _, ⟨days, by omega, by omega⟩,
      _, rep, _, pattern, _, dest, rfl, by simp⟩

theorem alarmFields_eq_none (out : 4 ≤ u8 body 0 ∨ 2 ≤ u8 body 1 ∨ 24 ≤ u8 body 2 ∨ 60 ≤ u8 body 3 ∨ 128 ≤ u8 body 4 ∨
    2 ≤ u8 body 5 ∨ 8 ≤ u8 body 6 ∨ 3 ≤ u8 body 7) : alarmFields body = none := by
  rw [Option.eq_none_iff_forall_ne_some]
  rintro ⟨a, x⟩ fields
  obtain ⟨ix, on, ⟨hour, hourIn⟩, ⟨minute, minuteIn⟩, days, rep, pattern, dest⟩ := alarmFields_eq_some.mp fields
  have := a.isLt
  have := Bool.toNat_le x.enabled
  have := x.dayMask.isLt
  have := AlarmRepeat.lt_of_ofCode rep
  have := x.pattern.isLt
  have := Destination.lt_of_ofCode dest
  omega

theorem clockOptionFields_eq_none (out : 2 ≤ u8 body 0 ∨ s8 body 1 < -31 ∨ 31 < s8 body 1) :
    clockOptionFields body = none := by
  rw [Option.eq_none_iff_forall_ne_some]
  rintro ⟨lock, trim⟩ fields
  simp only [clockOptionFields, bind, Option.bind_eq_some_iff, flagOf_eq_some, Option.ite_none_right_eq_some] at fields
  obtain ⟨b, flag, range, -⟩ := fields
  have := Bool.toNat_le b
  omega

theorem clockOptionFields_eq_some {lock : Bool} (flag : u8 body 0 = lock.toNat) (low : -31 ≤ s8 body 1)
    (high : s8 body 1 ≤ 31) : clockOptionFields body = some (lock, s8 body 1) := by
  simp [clockOptionFields, flagOf_eq_some.mpr flag, low, high]

end

/-- Settles O42: SET CLOCK by the checks of R73 and the clock's state, SET ALARM and SET CLOCK OPTIONS by their
fields. -/
theorem clockRequestsAnswer : Obligations.ClockRequestsAnswer := by
  unfold Obligations.ClockRequestsAnswer
  refine ⟨fun tag body s serves length => ?_, fun tag body s serves length => ⟨fun out => ?_,
    fun a x ix on hour hourIn minute minuteIn days rep pattern dest => ?_⟩,
    fun tag body s serves length => ⟨fun out => ?_, fun lock flag low high => ?_⟩⟩
  · let t : ClockTime :=
      { year := u16 body 0, month := u8 body 2, day := u8 body 3, hour := u8 body 4, minute := u8 body 5,
        second := u8 body 6 }
    have exists_iff := t.valid_iff
    simp only [t, daysInMonth] at exists_iff
    refine ⟨fun bad => ?_, fun good => ?_⟩
    · have invalid : t.valid ≠ true := fun valid => by
        have := exists_iff.mp valid
        omega
      have fields : clockFields body = none := if_neg invalid
      exact served_refuse serves (decide_eq_true length) (by rw [ownSetClock, fields]; rfl)
    · have valid : t.valid = true := exists_iff.mpr (by omega)
      have fields : clockFields body = some t := if_pos valid
      refine ⟨setClockTo t (takeRequest s),
        served_answer serves (decide_eq_true length) (by rw [ownSetClock, fields]; rfl),
        (takeRequest_only s).comp (setClockTo_only _ _), setClockTo_marked t (takeRequest s), setClockTo_clk t _,
        fun unset => setClockTo_handed t (s := takeRequest s) unset,
        fun set => setClockTo_unhanded t (s := takeRequest s) set⟩
  · exact served_refuse serves (decide_eq_true length) (by rw [ownSetAlarm, alarmFields_eq_none out]; rfl)
  · have fields := alarmFields_eq_some.mpr ⟨ix, on, ⟨hour, hourIn⟩, ⟨minute, minuteIn⟩, days, rep, pattern, dest⟩
    exact served_answer serves (decide_eq_true length) (by rw [ownSetAlarm, fields]; rfl)
  · exact served_refuse serves (decide_eq_true length) (by rw [ownSetClockOptions, clockOptionFields_eq_none out]; rfl)
  · exact served_answer serves (decide_eq_true length)
      (by rw [ownSetClockOptions, clockOptionFields_eq_some flag low high]; rfl)

end Sys2Proof.Machine
end

section
/-! The small steps the WTB and the CHS take, and what holds across each of them; with it, that they change the Coach
Line by marks alone (R65, R94, R95, R97, R123, R154). -/

namespace Sys2Proof.Machine

-- One theorem at a time, so that a build as one text needs few threads.
set_option Elab.async false

/-- A change of an entry that leaves what it is evaluated from: its configuration and its two flags. -/
def KeepsFlags (f : Entry → Entry) : Prop :=
  ∀ e, (f e).cfg = e.cfg ∧ (f e).eventPending = e.eventPending ∧ (f e).linkCondition = e.linkCondition

/-- What holds across each of the small steps an evaluation and what it hands take. -/
structure EvalWalk (R : State → State → Prop) : Prop where
  refl : ∀ s, R s s
  trans : ∀ {s t u}, R s t → R t u → R s u
  entry : ∀ w (f : Entry → Entry) s, KeepsFlags f → R s (s.modEntry w f)
  chs : ∀ f s, R s (s.modChs f)
  notify : ∀ n s, R s (s.notify n)
  mark : ∀ i s, R s (Machine.mark i s)

namespace EvalWalk
variable {R : State → State → Prop} (h : EvalWalk R)
include h

theorem foldl {α : Type} {f : State → α → State} (each : ∀ s a, R s (f s a)) (l : List α) (s : State) :
    R s (l.foldl f s) := List.foldlRecOn l f (h.refl s) fun t before a _ => h.trans before (each t a)

theorem eachIx {n : Nat} {f : Fin n → State → State} (each : ∀ i s, R s (f i s)) (s : State) :
    R s (Machine.eachIx n f s) := h.foldl (fun s i => each i s) _ s

theorem wtbRequestEnd (w : EntryIx) (s : State) : R s (Machine.wtbRequestEnd w s) := by
  unfold Machine.wtbRequestEnd
  split_ifs
  · split
    · exact h.entry w _ s (by exact fun _ => ⟨rfl, rfl, rfl⟩)
    · exact h.refl s
  · exact h.refl s

theorem handEnd (o : ChimeOutcome) (r : ChimeRequest) (s : State) : R s (Machine.handEnd o r s) := by
  unfold Machine.handEnd
  split
  · exact h.wtbRequestEnd _ s
  · split
    · exact h.notify _ s
    · exact h.refl s
  · exact h.refl s
  · exact h.refl s

theorem handNotQueued (src : ChimeSource) (s : State) : R s (Machine.handNotQueued src s) := by
  unfold Machine.handNotQueued
  split
  · exact h.wtbRequestEnd _ s
  all_goals exact h.refl s

theorem takeChime (r : ChimeRequest) (s : State) : R s (Machine.takeChime r s).1 := by
  unfold Machine.takeChime
  split
  · split_ifs
    · dsimp only
      exact h.trans (h.handEnd _ _ s) (h.chs _ _)
    · exact h.refl s
  · split_ifs
    · dsimp only
      exact h.chs _ s
    · split
      · split_ifs
        · dsimp only
          exact h.trans (h.handEnd _ _ s) (h.chs _ _)
        · exact h.handNotQueued _ s
      · exact h.handNotQueued _ s

theorem removeChime (src : ChimeSource) (s : State) : R s (Machine.removeChime src s) := h.chs _ s

theorem segmentEnd (s : State) : R s (Machine.segmentEnd s) := by
  unfold Machine.segmentEnd
  split
  · split_ifs
    · exact h.chs _ s
    · split
      · exact h.chs _ s
      · split_ifs
        · exact h.trans (h.chs _ s) (h.handEnd _ _ _)
        · exact h.chs _ s
  · exact h.refl s

theorem reportEntry (w : EntryIx) (old new : EntryState) (s : State) : R s (Machine.reportEntry w old new s) := by
  unfold Machine.reportEntry
  split_ifs
  · exact h.trans (h.notify _ s) (h.mark _ _)
  · exact h.notify _ s

theorem handWarningChime (w : EntryIx) (s : State) : R s (Machine.handWarningChime w s) := by
  unfold Machine.handWarningChime
  split
  · exact h.takeChime _ s
  · exact h.refl s

/-- An entry changes its state, hands the CHS what goes with it, and reports the change (R94, R95, R97). -/
theorem entryChange {w : EntryIx} {f : Entry → Entry} {chime : State → State} (old new : EntryState)
    (flags : KeepsFlags f) (hands : ∀ s, R s (chime s)) (s : State) :
    R s (Machine.reportEntry w old new (chime (s.modEntry w f))) :=
  h.trans (h.trans (h.entry w f s flags) (hands _)) (h.reportEntry w old new _)

theorem enterActive (w : EntryIx) (s : State) : R s (Machine.enterActive w s) :=
  h.entryChange _ _ (by exact fun _ => ⟨rfl, rfl, rfl⟩) (h.handWarningChime w) s

theorem leaveActive (w : EntryIx) (new : EntryState) (s : State) : R s (Machine.leaveActive w new s) :=
  h.entryChange _ _ (by exact fun _ => ⟨rfl, rfl, rfl⟩) (h.removeChime _) s

theorem enterPending (w : EntryIx) (s : State) : R s (Machine.enterPending w s) :=
  h.entryChange (chime := id) _ _ (by exact fun _ => ⟨rfl, rfl, rfl⟩) h.refl s

theorem enterIdle (w : EntryIx) (s : State) : R s (Machine.enterIdle w s) :=
  h.entryChange (chime := id) _ _ (by exact fun _ => ⟨rfl, rfl, rfl⟩) h.refl s

theorem moveEntry (w : EntryIx) (condition : Bool) (s : State) : R s (Machine.moveEntry w condition s) := by
  unfold Machine.moveEntry
  split
  · split_ifs
    · exact h.enterActive w s
    · exact h.enterPending w s
  · exact h.enterIdle w s
  · exact h.leaveActive w _ s
  · exact h.enterIdle w s
  · exact h.enterActive w s
  all_goals exact h.refl s

theorem evaluateEntry (w : EntryIx) (s : State) : R s (Machine.evaluateEntry w s) := by
  unfold Machine.evaluateEntry
  dsimp only
  split_ifs
  · exact h.refl s
  · exact h.trans (h.entry w _ s (by exact fun _ => ⟨rfl, rfl, rfl⟩)) (h.moveEntry w _ _)

theorem evaluateWhere (test : EntryConfig → Bool) (s : State) : R s (Machine.evaluateWhere test s) := by
  refine h.eachIx (fun w s => ?_) s
  split_ifs
  · exact h.evaluateEntry w s
  · exact h.refl s

/-- A change the WTB takes: its copies change as given, then the entries are evaluated. -/
theorem wtbTake (f : WarnView → WarnView) (test : EntryConfig → Bool) (s : State) :
    R (s.modWarnView f) (Machine.wtbTake f test s) := h.evaluateWhere test _

end EvalWalk

/-- What holds across each of the small steps the WTB and the CHS take. -/
structure WarnWalk (R : State → State → Prop) : Prop extends EvalWalk R where
  entries : ∀ (f : Vector Entry 32 → Vector Entry 32) s, R s (s.modWtb fun t => { t with entries := f t.entries })

namespace WarnWalk
variable {R : State → State → Prop} (h : WarnWalk R)
include h

theorem anyEntry (w : EntryIx) (f : Entry → Entry) (s : State) : R s (s.modEntry w f) := h.entries (updAt · w f) s

theorem wtbArrival (s : State) : R s (Machine.wtbArrival s) := by
  unfold Machine.wtbArrival
  dsimp only
  exact h.trans (h.entries (mapAll _) s) (h.evaluateWhere _ _)

theorem clearArrival (w : EntryIx) (s : State) : R s (Machine.clearArrival w s) := by
  unfold Machine.clearArrival
  split_ifs
  · exact h.trans (h.anyEntry w _ s) (h.moveEntry w _ _)
  · exact h.refl s

theorem acknowledgeEntry (w : EntryIx) (s : State) : R s (Machine.acknowledgeEntry w s).1 := by
  unfold Machine.acknowledgeEntry
  split
  · exact h.trans (h.leaveActive w _ s) (h.clearArrival w _)
  · exact h.trans (h.enterIdle w s) (h.clearArrival w _)
  all_goals exact h.refl s

theorem acknowledgeWhere (test : EntryIx → EntryConfig → Bool) (s : State) :
    R s (Machine.acknowledgeWhere test s).1 := by
  unfold Machine.acknowledgeWhere
  refine List.foldlRecOn (motive := fun p : State × Nat => R s p.1) _ _ (h.refl s) fun p before w _ => ?_
  split_ifs
  · exact h.trans before (h.acknowledgeEntry w p.1)
  · exact before

theorem parkEntry (w : EntryIx) (s : State) : R s (Machine.parkEntry w s) := by
  unfold Machine.parkEntry
  dsimp only
  refine h.trans ?_ (h.anyEntry w _ _)
  split
  · exact h.leaveActive w _ s
  · exact h.enterIdle w s
  · exact h.enterIdle w s
  · exact h.enterIdle w s
  · exact h.refl s

end WarnWalk

/-! ## Marks -/

/-- Between two states the Coach Line differs by marks alone. -/
def MarksOnly (s t : State) : Prop := ∃ items : List MirrorItem, t.clc = items.foldl (fun c i => c.mark i) s.clc

namespace MarksOnly
variable {s t u : State}

theorem of_clc_eq (same : t.clc = s.clc) : MarksOnly s t := ⟨[], same⟩

theorem of_only {ps : List Part} (h : OnlyChanges ps s t) (hp : Part.clc ∉ ps := by decide) : MarksOnly s t :=
  of_clc_eq (h .clc hp)

theorem refl (s : State) : MarksOnly s s := of_clc_eq rfl

theorem trans (h : MarksOnly s t) (k : MarksOnly t u) : MarksOnly s u := by
  obtain ⟨items, first⟩ := h
  obtain ⟨more, second⟩ := k
  exact ⟨items ++ more, by rw [second, first, List.foldl_append]⟩

theorem mark (i : MirrorItem) (s : State) : MarksOnly s (Machine.mark i s) := ⟨[i], rfl⟩

theorem keeps (h : MarksOnly s t) : { t.clc with mirrorQueue := s.clc.mirrorQueue } = s.clc := by
  obtain ⟨items, eq⟩ := h
  rw [eq]
  exact List.foldlRecOn (motive := fun c : Clc => { c with mirrorQueue := s.clc.mirrorQueue } = s.clc) _ _ rfl
    fun c same i _ => Clc.keeps_trans same (Clc.mark_keeps i c)

/-- Marks keep every pair that waits (R155). -/
theorem holds (h : MarksOnly s t) : s.clc.mirrorQueue ⊆ t.clc.mirrorQueue := by
  obtain ⟨items, eq⟩ := h
  rw [eq]
  exact List.foldlRecOn (motive := fun c : Clc => s.clc.mirrorQueue ⊆ c.mirrorQueue) _ _ (List.Subset.refl _)
    fun c before i _ => List.Subset.trans before (Clc.markFor_foldl_holds i _ c)

theorem line_eq (h : MarksOnly s t) : t.clc.line = s.clc.line := by
  have := congrArg Clc.line h.keeps
  exact this

theorem nodes_eq (h : MarksOnly s t) : t.clc.nodes = s.clc.nodes := by
  have := congrArg Clc.nodes h.keeps
  exact this

theorem roadLive_eq (h : MarksOnly s t) : t.clc.roadLive = s.clc.roadLive := by
  have := congrArg Clc.roadLive h.keeps
  exact this

/-- Marks after a mark keep it. -/
theorem marked_then {i : MirrorItem} (marked : Marked i s t) (h : MarksOnly t u) : Marked i s u := marked.then h.holds

/-- A mark after marks counts from their start. -/
theorem then_marked {i : MirrorItem} (h : MarksOnly s t) (marked : Marked i t u) : Marked i s u :=
  marked.of_frame h.line_eq h.nodes_eq

theorem walk : WarnWalk MarksOnly where
  refl := refl
  trans := trans
  entry _ _ s _ := of_only (modEntry_only s _ _)
  entries _ s := of_only (modWtb_only s _)
  chs _ s := of_only (modChs_only s _)
  notify n s := of_only (notify_only s n)
  mark := mark

theorem wtbTake (f : WarnView → WarnView) (test : EntryConfig → Bool) (s : State) :
    MarksOnly s (Machine.wtbTake f test s) := (of_only (modWarnView_only s f)).trans (walk.wtbTake f test s)

theorem foldl {α : Type} {f : State → α → State} (each : ∀ s a, MarksOnly s (f s a)) (l : List α) (s : State) :
    MarksOnly s (l.foldl f s) := walk.foldl each l s

theorem eachIx {n : Nat} {f : Fin n → State → State} (each : ∀ i s, MarksOnly s (f i s)) (s : State) :
    MarksOnly s (Machine.eachIx n f s) := walk.eachIx each s

theorem hand {targets : List Block} {take : Block → State → State} (each : ∀ b s, MarksOnly s (take b s)) (s : State) :
    MarksOnly s (Machine.hand targets take s) :=
  (of_only (modFree_only s _)).trans (foldl (fun s b => each b s) _ _)

end MarksOnly

end Sys2Proof.Machine
end

section
/-! What a handing brings about at one of its blocks, and with it what a change of a channel leaves in every block that
takes it (R5, R15, R29, R60, R88). -/

namespace Sys2Proof.Machine

-- One theorem at a time, so that a build as one text needs few threads.
set_option Elab.async false

/-! ## Handings -/

theorem mem_blockOrder (b : Block) (o : List Block) : b ∈ blockOrder o := by
  have all : b ∈ allBlocks := by cases b <;> decide
  by_cases given : b ∈ o
  · exact List.mem_append_left _ (List.mem_dedup.mpr given)
  · exact List.mem_append_right _ (List.mem_filter.mpr ⟨all, by simpa using given⟩)

theorem nodup_blockOrder (o : List Block) : (blockOrder o).Nodup := by
  refine List.Nodup.append (List.nodup_dedup o) (List.Nodup.filter _ (by decide)) fun b given other => ?_
  have absent := (List.mem_filter.mp other).2
  rw [List.mem_dedup] at given
  simp [given] at absent

/-- What one block's taking brings about, from what the others leave standing, and what the others do not undo, holds at
the end of a handing, in whatever order the blocks take it. -/
theorem hand_reaches {targets : List Block} {take : Block → State → State} {b : Block} {before goal : State → Prop}
    (mem : b ∈ targets) (free : ∀ s f, before s → before (s.modFree f)) (reach : ∀ s, before s → goal (take b s))
    (others : ∀ c s, c ≠ b → before s → before (take c s)) (stays : ∀ c s, c ≠ b → goal s → goal (take c s)) {s : State}
    (start : before s) : goal (hand targets take s) := by
  have walk : ∀ (l : List Block) (s : State), l.Nodup → b ∈ l → before s → goal (l.foldl (fun s c => take c s) s) := by
    intro l
    induction l with
    | nil => intro s _ mem; cases mem
    | cons c l ih =>
      intro s nodup mem start
      obtain ⟨fresh, rest⟩ := List.nodup_cons.mp nodup
      rw [List.foldl_cons]
      by_cases turn : c = b
      · subst turn
        refine List.foldlRecOn (motive := goal) _ _ (reach s start) fun t held d later => stays d t ?_ held
        rintro rfl
        exact fresh later
      · exact ih _ rest (List.mem_of_ne_of_mem (Ne.symm turn) mem) (others c s turn start)
  exact walk _ _ ((nodup_blockOrder _).filter _) (List.mem_filter.mpr ⟨mem_blockOrder b _, by simpa using mem⟩)
    (free s _ start)

/-- A block that a handing does not reach takes nothing. -/
theorem hand_of_idle {targets : List Block} {take : Block → State → State} {goal : State → Prop}
    (free : ∀ s f, goal s → goal (s.modFree f)) (stays : ∀ c s, c ∈ targets → goal s → goal (take c s)) {s : State}
    (start : goal s) : goal (hand targets take s) :=
  List.foldlRecOn (motive := goal) _ _ (free s _ start) fun t held c mem =>
    stays c t (by simpa using (List.mem_filter.mp mem).2) held

/-! ## A change of a channel's state -/

/-- The WTB's copies after a channel takes a state (R87, R88). -/
def WarnView.takeChannel (ch : ChannelIx) (st : ChannelState) (engine road : Bool) (v : WarnView) : WarnView :=
  let quiet : Bool := st = .still ∨ st = .off
  { v with
    channels := v.channels.set ch st
    engineRunning := engine
    roadLive := road
    engineSpeed := if quiet ∧ ch = 1 then 0 else v.engineSpeed
    checkSpeed := if quiet ∧ ch = 4 then 0 else v.checkSpeed
    roadSpeed := if quiet ∧ ch = v.roadSource.channel then 0 else v.roadSpeed }

theorem wtbChannel_view (ch : ChannelIx) (st : ChannelState) (engine road : Bool) (s : State) :
    (wtbChannel ch st engine road s).wtb.view = s.wtb.view.takeChannel ch st engine road := by
  unfold wtbChannel
  dsimp only
  rw [wtbTake_view]
  simp [WarnView.takeChannel]

/-- The TAU after the copies of engine running and road source LIVE are handed (R5, R60). -/
def Tau.takeLive (engine road : Bool) (level : Option Nat) (u : Tau) : Tau :=
  { u with
    engineRunning := engine
    roadLive := road
    levelAtStop := if u.roadLive = true ∧ road = false then level else u.levelAtStop }

/-- The fuel amount of the fuel slot while it is present and FRESH (R60). -/
def State.freshLevel (s : State) : Option Nat := (freshFuelValue s).map s.tau.fuelAmount

theorem tauChannel_tau (engine road : Bool) (s : State) :
    (tauRoadLive road (tauEngine engine s)).tau = s.tau.takeLive engine road s.freshLevel := by
  have fallen (falls : s.tau.roadLive = true ∧ road = false) :
      (tauRoadLive road (tauEngine engine s)).tau = s.tau.takeLive engine road s.freshLevel := by
    have taken : s.tau.roadLive = true ∧ ¬ road = true := ⟨falls.1, by simp [falls.2]⟩
    rw [tauRoadLive, Tau.takeLive, if_pos falls]
    exact (congrArg State.tau (if_pos taken)).trans rfl
  by_cases falls : s.tau.roadLive = true ∧ road = false
  · exact fallen falls
  · have kept : ¬ (s.tau.roadLive = true ∧ ¬ road = true) := by simpa using falls
    rw [tauRoadLive, Tau.takeLive, if_neg falls]
    exact (congrArg State.tau (if_neg kept)).trans rfl

theorem OnlyChanges.wtb_eq {ps : List Part} {s t : State} (h : OnlyChanges ps s t) (hp : Part.wtb ∉ ps) :
    t.wtb = s.wtb := h .wtb hp

theorem OnlyChanges.clc_eq {ps : List Part} {s t : State} (h : OnlyChanges ps s t) (hp : Part.clc ∉ ps) :
    t.clc = s.clc := h .clc hp

/-- What a change of a channel's state is handed from: the record is changed, and where CH0 or CH4 leaves LIVE the speed
disagreement has ended (R15). -/
def channelRecorded (ch : ChannelIx) (f : Channel → Channel) (s : State) : State :=
  if s.pcu.channels[ch].state = .live ∧ (ch = 0 ∨ ch = 4) then leaveLive (s.modChannel ch f) else s.modChannel ch f

theorem setDisagree_view (b : Bool) (s : State) : (setDisagree b s).wtb.view =
    { s.wtb.view with disagree := if s.pcu.disagree = b then s.wtb.view.disagree else b } := by
  unfold setDisagree
  split_ifs
  · rfl
  · rw [wtbDisagree, wtbTake_view]
    rfl

theorem MarksOnly.setDisagree (b : Bool) (s : State) : MarksOnly s (Machine.setDisagree b s) := by
  unfold Machine.setDisagree
  split_ifs
  · exact .refl s
  · exact (of_only (modPcu_only s _)).trans (by unfold wtbDisagree; exact .wtbTake _ _ _)

theorem MarksOnly.leaveLive (s : State) : MarksOnly s (Machine.leaveLive s) :=
  (of_only (modPcu_only s _)).trans (.setDisagree _ _)

section
variable (ch : ChannelIx) (f : Channel → Channel) (s : State)

theorem channelRecorded_only :
    OnlyChanges [.pcu, .wtb, .chs, .clc, .lkp] s (channelRecorded ch f s) := by
  unfold channelRecorded
  split_ifs
  · exact (modChannel_only s _ _).comp (leaveLive_only _)
  · exact (modChannel_only s _ _).mono (by decide)

theorem channelRecorded_view : { (channelRecorded ch f s).wtb.view with disagree := s.wtb.view.disagree } =
    s.wtb.view := by
  unfold channelRecorded
  split_ifs
  · rw [leaveLive, setDisagree_view]; rfl
  · rfl

theorem channelRecorded_marks : MarksOnly s (channelRecorded ch f s) := by
  unfold channelRecorded
  split_ifs
  · exact (MarksOnly.of_only (modChannel_only s _ _)).trans (.leaveLive _)
  · exact .of_only (modChannel_only s _ _)

/-- The other blocks take a channel's state with marks alone at the Coach Line. -/
theorem takeChannel_marks (st : ChannelState) (engine road : Bool) {b : Block} (ne : b ≠ .clc) :
    MarksOnly s (takeChannel ch st engine road b s) := by
  cases b
  case clc => exact absurd rfl ne
  case wtb =>
    unfold takeChannel wtbChannel
    exact .wtbTake _ _ s
  all_goals exact .of_only (takeChannel_parts s ch st engine road _)

theorem channelRecorded_pcu : (channelRecorded ch f s).pcu = { s.pcu with
    channels := updAt s.pcu.channels ch f
    disagree := if s.pcu.channels[ch].state = .live ∧ (ch = 0 ∨ ch = 4) then false else s.pcu.disagree
    cross := if s.pcu.channels[ch].state = .live ∧ (ch = 0 ∨ ch = 4)
      then { s.pcu.cross with disagreeing := 0, agreeing := 0 } else s.pcu.cross } := by
  unfold channelRecorded
  split_ifs
  · rw [leaveLive_pcu]; rfl
  · rfl

end

/-! ### The handing at each block -/

/-- The blocks that take a change of a channel's state (R5). -/
abbrev channelTakers : List Block := [.gdu, .wtb, .tau, .svs, .clc]

/-- Whatever part belongs to one block's taking alone, the others leave. -/
theorem channelParts_other {b c : Block} (ne : c ≠ b) :
    (b = .gdu → Part.gdu ∉ channelParts c) ∧ (b = .wtb → Part.wtb ∉ channelParts c) ∧
      (b = .tau → Part.tau ∉ channelParts c) ∧ (b = .svs → Part.svs ∉ channelParts c) := by
  refine ⟨?_, ?_, ?_, ?_⟩ <;> rintro rfl <;> cases c <;> simp_all [channelParts]

section
variable (ch : ChannelIx) (st : ChannelState) (engine road : Bool) (u : State)

/-- The GDU takes the channel's state (R29, R31). -/
theorem hand_takeChannel_gdu : (hand channelTakers (takeChannel ch st engine road) u).gdu = (gduChannel ch st u).gdu := by
  refine hand_reaches (b := .gdu) (before := fun x => x.gdu = u.gdu) (goal := fun x => x.gdu = (gduChannel ch st u).gdu)
    (by decide) (fun _ _ same => same) (fun x same => ?_) (fun c x ne same => ?_) (fun c x ne same => ?_) rfl
  · change (gduChannel ch st x).gdu = _
    rw [gduChannel, State.modGdu_gdu, same]
    rfl
  · exact ((takeChannel_parts x ch st engine road c).gdu_eq ((channelParts_other ne).1 rfl)).trans same
  · exact ((takeChannel_parts x ch st engine road c).gdu_eq ((channelParts_other ne).1 rfl)).trans same

/-- The WTB's copies take the channel's state (R87, R88). -/
theorem hand_takeChannel_view : (hand channelTakers (takeChannel ch st engine road) u).wtb.view =
    u.wtb.view.takeChannel ch st engine road := by
  have kept : ∀ (c : Block) (x : State), c ≠ .wtb → (takeChannel ch st engine road c x).wtb = x.wtb := fun c x ne =>
    (takeChannel_parts x ch st engine road c).wtb_eq ((channelParts_other ne).2.1 rfl)
  refine hand_reaches (b := .wtb) (before := fun x => x.wtb.view = u.wtb.view)
    (goal := fun x => x.wtb.view = u.wtb.view.takeChannel ch st engine road) (by decide)
    (fun _ _ same => same) (fun x same => ?_) (fun c x ne same => ?_) (fun c x ne same => ?_) rfl
  · have takes : takeChannel ch st engine road .wtb x = wtbChannel ch st engine road x := rfl
    rw [takes, wtbChannel_view, same]
  · rw [kept c x ne, same]
  · rw [kept c x ne, same]

/-- The TAU takes engine running and road source LIVE, whose fall takes the level-at-stop (R60). -/
theorem hand_takeChannel_tau : (hand channelTakers (takeChannel ch st engine road) u).tau =
    u.tau.takeLive engine road u.freshLevel := by
  have kept : ∀ (c : Block) (x : State), c ≠ .tau → (takeChannel ch st engine road c x).tau = x.tau := fun c x ne =>
    (takeChannel_parts x ch st engine road c).tau_eq ((channelParts_other ne).2.2.1 rfl)
  have slots : ∀ (c : Block) (x : State), (takeChannel ch st engine road c x).gdu.slots = x.gdu.slots := by
    intro c x
    cases c
    case gdu => rfl
    all_goals rw [(takeChannel_parts x ch st engine road _).gdu_eq (by decide)]
  refine hand_reaches (b := .tau) (before := fun x => x.tau = u.tau ∧ x.gdu.slots = u.gdu.slots)
    (goal := fun x => x.tau = u.tau.takeLive engine road u.freshLevel) (by decide)
    (fun _ _ same => same) (fun x same => ?_) (fun c x ne same => ?_) (fun c x ne same => ?_) ⟨rfl, rfl⟩
  · obtain ⟨tau, slots⟩ := same
    have level : x.freshLevel = u.freshLevel := by
      unfold State.freshLevel freshFuelValue
      rw [tau, slots]
    change (tauRoadLive road (tauEngine engine x)).tau = _
    rw [tauChannel_tau, tau, level]
  · exact ⟨(kept c x ne).trans same.1, (slots c x).trans same.2⟩
  · exact (kept c x ne).trans same

theorem hand_takeChannel_svs : (hand channelTakers (takeChannel ch st engine road) u).svs =
    { u.svs with roadLive := road } := by
  have kept : ∀ (c : Block) (x : State), c ≠ .svs → (takeChannel ch st engine road c x).svs = x.svs := fun c x ne =>
    (takeChannel_parts x ch st engine road c).svs_eq ((channelParts_other ne).2.2.2 rfl)
  refine hand_reaches (b := .svs) (before := fun x => x.svs = u.svs)
    (goal := fun x => x.svs = { u.svs with roadLive := road }) (by decide)
    (fun _ _ same => same) (fun x same => ?_) (fun c x ne same => ?_) (fun c x ne same => ?_) rfl
  · change (svsRoadLive road x).svs = _
    rw [svsRoadLive, State.modSvs_svs, same]
  · exact (kept c x ne).trans same
  · exact (kept c x ne).trans same

/-- The CLC takes road source LIVE, and a change of it marks ROAD_SPEED (R5, R154). -/
theorem hand_takeChannel_clc : (hand channelTakers (takeChannel ch st engine road) u).clc.roadLive = road ∧
    (u.clc.roadLive ≠ road → Marked .roadSpeed u (hand channelTakers (takeChannel ch st engine road) u)) := by
  refine hand_reaches (b := .clc) (before := fun x => MarksOnly u x)
    (goal := fun x => x.clc.roadLive = road ∧ (u.clc.roadLive ≠ road → Marked .roadSpeed u x)) (by decide)
    (fun _ _ same => same) (fun x marks => ?_) (fun c x ne marks => marks.trans (takeChannel_marks ch x _ _ _ ne))
    (fun c x ne ⟨live, marked⟩ => ?_) (.refl u)
  · change (clcRoadLive road x).clc.roadLive = road ∧ (_ → Marked _ u (clcRoadLive road x))
    unfold clcRoadLive
    split_ifs with eq
    · exact ⟨eq, fun differs => absurd (marks.roadLive_eq.symm.trans eq) differs⟩
    · refine ⟨?_, fun _ => Marked.of_frame (t := x.modClc fun c => { c with roadLive := road }) marks.line_eq
        marks.nodes_eq (marked_mark _ _)⟩
      rw [(MarksOnly.mark _ _).roadLive_eq]
      rfl
  · have more := takeChannel_marks ch x st engine road ne
    exact ⟨more.roadLive_eq.trans live, fun differs => (marked differs).then more.holds⟩

end

/-! ### The change as a whole -/

section
variable {ch : ChannelIx} {f : Channel → Channel} {s : State}

theorem changeChannel_of_same (same : (f s.pcu.channels[ch]).state = s.pcu.channels[ch].state) :
    changeChannel ch f s = s.modChannel ch f := by
  unfold changeChannel
  dsimp only
  rw [if_pos (by rw [State.modChannel_channels, updAt_get_same]; exact same)]

variable (changed : (f s.pcu.channels[ch]).state ≠ s.pcu.channels[ch].state)
include changed

theorem changeChannel_of_changed : changeChannel ch f s =
    hand channelTakers (takeChannel ch (f s.pcu.channels[ch]).state
      (channelRecorded ch f s).pcu.engineRunning (channelRecorded ch f s).pcu.roadLive) (channelRecorded ch f s) := by
  have state : (s.modChannel ch f).pcu.channels[ch].state = (f s.pcu.channels[ch]).state := by
    rw [State.modChannel_channels, updAt_get_same]
  unfold changeChannel
  dsimp only
  rw [if_neg (by rw [state]; exact changed), state]
  rfl

theorem changeChannel_pcu : (changeChannel ch f s).pcu = (channelRecorded ch f s).pcu := by
  rw [changeChannel_of_changed changed, hand_takeChannel_pcu]

theorem changeChannel_gdu :
    (changeChannel ch f s).gdu = (gduChannel ch (f s.pcu.channels[ch]).state s).gdu := by
  have same : (channelRecorded ch f s).gdu = s.gdu := (channelRecorded_only ch f s).gdu_eq (by decide)
  rw [changeChannel_of_changed changed, hand_takeChannel_gdu, gduChannel, gduChannel, State.modGdu_gdu,
    State.modGdu_gdu, same]

theorem changeChannel_view : (changeChannel ch f s).wtb.view =
    (channelRecorded ch f s).wtb.view.takeChannel ch (f s.pcu.channels[ch]).state
      (channelRecorded ch f s).pcu.engineRunning (channelRecorded ch f s).pcu.roadLive := by
  rw [changeChannel_of_changed changed, hand_takeChannel_view]

theorem changeChannel_tau : (changeChannel ch f s).tau =
    s.tau.takeLive (channelRecorded ch f s).pcu.engineRunning (channelRecorded ch f s).pcu.roadLive s.freshLevel := by
  have tau : (channelRecorded ch f s).tau = s.tau := (channelRecorded_only ch f s).tau_eq (by decide)
  have level : (channelRecorded ch f s).freshLevel = s.freshLevel := by
    unfold State.freshLevel freshFuelValue
    rw [tau, (channelRecorded_only ch f s).gdu_eq (by decide)]
  rw [changeChannel_of_changed changed, hand_takeChannel_tau, tau, level]

theorem changeChannel_svs : (changeChannel ch f s).svs =
    { s.svs with roadLive := (channelRecorded ch f s).pcu.roadLive } := by
  have svs : (channelRecorded ch f s).svs = s.svs := (channelRecorded_only ch f s).svs_eq (by decide)
  rw [changeChannel_of_changed changed, hand_takeChannel_svs, svs]

theorem changeChannel_clc : (changeChannel ch f s).clc.roadLive = (channelRecorded ch f s).pcu.roadLive ∧
    (s.clc.roadLive ≠ (channelRecorded ch f s).pcu.roadLive → Marked .roadSpeed s (changeChannel ch f s)) := by
  have marks := channelRecorded_marks ch f s
  rw [changeChannel_of_changed changed]
  obtain ⟨live, marked⟩ := hand_takeChannel_clc ch (f s.pcu.channels[ch]).state
    (channelRecorded ch f s).pcu.engineRunning (channelRecorded ch f s).pcu.roadLive (channelRecorded ch f s)
  exact ⟨live, fun differs => marks.then_marked (marked (by rw [marks.roadLive_eq]; exact differs))⟩

end

end Sys2Proof.Machine
end

section
/-! SET CALIBRATION and SET FUEL OPTIONS: the fields they read, the emptied economy ring and the level-at-stop (R20, R21,
R55, R56, R57, R60, R65). -/

namespace Sys2Proof.Machine

-- One theorem at a time, so that a build as one text needs few threads.
set_option Elab.async false

/-! ## The range and the economy ring -/

section
variable (s : State)

theorem recomputeRange_tau : (recomputeRange s).tau = { s.tau with range := computedRange s } := by
  unfold recomputeRange
  split_ifs with same
  · rw [same]
  · exact (wtbRange_only _ _).tau_eq (by decide)

theorem recomputeRange_marks : MarksOnly s (recomputeRange s) := by
  unfold recomputeRange
  split_ifs
  · exact .refl s
  · exact (MarksOnly.of_only (modTau_only s _)).trans (by unfold wtbRange; exact .wtbTake _ _ _)

/-- An empty ring gives no range (R57). -/
theorem computedRange_of_empty {s : State} (empty : s.tau.ring = []) : computedRange s = none := by
  unfold computedRange
  split
  · rw [empty, if_pos (.inl (by decide))]
  · rfl

/-- The emptied ring leaves no range (R55, R57). -/
theorem emptyRing_tau : (emptyRing s).tau =
    { s.tau with ring := [], bucket := { distance := 0, fuel := 0, seconds := 0 }, range := none } := by
  rw [emptyRing, (mark_only _ _).tau_eq (by decide), recomputeRange_tau, computedRange_of_empty rfl]
  rfl

/-- An emptied ring marks DESTINATION (R65). -/
theorem emptyRing_marked : Marked .destination s (emptyRing s) := by
  have marks : MarksOnly s (recomputeRange (s.modTau fun u => { u with ring := [], bucket := Bucket.zero })) :=
    (MarksOnly.of_only (modTau_only s _)).trans (recomputeRange_marks _)
  exact marks.then_marked (marked_mark _ _)

theorem MarksOnly.setImplausible (b : Bool) : MarksOnly s (Machine.setImplausible b s) := by
  unfold Machine.setImplausible
  split_ifs
  · exact .refl s
  · exact (of_only (modPcu_only s _)).trans (by unfold wtbImplausible; exact .wtbTake _ _ _)

end

/-! ## SET CALIBRATION -/

section
variable {tag : Byte} {body : List Byte} {s : State}

theorem WindowLength.lt_of_ofCode {k : Nat} {w : WindowLength} (read : WindowLength.ofCode k = some w) : k < 4 := by
  unfold WindowLength.ofCode at read
  split at read
  case h_5 => cases read
  all_goals decide

theorem calibrationFields_eq_some {cal : Calibration} : calibrationFields body = some cal ↔
    (u16 body 0 = cal.kd ∧ 1 ≤ cal.kd) ∧ (u16 body 2 = cal.kd2 ∧ 1 ≤ cal.kd2) ∧ (u8 body 4 = cal.kf ∧ 1 ≤ cal.kf) ∧
      (u8 body 5 = cal.ke ∧ 1 ≤ cal.ke ∧ cal.ke ≤ 24) ∧ WindowLength.ofCode (u8 body 6) = some cal.window := by
  have := u16_lt body 0
  have := u16_lt body 2
  have := u8_lt body 4
  simp only [calibrationFields, bind, Option.bind_eq_some_iff, pure, Option.some.injEq, within_eq_some]
  constructor
  · rintro ⟨_, ⟨kd, low, -⟩, _, ⟨kd2, low2, -⟩, _, ⟨kf, low3, -⟩, _, ⟨ke, low4, high4⟩, _, window, rfl⟩
    exact ⟨⟨kd, kd ▸ low⟩, ⟨kd2, kd2 ▸ low2⟩, ⟨kf, kf ▸ low3⟩, ⟨ke, ke ▸ low4, ke ▸ high4⟩, window⟩
  · rintro ⟨⟨kd, low⟩, ⟨kd2, low2⟩, ⟨kf, low3⟩, ⟨ke, low4, high4⟩, window⟩
    exact ⟨_, ⟨kd, by omega, by omega⟩, _, ⟨kd2, by omega, by omega⟩, _, ⟨kf, by omega, by omega⟩, _,
      ⟨ke, by omega, by omega⟩, _, window, rfl⟩

theorem calibrationFields_eq_none (out : u16 body 0 = 0 ∨ u16 body 2 = 0 ∨ u8 body 4 = 0 ∨ u8 body 5 = 0 ∨
    24 < u8 body 5 ∨ 4 ≤ u8 body 6) : calibrationFields body = none := by
  rw [Option.eq_none_iff_forall_ne_some]
  intro cal fields
  obtain ⟨⟨kd, low⟩, ⟨kd2, low2⟩, ⟨kf, low3⟩, ⟨ke, low4, high4⟩, window⟩ := calibrationFields_eq_some.mp fields
  have := WindowLength.lt_of_ofCode window
  omega

/-- An accepted SET CALIBRATION in its parts. -/
theorem setCalibration_eq (cal : Calibration) (s : State) : setCalibration cal s = emptyAnswer
    (if s.pcu.power = .parked
      then emptyRing (setImplausible false (s.modPcu fun p =>
        { p with cal, roadResidue := 0, checkResidue := 0, fuelResidue := 0 }))
      else (emptyRing (setImplausible false (s.modPcu fun p =>
        { p with cal, roadResidue := 0, checkResidue := 0, fuelResidue := 0 }))).modPcu Pcu.freshWindow) := rfl

end

/-- Settles O26: the calibration is written, the ring emptied, and outside PARKED a fresh window starts. -/
theorem setCalibrationAnswers : Obligations.SetCalibrationAnswers := by
  unfold Obligations.SetCalibrationAnswers
  intro tag body s serves length
  refine ⟨fun out => ?_, fun cal kd kd2 kf ke window low low2 low3 low4 high4 => ?_⟩
  · exact served_refuse serves (decide_eq_true length) (by rw [ownSetCalibration, calibrationFields_eq_none out]; rfl)
  · have fields := calibrationFields_eq_some.mpr ⟨⟨kd, low⟩, ⟨kd2, low2⟩, ⟨kf, low3⟩, ⟨ke, low4, high4⟩, window⟩
    set x := setImplausible false ((takeRequest s).modPcu fun p =>
      { p with cal, roadResidue := 0, checkResidue := 0, fuelResidue := 0 }) with hx
    have only : OnlyChanges [.pcu, .wtb, .chs, .clc, .lkp] s x :=
      (((takeRequest_only s).comp (modPcu_only _ _)) : OnlyChanges [.pcu, .lkp] _ _).comp (setImplausible_only _ _)
    have pcu : x.pcu = { s.pcu with
        cal, roadResidue := 0, checkResidue := 0, fuelResidue := 0, implausible := false } := by
      rw [hx, setImplausible_pcu]
      rfl
    have tau : (emptyRing x).tau =
        { s.tau with ring := [], bucket := { distance := 0, fuel := 0, seconds := 0 }, range := none } := by
      rw [emptyRing_tau, only.tau_eq (by decide)]
    have marked : Marked .destination s (emptyRing x) :=
      (((MarksOnly.of_only (takeRequest_only s)).trans (.of_only (modPcu_only _ _))).trans
        (.setImplausible _ _)).then_marked (emptyRing_marked x)
    have emptied : (emptyRing x).pcu = x.pcu := (emptyRing_only x).pcu_eq (by decide)
    have whole : OnlyChanges [.pcu, .tau, .wtb, .chs, .clc, .lkp] s (emptyRing x) := only.comp (emptyRing_only x)
    refine ⟨_, served_answer serves (decide_eq_true length)
      (by rw [ownSetCalibration, fields]; exact setCalibration_eq cal _), ?_⟩
    rw [← hx]
    by_cases parked : s.pcu.power = .parked
    · have parked' : (takeRequest s).pcu.power = .parked := parked
      rw [if_pos parked', if_pos parked, if_pos parked, if_pos parked]
      exact ⟨whole, tau, marked, emptied.trans pcu⟩
    · have running : ¬ (takeRequest s).pcu.power = .parked := parked
      rw [if_neg running, if_neg parked, if_neg parked, if_neg parked]
      refine ⟨whole.comp (modPcu_only _ _), tau, marked, ?_⟩
      rw [State.modPcu_pcu, emptied, pcu]
      rfl

/-! ## SET FUEL OPTIONS -/

/-- A table increases when every point lies below the next. -/
theorem increasing_iff_isChain (t : List (Int × Nat)) : increasing t = true ↔ t.IsChain fun p q => p.1 < q.1 := by
  induction t with
  | nil => simp [increasing]
  | cons p t ih =>
    cases t with
    | nil => simp [increasing]
    | cons q t => rw [increasing_cons_cons, List.isChain_cons_cons, ih]

/-- What a table read from a body increases by. -/
theorem increasing_map_range (f : Nat → Int × Nat) (n : Nat) :
    increasing ((List.range n).map f) = true ↔ ∀ i, i + 1 < n → (f i).1 < (f (i + 1)).1 := by
  rw [increasing_iff_isChain, List.isChain_map, List.isChain_range]
  exact forall_congr' fun i => ⟨fun h lt => h (by omega), fun h lt => h (by omega)⟩

section
variable {body : List Byte}

/-- A field of SET FUEL OPTIONS lies out of its range (R56). -/
abbrev FuelFieldsOut (body : List Byte) : Prop :=
  (8 ≤ u8 body 0 ∧ u8 body 0 ≠ 0xFF) ∨ u16 body 1 = 0 ∨ u16 body 1 = 0xFFFF ∨ u8 body 3 = 0 ∨
    u8 body 4 < 2 ∨ 8 < u8 body 4 ∨
    (∃ i, i + 1 < u8 body 4 ∧ s16 body (5 + 5 * (i + 1)) ≤ s16 body (5 + 5 * i)) ∨
    ∃ i, i < u8 body 4 ∧ 9999999 < u24 body (7 + 5 * i)

/-- The tank table a body carries. -/
abbrev tankOf (body : List Byte) : List (Int × Nat) :=
  (List.range (u8 body 4)).map fun i => (s16 body (5 + 5 * i), u24 body (7 + 5 * i))

theorem tablePoints_tank (body : List Byte) : tablePoints true 5 u24 body 5 (u8 body 4) = tankOf body := by
  refine List.map_congr_left fun i _ => ?_
  rw [show 7 + 5 * i = 5 + 5 * i + 2 by omega]
  rfl

theorem tank_fits_iff : (increasing (tankOf body) = true ∧ (tankOf body).all (fun p => p.2 ≤ Config.maxFuel) = true) ↔
    (∀ i, i + 1 < u8 body 4 → s16 body (5 + 5 * i) < s16 body (5 + 5 * (i + 1))) ∧
      ∀ i, i < u8 body 4 → u24 body (7 + 5 * i) ≤ 9999999 := by
  rw [increasing_map_range]
  refine and_congr_right fun _ => ?_
  simp [tankOf]

theorem fuelFields_eq_some {o : FuelOptions} : fuelFields body = some o ↔
    u8 body 0 = o.slot.elim 0xFF Fin.val ∧ (u16 body 1 = o.threshold ∧ 1 ≤ o.threshold ∧ o.threshold ≤ 65534) ∧
      (u8 body 3 = o.bucketLength ∧ 1 ≤ o.bucketLength) ∧ (2 ≤ u8 body 4 ∧ u8 body 4 ≤ 8) ∧ o.tank = tankOf body ∧
      (increasing (tankOf body) = true ∧ (tankOf body).all (fun p => p.2 ≤ Config.maxFuel) = true) := by
  have := u8_lt body 3
  simp only [fuelFields, bind, Option.bind_eq_some_iff, within_eq_some, Option.ite_none_right_eq_some,
    Option.some.injEq, optionalOf_ixOf_eq_some (show 8 ≤ 0xFF by decide)]
  constructor
  · rintro ⟨_, slot, _, ⟨threshold, low, high⟩, _, ⟨bucket, low', -⟩, _, ⟨rfl, few, many⟩, fits, rfl⟩
    rw [tablePoints_tank] at fits
    exact ⟨slot, ⟨threshold, threshold ▸ low, threshold ▸ high⟩, ⟨bucket, bucket ▸ low'⟩, ⟨few, many⟩,
      tablePoints_tank body, fits⟩
  · rintro ⟨slot, ⟨threshold, low, high⟩, ⟨bucket, low'⟩, ⟨few, many⟩, tank, fits⟩
    refine ⟨_, slot, _, ⟨threshold, by omega, by omega⟩, _, ⟨bucket, by omega, by omega⟩, _, ⟨rfl, few, many⟩, ?_, ?_⟩
    · rw [tablePoints_tank]
      exact fits
    · rw [tablePoints_tank, ← tank]

theorem fuelFields_eq_none (out : FuelFieldsOut body) : fuelFields body = none := by
  rw [Option.eq_none_iff_forall_ne_some]
  intro o fields
  obtain ⟨slot, ⟨threshold, low, high⟩, ⟨bucket, low'⟩, ⟨few, many⟩, -, fits⟩ := fuelFields_eq_some.mp fields
  obtain ⟨rising, small⟩ := tank_fits_iff.mp fits
  rcases out with ⟨large, given⟩ | out | out | out | out | out | ⟨i, lt, falls⟩ | ⟨i, lt, exceeds⟩
  · cases named : o.slot with
    | none =>
      rw [named] at slot
      exact given slot
    | some n =>
      rw [named, Option.elim_some] at slot
      have := n.isLt
      omega
  · omega
  · omega
  · omega
  · omega
  · omega
  · have := rising i lt
    omega
  · have := small i lt
    omega

theorem tank_fits_of_not_out (good : ¬ FuelFieldsOut body) : increasing (tankOf body) = true ∧
    (tankOf body).all (fun p => p.2 ≤ Config.maxFuel) = true := by
  refine tank_fits_iff.mpr ⟨fun i lt => ?_, fun i lt => ?_⟩
  · by_contra falls
    exact good (.inr <| .inr <| .inr <| .inr <| .inr <| .inr <| .inl ⟨i, lt, by omega⟩)
  · by_contra exceeds
    exact good (.inr <| .inr <| .inr <| .inr <| .inr <| .inr <| .inr ⟨i, lt, by omega⟩)

/-- The level-at-stop SET FUEL OPTIONS leaves (R60): taken afresh unless the road source is LIVE. -/
def levelAfresh (s : State) : State :=
  if s.tau.roadLive then s.modTau fun u => { u with levelAtStop := none } else takeLevel s

theorem levelAfresh_only (s : State) : OnlyChanges [.tau] s (levelAfresh s) := by
  unfold levelAfresh
  split_ifs
  · exact modTau_only s _
  · exact takeLevel_only s

theorem levelAfresh_tau (s : State) : (levelAfresh s).tau =
    { s.tau with levelAtStop := if s.tau.roadLive then none else s.freshLevel } := by
  unfold levelAfresh
  split_ifs <;> rfl

theorem setFuelOptions_eq (o : FuelOptions) (s : State) : setFuelOptions o s =
    emptyAnswer (recomputeRange (levelAfresh (emptyRing (s.modTau fun u => { u with fuel := o })))) := rfl

end

/-- Settles O41: the fields of R56, then the options, the emptied ring and the level-at-stop. -/
theorem setFuelOptionsAnswers : Obligations.SetFuelOptionsAnswers := by
  unfold Obligations.SetFuelOptionsAnswers
  intro tag body s serves long length
  have lengthOk : ReqKind.setFuelOptions.lengthOk body = true := by
    simp [ReqKind.lengthOk, countedLength, length]
    omega
  refine ⟨fun bad => ?_, fun o good slot threshold bucket tank => ?_⟩
  · exact served_refuse serves lengthOk (by rw [ownSetFuelOptions, fuelFields_eq_none bad]; rfl)
  · have counts := good
    simp only [not_or, not_and, not_lt] at counts
    obtain ⟨-, low, high, low', few, many, -⟩ := counts
    have fields : fuelFields body = some o := fuelFields_eq_some.mpr ⟨by rw [slot]; cases o.slot <;> rfl,
      ⟨threshold, by omega, by have := u16_lt body 1; omega⟩, ⟨bucket, by omega⟩, ⟨few, many⟩, tank,
      tank_fits_of_not_out good⟩
    set x := emptyRing ((takeRequest s).modTau fun u => { u with fuel := o }) with hx
    have only : OnlyChanges [.tau, .wtb, .chs, .clc, .lkp] s x :=
      (((takeRequest_only s).comp (modTau_only _ _)) : OnlyChanges [.tau, .lkp] _ _).comp (emptyRing_only _)
    have tau : x.tau = { s.tau with
        fuel := o, ring := [], bucket := { distance := 0, fuel := 0, seconds := 0 }, range := none } := by
      rw [hx, emptyRing_tau]
      rfl
    have marked : Marked .destination s x := ((MarksOnly.of_only (takeRequest_only s)).trans
      (.of_only (modTau_only _ _))).then_marked (emptyRing_marked _)
    have level : (levelAfresh x).tau = { x.tau with levelAtStop := if x.tau.roadLive then none else x.freshLevel } :=
      levelAfresh_tau x
    refine ⟨_, served_answer serves lengthOk (by rw [ownSetFuelOptions, fields]; exact setFuelOptions_eq o _), ?_⟩
    rw [← hx]
    refine ⟨(only.comp (levelAfresh_only x) : OnlyChanges [.tau, .wtb, .chs, .clc, .lkp] _ _).comp
      (recomputeRange_only _), ((marked.then ?_).then (recomputeRange_marks _).holds), ?_⟩
    · exact (MarksOnly.of_only (levelAfresh_only x)).holds
    · have empty : (levelAfresh x).tau.ring = [] := by rw [level, tau]
      rw [recomputeRange_tau, computedRange_of_empty empty, level]
      have slots : x.gdu.slots = s.gdu.slots := by rw [only.gdu_eq (by decide)]
      unfold State.freshLevel freshFuelValue
      rw [slots, tau]
      cases s.tau.roadLive
      · cases o.slot with
        | none => rfl
        | some n =>
          simp only [Option.bind_some, Bool.false_eq_true, if_false]
          split_ifs <;> rfl
      · rfl

end Sys2Proof.Machine
end

section
/-! SET CHANNEL, the edges and the stalls of a channel, and the ticks that sample the pulse inputs and the switches (R1,
R4, R5, R8, R15, R20, R29, R31, R60, R84, R88). -/

namespace Sys2Proof.Machine

-- One theorem at a time, so that a build as one text needs few threads.
set_option Elab.async false

/-! ## What the dividers leave -/

/-- Between two states the Coach Line differs by marks, and the WTB's copies in what the dividers' units change. -/
structure CountsOnly (s t : State) : Prop where
  marks : MarksOnly s t
  view : { t.wtb.view with
    items := s.wtb.view.items, range := s.wtb.view.range, implausible := s.wtb.view.implausible } = s.wtb.view

namespace CountsOnly
variable {s t u : State}

theorem of_only {ps : List Part} (h : OnlyChanges ps s t) (clc : Part.clc ∉ ps := by decide)
    (wtb : Part.wtb ∉ ps := by decide) : CountsOnly s t := ⟨.of_only h clc, by rw [h.wtb_eq wtb]⟩

theorem refl (s : State) : CountsOnly s s := ⟨.refl s, rfl⟩

theorem trans (h : CountsOnly s t) (k : CountsOnly t u) : CountsOnly s u := by
  refine ⟨h.marks.trans k.marks, ?_⟩
  have first := h.view
  rw [← k.view] at first
  exact first

theorem channels_eq (h : CountsOnly s t) : t.wtb.view.channels = s.wtb.view.channels := by
  have := congrArg WarnView.channels h.view
  exact this

theorem mark (i : MirrorItem) (s : State) : CountsOnly s (Machine.mark i s) :=
  ⟨.mark i s, by rw [(mark_only s i).wtb_eq (by decide)]⟩

/-- A change the WTB takes of an item, of the range or of the fuel-implausible condition. -/
theorem wtbTake {f : WarnView → WarnView} (test : EntryConfig → Bool) (s : State)
    (copies : ∀ v : WarnView, { f v with items := v.items, range := v.range, implausible := v.implausible } = v) :
    CountsOnly s (Machine.wtbTake f test s) := ⟨.wtbTake f test s, by rw [wtbTake_view]; exact copies _⟩

theorem foldl {α : Type} {f : State → α → State} (each : ∀ s a, CountsOnly s (f s a)) (l : List α) (s : State) :
    CountsOnly s (l.foldl f s) := List.foldlRecOn l f (refl s) fun t before a _ => before.trans (each t a)

theorem eachIx {n : Nat} {f : Fin n → State → State} (each : ∀ i s, CountsOnly s (f i s)) (s : State) :
    CountsOnly s (Machine.eachIx n f s) := foldl (fun s i => each i s) _ s

theorem notify (n : Notice) (s : State) : CountsOnly s (s.notify n) := of_only (notify_only s n)

theorem wtbItem (i : ItemIx) (st : ItemState) (s : State) : CountsOnly s (Machine.wtbItem i st s) := by
  unfold Machine.wtbItem
  exact wtbTake _ _ fun _ => rfl

theorem wtbRange (r : Option Nat) (s : State) : CountsOnly s (Machine.wtbRange r s) := by
  unfold Machine.wtbRange
  exact wtbTake _ _ fun _ => rfl

theorem wtbImplausible (b : Bool) (s : State) : CountsOnly s (Machine.wtbImplausible b s) := by
  unfold Machine.wtbImplausible
  exact wtbTake _ _ fun _ => rfl

theorem recomputeRange (s : State) : CountsOnly s (Machine.recomputeRange s) := by
  unfold Machine.recomputeRange
  split_ifs
  · exact refl s
  · exact (of_only (modTau_only s _)).trans (.wtbRange _ _)

theorem decideItem (i : ItemIx) (s : State) : CountsOnly s (Machine.decideItem i s) := by
  unfold Machine.decideItem
  dsimp only
  split_ifs
  · exact refl s
  · exact ((of_only (modItem_only s i _)).trans (notify _ _)).trans (.wtbItem _ _ _)

theorem countItems (down : ServiceItem → ServiceItem) (s : State) : CountsOnly s (Machine.countItems down s) := by
  refine eachIx (fun i s => ?_) s
  split_ifs
  · exact (of_only (modItem_only s i down)).trans (.decideItem i _)
  · exact refl s

theorem tripDistance (t : TripIx) (s : State) : CountsOnly s (Machine.tripDistance t s) := by
  have counted (f : Trip → Trip) : CountsOnly s (s.modTrip t f) := of_only (modTrip_only s t f)
  unfold Machine.tripDistance
  dsimp only
  split_ifs
  · exact ((counted _).trans (mark _ _)).trans (notify _ _)
  · exact (counted _).trans (notify _ _)
  · exact (counted _).trans (mark _ _)
  · exact counted _
  · exact refl s

theorem bucketDistance (s : State) : CountsOnly s (Machine.bucketDistance s) := by
  unfold Machine.bucketDistance
  dsimp only
  split_ifs
  · exact of_only (modTau_only s _)
  · exact ((of_only (modTau_only s _)).trans (.recomputeRange _)).trans (mark _ _)

theorem wtbArrival (s : State) : CountsOnly s (Machine.wtbArrival s) :=
  ⟨MarksOnly.walk.wtbArrival s, by rw [(ByProducts.wtbArrival s).view_eq]⟩

theorem destinationUnit (s : State) : CountsOnly s (Machine.destinationUnit s) := by
  unfold Machine.destinationUnit
  split
  · split_ifs
    · exact (((of_only (modTau_only s _)).trans (mark _ _)).trans (.wtbArrival _)).trans (notify _ _)
    · exact (of_only (modTau_only s _)).trans (mark _ _)
  · exact refl s

theorem tauDistance (s : State) : CountsOnly s (Machine.tauDistance s) := by
  have odometer : CountsOnly s (odometerUnit s) := of_only (modTau_only s _)
  have trips : CountsOnly s (Machine.eachIx 4 Machine.tripDistance (odometerUnit s)) :=
    odometer.trans (eachIx .tripDistance _)
  have bucket := trips.trans (.bucketDistance _)
  have destination := bucket.trans (.destinationUnit _)
  unfold Machine.tauDistance svsDistance
  exact destination.trans (.countItems _ _)

theorem setImplausible (b : Bool) (s : State) : CountsOnly s (Machine.setImplausible b s) := by
  unfold Machine.setImplausible
  split_ifs
  · exact refl s
  · exact (of_only (modPcu_only s _)).trans (.wtbImplausible _ _)

theorem followImplausible (s : State) : CountsOnly s (Machine.followImplausible s) := by
  unfold Machine.followImplausible
  split_ifs
  · exact .setImplausible _ s
  · exact .setImplausible _ s
  · exact refl s

theorem dividerEdge (ch : ChannelIx) (s : State) : CountsOnly s (Machine.dividerEdge ch s) := by
  have residue (f : Pcu → Pcu) : CountsOnly s (s.modPcu f) := of_only (modPcu_only s f)
  unfold Machine.dividerEdge
  split
  · unfold roadEdge
    dsimp only
    split_ifs
    · exact residue _
    · exact (residue _).trans (.tauDistance _)
    · exact residue _
  · exact refl s
  · unfold supplyEdge
    dsimp only
    split_ifs
    · exact ((residue _).trans (of_only (tauFuel_only _))).trans (.followImplausible _)
    · exact (residue _).trans (.followImplausible _)
  · exact (residue _).trans (.followImplausible _)
  · unfold checkEdge
    dsimp only
    split_ifs
    · exact residue _
    · exact (residue _).trans (.tauDistance _)
    · exact residue _
  · exact refl s

end CountsOnly

/-- The edge's divider leaves the channels' records (Table 6). -/
theorem dividerEdge_channels (ch : ChannelIx) (s : State) : (dividerEdge ch s).pcu.channels = s.pcu.channels := by
  have counts (f : Pcu → Pcu) (same : (f s.pcu).channels = s.pcu.channels) :
      (tauDistance (s.modPcu f)).pcu.channels = s.pcu.channels := by
    rw [(tauDistance_only _).pcu_eq (by decide)]
    exact same
  unfold dividerEdge
  split
  · unfold roadEdge
    dsimp only
    split_ifs
    · rfl
    · exact counts _ rfl
    · rfl
  · rfl
  · rw [supplyEdge_pcu]
  · rw [returnEdge_pcu]
  · unfold checkEdge
    dsimp only
    split_ifs
    · rfl
    · exact counts _ rfl
    · rfl
  · rfl

/-! ## What a change of a channel's state brings about -/

/-- The level-at-stop taken now, by the fuel slot's state (R60). -/
theorem freshLevel_eq (s : State) : s.freshLevel = match s.tau.fuel.slot with
    | some n => if s.gdu.slots[n].state = .fresh then some (tableLookup s.tau.fuel.tank s.gdu.slots[n].value) else none
    | none => none := by
  unfold State.freshLevel freshFuelValue
  cases s.tau.fuel.slot with
  | none => rfl
  | some n =>
    simp only [Option.bind_some]
    split_ifs <;> rfl

section
variable {ch : ChannelIx} {f : Channel → Channel} {s : State}

theorem channelRecorded_roadLive : (channelRecorded ch f s).pcu.roadLive =
    if ch = s.pcu.roadSource.channel then decide ((f s.pcu.channels[ch]).state = .live) else s.pcu.roadLive := by
  rw [channelRecorded_pcu]
  change decide ((updAt s.pcu.channels ch f)[s.pcu.roadSource.channel].state = .live) = _
  rw [updAt_get]
  by_cases source : ch = s.pcu.roadSource.channel
  · rw [if_pos source, if_pos source]
  · rw [if_neg source, if_neg source]
    rfl

/-- A channel that does not become LIVE takes the level-at-stop when it is the road source and leaves LIVE (R60). -/
theorem changeChannel_levelAtStop (changed : (f s.pcu.channels[ch]).state ≠ s.pcu.channels[ch].state)
    (down : (f s.pcu.channels[ch]).state ≠ .live)
    (copy : s.tau.roadLive = true ↔ s.pcu.channels[s.pcu.roadSource.channel].state = .live) :
    (s.pcu.channels[ch].state = .live → ch = s.pcu.roadSource.channel →
      (changeChannel ch f s).tau.roadLive = false ∧ (changeChannel ch f s).tau.levelAtStop = s.freshLevel) ∧
    (¬ (s.pcu.channels[ch].state = .live ∧ ch = s.pcu.roadSource.channel) →
      (changeChannel ch f s).tau.levelAtStop = s.tau.levelAtStop) := by
  rw [changeChannel_tau changed, channelRecorded_roadLive]
  refine ⟨fun live source => ?_, fun other => ?_⟩
  · have was : s.tau.roadLive = true := copy.mpr (source ▸ live)
    rw [if_pos source, decide_eq_false down]
    exact ⟨rfl, if_pos ⟨was, rfl⟩⟩
  · refine if_neg fun ⟨was, fallen⟩ => ?_
    have live := copy.mp was
    split_ifs at fallen with source
    · exact other ⟨source ▸ live, source⟩
    · simp only [Pcu.roadLive, decide_eq_false_iff_not] at fallen
      exact fallen live

/-- The three speeds the WTB holds, after a channel goes STILL or OFF (R88). -/
theorem changeChannel_speeds (changed : (f s.pcu.channels[ch]).state ≠ s.pcu.channels[ch].state)
    (quiet : (f s.pcu.channels[ch]).state = .still ∨ (f s.pcu.channels[ch]).state = .off) :
    (changeChannel ch f s).wtb.view.roadSpeed =
      (if ch = s.wtb.view.roadSource.channel then 0 else s.wtb.view.roadSpeed) ∧
    (changeChannel ch f s).wtb.view.engineSpeed = (if ch = 1 then 0 else s.wtb.view.engineSpeed) ∧
    (changeChannel ch f s).wtb.view.checkSpeed = if ch = 4 then 0 else s.wtb.view.checkSpeed := by
  have kept := channelRecorded_view ch f s
  have source : (channelRecorded ch f s).wtb.view.roadSource = s.wtb.view.roadSource :=
    (congrArg WarnView.roadSource kept :)
  have road : (channelRecorded ch f s).wtb.view.roadSpeed = s.wtb.view.roadSpeed :=
    (congrArg WarnView.roadSpeed kept :)
  have engine : (channelRecorded ch f s).wtb.view.engineSpeed = s.wtb.view.engineSpeed :=
    (congrArg WarnView.engineSpeed kept :)
  have check : (channelRecorded ch f s).wtb.view.checkSpeed = s.wtb.view.checkSpeed :=
    (congrArg WarnView.checkSpeed kept :)
  rw [changeChannel_view changed]
  simp only [WarnView.takeChannel, quiet, decide_true, true_and, source, road, engine, check]

/-- The GDU and the WTB hold a channel's new state (R5). -/
theorem changeChannel_copies (changed : (f s.pcu.channels[ch]).state ≠ s.pcu.channels[ch].state) :
    (changeChannel ch f s).gdu.view.channels[ch] = (f s.pcu.channels[ch]).state ∧
      (changeChannel ch f s).wtb.view.channels[ch] = (f s.pcu.channels[ch]).state := by
  rw [changeChannel_gdu changed, changeChannel_view changed]
  constructor
  · change (s.gdu.view.channels.set ch _)[ch] = _
    simp
  · change ((channelRecorded ch f s).wtb.view.channels.set ch _)[ch] = _
    simp

end

/-! ## SET CHANNEL -/

section
variable {tag : Byte} {body : List Byte} {s : State}

theorem Polarity.lt_of_ofCode {k : Nat} {p : Polarity} (read : Polarity.ofCode k = some p) : k < 2 := by
  unfold Polarity.ofCode at read
  split at read
  case h_3 => cases read
  all_goals decide

theorem FilterPeriod.lt_of_ofCode {k : Nat} {p : FilterPeriod} (read : FilterPeriod.ofCode k = some p) : k < 3 := by
  unfold FilterPeriod.ofCode at read
  split at read
  case h_4 => cases read
  all_goals decide

theorem channelFields_eq_some {ch : ChannelIx} {cfg : ChannelConfig} : channelFields body = some (ch, cfg) ↔
    u8 body 0 = ch ∧ u8 body 1 = cfg.enabled.toNat ∧ Polarity.ofCode (u8 body 2) = some cfg.polarity ∧
      FilterPeriod.ofCode (u8 body 3) = some cfg.filter ∧ (u8 body 4 = cfg.stall ∧ 1 ≤ cfg.stall ∧ cfg.stall ≤ 64) ∧
      (u16 body 5 = cfg.maxFreq ∧ 1 ≤ cfg.maxFreq ∧ cfg.maxFreq ≤ 6553) := by
  simp only [channelFields, bind, Option.bind_eq_some_iff, pure, Option.some.injEq, Prod.mk.injEq, ixOf_eq_some,
    flagOf_eq_some, within_eq_some]
  constructor
  · rintro ⟨_, ix, _, on, _, polarity, _, filter, _, ⟨stall, low, high⟩, _, ⟨freq, low', high'⟩, rfl, rfl⟩
    exact ⟨ix, on, polarity, filter, ⟨stall, stall ▸ low, stall ▸ high⟩, ⟨freq, freq ▸ low', freq ▸ high'⟩⟩
  · rintro ⟨ix, on, polarity, filter, ⟨stall, low, high⟩, ⟨freq, low', high'⟩⟩
    exact ⟨_, ix, _, on, _, polarity, _, filter, _, ⟨stall, by omega, by omega⟩, _, ⟨freq, by omega, by omega⟩, rfl, rfl⟩

theorem channelFields_eq_none (out : 6 ≤ u8 body 0 ∨ 2 ≤ u8 body 1 ∨ 2 ≤ u8 body 2 ∨ 3 ≤ u8 body 3 ∨ u8 body 4 = 0 ∨
    64 < u8 body 4 ∨ u16 body 5 = 0 ∨ 6553 < u16 body 5) : channelFields body = none := by
  rw [Option.eq_none_iff_forall_ne_some]
  rintro ⟨ch, cfg⟩ fields
  obtain ⟨ix, on, polarity, filter, ⟨stall, low, high⟩, ⟨freq, low', high'⟩⟩ := channelFields_eq_some.mp fields
  have := ch.isLt
  have := Bool.toNat_le cfg.enabled
  have := Polarity.lt_of_ofCode polarity
  have := FilterPeriod.lt_of_ofCode filter
  omega

/-- A change of CH0's or CH4's configuration clears the cross-check counts (R20). -/
def crossCleared (ch : ChannelIx) (s : State) : State :=
  if ch = 0 ∨ ch = 4 then s.modPcu fun x => { x with cross := CrossCheck.zero } else s

theorem crossCleared_only (ch : ChannelIx) (s : State) : OnlyChanges [.pcu] s (crossCleared ch s) := by
  unfold crossCleared
  split_ifs
  · exact modPcu_only s _
  · exact .refl _ _

theorem crossCleared_pcu (ch : ChannelIx) (s : State) : (crossCleared ch s).pcu =
    { s.pcu with cross := if ch = 0 ∨ ch = 4 then { disagreeing := 0, agreeing := 0, fallback := 0, returning := 0 }
      else s.pcu.cross } := by
  unfold crossCleared
  split_ifs <;> rfl

theorem setChannel_of_parked (ch : ChannelIx) (cfg : ChannelConfig) {s : State} (parked : s.pcu.power = .parked) :
    setChannel (ch, cfg) s = emptyAnswer ((s.modInputs (Inputs.loadPulse ch)).modChannel ch fun c => { c with cfg }) := by
  unfold setChannel
  exact if_pos parked

theorem setChannel_of_running (ch : ChannelIx) (cfg : ChannelConfig) {s : State} (running : s.pcu.power ≠ .parked) :
    setChannel (ch, cfg) s = emptyAnswer (crossCleared ch
      (changeChannel ch (fun _ => Channel.restarted cfg) (s.modInputs (Inputs.loadPulse ch)))) := by
  unfold setChannel
  exact if_neg running

theorem restarted_quiet (cfg : ChannelConfig) :
    (Channel.restarted cfg).state = .still ∨ (Channel.restarted cfg).state = .off := by
  unfold Channel.restarted
  cases cfg.enabled
  · exact .inr rfl
  · exact .inl rfl

theorem restarted_not_live (cfg : ChannelConfig) : (Channel.restarted cfg).state ≠ .live := by
  rcases restarted_quiet cfg with st | st <;> rw [st] <;> decide

/-- What a restart of a channel leaves of the PCU, its handing included (R15, R17, R20). -/
theorem changeChannel_restarted_pcu (ch : ChannelIx) (cfg : ChannelConfig) (s : State) :
    { (changeChannel ch (fun _ => Channel.restarted cfg) s).pcu with cross := s.pcu.cross } =
      { s.pcu with
        channels := s.pcu.channels.set ch (Channel.restarted cfg)
        disagree := if (ch = 0 ∨ ch = 4) ∧ s.pcu.channels[ch].state = .live then false else s.pcu.disagree } ∧
      (¬ (ch = 0 ∨ ch = 4) → (changeChannel ch (fun _ => Channel.restarted cfg) s).pcu.cross = s.pcu.cross) := by
  by_cases same : (Channel.restarted cfg).state = s.pcu.channels[ch].state
  · rw [changeChannel_of_same (f := fun _ => Channel.restarted cfg) same]
    have down : ¬ ((ch = 0 ∨ ch = 4) ∧ s.pcu.channels[ch].state = .live) :=
      fun ⟨_, live⟩ => restarted_not_live cfg (same.trans live)
    rw [if_neg down]
    exact ⟨rfl, fun _ => rfl⟩
  · rw [changeChannel_pcu (f := fun _ => Channel.restarted cfg) same, channelRecorded_pcu]
    refine ⟨?_, fun other => if_neg fun ⟨_, checked⟩ => other checked⟩
    simp only [and_comm]
    rfl

end

/-- Settles O25: parked, the configuration alone; running, the channel restarts and its change is handed. -/
theorem setChannelAnswers : Obligations.SetChannelAnswers := by
  unfold Obligations.SetChannelAnswers
  intro tag body s serves length
  refine ⟨fun out => ?_, fun ch cfg ix on polarity filter stall low high freq low' high' => ⟨fun parked => ?_,
    fun running => ?_⟩⟩
  · exact served_refuse serves (decide_eq_true length) (by rw [ownSetChannel, channelFields_eq_none out]; rfl)
  · have fields := channelFields_eq_some.mpr ⟨ix, on, polarity, filter, ⟨stall, low, high⟩, ⟨freq, low', high'⟩⟩
    exact served_answer serves (decide_eq_true length)
      (by rw [ownSetChannel, fields]; exact setChannel_of_parked ch cfg parked)
  · have fields := channelFields_eq_some.mpr ⟨ix, on, polarity, filter, ⟨stall, low, high⟩, ⟨freq, low', high'⟩⟩
    set u := (takeRequest s).modInputs (Inputs.loadPulse ch) with hu
    set t := changeChannel ch (fun _ => Channel.restarted cfg) u with ht
    have first : OnlyChanges [.lkp, .inputs] s u := (takeRequest_only s).comp (modInputs_only _ _)
    have cleared := crossCleared_only ch t
    have pcu := changeChannel_restarted_pcu ch cfg u
    rw [← ht] at pcu
    refine ⟨_, served_answer serves (decide_eq_true length)
      (by rw [ownSetChannel, fields]; exact setChannel_of_running ch cfg running), ?_, ?_, ?_, ?_, ?_⟩
    · exact ((first.mono (by decide)).trans ((changeChannel_only u ch _).mono (by decide))).trans
        (cleared.mono (by decide))
    · have kept : t.inputs = u.inputs := (changeChannel_only u ch _) .inputs (by decide)
      exact (cleared .inputs (by decide)).trans kept
    · rw [crossCleared_pcu]
      obtain ⟨records, cross⟩ := pcu
      have records := congrArg (fun p : Pcu => { p with cross := if ch = 0 ∨ ch = 4
        then { disagreeing := 0, agreeing := 0, fallback := 0, returning := 0 } else s.pcu.cross }) records
      refine Eq.trans ?_ records
      split_ifs with checked
      · rfl
      · rw [cross checked]
        rfl
    · intro changes
      have changed : (Channel.restarted cfg).state ≠ u.pcu.channels[ch].state := by
        have state : (crossCleared ch t).pcu.channels[ch].state = (Channel.restarted cfg).state := by
          rw [crossCleared_pcu, ht, changeChannel_channels, updAt_get_same]
        rw [← hu, ← ht, state] at changes
        exact changes
      have copies := changeChannel_copies (f := fun _ => Channel.restarted cfg) changed
      have speeds := changeChannel_speeds (f := fun _ => Channel.restarted cfg) changed (restarted_quiet cfg)
      rw [← ht] at copies speeds
      rw [← hu, ← ht, cleared.gdu_eq (by decide), cleared.wtb_eq (by decide), crossCleared_pcu, ht,
        changeChannel_channels, updAt_get_same, ← ht]
      exact ⟨copies.1, copies.2, speeds⟩
    · intro source copy
      rw [← hu, ← ht, cleared.tau_eq (by decide)]
      by_cases same : (Channel.restarted cfg).state = u.pcu.channels[ch].state
      · have kept : t = u.modChannel ch fun _ => Channel.restarted cfg :=
          changeChannel_of_same (f := fun _ => Channel.restarted cfg) same
        rw [kept]
        exact ⟨fun live _ => absurd (same.trans live) (restarted_not_live cfg), fun _ => rfl⟩
      · obtain ⟨falls, stays⟩ := changeChannel_levelAtStop (f := fun _ => Channel.restarted cfg) (s := u) same
          (restarted_not_live cfg) copy
        refine ⟨fun live is => ?_, fun other => stays other⟩
        obtain ⟨road, level⟩ := falls live is
        exact ⟨road, level.trans (freshLevel_eq u)⟩

end Sys2Proof.Machine
end

section
/-! The ticks of the input lines, the edges and the stall of a channel (R1, R4, R5, R8, R15, R29, R31, R60, R84, R88). -/

namespace Sys2Proof.Machine

-- One theorem at a time, so that a build as one text needs few threads.
set_option Elab.async false

/-! ## The samplers -/

theorem Samples.level_iff (x : Samples) :
    x.level = true ↔ 2 ≤ x.oldest.toNat + x.middle.toNat + x.newest.toNat := by
  obtain ⟨a, b, c⟩ := x
  cases a <;> cases b <;> cases c <;> decide

theorem Polarity.isActive_iff (p : Polarity) (old new : Bool) : p.isActive old new = true ↔
    match p with
    | .rising => ¬ old = true ∧ new = true
    | .falling => old = true ∧ ¬ new = true := by
  cases p <;> simp [Polarity.isActive]

theorem Channel.sampledAt_iff (c : Channel) (tick : Nat) : c.sampledAt tick = true ↔
    c.state ≠ .off ∧ tick % (match c.cfg.filter with | .us25 => 1 | .us100 => 4 | .us400 => 16) = 0 := by
  simp only [Channel.sampledAt, Bool.and_eq_true, decide_eq_true_eq]
  rfl

theorem switchesSampledAt_iff (tick : Nat) : switchesSampledAt tick = true ↔ tick * 25 % 2000 = 0 := by
  simp only [switchesSampledAt, decide_eq_true_eq]
  omega

section
variable {raw : RawLines} {rest : List RawLines} {s : State} (supplied : s.igs.supplied = true) (idle : s.pending = [])
  (waits : s.inputs.ticks = raw :: rest)
include supplied idle waits

/-- A tick of a supplied part brings its commands about and pushes the samples (R1, R84). -/
theorem step_tick : ∃ t, step s = .next t ∧ t.pending = tickCommands (s.inputs.now + 1) raw s ∧
    t.inputs = { tickInputs (s.inputs.now + 1) raw s with ticks := rest } := by
  refine ⟨nextTick s, step_empty idle, ?_⟩
  have supplied' : (s.modInputs fun x => { x with ticks := rest }).igs.supplied = true := supplied
  rw [nextTick, waits]
  dsimp only
  unfold takeTick
  rw [if_pos supplied']
  refine ⟨?_, rfl⟩
  change s.pending ++ _ = _
  rw [idle, List.nil_append]
  rfl

omit supplied idle waits in
theorem tickInputs_pulses (tick : Nat) (ch : ChannelIx) : (tickInputs tick raw s).pulses[ch] =
    if s.pcu.channels[ch].sampledAt tick = true then s.inputs.pulses[ch].push raw.pulses[ch]
    else s.inputs.pulses[ch] := by simp [tickInputs]

omit supplied idle waits in
theorem tickInputs_switches (tick : Nat) (n : SwitchIx) : (tickInputs tick raw s).switches[n] =
    if switchesSampledAt tick = true then s.inputs.switches[n].push raw.lines.switches[n]
    else s.inputs.switches[n] := by simp [tickInputs]

/-- What a tick does with the pulse inputs (R1). -/
theorem step_tick_pulses : ∃ t, step s = .next t ∧ ∀ ch : ChannelIx,
    (s.pcu.channels[ch].sampledAt (s.inputs.now + 1) = true →
      t.inputs.pulses[ch] = s.inputs.pulses[ch].push raw.pulses[ch]) ∧
    (s.pcu.channels[ch].sampledAt (s.inputs.now + 1) ≠ true → t.inputs.pulses[ch] = s.inputs.pulses[ch]) ∧
    ∀ at10us, Instr.pulseEdge ch at10us ∈ t.pending ↔
      (s.pcu.channels[ch].sampledAt (s.inputs.now + 1) && s.pcu.channels[ch].cfg.polarity.isActive
        s.inputs.pulses[ch].level (s.inputs.pulses[ch].push raw.pulses[ch]).level) = true ∧
      at10us = instantOf (s.inputs.now + 1) := by
  obtain ⟨t, next, commands, inputs⟩ := step_tick supplied idle waits
  have pulses : t.inputs.pulses = (tickInputs (s.inputs.now + 1) raw s).pulses := by rw [inputs]
  refine ⟨t, next, fun ch => ⟨fun sampled => ?_, fun not => ?_, fun at10us => ?_⟩⟩
  · rw [pulses, tickInputs_pulses, if_pos sampled]
  · rw [pulses, tickInputs_pulses, if_neg not]
  · rw [commands, pulseEdge_mem_tickCommands]

/-- What a tick does with the switches (R84). -/
theorem step_tick_switches : ∃ t, step s = .next t ∧ ∀ n : SwitchIx,
    (switchesSampledAt (s.inputs.now + 1) = true →
      t.inputs.switches[n] = s.inputs.switches[n].push raw.lines.switches[n]) ∧
    (switchesSampledAt (s.inputs.now + 1) ≠ true → t.inputs.switches[n] = s.inputs.switches[n]) ∧
    (Instr.switchChange n ∈ t.pending ↔ (switchesSampledAt (s.inputs.now + 1) &&
      (s.inputs.switches[n].push raw.lines.switches[n]).level != s.wtb.switches[n].level) = true) := by
  obtain ⟨t, next, commands, inputs⟩ := step_tick supplied idle waits
  have switches : t.inputs.switches = (tickInputs (s.inputs.now + 1) raw s).switches := by rw [inputs]
  refine ⟨t, next, fun n => ⟨fun sampled => ?_, fun not => ?_, ?_⟩⟩
  · rw [switches, tickInputs_switches, if_pos sampled]
  · rw [switches, tickInputs_switches, if_neg not]
  · rw [commands, switchChange_mem_tickCommands]

end

/-! ## The gauges of a channel -/

/-- The gauges whose source a channel is take its change (R29, R31). -/
theorem gduChannel_gauge (ch : ChannelIx) (st : ChannelState) (s : State) (g : GaugeIx) :
    (gduChannel ch st s).gdu.gauges[g] =
      if s.gdu.view.concerned s.gdu.gauges[g].cfg.source = some ch ∧ (s.gdu.gauges[g].state = .tracking ∨
        s.gdu.gauges[g].state = .held ∨ s.gdu.gauges[g].state = .void)
      then (gduChannel ch st s).gdu.goCalled s.gdu.gauges[g] else s.gdu.gauges[g] := by
  set d := (gduChannel ch st s).gdu with hd
  have gauge : d.gauges[g] = if s.gdu.view.concerned s.gdu.gauges[g].cfg.source = some ch
      then d.recompute s.gdu.gauges[g] else s.gdu.gauges[g] := by
    have concerned : d.view.concerned s.gdu.gauges[g].cfg.source =
        s.gdu.view.concerned s.gdu.gauges[g].cfg.source := by
      cases s.gdu.gauges[g].cfg.source <;> rfl
    rw [← concerned, hd]
    simp only [gduChannel, State.modGdu_gdu, Gdu.recomputeWhere, mapAll_get, decide_eq_true_eq]
    rfl
  rw [gauge]
  by_cases bound : s.gdu.view.concerned s.gdu.gauges[g].cfg.source = some ch
  · rw [if_pos bound]
    simp only [bound, true_and]
    unfold Gdu.recompute
    cases s.gdu.gauges[g].state <;> simp
  · rw [if_neg bound, if_neg fun both => bound both.1]

theorem concerned_eq_some (v : GaugeView) (src : GaugeSource) (ch : ChannelIx) : v.concerned src = some ch ↔
    (src = .roadSpeed ∧ ch = v.roadSource.channel) ∨ (src = .engineSpeed ∧ ch = 1) ∨ (src = .checkSpeed ∧ ch = 4) ∨
      (src = .generalFreq ∧ ch = 5) := by
  cases src <;> simp [GaugeView.concerned, eq_comm]

/-! ## The events -/

theorem exec_stallExpiry {s : State} (supplied : s.igs.supplied = true) (ch : ChannelIx) :
    exec (.stallExpiry ch) s = .next (settle (stallExpiry ch s)) := takeEvent_supplied supplied

section
variable (ch : ChannelIx) (at10us : Nat) (s : State)

/-- The event of an edge: the channel, then its divider. -/
abbrev edgeEvent : State := dividerEdge ch (changeChannel ch (Channel.edge at10us) s)

theorem edgeEvent_channels : (edgeEvent ch at10us s).pcu.channels = s.pcu.channels.set ch
    (Channel.edge at10us s.pcu.channels[ch]) := by
  rw [edgeEvent, dividerEdge_channels, changeChannel_channels]
  rfl

variable {ch s} (still : s.pcu.channels[ch].state = .still)
include still

theorem edge_live : (Channel.edge at10us s.pcu.channels[ch]).state = .live := if_pos still

theorem edge_changed : (Channel.edge at10us s.pcu.channels[ch]).state ≠ s.pcu.channels[ch].state := by
  rw [edge_live at10us still, still]
  decide

/-- The first edge makes a STILL channel LIVE in the copies too (R5). -/
theorem edgeEvent_copies : (edgeEvent ch at10us s).gdu.view.channels[ch] = .live ∧
    (edgeEvent ch at10us s).wtb.view.channels[ch] = .live := by
  have copies := changeChannel_copies (edge_changed at10us still)
  rw [edge_live at10us still] at copies
  rw [edgeEvent, (dividerEdge_only _ ch).gdu_eq (by decide), (CountsOnly.dividerEdge ch _).channels_eq]
  exact copies

/-- The rise of road source LIVE marks ROAD_SPEED (R5, R154). -/
theorem edgeEvent_marked (source : ch = s.pcu.roadSource.channel) (road : s.clc.roadLive = false) :
    Marked .roadSpeed s (edgeEvent ch at10us s) := by
  obtain ⟨-, marked⟩ := changeChannel_clc (edge_changed at10us still)
  refine (marked ?_).then (CountsOnly.dividerEdge ch _).marks.holds
  rw [channelRecorded_roadLive, if_pos source, road, edge_live at10us still]
  decide

end

section
variable {ch : ChannelIx} {s : State} (moves : s.pcu.channels[ch].state ≠ .still)
include moves

theorem enterStill_changed : (s.pcu.channels[ch].enterStill).state ≠ s.pcu.channels[ch].state := Ne.symm moves

/-- The GDU after a channel has gone STILL (R29, R31). -/
theorem stall_gdu : (changeChannel ch Channel.enterStill s).gdu = { s.gdu with
    view := { s.gdu.view with
      channels := s.gdu.view.channels.set ch .still
      roadSpeed := if ch = s.gdu.view.roadSource.channel then 0 else s.gdu.view.roadSpeed
      engineSpeed := if ch = 1 then 0 else s.gdu.view.engineSpeed
      checkSpeed := if ch = 4 then 0 else s.gdu.view.checkSpeed
      generalFreq := if ch = 5 then 0 else s.gdu.view.generalFreq }
    gauges := (changeChannel ch Channel.enterStill s).gdu.gauges } := by
  rw [changeChannel_gdu (enterStill_changed moves)]
  simp [gduChannel, Gdu.recomputeWhere, Channel.enterStill]

/-- The fall of road source LIVE marks ROAD_SPEED (R5, R154). -/
theorem stall_marked (source : ch = s.pcu.roadSource.channel)
    (road : s.clc.roadLive = true) : Marked .roadSpeed s (changeChannel ch Channel.enterStill s) ∧
      (changeChannel ch Channel.enterStill s).clc.roadLive = false := by
  obtain ⟨fallen, marked⟩ := changeChannel_clc (enterStill_changed moves)
  have none : (channelRecorded ch Channel.enterStill s).pcu.roadLive = false := by
    rw [channelRecorded_roadLive, if_pos source]
    rfl
  rw [none] at fallen marked
  exact ⟨marked (by rw [road]; decide), fallen⟩

end

/-- Settles O27: the ticks of the pulse inputs and the switches, then the edge and the stall of a channel. -/
theorem channelsTakeEdgesAndStalls : Obligations.ChannelsTakeEdgesAndStalls := by
  unfold Obligations.ChannelsTakeEdgesAndStalls
  refine ⟨fun raw rest s supplied idle waits => ?_, fun raw rest s supplied idle waits => ?_, fun ch s supplied => ?_⟩
  · obtain ⟨t, next, pulses⟩ := step_tick_pulses supplied idle waits
    refine ⟨t, next, fun ch => ?_⟩
    obtain ⟨sampled, kept, edges⟩ := pulses ch
    have samples := Channel.sampledAt_iff s.pcu.channels[ch] (s.inputs.now + 1)
    refine ⟨fun is => sampled (samples.mpr is), fun not => kept fun is => not (samples.mp is), fun at10us => ?_⟩
    rw [edges, Bool.and_eq_true, samples, Polarity.isActive_iff, Samples.level_iff, Samples.level_iff, and_assoc]
    refine and_congr_right fun _ => and_congr ?_ ?_
    · cases s.pcu.channels[ch].cfg.polarity <;> rfl
    · rw [instantOf]
      omega
  · obtain ⟨t, next, switches⟩ := step_tick_switches supplied idle waits
    refine ⟨t, next, fun n => ?_⟩
    obtain ⟨sampled, kept, change⟩ := switches n
    have samples := switchesSampledAt_iff (s.inputs.now + 1)
    refine ⟨fun is => ⟨sampled (samples.mpr is), ?_⟩, fun not => ⟨kept fun is => not (samples.mp is), ?_⟩⟩
    · have level := Samples.level_iff (s.inputs.switches[n].push raw.lines.switches[n])
      rw [change, samples.mpr is, Bool.true_and, bne_iff_ne, ne_eq, Bool.eq_iff_iff, level]
      exact not_congr Iff.comm
    · rw [change, Bool.and_eq_true]
      exact fun both => not (samples.mp both.1)
  · refine ⟨fun at10us off => ?_, fun at10us on => ?_, fun stopped => ?_, fun runs => ?_⟩
    · exact (takeEvent_supplied supplied).trans (by rw [pulseEdge, if_pos off])
    · refine ⟨_, exec_pulseEdge supplied at10us on,
        ((changeChannel_only s ch _).comp (dividerEdge_only _ ch) :
          OnlyChanges [.pcu, .gdu, .tau, .svs, .wtb, .chs, .clc, .lkp, .free] _ _).mono (by decide),
        edgeEvent_channels ch at10us s, edgeEvent_copies at10us, fun still source road => ?_⟩
      exact edgeEvent_marked at10us still source road
    · rw [exec_stallExpiry supplied, stallExpiry, if_neg (by rw [stopped]; decide)]
    · refine ⟨changeChannel ch Channel.enterStill s, ?_, (changeChannel_only s ch _).mono (by decide),
        changeChannel_channels _ _ _, fun live checked => ?_, fun moves => ?_, fun moves => ?_, fun moves => ⟨?_, ?_⟩,
        fun live source road => ?_, fun copy => ?_⟩
      · rw [exec_stallExpiry supplied, stallExpiry, if_pos (Option.isSome_iff_ne_none.mpr runs)]
      · have moves : s.pcu.channels[ch].state ≠ .still := by rw [live]; decide
        rw [changeChannel_pcu (enterStill_changed moves), channelRecorded_pcu]
        exact if_pos ⟨live, checked⟩
      · exact changeChannel_copies (enterStill_changed moves)
      · exact changeChannel_speeds (enterStill_changed moves) (.inl rfl)
      · exact stall_gdu moves
      · intro g
        have gauge := gduChannel_gauge ch .still s g
        have gdu : (changeChannel ch Channel.enterStill s).gdu = (gduChannel ch .still s).gdu :=
          changeChannel_gdu (enterStill_changed moves)
        rw [← gdu] at gauge
        rw [gauge]
        simp only [concerned_eq_some]
        rfl
      · exact stall_marked (by rw [live]; decide) source road
      · by_cases moves : s.pcu.channels[ch].state = .still
        · have kept : changeChannel ch Channel.enterStill s = s.modChannel ch Channel.enterStill :=
            changeChannel_of_same moves.symm
          rw [kept]
          exact ⟨fun live => absurd (moves.symm.trans live) (by decide), fun _ => rfl⟩
        · obtain ⟨falls, stays⟩ := changeChannel_levelAtStop (enterStill_changed moves)
            (show ChannelState.still ≠ .live by decide) copy
          refine ⟨fun live source => ?_, fun other => stays other⟩
          obtain ⟨road, level⟩ := falls live source
          exact ⟨road, level.trans (freshLevel_eq s)⟩

end Sys2Proof.Machine
end

section
/-! The gauges: SET GAUGE, SWEEP GAUGES, the end of a homing and the step of a needle (R29, R30, R31, R33, R36, R37, R38,
R41). -/

namespace Sys2Proof.Machine

-- One theorem at a time, so that a build as one text needs few threads.
set_option Elab.async false

/-! ## Tests over a table -/

theorem toList_any_iff {α : Type} {n : Nat} {v : Vector α n} {p : α → Bool} :
    v.toList.any p = true ↔ ∃ i : Fin n, p v[i] = true := by
  rw [toList_eq_map_finRange]
  simp

theorem toList_all_iff {α : Type} {n : Nat} {v : Vector α n} {p : α → Bool} :
    v.toList.all p = true ↔ ∀ i : Fin n, p v[i] = true := by
  rw [toList_eq_map_finRange]
  simp

/-! ## What a source calls for -/

/-- A needle that is called keeps its configuration, its buffer and its angle, and is driven by its source (R31). -/
theorem Gdu.goCalled_keeps (d : Gdu) (x : Gauge) : (d.goCalled x).present = x.present ∧ (d.goCalled x).cfg = x.cfg ∧
    (d.goCalled x).buffer = x.buffer ∧ (d.goCalled x).phase = none ∧
    ((d.goCalled x).state = .held ∨ (d.goCalled x).state = .void ∨ (d.goCalled x).state = .tracking) := by
  unfold Gdu.goCalled
  dsimp only
  split
  · exact ⟨rfl, rfl, rfl, rfl, .inl rfl⟩
  · exact ⟨rfl, rfl, rfl, rfl, .inr (.inl rfl)⟩
  · exact ⟨rfl, rfl, rfl, rfl, .inr (.inr rfl)⟩

/-- A needle that neither homes nor sweeps is called by a recomputation, unless it parks or rests (R31). -/
theorem Gdu.recompute_of_settled (d : Gdu) (x : Gauge) (home : x.state ≠ .homing) (sweep : x.state ≠ .sweep) :
    d.recompute x = if x.state = .rest ∨ x.state = .parking then x else d.goCalled x := by
  unfold Gdu.recompute
  split <;> simp_all

/-- What a source calls for reads no gauge (R29). -/
theorem Gdu.goCalled_gauges (d : Gdu) (v : Vector Gauge 6) (parking : Bool) (x : Gauge) :
    ({ d with gauges := v, parking } : Gdu).goCalled x = d.goCalled x := rfl

theorem Gdu.calledFor_of_channel (d : Gdu) {src : GaugeSource} {ch : ChannelIx}
    (concerned : d.view.concerned src = some ch) :
    d.calledFor src = if d.view.channels[ch] = .fault then .held else .tracking := by
  unfold Gdu.calledFor
  split
  · cases concerned
  · cases concerned
  · rw [concerned]

/-- A channel source calls for HELD while its channel is in FAULT (R29, Table 16). -/
theorem Gdu.goCalled_of_channel (d : Gdu) (x : Gauge) {ch : ChannelIx} {v : Nat}
    (concerned : d.view.concerned x.cfg.source = some ch)
    (angle : d.sourceAngle x = some (tableLookup x.cfg.table v)) :
    d.goCalled x = if d.view.channels[ch] = .fault
      then { x with state := .held, phase := none, homingLeft := none, target := x.present.getD 0 }
      else { x with state := .tracking, phase := none, homingLeft := none, target := tableLookup x.cfg.table v } := by
  have called' : d.goCalled x = match d.calledFor x.cfg.source with
      | .held => { x with state := .held, phase := none, homingLeft := none, target := x.present.getD 0 }
      | .void => { x with state := .void, phase := none, homingLeft := none, target := 0 }
      | _ => { x with state := .tracking, phase := none, homingLeft := none,
                      target := (d.sourceAngle x).getD x.target } := rfl
  rw [called', d.calledFor_of_channel concerned, angle]
  split_ifs <;> rfl

/-- A slot source calls for TRACKING, HELD or VOID by its slot's state (R29, Table 16). -/
theorem Gdu.goCalled_of_slot (d : Gdu) (x : Gauge) {n : SlotIx} (source : x.cfg.source = .slot n) :
    d.goCalled x = match d.slots[n].state with
      | .fresh => if x.buffer = [] then { x with state := .tracking, phase := none, homingLeft := none }
        else { x with state := .tracking, phase := none, homingLeft := none,
                      target := tableLookup x.cfg.table (x.buffer.sum.tdiv x.buffer.length) }
      | .stale => { x with state := .held, phase := none, homingLeft := none, target := x.present.getD 0 }
      | .lost | .never => { x with state := .void, phase := none, homingLeft := none, target := 0 } := by
  have angle : d.sourceAngle x = (bufferValue x.buffer).map (tableLookup x.cfg.table) := by
    rw [Gdu.sourceAngle, source]
  have called : ∀ src, src = .slot n → d.calledFor src = match d.slots[n].state with
      | .fresh => .tracking
      | .stale => .held
      | .lost | .never => .void := by
    rintro _ rfl
    rfl
  unfold Gdu.goCalled
  rw [called _ source, angle]
  cases d.slots[n].state
  case fresh =>
    unfold bufferValue
    dsimp only
    split_ifs <;> rfl
  all_goals rfl

/-! ## SET GAUGE -/

section
variable {tag : Byte} {body : List Byte} {s : State}

theorem dampingOf_eq_some {k n : Nat} : dampingOf k = some n ↔ k = n ∧ k ∈ [1, 2, 4, 8, 16] := by
  simp only [dampingOf, Option.ite_none_right_eq_some, Option.some.injEq, List.mem_cons, List.not_mem_nil, or_false]
  exact And.comm

theorem GaugeSource.of_ofCode {kind arg : Nat} {src : GaugeSource} (read : GaugeSource.ofCode kind arg = some src) :
    kind < 6 ∧ (kind = 4 → arg < 8) ∧ (kind < 4 → arg = 0) ∧ (src.isSlot = true ↔ kind = 4) := by
  unfold GaugeSource.ofCode at read
  split at read
  case h_5 =>
    rw [Option.map_eq_some_iff] at read
    obtain ⟨n, slot, rfl⟩ := read
    have := ixOf_eq_some.mp slot
    have := n.isLt
    exact ⟨by decide, fun _ => by omega, by omega, by simp [GaugeSource.isSlot]⟩
  case h_7 => cases read
  case h_6 =>
    cases read
    simp [GaugeSource.isSlot]
  all_goals
    simp only [Option.ite_none_right_eq_some, Option.some.injEq] at read
    obtain ⟨rfl, rfl⟩ := read
    simp [GaugeSource.isSlot]

/-- The value of a point of SET GAUGE's table: signed for a slot (R30). -/
abbrev gaugeValue (body : List Byte) (i : Nat) : Int :=
  if u8 body 1 = 4 then s16 body (9 + 4 * i) else (u16 body (9 + 4 * i) : Int)

/-- The table a SET GAUGE carries. -/
abbrev gaugeTable (body : List Byte) : List (Int × Nat) :=
  (List.range (u8 body 8)).map fun i => (gaugeValue body i, u16 body (11 + 4 * i))

/-- A field of SET GAUGE lies out of its range (R41). -/
abbrev GaugeFieldsOut (body : List Byte) : Prop :=
  6 ≤ u8 body 0 ∨ 6 ≤ u8 body 1 ∨ (u8 body 1 = 4 ∧ 8 ≤ u8 body 2) ∨ (u8 body 1 < 4 ∧ u8 body 2 ≠ 0) ∨
    u16 body 3 = 0 ∨ 1080 < u16 body 3 ∨ u16 body 5 < 20 ∨ 2400 < u16 body 5 ∨ u8 body 7 ∉ [1, 2, 4, 8, 16] ∨
    u8 body 8 < 2 ∨ 8 < u8 body 8 ∨ (∃ i, i + 1 < u8 body 8 ∧ gaugeValue body (i + 1) ≤ gaugeValue body i) ∨
    ∃ i, i < u8 body 8 ∧ u16 body 3 < u16 body (11 + 4 * i)

theorem tablePoints_gauge {src : GaugeSource} (slot : src.isSlot = true ↔ u8 body 1 = 4) :
    tablePoints src.isSlot 4 u16 body 9 (u8 body 8) = gaugeTable body := by
  refine List.map_congr_left fun i _ => ?_
  rw [show 11 + 4 * i = 9 + 4 * i + 2 by omega]
  simp only [slot]

theorem gaugeTable_fits_iff (full : Nat) :
    (increasing (gaugeTable body) = true ∧ (gaugeTable body).all (fun p => p.2 ≤ full) = true) ↔
      (∀ i, i + 1 < u8 body 8 → gaugeValue body i < gaugeValue body (i + 1)) ∧
        ∀ i, i < u8 body 8 → u16 body (11 + 4 * i) ≤ full := by
  rw [increasing_map_range]
  refine and_congr_right fun _ => ?_
  simp

theorem gaugeFields_eq_some {g : GaugeIx} {cfg : GaugeConfig} : gaugeFields body = some (g, cfg) ↔
    u8 body 0 = g ∧ GaugeSource.ofCode (u8 body 1) (u8 body 2) = some cfg.source ∧
      (u16 body 3 = cfg.fullScale ∧ 1 ≤ cfg.fullScale ∧ cfg.fullScale ≤ 1080) ∧
      (u16 body 5 = cfg.slew ∧ 20 ≤ cfg.slew ∧ cfg.slew ≤ 2400) ∧
      (u8 body 7 = cfg.damping ∧ u8 body 7 ∈ [1, 2, 4, 8, 16]) ∧ (2 ≤ u8 body 8 ∧ u8 body 8 ≤ 8) ∧
      cfg.table = gaugeTable body ∧
      (increasing (gaugeTable body) = true ∧ (gaugeTable body).all (fun p => p.2 ≤ cfg.fullScale) = true) := by
  simp only [gaugeFields, bind, Option.bind_eq_some_iff, within_eq_some, Option.ite_none_right_eq_some,
    Option.some.injEq, ixOf_eq_some, dampingOf_eq_some, Prod.mk.injEq]
  constructor
  · rintro ⟨_, ix, src, source, _, ⟨full, low, high⟩, _, ⟨slew, low', high'⟩, _, ⟨damping, depth⟩, _,
      ⟨rfl, few, many⟩, fits, rfl, rfl⟩
    have table := tablePoints_gauge (GaugeSource.of_ofCode source).2.2.2
    rw [table] at fits
    exact ⟨ix, source, ⟨full, full ▸ low, full ▸ high⟩, ⟨slew, slew ▸ low', slew ▸ high'⟩, ⟨damping, depth⟩,
      ⟨few, many⟩, table, fits⟩
  · rintro ⟨ix, source, ⟨full, low, high⟩, ⟨slew, low', high'⟩, ⟨damping, depth⟩, ⟨few, many⟩, given, fits⟩
    have table := tablePoints_gauge (GaugeSource.of_ofCode source).2.2.2
    refine ⟨_, ix, _, source, _, ⟨full, by omega, by omega⟩, _, ⟨slew, by omega, by omega⟩, _, ⟨damping, depth⟩, _,
      ⟨rfl, few, many⟩, ?_, rfl, ?_⟩
    · rw [table]
      exact fits
    · rw [table, ← given]

theorem gaugeFields_eq_none (out : GaugeFieldsOut body) : gaugeFields body = none := by
  rw [Option.eq_none_iff_forall_ne_some]
  rintro ⟨g, cfg⟩ fields
  obtain ⟨ix, source, ⟨full, low, high⟩, ⟨slew, low', high'⟩, ⟨-, depth⟩, ⟨few, many⟩, -, fits⟩ :=
    gaugeFields_eq_some.mp fields
  obtain ⟨kind, slot, plain, -⟩ := GaugeSource.of_ofCode source
  obtain ⟨rising, small⟩ := (gaugeTable_fits_iff _).mp fits
  have := g.isLt
  rcases out with out | out | ⟨is, out⟩ | ⟨is, out⟩ | out | out | out | out | out | out | out | ⟨i, lt, falls⟩ |
    ⟨i, lt, exceeds⟩
  · omega
  · omega
  · have := slot is
    omega
  · exact out (plain is)
  · omega
  · omega
  · omega
  · omega
  · exact out depth
  · omega
  · omega
  · have := rising i lt
    omega
  · have := small i lt
    omega

theorem gaugeTable_fits_of_not_out (good : ¬ GaugeFieldsOut body) : increasing (gaugeTable body) = true ∧
    (gaugeTable body).all (fun p => p.2 ≤ u16 body 3) = true := by
  refine (gaugeTable_fits_iff _).mpr ⟨fun i lt => ?_, fun i lt => ?_⟩
  · by_contra falls
    exact good (.inr <| .inr <| .inr <| .inr <| .inr <| .inr <| .inr <| .inr <| .inr <| .inr <| .inr <| .inl
      ⟨i, lt, by omega⟩)
  · by_contra exceeds
    exact good (.inr <| .inr <| .inr <| .inr <| .inr <| .inr <| .inr <| .inr <| .inr <| .inr <| .inr <| .inr
      ⟨i, lt, by omega⟩)

theorem refusesConfig_iff (x : Gauge) (cfg : GaugeConfig) : x.refusesConfig cfg = true ↔
    x.state = .homing ∨ x.state = .sweep ∨ ∃ a, x.present = some a ∧ cfg.fullScale < a := by
  simp only [Gauge.refusesConfig, Bool.or_eq_true, decide_eq_true_eq, or_assoc]
  cases x.present <;> simp

theorem firstBuffer_eq (d : Gdu) (src : GaugeSource) : d.firstBuffer src = match src with
    | .slot n => if d.slots[n].state = .fresh ∨ d.slots[n].state = .stale then [d.slots[n].value] else []
    | _ => [] := by
  cases src
  case slot n =>
    unfold Gdu.firstBuffer
    dsimp only
    cases d.slots[n].state <;> simp
  all_goals rfl

end

/-- Settles O35: SET GAUGE by its fields and the needle's state, and what a source calls for. -/
theorem setGaugeAnswers : Obligations.SetGaugeAnswers := by
  unfold Obligations.SetGaugeAnswers
  refine ⟨fun tag body s serves long length => ?_, fun d x => ?_⟩
  · have lengthOk : ReqKind.setGauge.lengthOk body = true := by
      simp [ReqKind.lengthOk, countedLength, length]
      omega
    refine ⟨fun bad => ?_, fun g cfg good ix source full slew damping table => ?_⟩
    · exact served_refuse serves lengthOk (by rw [ownSetGauge, gaugeFields_eq_none bad]; rfl)
    · have counts := good
      simp only [not_or, not_and, not_lt, not_le] at counts
      obtain ⟨-, -, -, -, low, high, low', high', depth, few, many, -⟩ := counts
      have fits := gaugeTable_fits_of_not_out good
      rw [full] at fits
      have fields : gaugeFields body = some (g, cfg) := gaugeFields_eq_some.mpr ⟨ix, source,
        ⟨full, by omega, by omega⟩, ⟨slew, by omega, by omega⟩, ⟨damping, not_not.mp depth⟩, ⟨few, many⟩, table,
        fits⟩
      refine ⟨fun refuses => ?_, fun notHoming notSweep fitsScale => ?_⟩
      · refine served_refuse serves lengthOk ?_
        rw [ownSetGauge, fields]
        exact if_pos ((refusesConfig_iff _ _).mpr refuses)
      · refine served_answer serves lengthOk ?_
        rw [ownSetGauge, fields]
        have accepts : ¬ s.gdu.gauges[g].refusesConfig cfg = true := by
          rw [refusesConfig_iff]
          rintro (homing | sweep | ⟨a, known, beyond⟩)
          · exact notHoming homing
          · exact notSweep sweep
          · exact absurd (fitsScale a known) (by omega)
        refine (if_neg accepts).trans ?_
        unfold emptyAnswer
        rw [Prod.mk.injEq]
        refine ⟨?_, rfl⟩
        refine congrArg (fun d => ({ takeRequest s with gdu := d } : State)) ?_
        refine congrArg (fun v => ({ s.gdu with gauges := v } : Gdu)) ?_
        refine congrArg (s.gdu.gauges.set g) ?_
        rw [firstBuffer_eq]
        exact Gdu.recompute_of_settled _ _ notHoming notSweep
  · intro held void tracking byChannel
    cases source : x.cfg.source
    case fixed arg => simp only [Gdu.goCalled, Gdu.calledFor, Gdu.sourceAngle, source, Option.getD_some]; rfl
    case roadSpeed =>
      exact d.goCalled_of_channel x (by rw [source]; rfl) (by rw [Gdu.sourceAngle, source])
    case engineSpeed =>
      exact d.goCalled_of_channel x (by rw [source]; rfl) (by rw [Gdu.sourceAngle, source])
    case checkSpeed =>
      exact d.goCalled_of_channel x (by rw [source]; rfl) (by rw [Gdu.sourceAngle, source])
    case generalFreq =>
      exact d.goCalled_of_channel x (by rw [source]; rfl) (by rw [Gdu.sourceAngle, source])
    case slot n => exact d.goCalled_of_slot x source

end Sys2Proof.Machine
end

section
/-! SWEEP GAUGES, the end of a homing, and the step of a needle with the end of a sweep or of a parking it may bring (R33,
R36, R37, R38). -/

namespace Sys2Proof.Machine

-- One theorem at a time, so that a build as one text needs few threads.
set_option Elab.async false

/-! ## SWEEP GAUGES -/

theorem Gdu.anyIn_iff (d : Gdu) (st : NeedleState) :
    d.anyIn st = true ↔ ∃ g : GaugeIx, d.gauges[g].state = st := by
  unfold Gdu.anyIn
  rw [toList_any_iff]
  simp only [decide_eq_true_eq]

/-- A sweep begins downward on a needle at its full scale, upward on any other (R37). -/
theorem sweepStart_eq (x : Gauge) :
    ({ x with state := .sweep, phase := some .up, target := x.cfg.fullScale } : Gauge).turnSweep =
      if x.present = some x.cfg.fullScale then { x with state := .sweep, phase := some .down, target := 0 }
      else { x with state := .sweep, phase := some .up, target := x.cfg.fullScale } := by
  unfold Gauge.turnSweep
  simp

/-! ## The end of a homing -/

section
variable {g : GaugeIx} {s : State} (homing : s.gdu.gauges[g].state = .homing) (awake : s.gdu.power ≠ .crank)

/-- The needle is at 0, known, and in the state its source calls for (R36). -/
abbrev homed (g : GaugeIx) (s : State) : State :=
  s.modGdu fun d => { d with gauges := updAt d.gauges g fun x => d.goCalled { x with present := some 0 } }

/-- After a homing end a gauge homes when it did before and is another one. -/
theorem homed_homing_iff : (homed g s).gdu.gauges.toList.any (fun x => x.state = .homing) = true ↔
    ∃ h, h ≠ g ∧ s.gdu.gauges[h].state = .homing := by
  rw [toList_any_iff]
  refine exists_congr fun h => ?_
  rw [decide_eq_true_eq, State.modGdu_gdu]
  dsimp only
  rw [updAt_get]
  by_cases same : h = g
  · subst same
    rw [if_pos rfl]
    obtain ⟨-, -, -, -, state⟩ := s.gdu.goCalled_keeps { s.gdu.gauges[h] with present := some 0 }
    constructor
    · intro homes
      rw [homes] at state
      exact absurd state (by decide)
    · rintro ⟨ne, -⟩
      exact absurd rfl ne
  · rw [if_neg (Ne.symm same)]
    exact ⟨fun homes => ⟨same, homes⟩, fun both => both.2⟩

include homing awake

theorem homingEnd_eq : homingEnd g s = if (homed g s).gdu.gauges.toList.any (fun x => x.state = .homing) then homed g s
    else (homed g s).notify (.gauge .homed) := by
  unfold homingEnd
  rw [if_pos ⟨homing, awake⟩]

theorem homingEnd_gdu : (homingEnd g s).gdu = (homed g s).gdu := by
  rw [homingEnd_eq homing awake]
  split_ifs <;> rfl

end

theorem exec_homingEnd {s : State} (supplied : s.igs.supplied = true) (g : GaugeIx) :
    exec (.homingEnd g) s = .next (settle (homingEnd g s)) := takeEvent_supplied supplied

/-- Settles O37: SWEEP GAUGES by the power state and the needles' states, and the end of a homing. -/
theorem sweepAndHoming : Obligations.SweepAndHoming := by
  unfold Obligations.SweepAndHoming
  refine ⟨fun tag s serves => ⟨fun refuses => ?_, fun run still sweeping => ?_, fun run still calm => ?_⟩,
    fun g s supplied => ⟨fun passes => ?_, fun homing awake => ?_⟩⟩
  · refine served_refuse serves (by decide) ?_
    rw [← Gdu.anyIn_iff] at refuses
    exact if_pos refuses
  · refine served_refuse serves (by decide) ?_
    rw [← Gdu.anyIn_iff] at still sweeping
    exact (if_neg (not_or.mpr ⟨not_not.mpr run, still⟩)).trans (if_pos sweeping)
  · refine served_answer serves (by decide) ?_
    rw [← Gdu.anyIn_iff] at still calm
    refine (if_neg (not_or.mpr ⟨not_not.mpr run, still⟩)).trans ((if_neg calm).trans ?_)
    unfold startSweep emptyAnswer
    simp only [sweepStart_eq]
  · rw [exec_homingEnd supplied]
    refine congrArg (fun x => Host.Outcome.next (settle x)) (if_neg fun both => ?_)
    exact passes.elim (· both.1) both.2
  · refine ⟨_, exec_homingEnd supplied g, homingEnd_only s g, homingEnd_gdu homing awake, fun other => ?_,
      fun last => ?_⟩
    · rw [homingEnd_eq homing awake, if_pos (homed_homing_iff.mpr other)]
      rfl
    · rw [homingEnd_eq homing awake, if_neg fun any => ?_]
      · rfl
      · obtain ⟨h, ne, homes⟩ := homed_homing_iff.mp any
        exact last h ne homes

/-! ## The step of a needle -/

/-- The needle after its step (R33, R37). -/
def Gauge.stepped (x : Gauge) (a : Nat) : Gauge := Gauge.turnSweep { x with present := some (stepToward a x.target) }

theorem Gauge.turnSweep_keeps (x : Gauge) : x.turnSweep.present = x.present ∧ x.turnSweep.cfg = x.cfg ∧
    x.turnSweep.buffer = x.buffer ∧ x.turnSweep.state = x.state := by
  unfold Gauge.turnSweep
  split_ifs <;> exact ⟨rfl, rfl, rfl, rfl⟩

/-- A needle without a phase does not turn (R37). -/
theorem Gauge.turnSweep_of_none {x : Gauge} (none : x.phase = none) : x.turnSweep = x := by
  simp [Gauge.turnSweep, none]

theorem stepToward_eq {a target : Nat} (ne : a ≠ target) :
    stepToward a target = if a < target then a + 1 else a - 1 := by
  unfold stepToward
  split_ifs with up down
  · rfl
  · rfl
  · exact absurd (by omega) ne

section
variable (s : State)

/-- A sweep's end, by the needles that sweep (R37). -/
abbrev SweepEnds (d : Gdu) : Prop := (∃ g : GaugeIx, d.gauges[g].state = .sweep) ∧
  ∀ g : GaugeIx, d.gauges[g].state = .sweep → d.gauges[g].phase = some .wait

/-- A parking's end, by the needles' angles (R38). -/
abbrev ParkingEnds (d : Gdu) : Prop := d.parking = true ∧
  ∀ g : GaugeIx, d.gauges[g].present = none ∨ d.gauges[g].present = some 0

theorem sweepEnds_iff (d : Gdu) : ((d.gauges.toList.any fun g => g.state = .sweep) = true ∧
    (d.gauges.toList.all fun g => g.state ≠ .sweep ∨ g.phase = some .wait) = true) ↔ SweepEnds d := by
  rw [toList_any_iff, toList_all_iff]
  simp only [decide_eq_true_eq, ← imp_iff_not_or, ne_eq]

theorem parkingEnds_iff (d : Gdu) : (d.parking = true ∧
    (d.gauges.toList.all fun g => g.present = none ∨ g.present = some 0) = true) ↔ ParkingEnds d := by
  rw [toList_all_iff]
  simp only [decide_eq_true_eq]

theorem endSweep_of_ends (ends : SweepEnds s.gdu) : endSweep s = (s.modGdu fun d =>
    { d with gauges := mapAll (fun g => if g.state = .sweep then d.goCalled g else g) d.gauges }).notify
      (.gauge .swept) := if_pos ((sweepEnds_iff s.gdu).mpr ends)

theorem endSweep_of_not_ends (goes : ¬ SweepEnds s.gdu) : endSweep s = s :=
  if_neg fun ends => goes ((sweepEnds_iff s.gdu).mp ends)

theorem endParking_of_ends (ends : ParkingEnds s.gdu) : endParking s = (s.modGdu fun d => { d with
    parking := false
    gauges := mapAll (fun g => if g.present.isSome then { g with state := .rest } else g) d.gauges }).notify
      (.gauge .parked) := if_pos ((parkingEnds_iff s.gdu).mpr ends)

theorem endParking_of_not_ends (goes : ¬ ParkingEnds s.gdu) : endParking s = s :=
  if_neg fun ends => goes ((parkingEnds_iff s.gdu).mp ends)

theorem endSweep_gdu : (endSweep s).gdu.power = s.gdu.power ∧ (endSweep s).gdu.slots = s.gdu.slots ∧
    (endSweep s).gdu.view = s.gdu.view ∧ (endSweep s).gdu.parking = s.gdu.parking ∧
    ∀ h : GaugeIx, (endSweep s).gdu.gauges[h].present = s.gdu.gauges[h].present ∧
      (endSweep s).gdu.gauges[h].cfg = s.gdu.gauges[h].cfg ∧
      (endSweep s).gdu.gauges[h].buffer = s.gdu.gauges[h].buffer := by
  by_cases ends : SweepEnds s.gdu
  · rw [endSweep_of_ends s ends]
    refine ⟨rfl, rfl, rfl, rfl, fun h => ?_⟩
    have gauge : ((s.modGdu fun d =>
        { d with gauges := mapAll (fun g => if g.state = .sweep then d.goCalled g else g) d.gauges }).notify
          (.gauge .swept)).gdu.gauges[h] =
        if s.gdu.gauges[h].state = .sweep then s.gdu.goCalled s.gdu.gauges[h] else s.gdu.gauges[h] :=
      mapAll_get _ _ h
    rw [gauge]
    obtain ⟨present, cfg, buffer, -⟩ := s.gdu.goCalled_keeps s.gdu.gauges[h]
    split_ifs
    · exact ⟨present, cfg, buffer⟩
    · exact ⟨rfl, rfl, rfl⟩
  · rw [endSweep_of_not_ends s ends]
    exact ⟨rfl, rfl, rfl, rfl, fun _ => ⟨rfl, rfl, rfl⟩⟩

theorem endParking_gdu : (endParking s).gdu.power = s.gdu.power ∧ (endParking s).gdu.slots = s.gdu.slots ∧
    (endParking s).gdu.view = s.gdu.view ∧
    ∀ h : GaugeIx, (endParking s).gdu.gauges[h].present = s.gdu.gauges[h].present ∧
      (endParking s).gdu.gauges[h].cfg = s.gdu.gauges[h].cfg ∧
      (endParking s).gdu.gauges[h].buffer = s.gdu.gauges[h].buffer := by
  by_cases ends : ParkingEnds s.gdu
  · rw [endParking_of_ends s ends]
    refine ⟨rfl, rfl, rfl, fun h => ?_⟩
    have gauge : ((s.modGdu fun d => { d with
        parking := false
        gauges := mapAll (fun g => if g.present.isSome then { g with state := .rest } else g) d.gauges }).notify
          (.gauge .parked)).gdu.gauges[h] =
        if s.gdu.gauges[h].present.isSome then { s.gdu.gauges[h] with state := .rest } else s.gdu.gauges[h] :=
      mapAll_get _ _ h
    rw [gauge]
    split_ifs <;> exact ⟨rfl, rfl, rfl⟩
  · rw [endParking_of_not_ends s ends]
    exact ⟨rfl, rfl, rfl, fun _ => ⟨rfl, rfl, rfl⟩⟩

end

theorem exec_needleStep {s : State} (supplied : s.igs.supplied = true) (g : GaugeIx) :
    exec (.needleStep g) s = .next (settle (needleStep g s)) := takeEvent_supplied supplied

section
variable {g : GaugeIx} {s : State} {a : Nat} (driven : s.gdu.drives s.gdu.gauges[g] = true)
  (known : s.gdu.gauges[g].present = some a) (ne : a ≠ s.gdu.gauges[g].target)

/-- The gauges after the needle's step, before the sweep or the parking it may end. -/
abbrev moved (g : GaugeIx) (a : Nat) (s : State) : State := s.modGauge g fun x => x.stepped a

theorem moved_gauge (h : GaugeIx) : (moved g a s).gdu.gauges[h] =
    if h = g then (s.gdu.gauges[g]).stepped a else s.gdu.gauges[h] := by
  rw [State.modGauge_gauges, updAt_get]
  simp only [eq_comm (a := g)]

include driven known ne

theorem needleStep_eq : needleStep g s = endParking (endSweep (moved g a s)) := by
  unfold needleStep
  dsimp only
  rw [known]
  exact if_pos ⟨driven, ne⟩

end

section
variable {d : Gdu} (ok : GaugesOk d)
include ok

/-- Outside SWEEP a needle has no phase. -/
theorem GaugesOk.phase_none {g : GaugeIx} (other : d.gauges[g].state ≠ .sweep) : d.gauges[g].phase = none := by
  obtain ⟨gauges, -⟩ := ok
  obtain ⟨⟨-, -, -, -, phase, -⟩, -⟩ := gauges g
  by_contra some
  exact other (phase.mp (Option.isSome_iff_ne_none.mpr some))

/-- A sweeping needle stands outside PARKED, where no parking is in progress. -/
theorem GaugesOk.not_parking {g : GaugeIx} (sweep : d.gauges[g].state = .sweep) : d.parking = false := by
  obtain ⟨gauges, parking, -⟩ := ok
  by_contra parks
  rcases (gauges g).2.mp (parking (by simpa using parks)) with rest | parked
  · exact absurd (sweep.symm.trans rest) (by decide)
  · exact absurd (sweep.symm.trans parked) (by decide)

/-- While one needle does not sweep, none does. -/
theorem GaugesOk.no_sweep {g : GaugeIx} (other : d.gauges[g].state ≠ .sweep) (h : GaugeIx) :
    d.gauges[h].state ≠ .sweep := fun sweep => other ((ok.2.2 ⟨h, sweep⟩).1 g)

end

section
variable {g : GaugeIx} {s : State} {a : Nat}

theorem stepped_state (x : Gauge) (a : Nat) : (x.stepped a).state = x.state := (Gauge.turnSweep_keeps _).2.2.2

/-- A needle that does not sweep takes its new angle alone (R33). -/
theorem stepped_of_not_sweep (ok : GaugesOk s.gdu) (other : s.gdu.gauges[g].state ≠ .sweep) :
    s.gdu.gauges[g].stepped a =
      { s.gdu.gauges[g] with present := some (stepToward a s.gdu.gauges[g].target) } :=
  Gauge.turnSweep_of_none (ok.phase_none other)

/-- Outside a sweep a step ends none. -/
theorem no_sweepEnds_of_not_sweep (ok : GaugesOk s.gdu) (other : s.gdu.gauges[g].state ≠ .sweep) :
    ¬ SweepEnds (moved g a s).gdu := by
  rintro ⟨⟨h, sweeps⟩, -⟩
  rw [moved_gauge] at sweeps
  split_ifs at sweeps with same
  · rw [stepped_state] at sweeps
    exact other sweeps
  · exact ok.no_sweep other h sweeps

/-- A sweep goes on while a needle that sweeps does not wait. -/
theorem no_sweepEnds_of_moving (h : GaugeIx) (sweep : (moved g a s).gdu.gauges[h].state = .sweep)
    (moves : (moved g a s).gdu.gauges[h].phase ≠ some .wait) : ¬ SweepEnds (moved g a s).gdu :=
  fun ends => moves (ends.2 h sweep)

theorem no_parkingEnds (calm : s.gdu.parking = false) : ¬ ParkingEnds (moved g a s).gdu := fun ends =>
  absurd (calm.symm.trans ends.1) (by decide)

/-- Where the step ends neither a sweep nor a parking, it is all that happens. -/
theorem ends_neither (sweep : ¬ SweepEnds (moved g a s).gdu) (parking : ¬ ParkingEnds (moved g a s).gdu) :
    endParking (endSweep (moved g a s)) = moved g a s := by
  rw [endSweep_of_not_ends _ sweep, endParking_of_not_ends _ parking]

theorem moved_gdu {y : Gauge} (becomes : s.gdu.gauges[g].stepped a = y) :
    (moved g a s).gdu = { s.gdu with gauges := s.gdu.gauges.set g y } := by
  rw [← becomes]
  rfl

end

/-- Settles O38: the step, then by the needle's state what it ends. -/
theorem needlesStep : Obligations.NeedlesStep := by
  unfold Obligations.NeedlesStep
  intro g s supplied ok x driven
  refine ⟨fun idle => ?_, fun a drives known ne => ?_⟩
  · rw [exec_needleStep supplied]
    refine congrArg (fun x => Host.Outcome.next (settle x)) ?_
    unfold needleStep
    dsimp only
    split
    · rename_i a known
      refine if_neg fun ⟨drives, ne⟩ => ?_
      have drives : driven := of_decide_eq_true drives
      rcases idle with not | unknown | arrived
      · exact not drives
      · exact absurd (known.symm.trans unknown) (by simp)
      · exact ne (Option.some.inj (known.symm.trans arrived))
    · rfl
  · intro a1 after parked
    have step : stepToward a x.target = a1 := stepToward_eq ne
    have event : needleStep g s = endParking (endSweep (moved g a s)) :=
      needleStep_eq (decide_eq_true drives) known ne
    have stepped : s.gdu.gauges[g].stepped a = Gauge.turnSweep { x with present := some a1 } := by
      rw [← step]
      rfl
    have presents : ∀ h : GaugeIx, (moved g a s).gdu.gauges[h].present = after h ∧
        (moved g a s).gdu.gauges[h].cfg = s.gdu.gauges[h].cfg ∧
        (moved g a s).gdu.gauges[h].buffer = s.gdu.gauges[h].buffer := by
      intro h
      rw [moved_gauge]
      split_ifs with same
      · subst same
        obtain ⟨present, cfg, buffer, -⟩ := Gauge.turnSweep_keeps { x with present := some a1 }
        rw [stepped]
        exact ⟨present.trans (if_pos rfl).symm, cfg, buffer⟩
      · exact ⟨(if_neg same).symm, rfl, rfl⟩
    refine ⟨_, exec_needleStep supplied g, needleStep_only s g, ?_⟩
    rw [event]
    obtain ⟨power, slots, view, parking, kept⟩ := endSweep_gdu (moved g a s)
    obtain ⟨power', slots', view', kept'⟩ := endParking_gdu (endSweep (moved g a s))
    refine ⟨power'.trans power, slots'.trans slots, view'.trans view, fun h => ?_, ?_, ?_, ?_, ?_, ?_, ?_⟩
    · obtain ⟨p, c, b⟩ := kept h
      obtain ⟨p', c', b'⟩ := kept' h
      obtain ⟨pm, cm, bm⟩ := presents h
      exact ⟨p'.trans (p.trans pm), c'.trans (c.trans cm), b'.trans (b.trans bm)⟩
    · intro other calm
      rw [ends_neither (no_sweepEnds_of_not_sweep ok other) (no_parkingEnds calm)]
      exact ⟨moved_gdu ((stepped_of_not_sweep ok other).trans (by rw [← step])), rfl⟩
    · intro sweep turns
      have calm := ok.not_parking sweep
      obtain ⟨all, h, moves⟩ := ok.2.2 ⟨g, sweep⟩
      have turned : s.gdu.gauges[g].stepped a = if x.phase = some .up ∧ a1 = x.cfg.fullScale
          then { x with present := some a1, phase := some .down, target := 0 } else { x with present := some a1 } := by
        rw [stepped]
        unfold Gauge.turnSweep
        simp only [Option.some.injEq, if_neg turns]
      have goes : ¬ SweepEnds (moved g a s).gdu := by
        refine no_sweepEnds_of_moving h ?_ ?_
        · rw [moved_gauge]
          split_ifs
          · rw [stepped_state]
            exact sweep
          · exact all h
        · rw [moved_gauge]
          split_ifs with same
          · subst same
            rw [turned]
            split_ifs
            · simp
            · exact moves
          · exact moves
      rw [ends_neither goes (no_parkingEnds calm)]
      exact ⟨rfl, moved_gdu turned⟩
    · rintro sweep down zero calm ⟨h, ne, sweeps, moves⟩
      have turned : s.gdu.gauges[g].stepped a = { x with present := some a1, phase := some .wait, target := 0 } := by
        rw [stepped]
        simp [Gauge.turnSweep, down, zero]
      have goes : ¬ SweepEnds (moved g a s).gdu := by
        refine no_sweepEnds_of_moving h ?_ ?_
        · rw [moved_gauge, if_neg ne]
          exact sweeps
        · rw [moved_gauge, if_neg ne]
          exact moves
      rw [ends_neither goes (no_parkingEnds calm)]
      exact ⟨rfl, moved_gdu turned⟩
    · intro sweep down zero calm others
      have turned : s.gdu.gauges[g].stepped a = { x with present := some a1, phase := some .wait, target := 0 } := by
        rw [stepped]
        simp [Gauge.turnSweep, down, zero]
      have atZero : x.target = 0 := by
        have := zero
        simp only [a1] at this
        split_ifs at this
        omega
      have ends : SweepEnds (moved g a s).gdu := by
        refine ⟨⟨g, ?_⟩, fun h sweeps => ?_⟩
        · rw [moved_gauge, if_pos rfl, stepped_state]
          exact sweep
        · rw [moved_gauge] at sweeps ⊢
          split_ifs at sweeps ⊢ with same
          · rw [turned]
          · exact others h same sweeps
      have stays : ¬ ParkingEnds (endSweep (moved g a s)).gdu := fun both =>
        absurd (calm.symm.trans (parking.symm.trans both.1)) (by decide)
      rw [endParking_of_not_ends _ stays, endSweep_of_ends _ ends]
      refine ⟨rfl, fun h sweeps => ?_⟩
      have gauge : (((moved g a s).modGdu fun d =>
          { d with gauges := mapAll (fun g => if g.state = .sweep then d.goCalled g else g) d.gauges }).notify
            (.gauge .swept)).gdu.gauges[h] =
          if (moved g a s).gdu.gauges[h].state = .sweep then (moved g a s).gdu.goCalled (moved g a s).gdu.gauges[h]
          else (moved g a s).gdu.gauges[h] := mapAll_get _ _ h
      rw [gauge, moved_gauge]
      by_cases same : h = g
      · subst same
        rw [if_pos rfl, if_pos (by rw [stepped_state]; exact sweep), turned]
        have target : { x with present := some a1, phase := some .wait, target := 0 } =
            ({ x with present := some a1, phase := some .wait } : Gauge) := by rw [atZero]
        rw [target]
        simp only [after, if_pos]
        rfl
      · rw [if_neg same, if_pos sweeps]
        simp only [after, if_neg same]
        rfl
    · intro parks calm ended
      have ends : ParkingEnds (moved g a s).gdu := ⟨parks, fun h => by rw [(presents h).1]; exact ended h⟩
      rw [endSweep_of_not_ends _ (no_sweepEnds_of_not_sweep ok (calm g)), endParking_of_ends _ ends]
      refine ⟨rfl, rfl, fun h => ?_⟩
      have gauge : (((moved g a s).modGdu fun d => { d with
          parking := false
          gauges := mapAll (fun g => if g.present.isSome then { g with state := .rest } else g) d.gauges }).notify
            (.gauge .parked)).gdu.gauges[h] =
          if (moved g a s).gdu.gauges[h].present.isSome then { (moved g a s).gdu.gauges[h] with state := .rest }
          else (moved g a s).gdu.gauges[h] := mapAll_get _ _ h
      rw [gauge, (presents h).1]
      split_ifs
      · rfl
      · rw [moved_gauge]
        split_ifs with same
        · subst same
          exact stepped_state _ _
        · rfl
    · intro parks calm goes
      have stays : ¬ ParkingEnds (moved g a s).gdu := fun ends => goes fun h => by
        rw [← (presents h).1]
        exact ends.2 h
      rw [ends_neither (no_sweepEnds_of_not_sweep ok (calm g)) stays]
      refine ⟨rfl, parks, fun h => ?_⟩
      rw [moved_gauge]
      split_ifs with same
      · subst same
        exact stepped_state _ _
      · rfl

end Sys2Proof.Machine
end

section
/-! The answers a node sends: when one holds all of its characters, which answers are valid, and which poll answers are
well formed (R145, R151, R200, R201). -/

namespace Sys2Proof.Machine

-- One theorem at a time, so that a build as one text needs few threads.
set_option Elab.async false

theorem answerComplete_iff : ∀ cs : List CoachChar, answerComplete cs = true ↔
    ∃ a l rest, cs = a :: l :: rest ∧ rest.length = l.value.toNat + 1
  | [] => ⟨fun h => absurd h Bool.false_ne_true, by rintro ⟨a, l, rest, shape, -⟩; cases shape⟩
  | [a] => ⟨fun h => absurd h Bool.false_ne_true, by rintro ⟨a', l, rest, shape, -⟩; cases shape⟩
  | a :: l :: rest => by
    constructor
    · intro complete
      exact ⟨a, l, rest, rfl, of_decide_eq_true complete⟩
    · rintro ⟨a', l', rest', shape, length⟩
      cases shape
      exact decide_eq_true length

/-- The list of `n + 1` elements is its first `n` and a last one. -/
theorem take_append_last {α : Type} {l : List α} {n : Nat} (length : l.length = n + 1) : ∃ c, l = l.take n ++ [c] := by
  have ne : l ≠ [] := by rintro rfl; cases length
  refine ⟨l.getLast ne, ?_⟩
  have same : l.dropLast = l.take n := by rw [List.dropLast_eq_take, length]; rfl
  rw [← same, List.dropLast_append_getLast]

/-- A valid answer (R145, R200): all its characters without an error, the first with the mark bit and the value A0, the
others without the mark bit, the data at most 20 and as many as the length says, the sum 0 modulo 256. -/
def ValidAnswer (cs : List CoachChar) (d : List Byte) : Prop :=
  ∃ a l rest c, cs = a :: l :: (rest ++ [c]) ∧ (∀ x ∈ cs, x.error = false) ∧ a.mark = true ∧ a.value = 0xA0 ∧
    (∀ x ∈ l :: (rest ++ [c]), x.mark = false) ∧ rest.length = l.value.toNat ∧ l.value.toNat ≤ 20 ∧
    ((l :: (rest ++ [c])).map fun x => x.value.toNat).sum % 256 = 0 ∧ d = rest.map fun x => x.value

theorem answerData_cons_cons (a l : CoachChar) (rest : List CoachChar) (d : List Byte) :
    answerData (a :: l :: rest) = some d ↔ rest.length = l.value.toNat + 1 ∧
      (∀ x ∈ a :: l :: rest, x.error = false) ∧ a.mark = true ∧ a.value = 0xA0 ∧ (∀ x ∈ l :: rest, x.mark = false) ∧
      l.value.toNat ≤ 20 ∧ ((l :: rest).map fun x => x.value.toNat).sum % 256 = 0 ∧
      d = (rest.take l.value.toNat).map fun x => x.value := by
  unfold answerData
  dsimp only
  rw [Option.ite_none_right_eq_some, Option.some.injEq]
  simp only [answerComplete, decide_eq_true_eq, List.all_eq_true, Bool.not_eq_true', eq_comm (a := d), and_assoc]

theorem answerData_eq_some : ∀ (cs : List CoachChar) (d : List Byte), answerData cs = some d ↔ ValidAnswer cs d
  | [], _ => ⟨fun h => (nomatch h), by rintro ⟨a, l, rest, c, shape, -⟩; cases shape⟩
  | [a], _ => ⟨fun h => (nomatch h), by rintro ⟨a', l, rest, c, shape, -⟩; cases shape⟩
  | a :: l :: chars, d => by
    rw [answerData_cons_cons]
    constructor
    · rintro ⟨length, clean, mark, first, plain, fits, sum, data⟩
      obtain ⟨c, shape⟩ := take_append_last length
      rw [shape] at clean plain sum
      refine ⟨a, l, chars.take l.value.toNat, c, by rw [← shape], ?_, mark, first, plain, ?_, fits, sum, data⟩
      · rw [shape]; exact clean
      · rw [List.length_take, length]; omega
    · rintro ⟨a', l', rest, c, shape, clean, mark, first, plain, length, fits, sum, data⟩
      cases shape
      refine ⟨?_, clean, mark, first, plain, fits, sum, ?_⟩
      · rw [List.length_append, length]; rfl
      · rw [data, ← length, List.take_left]

/-! ## Poll answers -/

/-- The code of a rear event (Table 68). -/
def RearKind.codeOf : RearKind → Byte
  | .intercomCall => 0 | .privacyOn => 1 | .privacyOff => 2 | .passengerTripReset => 3 | .rearAck => 4
  | .clockSet => 5 | .alarmSet => 6 | .key => 7

theorem rearKind_ofCode (b : Byte) (k : RearKind) : RearKind.ofCode b.toNat = some k ↔ b = k.codeOf := by
  constructor
  · revert b
    cases k <;> decide +kernel
  · rintro rfl
    cases k <;> rfl

/-- The bytes of a rear event (R201). -/
def RearEvent.bytes (e : RearEvent) : List Byte := e.kind.codeOf :: e.data

theorem parseEvents_eq_some : ∀ (k : Nat) (d : List Byte) (events : List RearEvent), parseEvents k d = some events ↔
    events.length ≤ k ∧ (∀ e ∈ events, e.data.length = e.kind.dataLength) ∧ d = events.flatMap RearEvent.bytes
  | k, [], events => by
    cases k
    all_goals
      unfold parseEvents
      rw [Option.some.injEq]
      constructor
      · rintro rfl
        exact ⟨Nat.zero_le _, fun e member => absurd member (List.not_mem_nil (a := e)), rfl⟩
      · rintro ⟨-, -, shape⟩
        cases events with
        | nil => rfl
        | cons e es => cases shape
  | 0, b :: rest, events => by
    constructor
    · intro h; cases h
    · rintro ⟨few, -, shape⟩
      cases events with
      | nil => cases shape
      | cons e es => exact absurd few (Nat.not_succ_le_zero _)
  | k + 1, b :: rest, events => by
    unfold parseEvents
    constructor
    · intro parsed
      cases known : RearKind.ofCode b.toNat with
      | none => rw [known] at parsed; cases parsed
      | some kind =>
        rw [known] at parsed
        dsimp only at parsed
        rw [Option.ite_none_left_eq_some, Option.map_eq_some_iff] at parsed
        obtain ⟨long, es, others, rfl⟩ := parsed
        obtain ⟨few, lengths, shape⟩ := (parseEvents_eq_some k _ es).mp others
        refine ⟨Nat.succ_le_succ few, ?_, ?_⟩
        · rintro e member
          rcases List.mem_cons.mp member with rfl | member
          · exact List.length_take_of_le (Nat.le_of_not_lt long)
          · exact lengths e member
        · rw [List.flatMap_cons, ← shape, RearEvent.bytes, List.cons_append, List.take_append_drop,
            (rearKind_ofCode b kind).mp known]
    · rintro ⟨few, lengths, shape⟩
      cases events with
      | nil => cases shape
      | cons e es =>
        rw [List.flatMap_cons, RearEvent.bytes, List.cons_append, List.cons.injEq] at shape
        obtain ⟨code, rest_eq⟩ := shape
        have length := lengths e (List.mem_cons_self ..)
        rw [(rearKind_ofCode b e.kind).mpr code]
        dsimp only
        rw [rest_eq, if_neg (by rw [List.length_append]; omega), ← length, List.drop_left, List.take_left,
          (parseEvents_eq_some k _ es).mpr
            ⟨Nat.le_of_succ_le_succ few, fun x member => lengths x (List.mem_cons_of_mem _ member), rfl⟩]
        rfl

theorem parsePoll_eq_some (d : List Byte) (refresh : Bool) (events : List RearEvent) :
    parsePoll d = some (refresh, events) ↔ events.length ≤ 4 ∧ (∀ e ∈ events, e.data.length = e.kind.dataLength) ∧
      ∃ status : Byte, refresh = status.getLsbD 0 ∧ d = status :: events.flatMap RearEvent.bytes := by
  cases d with
  | nil => exact ⟨fun h => (nomatch h), by rintro ⟨-, -, status, -, shape⟩; cases shape⟩
  | cons b rest =>
    unfold parsePoll
    rw [Option.map_eq_some_iff]
    constructor
    · rintro ⟨es, parsed, same⟩
      cases same
      obtain ⟨few, lengths, shape⟩ := (parseEvents_eq_some 4 _ _).mp parsed
      exact ⟨few, lengths, b, rfl, by rw [← shape]⟩
    · rintro ⟨few, lengths, status, refreshes, shape⟩
      cases shape
      exact ⟨events, (parseEvents_eq_some 4 _ _).mpr ⟨few, lengths, rfl⟩, by rw [refreshes]⟩

theorem dataLength_eq (k : RearKind) :
    k.dataLength = match k with | .clockSet => 6 | .alarmSet => 4 | .key => 1 | _ => 0 := by
  cases k <;> rfl

/-- Settles O59, by the shape of an answer for the first two parts and by induction on the events for the third. -/
theorem answersAreJudged : Obligations.AnswersAreJudged := by
  unfold Obligations.AnswersAreJudged
  refine ⟨answerComplete_iff, answerData_eq_some, fun d refresh events => ?_⟩
  have bytes : ∀ e : RearEvent, e.bytes = (match e.kind with
        | .intercomCall => 0 | .privacyOn => 1 | .privacyOff => 2 | .passengerTripReset => 3 | .rearAck => 4
        | .clockSet => 5 | .alarmSet => 6 | .key => 7 : Byte) :: e.data := by
    rintro ⟨kind, data⟩
    cases kind <;> rfl
  rw [parsePoll_eq_some, funext bytes]
  refine and_congr Iff.rfl (and_congr (forall₂_congr fun e _ => ?_) Iff.rfl)
  exact iff_of_eq (congrArg (e.data.length = ·) (dataLength_eq e.kind))

end Sys2Proof.Machine
end

section
/-! The frames of the two serial lines (R143, R144, R197, R198, R200) and the bits they are sent as (R143, R181). -/

namespace Sys2Proof.Machine

-- One theorem at a time, so that a build as one text needs few threads.
set_option Elab.async false

/-! ## Checks and the status byte -/

theorem sum_append_checkByte (b : List Byte) : ((b ++ [checkByte b]).map BitVec.toNat).sum % 256 = 0 := by
  have check : (checkByte b).toNat = (256 - (b.map BitVec.toNat).sum % 256) % 256 := BitVec.toNat_ofNat _ _
  rw [List.map_append, List.sum_append, List.map_singleton, List.sum_singleton, check]
  omega

theorem statusByte_toNat (l : Lkp) (held : Bool) : (statusByte l held).toNat =
    l.overrun.toNat + 2 * l.noticesLost.toNat +
      4 * (match l.power with | .parked => 0 | .run => 1 | .crank => 2) + 16 * l.odometerInvalid.toNat +
      32 * l.clockUnset.toNat + 64 * held.toNat ∧ (statusByte l held).toNat < 128 := by
  have power : l.power.code = (match l.power with | .parked => 0 | .run => 1 | .crank => 2) ∧ l.power.code ≤ 2 := by
    cases l.power <;> exact ⟨rfl, by decide⟩
  obtain ⟨code, few⟩ := power
  rw [← code]
  have value : (statusByte l held).toNat = _ := BitVec.toNat_ofNat _ _
  have overrun := l.overrun.toNat_le
  have lost := l.noticesLost.toNat_le
  have invalid := l.odometerInvalid.toNat_le
  have unset := l.clockUnset.toNat_le
  have bit := held.toNat_le
  rw [value]
  omega

theorem top_bit_clear {b : Byte} (small : b.toNat < 128) : b.getLsbD 7 = false := by
  rw [BitVec.getLsbD, Nat.testBit_lt_two_pow small]

/-! ## Bits back to back -/

section
variable {α β : Type} {f : α → List β} {n : Nat} (width : ∀ a, (f a).length = n)
include width

theorem flatMap_length : ∀ l : List α, (l.flatMap f).length = n * l.length
  | [] => rfl
  | a :: l => by
    rw [List.flatMap_cons, List.length_append, width, flatMap_length l, List.length_cons, Nat.mul_succ, Nat.add_comm]

/-- The `k`th element of the `i`th block. -/
theorem flatMap_block : ∀ {l : List α} {i k : Nat} {a : α}, l[i]? = some a → k < n →
    (l.flatMap f)[n * i + k]? = (f a)[k]?
  | [], _, _, _, found, _ => nomatch found
  | a' :: l, 0, k, a, found, lt => by
    cases found
    rw [List.flatMap_cons, Nat.mul_zero, Nat.zero_add, List.getElem?_append_left (by rw [width]; exact lt)]
  | a' :: l, i + 1, k, a, found, lt => by
    have place : n * (i + 1) + k = n + (n * i + k) := by rw [Nat.mul_succ]; omega
    rw [List.flatMap_cons, place, List.getElem?_append_right (by rw [width]; omega), width, Nat.add_sub_cancel_left]
    exact flatMap_block found lt

theorem flatMap_past {l : List α} {j : Nat} (past : n * l.length ≤ j) : (l.flatMap f)[j]? = none := by
  rw [List.getElem?_eq_none_iff, flatMap_length width]
  exact past

end

theorem dataBits_get (b : Byte) (k : Fin 8) : (dataBits b)[(k : Nat)]? = some (b.getLsbD k) := by
  unfold dataBits
  rw [List.getElem?_map, List.getElem?_range k.isLt]
  rfl

theorem hostBits_length (b : Byte) : (hostBits b).length = 10 := rfl

theorem coachBits_length (c : Byte × Bool) : (coachBits c.1 c.2).length = 11 := rfl

theorem hostBits_get (b : Byte) : (hostBits b)[0]? = some false ∧
    (∀ k : Fin 8, (hostBits b)[1 + (k : Nat)]? = some (b.getLsbD k)) ∧ (hostBits b)[9]? = some true := by
  refine ⟨rfl, fun k => ?_, rfl⟩
  rw [hostBits, List.cons_append, Nat.add_comm, List.getElem?_cons_succ, List.getElem?_append_left k.isLt, dataBits_get]

theorem coachBits_get (b : Byte) (mark : Bool) : (coachBits b mark)[0]? = some false ∧
    (∀ k : Fin 8, (coachBits b mark)[1 + (k : Nat)]? = some (b.getLsbD k)) ∧ (coachBits b mark)[9]? = some mark ∧
    (coachBits b mark)[10]? = some true := by
  refine ⟨rfl, fun k => ?_, rfl, rfl⟩
  rw [coachBits, List.cons_append, Nat.add_comm, List.getElem?_cons_succ, List.getElem?_append_left k.isLt, dataBits_get]

/-! ## HTX -/

theorem htx_of_sending {l : Lkp} {f : OutFrame} (sending : l.tx = .sending f) (n : Nat) :
    l.htx n = (f.bytes.flatMap hostBits)[n]?.getD true := by
  unfold Lkp.htx
  rw [sending, ← List.getD_eq_getElem?_getD]
  rfl

theorem htx_character {l : Lkp} {f : OutFrame} {i : Nat} {b : Byte} (sending : l.tx = .sending f)
    (character : f.bytes[i]? = some b) : l.htx (10 * i) = false ∧
    (∀ k : Fin 8, l.htx (10 * i + 1 + k) = b.getLsbD k) ∧ l.htx (10 * i + 9) = true := by
  have bit : ∀ k v, k < 10 → (hostBits b)[k]? = some v → l.htx (10 * i + k) = v := by
    intro k v lt here
    rw [htx_of_sending sending, flatMap_block hostBits_length character lt, here]
    rfl
  obtain ⟨start, data, stop⟩ := hostBits_get b
  refine ⟨bit 0 _ (by decide) start, fun k => ?_, bit 9 _ (by decide) stop⟩
  rw [Nat.add_assoc]
  exact bit _ _ (by omega) (data k)

theorem htx_past {l : Lkp} {f : OutFrame} {n : Nat} (sending : l.tx = .sending f) (past : 10 * f.bytes.length ≤ n) :
    l.htx n = true := by
  rw [htx_of_sending sending, flatMap_past hostBits_length past]
  rfl

theorem htx_between {l : Lkp} {n : Nat} (between : l.tx = .idle ∨ l.tx = .gap) : l.htx n = true := by
  unfold Lkp.htx
  rcases between with idle | gap
  · rw [idle]
  · rw [gap]

/-! ## The Coach Line -/

theorem markedCharacters_get {frame : List Byte} {i : Nat} {b : Byte} (found : frame[i]? = some b) :
    (markedCharacters frame)[i]? = some (b, decide (i = 0)) := by
  cases frame with
  | nil => cases found
  | cons address rest =>
    cases i with
    | zero => cases found; rfl
    | succ i =>
      rw [List.getElem?_cons_succ] at found
      rw [markedCharacters, List.getElem?_cons_succ, List.getElem?_map, found]
      rfl

theorem markedCharacters_length (frame : List Byte) : (markedCharacters frame).length = frame.length := by
  cases frame with
  | nil => rfl
  | cons address rest => rw [markedCharacters, List.length_cons, List.length_map, List.length_cons]

theorem drives_of_sending {c : Clc} {t : Txn} (txn : c.txn = some t) (sending : t.phase = .sending)
    (released : c.heldLow = false) (n : Nat) : c.drives n = t.bits[n]? := by
  unfold Clc.drives
  rw [released, txn, if_neg Bool.false_ne_true]
  exact if_pos sending

theorem drives_character {c : Clc} {t : Txn} {i : Nat} {b : Byte} (txn : c.txn = some t) (sending : t.phase = .sending)
    (released : c.heldLow = false) (character : t.frame[i]? = some b) : c.drives (11 * i) = some false ∧
    (∀ k : Fin 8, c.drives (11 * i + 1 + k) = some (b.getLsbD k)) ∧ c.drives (11 * i + 9) = some (decide (i = 0)) ∧
    c.drives (11 * i + 10) = some true := by
  have bit : ∀ k v, k < 11 → (coachBits b (decide (i = 0)))[k]? = some v → c.drives (11 * i + k) = some v := by
    intro k v lt here
    rw [drives_of_sending txn sending released, ← here]
    exact flatMap_block coachBits_length (markedCharacters_get character) lt
  obtain ⟨start, data, mark, stop⟩ := coachBits_get b (decide (i = 0))
  refine ⟨bit 0 _ (by decide) start, fun k => ?_, bit 9 _ (by decide) mark, bit 10 _ (by decide) stop⟩
  rw [Nat.add_assoc]
  exact bit _ _ (by omega) (data k)

theorem drives_heldLow {c : Clc} (held : c.heldLow = true) (n : Nat) : c.drives n = some false := by
  unfold Clc.drives
  exact if_pos held

theorem drives_nothing {c : Clc} {n : Nat} (released : c.heldLow = false)
    (past : ∀ t, c.txn = some t → t.phase = .sending → 11 * t.frame.length ≤ n) : c.drives n = none := by
  unfold Clc.drives
  rw [released, if_neg Bool.false_ne_true]
  cases txn : c.txn with
  | none => rfl
  | some t =>
    dsimp only
    by_cases sending : t.phase = .sending
    · rw [if_pos sending]
      refine flatMap_past coachBits_length ?_
      rw [markedCharacters_length]
      exact past t txn sending
    · exact if_neg sending

/-! ## Reading back -/

theorem readBack_of_same : ∀ bits : List Bool,
    readBackCommands bits bits = [.masterFrameSent] ∧ bitsDriven bits bits = bits.length
  | [] => ⟨rfl, rfl⟩
  | b :: bits => by
    obtain ⟨command, driven⟩ := readBack_of_same bits
    rw [readBackCommands, bitsDriven, if_pos rfl, if_pos rfl, command, driven]
    exact ⟨rfl, rfl⟩

theorem readBack_of_differ (b : Bool) (restSent restRead : List Bool) : ∀ same : List Bool,
    readBackCommands (same ++ b :: restSent) (same ++ (!b) :: restRead) = [.contention] ∧
      bitsDriven (same ++ b :: restSent) (same ++ (!b) :: restRead) = same.length + 1
  | [] => by
    rw [List.nil_append, List.nil_append, readBackCommands, bitsDriven, if_neg (Bool.not_ne_self b),
      if_neg (Bool.not_ne_self b)]
    exact ⟨rfl, rfl⟩
  | x :: same => by
    obtain ⟨command, driven⟩ := readBack_of_differ b restSent restRead same
    rw [List.cons_append, List.cons_append, readBackCommands, bitsDriven, if_pos rfl, if_pos rfl, command, driven]
    exact ⟨rfl, rfl⟩

/-- Settles O21: the frames by their check bytes, the two lines by the width of a character, the bits read back by
induction on the bits the line agrees on. -/
theorem framesAreWellFormed : Obligations.FramesAreWellFormed := by
  unfold Obligations.FramesAreWellFormed
  refine ⟨fun f => ⟨rfl, ?_, ?_, sum_append_checkByte _⟩, fun l held => ?_, fun address t data _ => ?_,
    fun l f i b sending character => ?_, fun l n => htx_between, fun c t i b txn sending released character =>
      drives_character txn sending released character, fun c n => ⟨fun held => drives_heldLow held n, drives_nothing⟩,
    fun sent read => ⟨?_, fun same restSent restRead b sent_eq read_eq => ?_⟩⟩
  · exact List.take_left
  · simp [OutFrame.bytes]
  · obtain ⟨value, small⟩ := statusByte_toNat l held
    exact ⟨value, top_bit_clear small⟩
  · refine ⟨checkByte (byteOf data.length :: data), ?_, sum_append_checkByte _⟩
    cases t <;> rfl
  · obtain ⟨start, bits, stop⟩ := htx_character sending character
    exact ⟨start, bits, stop, fun n => htx_past sending⟩
  · rintro rfl
    exact readBack_of_same _
  · rw [sent_eq, read_eq]
    exact readBack_of_differ b restSent restRead same

end Sys2Proof.Machine
end

section
/-! COACH PASS (R161, R162, R186): the test of the fields, the test of the line, the test of the target, and the record
that is held. -/

namespace Sys2Proof.Machine

-- One theorem at a time, so that a build as one text needs few threads.
set_option Elab.async false

/-- A request its owner holds: nothing is placed in a reply entry (R186). -/
theorem served_hold {k : ReqKind} {tag : Byte} {body : List Byte} {s s1 : State}
    {owner : Request → State → State × Response} (serves : Serves k tag body s) (length : k.lengthOk body = true)
    (held : owner { kind := k.code, tag, body } (takeRequest s) = (s1, .held)) :
    takeEvent (serve k owner) s = .next (settle s1) := by
  rw [takeEvent_supplied serves.1, serve_eq serves length, held]
  rfl

/-- The first test of COACH PASS fails (R162). -/
def PassFieldsOut (body : List Byte) : Prop :=
  30 < u8 body 0 ∨ 2 ≤ u8 body 1 ∨ 16 < u8 body 3 ∨ (u8 body 0 = 0 ∧ u8 body 1 = 0) ∨
    (u8 body 0 = 0 ∧ (u8 body 2 = 0 ∨ 30 < u8 body 2)) ∨ (1 ≤ u8 body 0 ∧ u8 body 2 ≠ 0xFF)

theorem passKind_eq_some {k : Nat} {kind : PassKind} :
    PassKind.ofCode k = some kind ↔ k ≤ 1 ∧ kind = if k = 0 then .read else .write := by
  match k with
  | 0 => exact ⟨fun h => ⟨by decide, (Option.some.inj h).symm⟩, fun h => congrArg some h.2.symm⟩
  | 1 => exact ⟨fun h => ⟨by decide, (Option.some.inj h).symm⟩, fun h => congrArg some h.2.symm⟩
  | k + 2 => exact ⟨fun h => (nomatch h), fun h => absurd h.1 (by omega)⟩

/-- The record COACH PASS asks for (R161). -/
def passAsked (tag : Byte) (body : List Byte) : PassThrough :=
  { tag, nodeAlias := u8 body 0, kind := if u8 body 1 = 0 then .read else .write
    answerAlias := if u8 body 0 = 0 then some (u8 body 2) else none
    data := body.drop 4, phase := .waiting }

section
variable {tag : Byte} {body : List Byte} (length : body.length = 4 + u8 body 3)
include length

theorem passFields_of_not_out (good : ¬ PassFieldsOut body) : passFields tag body = some (passAsked tag body) := by
  simp only [PassFieldsOut, not_or, not_and, not_lt, not_le, not_not] at good
  obtain ⟨aliasFits, kindFits, countFits, writes, answers, noAnswer⟩ := good
  have all : (body.drop 4).take (u8 body 3) = body.drop 4 :=
    List.take_of_length_le (by rw [List.length_drop]; omega)
  unfold passFields
  rw [within_eq_some.mpr ⟨rfl, Nat.zero_le _, aliasFits⟩, passKind_eq_some.mpr ⟨Nat.le_of_lt_succ kindFits, rfl⟩,
    within_eq_some.mpr ⟨rfl, Nat.zero_le _, countFits⟩]
  simp only [Option.bind_eq_bind, Option.bind_some, all]
  by_cases all : u8 body 0 = 0
  · obtain ⟨some, fits⟩ := answers all
    rw [if_pos all, within_eq_some.mpr ⟨rfl, Nat.pos_of_ne_zero some, fits⟩, if_neg (writes all), passAsked, if_pos all,
      if_neg (writes all)]
    rfl
  · rw [if_neg all, if_pos (noAnswer (Nat.pos_of_ne_zero all)), passAsked, if_neg all]

omit length in
theorem passFields_of_out (bad : PassFieldsOut body) : passFields tag body = none := by
  rw [Option.eq_none_iff_forall_ne_some]
  intro p fields
  unfold passFields at fields
  simp only [Option.bind_eq_bind, Option.bind_eq_some_iff, within_eq_some, passKind_eq_some] at fields
  obtain ⟨nodeAlias, ⟨rfl, -, aliasFits⟩, kind, ⟨kindFits, rfl⟩, count, ⟨rfl, -, countFits⟩, rest⟩ := fields
  by_cases all : u8 body 0 = 0
  · rw [if_pos all, Option.bind_eq_some_iff] at rest
    obtain ⟨a, answer, rest⟩ := rest
    obtain ⟨rfl, low, high⟩ := within_eq_some.mp answer
    rw [Option.ite_none_right_eq_some] at rest
    have writes : u8 body 1 ≠ 0 := by
      intro reads
      rw [if_pos reads] at rest
      exact absurd rest.1 (by decide)
    unfold PassFieldsOut at bad
    omega
  · rw [if_neg all, Option.ite_none_right_eq_some] at rest
    unfold PassFieldsOut at bad
    omega

end

theorem passAsked_target (tag : Byte) (body : List Byte) (c : Clc) :
    c.target (passAsked tag body) = c.slotOfAlias (if u8 body 0 = 0 then u8 body 2 else u8 body 0) := by
  unfold Clc.target PassThrough.targetAlias passAsked
  by_cases all : u8 body 0 = 0
  · simp only [all, if_true, Option.getD_some]
  · simp only [all, if_false]

/-- The slot found by its number is enabled and holds it. -/
theorem slotOfAlias_eq_some {c : Clc} {a : Nat} {n : NodeIx} (found : c.slotOfAlias a = some n) :
    c.nodes[n].enabled = true ∧ c.nodes[n].nodeAlias = a := by
  have holds := List.find?_some found
  rwa [Bool.and_eq_true, decide_eq_true_eq] at holds

/-- A slot is found by a number that an enabled slot holds. -/
theorem slotOfAlias_isSome {c : Clc} {a : Nat} {n : NodeIx} (enabled : c.nodes[n].enabled = true)
    (holds : c.nodes[n].nodeAlias = a) : ∃ m, c.slotOfAlias a = some m := by
  rw [← Option.isSome_iff_exists, Clc.slotOfAlias, List.find?_isSome]
  exact ⟨n, List.mem_finRange n, by rw [Bool.and_eq_true, decide_eq_true_eq]; exact ⟨enabled, holds⟩⟩

theorem LineState.up_eq_false (l : LineState) : l.up = false ↔ l ≠ .running ∧ l ≠ .backoff := by
  cases l <;> decide

theorem acceptPass_shut {p : PassThrough} {s : State}
    (shut : s.clc.power = .parked ∨ (s.clc.line ≠ .running ∧ s.clc.line ≠ .backoff)) :
    acceptPass p s = refused .state s := by
  unfold acceptPass
  exact if_pos (by rwa [LineState.up_eq_false])

theorem acceptPass_open {p : PassThrough} {s : State}
    (op : ¬ (s.clc.power = .parked ∨ (s.clc.line ≠ .running ∧ s.clc.line ≠ .backoff))) :
    acceptPass p s = match s.clc.target p with
      | some n =>
        if s.clc.nodes[n].state = .present then (s.modClc fun c => { c with pass := some p }, .held)
        else refused .absent s
      | none => refused .absent s := by
  unfold acceptPass
  exact if_neg (by rwa [LineState.up_eq_false])

/-- Settles O55: the tests of R162 in their order. -/
theorem coachPassIsJudged : Obligations.CoachPassIsJudged := by
  unfold Obligations.CoachPassIsJudged
  intro tag body s serves _ length bad shut holder refuses
  have lengthOk : ReqKind.coachPass.lengthOk body = true := by
    simp [ReqKind.lengthOk, countedLength, length]
    omega
  have refuse : ∀ r, ownCoachPass { kind := ReqKind.coachPass.code, tag, body } (takeRequest s) =
      (takeRequest s, .refuse r) → refuses r := fun r own => served_refuse serves lengthOk own
  have free : s.clc.pass = none → ownCoachPass { kind := ReqKind.coachPass.code, tag, body } (takeRequest s) =
      ranged (passFields tag body) acceptPass (takeRequest s) := by
    intro noPass
    unfold ownCoachPass
    exact if_neg (by rw [show (takeRequest s).clc = s.clc from rfl, noPass]; exact Bool.false_ne_true)
  have judged : s.clc.pass = none → ¬ bad → ownCoachPass { kind := ReqKind.coachPass.code, tag, body } (takeRequest s) =
      acceptPass (passAsked tag body) (takeRequest s) := by
    intro noPass good
    rw [free noPass, passFields_of_not_out length good]
    rfl
  have target : (takeRequest s).clc.target (passAsked tag body) =
      s.clc.slotOfAlias (if u8 body 0 = 0 then u8 body 2 else u8 body 0) := passAsked_target tag body _
  refine ⟨fun busy => refuse .busy ?_, fun noPass out => refuse .range ?_, fun noPass good isShut => refuse .state ?_,
    fun noPass good isOpen absent => refuse .absent ?_, ?_⟩
  · unfold ownCoachPass
    exact if_pos (Option.isSome_iff_ne_none.mpr busy)
  · rw [free noPass, passFields_of_out out]
    rfl
  · rw [judged noPass good]
    exact acceptPass_shut (s := takeRequest s) isShut
  · rw [judged noPass good, acceptPass_open (s := takeRequest s) isOpen, target]
    cases found : s.clc.slotOfAlias (if u8 body 0 = 0 then u8 body 2 else u8 body 0) with
    | none => rfl
    | some n => exact if_neg (absent n (slotOfAlias_eq_some found))
  · rintro ⟨m, enabled, holds⟩ present noPass good isOpen
    obtain ⟨n, found⟩ := slotOfAlias_isSome enabled holds
    refine served_hold serves lengthOk ?_
    rw [judged noPass good, acceptPass_open (s := takeRequest s) isOpen, target, found]
    exact if_pos (present n (slotOfAlias_eq_some found))

end Sys2Proof.Machine
end

section
/-! The stale and the lost expiry of a slot, at each block that takes the change (R24, R25, R29, R31, R32, R154). -/

namespace Sys2Proof.Machine

-- One theorem at a time, so that a build as one text needs few threads.
set_option Elab.async false

/-- The blocks that read the Sensor Report Table (R25). -/
abbrev slotTakers : List Block := [.gdu, .tau, .wtb, .clc]

theorem MarksOnly.outsideSlot_eq {s t : State} (h : MarksOnly s t) : t.clc.outsideSlot = s.clc.outsideSlot := by
  have := congrArg Clc.outsideSlot h.keeps
  exact this

section
variable (n : SlotIx) (u : State)

/-- The other blocks leave the GDU as it is. -/
theorem takeSlotState_gdu {b : Block} (ne : b ≠ .gdu) : (takeSlotState n b u).gdu = u.gdu := by
  cases b
  case gdu => exact absurd rfl ne
  case tau => exact (tauSlotState_only u n).gdu_eq (by decide)
  case wtb => exact (wtbSlot_only u n _ _).gdu_eq (by decide)
  case clc => exact (clcSlot_only u n).gdu_eq (by decide)
  all_goals rfl

theorem tauSlotState_counts : CountsOnly u (tauSlotState n u) := by
  unfold tauSlotState
  split_ifs
  · exact .recomputeRange u
  · exact .refl u

/-- The other blocks take a change of a slot's state with marks alone at the Coach Line. -/
theorem takeSlotState_marks {b : Block} (ne : b ≠ .clc) : MarksOnly u (takeSlotState n b u) := by
  cases b
  case clc => exact absurd rfl ne
  case gdu => exact .of_only (gduSlotState_only u n)
  case tau => exact (tauSlotState_counts n u).marks
  case wtb =>
    unfold takeSlotState wtbSlot
    exact .wtbTake _ _ u
  all_goals exact .refl u

/-- The other blocks leave the WTB's copies of the slots' states. -/
theorem takeSlotState_slotStates {b : Block} (ne : b ≠ .wtb) :
    (takeSlotState n b u).wtb.view.slotStates = u.wtb.view.slotStates := by
  cases b
  case wtb => exact absurd rfl ne
  case tau =>
    have same := congrArg WarnView.slotStates (tauSlotState_counts n u).view
    exact same
  case gdu => rfl
  case clc => rw [takeSlotState, (clcSlot_only u n).wtb_eq (by decide)]
  all_goals rfl

theorem hand_takeSlotState_gdu : (hand slotTakers (takeSlotState n) u).gdu = (gduSlotState n u).gdu := by
  refine hand_reaches (b := .gdu) (before := fun x => x.gdu = u.gdu) (goal := fun x => x.gdu = (gduSlotState n u).gdu)
    (by decide) (fun _ _ same => same) (fun x same => ?_) (fun c x ne same => ?_) (fun c x ne same => ?_) rfl
  · change (gduSlotState n x).gdu = _
    rw [gduSlotState, State.modGdu_gdu, same]
    rfl
  · exact (takeSlotState_gdu n x ne).trans same
  · exact (takeSlotState_gdu n x ne).trans same

/-- The WTB copies the slot's state (R88). -/
theorem hand_takeSlotState_view :
    (hand slotTakers (takeSlotState n) u).wtb.view.slotStates[n] = u.gdu.slots[n].state := by
  refine hand_reaches (b := .wtb) (before := fun x => x.gdu.slots = u.gdu.slots)
    (goal := fun x => x.wtb.view.slotStates[n] = u.gdu.slots[n].state)
    (by decide) (fun _ _ same => same) (fun x same => ?_) (fun c x ne same => ?_) (fun c x ne same => ?_) rfl
  · have takes : takeSlotState n .wtb x = wtbSlot n x.gdu.slots[n].state x.gdu.slots[n].value x := rfl
    rw [takes, wtbSlot, wtbTake_view, same]
    exact Vector.getElem_set_self n.isLt
  · rw [takeSlotState_slots, same]
  · rw [takeSlotState_slotStates n x ne, same]

/-- The CLC marks OUTSIDE_TEMP for its outside slot (R25, R154). -/
theorem hand_takeSlotState_marked (outside : u.clc.outsideSlot = some n) :
    Marked .outsideTemp u (hand slotTakers (takeSlotState n) u) := by
  refine hand_reaches (b := .clc) (before := fun x => MarksOnly u x) (goal := fun x => Marked .outsideTemp u x)
    (by decide) (fun _ _ marks => marks) (fun x marks => ?_)
    (fun c x ne marks => marks.trans (takeSlotState_marks n x ne))
    (fun c x ne marked => marked.then (takeSlotState_marks n x ne).holds) (.refl u)
  have same : x.clc.outsideSlot = some n := by rw [marks.outsideSlot_eq, outside]
  have takes : takeSlotState n .clc x = clcSlot n x := rfl
  rw [takes, clcSlot, if_pos same]
  exact marks.then_marked (marked_mark _ x)

end

/-- A gauge on a slot whose buffers change is recomputed with its own (R31, R32). -/
theorem Gdu.withBuffers_gauge (n : SlotIx) (f : Gauge → List Int) (d : Gdu) {g : GaugeIx}
    (source : d.gauges[g].cfg.source = .slot n) : ∃ d' : Gdu, d'.slots = d.slots ∧
      (d.withBuffers n f).gauges[g] = d'.recompute { d.gauges[g] with buffer := f d.gauges[g] } := by
  refine ⟨{ d with gauges := mapAll (fun g => if g.cfg.source = .slot n then { g with buffer := f g } else g) d.gauges },
    rfl, ?_⟩
  unfold Gdu.withBuffers Gdu.recomputeWhere
  dsimp only
  rw [mapAll_get, mapAll_get, if_pos source]
  exact if_pos (decide_eq_true source)

/-- A gauge on the slot is recomputed, its buffer emptied when the slot is LOST (R31, R32). -/
theorem gduSlotState_gauge (n : SlotIx) (u : State) {g : GaugeIx} (source : u.gdu.gauges[g].cfg.source = .slot n) :
    ∃ d : Gdu, d.slots = u.gdu.slots ∧ (gduSlotState n u).gdu.gauges[g] = d.recompute { u.gdu.gauges[g] with
      buffer := if u.gdu.slots[n].state = .lost then [] else u.gdu.gauges[g].buffer } := by
  rw [gduSlotState, State.modGdu_gdu]
  exact u.gdu.withBuffers_gauge n _ source

theorem Gdu.recompute_keeps (d : Gdu) (x : Gauge) :
    (d.recompute x).present = x.present ∧ (d.recompute x).buffer = x.buffer := by
  obtain ⟨present, -, buffer, -⟩ := d.goCalled_keeps x
  unfold Gdu.recompute
  split
  case h_4 | h_5 | h_6 | h_7 => exact ⟨rfl, rfl⟩
  all_goals exact ⟨present, buffer⟩

theorem Gdu.recompute_driven (d : Gdu) {x : Gauge} (driven : x.state = .tracking ∨ x.state = .held ∨ x.state = .void) :
    d.recompute x = d.goCalled x := by
  unfold Gdu.recompute
  rcases driven with state | state | state <;> rw [state]

/-- The expiry of a slot's timer: the slot is changed and the change handed. -/
def slotExpired (n : SlotIx) (f : Slot → Slot) (s : State) : State :=
  hand slotTakers (takeSlotState n) (s.modSlot n f)

section
variable (n : SlotIx) (f : Slot → Slot) (s : State)

theorem slotExpired_only : OnlyChanges [.gdu, .tau, .wtb, .chs, .clc, .lkp, .free] s (slotExpired n f s) :=
  (modSlot_only s _ _).comp (hand_only (fun b s => takeSlotState_only s n b) _)

theorem slotExpired_slots : (slotExpired n f s).gdu.slots = s.gdu.slots.set n (f s.gdu.slots[n]) :=
  hand_slots (takeSlotState_slots n) _ _

theorem modSlot_slot : (s.modSlot n f).gdu.slots[n] = f s.gdu.slots[n] := by
  rw [State.modSlot_slots, updAt_get_same]

theorem slotExpired_view : (slotExpired n f s).wtb.view.slotStates[n] = (f s.gdu.slots[n]).state := by
  rw [slotExpired, hand_takeSlotState_view, modSlot_slot]

theorem slotExpired_marked (outside : s.clc.outsideSlot = some n) : Marked .outsideTemp s (slotExpired n f s) :=
  hand_takeSlotState_marked n (s.modSlot n f) outside

variable {n f s} {g : GaugeIx} (source : s.gdu.gauges[g].cfg.source = .slot n)
include source

theorem slotExpired_gauge : ∃ d : Gdu, d.slots[n].state = (f s.gdu.slots[n]).state ∧
    (slotExpired n f s).gdu.gauges[g] = d.recompute { s.gdu.gauges[g] with
      buffer := if (f s.gdu.slots[n]).state = .lost then [] else s.gdu.gauges[g].buffer } := by
  obtain ⟨d, slots, gauge⟩ := gduSlotState_gauge n (s.modSlot n f) (g := g) source
  rw [modSlot_slot] at gauge
  refine ⟨d, by rw [slots, modSlot_slot], ?_⟩
  rw [slotExpired, hand_takeSlotState_gdu]
  exact gauge

/-- A gauge on a slot that has gone STALE stands HELD (R29, R31). -/
theorem slotExpired_stale (stale : (f s.gdu.slots[n]).state = .stale) :
    (slotExpired n f s).gdu.gauges[g].buffer = s.gdu.gauges[g].buffer ∧
    (slotExpired n f s).gdu.gauges[g].present = s.gdu.gauges[g].present ∧
    (s.gdu.gauges[g].state = .tracking ∨ s.gdu.gauges[g].state = .held ∨ s.gdu.gauges[g].state = .void →
      (slotExpired n f s).gdu.gauges[g].state = .held ∧
        some (slotExpired n f s).gdu.gauges[g].target = some (s.gdu.gauges[g].present.getD 0)) := by
  obtain ⟨d, state, gauge⟩ := slotExpired_gauge (f := f) source
  rw [stale, if_neg (by decide)] at gauge
  rw [gauge]
  obtain ⟨present, buffer⟩ := d.recompute_keeps s.gdu.gauges[g]
  refine ⟨buffer, present, fun driven => ?_⟩
  rw [d.recompute_driven driven, d.goCalled_of_slot _ source, state, stale]
  exact ⟨rfl, rfl⟩

/-- A gauge on a slot that has gone LOST stands VOID at target 0, its buffer empty (R29, R31, R32). -/
theorem slotExpired_lost (lost : (f s.gdu.slots[n]).state = .lost) :
    (slotExpired n f s).gdu.gauges[g].buffer = [] ∧
    (slotExpired n f s).gdu.gauges[g].present = s.gdu.gauges[g].present ∧
    (s.gdu.gauges[g].state = .tracking ∨ s.gdu.gauges[g].state = .held ∨ s.gdu.gauges[g].state = .void →
      (slotExpired n f s).gdu.gauges[g].state = .void ∧ (slotExpired n f s).gdu.gauges[g].target = 0) := by
  obtain ⟨d, state, gauge⟩ := slotExpired_gauge (f := f) source
  rw [if_pos lost] at gauge
  rw [gauge]
  obtain ⟨present, buffer⟩ := d.recompute_keeps { s.gdu.gauges[g] with buffer := [] }
  refine ⟨buffer, present, fun driven => ?_⟩
  rw [d.recompute_driven (x := { s.gdu.gauges[g] with buffer := [] }) driven,
    d.goCalled_of_slot { s.gdu.gauges[g] with buffer := [] } source, state, lost]
  exact ⟨rfl, rfl⟩

end

theorem slotStaleExpiry_idle {n : SlotIx} {s : State}
    (idle : s.gdu.slots[n].state ≠ .fresh ∨ s.gdu.slots[n].staleTimer = none) : slotStaleExpiry n s = s := by
  unfold slotStaleExpiry
  refine if_neg fun both => ?_
  have running := Option.isSome_iff_ne_none.mp both.2
  tauto

theorem slotLostExpiry_idle {n : SlotIx} {s : State}
    (idle : s.gdu.slots[n].state ≠ .stale ∨ s.gdu.slots[n].lostTimer = none) : slotLostExpiry n s = s := by
  unfold slotLostExpiry
  refine if_neg fun both => ?_
  have running := Option.isSome_iff_ne_none.mp both.2
  tauto

theorem exec_slotLostExpiry {s : State} (supplied : s.igs.supplied = true) (n : SlotIx) :
    exec (.slotLostExpiry n) s = .next (settle (slotLostExpiry n s)) := takeEvent_supplied supplied

/-- Settles O34: the two expiries at each block that takes them. -/
theorem slotTimersExpire : Obligations.SlotTimersExpire := by
  unfold Obligations.SlotTimersExpire
  intro n s supplied x
  refine ⟨fun idle => ?_, fun fresh running => ?_, fun idle => ?_, fun stale running => ?_⟩
  · rw [exec_slotStaleExpiry supplied, slotStaleExpiry_idle idle]
  · refine ⟨slotExpired n (fun x => { x with state := .stale, staleTimer := none, lostTimer := some x.lostTime }) s, ?_,
      slotExpired_only n _ s, slotExpired_slots n _ s, slotExpired_view n _ s, slotExpired_marked n _ s,
      fun g source => slotExpired_stale source rfl⟩
    rw [exec_slotStaleExpiry supplied, slotStaleExpiry, if_pos ⟨fresh, Option.isSome_iff_ne_none.mpr running⟩]
    rfl
  · rw [exec_slotLostExpiry supplied, slotLostExpiry_idle idle]
  · refine ⟨slotExpired n (fun x => { x with state := .lost, lostTimer := none }) s, ?_,
      slotExpired_only n _ s, slotExpired_slots n _ s, slotExpired_view n _ s, slotExpired_marked n _ s,
      fun g source => slotExpired_lost source rfl⟩
    rw [exec_slotLostExpiry supplied, slotLostExpiry, if_pos ⟨stale, Option.isSome_iff_ne_none.mpr running⟩]
    rfl

end Sys2Proof.Machine
end

section
/-! The end of a segment: the next one, the count of a pass, the end of a request, and the player's choice (R96, R115,
R116, R117, R123). -/

namespace Sys2Proof.Machine

-- One theorem at a time, so that a build as one text needs few threads.
set_option Elab.async false

/-! ## The player's choice after a segment -/

/-- What the player plays when it has chosen after a segment of a source: the first request that may play, the same one
its next segment, another one its segment 0 (R116). -/
def Chs.PlaysAfter (src : ChimeSource) (next : Nat) (c : Chs) : Prop :=
  match c.queue.find? (mayPlay c.privacy) with
  | none => c.player = none
  | some q => c.player = (c.patterns[q.pattern].segments[if q.source = src then next else 0]?).map fun g =>
      { source := q.source, segment := if q.source = src then next else 0, timer := g.duration }

/-- A choice changes the player alone. -/
theorem Chs.chooseAfter_frame (src : ChimeSource) (next : Nat) (c : Chs) :
    { c.chooseAfter src next with player := c.player } = c := by
  unfold Chs.chooseAfter
  split_ifs
  · rfl
  · split
    · split_ifs <;> rfl
    · rfl

/-- The player's choice is read in the queue as the segment's end leaves it. -/
theorem Chs.playsAfter_of_player {src : ChimeSource} {next : Nat} {c d : Chs} (frame : { d with player := c.player } = c)
    (none : c.firstPlayable = none → d.player = none)
    (some : ∀ q, c.firstPlayable = some q → d.player = (c.start q (if q.source = src then next else 0)).player) :
    d.PlaysAfter src next := by
  have queue : d.queue = c.queue := by rw [← frame]
  have privacy : d.privacy = c.privacy := by rw [← frame]
  have patterns : d.patterns = c.patterns := by rw [← frame]
  unfold Chs.PlaysAfter
  rw [queue, privacy, patterns]
  cases found : c.queue.find? (mayPlay c.privacy) with
  | none => exact none found
  | some q => exact some q found

section
variable {src : ChimeSource} {c : Chs} (awake : c.power ≠ .crank)
include awake

theorem Chs.chooseAfter_plays (next : Nat) : (c.chooseAfter src next).PlaysAfter src next := by
  refine Chs.playsAfter_of_player (c.chooseAfter_frame src next) (fun none => ?_) (fun q first => ?_)
  · rw [Chs.chooseAfter, if_neg awake, none]
  · rw [Chs.chooseAfter, if_neg awake, first]
    dsimp only
    split_ifs <;> rfl

theorem Chs.choose_plays : c.choose.PlaysAfter src 0 := by
  refine Chs.playsAfter_of_player c.choose_frame (fun none => ?_) (fun q first => ?_)
  · rw [Chs.choose, if_neg awake, none]
  · rw [Chs.choose, if_neg awake, first, ite_self]

end

/-- An end handed to the WTB starts the timer of its own entry and leaves the others (R96). -/
theorem Wtb.retried_entry (src : ChimeSource) (t : Wtb) (w : EntryIx) : (t.retried src).entries[w] =
    if src = .warning w ∧ t.entries[w].state = .active ∧ t.entries[w].cfg.rep.isSome = true
    then { t.entries[w] with repeatTimer := t.entries[w].cfg.rep } else t.entries[w] := by
  match src with
  | .alarm _ | .rearCall | .link => exact (if_neg fun same => nomatch same.1).symm
  | .warning v =>
    by_cases same : v = w
    · subst same
      unfold Wtb.retried
      dsimp only
      by_cases retries : t.entries[v].state = .active ∧ t.entries[v].cfg.rep.isSome = true
      · rw [if_pos retries, if_pos ⟨rfl, retries⟩]
        exact Vector.getElem_set_self v.isLt
      · rw [if_neg retries, if_neg fun all => retries all.2]
    · rw [if_neg fun all => same (ChimeSource.warning.inj all.1)]
      unfold Wtb.retried
      dsimp only
      split_ifs
      · exact Vector.getElem_set_ne v.isLt w.isLt fun val => same (Fin.ext val)
      · rfl

/-! ## The end of a segment -/

theorem exec_segmentEnd {s : State} (supplied : s.igs.supplied = true) :
    exec .segmentEnd s = .next (settle (segmentEnd s)) := takeEvent_supplied supplied

theorem segmentEnd_silent {s : State} (silent : s.chs.player = none) : segmentEnd s = s := by
  unfold segmentEnd
  rw [silent]

section
variable {s : State} {p : Playing} {r : ChimeRequest} (plays : s.chs.player = some p)
  (found : s.chs.queue.find? (fun q => decide (q.source = p.source)) = some r)
include plays found

theorem playingRequest_eq : s.chs.playingRequest = some r := by
  unfold Chs.playingRequest
  rw [plays]
  exact found

theorem segmentEnd_next (more : ¬ s.chs.patterns[r.pattern].segments.length ≤ p.segment + 1) :
    segmentEnd s = s.modChs (Chs.chooseAfter p.source (p.segment + 1)) := by
  unfold segmentEnd
  rw [plays, playingRequest_eq plays found]
  exact if_pos (Nat.lt_of_not_le more)

variable (last : s.chs.patterns[r.pattern].segments.length ≤ p.segment + 1)
include last

theorem segmentEnd_last : segmentEnd s = match r.passes with
    | .whileActive => s.modChs (Chs.chooseAfter p.source 0)
    | .times n =>
      if n ≤ 1 then handEnd .finished r (s.modChs fun c => (c.drop p.source).choose)
      else s.modChs fun c => (c.setPasses p.source (.times (n - 1))).chooseAfter p.source 0 := by
  unfold segmentEnd
  rw [plays, playingRequest_eq plays found]
  exact if_neg (Nat.not_lt_of_le last)

theorem segmentEnd_again (active : r.passes = .whileActive) :
    segmentEnd s = s.modChs (Chs.chooseAfter p.source 0) := by
  rw [segmentEnd_last plays found last, active]

theorem segmentEnd_counted {k : Nat} (passes : r.passes = .times k) (more : 2 ≤ k) :
    segmentEnd s = s.modChs fun c => (c.setPasses p.source (.times (k - 1))).chooseAfter p.source 0 := by
  rw [segmentEnd_last plays found last, passes]
  exact if_neg (by omega)

theorem segmentEnd_finished {k : Nat} (passes : r.passes = .times k) (out : k ≤ 1) :
    segmentEnd s = handEnd .finished r (s.modChs fun c => (c.drop p.source).choose) := by
  rw [segmentEnd_last plays found last, passes]
  exact if_pos out

end

/-- Settles O51: the segments and the passes in the order of R117. -/
theorem segmentsEnd : Obligations.SegmentsEnd := by
  unfold Obligations.SegmentsEnd
  intro s supplied
  refine ⟨fun silent => by rw [exec_segmentEnd supplied, segmentEnd_silent silent], ?_⟩
  intro p r plays awake found last playsThen
  refine ⟨fun more => ?_, fun isLast active => ?_, fun k isLast passes more => ?_, fun k isLast passes out => ?_⟩
  · refine ⟨_, ?_, modChs_only s (Chs.chooseAfter p.source (p.segment + 1)), Chs.chooseAfter_frame _ _ _,
      Chs.chooseAfter_plays awake _⟩
    rw [exec_segmentEnd supplied, segmentEnd_next plays found more]
  · refine ⟨_, ?_, modChs_only s (Chs.chooseAfter p.source 0), Chs.chooseAfter_frame _ _ _,
      Chs.chooseAfter_plays awake _⟩
    rw [exec_segmentEnd supplied, segmentEnd_again plays found isLast active]
  · have frame := Chs.chooseAfter_frame p.source 0 (s.chs.setPasses p.source (.times (k - 1)))
    refine ⟨_, ?_, modChs_only s fun c => (c.setPasses p.source (.times (k - 1))).chooseAfter p.source 0, ?_, ?_,
      Chs.chooseAfter_plays (c := s.chs.setPasses p.source (.times (k - 1))) awake _⟩
    · rw [exec_segmentEnd supplied, segmentEnd_counted plays found isLast passes more]
    · exact congrArg Chs.queue frame
    · exact congrArg (fun c : Chs => { c with queue := s.chs.queue }) frame
  · have frame := Chs.choose_frame (s.chs.drop p.source)
    obtain ⟨only, wtb, lkp⟩ := handEnd_spec (s.modChs fun c => (c.drop p.source).choose) .finished r
    have chs : (handEnd .finished r (s.modChs fun c => (c.drop p.source).choose)).chs = (s.chs.drop p.source).choose :=
      only .chs (by decide)
    refine ⟨_, ?_, (modChs_only s fun c => (c.drop p.source).choose).comp only, ?_, ?_, ?_,
      fun w => ?_⟩
    · rw [exec_segmentEnd supplied, segmentEnd_finished plays found isLast passes out]
    · rw [chs]
      have same := congrArg Chs.queue frame
      exact same
    · rw [chs]
      exact Chs.choose_plays (c := s.chs.drop p.source) awake
    · exact lkp
    · rw [wtb, Wtb.retried_entry]
      rfl

end Sys2Proof.Machine
end

section
/-! The qualify and the repeat expiry of a warning entry, with the chime request they hand (R93, R94, R96, R97, R114,
R189). -/

namespace Sys2Proof.Machine

-- One theorem at a time, so that a build as one text needs few threads.
set_option Elab.async false

/-! ## A request that is not LINK's -/

theorem Chs.victim_of_full {c : Chs} (full : 8 ≤ c.queue.length) : ∃ v, c.victim = some v := by
  unfold Chs.victim
  cases queue : c.queue with
  | nil => rw [queue] at full; cases full
  | cons r rs => exact ⟨_, rfl⟩

/-- The ways a request can be taken whose source is not LINK (R112, R114). -/
theorem takeChime_cases {r : ChimeRequest} {s : State} (other : r.source ≠ .link) :
    (s.chs.holds r.source = true ∧ takeChime r s = (s, .alreadyHeld)) ∨
    (s.chs.holds r.source = false ∧ s.chs.queue.length < 8 ∧
      takeChime r s = (s.modChs fun c => (c.enqueue r).chooseIfSilent, .queued)) ∨
    ∃ v, s.chs.holds r.source = false ∧ 8 ≤ s.chs.queue.length ∧ s.chs.victim = some v ∧
      ((v.cls.rank < r.cls.rank ∧ takeChime r s =
          ((handEnd .evicted v s).modChs fun c => ((c.drop v.source).enqueue r).chooseIfSilent, .queued)) ∨
        (r.cls.rank ≤ v.cls.rank ∧ takeChime r s = (handNotQueued r.source s, .notQueued))) := by
  cases held : s.chs.holds r.source with
  | true => exact .inl ⟨rfl, takeChime_held held other⟩
  | false =>
    by_cases room : s.chs.queue.length < 8
    · exact .inr (.inl ⟨rfl, room, takeChime_room held room⟩)
    · have full := Nat.le_of_not_lt room
      obtain ⟨v, victim⟩ := Chs.victim_of_full full
      refine .inr (.inr ⟨v, rfl, full, victim, ?_⟩)
      rcases Nat.lt_or_ge v.cls.rank r.cls.rank with higher | notHigher
      · exact .inl ⟨higher, takeChime_evicts held full victim higher⟩
      · exact .inr ⟨notHigher, takeChime_full held full victim notHigher⟩

theorem Chs.holds_enqueue (c : Chs) (r : ChimeRequest) : (c.enqueue r).chooseIfSilent.holds r.source = true := by
  unfold Chs.holds
  rw [Chs.chooseIfSilent_queue, List.any_eq_true]
  exact ⟨_, (insertRequest_perm _ _).mem_iff.mpr (List.mem_cons_self ..), decide_eq_true rfl⟩

/-- With room in the queue a request's source has one standing afterwards (R112). -/
theorem takeChime_holds {r : ChimeRequest} {s : State} (other : r.source ≠ .link) (room : s.chs.queue.length < 8) :
    (takeChime r s).1.chs.holds r.source = true := by
  rcases takeChime_cases (s := s) other with ⟨held, taken⟩ | ⟨-, -, taken⟩ | ⟨v, -, full, -⟩
  · rw [taken]
    exact held
  · rw [taken]
    exact s.chs.holds_enqueue r
  · exact absurd full (Nat.not_le_of_lt room)

/-- A request of an entry is not queued: the queue is full and holds no request of a lower class (R114). -/
def Chs.Rejects (c : Chs) (r : ChimeRequest) : Prop :=
  c.holds r.source = false ∧ 8 ≤ c.queue.length ∧ ∀ v, c.victim = some v → r.cls.rank ≤ v.cls.rank

/-- The entry whose request is not queued starts its repeat timer; its own entry is otherwise left (R96, R114). -/
theorem takeChime_entry {r : ChimeRequest} {s : State} {w : EntryIx} (warning : r.source = .warning w) :
    (s.chs.Rejects r → (takeChime r s).1.wtb.entries[w] = (s.wtb.retried (.warning w)).entries[w]) ∧
    (¬ s.chs.Rejects r → (takeChime r s).1.wtb.entries[w] = s.wtb.entries[w]) := by
  have other : r.source ≠ .link := by rw [warning]; exact nofun
  rcases takeChime_cases (s := s) other with ⟨held, taken⟩ | ⟨-, room, taken⟩ | ⟨v, absent, full, victim, ways⟩
  · rw [taken]
    refine ⟨fun rejects => ?_, fun _ => rfl⟩
    rw [rejects.1] at held
    cases held
  · rw [taken]
    exact ⟨fun rejects => absurd rejects.2.1 (Nat.not_le_of_lt room), fun _ => rfl⟩
  · rcases ways with ⟨higher, taken⟩ | ⟨notHigher, taken⟩
    · refine ⟨fun rejects => absurd (rejects.2.2 v victim) (Nat.not_le_of_lt higher), fun _ => ?_⟩
      have apart : ¬ (v.source = .warning w ∧ s.wtb.entries[w].state = .active ∧
          s.wtb.entries[w].cfg.rep.isSome = true) := by
        rintro ⟨same, -⟩
        have held : s.chs.holds r.source = true :=
          List.any_eq_true.mpr ⟨v, (Chs.victim_spec victim).1, decide_eq_true (same.trans warning.symm)⟩
        rw [absent] at held
        cases held
      rw [taken]
      change (handEnd .evicted v s).wtb.entries[w] = _
      rw [(handEnd_spec s .evicted v).2.1, Wtb.retried_entry, if_neg apart]
    · refine ⟨fun _ => ?_, fun accepts => absurd ⟨absent, full, fun u same => ?_⟩ accepts⟩
      · rw [taken, handNotQueued_wtb, warning]
      · cases victim.symm.trans same
        exact notHigher

theorem takeNotice_length (n : Notice) (l : Lkp) : (l.takeNotice n).notices.length ≤ l.notices.length + 1 := by
  unfold Lkp.takeNotice
  split_ifs
  · exact Nat.le_succ _
  · rw [List.length_map]
    exact Nat.le_succ _
  · exact Nat.le_succ _
  · rw [List.length_append, List.length_singleton]

theorem hearEnd_length (o : ChimeOutcome) (r : ChimeRequest) (l : Lkp) :
    (l.hearEnd o r).notices.length ≤ l.notices.length + 1 := by
  unfold Lkp.hearEnd
  split
  · exact takeNotice_length _ l
  · exact Nat.le_succ _

/-- A request brings one notice at most: that of an evicted LINK request (R114, R123). -/
theorem takeChime_notices {r : ChimeRequest} {s : State} (other : r.source ≠ .link) :
    (takeChime r s).1.lkp.notices.length ≤ s.lkp.notices.length + 1 := by
  rcases takeChime_cases (s := s) other with ⟨-, taken⟩ | ⟨-, -, taken⟩ | ⟨v, -, -, -, ⟨-, taken⟩ | ⟨-, taken⟩⟩
  · rw [taken]
    exact Nat.le_succ _
  · rw [taken]
    exact Nat.le_succ _
  · rw [taken]
    change (handEnd .evicted v s).lkp.notices.length ≤ _
    rw [(handEnd_spec s .evicted v).2.2]
    exact hearEnd_length _ _ _
  · rw [taken, (handNotQueued_only s _).lkp_eq]
    exact Nat.le_succ _

theorem takeChime_clc {r : ChimeRequest} {s : State} (other : r.source ≠ .link) : (takeChime r s).1.clc = s.clc := by
  rcases takeChime_cases (s := s) other with ⟨-, taken⟩ | ⟨-, -, taken⟩ | ⟨v, -, -, -, ⟨-, taken⟩ | ⟨-, taken⟩⟩
  · rw [taken]
  · rw [taken]
    rfl
  · rw [taken]
    exact (handEnd_spec s .evicted v).1.clc_eq (by decide)
  · rw [taken]
    exact (handNotQueued_only s _).clc_eq (by decide)

/-- A notice of a kind that is on finds its place in a queue that is not full (R189). -/
theorem mem_takeNotice {n : Notice} {l : Lkp} (on : l.mask.getLsbD n.bit = true) (room : l.notices.length < 12) :
    n ∈ (l.takeNotice n).notices := by
  by_cases held : ∃ m ∈ l.notices, m.key = n.key
  · rw [Lkp.takeNotice_merged on held]
    obtain ⟨m, mem, same⟩ := held
    exact List.mem_map.mpr ⟨m, mem, if_pos same⟩
  · rw [Lkp.takeNotice_appended on (fun m mem same => held ⟨m, mem, same⟩) room]
    exact List.mem_append_right _ (List.mem_singleton_self n)

/-! ## An entry enters ACTIVE -/

/-- The entry in ACTIVE with its timers stopped (R94). -/
abbrev entered (w : EntryIx) (s : State) : State :=
  s.modEntry w fun e => { e with state := .active, qualifyTimer := none, repeatTimer := none }

/-- The chime request of an entry (R94). -/
abbrev requestOf (w : EntryIx) (p : PatternIx) (s : State) : ChimeRequest :=
  warningRequest s.chs w s.wtb.entries[w].cfg p

section
variable (w : EntryIx) (s : State)

theorem entered_entry : (entered w s).wtb.entries[w] =
    { s.wtb.entries[w] with state := .active, qualifyTimer := none, repeatTimer := none } := by
  rw [State.modEntry_wtb]
  exact updAt_get_same _ _ _

theorem handWarningChime_entered {p : PatternIx} (pattern : s.wtb.entries[w].cfg.pattern = some p) :
    handWarningChime w (entered w s) = (takeChime (requestOf w p s) (entered w s)).1 := by
  unfold handWarningChime
  rw [entered_entry, pattern]
  rfl

theorem handWarningChime_silent {t : State} (silent : t.wtb.entries[w].cfg.pattern = none) :
    handWarningChime w t = t := by
  unfold handWarningChime
  rw [silent]

/-- The repeat timer runs after an entry has entered ACTIVE where its request is not queued (R94, R96). -/
theorem handWarningChime_entry : (handWarningChime w (entered w s)).wtb.entries[w] =
    { s.wtb.entries[w] with
      state := .active, qualifyTimer := none
      repeatTimer := if s.wtb.entries[w].cfg.pattern.isSome = true ∧ s.chs.holds (.warning w) = false ∧
          8 ≤ s.chs.queue.length ∧ (∀ v, s.chs.victim = some v → s.wtb.entries[w].cfg.cls.rank ≤ v.cls.rank)
        then s.wtb.entries[w].cfg.rep else none } := by
  cases pattern : s.wtb.entries[w].cfg.pattern with
  | none =>
    rw [handWarningChime_silent w (by rw [entered_entry]; exact pattern), entered_entry, if_neg fun all => nomatch all.1]
  | some p =>
    obtain ⟨rejected, accepted⟩ := takeChime_entry (r := requestOf w p s) (s := entered w s) (w := w) rfl
    rw [handWarningChime_entered w s pattern]
    by_cases rejects : (entered w s).chs.Rejects (requestOf w p s)
    · rw [rejected rejects, if_pos ⟨rfl, rejects⟩, Wtb.retried_entry, entered_entry]
      split_ifs with retries
      · rfl
      · have none : s.wtb.entries[w].cfg.rep = none := by
          rw [← Option.not_isSome_iff_eq_none]
          exact fun repeats => retries ⟨rfl, rfl, repeats⟩
        rw [none]
    · rw [accepted rejects, if_neg fun all => rejects all.2, entered_entry]

theorem enterActive_eq : enterActive w s =
    reportEntry w s.wtb.entries[w].state .active (handWarningChime w (entered w s)) := rfl

theorem handWarningChime_mask (t : State) : (handWarningChime w t).lkp.mask = t.lkp.mask :=
  (NoticesOnly.handWarningChime w t).mask_eq

theorem handWarningChime_notices (t : State) :
    (handWarningChime w t).lkp.notices.length ≤ t.lkp.notices.length + 1 := by
  unfold handWarningChime
  split
  · exact takeChime_notices (by exact nofun)
  · exact Nat.le_succ _

theorem handWarningChime_clc (t : State) : (handWarningChime w t).clc = t.clc := by
  unfold handWarningChime
  split
  · exact takeChime_clc (by exact nofun)
  · rfl

/-- A mirror-rear entry that enters ACTIVE is marked (R97). -/
theorem enterActive_marked (mirrored : s.wtb.entries[w].cfg.mirrorRear = true) :
    Marked .rearWarnings s (enterActive w s) := by
  have same : (handWarningChime w (entered w s)).clc = s.clc := handWarningChime_clc w _
  have cfg : (handWarningChime w (entered w s)).wtb.entries[w].cfg.mirrorRear = true := by
    rw [handWarningChime_entry]
    exact mirrored
  have marks : (enterActive w s).clc = s.clc.mark .rearWarnings := by
    rw [enterActive_eq, reportEntry_clc, if_pos ⟨cfg, .inr rfl⟩, same]
  intro up n present set
  rw [marks]
  exact marked_mark .rearWarnings s up n present set

end

/-! ## The two expiries -/

section
variable {w : EntryIx} {s : State}

theorem qualifyExpiry_of (pending : s.wtb.entries[w].state = .pending) (running : s.wtb.entries[w].qualifyTimer ≠ none) :
    qualifyExpiry w s = enterActive w s := if_pos ⟨pending, Option.isSome_iff_ne_none.mpr running⟩

theorem qualifyExpiry_idle (idle : s.wtb.entries[w].state ≠ .pending ∨ s.wtb.entries[w].qualifyTimer = none) :
    qualifyExpiry w s = s := by
  refine if_neg fun both => ?_
  have running := Option.isSome_iff_ne_none.mp both.2
  tauto

theorem repeatExpiry_of (active : s.wtb.entries[w].state = .active) (running : s.wtb.entries[w].repeatTimer ≠ none) :
    repeatExpiry w s = handWarningChime w (s.modEntry w fun e => { e with repeatTimer := none }) :=
  if_pos ⟨active, Option.isSome_iff_ne_none.mpr running⟩

theorem repeatExpiry_idle (idle : s.wtb.entries[w].state ≠ .active ∨ s.wtb.entries[w].repeatTimer = none) :
    repeatExpiry w s = s := by
  refine if_neg fun both => ?_
  have running := Option.isSome_iff_ne_none.mp both.2
  tauto

theorem repeatStopped_cfg :
    (s.modEntry w fun e => { e with repeatTimer := none }).wtb.entries[w].cfg = s.wtb.entries[w].cfg := by
  rw [State.modEntry_wtb]
  have same := congrArg Entry.cfg (updAt_get_same s.wtb.entries w fun e => { e with repeatTimer := none })
  exact same

variable (supplied : s.igs.supplied = true)
include supplied

theorem exec_qualifyExpiry : exec (.qualifyExpiry w) s = .next (settle (qualifyExpiry w s)) :=
  takeEvent_supplied supplied

theorem exec_repeatExpiry : exec (.repeatExpiry w) s = .next (settle (repeatExpiry w s)) := takeEvent_supplied supplied

end

/-- Settles O49: what an entry's entry into ACTIVE leaves of itself, of the chime queue and of the notices. -/
theorem entryTimersExpire : Obligations.EntryTimersExpire := by
  unfold Obligations.EntryTimersExpire
  intro w s supplied e request enteredState
  refine ⟨fun idle => ?_, fun pending running => ⟨enterActive w s, ?_⟩, fun idle => ?_, fun active running silent => ?_,
    fun p active running pattern => ?_⟩
  · rw [exec_qualifyExpiry supplied, qualifyExpiry_idle idle]
  · have entry := handWarningChime_entry w s
    have mask : (handWarningChime w (entered w s)).lkp.mask = s.lkp.mask := handWarningChime_mask w _
    rw [exec_qualifyExpiry supplied, qualifyExpiry_of pending running]
    refine ⟨rfl, (ByProducts.enterActive w s).only, ?_, ?_, ?_, ?_, enterActive_marked w s, ?_, ?_, ?_, ?_, ?_⟩
    · rw [enterActive_eq, reportEntry_wtb, entry]
    · rw [enterActive_eq, reportEntry_wtb, entry]
    · rw [enterActive_eq, reportEntry_wtb, entry]
    · rw [enterActive_eq, reportEntry_wtb, entry]
    · intro p pattern room
      rw [enterActive_eq, reportEntry_chs, handWarningChime_entered w s pattern]
      exact takeChime_holds (r := requestOf w p s) (s := entered w s) nofun room
    · intro p pattern
      rw [enterActive_eq, reportEntry_chs, reportEntry_wtb, handWarningChime_entered w s pattern]
      exact ⟨rfl, rfl⟩
    · intro silent
      have none : (entered w s).wtb.entries[w].cfg.pattern = none := by
        rw [entered_entry]
        exact silent
      rw [enterActive_eq, reportEntry_chs, reportEntry_wtb, reportEntry_lkp, handWarningChime_silent w none]
      exact ⟨rfl, rfl, rfl⟩
    · intro on room
      have few := handWarningChime_notices w (entered w s)
      rw [enterActive_eq, reportEntry_lkp]
      refine mem_takeNotice (by rw [mask]; exact on) (Nat.lt_of_le_of_lt few ?_)
      exact Nat.succ_lt_succ room
    · intro on
      rw [enterActive_eq, reportEntry_lkp]
      exact Lkp.told_takeNotice (by rw [mask]; exact on)
  · rw [exec_repeatExpiry supplied, repeatExpiry_idle idle]
  · rw [exec_repeatExpiry supplied, repeatExpiry_of active running,
      handWarningChime_silent w (by rw [repeatStopped_cfg]; exact silent)]
    rfl
  · rw [exec_repeatExpiry supplied, repeatExpiry_of active running, handWarningChime, repeatStopped_cfg, pattern]
    rfl

end Sys2Proof.Machine
end

section
/-! A slot of the Coach Line takes a state (R147), and SET NODE and SET COACH OPTIONS (R148, R166). -/

namespace Sys2Proof.Machine

-- One theorem at a time, so that a build as one text needs few threads.
set_option Elab.async false

/-! ## A slot takes a state -/

/-- What entering a state changes in the queue and nothing else of the CLC (R147, R154). -/
theorem Clc.enterState_keeps (n : NodeIx) (st : NodeState) (c : Clc) :
    { c.enterState n st with mirrorQueue := c.mirrorQueue } = c := by
  cases st
  case lost => rfl
  case present => exact c.markWhole_keeps n
  all_goals rfl

theorem Clc.keeps_of_nodes {c d : Clc} {nodes : Vector Node 6}
    (h : { d with mirrorQueue := c.mirrorQueue } = { c with nodes }) :
    { d with nodes := c.nodes, mirrorQueue := c.mirrorQueue } = c := by
  have same := congrArg (fun x : Clc => { x with nodes := c.nodes }) h
  exact same

theorem setNodeState_of_same {n : NodeIx} {st : NodeState} {s : State} (same : s.clc.nodes[n].state = st) :
    setNodeState n st s = s := if_pos same

/-- A change of a slot's state before the WTB takes it (R147). -/
def nodeEntered (n : NodeIx) (st : NodeState) (s : State) : State :=
  ((s.modNode n (Node.entering st)).modClc (Clc.enterState n st)).notify (.node n st)

theorem setNodeState_of_changed {n : NodeIx} {st : NodeState} {s : State} (changed : s.clc.nodes[n].state ≠ st) :
    setNodeState n st s = wtbNode n st (nodeEntered n st s) := if_neg changed

theorem wtbNode_marks (n : NodeIx) (st : NodeState) (s : State) : MarksOnly s (wtbNode n st s) := by
  unfold wtbNode
  exact .wtbTake _ _ s

theorem wtbNode_notices (n : NodeIx) (st : NodeState) (s : State) :
    NoticesOnly NoticesOnly.warnBits s (wtbNode n st s) := by
  unfold wtbNode
  exact .wtbTake _ _ s

theorem wtbNode_view (n : NodeIx) (st : NodeState) (s : State) :
    (wtbNode n st s).wtb.view = { s.wtb.view with nodes := s.wtb.view.nodes.set n st } := by
  unfold wtbNode
  rw [wtbTake_view]

/-- Of the LKP, notices change the queue and its marker alone. -/
theorem NoticesOnly.replies_eq {bits : List Nat} {s t : State} (h : NoticesOnly bits s t) :
    t.lkp.replies = s.lkp.replies := by
  obtain ⟨ns, -, taken⟩ := h
  rw [taken]
  exact List.foldlRecOn (motive := fun l => l.replies = s.lkp.replies) ns _ rfl fun l same n _ =>
    (congrArg Lkp.replies (Lkp.takeNotice_keeps n l) : (l.takeNotice n).replies = l.replies).trans same

/-- Marks append pairs of PRESENT slots alone (R155). -/
theorem MarksOnly.mem_queue {s t : State} (h : MarksOnly s t) {q : NodeIx × MirrorItem} (mem : q ∈ t.clc.mirrorQueue) :
    q ∈ s.clc.mirrorQueue ∨ s.clc.nodes[q.1].state = .present := by
  have appended : ∀ (i : MirrorItem) (c : Clc) (n : NodeIx), q ∈ (c.markFor i n).mirrorQueue →
      q ∈ c.mirrorQueue ∨ c.nodes[q.1].state = .present := by
    intro i c n mem
    unfold Clc.markFor Clc.appendPair at mem
    split_ifs at mem with shows fits
    · rcases List.mem_append.mp mem with before | new
      · exact .inl before
      · rw [List.mem_singleton.mp new]
        exact .inr fits.1
    · exact .inl mem
    · exact .inl mem
  have marked : ∀ (i : MirrorItem) (l : List NodeIx) (c : Clc), (l.foldl (Clc.markFor i) c).nodes = c.nodes ∧
      (q ∈ (l.foldl (Clc.markFor i) c).mirrorQueue → q ∈ c.mirrorQueue ∨ c.nodes[q.1].state = .present) := by
    intro i l
    induction l with
    | nil => exact fun c => ⟨rfl, .inl⟩
    | cons n l ih =>
      intro c
      obtain ⟨nodes, mems⟩ := ih (c.markFor i n)
      obtain ⟨same, -, -⟩ := Clc.markFor_holds i c n
      refine ⟨nodes.trans same, fun mem => ?_⟩
      rcases mems mem with before | present
      · exact appended i c n before
      · rw [same] at present
        exact .inr present
  obtain ⟨items, clc⟩ := h
  rw [clc] at mem
  clear clc
  generalize s.clc = c at mem ⊢
  induction items generalizing c with
  | nil => exact .inl mem
  | cons i items ih =>
    obtain ⟨nodes, mems⟩ := marked i (List.finRange 6) c
    rcases ih (c.mark i) mem with before | present
    · exact mems before
    · have same : (c.mark i).nodes = c.nodes := nodes
      rw [same] at present
      exact .inr present

section
variable (n : NodeIx) (st : NodeState) (s : State)

theorem setNodeState_keeps :
    { (setNodeState n st s).clc with nodes := s.clc.nodes, mirrorQueue := s.clc.mirrorQueue } = s.clc := by
  by_cases same : s.clc.nodes[n].state = st
  · rw [setNodeState_of_same same]
  · rw [setNodeState_of_changed same]
    have marks := (wtbNode_marks n st (nodeEntered n st s)).keeps
    have entered := Clc.enterState_keeps n st (s.modNode n (Node.entering st)).clc
    exact Clc.keeps_of_nodes (c := s.clc) (nodes := updAt s.clc.nodes n (Node.entering st)) (Clc.keeps_trans entered marks)

theorem setNodeState_nodes : (setNodeState n st s).clc.nodes =
    if s.clc.nodes[n].state = st then s.clc.nodes else updAt s.clc.nodes n (Node.entering st) := by
  by_cases same : s.clc.nodes[n].state = st
  · rw [setNodeState_of_same same, if_pos same]
  · rw [setNodeState_of_changed same, if_neg same, (wtbNode_marks n st _).nodes_eq]
    have entered := congrArg Clc.nodes (Clc.enterState_keeps n st (s.modNode n (Node.entering st)).clc)
    exact entered

theorem setNodeState_view : (setNodeState n st s).wtb.view = if s.clc.nodes[n].state = st then s.wtb.view
    else { s.wtb.view with nodes := s.wtb.view.nodes.set n st } := by
  by_cases same : s.clc.nodes[n].state = st
  · rw [setNodeState_of_same same, if_pos same]
  · rw [setNodeState_of_changed same, if_neg same, wtbNode_view]
    rfl

/-- A slot's state brings notices of its own, WARNING and CHIME alone (R147). -/
theorem setNodeState_notices : ∃ t, NoticesOnly NoticesOnly.warnBits t (setNodeState n st s) ∧
    t.lkp = if s.clc.nodes[n].state = st then s.lkp else s.lkp.takeNotice (.node n st) := by
  by_cases same : s.clc.nodes[n].state = st
  · rw [setNodeState_of_same same, if_pos same]
    exact ⟨s, .refl s, rfl⟩
  · rw [setNodeState_of_changed same, if_neg same]
    exact ⟨_, wtbNode_notices n st (nodeEntered n st s), rfl⟩

theorem setNodeState_replies : (setNodeState n st s).lkp.replies = s.lkp.replies ∧
    (setNodeState n st s).lkp.mask = s.lkp.mask := by
  obtain ⟨t, notices, lkp⟩ := setNodeState_notices n st s
  rw [notices.replies_eq, notices.mask_eq, lkp]
  split_ifs
  · exact ⟨rfl, rfl⟩
  · exact ⟨(congrArg Lkp.replies (Lkp.takeNotice_keeps (.node n st) s.lkp) :),
      (congrArg Lkp.mask (Lkp.takeNotice_keeps (.node n st) s.lkp) :)⟩

/-- A change of a slot's state is told under the mask (R147, R189). -/
theorem setNodeState_told (changed : s.clc.nodes[n].state ≠ st) (on : s.lkp.mask.getLsbD 5 = true) :
    (setNodeState n st s).lkp.Told (.node n st) := by
  obtain ⟨t, notices, lkp⟩ := setNodeState_notices n st s
  refine notices.told (by simp [Notice.bit]) ?_
  rw [lkp, if_neg changed]
  exact Lkp.told_takeNotice on

/-- What is told of one slot stays so when another slot takes a state. -/
theorem setNodeState_told_of_other {m : NodeIx} {st' : NodeState} (other : n ≠ m) (told : s.lkp.Told (.node m st')) :
    (setNodeState n st s).lkp.Told (.node m st') := by
  obtain ⟨t, notices, lkp⟩ := setNodeState_notices n st s
  refine notices.told (by simp [Notice.bit]) ?_
  rw [lkp]
  split_ifs
  · exact told
  · refine told.takeNotice fun key => absurd ?_ other
    exact Fin.ext (congrArg Prod.snd key).symm

/-- The pairs of a slot that is not to be PRESENT, gone before, do not come back with its state (R147, R155). -/
theorem setNodeState_forgotten (gone : ∀ q ∈ s.clc.mirrorQueue, q.1 ≠ n) (absent : st ≠ .present) :
    ∀ q ∈ (setNodeState n st s).clc.mirrorQueue, q.1 ≠ n := by
  by_cases same : s.clc.nodes[n].state = st
  · rw [setNodeState_of_same same]
    exact gone
  · rw [setNodeState_of_changed same]
    rintro ⟨m, item⟩ mem (rfl : m = n)
    rcases (wtbNode_marks m st _).mem_queue mem with before | present
    · refine gone (m, item) ?_ rfl
      cases st
      case lost => exact (List.mem_filter.mp before).1
      case present => exact absurd rfl absent
      all_goals exact before
    · have nodes : (nodeEntered m st s).clc.nodes = updAt s.clc.nodes m (Node.entering st) := by
        have entered := congrArg Clc.nodes (Clc.enterState_keeps m st (s.modNode m (Node.entering st)).clc)
        exact entered
      dsimp only at present
      rw [nodes, updAt_get_same] at present
      cases st
      case present => exact absent rfl
      all_goals cases present

end

/-! ## SET NODE -/

theorem nodeKind_lt_of_ofCode {k : Nat} {kind : NodeKind} (read : NodeKind.ofCode k = some kind) : k < 4 := by
  unfold NodeKind.ofCode at read
  split at read
  case h_5 => cases read
  all_goals decide

section
variable {tag : Byte} {body : List Byte} {s : State}

/-- A field of SET NODE lies out of its range (R148). -/
def NodeFieldsOut (body : List Byte) : Prop :=
  6 ≤ u8 body 0 ∨ 2 ≤ u8 body 1 ∨ u8 body 2 = 0 ∨ 30 < u8 body 2 ∨ u8 body 3 = 0 ∨ 30 < u8 body 3 ∨ 4 ≤ u8 body 4

theorem nodeFields_eq_some {n : NodeIx} {x : NodeConfig} : nodeFields body = some (n, x) ↔
    u8 body 0 = n ∧ u8 body 1 = x.enabled.toNat ∧ (u8 body 2 = x.address ∧ 1 ≤ u8 body 2 ∧ u8 body 2 ≤ 30) ∧
      (u8 body 3 = x.nodeAlias ∧ 1 ≤ u8 body 3 ∧ u8 body 3 ≤ 30) ∧ NodeKind.ofCode (u8 body 4) = some x.kind ∧
      x.mirrorSet = byteAt body 5 := by
  simp only [nodeFields, bind, Option.bind_eq_some_iff, pure, Option.some.injEq, Prod.mk.injEq, ixOf_eq_some,
    flagOf_eq_some, within_eq_some]
  constructor
  · rintro ⟨_, slot, _, enabled, _, address, _, nodeAlias, _, kind, rfl, rfl⟩
    exact ⟨slot, enabled, address, nodeAlias, kind, rfl⟩
  · rintro ⟨slot, enabled, address, nodeAlias, kind, mirrorSet⟩
    refine ⟨_, slot, _, enabled, _, address, _, nodeAlias, _, kind, rfl, ?_⟩
    rw [← mirrorSet]

theorem nodeFields_eq_none (out : NodeFieldsOut body) : nodeFields body = none := by
  rw [Option.eq_none_iff_forall_ne_some]
  rintro ⟨n, x⟩ fields
  obtain ⟨slot, enabled, ⟨-, low, high⟩, ⟨-, low', high'⟩, kind, -⟩ := nodeFields_eq_some.mp fields
  have := n.isLt
  have := x.enabled.toNat_le
  have := nodeKind_lt_of_ofCode kind
  unfold NodeFieldsOut at out
  omega

/-- The record SET NODE asks for (R148). -/
abbrev nodeAsked (body : List Byte) (kind : NodeKind) : NodeConfig :=
  { enabled := u8 body 1 = 1, address := u8 body 2, nodeAlias := u8 body 3, kind, mirrorSet := byteAt body 5 }

theorem nodeFields_of_not_out {n : NodeIx} {kind : NodeKind} (good : ¬ NodeFieldsOut body) (slot : u8 body 0 = n)
    (kinds : NodeKind.ofCode (u8 body 4) = some kind) : nodeFields body = some (n, nodeAsked body kind) := by
  unfold NodeFieldsOut at good
  refine nodeFields_eq_some.mpr ⟨slot, ?_, ⟨rfl, by omega⟩, ⟨rfl, by omega⟩, kinds, rfl⟩
  by_cases enabled : u8 body 1 = 1
  · simp [enabled]
  · have zero : u8 body 1 = 0 := by omega
    simp [zero]

/-- A slot is in use by the transaction, its retry or the pass-through (R148, test 2). -/
theorem targets_iff (c : Clc) (n : NodeIx) : c.targets n = true ↔
    (∃ t, c.txn = some t ∧ t.kind.target = some n) ∨ (∃ k, c.retry = some k ∧ k.target = some n) ∨
      ∃ p, c.pass = some p ∧ c.target p = some n := by
  simp [Clc.targets, Option.any_eq_true, or_assoc]

theorem conflicts_iff (c : Clc) (n : NodeIx) (x : NodeConfig) : c.conflicts n x = true ↔ ∃ m : NodeIx, m ≠ n ∧
    c.nodes[m].enabled = true ∧ (c.nodes[m].address = x.address ∨ c.nodes[m].nodeAlias = x.nodeAlias) := by
  simp [Clc.conflicts, and_assoc]

/-- The slot as SET NODE writes it, before it takes its state (R148). -/
def Node.configured (x : NodeConfig) (st : NodeState) (nd : Node) : Node :=
  { nd with enabled := x.enabled, address := x.address, nodeAlias := x.nodeAlias, kind := x.kind,
            mirrorSet := x.mirrorSet, due := false, misses := if st = .joining then 0 else nd.misses,
            lostRounds := if st = .joining then 0 else nd.lostRounds }

/-- The slot written and its pairs dropped (R148). -/
def nodeWritten (n : NodeIx) (x : NodeConfig) (s : State) : State :=
  (s.modNode n (Node.configured x (s.clc.stateSet x))).modClc (Clc.forget n)

theorem configureNode_eq (n : NodeIx) (x : NodeConfig) (s : State) :
    configureNode n x s = setNodeState n (s.clc.stateSet x) (nodeWritten n x s) := rfl

theorem nodeWritten_nodes (n : NodeIx) (x : NodeConfig) (s : State) : (nodeWritten n x s).clc.nodes =
    updAt s.clc.nodes n (Node.configured x (s.clc.stateSet x)) := rfl

theorem nodeWritten_state (n : NodeIx) (x : NodeConfig) (s : State) :
    (nodeWritten n x s).clc.nodes[n].state = s.clc.nodes[n].state := by
  rw [nodeWritten_nodes, updAt_get_same]
  rfl

theorem setNodeState_other {n m : NodeIx} (st : NodeState) (s : State) (other : m ≠ n) :
    (setNodeState n st s).clc.nodes[m] = s.clc.nodes[m] := by
  rw [setNodeState_nodes]
  by_cases same : s.clc.nodes[n].state = st
  · rw [if_pos same]
  · rw [if_neg same, updAt_get_other _ _ _ _ (Ne.symm other)]

theorem configureNode_other {n m : NodeIx} (x : NodeConfig) (other : m ≠ n) :
    (configureNode n x s).clc.nodes[m] = s.clc.nodes[m] := by
  rw [configureNode_eq, setNodeState_other _ _ other, nodeWritten_nodes, updAt_get_other _ _ _ _ (Ne.symm other)]

theorem configureNode_only (n : NodeIx) (x : NodeConfig) (s : State) :
    OnlyChanges [.wtb, .chs, .clc, .lkp] s (configureNode n x s) :=
  ((modNode_only s _ _).comp (modClc_only _ _) : OnlyChanges [.clc] _ _).comp (setNodeState_only _ _ _)

theorem configureNode_keeps (n : NodeIx) (x : NodeConfig) (s : State) :
    { (configureNode n x s).clc with nodes := s.clc.nodes, mirrorQueue := s.clc.mirrorQueue } = s.clc := by
  have keeps := setNodeState_keeps n (s.clc.stateSet x) (nodeWritten n x s)
  have same := congrArg (fun c : Clc => { c with nodes := s.clc.nodes, mirrorQueue := s.clc.mirrorQueue }) keeps
  exact same

theorem stateSet_ne_present (c : Clc) (x : NodeConfig) : c.stateSet x ≠ .present := by
  unfold Clc.stateSet
  split_ifs <;> decide

/-- A slot as SET NODE leaves it (R148). -/
theorem configureNode_node (n : NodeIx) (x : NodeConfig) :
    (configureNode n x s).clc.nodes[n] =
      { s.clc.nodes[n] with
        enabled := x.enabled, address := x.address, nodeAlias := x.nodeAlias, kind := x.kind, mirrorSet := x.mirrorSet
        state := s.clc.stateSet x, due := false
        misses := if s.clc.stateSet x = .joining then 0 else s.clc.nodes[n].misses
        lostRounds := (configureNode n x s).clc.nodes[n].lostRounds } ∧
    (s.clc.stateSet x = .joining → (configureNode n x s).clc.nodes[n].lostRounds = 0) := by
  have absent := stateSet_ne_present s.clc x
  rw [configureNode_eq, setNodeState_nodes, nodeWritten_state]
  by_cases same : s.clc.nodes[n].state = s.clc.stateSet x
  · rw [if_pos same, nodeWritten_nodes, updAt_get_same, ← same]
    refine ⟨rfl, fun joins => ?_⟩
    unfold Node.configured
    exact if_pos joins
  · rw [if_neg same, updAt_get_same, nodeWritten_nodes, updAt_get_same]
    unfold Node.entering Node.configured
    cases state : s.clc.stateSet x
    case present => exact absurd state absent
    case joining => exact ⟨rfl, fun _ => rfl⟩
    all_goals exact ⟨rfl, nofun⟩

end

theorem configureNode_forgotten (n : NodeIx) (x : NodeConfig) (s : State) :
    ∀ q ∈ (configureNode n x s).clc.mirrorQueue, q.1 ≠ n :=
  setNodeState_forgotten n (s.clc.stateSet x) (nodeWritten n x s)
    (fun _ mem => of_decide_eq_true (List.mem_filter.mp mem).2) (stateSet_ne_present _ _)

section
variable {n : NodeIx} {x : NodeConfig} {s : State}

/-- A slot that keeps its state brings nothing but the record (R148). -/
theorem configureNode_of_same (same : s.clc.stateSet x = s.clc.nodes[n].state) :
    configureNode n x s = nodeWritten n x s := by
  rw [configureNode_eq, setNodeState_of_same]
  rw [nodeWritten_state, same]

/-- A slot that changes its state hands it to the WTB and notifies it (R147). -/
theorem configureNode_of_changed (changed : s.clc.stateSet x ≠ s.clc.nodes[n].state) :
    (configureNode n x s).wtb.view.nodes[n] = s.clc.stateSet x ∧ (s.lkp.mask.getLsbD 5 = true →
      (configureNode n x s).lkp.Told (.node n (s.clc.stateSet x))) := by
  have differs : (nodeWritten n x s).clc.nodes[n].state ≠ s.clc.stateSet x := by
    rw [nodeWritten_state]
    exact Ne.symm changed
  rw [configureNode_eq, setNodeState_view, if_neg differs]
  exact ⟨Vector.getElem_set_self n.isLt, setNodeState_told n _ (nodeWritten n x s) differs⟩

end

/-! ## SET COACH OPTIONS -/

theorem coachOptionFields_eq_some {b : List Byte} {period : Nat} {p : PatternIx} {slot : Option SlotIx} :
    coachOptionFields b = some (period, p, slot) ↔
      (u8 b 0 = period ∧ 2 ≤ u8 b 0 ∧ u8 b 0 ≤ 20) ∧ u8 b 1 = p ∧ u8 b 2 = slot.elim 0xFF Fin.val := by
  simp only [coachOptionFields, bind, Option.bind_eq_some_iff, pure, Option.some.injEq, Prod.mk.injEq, ixOf_eq_some,
    within_eq_some, optionalOf_ixOf_eq_some (show 8 ≤ 0xFF by decide)]
  constructor
  · rintro ⟨_, period, _, pattern, _, slot, rfl, rfl, rfl⟩
    exact ⟨period, pattern, slot⟩
  · rintro ⟨period, pattern, slot⟩
    exact ⟨_, period, _, pattern, _, slot, rfl, rfl, rfl⟩

theorem coachOptionFields_eq_none {b : List Byte}
    (out : u8 b 0 < 2 ∨ 20 < u8 b 0 ∨ 8 ≤ u8 b 1 ∨ (8 ≤ u8 b 2 ∧ u8 b 2 ≠ 0xFF)) : coachOptionFields b = none := by
  rw [Option.eq_none_iff_forall_ne_some]
  rintro ⟨period, p, slot⟩ fields
  obtain ⟨⟨-, low, high⟩, pattern, given⟩ := coachOptionFields_eq_some.mp fields
  have := p.isLt
  cases slot with
  | none =>
    have : u8 b 2 = 0xFF := given
    omega
  | some n =>
    have : u8 b 2 = n := given
    have := n.isLt
    omega

/-- Settles O54: the tests of R148 in their order, the slot SET NODE leaves, and the options. -/
theorem nodeRequestsAnswer : Obligations.NodeRequestsAnswer := by
  unfold Obligations.NodeRequestsAnswer
  refine ⟨fun tag body s serves length => ?_, fun tag body s serves length => ⟨fun out => ?_, ?_⟩⟩
  · have lengthOk := decide_eq_true length
    refine ⟨fun out => served_refuse serves lengthOk (by rw [ownSetNode, nodeFields_eq_none out]; rfl), ?_⟩
    intro n kind good slot kinds busy conflict st
    have own : ownSetNode { kind := ReqKind.setNode.code, tag, body } (takeRequest s) =
        setNode (n, nodeAsked body kind) (takeRequest s) := by
      rw [ownSetNode, nodeFields_of_not_out good slot kinds]
      rfl
    have isBusy : (takeRequest s).clc.targets n = true ↔ busy := targets_iff s.clc n
    have isConflict : ((nodeAsked body kind).enabled = true ∧
        (takeRequest s).clc.conflicts n (nodeAsked body kind) = true) ↔ conflict := by
      rw [conflicts_iff, decide_eq_true_eq]
      exact Iff.rfl
    have state : (takeRequest s).clc.stateSet (nodeAsked body kind) = st := by
      have inside : ¬ NodeFieldsOut body := good
      unfold NodeFieldsOut at inside
      have flag : u8 body 1 = 0 ∨ u8 body 1 = 1 := by omega
      rcases flag with off | on
      · simp [Clc.stateSet, st, off]
      · simp only [Clc.stateSet, st, on]
        rfl
    refine ⟨fun isIn => served_refuse serves lengthOk ?_, fun free clash => served_refuse serves lengthOk ?_,
      fun free clear => ?_⟩
    · rw [own]
      exact if_pos (isBusy.mpr isIn)
    · rw [own]
      exact (if_neg (fun isIn => free (isBusy.mp isIn))).trans (if_pos (isConflict.mpr clash))
    · let x := nodeAsked body kind
      have accepted : setNode (n, x) (takeRequest s) = emptyAnswer (configureNode n x (takeRequest s)) :=
        (if_neg (fun isIn => free (isBusy.mp isIn))).trans (if_neg fun clash => clear (isConflict.mp clash))
      refine ⟨configureNode n x (takeRequest s), served_answer serves lengthOk (by rw [own, accepted]; rfl),
        (takeRequest_only s).comp (configureNode_only n x _), configureNode_keeps n x _,
        fun m other => configureNode_other x other, ?_⟩
      obtain ⟨node, rounds⟩ := configureNode_node (s := takeRequest s) n x
      rw [state] at node rounds
      refine ⟨node, rounds, configureNode_forgotten n x _, fun same => ?_, fun changed => ?_⟩
      · rw [configureNode_of_same (s := takeRequest s) (state.trans same)]
        exact ⟨rfl, rfl⟩
      · obtain ⟨view, told⟩ := configureNode_of_changed (s := takeRequest s) (n := n) (x := x)
          (by rw [state]; exact changed)
        rw [state] at view told
        exact ⟨view, told⟩
  · exact served_refuse serves (decide_eq_true length) (by rw [ownSetCoachOptions, coachOptionFields_eq_none out]; rfl)
  · intro p slot low high pattern given
    have fields : coachOptionFields body = some (u8 body 0, p, slot) :=
      coachOptionFields_eq_some.mpr ⟨⟨rfl, low, high⟩, pattern, by rw [given]; cases slot <;> rfl⟩
    exact served_answer serves (decide_eq_true length) (by rw [ownSetCoachOptions, fields]; rfl)

end Sys2Proof.Machine
end

section
/-! Coach resets, rounds, contention, FAULT and the SLEEP frame (R151, R157, R158, R159, R160). -/

namespace Sys2Proof.Machine

-- One theorem at a time, so that a build as one text needs few threads.
set_option Elab.async false

/-! ## One operation for each number -/

/-- What the operation on one number brings about, from what the others leave standing, and what the others do not undo,
holds when the operations on all numbers are done. -/
theorem eachIx_brings {n : Nat} {f : Fin n → State → State} (i : Fin n) {before goal : State → Prop}
    (reach : ∀ s, before s → goal (f i s)) (others : ∀ j s, j ≠ i → before s → before (f j s))
    (stays : ∀ j s, j ≠ i → goal s → goal (f j s)) {s : State} (start : before s) : goal (eachIx n f s) := by
  obtain ⟨first, rest, split⟩ := List.append_of_mem (List.mem_finRange i)
  have nodup := List.nodup_finRange n
  rw [split, List.nodup_middle, List.nodup_cons, List.mem_append, not_or] at nodup
  obtain ⟨⟨notFirst, notRest⟩, -⟩ := nodup
  rw [eachIx, split, List.foldl_append, List.foldl_cons]
  refine List.foldlRecOn (motive := goal) _ _ (reach _ ?_) fun t held j mem => stays j t (fun same => ?_) held
  · exact List.foldlRecOn (motive := before) _ _ start fun t held j mem =>
      others j t (fun same => notFirst (same ▸ mem)) held
  · exact notRest (same ▸ mem)

/-- What every operation keeps holds when all are done. -/
theorem eachIx_induct {n : Nat} {f : Fin n → State → State} {motive : State → Prop} {s : State} (start : motive s)
    (step : ∀ i t, motive t → motive (f i t)) : motive (eachIx n f s) :=
  List.foldlRecOn (motive := motive) _ _ start fun t held i _ => step i t held

/-! ## The mirror queue while the line is down -/

theorem Clc.markFor_of_down {c : Clc} (down : c.line.up = false) (i : MirrorItem) (n : NodeIx) : c.markFor i n = c := by
  unfold Clc.markFor Clc.appendPair
  split_ifs with shows fits
  · rw [down] at fits
    cases fits.2.1
  · rfl
  · rfl

/-- No mark finds a line that is down (R154). -/
theorem MarksOnly.clc_of_down {s t : State} (h : MarksOnly s t) (down : s.clc.line.up = false) : t.clc = s.clc := by
  obtain ⟨items, clc⟩ := h
  rw [clc]
  refine List.foldlRecOn (motive := fun c => c = s.clc) _ _ rfl fun c same i _ => ?_
  rw [same]
  exact List.foldlRecOn (motive := fun c => c = s.clc) _ (fun c n => c.markFor i n) rfl fun c same n _ => by
    rw [same]
    exact Clc.markFor_of_down down i n

theorem setNodeState_queue {n : NodeIx} {st : NodeState} {s : State} (down : s.clc.line.up = false)
    (empty : s.clc.mirrorQueue = []) (absent : st ≠ .present) : (setNodeState n st s).clc.mirrorQueue = [] := by
  by_cases same : s.clc.nodes[n].state = st
  · rw [setNodeState_of_same same]
    exact empty
  · have line : (nodeEntered n st s).clc.line = s.clc.line := by
      have keeps := congrArg Clc.line (Clc.enterState_keeps n st (s.modNode n (Node.entering st)).clc)
      exact keeps
    rw [setNodeState_of_changed same, (wtbNode_marks n st _).clc_of_down (by rw [line]; exact down)]
    cases st
    case present => exact absurd rfl absent
    case lost => exact congrArg (List.filter _) empty
    all_goals exact empty

/-! ## Every enabled slot takes a state -/

/-- An enabled slot is written and takes a state. -/
def enterIfEnabled (g : Node → Node) (st : NodeState) (n : NodeIx) (s : State) : State :=
  if s.clc.nodes[n].enabled then setNodeState n st (s.modNode n g) else s

/-- A slot after that. -/
def Node.enterIfEnabled (g : Node → Node) (st : NodeState) (x : Node) : Node :=
  if x.enabled then (if x.state = st then g x else Node.entering st (g x)) else x

section
variable {g : Node → Node} (state : ∀ x, (g x).state = x.state) {st : NodeState}

theorem enterIfEnabled_other {n m : NodeIx} (s : State) (other : m ≠ n) :
    (enterIfEnabled g st n s).clc.nodes[m] = s.clc.nodes[m] := by
  unfold enterIfEnabled
  split_ifs
  · rw [setNodeState_other _ _ other, State.modNode_nodes, updAt_get_other _ _ _ _ (Ne.symm other)]
  · rfl

include state in
theorem enterIfEnabled_node (n : NodeIx) (s : State) :
    (enterIfEnabled g st n s).clc.nodes[n] = s.clc.nodes[n].enterIfEnabled g st := by
  unfold enterIfEnabled Node.enterIfEnabled
  by_cases enabled : s.clc.nodes[n].enabled = true
  · rw [if_pos enabled, if_pos enabled, setNodeState_nodes]
    have same : (s.modNode n g).clc.nodes[n] = g s.clc.nodes[n] := by rw [State.modNode_nodes, updAt_get_same]
    by_cases is : s.clc.nodes[n].state = st
    · rw [if_pos is, if_pos (by rw [same, state, is]), same]
    · rw [if_neg is, if_neg (by rw [same, state]; exact is), updAt_get_same, same]
  · rw [if_neg enabled, if_neg enabled]

theorem enterIfEnabled_keeps (n : NodeIx) (s : State) :
    { (enterIfEnabled g st n s).clc with nodes := s.clc.nodes, mirrorQueue := s.clc.mirrorQueue } = s.clc := by
  unfold enterIfEnabled
  split_ifs
  · have same := congrArg (fun c : Clc => { c with nodes := s.clc.nodes }) (setNodeState_keeps n st (s.modNode n g))
    exact same
  · rfl

theorem enterIfEnabled_queue {n : NodeIx} {s : State} (absent : st ≠ .present)
    (quiet : s.clc.line.up = false ∧ s.clc.mirrorQueue = []) :
    (enterIfEnabled g st n s).clc.line.up = false ∧ (enterIfEnabled g st n s).clc.mirrorQueue = [] := by
  have keeps := congrArg Clc.line (enterIfEnabled_keeps (g := g) (st := st) n s)
  have line : (enterIfEnabled g st n s).clc.line = s.clc.line := keeps
  refine ⟨by rw [line]; exact quiet.1, ?_⟩
  unfold enterIfEnabled
  split_ifs
  · exact setNodeState_queue (s := s.modNode n g) quiet.1 quiet.2 absent
  · exact quiet.2

theorem enterIfEnabled_lkp (n : NodeIx) (s : State) :
    (enterIfEnabled g st n s).lkp.replies = s.lkp.replies ∧ (enterIfEnabled g st n s).lkp.mask = s.lkp.mask := by
  unfold enterIfEnabled
  split_ifs
  · exact setNodeState_replies n st (s.modNode n g)
  · exact ⟨rfl, rfl⟩

theorem enterIfEnabled_view (n : NodeIx) (s : State) : ∃ nodes, (enterIfEnabled g st n s).wtb.view =
    { s.wtb.view with nodes } ∧ ∀ m : NodeIx, m ≠ n → nodes[m] = s.wtb.view.nodes[m] := by
  unfold enterIfEnabled
  split_ifs
  · rw [setNodeState_view]
    split_ifs
    · exact ⟨_, rfl, fun m _ => rfl⟩
    · exact ⟨_, rfl, fun m other => Vector.getElem_set_ne n.isLt m.isLt fun val => other (Fin.ext val.symm)⟩
  · exact ⟨_, rfl, fun m _ => rfl⟩

/-- A change of a slot's state is handed to the WTB and told under the mask (R147). -/
def NodeHeard (n : NodeIx) (st : NodeState) (on : Bool) (s : State) : Prop :=
  s.wtb.view.nodes[n] = st ∧ (on = true → s.lkp.Told (.node n st))

include state in
theorem enterIfEnabled_heard {n : NodeIx} {s : State} (enabled : s.clc.nodes[n].enabled = true)
    (changed : s.clc.nodes[n].state ≠ st) :
    NodeHeard n st (s.lkp.mask.getLsbD 5) (enterIfEnabled g st n s) := by
  have differs : (s.modNode n g).clc.nodes[n].state ≠ st := by
    rw [State.modNode_nodes, updAt_get_same, state]
    exact changed
  unfold enterIfEnabled
  rw [if_pos enabled]
  refine ⟨?_, setNodeState_told n st _ differs⟩
  rw [setNodeState_view, if_neg differs]
  exact Vector.getElem_set_self n.isLt

theorem enterIfEnabled_heard_of_other {n m : NodeIx} {on : Bool} {s : State} (other : m ≠ n)
    (heard : NodeHeard n st on s) : NodeHeard n st on (enterIfEnabled g st m s) := by
  obtain ⟨nodes, view, kept⟩ := enterIfEnabled_view (g := g) (st := st) m s
  refine ⟨?_, fun isOn => ?_⟩
  · rw [view]
    exact (kept n (Ne.symm other)).trans heard.1
  · unfold enterIfEnabled
    split_ifs
    · exact setNodeState_told_of_other m st _ other (heard.2 isOn)
    · exact heard.2 isOn

/-- What the change of every enabled slot leaves (R158, R159). -/
structure AllEntered (g : Node → Node) (st : NodeState) (s t : State) : Prop where
  keeps : { t.clc with nodes := s.clc.nodes, mirrorQueue := s.clc.mirrorQueue } = s.clc
  nodes : ∀ n : NodeIx, t.clc.nodes[n] = s.clc.nodes[n].enterIfEnabled g st
  queue : s.clc.line.up = false → s.clc.mirrorQueue = [] → t.clc.mirrorQueue = []
  replies : t.lkp.replies = s.lkp.replies
  line : t.wtb.view.line = s.wtb.view.line
  heard : ∀ n : NodeIx, s.clc.nodes[n].enabled = true → s.clc.nodes[n].state ≠ st →
    NodeHeard n st (s.lkp.mask.getLsbD 5) t

theorem Clc.keeps_nodes_trans {a b c : Clc} (h : { b with nodes := a.nodes, mirrorQueue := a.mirrorQueue } = a)
    (k : { c with nodes := b.nodes, mirrorQueue := b.mirrorQueue } = b) :
    { c with nodes := a.nodes, mirrorQueue := a.mirrorQueue } = a := by
  rw [← k] at h
  exact h

theorem eachIx_enterIfEnabled_keeps (s : State) :
    { (eachIx 6 (enterIfEnabled g st) s).clc with nodes := s.clc.nodes, mirrorQueue := s.clc.mirrorQueue } = s.clc := by
  refine eachIx_induct
    (motive := fun t : State => { t.clc with nodes := s.clc.nodes, mirrorQueue := s.clc.mirrorQueue } = s.clc) ?_ ?_
  · rfl
  · intro n t before
    exact Clc.keeps_nodes_trans before (enterIfEnabled_keeps n t)

include state in
theorem eachIx_enterIfEnabled_nodes (s : State) (n : NodeIx) :
    (eachIx 6 (enterIfEnabled g st) s).clc.nodes[n] = s.clc.nodes[n].enterIfEnabled g st := by
  refine eachIx_brings n (before := fun t => t.clc.nodes[n] = s.clc.nodes[n])
    (goal := fun t => t.clc.nodes[n] = s.clc.nodes[n].enterIfEnabled g st) (fun t same => ?_)
    (fun m t other same => ?_) (fun m t other same => ?_) rfl
  · rw [enterIfEnabled_node state, same]
  · rw [enterIfEnabled_other t (Ne.symm other), same]
  · rw [enterIfEnabled_other t (Ne.symm other), same]

include state in
theorem eachIx_enterIfEnabled_heard (s : State) (n : NodeIx) (enabled : s.clc.nodes[n].enabled = true)
    (changed : s.clc.nodes[n].state ≠ st) :
    NodeHeard n st (s.lkp.mask.getLsbD 5) (eachIx 6 (enterIfEnabled g st) s) := by
  refine eachIx_brings n (before := fun t => t.clc.nodes[n] = s.clc.nodes[n] ∧ t.lkp.mask = s.lkp.mask)
    (goal := NodeHeard n st (s.lkp.mask.getLsbD 5)) (fun t same => ?_) (fun m t other same => ?_)
    (fun m t other heard => enterIfEnabled_heard_of_other other heard) ⟨rfl, rfl⟩
  · obtain ⟨same, mask⟩ := same
    rw [← mask]
    exact enterIfEnabled_heard state (by rw [same]; exact enabled) (by rw [same]; exact changed)
  · obtain ⟨same, mask⟩ := same
    exact ⟨by rw [enterIfEnabled_other t (Ne.symm other), same], (enterIfEnabled_lkp m t).2.trans mask⟩

include state in
theorem eachIx_enterIfEnabled (absent : st ≠ .present) (s : State) :
    AllEntered g st s (eachIx 6 (enterIfEnabled g st) s) where
  keeps := eachIx_enterIfEnabled_keeps s
  nodes := eachIx_enterIfEnabled_nodes state s
  queue := fun down empty => by
    refine (eachIx_induct (f := enterIfEnabled g st)
      (motive := fun t : State => t.clc.line.up = false ∧ t.clc.mirrorQueue = []) ⟨down, empty⟩ ?_).2
    exact fun n t quiet => enterIfEnabled_queue absent quiet
  replies := by
    refine eachIx_keeps (f := enterIfEnabled g st) (get := fun t => t.lkp.replies) ?_ s
    exact fun n t => (enterIfEnabled_lkp n t).1
  line := by
    refine eachIx_keeps (f := enterIfEnabled g st) (get := fun t => t.wtb.view.line) (fun n t => ?_) s
    obtain ⟨nodes, view, -⟩ := enterIfEnabled_view (g := g) (st := st) n t
    rw [view]
  heard := eachIx_enterIfEnabled_heard state s

end

/-! ## A change of the line state -/

theorem wtbLine_marks (st : LineState) (s : State) : MarksOnly s (wtbLine st s) := by
  unfold wtbLine
  exact .wtbTake _ _ s

theorem wtbLine_view (st : LineState) (s : State) : (wtbLine st s).wtb.view = { s.wtb.view with line := st } := by
  unfold wtbLine
  rw [wtbTake_view]

theorem wtbLine_notices (st : LineState) (s : State) : NoticesOnly NoticesOnly.warnBits s (wtbLine st s) := by
  unfold wtbLine
  exact .wtbTake _ _ s

theorem setLine_of_changed {st : LineState} {s : State} (changed : s.clc.line ≠ st) :
    setLine st s = wtbLine st (s.modClc fun c => { c with line := st }) := if_neg changed

theorem Clc.eq_of_keeps {c d : Clc} (h : { d with mirrorQueue := c.mirrorQueue } = c) :
    d = { c with mirrorQueue := d.mirrorQueue } := by
  have whole := congrArg (fun x : Clc => { x with mirrorQueue := d.mirrorQueue }) h
  exact whole

theorem setLine_clc (st : LineState) (s : State) :
    (setLine st s).clc = { s.clc with line := st, mirrorQueue := (setLine st s).clc.mirrorQueue } := by
  by_cases same : s.clc.line = st
  · have idle : setLine st s = s := if_pos same
    rw [idle, ← same]
  · rw [setLine_of_changed same]
    exact Clc.eq_of_keeps (wtbLine_marks st (s.modClc fun c => { c with line := st })).keeps

theorem setLine_view {st : LineState} {s : State} (changed : s.clc.line ≠ st) : (setLine st s).wtb.view.line = st := by
  rw [setLine_of_changed changed, wtbLine_view]

/-- What a line's change of state hands of it on a line that is down: neither the CLC nor the replies change (R149). -/
structure LineHanded (old : LineState) (s t : State) : Prop where
  clc : t.clc = s.clc
  replies : t.lkp.replies = s.lkp.replies
  nodes : t.wtb.view.nodes = s.wtb.view.nodes
  told : ∀ n st, s.lkp.Told (.node n st) → t.lkp.Told (.node n st)
  line : s.clc.line ≠ old → t.wtb.view.line = s.clc.line

theorem handLine_of_down {old : LineState} {s : State} (down : s.clc.line.up = false) :
    LineHanded old s (handLine old s) := by
  unfold handLine
  split_ifs with same
  · exact ⟨rfl, rfl, rfl, fun _ _ told => told, fun differs => absurd same differs⟩
  · exact ⟨(wtbLine_marks _ s).clc_of_down down, (wtbLine_notices _ s).replies_eq, by rw [wtbLine_view],
      fun n st told => (wtbLine_notices _ s).told (by simp [Notice.bit]) told, fun _ => by rw [wtbLine_view]⟩

/-! ## The end of the pass-through -/

theorem endPass_clc (resp : Response) (s : State) : (endPass resp s).clc = { s.clc with pass := none } := by
  cases held : s.clc.pass with
  | none =>
    rw [endPass_of_none s held]
    rw [← held]
  | some p =>
    unfold endPass
    rw [held]
    dsimp only
    rw [(reply_only _ _ _ _ _).clc_eq (by decide)]
    rfl

theorem endPass_aborted_replies (s : State) : (endPass (.refuse .aborted) s).lkp.replies.map Reply.content =
    s.lkp.replies.map Reply.content ++
      (s.clc.pass.toList.map fun p => (ReplyEntry.reserved, 0x7F, p.tag, [0x0C, 0x39])) := by
  rw [(endPass_refuse s .aborted).2, List.map_append, List.map_map]
  rfl

theorem endPass_mask (resp : Response) (s : State) : (endPass resp s).lkp.mask = s.lkp.mask := by
  unfold endPass State.reply
  split
  · split <;> rfl
  · rfl

theorem endPass_wtb (resp : Response) (s : State) : (endPass resp s).wtb = s.wtb :=
  (endPass_only s resp).wtb_eq (by decide)

/-! ## The line goes down: FAULT and a Coach reset -/

/-- What is left of the line taken down to `c`, of its slots, of the pass-through and of what the WTB and the host hear
(R147, R149, R158, R159). -/
structure LineDown (c : Clc) (g : Node → Node) (st : NodeState) (s t : State) : Prop where
  clc : t.clc = { c with pass := none, nodes := t.clc.nodes }
  nodes : ∀ n : NodeIx, t.clc.nodes[n] = Node.enterIfEnabled g st { s.clc.nodes[n] with due := false }
  replies : t.lkp.replies.map Reply.content = s.lkp.replies.map Reply.content ++
    (s.clc.pass.toList.map fun p => (ReplyEntry.reserved, 0x7F, p.tag, [0x0C, 0x39]))
  heard : ∀ n : NodeIx, s.clc.nodes[n].enabled = true → s.clc.nodes[n].state ≠ st → t.wtb.view.nodes[n] = st ∧
    (s.lkp.mask.getLsbD 5 = true → t.lkp.Told (.node n st))
  line : s.clc.line ≠ c.line → t.wtb.view.line = c.line

section
variable {c : Clc} {g : Node → Node} {st : NodeState} {s : State} (down : c.line.up = false) (empty : c.mirrorQueue = [])
  (pass : c.pass = s.clc.pass) (nodes : ∀ n : NodeIx, c.nodes[n] = { s.clc.nodes[n] with due := false })
include down empty pass nodes

/-- The line is taken down by the end of the pass-through, a state for every enabled slot, and the handing of the line's
state. -/
theorem lineDown_of {e u t : State} (ended : e = endPass (.refuse .aborted) (s.modClc fun _ => c))
    (all : AllEntered g st e u) (handed : u.clc.line.up = false → LineHanded s.clc.line u t) :
    LineDown c g st s t := by
  have clc : e.clc = { c with pass := none } := by rw [ended]; exact endPass_clc _ _
  have slot : ∀ n : NodeIx, e.clc.nodes[n] = { s.clc.nodes[n] with due := false } := fun n => by
    rw [clc]
    exact nodes n
  have keeps := all.keeps
  rw [clc] at keeps
  have line : u.clc.line = c.line := (congrArg Clc.line keeps :)
  have queue : u.clc.mirrorQueue = [] := all.queue (by rw [clc]; exact down) (by rw [clc]; exact empty)
  have handed := handed (by rw [line]; exact down)
  refine ⟨?_, fun n => ?_, ?_, fun n enabled changed => ?_, fun changed => ?_⟩
  · have whole := congrArg (fun c : Clc => { c with nodes := u.clc.nodes, mirrorQueue := u.clc.mirrorQueue }) keeps
    rw [handed.clc]
    refine Eq.trans whole ?_
    rw [queue, ← empty]
  · rw [handed.clc, all.nodes, slot]
  · rw [handed.replies, all.replies, ended, endPass_aborted_replies, ← pass]
    rfl
  · have mask : e.lkp.mask = s.lkp.mask := by rw [ended, endPass_mask]; rfl
    obtain ⟨view, told⟩ := all.heard n (by rw [slot]; exact enabled) (by rw [slot]; exact changed)
    rw [mask] at told
    rw [handed.nodes]
    exact ⟨view, fun on => handed.told n st (told on)⟩
  · rw [← line] at changed ⊢
    exact handed.line (Ne.symm changed)

end

theorem Clc.abandon_nodes (c : Clc) (n : NodeIx) : c.abandon.nodes[n] = { c.nodes[n] with due := false } :=
  mapAll_get (fun nd : Node => ({ nd with due := false } : Node)) c.nodes n

theorem State.modNode_id (n : NodeIx) (s : State) : s.modNode n id = s := by
  have same : updAt s.clc.nodes n id = s.clc.nodes := Vector.set_getElem_self n.isLt
  have clc : (s.modNode n id).clc = s.clc := by
    rw [State.modNode_clc, same]
  exact congrArg (fun c => { s with clc := c }) clc

theorem enterIfEnabled_id (st : NodeState) :
    enterIfEnabled id st = fun n s => if s.clc.nodes[n].enabled then setNodeState n st s else s := by
  funext n s
  unfold enterIfEnabled
  rw [State.modNode_id]

/-- FAULT (R158). -/
theorem lineFault_down (s : State) :
    LineDown { s.clc.abandon with line := .fault } id .lost s (lineFault s) := by
  have all := eachIx_enterIfEnabled (g := id) (st := .lost) (fun _ => rfl) (by decide)
    (endPass (.refuse .aborted) (s.modClc fun c => { c.abandon with line := .fault }))
  refine lineDown_of (c := { s.clc.abandon with line := .fault }) rfl rfl rfl s.clc.abandon_nodes rfl all ?_
  intro down
  rw [enterIfEnabled_id] at down ⊢
  exact handLine_of_down down

/-- The CLC as a Coach reset takes it down (R159). -/
abbrev Clc.resetting (c : Clc) : Clc :=
  { c.abandon with line := .resetting, heldLow := true, contentions := 0, sleepWaiting := false }

/-- A slot as it rejoins (R159). -/
abbrev Node.rejoined (nd : Node) : Node := { nd with misses := 0, lostRounds := 0 }

theorem enterIfEnabled_rejoined : enterIfEnabled Node.rejoined .joining = rejoin := rfl

/-- A Coach reset (R159). -/
theorem coachReset_down (s : State) : LineDown s.clc.resetting Node.rejoined .joining s (coachReset s) := by
  have all := eachIx_enterIfEnabled (g := Node.rejoined) (st := .joining) (fun _ => rfl) (by decide)
    (endPass (.refuse .aborted) (s.modClc Clc.resetting))
  refine lineDown_of (c := s.clc.resetting) rfl rfl rfl s.clc.abandon_nodes rfl all ?_
  intro down
  rw [enterIfEnabled_rejoined] at down ⊢
  exact handLine_of_down down

end Sys2Proof.Machine
end

section
/-! COACH RESET, the release, the end of RESETTING and the rounds; contention, backoff and the SLEEP frame (R151, R157,
R158, R159, R160). -/

namespace Sys2Proof.Machine

-- One theorem at a time, so that a build as one text needs few threads.
set_option Elab.async false

/-! ## Rounds -/

/-- The slot whose poll or mirror write waits for its retry (R157). -/
def Clc.waits (c : Clc) (n : NodeIx) : Bool := c.retry.any fun k => k.polled = some n

theorem waits_eq (c : Clc) (n : NodeIx) : c.waits n = match c.retry with
    | some (.poll m) => decide (m = n)
    | some (.mirror m _) => decide (m = n)
    | some (.pass _) | some .sleep | none => false := by
  unfold Clc.waits
  cases c.retry with
  | none => rfl
  | some k => cases k <;> simp [TxnKind.polled]

theorem Node.round_eq (nd : Node) : nd.round = match nd.state with
    | .disabled => nd
    | .joining | .present => { nd with due := true }
    | .lost => if nd.lostRounds + 1 < 8 then { nd with lostRounds := nd.lostRounds + 1 }
               else { nd with lostRounds := 0, due := true } := by
  unfold Node.round
  cases nd.state <;> rfl

theorem Clc.holdDue_node (c : Clc) (n : NodeIx) :
    c.holdDue.nodes[n] = if c.waits n then { c.nodes[n] with due := false } else c.nodes[n] := by
  unfold Clc.holdDue Clc.waits
  simp

/-- A round's nodes (R151, R157). -/
theorem startRound_nodes (c : Clc) : ({ c with nodes := mapAll Node.round c.nodes } : Clc).holdDue.nodes =
    Vector.ofFn fun n => if c.waits n then { c.nodes[n].round with due := false } else c.nodes[n].round := by
  refine Vector.ext fun i hi => ?_
  have node := ({ c with nodes := mapAll Node.round c.nodes } : Clc).holdDue_node ⟨i, hi⟩
  have mapped : (mapAll Node.round c.nodes)[(⟨i, hi⟩ : NodeIx)] = (c.nodes[(⟨i, hi⟩ : NodeIx)]).round := mapAll_get _ _ _
  rw [mapped] at node
  rw [Vector.getElem_ofFn]
  exact node

theorem startRound_eq (s : State) : startRound s = s.modClc fun c => { c with
    nodes := Vector.ofFn fun n => if c.waits n then { c.nodes[n].round with due := false } else c.nodes[n].round
    roundTimer := some (50 * c.roundPeriod) } := by
  rw [State.modClc, ← startRound_nodes]
  rfl

theorem roundExpiry_running {s : State} (running : s.clc.roundTimer ≠ none) : roundExpiry s = startRound s :=
  if_pos (Option.isSome_iff_ne_none.mpr running)

theorem roundExpiry_stopped {s : State} (stopped : s.clc.roundTimer = none) : roundExpiry s = s := by
  refine if_neg fun running => ?_
  rw [stopped] at running
  cases running

/-! ## The end of RESETTING -/

theorem resettingEnd_of {s : State} (resetting : s.clc.line = .resetting) (released : s.clc.heldLow = false) :
    resettingEnd s = startRound (setLine .running s) := if_pos ⟨resetting, released⟩

theorem resettingEnd_idle {s : State} (idle : s.clc.line ≠ .resetting ∨ s.clc.heldLow = true) : resettingEnd s = s := by
  refine if_neg fun both => ?_
  obtain ⟨resetting, released⟩ := both
  rw [released] at idle
  exact idle.elim (fun other => other resetting) nofun

section
variable {s : State} (supplied : s.igs.supplied = true)
include supplied

theorem exec_lineRelease : exec .lineRelease s = .next (settle (lineRelease s)) := takeEvent_supplied supplied

theorem exec_resettingEnd : exec .resettingEnd s = .next (settle (resettingEnd s)) := takeEvent_supplied supplied

theorem exec_roundStart : exec .roundStart s = .next (settle (roundExpiry s)) := takeEvent_supplied supplied

theorem exec_contention : exec .contention s = .next (settle (contention s)) := takeEvent_supplied supplied

theorem exec_backoffExpiry : exec .backoffExpiry s = .next (settle (backoffExpiry s)) := takeEvent_supplied supplied

theorem exec_sleepStart : exec .sleepStart s = .next (settle (sleepStart s)) := takeEvent_supplied supplied

end

/-- The end of RESETTING makes the line RUNNING and starts a round (R159). -/
theorem startRound_setLine_clc (s : State) : (startRound (setLine .running s)).clc = { s.clc with
    line := .running, roundTimer := some (50 * s.clc.roundPeriod)
    nodes := Vector.ofFn fun n =>
      if s.clc.waits n then { s.clc.nodes[n].round with due := false } else s.clc.nodes[n].round
    mirrorQueue := (startRound (setLine .running s)).clc.mirrorQueue } := by
  have clc := setLine_clc .running s
  generalize setLine .running s = t at clc ⊢
  have after := congrArg State.clc (startRound_eq t)
  rw [State.modClc_clc, clc] at after
  exact after

theorem startRound_wtb (s : State) : (startRound s).wtb = s.wtb := rfl

/-- A slot after a Coach reset (R159). -/
theorem Node.rejoined_joining (x : Node) : Node.enterIfEnabled Node.rejoined .joining { x with due := false } =
    if x.enabled then { x with state := .joining, misses := 0, lostRounds := 0, due := false }
    else { x with due := false } := by
  unfold Node.enterIfEnabled
  dsimp only
  by_cases enabled : x.enabled = true
  · rw [if_pos enabled, if_pos enabled]
    by_cases joining : x.state = .joining
    · rw [if_pos joining, ← joining]
    · rw [if_neg joining]
      rfl
  · rw [if_neg enabled, if_neg enabled]

/-- Settles O56: the line taken down by the reset, then the release, the end of RESETTING and the rounds. -/
theorem coachResetsAndRounds : Obligations.CoachResetsAndRounds := by
  unfold Obligations.CoachResetsAndRounds
  intro round waits
  have waitsIs : ∀ c n, waits c n = c.waits n := fun c n => (waits_eq c n).symm
  have roundIs : ∀ nd, round nd = nd.round := fun nd => (Node.round_eq nd).symm
  have slots : ∀ c : Clc, (Vector.ofFn fun n : NodeIx =>
      if waits c n then { round c.nodes[n] with due := false } else round c.nodes[n]) =
      Vector.ofFn fun n : NodeIx => if c.waits n then { c.nodes[n].round with due := false } else c.nodes[n].round :=
    fun c => congrArg Vector.ofFn (funext fun n => by rw [waitsIs, roundIs])
  refine ⟨fun tag s serves => ⟨fun parked => ?_, fun awake => ?_⟩, fun s supplied => ?_⟩
  · exact served_refuse serves rfl (if_pos parked)
  · have line := coachReset_down (takeRequest s)
    refine ⟨coachReset (takeRequest s), served_answer serves rfl (if_neg awake),
      (takeRequest_only s).comp (coachReset_only _), line.clc, fun n => ?_, line.replies, line.heard,
      fun changed => line.line changed⟩
    rw [line.nodes]
    exact Node.rejoined_joining s.clc.nodes[n]
  · refine ⟨fun resetting => ?_, fun other => ?_, fun idle => ?_, fun resetting released => ?_, fun stopped => ?_,
      fun running => ?_⟩
    · rw [exec_lineRelease supplied, lineRelease, if_pos resetting]
    · rw [exec_lineRelease supplied, lineRelease, if_neg other]
    · rw [exec_resettingEnd supplied, resettingEnd_idle idle]
    · rw [exec_resettingEnd supplied, resettingEnd_of resetting released, slots]
      refine ⟨_, rfl, (setLine_only s _).comp (modClc_only _ _), ?_, startRound_setLine_clc s⟩
      rw [startRound_wtb, setLine_view (by rw [resetting]; decide)]
    · rw [exec_roundStart supplied, roundExpiry_stopped stopped]
    · rw [exec_roundStart supplied, roundExpiry_running running, startRound_eq, State.modClc, State.modClc, slots]

/-! ## Contention -/

section
variable {s : State} {t : Txn} (txn : s.clc.txn = some t)
include txn

theorem contention_of_not_sending (other : t.phase ≠ .sending) : contention s = s := by
  unfold contention
  rw [txn]
  exact if_pos other

variable (sending : t.phase = .sending)
include sending

theorem contention_of_sleep (sleep : t.kind = .sleep) : contention s = s.modClc fun c => { c with txn := none } := by
  unfold contention
  rw [txn]
  exact (if_neg (not_not_intro sending)).trans (if_pos sleep)

variable (awake : t.kind ≠ .sleep)
include awake

/-- The CLC when a transaction meets contention: the transaction is the one to be retried (R157). -/
def Clc.collided (t : Txn) (c : Clc) : Clc :=
  { ({ c with txn := none, retry := c.retryOf t.kind, contentions := c.contentions + 1 } : Clc).holdDue with
    pass := c.pass.map fun p => { p with phase := .waiting } }

theorem contention_of_few (few : s.clc.contentions + 1 < 5) : contention s =
    setLine .backoff (s.modClc fun c => { c.collided t with backoffTimer := some 50 }) := by
  unfold contention
  rw [txn]
  exact ((if_neg (not_not_intro sending)).trans (if_neg awake)).trans (if_pos few)

theorem contention_of_fifth (fifth : 5 ≤ s.clc.contentions + 1) :
    contention s = lineFault (s.modClc (Clc.collided t)) := by
  unfold contention
  rw [txn]
  exact ((if_neg (not_not_intro sending)).trans (if_neg awake)).trans (if_neg (Nat.not_lt_of_le fifth))

end

theorem contention_of_no_txn {s : State} (idle : s.clc.txn = none) : contention s = s := by
  unfold contention
  rw [idle]

theorem retryOf_eq (c : Clc) (k : TxnKind) :
    c.retryOf k = if k.isPass = true ∧ c.pass = none then none else some k := by
  unfold Clc.retryOf TxnKind.isPass
  cases k with
  | pass n => cases c.pass <;> rfl
  | _ => rfl

theorem retryOf_polled (c : Clc) (k : TxnKind) (n : NodeIx) :
    ((c.retryOf k).any fun k => k.polled = some n) = true ↔ k = .poll n ∨ ∃ item, k = .mirror n item := by
  unfold Clc.retryOf
  cases k with
  | poll m => simp [TxnKind.polled]
  | mirror m item => simp [TxnKind.polled]
  | pass m => cases c.pass <;> simp [TxnKind.polled]
  | sleep => simp [TxnKind.polled]

/-- The due flag of a slot whose poll or mirror write met contention is cleared, and no other (R157). -/
theorem collided_node (t : Txn) (c : Clc) (n : NodeIx) :
    ((t.kind = .poll n ∨ ∃ item, t.kind = .mirror n item) →
      (c.collided t).nodes[n] = { c.nodes[n] with due := false }) ∧
    (¬ (t.kind = .poll n ∨ ∃ item, t.kind = .mirror n item) → (c.collided t).nodes[n] = c.nodes[n]) := by
  have node := ({ c with txn := none, retry := c.retryOf t.kind, contentions := c.contentions + 1 } : Clc).holdDue_node n
  have waits : ({ c with txn := none, retry := c.retryOf t.kind, contentions := c.contentions + 1 } : Clc).waits n =
      true ↔ _ := retryOf_polled c t.kind n
  exact ⟨fun polled => node.trans (if_pos (waits.mpr polled)), fun other => node.trans (if_neg (mt waits.mp other))⟩

/-- Contention keeps the tag of a held pass-through. -/
theorem collided_tags {α : Type} (t : Txn) (c : Clc) (f : Byte → α) :
    ((c.collided t).pass.toList.map fun p => f p.tag) = c.pass.toList.map fun p => f p.tag := by
  have pass : (c.collided t).pass = c.pass.map fun p => { p with phase := .waiting } := rfl
  rw [pass]
  cases c.pass <;> rfl

/-- A slot in FAULT, whether its due flag was cleared before or not (R158). -/
theorem Node.fault_lost (x : Node) {y : Node} (same : y = x ∨ y = { x with due := false }) :
    Node.enterIfEnabled id .lost { y with due := false } = if x.enabled = true ∧ x.state ≠ .lost
      then { x with state := .lost, due := false, lostRounds := 0 } else { x with due := false } := by
  have cleared : ({ y with due := false } : Node) = { x with due := false } := by rcases same with rfl | rfl <;> rfl
  rw [cleared]
  unfold Node.enterIfEnabled
  dsimp only
  by_cases enabled : x.enabled = true
  · by_cases lost : x.state = .lost
    · rw [if_pos enabled, if_pos lost, if_neg fun both => both.2 lost]
      rfl
    · rw [if_pos enabled, if_neg lost, if_pos ⟨enabled, lost⟩]
      rfl
  · rw [if_neg enabled, if_neg fun both => enabled both.1]

theorem backoffExpiry_idle {s : State} (idle : s.clc.line ≠ .backoff ∨ s.clc.backoffTimer = none) :
    backoffExpiry s = s := by
  refine if_neg fun both => ?_
  have running := Option.isSome_iff_ne_none.mp both.2
  tauto

theorem backoffExpiry_of {s : State} (backoff : s.clc.line = .backoff) (running : s.clc.backoffTimer ≠ none) :
    backoffExpiry s = setLine .running (s.modClc fun c => { c with backoffTimer := none }) :=
  if_pos ⟨backoff, Option.isSome_iff_ne_none.mpr running⟩

/-- The SLEEP frame: broadcast, no data (R160, R200). -/
theorem sleepFrame (s : State) : txnFrame s .sleep = [0x9F, 0x00, 0x00] := rfl

/-- Settles O57: contention by the transaction and the count, then backoff and the SLEEP frame. -/
theorem contentionAndSleep : Obligations.ContentionAndSleep := by
  unfold Obligations.ContentionAndSleep
  intro s supplied
  refine ⟨fun t txn sending sleep => ?_, fun idle => ?_, fun t txn sending awake few => ?_,
    fun t txn sending awake fifth => ?_, fun idle => ?_, fun backoff running => ?_, fun idle => ?_, fun waiting => ?_⟩
  · rw [exec_contention supplied, contention_of_sleep txn sending sleep]
  · rw [exec_contention supplied]
    rcases idle with none | ⟨t, txn, other⟩
    · rw [contention_of_no_txn none]
    · rw [contention_of_not_sending txn other]
  · have clc := setLine_clc .backoff (s.modClc fun c => { c.collided t with backoffTimer := some 50 })
    rw [exec_contention supplied, contention_of_few txn sending awake few]
    refine ⟨_, rfl, (modClc_only s _).comp (setLine_only _ _), ?_, fun n => ?_, fun other => setLine_view other⟩
    · rw [← retryOf_eq]
      generalize setLine .backoff (s.modClc fun c => { c.collided t with backoffTimer := some 50 }) = u at clc
      rw [clc]
      rfl
    · rw [clc]
      exact collided_node t s.clc n
  · have line := lineFault_down (s.modClc (Clc.collided t))
    have slot : ∀ n : NodeIx, (s.clc.collided t).nodes[n] = s.clc.nodes[n] ∨
        (s.clc.collided t).nodes[n] = { s.clc.nodes[n] with due := false } := by
      intro n
      obtain ⟨polled, other⟩ := collided_node t s.clc n
      by_cases is : t.kind = .poll n ∨ ∃ item, t.kind = .mirror n item
      · exact .inr (polled is)
      · exact .inl (other is)
    rw [exec_contention supplied, contention_of_fifth txn sending awake fifth]
    refine ⟨_, rfl, (modClc_only s _).comp (lineFault_only _), line.clc, fun n => ?_, ?_, fun n enabled changed => ?_,
      fun other => line.line other⟩
    · rw [line.nodes]
      exact Node.fault_lost s.clc.nodes[n] (slot n)
    · rw [line.replies]
      exact congrArg (s.lkp.replies.map Reply.content ++ ·)
        (collided_tags t s.clc fun tag => (ReplyEntry.reserved, 0x7F, tag, [0x0C, 0x39]))
    · have same : (s.clc.collided t).nodes[n].enabled = s.clc.nodes[n].enabled ∧
          (s.clc.collided t).nodes[n].state = s.clc.nodes[n].state := by
        rcases slot n with same | same <;> rw [same] <;> exact ⟨rfl, rfl⟩
      exact line.heard n (same.1.trans enabled) (by rw [← same.2] at changed; exact changed)
  · rw [exec_backoffExpiry supplied, backoffExpiry_idle idle]
  · rw [exec_backoffExpiry supplied, backoffExpiry_of backoff running]
    refine ⟨_, rfl, (modClc_only s _).comp (setLine_only _ _), setLine_view ?_, setLine_clc .running _⟩
    exact fun same => by rw [State.modClc_clc, backoff] at same; cases same
  · rw [exec_sleepStart supplied, sleepStart, if_neg (by rw [idle]; exact Bool.false_ne_true)]
  · rw [exec_sleepStart supplied, sleepStart, if_pos waiting]
    refine ⟨_, rfl, (modClc_only s _).comp (startTxn_only _ _), ?_⟩
    rfl

end Sys2Proof.Machine
end

section
/-! How an item's state is decided, and SET SERVICE ITEM and SERVICE DONE (R130, R131, R132, R137, R138). -/

namespace Sys2Proof.Machine

-- One theorem at a time, so that a build as one text needs few threads.
set_option Elab.async false

/-! ## The state of an item -/

/-- A test holds of one of an item's present counts with its interval in the count's unit (R129, R130). -/
def ServiceItem.Has (it : ServiceItem) (test : Nat → Int → Prop) : Prop :=
  (∃ I r, it.distanceInterval = some I ∧ it.remainingDistance = some r ∧ test (I * 10) r) ∨
  (∃ I r, it.hoursInterval = some I ∧ it.remainingHours = some r ∧ test I r) ∨
  (∃ I r, it.daysInterval = some I ∧ it.remainingDays = some r ∧ test I r)

theorem any_presentCount {interval : Option Nat} {remaining : Option Int} {p : Nat × Int → Bool} :
    (presentCount interval remaining).any p = true ↔
      ∃ I r, interval = some I ∧ remaining = some r ∧ p (I, r) = true := by
  cases interval <;> cases remaining <;> simp [presentCount]

theorem any_counts_iff {it : ServiceItem} {p : Nat × Int → Bool} {test : Nat → Int → Prop}
    (same : ∀ I r, p (I, r) = true ↔ test I r) : it.counts.any p = true ↔ it.Has test := by
  have distance : (∃ I r, it.distanceDu = some I ∧ it.remainingDistance = some r ∧ test I r) ↔
      ∃ I r, it.distanceInterval = some I ∧ it.remainingDistance = some r ∧ test (I * 10) r := by
    unfold ServiceItem.distanceDu
    cases it.distanceInterval <;> simp
  rw [ServiceItem.counts, List.any_append, List.any_append, Bool.or_eq_true, Bool.or_eq_true, any_presentCount,
    any_presentCount, any_presentCount, ServiceItem.Has, or_assoc]
  simp only [same, distance]

/-- An item is decided by the first test that holds (R131). -/
theorem ServiceItem.decided_eq (it : ServiceItem) : it.decided =
    if it.enabled = false then .off
    else if it.counts.any fun c => c.2 ≤ -(overdueMargin c.1 : Int) then .overdue
    else if it.counts.any fun c => c.2 ≤ 0 then .due
    else if it.counts.any fun c => c.2 ≤ (nearMargin c.1 : Int) then .near
    else .counting := by
  unfold ServiceItem.decided
  cases it.enabled <;> rfl

section
variable {it : ServiceItem}

theorem overdue_iff : (it.counts.any fun c => c.2 ≤ -(overdueMargin c.1 : Int)) = true ↔
    it.Has fun I r => r ≤ -(max (I / 8) 1 : Nat) := any_counts_iff fun _ _ => decide_eq_true_iff

theorem due_iff : (it.counts.any fun c => c.2 ≤ 0) = true ↔ it.Has fun _ r => r ≤ 0 :=
  any_counts_iff fun _ _ => decide_eq_true_iff

theorem near_iff : (it.counts.any fun c => c.2 ≤ (nearMargin c.1 : Int)) = true ↔
    it.Has fun I r => r ≤ (max (I / 16) 1 : Nat) := any_counts_iff fun _ _ => decide_eq_true_iff

end

/-! ## An item is changed and decided -/

section
variable (i : ItemIx) (f : ServiceItem → ServiceItem) (s : State)

theorem changeItem_state : (changeItem i f s).svs.items[i].state = (f s.svs.items[i]).decided := by
  rw [changeItem_items, updAt_get_same]

theorem modItem_item : (s.modItem i f).svs.items[i] = f s.svs.items[i] := by
  rw [State.modItem_items, updAt_get_same]

variable {f}

/-- An item that stays in its state hands nothing (R132). -/
theorem changeItem_of_same (same : (f s.svs.items[i]).decided = (f s.svs.items[i]).state) :
    changeItem i f s = s.modItem i f := by
  unfold changeItem decideItem
  dsimp only
  rw [modItem_item]
  exact if_pos same

/-- An item that changes its state hands it to the WTB and notifies it (R132). -/
theorem changeItem_of_changed (changed : (f s.svs.items[i]).decided ≠ (f s.svs.items[i]).state) :
    (changeItem i f s).wtb.view.items[i] = (f s.svs.items[i]).decided ∧ (s.lkp.mask.getLsbD 4 = true →
      (changeItem i f s).lkp.Told (.service i (f s.svs.items[i]).decided)) := by
  unfold changeItem decideItem
  dsimp only
  rw [modItem_item, if_neg changed, wtbItem, wtbTake_view]
  refine ⟨Vector.getElem_set_self i.isLt, fun on => ?_⟩
  exact (NoticesOnly.wtbTake _ _ _).told (by simp [Notice.bit]) (Lkp.told_takeNotice on)

end

/-- What a request on an item hands (R132): nothing where its state stays; else the new one. -/
def ItemHanded (i : ItemIx) (s s1 : State) : Prop := OnlyChanges [.svs, .wtb, .chs, .clc, .lkp] s s1 ∧
  (s1.svs.items[i].state = s.svs.items[i].state → OnlyChanges [.svs] (takeRequest s) s1) ∧
  (s1.svs.items[i].state ≠ s.svs.items[i].state → s1.wtb.view.items[i] = s1.svs.items[i].state ∧
    (s.lkp.mask.getLsbD 4 = true → s1.lkp.Told (.service i s1.svs.items[i].state)))

theorem changeItem_handed (i : ItemIx) {f : ServiceItem → ServiceItem} (s : State)
    (state : (f s.svs.items[i]).state = s.svs.items[i].state) : ItemHanded i s (changeItem i f (takeRequest s)) := by
  have decided := changeItem_state i f (takeRequest s)
  refine ⟨(takeRequest_only s).comp (changeItem_only _ i f), fun same => ?_, fun changed => ?_⟩
  · rw [decided] at same
    rw [changeItem_of_same i (takeRequest s) (f := f) (same.trans state.symm)]
    exact modItem_only _ i f
  · rw [decided] at changed ⊢
    exact changeItem_of_changed i (takeRequest s) (f := f) (by
      rw [takeRequest_svs, state]
      exact changed)

theorem changeItem_svs (i : ItemIx) (f : ServiceItem → ServiceItem) (s : State) : (changeItem i f s).svs =
    { s.svs with items := s.svs.items.set i { f s.svs.items[i] with state := (f s.svs.items[i]).decided } } := by
  have items := changeItem_items i f s
  have rest : (changeItem i f s).svs = { s.svs with items := (changeItem i f s).svs.items } := by
    rw [changeItem, decideItem_svs]
    rfl
  rw [rest, items]
  rfl

/-! ## SET SERVICE ITEM -/

/-- An interval as its field gives it (R138). -/
def intervalOf (k : Nat) : Option Nat := if k = 0xFFFF then none else some k

section
variable {body : List Byte}

/-- A field of SET SERVICE ITEM lies out of its range, or an enabled item has no interval (R138). -/
def ServiceFieldsOut (body : List Byte) : Prop :=
  8 ≤ u8 body 0 ∨ 2 ≤ u8 body 1 ∨ 16 ≤ u8 body 2 ∨ u16 body 3 = 0 ∨ u16 body 5 = 0 ∨ u16 body 7 = 0 ∨
    (3651 ≤ u16 body 7 ∧ u16 body 7 ≠ 0xFFFF) ∨
    (u8 body 1 = 1 ∧ u16 body 3 = 0xFFFF ∧ u16 body 5 = 0xFFFF ∧ u16 body 7 = 0xFFFF)

theorem optionalOf_within_iff {lo hi k : Nat} {o : Option Nat} (fits : hi < 0xFFFF) :
    optionalOf 0xFFFF k (within lo hi) = some o ↔ o = intervalOf k ∧ (k = 0xFFFF ∨ lo ≤ k ∧ k ≤ hi) := by
  rw [optionalOf_within_eq_some fits, intervalOf]
  cases o with
  | none =>
    by_cases absent : k = 0xFFFF
    · simp [absent]
    · simp [absent]
  | some v =>
    by_cases absent : k = 0xFFFF
    · simp only [Option.elim_some, id_eq, Option.mem_def, Option.some.injEq, forall_eq', absent, if_true]
      constructor
      · rintro ⟨rfl, -, high⟩
        omega
      · rintro ⟨none, -⟩
        cases none
    · simp only [Option.elim_some, id_eq, Option.mem_def, Option.some.injEq, forall_eq', absent, if_false, false_or]
      constructor
      · rintro ⟨rfl, both⟩
        exact ⟨rfl, both⟩
      · rintro ⟨rfl, both⟩
        exact ⟨rfl, both⟩

/-- The item SET SERVICE ITEM places, its counts full (R138). -/
def itemAsked (body : List Byte) : ServiceItem :=
  { enabled := u8 body 1 = 1, label := u8 body 2, distanceInterval := intervalOf (u16 body 3)
    hoursInterval := intervalOf (u16 body 5), daysInterval := intervalOf (u16 body 7)
    remainingDistance := (intervalOf (u16 body 3)).map fun n => ((n * 10 : Nat) : Int)
    remainingHours := (intervalOf (u16 body 5)).map fun n => (n : Int)
    remainingDays := (intervalOf (u16 body 7)).map fun n => (n : Int)
    lastOdometer := none, lastDate := none, state := .off }

/-- Full counts (R137, R138), the distance in its counting unit. -/
theorem fullCounts_eq (it : ServiceItem) : it.fullCounts = { it with
    remainingDistance := it.distanceInterval.map fun n => ((n * 10 : Nat) : Int)
    remainingHours := it.hoursInterval.map fun n => (n : Int)
    remainingDays := it.daysInterval.map fun n => (n : Int) } := by
  unfold ServiceItem.fullCounts ServiceItem.distanceDu
  cases it.distanceInterval <;> rfl

theorem intervalOf_eq_none {k : Nat} : intervalOf k = none ↔ k = 0xFFFF := by
  unfold intervalOf
  split_ifs with absent <;> simp [absent]

theorem serviceFields_eq_some {i : ItemIx} {it : ServiceItem} : serviceFields body = some (i, it) ↔
    u8 body 0 = i ∧ ¬ ServiceFieldsOut body ∧ it = itemAsked body := by
  have distance := u16_lt body 3
  have hours := u16_lt body 5
  simp only [serviceFields, bind, Option.bind_eq_some_iff, ixOf_eq_some, flagOf_eq_some, within_eq_some,
    optionalOf_within_iff (show 65534 < 0xFFFF by decide), optionalOf_within_iff (show 3650 < 0xFFFF by decide)]
  constructor
  · rintro ⟨j, slot, on, flag, label, ⟨rfl, -, few⟩, _, ⟨rfl, distanceFits⟩, _, ⟨rfl, hoursFits⟩, _, ⟨rfl, daysFits⟩, rest⟩
    rw [Option.ite_none_left_eq_some, intervalOf_eq_none, intervalOf_eq_none, intervalOf_eq_none] at rest
    obtain ⟨some, same⟩ := rest
    cases same
    have lt := i.isLt
    have enabled : on = decide (u8 body 1 = 1) := by rw [flag]; cases on <;> rfl
    refine ⟨slot, ?_, by rw [enabled, fullCounts_eq]; rfl⟩
    have flagFits := on.toNat_le
    have on_iff : on = true ↔ u8 body 1 = 1 := by rw [enabled, decide_eq_true_iff]
    rw [on_iff] at some
    unfold ServiceFieldsOut
    omega
  · rintro ⟨slot, good, rfl⟩
    unfold ServiceFieldsOut at good
    have flag : u8 body 1 = (decide (u8 body 1 = 1)).toNat := by
      by_cases on : u8 body 1 = 1
      · rw [decide_eq_true on, on]; rfl
      · rw [decide_eq_false on]
        change u8 body 1 = 0
        omega
    refine ⟨i, slot, _, flag, _, ⟨rfl, by omega⟩, _, ⟨rfl, by omega⟩, _, ⟨rfl, by omega⟩, _, ⟨rfl, by omega⟩, ?_⟩
    rw [if_neg (by rw [intervalOf_eq_none, intervalOf_eq_none, intervalOf_eq_none, decide_eq_true_iff]; omega),
      fullCounts_eq]
    rfl

end

/-! ## SERVICE DONE -/

/-- An item as its service restarts it (R137). -/
def ServiceItem.serviced (s : State) (x : ServiceItem) : ServiceItem :=
  { x with
    remainingDistance := x.distanceInterval.map fun n => ((n * 10 : Nat) : Int)
    remainingHours := x.hoursInterval.map fun n => (n : Int)
    remainingDays := x.daysInterval.map fun n => (n : Int)
    lastOdometer := some s.tau.odometer
    lastDate := match s.clk.state with
      | .set => some { year := s.clk.time.year, month := s.clk.time.month, day := s.clk.time.day }
      | .unset => none }

/-- Settles O53: the decision of a state, then the two requests with what the change of an item hands. -/
theorem serviceRequestsAnswer : Obligations.ServiceRequestsAnswer := by
  unfold Obligations.ServiceRequestsAnswer
  refine ⟨fun it => ?_, ?_⟩
  · intro has overdue due near
    have isOver : (it.counts.any fun c => c.2 ≤ -(overdueMargin c.1 : Int)) = true ↔ overdue := overdue_iff
    have isDue : (it.counts.any fun c => c.2 ≤ 0) = true ↔ due := due_iff
    have isNear : (it.counts.any fun c => c.2 ≤ (nearMargin c.1 : Int)) = true ↔ near := near_iff
    have on (enabled : it.enabled = true) : ¬ it.enabled = false := by rw [enabled]; decide
    refine ⟨fun off => ?_, fun enabled h => ?_, fun enabled h h' => ?_, fun enabled h h' h'' => ?_,
      fun enabled h h' h'' => ?_⟩
    · rw [it.decided_eq, if_pos off]
    · rw [it.decided_eq, if_neg (on enabled), if_pos (isOver.mpr h)]
    · rw [it.decided_eq, if_neg (on enabled), if_neg (mt isOver.mp h), if_pos (isDue.mpr h')]
    · rw [it.decided_eq, if_neg (on enabled), if_neg (mt isOver.mp h), if_neg (mt isDue.mp h'), if_pos (isNear.mpr h'')]
    · rw [it.decided_eq, if_neg (on enabled), if_neg (mt isOver.mp h), if_neg (mt isDue.mp h'), if_neg (mt isNear.mp h'')]
  · intro handed
    refine ⟨fun tag body s serves length => ?_, fun tag body s serves length => ?_⟩
    · have lengthOk := decide_eq_true length
      refine ⟨fun bad => served_refuse serves lengthOk ?_, fun i good slot => ?_⟩
      · have none : serviceFields body = none := by
          rw [Option.eq_none_iff_forall_ne_some]
          rintro ⟨i, it⟩ fields
          exact (serviceFields_eq_some.mp fields).2.1 bad
        rw [ownSetServiceItem, none]
        rfl
      · have fields : serviceFields body = some (i, itemAsked body) := serviceFields_eq_some.mpr ⟨slot, good, rfl⟩
        refine ⟨changeItem i (fun old => { itemAsked body with state := old.state }) (takeRequest s),
          served_answer serves lengthOk (by rw [ownSetServiceItem, fields]; rfl), changeItem_handed i s rfl, ?_⟩
        rw [changeItem_svs]
        rfl
    · have lengthOk := decide_eq_true length
      refine ⟨fun large => served_refuse serves lengthOk ?_, fun i slot => ?_⟩
      · have none : ixOf 8 (u8 body 0) = none := by
          rw [Option.eq_none_iff_forall_ne_some]
          intro i index
          have := ixOf_eq_some.mp index
          have := i.isLt
          omega
        rw [ownServiceDone, none]
        rfl
      · have own : ownServiceDone { kind := ReqKind.serviceDone.code, tag, body } (takeRequest s) =
            serviceDone i (takeRequest s) := by
          rw [ownServiceDone, ixOf_eq_some.mpr slot]
          rfl
        refine ⟨fun parked => served_refuse serves lengthOk (own.trans (if_pos parked)),
          fun awake moving => served_refuse serves lengthOk (own.trans ((if_neg awake).trans (if_pos moving))),
          fun awake still off => served_refuse serves lengthOk (own.trans ?_), fun awake still on => ?_⟩
        · exact ((if_neg awake).trans (if_neg (by rw [takeRequest_svs, still]; exact Bool.false_ne_true))).trans (if_pos off)
        · refine ⟨changeItem i (ServiceItem.serviced s) (takeRequest s), served_answer serves lengthOk (own.trans ?_),
            changeItem_handed i s rfl, ?_⟩
          · refine ((if_neg awake).trans (if_neg (by rw [takeRequest_svs, still]; exact Bool.false_ne_true))).trans
              ((if_neg (by rw [takeRequest_svs, on]; decide)).trans ?_)
            simp only [fullCounts_eq]
            rfl
          · rw [changeItem_svs]
            rfl

end Sys2Proof.Machine
end

section
/-! A distance unit: the trips, the bucket, the distance to go and the service items (R48, R53, R55, R58, R65, R133). -/

namespace Sys2Proof.Machine

-- One theorem at a time, so that a build as one text needs few threads.
set_option Elab.async false

/-! ## What entries are evaluated from -/

/-- Between two states every entry keeps its configuration and its two flags. -/
def FlagsKept (s t : State) : Prop := ∀ w : EntryIx, t.wtb.entries[w].cfg = s.wtb.entries[w].cfg ∧
  t.wtb.entries[w].eventPending = s.wtb.entries[w].eventPending ∧
  t.wtb.entries[w].linkCondition = s.wtb.entries[w].linkCondition

namespace FlagsKept
variable {s t u : State}

theorem refl (s : State) : FlagsKept s s := fun _ => ⟨rfl, rfl, rfl⟩

theorem trans (h : FlagsKept s t) (k : FlagsKept t u) : FlagsKept s u := fun w => by
  obtain ⟨cfg, pending, link⟩ := h w
  obtain ⟨cfg', pending', link'⟩ := k w
  exact ⟨cfg'.trans cfg, pending'.trans pending, link'.trans link⟩

theorem of_wtb_eq (same : t.wtb.entries = s.wtb.entries) : FlagsKept s t := fun w => by
  rw [same]
  exact ⟨rfl, rfl, rfl⟩

theorem of_only {ps : List Part} (h : OnlyChanges ps s t) (wtb : Part.wtb ∉ ps := by decide) : FlagsKept s t :=
  of_wtb_eq (by rw [h.wtb_eq wtb])

theorem entry (w : EntryIx) (f : Entry → Entry) (s : State) (flags : KeepsFlags f) : FlagsKept s (s.modEntry w f) := by
  intro v
  rw [State.modEntry_wtb]
  dsimp only
  rw [updAt_get]
  split_ifs with same
  · subst same
    exact flags _
  · exact ⟨rfl, rfl, rfl⟩

theorem walk : EvalWalk FlagsKept where
  refl := refl
  trans := trans
  entry := entry
  chs f s := of_only (modChs_only s f)
  notify n s := of_only (notify_only s n)
  mark i s := of_only (mark_only s i)

theorem wtbTake (f : WarnView → WarnView) (test : EntryConfig → Bool) (s : State) :
    FlagsKept s (Machine.wtbTake f test s) :=
  (of_wtb_eq rfl : FlagsKept s (s.modWarnView f)).trans (walk.wtbTake f test s)

theorem setDisagree (b : Bool) (s : State) : FlagsKept s (Machine.setDisagree b s) := by
  unfold Machine.setDisagree
  split_ifs
  · exact refl s
  · exact (of_only (modPcu_only s _)).trans (.wtbTake _ _ _)

theorem takeChannel (ch : ChannelIx) (st : ChannelState) (engine road : Bool) (b : Block) (s : State) :
    FlagsKept s (Machine.takeChannel ch st engine road b s) := by
  cases b
  case wtb =>
    unfold Machine.takeChannel wtbChannel
    exact .wtbTake _ _ s
  all_goals exact of_only (takeChannel_parts s ch st engine road _)

theorem hand {targets : List Block} {take : Block → State → State} (each : ∀ b s, FlagsKept s (take b s)) (s : State) :
    FlagsKept s (Machine.hand targets take s) :=
  (of_only (modFree_only s _)).trans (walk.foldl (fun s b => each b s) _ _)

theorem changeChannel (ch : ChannelIx) (f : Channel → Channel) (s : State) :
    FlagsKept s (Machine.changeChannel ch f s) := by
  have first : FlagsKept s (s.modChannel ch f) := of_only (modChannel_only s ch f)
  unfold Machine.changeChannel
  dsimp only
  split_ifs
  · exact first
  · have left : FlagsKept _ (leaveLive (s.modChannel ch f)) :=
      (of_only (modPcu_only (s.modChannel ch f) _)).trans (.setDisagree _ _)
    exact (first.trans left).trans (hand (.takeChannel _ _ _ _) _)
  · exact first.trans (hand (.takeChannel _ _ _ _) _)

theorem decideItem (i : ItemIx) (s : State) : FlagsKept s (Machine.decideItem i s) := by
  unfold Machine.decideItem
  dsimp only
  split_ifs
  · exact refl s
  · exact ((of_only (modItem_only s i _)).trans (of_only (notify_only _ _))).trans (.wtbTake _ _ _)

theorem countItems (down : ServiceItem → ServiceItem) (s : State) : FlagsKept s (Machine.countItems down s) := by
  refine walk.eachIx (fun i s => ?_) s
  split_ifs
  · exact (of_only (modItem_only s i down)).trans (.decideItem i _)
  · exact refl s

end FlagsKept

/-- An arrival sets the flag of every enabled ARRIVAL entry (R89). -/
theorem wtbArrival_pending {w : EntryIx} {s : State} (enabled : s.wtb.entries[w].cfg.enabled = true)
    (arrival : s.wtb.entries[w].cfg.source = .arrival) : (wtbArrival s).wtb.entries[w].eventPending = true := by
  unfold wtbArrival
  dsimp only
  obtain ⟨-, pending, -⟩ := FlagsKept.walk.evaluateWhere (fun c => c.enabled && c.source = .arrival)
    (s.modWtb fun t => { t with entries := mapAll (fun e =>
      if e.cfg.enabled ∧ e.cfg.source = .arrival then { e with eventPending := true } else e) t.entries }) w
  rw [pending, State.modWtb_wtb]
  dsimp only
  rw [mapAll_get, if_pos ⟨enabled, arrival⟩]

/-! ## The trips -/

/-- A trip after a distance unit: it counts while it is OPEN (R48, R53). -/
def Trip.takeDistance (t : Trip) : Trip :=
  if t.state = .open then { t with distance := min (t.distance + 1) 999999 } else t

theorem countUp_maxTripDistance (n : Nat) : countUp Config.maxTripDistance n = min (n + 1) 999999 := rfl

theorem justSaturated_maxTripDistance (n : Nat) :
    justSaturated Config.maxTripDistance n (min (n + 1) 999999) = true ↔ n = 999998 := by
  change (decide (n < 999999) && decide (min (n + 1) 999999 = 999999)) = true ↔ _
  rw [Bool.and_eq_true, decide_eq_true_iff, decide_eq_true_iff]
  omega

section
variable (t : TripIx) (s : State)

theorem tripDistance_tau : (tripDistance t s).tau = { s.tau with trips := updAt s.tau.trips t Trip.takeDistance } := by
  unfold tripDistance
  dsimp only
  rw [countUp_maxTripDistance]
  by_cases counts : s.tau.trips[t].state = .open ∧ min (s.tau.trips[t].distance + 1) 999999 ≠ s.tau.trips[t].distance
  · have taken : updAt s.tau.trips t (fun x => { x with distance := min (s.tau.trips[t].distance + 1) 999999 }) =
        updAt s.tau.trips t Trip.takeDistance := updAt_congr (by rw [Trip.takeDistance, if_pos counts.1])
    rw [if_pos counts, ← taken]
    split_ifs
    · rw [tripNotice_tau, (mark_only _ _).tau_eq]; rfl
    · rw [tripNotice_tau]; rfl
    · rw [(mark_only _ _).tau_eq]; rfl
    · rfl
  · rw [if_neg counts, updAt_of_fixed]
    unfold Trip.takeDistance
    split_ifs with opened
    · have full : min (s.tau.trips[t].distance + 1) 999999 = s.tau.trips[t].distance :=
        Decidable.byContradiction fun differs => counts ⟨opened, differs⟩
      rw [full]
    · rfl

/-- A trip brings its notice SATURATED at the unit that fills its distance, and no other (R53). -/
theorem tripDistance_lkp : (tripDistance t s).lkp =
    if s.tau.trips[t].state = .open ∧ s.tau.trips[t].distance = 999998
    then s.lkp.takeNotice (.trip t.castSucc .saturated) else s.lkp := by
  unfold tripDistance
  dsimp only
  rw [countUp_maxTripDistance]
  by_cases counts : s.tau.trips[t].state = .open ∧ min (s.tau.trips[t].distance + 1) 999999 ≠ s.tau.trips[t].distance
  · rw [if_pos counts]
    by_cases fills : s.tau.trips[t].distance = 999998
    · have both : s.tau.trips[t].state = .open ∧ s.tau.trips[t].distance = 999998 := ⟨counts.1, fills⟩
      rw [if_pos ((justSaturated_maxTripDistance _).mpr fills), if_pos both]
      split_ifs <;> rfl
    · have not : ¬ (s.tau.trips[t].state = .open ∧ s.tau.trips[t].distance = 999998) := fun both => fills both.2
      rw [if_neg (mt (justSaturated_maxTripDistance _).mp fills), if_neg not]
      split_ifs <;> rfl
  · rw [if_neg counts, if_neg]
    rintro ⟨opened, fills⟩
    exact counts ⟨opened, by omega⟩

theorem tripDistance_told {n : TripIx} (told : s.lkp.Told (.trip n.castSucc .saturated)) :
    (tripDistance t s).lkp.Told (.trip n.castSucc .saturated) := by
  rw [tripDistance_lkp]
  split_ifs
  · refine told.takeNotice fun key => ?_
    have trip : n.val = t.val := congrArg Prod.snd key
    rw [Fin.ext trip]
  · exact told

theorem tripDistance_mask : (tripDistance t s).lkp.mask = s.lkp.mask := by
  rw [tripDistance_lkp]
  split_ifs
  · exact Lkp.takeNotice_mask _ _
  · rfl

/-- A change of T3's distance marks PASSENGER_TRIP (R65). -/
theorem tripDistance_marked {s : State} (opened : s.tau.trips[(3 : TripIx)].state = .open)
    (room : s.tau.trips[(3 : TripIx)].distance < 999999) : Marked .passengerTrip s (tripDistance 3 s) := by
  unfold tripDistance
  dsimp only
  rw [countUp_maxTripDistance, if_pos ⟨opened, by omega⟩, if_pos rfl]
  have marked : Marked .passengerTrip s (mark .passengerTrip (s.modTrip 3 fun x => { x with
      distance := min (s.tau.trips[(3 : TripIx)].distance + 1) 999999 })) :=
    (MarksOnly.of_only (modTrip_only s 3 _)).then_marked (marked_mark _ _)
  split_ifs
  · exact MarksOnly.marked_then marked (.of_only (notify_only _ _))
  · exact marked

end

theorem eachIx_tripDistance_tau (s : State) :
    (eachIx 4 tripDistance s).tau = { s.tau with trips := mapAll Trip.takeDistance s.tau.trips } := by
  have others : { (eachIx 4 tripDistance s).tau with trips := s.tau.trips } = s.tau :=
    eachIx_keeps (get := fun x => { x.tau with trips := s.tau.trips }) (fun t x => by rw [tripDistance_tau]) s
  have trips : (eachIx 4 tripDistance s).tau.trips = mapAll Trip.takeDistance s.tau.trips := by
    refine Vector.ext fun i bound => ?_
    obtain ⟨x, same, taken⟩ := eachIx_at (f := tripDistance) (get := fun x => x.tau.trips[(⟨i, bound⟩ : TripIx)])
      (fun t x ne => by rw [tripDistance_tau, updAt_get_other _ _ _ _ ne]) s
    rw [tripDistance_tau, updAt_get_same, same, ← mapAll_get Trip.takeDistance] at taken
    exact taken
  rw [← others, ← trips]

section
variable {s : State}

/-- A distance unit that fills an OPEN trip's distance tells it (R53). -/
theorem eachIx_tripDistance_told {n : TripIx} (opened : s.tau.trips[n].state = .open)
    (fills : s.tau.trips[n].distance = 999998) (on : s.lkp.mask.getLsbD 8 = true) :
    (eachIx 4 tripDistance s).lkp.Told (.trip n.castSucc .saturated) := by
  refine eachIx_reaches (i := n) (before := fun x => x.tau.trips[n] = s.tau.trips[n] ∧ x.lkp.mask = s.lkp.mask)
    (goal := fun x => x.lkp.Told (.trip n.castSucc .saturated)) (fun x before => ?_) (fun t x ne before => ?_)
    (fun t x => tripDistance_told t x) ⟨rfl, rfl⟩
  · obtain ⟨trip, mask⟩ := before
    rw [tripDistance_lkp, if_pos (by rw [trip]; exact ⟨opened, fills⟩)]
    exact Lkp.told_takeNotice (by rw [mask]; exact on)
  · obtain ⟨trip, mask⟩ := before
    exact ⟨by rw [tripDistance_tau, updAt_get_other _ _ _ _ ne, trip], (tripDistance_mask t x).trans mask⟩

theorem eachIx_tripDistance_marked (opened : s.tau.trips[(3 : TripIx)].state = .open)
    (room : s.tau.trips[(3 : TripIx)].distance < 999999) : Marked .passengerTrip s (eachIx 4 tripDistance s) := by
  refine eachIx_reaches (i := (3 : TripIx)) (before := fun x => x.tau.trips[(3 : TripIx)] = s.tau.trips[(3 : TripIx)] ∧
    MarksOnly s x) (goal := Marked .passengerTrip s) (fun x before => ?_) (fun t x ne before => ?_)
    (fun t x marked => MarksOnly.marked_then marked (CountsOnly.tripDistance t x).marks) ⟨rfl, .refl s⟩
  · obtain ⟨trip, marks⟩ := before
    exact marks.then_marked (tripDistance_marked (by rw [trip]; exact opened) (by rw [trip]; exact room))
  · obtain ⟨trip, marks⟩ := before
    exact ⟨by rw [tripDistance_tau, updAt_get_other _ _ _ _ ne, trip], marks.trans (CountsOnly.tripDistance t x).marks⟩

end

/-! ## The bucket -/

section
variable (s : State)

/-- The open bucket with a distance unit (R48, R55). -/
abbrev grown (s : State) : Bucket := { s.tau.bucket with distance := s.tau.bucket.distance + 1 }

theorem bucketDistance_open (room : (grown s).distance < s.tau.fuel.bucketLength) :
    bucketDistance s = s.modTau fun u => { u with bucket := grown s } := if_pos room

theorem bucketDistance_closed (full : s.tau.fuel.bucketLength ≤ (grown s).distance) :
    bucketDistance s = mark .destination (recomputeRange
      (s.modTau fun u => { u with ring := ringPush u.ring (grown s), bucket := Bucket.zero })) :=
  if_neg (Nat.not_lt_of_le full)

/-- What a distance unit at the bucket leaves of the TAU. -/
theorem bucketDistance_tau : { (bucketDistance s).tau with
    bucket := s.tau.bucket, ring := s.tau.ring, range := s.tau.range } = s.tau := by
  rcases Nat.lt_or_ge (grown s).distance s.tau.fuel.bucketLength with room | full
  · rw [bucketDistance_open s room]
    rfl
  · rw [bucketDistance_closed s full, (mark_only _ _).tau_eq, recomputeRange_tau]
    rfl

theorem bucketDistance_bucket : ((grown s).distance < s.tau.fuel.bucketLength →
      (bucketDistance s).tau.bucket = grown s ∧ (bucketDistance s).tau.ring = s.tau.ring) ∧
    (s.tau.fuel.bucketLength ≤ (grown s).distance →
      (bucketDistance s).tau.bucket = { distance := 0, fuel := 0, seconds := 0 } ∧
      (bucketDistance s).tau.ring = (if s.tau.ring.length < 16 then s.tau.ring else s.tau.ring.tail) ++ [grown s] ∧
      Marked .destination s (bucketDistance s)) := by
  refine ⟨fun room => ?_, fun full => ?_⟩
  · rw [bucketDistance_open s room]
    exact ⟨rfl, rfl⟩
  · have marks : MarksOnly s (recomputeRange
        (s.modTau fun u => { u with ring := ringPush u.ring (grown s), bucket := Bucket.zero })) :=
      (MarksOnly.of_only (modTau_only s _)).trans (recomputeRange_marks _)
    rw [bucketDistance_closed s full, (mark_only _ _).tau_eq, recomputeRange_tau]
    refine ⟨rfl, ?_, marks.then_marked (marked_mark _ _)⟩
    change ringPush s.tau.ring (grown s) = _
    unfold ringPush
    exact (apply_ite (· ++ [grown s]) _ _ _).symm

end

/-! ## The distance to go -/

section
variable (s : State)

theorem destinationUnit_of_none (none : s.tau.destination = none) : destinationUnit s = s := by
  unfold destinationUnit
  rw [none]

theorem destinationUnit_of_far {d : Nat} (some : s.tau.destination = some d) (far : 2 ≤ d) : destinationUnit s =
    mark .destination (s.modTau fun u => { u with destination := .some (d - 1) }) := by
  unfold destinationUnit
  rw [some]
  exact if_neg (by omega)

theorem destinationUnit_of_near {d : Nat} (some : s.tau.destination = some d) (near : d ≤ 1) : destinationUnit s =
    (wtbArrival (mark .destination (s.modTau fun u => { u with destination := none }))).notify (.trip 4 .arrival) := by
  unfold destinationUnit
  rw [some]
  exact if_pos near

theorem destinationUnit_tau : { (destinationUnit s).tau with destination := s.tau.destination } = s.tau := by
  cases given : s.tau.destination with
  | none =>
    rw [destinationUnit_of_none s given, ← given]
  | some d =>
    rcases Nat.lt_or_ge 1 d with far | near
    · rw [destinationUnit_of_far s given far, (mark_only _ _).tau_eq, ← given]
      rfl
    · rw [destinationUnit_of_near s given near, (notify_only _ _).tau_eq, (wtbArrival_only _).tau_eq,
        (mark_only _ _).tau_eq, ← given]
      rfl

theorem destinationUnit_marked (some : s.tau.destination ≠ none) : Marked .destination s (destinationUnit s) := by
  obtain ⟨d, given⟩ := Option.ne_none_iff_exists'.mp some
  have marked (f : Tau → Tau) : Marked .destination s (mark .destination (s.modTau f)) :=
    (MarksOnly.of_only (modTau_only s f)).then_marked (marked_mark _ _)
  rcases Nat.lt_or_ge 1 d with far | near
  · rw [destinationUnit_of_far s given far]
    exact marked _
  · rw [destinationUnit_of_near s given near]
    exact MarksOnly.marked_then (MarksOnly.marked_then (marked _) (MarksOnly.walk.wtbArrival _)) (.of_only (notify_only _ _))

theorem destinationUnit_destination : (s.tau.destination = none → (destinationUnit s).tau.destination = none) ∧
    (∀ d, s.tau.destination = some d → 2 ≤ d → (destinationUnit s).tau.destination = some (d - 1)) ∧
    (∀ d, s.tau.destination = some d → d ≤ 1 → (destinationUnit s).tau.destination = none) := by
  refine ⟨fun none => ?_, fun d some far => ?_, fun d some near => ?_⟩
  · rw [destinationUnit_of_none s none, none]
  · rw [destinationUnit_of_far s some far, (mark_only _ _).tau_eq]
    rfl
  · rw [destinationUnit_of_near s some near, (notify_only _ _).tau_eq, (wtbArrival_only _).tau_eq, (mark_only _ _).tau_eq]
    rfl

end

/-- The mask bits of what a distance unit tells after the trips: WARNING, CHIME, SERVICE and TRIP (Table 65). -/
theorem NoticesOnly.recomputeRange (s : State) : NoticesOnly warnBits s (Machine.recomputeRange s) := by
  unfold Machine.recomputeRange
  split_ifs
  · exact .refl s
  · exact (of_only (modTau_only s _)).trans (.wtbTake _ _ _)

theorem NoticesOnly.bucketDistance (s : State) : NoticesOnly warnBits s (Machine.bucketDistance s) := by
  unfold Machine.bucketDistance
  dsimp only
  split_ifs
  · exact of_only (modTau_only s _)
  · exact ((of_only (modTau_only s _)).trans (.recomputeRange _)).trans (of_only (mark_only _ _))

theorem NoticesOnly.wtbArrival (s : State) : NoticesOnly warnBits s (Machine.wtbArrival s) := by
  unfold Machine.wtbArrival
  dsimp only
  exact (of_only (modWtb_only s _)).trans (.evaluateWhere _ _)

/-- The mask bits of WARNING, CHIME and SERVICE notices (Table 65). -/
abbrev itemBits : List Nat := [1, 2, 4]

theorem NoticesOnly.mono {bits more : List Nat} {s t : State} (h : NoticesOnly bits s t) (sub : bits ⊆ more) :
    NoticesOnly more s t := by
  obtain ⟨ns, kinds, taken⟩ := h
  exact ⟨ns, fun n mem => sub (kinds n mem), taken⟩

theorem NoticesOnly.decideItem (i : ItemIx) (s : State) : NoticesOnly itemBits s (Machine.decideItem i s) := by
  unfold Machine.decideItem
  dsimp only
  split_ifs
  · exact .refl s
  · exact ((of_only (modItem_only s i _)).trans (.notify (by simp [Notice.bit]) _)).trans
      ((NoticesOnly.wtbTake _ _ _).mono (by decide))

theorem NoticesOnly.countItems (down : ServiceItem → ServiceItem) (s : State) :
    NoticesOnly itemBits s (Machine.countItems down s) := by
  refine NoticesOnly.eachIx (fun i s => ?_) s
  split_ifs
  · exact (of_only (modItem_only s i down)).trans (.decideItem i _)
  · exact .refl s

/-- The distance to go leaves what is told of the trips (R189). -/
theorem destinationUnit_told (s : State) {n : TripIx} (told : s.lkp.Told (.trip n.castSucc .saturated)) :
    (destinationUnit s).lkp.Told (.trip n.castSucc .saturated) := by
  cases given : s.tau.destination with
  | none =>
    rw [destinationUnit_of_none s given]
    exact told
  | some d =>
    rcases Nat.lt_or_ge 1 d with far | near
    · rw [destinationUnit_of_far s given far]
      exact told
    · rw [destinationUnit_of_near s given near]
      have arrived : NoticesOnly NoticesOnly.warnBits s (wtbArrival (mark .destination (s.modTau fun u =>
          { u with destination := none }))) :=
        ((NoticesOnly.of_only (modTau_only s _)).trans (.of_only (mark_only _ _))).trans (.wtbArrival _)
      refine (arrived.told (by simp [Notice.bit]) told).takeNotice fun key => ?_
      have trip : n.val = 4 := congrArg Prod.snd key
      exact absurd n.isLt (by omega)

/-- An arrival is told (R58). -/
theorem destinationUnit_told_arrival (s : State) {d : Nat} (some : s.tau.destination = some d) (near : d ≤ 1)
    (on : s.lkp.mask.getLsbD 8 = true) : (destinationUnit s).lkp.Told (.trip 4 .arrival) := by
  rw [destinationUnit_of_near s some near]
  refine Lkp.told_takeNotice ?_
  rw [(NoticesOnly.wtbArrival _).mask_eq, (mark_only _ _).lkp_eq, (modTau_only s _).lkp_eq]
  exact on

/-! ## The service items -/

/-- One item's turn in an event stream (R132). -/
def countItem (down : ServiceItem → ServiceItem) (i : ItemIx) (s : State) : State :=
  if s.svs.items[i].enabled then changeItem i down s else s

theorem countItem_items (down : ServiceItem → ServiceItem) (i : ItemIx) (s : State) : (countItem down i s).svs.items =
    if s.svs.items[i].enabled
    then updAt s.svs.items i fun it => { down it with state := (down it).decided } else s.svs.items := by
  unfold countItem
  split_ifs
  · exact changeItem_items i down s
  · rfl

/-- The items after one event stream counted them down (R132, R133). -/
theorem countItems_item (down : ServiceItem → ServiceItem) (s : State) (i : ItemIx) :
    (countItems down s).svs.items[i] = if s.svs.items[i].enabled
      then { down s.svs.items[i] with state := (down s.svs.items[i]).decided } else s.svs.items[i] := by
  have whole : countItems down s = eachIx 8 (countItem down) s := rfl
  rw [whole]
  obtain ⟨x, same, counted⟩ := eachIx_at (f := countItem down) (get := fun x => x.svs.items[i]) (i := i) (fun j x ne => by
    rw [countItem_items]
    split_ifs
    · exact updAt_get_other _ _ _ _ ne
    · rfl) s
  rw [counted, countItem_items]
  by_cases enabled : s.svs.items[i].enabled = true
  · rw [if_pos enabled, if_pos (by rw [same]; exact enabled), updAt_get_same, same]
  · rw [if_neg enabled, if_neg (by rw [same]; exact enabled), same]

end Sys2Proof.Machine
end

section
/-! The edges of CH0 and CH4 (R13, R48). -/

namespace Sys2Proof.Machine

-- One theorem at a time, so that a build as one text needs few threads.
set_option Elab.async false

/-! ## What a distance unit reads is not changed by the edge's own handing -/

theorem changeChannel_frame (ch : ChannelIx) (f : Channel → Channel) (s : State) :
    ((changeChannel ch f s).clc.line, (changeChannel ch f s).clc.nodes) = (s.clc.line, s.clc.nodes) := by
  by_cases same : (f s.pcu.channels[ch]).state = s.pcu.channels[ch].state
  · rw [changeChannel_of_same same, (modChannel_only s ch f).clc_eq (by decide)]
  · have recorded := channelRecorded_marks ch f s
    rw [changeChannel_of_changed same, ← recorded.line_eq, ← recorded.nodes_eq]
    refine hand_keeps (get := fun x => (x.clc.line, x.clc.nodes)) (fun _ _ => rfl) (fun b x => ?_) _ _
    by_cases clc : b = .clc
    · subst clc
      change ((clcRoadLive _ x).clc.line, (clcRoadLive _ x).clc.nodes) = _
      unfold clcRoadLive
      split_ifs
      · rfl
      · rw [(MarksOnly.mark _ _).line_eq, (MarksOnly.mark _ _).nodes_eq]
        rfl
    · have marks := takeChannel_marks ch x (f s.pcu.channels[ch]).state
        (channelRecorded ch f s).pcu.engineRunning (channelRecorded ch f s).pcu.roadLive clc
      rw [marks.line_eq, marks.nodes_eq]

theorem changeChannel_items (ch : ChannelIx) (f : Channel → Channel) (s : State) :
    (changeChannel ch f s).svs.items = s.svs.items := by
  by_cases same : (f s.pcu.channels[ch]).state = s.pcu.channels[ch].state
  · rw [changeChannel_of_same same, (modChannel_only s ch f).svs_eq (by decide)]
  · rw [changeChannel_svs same]

/-- Between two states nothing differs that a distance unit counts or reads. -/
structure SameCounts (s t : State) : Prop where
  records : t.tau.records = s.tau.records
  items : t.svs.items = s.svs.items
  flags : FlagsKept s t
  mask : t.lkp.mask = s.lkp.mask
  line : t.clc.line = s.clc.line
  nodes : t.clc.nodes = s.clc.nodes

theorem SameCounts.trans {s t u : State} (h : SameCounts s t) (k : SameCounts t u) : SameCounts s u :=
  ⟨k.records.trans h.records, k.items.trans h.items, h.flags.trans k.flags, k.mask.trans h.mask, k.line.trans h.line,
    k.nodes.trans h.nodes⟩

theorem SameCounts.modPcu (f : Pcu → Pcu) (s : State) : SameCounts s (s.modPcu f) :=
  ⟨rfl, rfl, .of_only (modPcu_only s f), rfl, rfl, rfl⟩

theorem SameCounts.changeChannel (ch : ChannelIx) (f : Channel → Channel) (s : State) :
    SameCounts s (Machine.changeChannel ch f s) where
  records := changeChannel_records ch f s
  items := changeChannel_items ch f s
  flags := .changeChannel ch f s
  mask := (NoticesOnly.changeChannel ch f s).mask_eq
  line := congrArg Prod.fst (changeChannel_frame ch f s)
  nodes := congrArg Prod.snd (changeChannel_frame ch f s)

/-- Nothing counts distance (R48). -/
def NoDistance (s t : State) : Prop :=
  t.tau.odometer = s.tau.odometer ∧ t.tau.accInvalid = s.tau.accInvalid ∧ t.tau.trips = s.tau.trips ∧
  t.tau.bucket = s.tau.bucket ∧ t.tau.ring = s.tau.ring ∧ t.tau.destination = s.tau.destination ∧
  t.svs.items = s.svs.items

theorem SameCounts.noDistance {s t : State} (h : SameCounts s t) : NoDistance s t :=
  have records {α : Type} (get : Tau → α) := congrArg get h.records
  ⟨records Tau.odometer, records Tau.accInvalid, records Tau.trips, records Tau.bucket, records Tau.ring,
    records Tau.destination, h.items⟩

/-! ## A distance unit -/

/-- The service items after a distance unit (R133). -/
def DistanceItems (s t : State) : Prop := ∀ i : ItemIx,
  let it := s.svs.items[i]
  t.svs.items[i] = if it.enabled then { it with
      remainingDistance := match it.distanceInterval, it.remainingDistance with
        | some n, some r => some (max (r - 1) (-2 * ((n * 10 : Nat) : Int)))
        | _, _ => it.remainingDistance
      state := t.svs.items[i].decided }
    else it

theorem downDistance_eq (it : ServiceItem) : it.downDistance = { it with
    remainingDistance := match it.distanceInterval, it.remainingDistance with
      | some n, some r => some (max (r - 1) (-2 * ((n * 10 : Nat) : Int)))
      | _, _ => it.remainingDistance } := by
  obtain ⟨_, _, interval, _, _, remaining⟩ := it
  cases interval <;> cases remaining <;> rfl

theorem svsDistance_items {s t : State} (items : t.svs.items = s.svs.items) : DistanceItems s (svsDistance t) := by
  intro i
  unfold svsDistance
  rw [countItems_item, items]
  dsimp only
  split_ifs
  · rw [downDistance_eq]
    rfl
  · rfl

/-- A distance unit counted (R48, R53, R55, R58, R65, R133). -/
def DistanceCounted (s t : State) : Prop :=
  t.tau.odometer = (s.tau.odometer + 1) % 10000000 ∧
  t.tau.accInvalid = (if s.tau.odometerState = .invalid then min (s.tau.accInvalid + 1) 9999999
    else s.tau.accInvalid) ∧
  (∀ i : TripIx, t.tau.trips[i] = if s.tau.trips[i].state = .open
    then { s.tau.trips[i] with distance := min (s.tau.trips[i].distance + 1) 999999 } else s.tau.trips[i]) ∧
  (∀ i : TripIx, s.tau.trips[i].state = .open → s.tau.trips[i].distance = 999998 → s.lkp.mask.getLsbD 8 = true →
    Notice.trip i.castSucc .saturated ∈ t.lkp.notices ∨ t.lkp.noticesLost = true) ∧
  (s.tau.trips[(3 : TripIx)].state = .open → s.tau.trips[(3 : TripIx)].distance < 999999 →
    Marked .passengerTrip s t) ∧
  (s.tau.fuel.bucketLength ≤ (grown s).distance ∨ s.tau.destination ≠ none → Marked .destination s t) ∧
  ((grown s).distance < s.tau.fuel.bucketLength → t.tau.bucket = grown s ∧ t.tau.ring = s.tau.ring) ∧
  (s.tau.fuel.bucketLength ≤ (grown s).distance → t.tau.bucket = { distance := 0, fuel := 0, seconds := 0 } ∧
    t.tau.ring = (if s.tau.ring.length < 16 then s.tau.ring else s.tau.ring.tail) ++ [grown s]) ∧
  (s.tau.destination = none → t.tau.destination = none) ∧
  (∀ d, s.tau.destination = some d → 2 ≤ d → t.tau.destination = some (d - 1)) ∧
  (∀ d, s.tau.destination = some d → d ≤ 1 → t.tau.destination = none ∧
    (∀ w : EntryIx, s.wtb.entries[w].cfg.enabled = true → s.wtb.entries[w].cfg.source = .arrival →
      t.wtb.entries[w].eventPending = true) ∧
    (s.lkp.mask.getLsbD 8 = true → Notice.trip 4 .arrival ∈ t.lkp.notices ∨ t.lkp.noticesLost = true)) ∧
  DistanceItems s t

/-! ### Its stages -/

theorem FlagsKept.bucketDistance (s : State) : FlagsKept s (Machine.bucketDistance s) := by
  unfold Machine.bucketDistance recomputeRange
  dsimp only
  split_ifs
  · exact of_only (modTau_only s _)
  · exact (of_only (modTau_only s _)).trans (of_only (mark_only _ _))
  · exact ((of_only (modTau_only s _)).trans ((of_only (modTau_only _ _)).trans (.wtbTake _ _ _))).trans
      (of_only (mark_only _ _))

/-- A distance unit once the odometer and the trips have it. -/
structure TripsCounted (s v : State) : Prop where
  tau : v.tau = { (odometerUnit s).tau with trips := mapAll Trip.takeDistance s.tau.trips }
  svs : v.svs = s.svs
  counts : CountsOnly s v
  flags : FlagsKept s v
  mask : v.lkp.mask = s.lkp.mask
  told : ∀ i : TripIx, s.tau.trips[i].state = .open → s.tau.trips[i].distance = 999998 → s.lkp.mask.getLsbD 8 = true →
    v.lkp.Told (.trip i.castSucc .saturated)
  marked : s.tau.trips[(3 : TripIx)].state = .open → s.tau.trips[(3 : TripIx)].distance < 999999 →
    Marked .passengerTrip s v

theorem tripsCounted (s : State) : TripsCounted s (eachIx 4 tripDistance (odometerUnit s)) where
  tau := eachIx_tripDistance_tau _
  svs := eachIx_keeps (get := fun x => x.svs) (fun t x => (tripDistance_only x t).svs_eq (by decide)) _
  counts := CountsOnly.trans (t := odometerUnit s) (.of_only (modTau_only s _)) (.eachIx .tripDistance _)
  flags := FlagsKept.trans (t := odometerUnit s) (.of_only (modTau_only s _))
    (FlagsKept.walk.eachIx (fun t x => .of_only (tripDistance_only x t)) _)
  mask := eachIx_keeps (get := fun x => x.lkp.mask) tripDistance_mask _
  told i := eachIx_tripDistance_told (s := odometerUnit s)
  marked opened room := MarksOnly.then_marked (t := odometerUnit s) (.of_only (modTau_only s _))
    (eachIx_tripDistance_marked opened room)

/-- A distance unit once the service items have it too. -/
structure ItemsCounted (d t : State) : Prop where
  tau : t.tau = d.tau
  counts : CountsOnly d t
  flags : FlagsKept d t
  told : ∀ n : Notice, n.bit = 8 → d.lkp.Told n → t.lkp.Told n
  items : ∀ s : State, d.svs.items = s.svs.items → DistanceItems s t

theorem itemsCounted (s : State) : ItemsCounted s (svsDistance s) where
  tau := (countItems_only s _).tau_eq (by decide)
  counts := .countItems _ s
  flags := .countItems _ s
  told n trip told := (NoticesOnly.countItems _ s).told (by rw [trip]; decide) told
  items _ := svsDistance_items

section
variable {s v t : State} (trips : TripsCounted s v) (items : ItemsCounted (destinationUnit (bucketDistance v)) t)
include trips

theorem TripsCounted.grown_eq : grown v = grown s := by
  unfold grown
  rw [trips.tau]
  rfl

theorem TripsCounted.bucket_counts : CountsOnly s (bucketDistance v) := trips.counts.trans (.bucketDistance v)

theorem TripsCounted.bucket_destination : (bucketDistance v).tau.destination = s.tau.destination := by
  have kept : (bucketDistance v).tau.destination = v.tau.destination :=
    (congrArg Tau.destination (bucketDistance_tau v) :)
  rw [kept, trips.tau]
  rfl

include items

/-- The bucket, the ring, the range and the destination aside, a distance unit leaves the TAU as the odometer and the
trips do. -/
theorem unit_tau : { t.tau with
    bucket := s.tau.bucket, ring := s.tau.ring, range := s.tau.range, destination := s.tau.destination } =
    { (odometerUnit s).tau with trips := mapAll Trip.takeDistance s.tau.trips } := by
  have destination := destinationUnit_tau (bucketDistance v)
  have bucket := bucketDistance_tau v
  rw [← destination, trips.tau] at bucket
  rw [items.tau]
  exact (congrArg (fun u : Tau => { u with destination := s.tau.destination }) bucket :)

/-- The destination takes its unit after the bucket, and leaves the bucket and the ring. -/
theorem unit_bucket : ((grown s).distance < s.tau.fuel.bucketLength → t.tau.bucket = grown s ∧ t.tau.ring = s.tau.ring) ∧
    (s.tau.fuel.bucketLength ≤ (grown s).distance →
      t.tau.bucket = { distance := 0, fuel := 0, seconds := 0 } ∧
      t.tau.ring = (if s.tau.ring.length < 16 then s.tau.ring else s.tau.ring.tail) ++ [grown s] ∧
      Marked .destination s t) := by
  obtain ⟨room, full⟩ := bucketDistance_bucket v
  have bucket : t.tau.bucket = (bucketDistance v).tau.bucket := by
    rw [items.tau]
    exact (congrArg Tau.bucket (destinationUnit_tau _) :)
  have ring : t.tau.ring = (bucketDistance v).tau.ring := by
    rw [items.tau]
    exact (congrArg Tau.ring (destinationUnit_tau _) :)
  have later := (CountsOnly.destinationUnit _).trans items.counts
  rw [trips.grown_eq, trips.tau] at room full
  rw [bucket, ring]
  refine ⟨room, fun fills => ?_⟩
  obtain ⟨zero, pushed, marked⟩ := full fills
  exact ⟨zero, pushed, MarksOnly.marked_then (trips.counts.marks.then_marked marked) later.marks⟩

theorem unit_destination_marked (given : s.tau.destination ≠ none) : Marked .destination s t := by
  have marked := destinationUnit_marked (bucketDistance v) (by rw [trips.bucket_destination]; exact given)
  exact MarksOnly.marked_then (trips.bucket_counts.marks.then_marked marked) items.counts.marks

/-- An arrival is handed to the WTB and told (R58). -/
theorem unit_arrival {d : Nat} (given : s.tau.destination = some d) (near : d ≤ 1) :
    (∀ w : EntryIx, s.wtb.entries[w].cfg.enabled = true → s.wtb.entries[w].cfg.source = .arrival →
      t.wtb.entries[w].eventPending = true) ∧
    (s.lkp.mask.getLsbD 8 = true → t.lkp.Told (.trip 4 .arrival)) := by
  have destination := trips.bucket_destination
  rw [given] at destination
  constructor
  · intro w enabled arrival
    have before : FlagsKept s (mark .destination ((bucketDistance v).modTau fun u => { u with destination := none })) :=
      ((trips.flags.trans (.bucketDistance v)).trans (.of_only (modTau_only _ _))).trans (.of_only (mark_only _ _))
    obtain ⟨cfg, -, -⟩ := before w
    obtain ⟨-, kept, -⟩ := items.flags w
    rw [kept, destinationUnit_of_near _ destination near, (notify_only _ _).wtb_eq (by decide)]
    exact wtbArrival_pending (by rw [cfg]; exact enabled) (by rw [cfg]; exact arrival)
  · intro on
    refine items.told _ rfl (destinationUnit_told_arrival _ destination near ?_)
    rw [(NoticesOnly.bucketDistance v).mask_eq, trips.mask]
    exact on

/-- A trip whose distance a unit fills is told (R53). -/
theorem unit_told {i : TripIx} (opened : s.tau.trips[i].state = .open) (fills : s.tau.trips[i].distance = 999998)
    (on : s.lkp.mask.getLsbD 8 = true) : t.lkp.Told (.trip i.castSucc .saturated) :=
  items.told _ rfl (destinationUnit_told _
    ((NoticesOnly.bucketDistance v).told (by simp [Notice.bit]) (trips.told i opened fills on)))

theorem unit_marked (opened : s.tau.trips[(3 : TripIx)].state = .open)
    (room : s.tau.trips[(3 : TripIx)].distance < 999999) : Marked .passengerTrip s t :=
  MarksOnly.marked_then (trips.marked opened room)
    (((CountsOnly.bucketDistance v).trans (.destinationUnit _)).trans items.counts).marks

theorem unit_destination : (s.tau.destination = none → t.tau.destination = none) ∧
    (∀ d, s.tau.destination = some d → 2 ≤ d → t.tau.destination = some (d - 1)) ∧
    (∀ d, s.tau.destination = some d → d ≤ 1 → t.tau.destination = none) := by
  have taken := destinationUnit_destination (bucketDistance v)
  rw [trips.bucket_destination] at taken
  rw [items.tau]
  exact taken

theorem unit_items : DistanceItems s t := by
  refine items.items s ?_
  rw [(destinationUnit_only _).svs_eq (by decide), (bucketDistance_only v).svs_eq (by decide), trips.svs]

theorem unit_counted : DistanceCounted s t := by
  obtain ⟨room, full⟩ := unit_bucket trips items
  obtain ⟨none, far, near⟩ := unit_destination trips items
  have tau := unit_tau trips items
  refine ⟨(congrArg Tau.odometer tau :), (congrArg Tau.accInvalid tau :), fun i => ?_,
    fun i => unit_told trips items, unit_marked trips items, ?_, room, fun fills => ?_, none, far,
    fun d given d1 => ⟨near d given d1, unit_arrival trips items given d1⟩, unit_items trips items⟩
  · have counted : t.tau.trips = mapAll Trip.takeDistance s.tau.trips := (congrArg Tau.trips tau :)
    rw [counted, mapAll_get]
    rfl
  · rintro (fills | given)
    · exact (full fills).2.2
    · exact unit_destination_marked trips items given
  · obtain ⟨zero, pushed, -⟩ := full fills
    exact ⟨zero, pushed⟩

end

theorem tauDistance_counted (s : State) : DistanceCounted s (tauDistance s) :=
  unit_counted (tripsCounted s) (itemsCounted _)

/-- The counts read the records, the items, the entries' flags, the mask and the nodes alone. -/
theorem DistanceCounted.of_same {s u t : State} (same : SameCounts s u) (h : DistanceCounted u t) :
    DistanceCounted s t := by
  have record {α : Type} (get : Tau → α) : get u.tau.records = get s.tau.records := congrArg get same.records
  have marked {i : MirrorItem} (m : Marked i u t) : Marked i s t := .of_frame same.line same.nodes m
  have trips : u.tau.trips = s.tau.trips := record Tau.trips
  have length : u.tau.fuel = s.tau.fuel := record Tau.fuel
  have destination : u.tau.destination = s.tau.destination := record Tau.destination
  have ring : u.tau.ring = s.tau.ring := record Tau.ring
  have bucket : grown u = grown s := congrArg (fun b : Bucket => { b with distance := b.distance + 1 }) (record Tau.bucket)
  obtain ⟨odometer, invalid, counted, told, passenger, close, room, full, none, far, near, items⟩ := h
  rw [trips, same.mask] at told
  rw [trips] at counted passenger
  rw [length, bucket, destination] at close
  rw [length, bucket, ring] at room full
  rw [destination] at none far near
  refine ⟨odometer.trans (congrArg (fun n => (n + 1) % 10000000) (record Tau.odometer)),
    invalid.trans (record fun u => if u.odometerState = .invalid then min (u.accInvalid + 1) 9999999 else u.accInvalid),
    counted, told, fun opened below => marked (passenger opened below), fun moves => marked (close moves), room, full,
    none, far, fun d given d1 => ?_, fun i => ?_⟩
  · obtain ⟨gone, pending, arrived⟩ := near d given d1
    refine ⟨gone, fun w enabled arrival => pending w ?_ ?_, by rw [← same.mask]; exact arrived⟩
    · rw [(same.flags w).1]
      exact enabled
    · rw [(same.flags w).1]
      exact arrival
  · rw [← same.items]
    exact items i

/-! ## The edges -/

section
variable (s : State)

theorem roadEdge_pcu : (roadEdge s).pcu = { s.pcu with
    roadResidue := if s.pcu.roadResidue + 1 < s.pcu.cal.kd then s.pcu.roadResidue + 1 else 0 } := by
  unfold roadEdge
  dsimp only
  split_ifs
  · rfl
  · rw [(tauDistance_only _).pcu_eq (by decide)]
    rfl
  · rfl

theorem checkEdge_pcu : (checkEdge s).pcu = { s.pcu with
    checkResidue := if s.pcu.checkResidue + 1 < s.pcu.cal.kd2 then s.pcu.checkResidue + 1 else 0 } := by
  unfold checkEdge
  dsimp only
  split_ifs
  · rfl
  · rw [(tauDistance_only _).pcu_eq (by decide)]
    rfl
  · rfl

/-- What an edge at a divider does: it counts a distance unit or leaves everything a unit counts (R13, R48). -/
def CountsOrStays (unit : Prop) (s t : State) : Prop := (unit → DistanceCounted s t) ∧ (¬ unit → NoDistance s t)

theorem roadEdge_counts {s u : State} (same : SameCounts s u) :
    CountsOrStays (u.pcu.cal.kd ≤ u.pcu.roadResidue + 1 ∧ u.pcu.unitCounts .ch0 = true) s (roadEdge u) := by
  have residue (f : Pcu → Pcu) : SameCounts s (u.modPcu f) := same.trans (.modPcu f u)
  unfold CountsOrStays roadEdge
  dsimp only
  split_ifs with short counts
  · exact ⟨fun unit => absurd unit.1 (by omega), fun _ => (residue _).noDistance⟩
  · exact ⟨fun _ => (tauDistance_counted _).of_same (residue _), fun no => absurd ⟨by omega, counts⟩ no⟩
  · exact ⟨fun unit => absurd unit.2 counts, fun _ => (residue _).noDistance⟩

theorem checkEdge_counts {s u : State} (same : SameCounts s u) :
    CountsOrStays (u.pcu.cal.kd2 ≤ u.pcu.checkResidue + 1 ∧ u.pcu.unitCounts .ch4 = true) s (checkEdge u) := by
  have residue (f : Pcu → Pcu) : SameCounts s (u.modPcu f) := same.trans (.modPcu f u)
  unfold CountsOrStays checkEdge
  dsimp only
  split_ifs with short counts
  · exact ⟨fun unit => absurd unit.1 (by omega), fun _ => (residue _).noDistance⟩
  · exact ⟨fun _ => (tauDistance_counted _).of_same (residue _), fun no => absurd ⟨by omega, counts⟩ no⟩
  · exact ⟨fun unit => absurd unit.2 counts, fun _ => (residue _).noDistance⟩

/-- An edge leaves FAULT to the channel, and brings none to it (R4). -/
theorem Channel.edge_fault (at10us : Nat) (c : Channel) : (c.edge at10us).state = .fault ↔ c.state = .fault := by
  have state : (c.edge at10us).state = if c.state = .still then .live else c.state := rfl
  rw [state]
  cases c.state <;> decide

theorem changeChannel_roadResidue (ch : ChannelIx) (f : Channel → Channel) :
    (changeChannel ch f s).pcu.roadResidue = s.pcu.roadResidue :=
  (congrArg Pcu.roadResidue (changeChannel_pcu_keeps ch f s) :)

theorem changeChannel_checkResidue (ch : ChannelIx) (f : Channel → Channel) :
    (changeChannel ch f s).pcu.checkResidue = s.pcu.checkResidue :=
  (congrArg Pcu.checkResidue (changeChannel_pcu_keeps ch f s) :)

theorem unitCounts_edge {src : RoadSource} {ch : ChannelIx} (taken : src.channel = ch) (at10us : Nat) :
    (changeChannel ch (Channel.edge at10us) s).pcu.unitCounts src = true ↔
      s.pcu.roadSource = src ∧ s.pcu.channels[ch].state ≠ .fault := by
  subst taken
  have source : (changeChannel src.channel (Channel.edge at10us) s).pcu.roadSource = s.pcu.roadSource :=
    (congrArg Pcu.roadSource (changeChannel_pcu_keeps _ _ s) :)
  unfold Pcu.unitCounts
  rw [Bool.and_eq_true, decide_eq_true_iff, decide_eq_true_iff, source, changeChannel_channels, updAt_get_same]
  exact and_congr_right fun _ => not_congr (Channel.edge_fault at10us _)

end

/-- Settles O28: the divider's unit reaches the odometer, the trips, the bucket, the destination and the items in turn, and
each stage leaves what the others report. -/
theorem roadEdgesCountDistance : Obligations.RoadEdgesCountDistance := by
  unfold Obligations.RoadEdgesCountDistance
  refine ⟨fun i s => tripDistance_lkp i s, fun at10us s supplied => ⟨fun on => ?_, fun on => ?_⟩⟩
  · have counts := roadEdge_counts (.changeChannel 0 (Channel.edge at10us) s)
    rw [unitCounts_edge s (ch := 0) (src := .ch0) rfl at10us, changeChannel_roadResidue, changeChannel_cal] at counts
    refine ⟨roadEdge (changeChannel 0 (Channel.edge at10us) s), exec_pulseEdge supplied at10us on, ?_, ?_, ?_, counts⟩
    · rw [roadEdge_pcu, changeChannel_roadResidue, changeChannel_cal]
    · rw [roadEdge_pcu, changeChannel_checkResidue]
    · rw [roadEdge_pcu, changeChannel_fuelResidue]
  · have counts := checkEdge_counts (.changeChannel 4 (Channel.edge at10us) s)
    rw [unitCounts_edge s (ch := 4) (src := .ch4) rfl at10us, changeChannel_checkResidue, changeChannel_cal] at counts
    refine ⟨checkEdge (changeChannel 4 (Channel.edge at10us) s), exec_pulseEdge supplied at10us on, ?_, ?_, ?_, counts⟩
    · rw [checkEdge_pcu, changeChannel_checkResidue, changeChannel_cal]
    · rw [checkEdge_pcu, changeChannel_roadResidue]
    · rw [checkEdge_pcu, changeChannel_fuelResidue]

end Sys2Proof.Machine
end

section
/-! The chime settings: patterns, privacy and what the outputs sound (R108, R115, R116, R120, R126, R127). -/

namespace Sys2Proof.Machine

-- One theorem at a time, so that a build as one text needs few threads.
set_option Elab.async false

/-! ## A list of fields that all pass -/

theorem mapM_eq_some_iff {α β : Type} {f : α → Option β} {l : List α} {ys : List β} :
    l.mapM f = some ys ↔ List.Forall₂ (fun x y => f x = some y) l ys := by
  induction l generalizing ys with
  | nil => simp [eq_comm]
  | cons x l ih =>
    simp only [List.mapM_cons, Option.bind_eq_bind, Option.bind_eq_some_iff, ih, List.forall₂_cons_left_iff,
      Option.pure_def, Option.some.injEq]
    grind

theorem mapM_eq_none_iff {α β : Type} {f : α → Option β} {l : List α} : l.mapM f = none ↔ ∃ x ∈ l, f x = none := by
  induction l with
  | nil => simp
  | cons x l ih =>
    simp only [List.mapM_cons, Option.bind_eq_bind]
    cases head : f x with
    | none => simp [head]
    | some y =>
      cases tail : l.mapM f with
      | none => simp [head, ih.mp tail]
      | some ys => simpa [head, tail] using fun x' mem => mt (fun bad => ih.mpr ⟨x', mem, bad⟩) (by simp [tail])

theorem mapM_range_eq_some_iff {β : Type} {f : Nat → Option β} {n : Nat} {ys : List β} :
    (List.range n).mapM f = some ys ↔ ys.length = n ∧ ∀ i y, ys[i]? = some y → f i = some y := by
  rw [mapM_eq_some_iff, List.forall₂_iff_get]
  constructor
  · rintro ⟨length, each⟩
    rw [List.length_range] at length
    refine ⟨length.symm, fun i y at_ => ?_⟩
    obtain ⟨bound, rfl⟩ := List.getElem?_eq_some_iff.mp at_
    simpa using each i (by rw [List.length_range]; omega) bound
  · rintro ⟨rfl, each⟩
    refine ⟨List.length_range, fun i _ bound => ?_⟩
    simpa using each i ys[i] (List.getElem?_eq_getElem bound)

/-! ## The fields of SET PATTERN (R126) -/

theorem Pitch.ofCode_eq_none {k : Nat} : Pitch.ofCode k = none ↔ 5 ≤ k := by
  unfold Pitch.ofCode
  split <;> simp
  grind

theorem Passes.ofCode_of_le {k : Nat} (few : k < 16) :
    Passes.ofCode k = some (if k = 0 then .whileActive else .times k) := by
  unfold Passes.ofCode
  split_ifs with zero
  · rfl
  · rw [(within_eq_some (v := k)).mpr ⟨rfl, by omega, by omega⟩]
    rfl

theorem Passes.ofCode_eq_none {k : Nat} (many : 16 ≤ k) : Passes.ofCode k = none := by
  unfold Passes.ofCode
  rw [if_neg (by omega), within_eq_none.mpr (.inr (by omega))]
  rfl

theorem segmentField_eq_some {b : List Byte} {o : Nat} {g : Segment} : segmentField b o = some g ↔
    Pitch.ofCode (u8 b o) = some g.pitch ∧ u8 b (o + 1) = g.duration ∧ 1 ≤ u8 b (o + 1) ∧ u8 b (o + 1) ≤ 255 := by
  obtain ⟨pitch, duration⟩ := g
  unfold segmentField
  cases Pitch.ofCode (u8 b o) with
  | none => simp
  | some p =>
    simp only [Option.bind_eq_bind, Option.bind_some, Option.bind_eq_some_iff, within_eq_some, Option.pure_def,
      Option.some.injEq, Segment.mk.injEq]
    grind

theorem segmentField_eq_none {b : List Byte} {o : Nat} :
    segmentField b o = none ↔ 5 ≤ u8 b o ∨ u8 b (o + 1) = 0 := by
  have byte := u8_lt b (o + 1)
  rw [← Pitch.ofCode_eq_none]
  unfold segmentField
  cases Pitch.ofCode (u8 b o) with
  | none => simp
  | some p =>
    cases fits : within 1 255 (u8 b (o + 1)) with
    | none =>
      have := within_eq_none.mp fits
      simp
      omega
    | some d =>
      have := within_eq_some.mp fits
      simp
      omega

/-- What SET PATTERN is turned down for (R126). -/
def BadPattern (b : List Byte) : Prop := 8 ≤ u8 b 0 ∨ 16 ≤ u8 b 1 ∨ u8 b 2 = 0 ∨ 8 < u8 b 2 ∨
  ∃ i, i < u8 b 2 ∧ (5 ≤ u8 b (3 + 2 * i) ∨ u8 b (4 + 2 * i) = 0)

theorem patternFields_eq_none {b : List Byte} (bad : BadPattern b) : patternFields b = none := by
  unfold patternFields
  cases slot : ixOf 8 (u8 b 0) with
  | none => rfl
  | some p =>
    cases passes : Passes.ofCode (u8 b 1) with
    | none => rfl
    | some passes =>
      cases count : within 1 8 (u8 b 2) with
      | none => rfl
      | some n =>
        obtain ⟨rfl, low, high⟩ := within_eq_some.mp count
        have index := ixOf_eq_some.mp slot
        obtain out | many | zero | over_ | ⟨i, below, field⟩ := bad
        · omega
        · rw [Passes.ofCode_eq_none many] at passes
          exact nomatch passes
        · omega
        · omega
        · have none : (List.range (u8 b 2)).mapM (fun i => segmentField b (3 + 2 * i)) = none := by
            refine mapM_eq_none_iff.mpr ⟨i, List.mem_range.mpr below, segmentField_eq_none.mpr ?_⟩
            rw [show 3 + 2 * i + 1 = 4 + 2 * i by omega]
            exact field
          simp [none]

theorem patternFields_eq_some {b : List Byte} (good : ¬ BadPattern b) {p : PatternIx} {x : Pattern} (slot : u8 b 0 = p)
    (passes : x.passes = if u8 b 1 = 0 then .whileActive else .times (u8 b 1)) (length : x.segments.length = u8 b 2)
    (segments : ∀ (i : Nat) (g : Segment), x.segments[i]? = some g →
      Pitch.ofCode (u8 b (3 + 2 * i)) = some g.pitch ∧ u8 b (4 + 2 * i) = g.duration) :
    patternFields b = some (p, x) := by
  simp only [BadPattern, not_or, Nat.not_le] at good
  obtain ⟨-, few, some_, fits, fields⟩ := good
  have read : (List.range (u8 b 2)).mapM (fun i => segmentField b (3 + 2 * i)) = some x.segments := by
    refine mapM_range_eq_some_iff.mpr ⟨length, fun i g at_ => segmentField_eq_some.mpr ?_⟩
    obtain ⟨bound, -⟩ := List.getElem?_eq_some_iff.mp at_
    obtain ⟨pitch, duration⟩ := segments i g at_
    have byte := u8_lt b (4 + 2 * i)
    have positive : u8 b (4 + 2 * i) ≠ 0 := fun zero => fields ⟨i, by omega, .inr zero⟩
    rw [show 3 + 2 * i + 1 = 4 + 2 * i by omega]
    exact ⟨pitch, duration, by omega, by omega⟩
  unfold patternFields
  rw [ixOf_eq_some.mpr slot, Passes.ofCode_of_le few, within_eq_some.mpr ⟨rfl, by omega, by omega⟩, ← passes]
  simp [read]

/-! ## Privacy (R115, R120, R127) -/

theorem effectiveDestination_eq (privacy : Bool) (r : ChimeRequest) : effectiveDestination privacy r =
    if privacy = true ∧ (r.cls = .advisory ∨ r.cls = .caution)
    then (match r.dest with | .front | .both => some .front | .rear => none) else some r.dest := by
  have shaped : (privacy = true ∧ r.cls ≠ .urgent) ↔ privacy = true ∧ (r.cls = .advisory ∨ r.cls = .caution) := by
    cases r.cls <;> simp
  unfold effectiveDestination
  rw [if_congr shaped rfl rfl]
  split_ifs
  · cases r.dest <;> rfl
  · rfl

theorem mayPlay_eq_false (privacy : Bool) (r : ChimeRequest) : mayPlay privacy r = false ↔
    (privacy = true ∧ (r.cls = .advisory ∨ r.cls = .caution)) ∧ r.dest = .rear := by
  unfold mayPlay
  rw [effectiveDestination_eq]
  split_ifs with shaped
  · cases r.dest <;> simp [shaped]
  · simp [shaped]

section
variable {c : Chs} {on : Bool}

theorem Chs.setPrivacy_of_same (same : c.privacy = on) : c.setPrivacy on = c := if_pos same

theorem Chs.setPrivacy_of_changed (changed : c.privacy ≠ on) : c.setPrivacy on =
    match c.playingRequest with
    | some r => if mayPlay on r then { c with privacy := on } else Chs.choose { c with privacy := on, player := none }
    | none => Chs.chooseIfSilent { c with privacy := on } := by
  unfold Chs.setPrivacy
  rw [if_neg changed]
  rfl

theorem Chs.setPrivacy_frame : { c.setPrivacy on with player := c.player } = { c with privacy := on } := by
  by_cases same : c.privacy = on
  · rw [Chs.setPrivacy_of_same same, ← same]
  · rw [Chs.setPrivacy_of_changed same]
    split
    · split_ifs
      · rfl
      · exact congrArg (fun d : Chs => { d with player := c.player })
          (Chs.choose_frame { c with privacy := on, player := none })
    · exact Chs.chooseIfSilent_frame { c with privacy := on }

theorem Chs.setPrivacy_of_may {r : ChimeRequest} (playing : c.playingRequest = some r) (may : mayPlay on r = true) :
    (c.setPrivacy on).player = c.player := by
  by_cases same : c.privacy = on
  · rw [Chs.setPrivacy_of_same same]
  · rw [Chs.setPrivacy_of_changed same, playing]
    dsimp only
    rw [if_pos may]

/-- What a choice plays is a queued request that may play, at its segment 0 (R116). -/
theorem Chs.choose_player_spec (awake : c.power ≠ .crank) {p : Playing} (plays : c.choose.player = some p) :
    p.segment = 0 ∧ ∃ q ∈ c.queue, q.source = p.source ∧ mayPlay c.privacy q = true := by
  rw [Chs.choose_player_of_not_crank awake, Chs.chosen, Option.bind_eq_some_iff] at plays
  obtain ⟨q, first, started⟩ := plays
  obtain ⟨g, -, rfl⟩ := Option.map_eq_some_iff.mp started
  exact ⟨rfl, q, List.mem_of_find?_eq_some first, rfl, List.find?_some first⟩

/-- A choice among requests whose patterns have segments plays as soon as one may (R116). -/
theorem Chs.choose_player_ne_none (awake : c.power ≠ .crank) (may : ∃ r ∈ c.queue, mayPlay c.privacy r = true)
    (full : ∀ r ∈ c.queue, c.patterns[r.pattern].segments ≠ []) : c.choose.player ≠ none := by
  have first : c.firstPlayable.isSome = true := List.find?_isSome.mpr may
  obtain ⟨q, first⟩ := Option.isSome_iff_exists.mp first
  rw [Chs.choose_player_of_not_crank awake, Chs.chosen, first]
  have mem : q ∈ c.queue := List.mem_of_find?_eq_some first
  simpa [Chs.start] using full q mem

theorem Chs.setPrivacy_of_may_not {r : ChimeRequest} {p : Playing} (changed : c.privacy ≠ on) (awake : c.power ≠ .crank)
    (playing : c.playingRequest = some r) (may : mayPlay on r = false) (plays : (c.setPrivacy on).player = some p) :
    p.segment = 0 ∧ ∃ q ∈ c.queue, q.source = p.source ∧ mayPlay on q = true := by
  rw [Chs.setPrivacy_of_changed changed, playing] at plays
  dsimp only at plays
  rw [may, if_neg Bool.false_ne_true] at plays
  exact Chs.choose_player_spec (c := { c with privacy := on, player := none }) awake plays

theorem Chs.setPrivacy_of_silent (changed : c.privacy ≠ on) (awake : c.power ≠ .crank) (silent : c.player = none)
    (may : ∃ r ∈ c.queue, mayPlay on r = true) (full : ∀ r ∈ c.queue, c.patterns[r.pattern].segments ≠ []) :
    (c.setPrivacy on).player ≠ none := by
  have quiet : c.playingRequest = none := by rw [Chs.playingRequest, silent]; rfl
  rw [Chs.setPrivacy_of_changed changed, quiet]
  dsimp only
  rw [Chs.chooseIfSilent_of_silent (c := { c with privacy := on }) silent]
  exact Chs.choose_player_ne_none (c := { c with privacy := on }) awake may full

end

/-! ## The outputs (R108) -/

theorem Chs.toneOn_of_silent {c : Chs} (silent : c.player = none) (sounds : List Destination) :
    c.toneOn sounds = none := by
  have quiet : c.playingSegment = none := by rw [Chs.playingSegment, silent]; rfl
  rw [Chs.toneOn, quiet]

theorem Chs.toneOn_of_playing {c : Chs} {p : Playing} {r : ChimeRequest} {g : Segment} (plays : c.player = some p)
    (found : c.queue.find? (fun q => decide (q.source = p.source)) = some r)
    (segment : c.patterns[r.pattern].segments[p.segment]? = some g) (out : Destination) :
    c.toneOn [out, .both] = if g.pitch ≠ .rest ∧
      (effectiveDestination c.privacy r = some out ∨ effectiveDestination c.privacy r = some .both)
      then some g.pitch else none := by
  have request : c.playingRequest = some r := by rw [Chs.playingRequest, plays]; exact found
  have playing : c.playingSegment = some g := by rw [Chs.playingSegment, plays, request]; exact segment
  rw [Chs.toneOn, playing, request]
  cases dest : (some r).bind (effectiveDestination c.privacy) with
  | none =>
    rw [Option.bind_some] at dest
    simp [dest]
  | some d =>
    rw [Option.bind_some] at dest
    simp [dest]

/-! ## The requests -/

theorem exec_setPattern {tag : Byte} {body : List Byte} {s : State} (serves : Serves .setPattern tag body s)
    (long : 3 ≤ body.length) (length : body.length = 3 + 2 * u8 body 2) :
    (BadPattern body → exec .setPattern s = .next (turnedDown ReqKind.setPattern.code tag .range s)) ∧
    ∀ (p : PatternIx) (x : Pattern), patternFields body = some (p, x) →
      ((∃ q ∈ s.chs.queue, q.pattern = p) →
        exec .setPattern s = .next (turnedDown ReqKind.setPattern.code tag .busy s)) ∧
      ((∀ q ∈ s.chs.queue, q.pattern ≠ p) →
        exec .setPattern s = .next (answered .setPattern tag []
          ((takeRequest s).modChs fun c => { c with patterns := c.patterns.set p x }))) := by
  have lengthOk : ReqKind.setPattern.lengthOk body = true := by
    simp [ReqKind.lengthOk, countedLength, length]
    omega
  refine ⟨fun bad => served_refuse serves lengthOk ?_, fun p x fields => ⟨fun busy => served_refuse serves lengthOk ?_,
    fun free => served_answer serves lengthOk ?_⟩⟩
  · unfold ownSetPattern
    rw [patternFields_eq_none bad]
    rfl
  · unfold ownSetPattern
    rw [fields]
    refine if_pos ?_
    obtain ⟨q, mem, same⟩ := busy
    exact List.any_eq_true.mpr ⟨q, mem, decide_eq_true same⟩
  · unfold ownSetPattern
    rw [fields]
    refine if_neg fun busy => ?_
    obtain ⟨q, mem, same⟩ := List.any_eq_true.mp busy
    exact free q mem (of_decide_eq_true same)

theorem exec_setPrivacy {tag : Byte} {body : List Byte} {s : State} (serves : Serves .setPrivacy tag body s)
    (length : body.length = 1) :
    (2 ≤ u8 body 0 → exec .setPrivacy s = .next (turnedDown ReqKind.setPrivacy.code tag .range s)) ∧
    ∀ on : Bool, u8 body 0 = on.toNat → exec .setPrivacy s = .next (answered .setPrivacy tag []
      (mark .privacyFlag ((takeRequest s).modChs fun c => c.setPrivacy on))) := by
  have lengthOk : ReqKind.setPrivacy.lengthOk body = true := decide_eq_true length
  refine ⟨fun bad => served_refuse serves lengthOk ?_, fun on flag => served_answer serves lengthOk ?_⟩
  · unfold ownSetPrivacy
    rw [flagOf_eq_none.mpr bad]
    rfl
  · unfold ownSetPrivacy
    rw [flagOf_eq_some.mpr flag]
    rfl

/-- Settles O52: the fields of SET PATTERN, the player under a change of privacy, and the outputs by the effective
destination. -/
theorem chimeSettingsAnswer : Obligations.ChimeSettingsAnswer := by
  unfold Obligations.ChimeSettingsAnswer
  refine ⟨fun tag body s serves long length => ?_, fun tag body s serves length => exec_setPrivacy serves length,
    fun c on => ⟨Chs.setPrivacy_frame, Chs.setPrivacy_of_same, fun r => Chs.setPrivacy_of_may,
      fun r p => Chs.setPrivacy_of_may_not, fun changed awake silent may full => ?_⟩,
    fun privacy r => ⟨effectiveDestination_eq privacy r, mayPlay_eq_false privacy r⟩,
    fun c silent => ⟨Chs.toneOn_of_silent silent _, Chs.toneOn_of_silent silent _⟩,
    fun c p r g plays found segment => ⟨Chs.toneOn_of_playing plays found segment .front,
      Chs.toneOn_of_playing plays found segment .rear⟩, fun x => by cases x <;> rfl⟩
  · obtain ⟨bad, fields⟩ := exec_setPattern serves long length
    exact ⟨bad, fun p x good slot passes count segments => fields p x (patternFields_eq_some good slot passes count segments)⟩
  · obtain ⟨r, mem, may, -⟩ := may
    exact Chs.setPrivacy_of_silent changed awake silent ⟨r, mem, may⟩ full

end Sys2Proof.Machine
end

section
/-! Acknowledgment: one entry, and every entry in turn (R95, R97, R99). -/

namespace Sys2Proof.Machine

-- One theorem at a time, so that a build as one text needs few threads.
set_option Elab.async false

/-! ## What one acknowledgment gives -/

/-- The state an acknowledgment leaves (R99). -/
def Entry.stateAcked (e : Entry) : EntryState :=
  match e.state with
  | .active => if e.cfg.source = .arrival then .idle else .acked
  | .resolved => .idle
  | st => st

/-- The entry an acknowledgment leaves (R95, R99). -/
def Entry.acknowledged (e : Entry) : Entry :=
  let idle := e.state = .resolved ∨ e.cfg.source = .arrival
  { e with
    state := e.stateAcked
    qualifyTimer := if idle then none else e.qualifyTimer
    repeatTimer := if e.state = .active then none else e.repeatTimer
    eventPending := if e.cfg.source = .arrival then false else e.eventPending
    memory := if e.cfg.source = .arrival then false else e.memory }

section
variable {e : Entry}

theorem Entry.acknowledged_active_arrival (active : e.state = .active) (arrival : e.cfg.source = .arrival) :
    e.acknowledged = { e with
      state := .idle, qualifyTimer := none, repeatTimer := none, eventPending := false, memory := false } := by
  simp [Entry.acknowledged, Entry.stateAcked, active, arrival]

theorem Entry.acknowledged_active (active : e.state = .active) (other : e.cfg.source ≠ .arrival) :
    e.acknowledged = { e with state := .acked, repeatTimer := none } := by
  simp [Entry.acknowledged, Entry.stateAcked, active, other]

theorem Entry.acknowledged_resolved_arrival (resolved : e.state = .resolved) (arrival : e.cfg.source = .arrival) :
    e.acknowledged = { e with state := .idle, qualifyTimer := none, eventPending := false, memory := false } := by
  simp [Entry.acknowledged, Entry.stateAcked, resolved, arrival]

theorem Entry.acknowledged_resolved (resolved : e.state = .resolved) (other : e.cfg.source ≠ .arrival) :
    e.acknowledged = { e with state := .idle, qualifyTimer := none } := by
  simp [Entry.acknowledged, Entry.stateAcked, resolved, other]

end

/-- An acknowledgment takes an ACTIVE or a RESOLVED entry (R99). -/
abbrev Entry.Stands (e : Entry) : Prop := e.state = .active ∨ e.state = .resolved

/-- The chimes without the request of an entry that was ACTIVE (R95). -/
def Entry.silenced (w : EntryIx) (e : Entry) (c : Chs) : Chs := if e.state = .active then c.remove (.warning w) else c

/-- The notices of an acknowledgment: one of each change (R97). -/
def Entry.notified (w : EntryIx) (e : Entry) (l : Lkp) : Lkp :=
  if e.state = .active ∧ e.cfg.source = .arrival
  then (l.takeNotice (.warning w .acked)).takeNotice (.warning w .idle)
  else l.takeNotice (.warning w e.stateAcked)

/-- Entry `w` of `s` is acknowledged in `t`. -/
structure Acknowledged (w : EntryIx) (s t : State) : Prop where
  wtb : t.wtb = { s.wtb with entries := s.wtb.entries.set w s.wtb.entries[w].acknowledged }
  chs : t.chs = s.wtb.entries[w].silenced w s.chs
  lkp : t.lkp = s.wtb.entries[w].notified w s.lkp
  marked : s.wtb.entries[w].cfg.mirrorRear = true → Marked .rearWarnings s t

section
variable {w : EntryIx} {s : State}

/-- A change of an entry among the standing states, reported, marks a mirror-rear entry (R97). -/
theorem reportEntry_marked {old new : EntryState} {t : State} (marks : MarksOnly s t)
    (mirrored : t.wtb.entries[w].cfg.mirrorRear = true) (stood : old.standing = true) :
    Marked .rearWarnings s (reportEntry w old new t) := by
  refine marks.then_marked ?_
  have clc : (reportEntry w old new t).clc = t.clc.mark .rearWarnings := by
    rw [reportEntry_clc, if_pos ⟨mirrored, .inl stood⟩]
  intro up n present set
  rw [clc]
  exact marked_mark .rearWarnings t up n present set

/-- An entry set in its place: what the entries read. -/
theorem updAt_eq_set {α : Type} {n : Nat} (v : Vector α n) (i : Fin n) (f : α → α) : updAt v i f = v.set i (f v[i]) := rfl

theorem leaveActive_spec (new : EntryState) :
    (leaveActive w new s).wtb = { s.wtb with
      entries := s.wtb.entries.set w { s.wtb.entries[w] with state := new, repeatTimer := none } } ∧
    (leaveActive w new s).chs = s.chs.remove (.warning w) ∧
    (leaveActive w new s).lkp = s.lkp.takeNotice (.warning w new) ∧
    (s.wtb.entries[w].cfg.mirrorRear = true → Marked .rearWarnings s (leaveActive w new s)) := by
  unfold leaveActive
  dsimp only
  refine ⟨?_, ?_, ?_, fun mirrored => reportEntry_marked ?_ ?_ rfl⟩
  · rw [reportEntry_wtb]
    rfl
  · rw [reportEntry_chs]
    rfl
  · rw [reportEntry_lkp]
    rfl
  · exact (MarksOnly.walk.entry w _ s (by exact fun _ => ⟨rfl, rfl, rfl⟩)).trans (.of_only (modChs_only _ _))
  · change (s.modEntry w _).wtb.entries[w].cfg.mirrorRear = true
    rw [State.modEntry_wtb, updAt_get_same]
    exact mirrored

theorem enterIdle_spec : (enterIdle w s).wtb = { s.wtb with
      entries := s.wtb.entries.set w { s.wtb.entries[w] with state := .idle, qualifyTimer := none } } ∧
    (enterIdle w s).chs = s.chs ∧ (enterIdle w s).lkp = s.lkp.takeNotice (.warning w .idle) ∧
    (s.wtb.entries[w].cfg.mirrorRear = true → s.wtb.entries[w].state.standing = true →
      Marked .rearWarnings s (enterIdle w s)) := by
  unfold enterIdle
  dsimp only
  refine ⟨?_, ?_, ?_, fun mirrored stood => reportEntry_marked ?_ ?_ stood⟩
  · rw [reportEntry_wtb]
    rfl
  · rw [reportEntry_chs]
    rfl
  · rw [reportEntry_lkp]
    rfl
  · exact MarksOnly.walk.entry w _ s (by exact fun _ => ⟨rfl, rfl, rfl⟩)
  · rw [State.modEntry_wtb, updAt_get_same]
    exact mirrored

/-- An entry of another source has no flag to clear; an ARRIVAL entry goes to IDLE from ACKED, and stays in it (R99). -/
theorem clearArrival_of_other (other : s.wtb.entries[w].cfg.source ≠ .arrival) : clearArrival w s = s := if_neg other

/-- The flag of an ARRIVAL entry and its memory are cleared. -/
abbrev arrivalCleared (w : EntryIx) (s : State) : State :=
  s.modEntry w fun e => { e with eventPending := false, memory := false }

theorem clearArrival_of_arrival (arrival : s.wtb.entries[w].cfg.source = .arrival) :
    clearArrival w s = moveEntry w false (arrivalCleared w s) := if_pos arrival

theorem moveEntry_acked (acked : s.wtb.entries[w].state = .acked) : moveEntry w false s = enterIdle w s := by
  unfold moveEntry
  rw [acked]

theorem moveEntry_idle (idle : s.wtb.entries[w].state = .idle) : moveEntry w false s = s := by
  unfold moveEntry
  rw [idle]

theorem acknowledgeEntry_of_idle (still : ¬ s.wtb.entries[w].Stands) : acknowledgeEntry w s = (s, false) := by
  unfold acknowledgeEntry
  cases state : s.wtb.entries[w].state
  case active => exact absurd (.inl state) still
  case resolved => exact absurd (.inr state) still
  all_goals rfl

theorem acknowledgeEntry_active (active : s.wtb.entries[w].state = .active) :
    acknowledgeEntry w s = (clearArrival w (leaveActive w .acked s), true) := by
  unfold acknowledgeEntry
  rw [active]

theorem acknowledgeEntry_resolved (resolved : s.wtb.entries[w].state = .resolved) :
    acknowledgeEntry w s = (clearArrival w (enterIdle w s), true) := by
  unfold acknowledgeEntry
  rw [resolved]

theorem acknowledged_active (active : s.wtb.entries[w].state = .active) :
    Acknowledged w s (clearArrival w (leaveActive w .acked s)) := by
  obtain ⟨wtb, chs, lkp, marked⟩ := leaveActive_spec (w := w) (s := s) .acked
  have entry : (leaveActive w .acked s).wtb.entries[w] =
      { s.wtb.entries[w] with state := .acked, repeatTimer := none } := by
    rw [wtb]
    exact Vector.getElem_set_self w.isLt
  have silenced : s.wtb.entries[w].silenced w s.chs = s.chs.remove (.warning w) := if_pos active
  by_cases arrival : s.wtb.entries[w].cfg.source = .arrival
  · have cleared : (arrivalCleared w (leaveActive w .acked s)).wtb.entries[w].state = .acked := by
      rw [State.modEntry_wtb, updAt_get_same, entry]
    obtain ⟨wtb', chs', lkp', -⟩ := enterIdle_spec (w := w) (s := arrivalCleared w (leaveActive w .acked s))
    rw [clearArrival_of_arrival (by rw [entry]; exact arrival), moveEntry_acked cleared]
    refine ⟨?_, ?_, ?_, fun mirrored => ?_⟩
    · rw [wtb', State.modEntry_wtb]
      dsimp only
      rw [updAt_get_same, updAt_eq_set, entry, wtb]
      dsimp only
      rw [Vector.set_set, Vector.set_set]
      rw [Entry.acknowledged_active_arrival active arrival]
    · rw [chs', State.modEntry_chs, chs, silenced]
    · rw [lkp', State.modEntry_lkp, lkp, Entry.notified, if_pos ⟨active, arrival⟩]
    · exact MarksOnly.marked_then (marked mirrored)
        ((MarksOnly.of_only (modEntry_only _ w _)).trans (MarksOnly.walk.enterIdle w _))
  · rw [clearArrival_of_other (by rw [entry]; exact arrival)]
    refine ⟨?_, ?_, ?_, marked⟩
    · rw [wtb, Entry.acknowledged_active active arrival]
    · rw [chs, silenced]
    · rw [lkp, Entry.notified, if_neg fun both => arrival both.2, Entry.stateAcked, active]
      dsimp only
      rw [if_neg arrival]

theorem acknowledged_resolved (resolved : s.wtb.entries[w].state = .resolved) :
    Acknowledged w s (clearArrival w (enterIdle w s)) := by
  obtain ⟨wtb, chs, lkp, marked⟩ := enterIdle_spec (w := w) (s := s)
  have entry : (enterIdle w s).wtb.entries[w] = { s.wtb.entries[w] with state := .idle, qualifyTimer := none } := by
    rw [wtb]
    exact Vector.getElem_set_self w.isLt
  have active : s.wtb.entries[w].state ≠ .active := by rw [resolved]; decide
  have silenced : s.wtb.entries[w].silenced w s.chs = s.chs := if_neg active
  have notified : s.wtb.entries[w].notified w s.lkp = s.lkp.takeNotice (.warning w .idle) := by
    rw [Entry.notified, if_neg fun both => active both.1, Entry.stateAcked, resolved]
  have stood : s.wtb.entries[w].state.standing = true := by rw [resolved]; rfl
  by_cases arrival : s.wtb.entries[w].cfg.source = .arrival
  · have cleared : (arrivalCleared w (enterIdle w s)).wtb.entries[w].state = .idle := by
      rw [State.modEntry_wtb, updAt_get_same, entry]
    rw [clearArrival_of_arrival (by rw [entry]; exact arrival), moveEntry_idle cleared]
    refine ⟨?_, ?_, ?_, fun mirrored => ?_⟩
    · rw [State.modEntry_wtb, updAt_eq_set, entry, wtb]
      dsimp only
      rw [Vector.set_set, Entry.acknowledged_resolved_arrival resolved arrival]
    · rw [State.modEntry_chs, chs, silenced]
    · rw [State.modEntry_lkp, lkp, notified]
    · exact MarksOnly.marked_then (marked mirrored stood) (.of_only (modEntry_only _ w _))
  · rw [clearArrival_of_other (by rw [entry]; exact arrival)]
    refine ⟨?_, ?_, ?_, fun mirrored => marked mirrored stood⟩
    · rw [wtb, Entry.acknowledged_resolved resolved arrival]
    · rw [chs, silenced]
    · rw [lkp, notified]

/-- An acknowledgment that is counted (R99). -/
theorem acknowledgeEntry_of_stands (stands : s.wtb.entries[w].Stands) :
    (acknowledgeEntry w s).2 = true ∧ Acknowledged w s (acknowledgeEntry w s).1 := by
  rcases stands with active | resolved
  · rw [acknowledgeEntry_active active]
    exact ⟨rfl, acknowledged_active active⟩
  · rw [acknowledgeEntry_resolved resolved]
    exact ⟨rfl, acknowledged_resolved resolved⟩

end

/-! ## Every entry in turn -/

/-- The entries of a list are acknowledged in `p`, counted in its second place. -/
structure AcknowledgedAll (s : State) (l : List EntryIx) (p : State × Nat) : Prop where
  entries : ∀ v : EntryIx, p.1.wtb.entries[v] =
    if v ∈ l ∧ s.wtb.entries[v].Stands then s.wtb.entries[v].acknowledged else s.wtb.entries[v]
  wtb : { p.1.wtb with entries := s.wtb.entries } = s.wtb
  chs : p.1.chs = l.foldl (fun c v => s.wtb.entries[v].silenced v c) s.chs
  lkp : p.1.lkp = l.foldl (fun k v => if s.wtb.entries[v].Stands then s.wtb.entries[v].notified v k else k) s.lkp
  marks : MarksOnly s p.1
  marked : ∀ v ∈ l, s.wtb.entries[v].Stands → s.wtb.entries[v].cfg.mirrorRear = true → Marked .rearWarnings s p.1
  count : p.2 = l.countP fun v => decide s.wtb.entries[v].Stands

/-- One entry's acknowledgment, and its count. -/
def acknowledgeNext (p : State × Nat) (w : EntryIx) : State × Nat :=
  ((acknowledgeEntry w p.1).1, p.2 + (acknowledgeEntry w p.1).2.toNat)

section
variable {s : State} {l : List EntryIx} {p : State × Nat} {w : EntryIx}

theorem AcknowledgedAll.nil (s : State) : AcknowledgedAll s [] (s, 0) where
  entries _ := (if_neg fun both => nomatch both.1).symm
  wtb := rfl
  chs := rfl
  lkp := rfl
  marks := .refl s
  marked _ mem := nomatch mem
  count := rfl

theorem AcknowledgedAll.next (h : AcknowledgedAll s l p) (new : w ∉ l) :
    AcknowledgedAll s (l ++ [w]) (acknowledgeNext p w) := by
  have own : p.1.wtb.entries[w] = s.wtb.entries[w] := by rw [h.entries, if_neg fun both => new both.1]
  unfold acknowledgeNext
  by_cases stands : s.wtb.entries[w].Stands
  · obtain ⟨counted, taken⟩ := acknowledgeEntry_of_stands (s := p.1) (w := w) (by rw [own]; exact stands)
    have marks : MarksOnly p.1 (acknowledgeEntry w p.1).1 := MarksOnly.walk.acknowledgeEntry w p.1
    have acked := taken.wtb
    rw [own] at acked
    refine ⟨fun v => ?_, ?_, ?_, ?_, h.marks.trans marks, fun v mem stood mirrored => ?_, ?_⟩
    · rw [acked]
      dsimp only
      by_cases same : w = v
      · subst same
        rw [if_pos ⟨List.mem_append_right l (List.mem_singleton_self w), stands⟩]
        exact Vector.getElem_set_self w.isLt
      · have inner : v ∈ l ++ [w] ↔ v ∈ l := by simp [Ne.symm same]
        rw [if_congr (and_congr_left' inner) rfl rfl, ← h.entries]
        exact Vector.getElem_set_ne w.isLt v.isLt fun val => same (Fin.ext val)
    · rw [acked]
      exact h.wtb
    · rw [taken.chs, own, List.foldl_append, ← h.chs]
      rfl
    · rw [taken.lkp, own, List.foldl_append, ← h.lkp]
      exact (if_pos stands).symm
    · rcases List.mem_append.mp mem with before | last
      · exact MarksOnly.marked_then (h.marked v before stood mirrored) marks
      · obtain rfl := List.mem_singleton.mp last
        exact h.marks.then_marked (taken.marked (by rw [own]; exact mirrored))
    · rw [counted, h.count, List.countP_append, List.countP_singleton, if_pos (decide_eq_true stands)]
      rfl
  · rw [acknowledgeEntry_of_idle (by rw [own]; exact stands)]
    have notActive : s.wtb.entries[w].state ≠ .active := fun active => stands (.inl active)
    refine ⟨fun v => ?_, h.wtb, ?_, ?_, h.marks, fun v mem stood mirrored => ?_, ?_⟩
    · rw [h.entries]
      refine if_congr ⟨fun both => ⟨List.mem_append_left _ both.1, both.2⟩, fun both => ⟨?_, both.2⟩⟩ rfl rfl
      rcases List.mem_append.mp both.1 with before | last
      · exact before
      · obtain rfl := List.mem_singleton.mp last
        exact absurd both.2 stands
    · rw [List.foldl_append, ← h.chs]
      exact (if_neg notActive).symm
    · rw [List.foldl_append, ← h.lkp]
      exact (if_neg stands).symm
    · rcases List.mem_append.mp mem with before | last
      · exact h.marked v before stood mirrored
      · obtain rfl := List.mem_singleton.mp last
        exact absurd stood stands
    · rw [h.count, List.countP_append, List.countP_singleton, if_neg (by simpa using stands)]
      rfl

theorem acknowledgedAll (s : State) (l : List EntryIx) (once : l.Nodup) :
    AcknowledgedAll s l (l.foldl acknowledgeNext (s, 0)) := by
  induction l using List.reverseRecOn with
  | nil => exact .nil s
  | append_singleton l w ih =>
    obtain ⟨before, -, apart⟩ := List.nodup_append.mp once
    rw [List.foldl_append]
    exact (ih before).next fun mem => apart w mem w (List.mem_singleton_self w) rfl

end

theorem acknowledgeWhere_all (s : State) :
    acknowledgeWhere (fun w _ => (none : Option EntryIx).all fun x => x = w) s =
      (List.finRange 32).foldl acknowledgeNext (s, 0) := rfl

theorem acknowledgeWhere_acknowledged (s : State) : ∃ q,
    acknowledgeWhere (fun w _ => (none : Option EntryIx).all fun x => x = w) s = q ∧
      AcknowledgedAll s (List.finRange 32) q :=
  ⟨_, acknowledgeWhere_all s, acknowledgedAll s _ (List.nodup_finRange 32)⟩

theorem AcknowledgedAll.wtb_eq {s : State} {q : State × Nat} (all : AcknowledgedAll s (List.finRange 32) q) :
    q.1.wtb = { s.wtb with entries := Vector.ofFn fun w =>
      if s.wtb.entries[w].Stands then s.wtb.entries[w].acknowledged else s.wtb.entries[w] } := by
  have entries : q.1.wtb.entries = Vector.ofFn fun w =>
      if s.wtb.entries[w].Stands then s.wtb.entries[w].acknowledged else s.wtb.entries[w] := by
    refine Vector.ext fun i bound => ?_
    rw [Vector.getElem_ofFn]
    exact (all.entries ⟨i, bound⟩).trans (if_congr (and_iff_right (List.mem_finRange _)) rfl rfl)
  rw [← entries, ← all.wtb]

theorem acknowledgeWhere_one (w : EntryIx) (s : State) :
    acknowledgeWhere (fun v _ => (some w).all fun x => x = v) s = acknowledgeNext (s, 0) w := by
  have filtered : (List.finRange 32).filter (fun v => decide (w = v)) = [w] := by
    have same : (fun v => decide (w = v)) = (· == w) := funext fun v => by
      rw [Bool.eq_iff_iff, decide_eq_true_iff, beq_iff_eq, eq_comm]
    rw [same, List.filter_beq, (List.nodup_finRange 32).count, if_pos (List.mem_finRange w)]
    rfl
  change (List.finRange 32).foldl (fun p v => if decide (w = v) = true then acknowledgeNext p v else p) (s, 0) = _
  rw [← List.foldl_filter, filtered]
  rfl

theorem acknowledgeWhere_one_of_idle {w : EntryIx} {s : State} (still : ¬ s.wtb.entries[w].Stands) :
    acknowledgeWhere (fun v _ => (some w).all fun x => x = v) s = (s, 0) := by
  rw [acknowledgeWhere_one, acknowledgeNext, acknowledgeEntry_of_idle still]
  rfl

theorem acknowledgeWhere_one_of_stands {w : EntryIx} {s : State} (stands : s.wtb.entries[w].Stands) : ∃ t,
    acknowledgeWhere (fun v _ => (some w).all fun x => x = v) s = (t, 1) ∧ Acknowledged w s t ∧
      OnlyChanges [.wtb, .chs, .clc, .lkp] s t := by
  obtain ⟨counted, acked⟩ := acknowledgeEntry_of_stands stands
  refine ⟨(acknowledgeEntry w s).1, ?_, acked, (ByProducts.acknowledgeEntry w s).only⟩
  rw [acknowledgeWhere_one, acknowledgeNext, counted]
  rfl

/-! ## The request -/

section
variable {tag : Byte} {body : List Byte} {s : State}

theorem acknowledgeField_eq_some {k : Nat} {o : Option EntryIx} :
    acknowledgeField k = some o ↔ k = o.elim 0xFF Fin.val := optionalOf_ixOf_eq_some (by decide)

theorem exec_acknowledge {o : Option EntryIx} (serves : Serves .acknowledge tag body s) (length : body.length = 1)
    (field : u8 body 0 = o.elim 0xFF Fin.val) {t : State} {n : Nat} {b : Byte} (count : byteOf n = b)
    (taken : acknowledgeWhere (fun w _ => o.all fun x => x = w) (takeRequest s) = (t, n)) :
    exec .acknowledge s = .next (answered .acknowledge tag [b] t) := by
  refine served_answer serves (decide_eq_true length) ?_
  unfold ownAcknowledge
  rw [acknowledgeField_eq_some.mpr field, ← count]
  change ((acknowledgeWhere (fun w _ => o.all fun x => x = w) (takeRequest s)).1,
    Response.answer (be1 (acknowledgeWhere (fun w _ => o.all fun x => x = w) (takeRequest s)).2)) = _
  rw [taken]
  rfl

theorem exec_acknowledge_bad (serves : Serves .acknowledge tag body s) (length : body.length = 1)
    (out : 32 ≤ u8 body 0) (other : u8 body 0 ≠ 0xFF) :
    exec .acknowledge s = .next (turnedDown ReqKind.acknowledge.code tag .range s) := by
  refine served_refuse serves (decide_eq_true length) ?_
  have none : acknowledgeField (u8 body 0) = none := by
    rw [Option.eq_none_iff_forall_ne_some]
    intro o field
    rw [acknowledgeField_eq_some] at field
    cases o with
    | none => exact other field
    | some w => exact absurd field (ne_of_gt (Nat.lt_of_lt_of_le w.isLt out))
  unfold ownAcknowledge
  rw [none]
  rfl

end

/-- Settles O46: one acknowledgment, and the fold over the entries in their order. -/
theorem acknowledgeAnswers : Obligations.AcknowledgeAnswers := by
  unfold Obligations.AcknowledgeAnswers
  intro tag body s serves length
  refine ⟨fun out other => exec_acknowledge_bad serves length out other, fun w field => ⟨fun still => ?_, fun stands => ?_⟩,
    fun field => ?_⟩
  · exact exec_acknowledge (o := some w) serves length field rfl (acknowledgeWhere_one_of_idle (s := takeRequest s) still)
  · obtain ⟨t, taken, acked, only⟩ := acknowledgeWhere_one_of_stands (s := takeRequest s) stands
    exact ⟨t, exec_acknowledge (o := some w) serves length field rfl taken,
      ((takeRequest_only s).mono (by decide)).trans only, acked.wtb, acked.chs, acked.marked, acked.lkp⟩
  · obtain ⟨q, taken, all⟩ := acknowledgeWhere_acknowledged (takeRequest s)
    refine ⟨q.1, ?_, ?_, fun w stands mirrored => all.marked w (List.mem_finRange w) stands mirrored, all.lkp, all.chs,
      all.wtb_eq⟩
    · exact exec_acknowledge (o := none) serves length field (by rw [all.count]; rfl) taken
    · rw [← taken]
      exact ((takeRequest_only s).mono (by decide)).trans (ByProducts.acknowledgeWhere _ _).only

end Sys2Proof.Machine
end

section
/-! The arbiter's choice and the frames it sends; the marks and the contents of the mirror items (R144, R150, R151, R154,
R155, R156, R163). -/

namespace Sys2Proof.Machine

-- One theorem at a time, so that a build as one text needs few threads.
set_option Elab.async false

/-! ## A mark (R154, R155) -/

/-- A mark of an item appends a node's pair. -/
abbrev Clc.Takes (item : MirrorItem) (c : Clc) (n : NodeIx) : Prop :=
  c.nodes[n].state = .present ∧ (c.line = .running ∨ c.line = .backoff) ∧
    c.nodes[n].mirrorSet.getLsbD item.code = true ∧ (n, item) ∉ c.mirrorQueue

/-- One node's turn in a mark. -/
abbrev markNode (item : MirrorItem) (c : Clc) (n : NodeIx) : Clc :=
  if c.nodes[n].shows item then c.appendPair item n else c

theorem LineState.up_iff (l : LineState) : l.up = true ↔ l = .running ∨ l = .backoff := by
  cases l <;> decide

theorem markNode_eq (item : MirrorItem) (c : Clc) (n : NodeIx) : markNode item c n =
    if c.Takes item n then { c with mirrorQueue := c.mirrorQueue ++ [(n, item)] } else c := by
  unfold markNode Clc.appendPair
  by_cases shown : c.nodes[n].shows item = true
  · rw [if_pos shown]
    refine if_congr ?_ rfl rfl
    rw [LineState.up_iff]
    exact and_congr_right fun _ => and_congr_right fun _ => (and_iff_right shown).symm
  · rw [if_neg shown, if_neg fun takes => shown takes.2.2.1]

theorem takenPair (item : MirrorItem) (c : Clc) (n : NodeIx) :
    ([n].filter fun n => decide (c.Takes item n)).map (fun n => (n, item)) = if c.Takes item n then [(n, item)] else [] := by
  by_cases takes : c.Takes item n
  · rw [if_pos takes, List.filter_cons, if_pos (decide_eq_true takes)]
    rfl
  · rw [if_neg takes, List.filter_cons, if_neg fun holds => takes (of_decide_eq_true holds)]
    rfl

/-- The nodes' turns in a mark append the pairs of those that take it, in order. -/
theorem foldl_markNode (item : MirrorItem) (c : Clc) (l : List NodeIx) (once : l.Nodup) :
    l.foldl (markNode item) c = { c with
      mirrorQueue := c.mirrorQueue ++ (l.filter fun n => decide (c.Takes item n)).map fun n => (n, item) } := by
  induction l using List.reverseRecOn with
  | nil => simp
  | append_singleton l n ih =>
    obtain ⟨before, -, apart⟩ := List.nodup_append.mp once
    have new : n ∉ l := fun mem => apart n mem n (List.mem_singleton_self n) rfl
    rw [List.foldl_append, List.foldl_cons, List.foldl_nil, ih before, markNode_eq, List.filter_append,
      List.map_append]
    have same : Clc.Takes item { c with
        mirrorQueue := c.mirrorQueue ++ (l.filter fun n => decide (c.Takes item n)).map fun n => (n, item) } n ↔
        c.Takes item n := by
      have waits : (n, item) ∉ (l.filter fun n => decide (c.Takes item n)).map fun n => (n, item) := by
        simp [new]
      simp only [Clc.Takes, List.mem_append, not_or]
      grind
    rw [if_congr same rfl rfl, takenPair]
    split_ifs
    · rw [List.append_assoc]
    · rw [List.append_nil]

theorem mark_eq (item : MirrorItem) (s : State) : mark item s = s.modClc fun c => { c with
    mirrorQueue := c.mirrorQueue ++
      ((List.finRange 6).filter fun n => decide (c.Takes item n)).map fun n => (n, item) } :=
  congrArg (fun f => s.modClc f) (funext fun c => foldl_markNode item c _ (List.nodup_finRange 6))

/-! ## The contents (Table 43, Table 69) -/

/-- The contents read everything but the Coach Line's work and the Link Port. -/
theorem mirrorContent_congr {s u : State} (only : OnlyChanges [.clc, .lkp] s u)
    (outside : u.clc.outsideSlot = s.clc.outsideSlot) (live : u.clc.roadLive = s.clc.roadLive)
    (speed : u.clc.roadSpeed = s.clc.roadSpeed) (item : MirrorItem) : mirrorContent u item = mirrorContent s item := by
  have rear : u.wtb.rearStanding = s.wtb.rearStanding := by rw [only.wtb_eq (by decide)]
  have clk : u.clk = s.clk := only .clk (by decide)
  have chs : u.chs = s.chs := only .chs (by decide)
  have free : u.free = s.free := only .free (by decide)
  cases item
  case outsideTemp =>
    unfold mirrorContent
    rw [outside, only.gdu_eq (by decide), free]
  case roadSpeed =>
    unfold mirrorContent
    rw [live, speed]
  case rearWarnings =>
    unfold mirrorContent
    rw [rear]
  all_goals
    unfold mirrorContent
    simp only [clk, chs, only.tau_eq (by decide)]

/-! ## The frames (R144, R151, R156, R163) -/

theorem checkByte_zero : checkByte [byteOf 0] = 0 := by decide

theorem txnFrame_poll (n : NodeIx) (s : State) : txnFrame s (.poll n) = [byteOf s.clc.nodes[n].address, 0x00, 0x00] := by
  have tail : masterFrame s.clc.nodes[n].address .poll [] =
      [byteOf (s.clc.nodes[n].address + 32 * 0), byteOf 0, checkByte [byteOf 0]] := rfl
  rw [txnFrame, tail, checkByte_zero]
  rfl

theorem txnFrame_mirror (n : NodeIx) (item : MirrorItem) (s : State) : txnFrame s (.mirror n item) =
    masterFrame s.clc.nodes[n].address .mirror (byteOf item.code :: mirrorContent s item) := rfl

/-- A transaction of a kind with its frame is being sent. -/
def Sends (k : TxnKind) (frame : List Byte) (t : State) : Prop :=
  t.clc.txn = some { kind := k, frame, phase := .sending }

theorem startTxn_sends (k : TxnKind) (s : State) : Sends k (txnFrame s k) (startTxn k s) := rfl

section
variable {k : TxnKind} {frame : List Byte} {t : State} (sends : Sends k frame t)
include sends

theorem Sends.kind_eq : t.clc.txn.map (fun t => (t.kind, t.phase)) = some (k, .sending) := by
  rw [sends]
  rfl

theorem Sends.frame_eq : t.clc.txn.map (fun t => t.frame) = some frame := by
  rw [sends]
  rfl

end

/-! ## The due poll, and the mirror queue (R150) -/

theorem Clc.firstDue_of_due {c : Clc} {n : NodeIx} (due : c.nodes[n].due = true)
    (first : ∀ m : NodeIx, m < n → c.nodes[m].due = false) : c.firstDue = some n := by
  unfold Clc.firstDue
  rw [List.find?_eq_some_iff_getElem]
  refine ⟨due, n.val, by rw [List.length_finRange]; exact n.isLt, List.getElem_finRange _, fun j below => ?_⟩
  rw [List.getElem_finRange]
  simpa using first ⟨j, by omega⟩ below

theorem Clc.firstDue_of_none {c : Clc} (quiet : ∀ m : NodeIx, c.nodes[m].due = false) : c.firstDue = none :=
  List.find?_eq_none.mpr fun m _ => by rw [quiet m]; exact Bool.false_ne_true

/-- Between two states the Coach Line differs by its held work alone: the pass-through and the retry. -/
structure SameWork (s u : State) : Prop where
  only : OnlyChanges [.clc, .lkp] s u
  clc : { u.clc with pass := s.clc.pass, retry := s.clc.retry } = s.clc

section
variable {s u : State} (same : SameWork s u)
include same

theorem SameWork.nodes_eq : u.clc.nodes = s.clc.nodes := (congrArg Clc.nodes same.clc :)

theorem SameWork.queue_eq : u.clc.mirrorQueue = s.clc.mirrorQueue := (congrArg Clc.mirrorQueue same.clc :)

theorem SameWork.txn_eq : u.clc.txn = s.clc.txn := (congrArg Clc.txn same.clc :)

theorem SameWork.content (item : MirrorItem) : mirrorContent u item = mirrorContent s item :=
  mirrorContent_congr same.only (congrArg Clc.outsideSlot same.clc :) (congrArg Clc.roadLive same.clc :)
    (congrArg Clc.roadSpeed same.clc :) item

end

/-- What the third and the fourth choice start (R150). -/
def ChoosesWork (s t : State) : Prop :=
  (∀ n : NodeIx, s.clc.nodes[n].due = true → (∀ m : NodeIx, m < n → s.clc.nodes[m].due = false) →
    Sends (.poll n) [byteOf s.clc.nodes[n].address, 0x00, 0x00] t ∧ t.clc.nodes[n].due = false) ∧
  (∀ n item rest, (∀ m : NodeIx, s.clc.nodes[m].due = false) → s.clc.mirrorQueue = (n, item) :: rest →
    Sends (.mirror n item) (masterFrame s.clc.nodes[n].address .mirror (byteOf item.code :: mirrorContent s item)) t ∧
      t.clc.mirrorQueue = rest) ∧
  ((∀ m : NodeIx, s.clc.nodes[m].due = false) → s.clc.mirrorQueue = [] → t.clc.txn = s.clc.txn)

section
variable {s u : State}

theorem chooseWork_poll {n : NodeIx} (due : u.clc.firstDue = some n) :
    chooseWork u = startTxn (.poll n) (u.modNode n fun nd => { nd with due := false }) := by
  unfold chooseWork
  rw [due]

theorem chooseWork_mirror {n : NodeIx} {item : MirrorItem} {rest : List (NodeIx × MirrorItem)} (quiet : u.clc.firstDue = none)
    (queue : u.clc.mirrorQueue = (n, item) :: rest) :
    chooseWork u = startTxn (.mirror n item) (u.modClc fun c => { c with mirrorQueue := rest }) := by
  unfold chooseWork
  rw [quiet, queue]

theorem chooseWork_nothing (quiet : u.clc.firstDue = none) (queue : u.clc.mirrorQueue = []) : chooseWork u = u := by
  unfold chooseWork
  rw [quiet, queue]

theorem chooseWork_chooses (same : SameWork s u) : ChoosesWork s (chooseWork u) := by
  have nodes := same.nodes_eq
  refine ⟨fun n due first => ?_, fun n item rest quiet queue => ?_, fun quiet queue => ?_⟩
  · rw [← nodes] at due first
    rw [chooseWork_poll (Clc.firstDue_of_due due first)]
    have node : (u.modNode n fun nd => { nd with due := false }).clc.nodes[n] =
        { u.clc.nodes[n] with due := false } := updAt_get_same _ n _
    have frame : txnFrame (u.modNode n fun nd => { nd with due := false }) (.poll n) =
        [byteOf s.clc.nodes[n].address, 0x00, 0x00] := by
      rw [txnFrame_poll, node, nodes]
    refine ⟨?_, congrArg Node.due node⟩
    rw [← frame]
    exact startTxn_sends _ _
  · rw [← same.queue_eq] at queue
    have first : u.clc.firstDue = none := Clc.firstDue_of_none fun m => by rw [nodes]; exact quiet m
    rw [chooseWork_mirror first queue]
    have content : mirrorContent (u.modClc fun c => { c with mirrorQueue := rest }) item = mirrorContent s item :=
      (mirrorContent_congr (s := u) ((modClc_only u _).mono (by decide)) rfl rfl rfl item).trans (same.content item)
    have frame : txnFrame (u.modClc fun c => { c with mirrorQueue := rest }) (.mirror n item) =
        masterFrame s.clc.nodes[n].address .mirror (byteOf item.code :: mirrorContent s item) := by
      rw [txnFrame_mirror, content, ← nodes]
      rfl
    refine ⟨?_, rfl⟩
    rw [← frame]
    exact startTxn_sends _ _
  · rw [← same.queue_eq] at queue
    rw [chooseWork_nothing (Clc.firstDue_of_none fun m => by rw [nodes]; exact quiet m) queue, same.txn_eq]

end

/-! ## The arbiter's choice (R150, R163) -/

/-- The frame of a pass-through: to the target, or to every node with the target's address before the data (R163). -/
def passThroughFrame (address : Nat) (p : PassThrough) : List Byte :=
  if p.nodeAlias = 0 then masterFrame 31 .passWrite (byteOf address :: p.data)
  else masterFrame address (match p.kind with | .read => .passRead | .write => .passWrite) p.data

/-- A pass-through starts (R163). -/
def StartsPass (s : State) (n : NodeIx) (p : PassThrough) (t : State) : Prop :=
  Sends (.pass n) (passThroughFrame s.clc.nodes[n].address p) t ∧ t.clc.pass = some { p with phase := .inFlight } ∧
    t.clc.retry = none

/-- A pass-through is answered with ABSENT, and the next work is chosen (R163). -/
def AnswersAbsent (s : State) (p : PassThrough) (t : State) : Prop :=
  ChoosesWork s t ∧ t.clc.pass = none ∧
    t.lkp.replies.map Reply.content =
      s.lkp.replies.map Reply.content ++ [(ReplyEntry.reserved, 0x7F, p.tag, [0x0A, 0x39])] ∧
    t.clc.retry = none

section
variable {s u : State}

theorem chooseWork_pass (s : State) : (chooseWork s).clc.pass = s.clc.pass := by
  unfold chooseWork
  split <;> rfl

theorem chooseWork_retry (s : State) : (chooseWork s).clc.retry = s.clc.retry := by
  unfold chooseWork
  split <;> rfl

theorem endPass_sameWork (resp : Response) (u : State) : SameWork u (endPass resp u) := by
  exact ⟨endPass_only u resp, by rw [endPass_clc]⟩

theorem endPass_absent {p : PassThrough} (held : u.clc.pass = some p) :
    (endPass (.refuse .absent) u).lkp.replies.map Reply.content =
      u.lkp.replies.map Reply.content ++ [(ReplyEntry.reserved, 0x7F, p.tag, [0x0A, 0x39])] := by
  rw [(endPass_refuse u .absent).2, held]
  dsimp only
  rw [List.map_append]
  rfl

theorem chooseWork_absent {p : PassThrough} (same : SameWork s u) (lkp : u.lkp = s.lkp) (held : u.clc.pass = some p)
    (retry : u.clc.retry = none) : AnswersAbsent s p (chooseWork (endPass (.refuse .absent) u)) := by
  have ended := endPass_sameWork (.refuse .absent) u
  have later : SameWork s (endPass (.refuse .absent) u) := by
    refine ⟨same.only.trans ended.only, ?_⟩
    rw [← same.clc, ← ended.clc]
  refine ⟨chooseWork_chooses later, ?_, ?_, ?_⟩
  · rw [chooseWork_pass]
    exact (endPass_refuse u .absent).1
  · rw [(chooseWork_only _).lkp_eq (by decide), endPass_absent held, lkp]
  · rw [chooseWork_retry]
    rw [endPass_clc]
    exact retry

theorem startPass_starts {p : PassThrough} {n : NodeIx} (same : SameWork s u) (held : u.clc.pass = some p)
    (retry : u.clc.retry = none) (present : u.clc.nodes[n].state = .present) : StartsPass s n p (startPass n u) := by
  have started : startPass n u = startTxn (.pass n) (setPassPhase .inFlight u) := if_pos present
  have pass : (setPassPhase .inFlight u).clc.pass = some { p with phase := .inFlight } := by
    change u.clc.pass.map _ = _
    rw [held]
    rfl
  have frame : txnFrame (setPassPhase .inFlight u) (.pass n) = passThroughFrame s.clc.nodes[n].address p := by
    rw [txnFrame, pass, ← same.nodes_eq]
    rfl
  rw [started]
  refine ⟨?_, pass, retry⟩
  rw [← frame]
  exact startTxn_sends _ _

theorem startPass_absent {p : PassThrough} {n : NodeIx} (same : SameWork s u) (lkp : u.lkp = s.lkp)
    (held : u.clc.pass = some p) (retry : u.clc.retry = none) (gone : u.clc.nodes[n].state ≠ .present) :
    AnswersAbsent s p (startPass n u) := by
  have ended : startPass n u = chooseWork (endPass (.refuse .absent) u) := if_neg gone
  rw [ended]
  exact chooseWork_absent same lkp held retry

/-- A choice leaves the retry as the arbiter took it. -/
theorem startPass_retry (n : NodeIx) (u : State) : (startPass n u).clc.retry = u.clc.retry := by
  unfold startPass
  split_ifs
  · rfl
  · rw [chooseWork_retry, endPass_clc]

theorem Clc.lineFree_eq_false {c : Clc} (busy : c.line ≠ .running ∨ c.txn ≠ none ∨ c.power = .crank) :
    c.lineFree = false := by
  unfold Clc.lineFree
  rcases busy with line | txn | crank
  · simp [line]
  · simp [txn]
  · simp [crank]

theorem SameWork.refl (s : State) : SameWork s s := ⟨.refl _ _, rfl⟩

/-- The state whose retry the arbiter has taken. -/
abbrev retryTaken (s : State) : State := s.modClc fun c => { c with retry := none }

theorem retryTaken_sameWork (s : State) : SameWork s (retryTaken s) := ⟨(modClc_only s _).mono (by decide), rfl⟩

variable (running : s.clc.line = .running) (quiet : s.clc.txn = none) (awake : s.clc.power ≠ .crank)
include running quiet awake

theorem Clc.lineFree_of : s.clc.lineFree = true := by
  simp [Clc.lineFree, running, quiet, awake]

theorem arbiter_retry_pass {n : NodeIx} (retry : s.clc.retry = some (.pass n)) :
    arbiter s = startPass n (retryTaken s) := by
  rw [arbiter, if_pos (Clc.lineFree_of running quiet awake), retry]

theorem arbiter_retry {k : TxnKind} (retry : s.clc.retry = some k) (other : k.isPass = false) :
    arbiter s = startTxn k (retryTaken s) := by
  rw [arbiter, if_pos (Clc.lineFree_of running quiet awake), retry]
  cases k
  case pass => exact nomatch other
  all_goals rfl

theorem arbiter_retry_txn {k : TxnKind} (retry : s.clc.retry = some k) : (arbiter s).clc.retry = none := by
  cases kind : k.isPass with
  | true =>
    cases k
    case pass n => rw [arbiter_retry_pass running quiet awake retry, startPass_retry]; rfl
    all_goals exact nomatch kind
  | false =>
    rw [arbiter_retry running quiet awake retry kind]
    rfl

section
variable (fresh : s.clc.retry = none)
include fresh

theorem arbiter_target {p : PassThrough} {n : NodeIx} (held : s.clc.pass = some p) (waits : p.phase = .waiting)
    (target : s.clc.target p = some n) : arbiter s = startPass n s := by
  rw [arbiter, if_pos (Clc.lineFree_of running quiet awake), fresh, held]
  dsimp only
  rw [if_pos waits, target]

theorem arbiter_no_target {p : PassThrough} (held : s.clc.pass = some p) (waits : p.phase = .waiting)
    (target : s.clc.target p = none) : arbiter s = chooseWork (endPass (.refuse .absent) s) := by
  rw [arbiter, if_pos (Clc.lineFree_of running quiet awake), fresh, held]
  dsimp only
  rw [if_pos waits, target]

theorem arbiter_idle (idle : ∀ p ∈ s.clc.pass, p.phase ≠ .waiting) : arbiter s = chooseWork s := by
  rw [arbiter, if_pos (Clc.lineFree_of running quiet awake), fresh]
  cases held : s.clc.pass with
  | none => rfl
  | some p => exact if_neg (idle p held)

end

end

/-- A retried transaction reads its content anew (R157). -/
theorem retried_poll_sends (n : NodeIx) (s : State) :
    Sends (.poll n) [byteOf s.clc.nodes[n].address, 0x00, 0x00] (startTxn (.poll n) (retryTaken s)) := by
  have frame : txnFrame (retryTaken s) (.poll n) = [byteOf s.clc.nodes[n].address, 0x00, 0x00] := txnFrame_poll n _
  rw [← frame]
  exact startTxn_sends _ _

theorem retried_mirror_sends (n : NodeIx) (item : MirrorItem) (s : State) : Sends (.mirror n item)
    (masterFrame s.clc.nodes[n].address .mirror (byteOf item.code :: mirrorContent s item))
    (startTxn (.mirror n item) (retryTaken s)) := by
  have content := (retryTaken_sameWork s).content item
  have frame : txnFrame (retryTaken s) (.mirror n item) =
      masterFrame s.clc.nodes[n].address .mirror (byteOf item.code :: mirrorContent s item) := by
    rw [txnFrame_mirror, content]
    rfl
  rw [← frame]
  exact startTxn_sends _ _

/-! ## The forms of the statement -/

theorem ChoosesWork.asGiven {s t : State} (h : ChoosesWork s t) (quiet : s.clc.txn = none) :
    (∀ n : NodeIx, s.clc.nodes[n].due = true → (∀ m : NodeIx, m < n → s.clc.nodes[m].due = false) →
      t.clc.txn.map (fun t => (t.kind, t.phase)) = some (.poll n, TxnPhase.sending) ∧ t.clc.nodes[n].due = false ∧
        t.clc.txn.map (fun t => t.frame) = some [byteOf s.clc.nodes[n].address, 0x00, 0x00]) ∧
    (∀ n item rest, (∀ m : NodeIx, s.clc.nodes[m].due = false) → s.clc.mirrorQueue = (n, item) :: rest →
      t.clc.txn.map (fun t => (t.kind, t.phase)) = some (.mirror n item, TxnPhase.sending) ∧
        t.clc.mirrorQueue = rest ∧ t.clc.txn.map (fun t => t.frame) =
          some (masterFrame s.clc.nodes[n].address .mirror (byteOf item.code :: mirrorContent s item))) ∧
    ((∀ m : NodeIx, s.clc.nodes[m].due = false) → s.clc.mirrorQueue = [] → t.clc.txn = none) := by
  obtain ⟨poll, mirror, nothing⟩ := h
  refine ⟨fun n due first => ?_, fun n item rest none queue => ?_, fun none queue => ?_⟩
  · obtain ⟨sends, taken⟩ := poll n due first
    exact ⟨sends.kind_eq, taken, sends.frame_eq⟩
  · obtain ⟨sends, taken⟩ := mirror n item rest none queue
    exact ⟨sends.kind_eq, taken, sends.frame_eq⟩
  · rw [nothing none queue, quiet]

/-! ## The obligation -/

/-- The contents by Table 43. -/
theorem rearStanding_fields (t : Wtb) :
    let standing := (List.finRange 32).filter fun w => t.entries[w].cfg.mirrorRear &&
      decide (t.entries[w].state = .active ∨ t.entries[w].state = .acked ∨ t.entries[w].state = .resolved)
    t.rearStanding = standing.map fun w => (w, t.entries[w].state) := by
  have stands (st : EntryState) : st.standing = decide (st = .active ∨ st = .acked ∨ st = .resolved) := by
    cases st <;> decide
  unfold Wtb.rearStanding
  simp only [stands]

theorem mirrorContent_rearWarnings (s : State) :
    let standing := (List.finRange 32).filter fun w => s.wtb.entries[w].cfg.mirrorRear &&
      decide (s.wtb.entries[w].state = .active ∨ s.wtb.entries[w].state = .acked ∨ s.wtb.entries[w].state = .resolved)
    mirrorContent s .rearWarnings = be1 standing.length ++ (standing.take 9).flatMap fun w =>
      be1 w.val ++ be1 s.wtb.entries[w].state.code := by
  intro standing
  unfold mirrorContent
  rw [rearStanding_fields, List.length_map, ← List.map_take, List.flatMap_map]

/-- Settles O58: the arbiter's order, each choice with its frame, and the contents of the items. -/
theorem arbiterChooses : Obligations.ArbiterChooses := by
  unfold Obligations.ArbiterChooses
  refine ⟨mark_eq, fun s => ?_, fun c p => rfl, fun item => by cases item <;> rfl, fun s => ?_⟩
  · refine ⟨fun busy => arbiter_of_busy (Clc.lineFree_eq_false busy), fun running quiet awake => ?_⟩
    refine ⟨fun k retry => ⟨arbiter_retry_txn running quiet awake retry, fun other => ?_⟩, fun n retry => ?_,
      fun n item retry => ?_, fun p n retry held => ?_, fun p n fresh held waits target present => ?_,
      fun p fresh held waits gone => ?_, fun ⟨fresh, idle⟩ => ?_, fun ⟨fresh, idle⟩ none queue => ?_⟩
    · rw [arbiter_retry running quiet awake retry other]
      rfl
    · rw [arbiter_retry running quiet awake retry rfl]
      exact (retried_poll_sends n s).frame_eq
    · rw [arbiter_retry running quiet awake retry rfl]
      exact (retried_mirror_sends n item s).frame_eq
    · rw [arbiter_retry_pass running quiet awake retry]
      split_ifs with present
      · obtain ⟨sends, inFlight, -⟩ := startPass_starts (retryTaken_sameWork s) held rfl present
        exact ⟨sends.kind_eq, inFlight, sends.frame_eq⟩
      · obtain ⟨chosen, ended, answered, -⟩ := startPass_absent (retryTaken_sameWork s) rfl held rfl present
        exact ⟨chosen.asGiven quiet, ended, answered⟩
    · rw [arbiter_target running quiet awake fresh held waits target]
      obtain ⟨sends, inFlight, -⟩ := startPass_starts (.refl s) held fresh present
      exact ⟨sends.kind_eq, inFlight, sends.frame_eq⟩
    · have absent : AnswersAbsent s p (arbiter s) := by
        cases target : s.clc.target p with
        | none =>
          rw [arbiter_no_target running quiet awake fresh held waits target]
          exact chooseWork_absent (.refl s) rfl held fresh
        | some n =>
          rw [arbiter_target running quiet awake fresh held waits target]
          exact startPass_absent (.refl s) rfl held fresh (gone n target)
      obtain ⟨chosen, ended, answered, -⟩ := absent
      exact ⟨chosen.asGiven quiet, ended, answered⟩
    · rw [arbiter_idle running quiet awake fresh idle]
      exact (chooseWork_chooses (.refl s)).asGiven quiet
    · rw [arbiter_idle running quiet awake fresh idle]
      exact chooseWork_nothing (Clc.firstDue_of_none none) queue
  · refine ⟨?_, fun n slot => ?_, fun none => ⟨_, _, by rw [mirrorContent, none]; rfl⟩, ?_, ?_, rfl, ?_, rfl, rfl⟩
    · rw [mirrorContent]
      cases s.clk.state <;> rfl
    · have content : mirrorContent s .outsideTemp = be1 s.gdu.slots[n].state.code ++ bes2 s.gdu.slots[n].value := by
        rw [mirrorContent, slot]
      rw [content]
      cases s.gdu.slots[n].state <;> rfl
    · change be1 (TripState.code s.tau.trips[(3 : TripIx)].state) ++ _ ++ _ = _
      cases s.tau.trips[(3 : TripIx)].state <;> rfl
    · rw [mirrorContent]
      cases s.tau.destination <;> cases eta s.tau s.clk <;> rfl
    · rw [mirrorContent_rearWarnings]
      refine congrArg (be1 _ ++ ·) (List.flatMap_congr fun w _ => ?_)
      cases s.wtb.entries[w].state <;> rfl

end Sys2Proof.Machine
end

section
/-! A second at the trip and the service tables: the engine hours, the trips, the bucket and the items (R50, R51, R53, R65,
R134, R135). -/

namespace Sys2Proof.Machine

-- One theorem at a time, so that a build as one text needs few threads.
set_option Elab.async false

/-! ## The trips -/

/-- A trip after a second of RUN or CRANK: it counts while it is OPEN (R51, R53). -/
def Trip.takeSecond (live : Bool) (t : Trip) : Trip :=
  if t.state = .open then
    { t with running := min (t.running + 1) 3599999, moving := if live then min (t.moving + 1) 3599999 else t.moving }
  else t

theorem justSaturated_maxSeconds (n : Nat) :
    justSaturated Config.maxSeconds n (countUp Config.maxSeconds n) = true ↔ n = 3599998 := by
  change (decide (n < 3599999) && decide (min (n + 1) 3599999 = 3599999)) = true ↔ _
  rw [Bool.and_eq_true, decide_eq_true_iff, decide_eq_true_iff]
  omega

/-- What a trip's second brings besides its counts: the mark of a changed minute and the notice (R53, R65). -/
def tripReport (t : TripIx) (minute full : Prop) [Decidable minute] [Decidable full] (s : State) : State :=
  if full then tripNotice t .saturated (if minute then mark .passengerTrip s else s)
  else if minute then mark .passengerTrip s else s

section
variable (t : TripIx) (minute full : Prop) [Decidable minute] [Decidable full] (s : State)

theorem tripReport_tau : (tripReport t minute full s).tau = s.tau := by
  unfold tripReport
  split_ifs <;> rfl

theorem tripReport_lkp : (tripReport t minute full s).lkp =
    if full then s.lkp.takeNotice (.trip t.castSucc .saturated) else s.lkp := by
  unfold tripReport
  split_ifs <;> rfl

theorem tripReport_marks : MarksOnly s (tripReport t minute full s) := by
  unfold tripReport
  split_ifs
  · exact (MarksOnly.mark _ _).trans (.of_only (notify_only _ _))
  · exact .of_only (notify_only _ _)
  · exact .mark _ _
  · exact .refl s

theorem tripReport_notices : NoticesOnly [8] s (tripReport t minute full s) := by
  have told (u : State) : NoticesOnly [8] u (tripNotice t .saturated u) := .notify (by simp [Notice.bit]) u
  unfold tripReport
  split_ifs
  · exact (NoticesOnly.of_only (mark_only _ _)).trans (told _)
  · exact told s
  · exact .of_only (mark_only _ _)
  · exact .refl s

variable {minute}

theorem tripReport_marked (passed : minute) : Marked .passengerTrip s (tripReport t minute full s) := by
  unfold tripReport
  rw [if_pos passed]
  split_ifs
  · exact MarksOnly.marked_then (marked_mark _ _) (.of_only (notify_only _ _))
  · exact marked_mark _ _

end

section
variable (t : TripIx) (s : State)

theorem tripSecond_closed (closed : s.tau.trips[t].state ≠ .open) : tripSecond t s = s := if_neg closed

theorem tripSecond_open (opened : s.tau.trips[t].state = .open) : tripSecond t s =
    tripReport t (t = 3 ∧ countUp Config.maxSeconds s.tau.trips[t].running / 60 ≠ s.tau.trips[t].running / 60)
      (justSaturated Config.maxSeconds s.tau.trips[t].running (countUp Config.maxSeconds s.tau.trips[t].running) = true)
      (s.modTrip t (Trip.takeSecond s.tau.roadLive)) := by
  have counted : s.modTrip t (Trip.takeSecond s.tau.roadLive) = s.modTrip t fun x => { x with
      running := countUp Config.maxSeconds s.tau.trips[t].running
      moving := if s.tau.roadLive then countUp Config.maxSeconds x.moving else x.moving } := by
    have same : updAt s.tau.trips t (Trip.takeSecond s.tau.roadLive) = updAt s.tau.trips t fun x => { x with
        running := countUp Config.maxSeconds s.tau.trips[t].running
        moving := if s.tau.roadLive then countUp Config.maxSeconds x.moving else x.moving } :=
      updAt_congr (by rw [Trip.takeSecond, if_pos opened]; rfl)
    exact (congrArg (fun v => s.modTau fun u => { u with trips := v }) same :)
  rw [counted]
  exact if_pos opened

theorem tripSecond_tau : (tripSecond t s).tau =
    { s.tau with trips := updAt s.tau.trips t (Trip.takeSecond s.tau.roadLive) } := by
  by_cases opened : s.tau.trips[t].state = .open
  · rw [tripSecond_open t s opened, tripReport_tau]
    rfl
  · rw [tripSecond_closed t s opened, updAt_of_fixed]
    exact if_neg opened

/-- A trip brings its notice SATURATED at the second that fills its running seconds, and no other (R53). -/
theorem tripSecond_lkp : (tripSecond t s).lkp =
    if s.tau.trips[t].state = .open ∧ s.tau.trips[t].running = 3599998
    then s.lkp.takeNotice (.trip t.castSucc .saturated) else s.lkp := by
  by_cases opened : s.tau.trips[t].state = .open
  · rw [tripSecond_open t s opened, tripReport_lkp]
    exact if_congr ((justSaturated_maxSeconds _).trans (and_iff_right opened).symm) rfl rfl
  · rw [tripSecond_closed t s opened, if_neg fun both => opened both.1]

theorem tripSecond_told {n : TripIx} (told : s.lkp.Told (.trip n.castSucc .saturated)) :
    (tripSecond t s).lkp.Told (.trip n.castSucc .saturated) := by
  rw [tripSecond_lkp]
  split_ifs
  · refine told.takeNotice fun key => ?_
    have trip : n.val = t.val := congrArg Prod.snd key
    rw [Fin.ext trip]
  · exact told

theorem tripSecond_notices : NoticesOnly [8] s (tripSecond t s) := by
  by_cases opened : s.tau.trips[t].state = .open
  · rw [tripSecond_open t s opened]
    exact (NoticesOnly.of_only (modTrip_only s t _)).trans (tripReport_notices t _ _ _)
  · rw [tripSecond_closed t s opened]
    exact .refl s

theorem tripSecond_marks : MarksOnly s (tripSecond t s) := by
  by_cases opened : s.tau.trips[t].state = .open
  · rw [tripSecond_open t s opened]
    exact (MarksOnly.of_only (modTrip_only s t _)).trans (tripReport_marks t _ _ _)
  · rw [tripSecond_closed t s opened]
    exact .refl s

/-- A change of T3's running minutes marks PASSENGER_TRIP (R65). -/
theorem tripSecond_marked {s : State} (opened : s.tau.trips[(3 : TripIx)].state = .open)
    (minute : min (s.tau.trips[(3 : TripIx)].running + 1) 3599999 / 60 ≠ s.tau.trips[(3 : TripIx)].running / 60) :
    Marked .passengerTrip s (tripSecond 3 s) := by
  rw [tripSecond_open 3 s opened]
  exact (MarksOnly.of_only (modTrip_only s 3 _)).then_marked (tripReport_marked 3 _ _ ⟨rfl, minute⟩)

end

/-- Every trip of `s` has taken its second in `v`. -/
structure TripsSecond (s v : State) : Prop where
  others : { v.tau with trips := s.tau.trips } = s.tau
  trips : ∀ i : TripIx, v.tau.trips[i] = s.tau.trips[i].takeSecond s.tau.roadLive
  svs : v.svs = s.svs
  marks : MarksOnly s v
  notices : NoticesOnly [8] s v
  told : ∀ n : TripIx, s.tau.trips[n].state = .open → s.tau.trips[n].running = 3599998 → s.lkp.mask.getLsbD 8 = true →
    v.lkp.Told (.trip n.castSucc .saturated)
  marked : s.tau.trips[(3 : TripIx)].state = .open →
    min (s.tau.trips[(3 : TripIx)].running + 1) 3599999 / 60 ≠ s.tau.trips[(3 : TripIx)].running / 60 →
    Marked .passengerTrip s v

theorem TripsSecond.tau {s v : State} (h : TripsSecond s v) :
    v.tau = { s.tau with trips := mapAll (Trip.takeSecond s.tau.roadLive) s.tau.trips } := by
  have trips : v.tau.trips = mapAll (Trip.takeSecond s.tau.roadLive) s.tau.trips := by
    refine Vector.ext fun i bound => ?_
    have taken := h.trips ⟨i, bound⟩
    rw [← mapAll_get (Trip.takeSecond s.tau.roadLive)] at taken
    exact taken
  rw [← trips]
  exact (congrArg (fun u : Tau => { u with trips := v.tau.trips }) h.others :)

theorem tripSecond_trips_of_ne {t i : TripIx} (ne : t ≠ i) (s : State) :
    (tripSecond t s).tau.trips[i] = s.tau.trips[i] := by rw [tripSecond_tau, updAt_get_other _ _ _ _ ne]

theorem eachIx_tripSecond_trip (s : State) (i : TripIx) :
    (eachIx 4 tripSecond s).tau.trips[i] = s.tau.trips[i].takeSecond s.tau.roadLive := by
  refine eachIx_brings i (f := tripSecond)
    (before := fun x => x.tau.trips[i] = s.tau.trips[i] ∧ x.tau.roadLive = s.tau.roadLive)
    (goal := fun x => x.tau.trips[i] = s.tau.trips[i].takeSecond s.tau.roadLive) (fun x before => ?_)
    (fun t x ne before => ?_) (fun t x ne taken => ?_) ⟨rfl, rfl⟩
  · obtain ⟨trip, live⟩ := before
    rw [tripSecond_tau, updAt_get_same, trip, live]
  · obtain ⟨trip, live⟩ := before
    exact ⟨(tripSecond_trips_of_ne ne x).trans trip, by rw [tripSecond_tau]; exact live⟩
  · exact (tripSecond_trips_of_ne ne x).trans taken

section
variable {s : State}

theorem eachIx_tripSecond_told {n : TripIx} (opened : s.tau.trips[n].state = .open)
    (fills : s.tau.trips[n].running = 3599998) (on : s.lkp.mask.getLsbD 8 = true) :
    (eachIx 4 tripSecond s).lkp.Told (.trip n.castSucc .saturated) := by
  refine eachIx_reaches (i := n) (before := fun x => x.tau.trips[n] = s.tau.trips[n] ∧ x.lkp.mask = s.lkp.mask)
    (goal := fun x => x.lkp.Told (.trip n.castSucc .saturated)) (fun x before => ?_) (fun t x ne before => ?_)
    (fun t x => tripSecond_told t x) ⟨rfl, rfl⟩
  · obtain ⟨trip, mask⟩ := before
    rw [tripSecond_lkp, if_pos (by rw [trip]; exact ⟨opened, fills⟩)]
    exact Lkp.told_takeNotice (by rw [mask]; exact on)
  · obtain ⟨trip, mask⟩ := before
    exact ⟨by rw [tripSecond_tau, updAt_get_other _ _ _ _ ne, trip], (tripSecond_notices t x).mask_eq.trans mask⟩

theorem eachIx_tripSecond_marked (opened : s.tau.trips[(3 : TripIx)].state = .open)
    (minute : min (s.tau.trips[(3 : TripIx)].running + 1) 3599999 / 60 ≠ s.tau.trips[(3 : TripIx)].running / 60) :
    Marked .passengerTrip s (eachIx 4 tripSecond s) := by
  refine eachIx_reaches (i := (3 : TripIx)) (before := fun x => x.tau.trips[(3 : TripIx)] = s.tau.trips[(3 : TripIx)] ∧
    MarksOnly s x) (goal := Marked .passengerTrip s) (fun x before => ?_) (fun t x ne before => ?_)
    (fun t x marked => MarksOnly.marked_then marked (tripSecond_marks t x)) ⟨rfl, .refl s⟩
  · obtain ⟨trip, marks⟩ := before
    exact marks.then_marked (tripSecond_marked (by rw [trip]; exact opened) (by rw [trip]; exact minute))
  · obtain ⟨trip, marks⟩ := before
    exact ⟨by rw [tripSecond_tau, updAt_get_other _ _ _ _ ne, trip], marks.trans (tripSecond_marks t x)⟩

end

theorem tripsSecond (s : State) : TripsSecond s (eachIx 4 tripSecond s) where
  others := eachIx_keeps (get := fun x => { x.tau with trips := s.tau.trips }) (fun t x => by rw [tripSecond_tau]) s
  trips := eachIx_tripSecond_trip s
  svs := eachIx_keeps (get := fun x => x.svs) (fun t x => (tripSecond_only x t).svs_eq (by decide)) s
  marks := eachIx_induct (f := tripSecond) (motive := MarksOnly s) (.refl s)
    (fun t x before => before.trans (tripSecond_marks t x))
  notices := .eachIx tripSecond_notices s
  told _ := eachIx_tripSecond_told
  marked := eachIx_tripSecond_marked

/-! ## The engine hours, and the whole second -/

/-- A second completes a tenth of an engine hour (R50). -/
abbrev Tau.Tenth (u : Tau) : Prop := u.engineRunning = true ∧ 360 ≤ u.engineResidue + 1

/-- The engine hours after a second (R50). -/
def Tau.countEngine (u : Tau) : Tau := { u with
  engineResidue := if u.engineRunning then (if u.engineResidue + 1 < 360 then u.engineResidue + 1 else 0)
    else u.engineResidue
  engineHours := if u.Tenth then min (u.engineHours + 1) 999999 else u.engineHours }

/-- The TAU after a second (R50, R51). -/
def Tau.takeSecond (u : Tau) : Tau :=
  if u.power = .parked then u.countEngine
  else { u.countEngine with
    trips := mapAll (Trip.takeSecond u.roadLive) u.trips
    bucket := { u.bucket with seconds := min (u.bucket.seconds + 1) 65535 } }

section
variable (s : State)

theorem engineSecond_off (off : s.tau.engineRunning = false) : engineSecond s = s := by
  unfold engineSecond
  rw [off]
  rfl

theorem engineSecond_short (on : s.tau.engineRunning = true) (short : s.tau.engineResidue + 1 < 360) :
    engineSecond s = s.modTau fun u => { u with engineResidue := u.engineResidue + 1 } :=
  (if_pos on).trans (if_pos short)

theorem engineSecond_tenth (tenth : s.tau.Tenth) : engineSecond s = svsEngineHour (s.modTau fun u =>
    { u with engineResidue := 0, engineHours := countUp Config.maxEngineHours u.engineHours }) :=
  (if_pos tenth.1).trans (if_neg (Nat.not_lt_of_le tenth.2))

/-- The cases of a second at the engine hours. -/
theorem engineSecond_cases : s.tau.engineRunning = false ∨
    (s.tau.engineRunning = true ∧ s.tau.engineResidue + 1 < 360) ∨ s.tau.Tenth := by
  cases running : s.tau.engineRunning with
  | false => exact .inl rfl
  | true => exact .inr ((Nat.lt_or_ge _ _).imp (⟨rfl, ·⟩) (⟨running, ·⟩))

theorem engineSecond_tau : (engineSecond s).tau = s.tau.countEngine := by
  rcases engineSecond_cases s with off | ⟨on, short⟩ | tenth
  · have none : ¬ s.tau.Tenth := fun tenth => Bool.false_ne_true (off.symm.trans tenth.1)
    rw [engineSecond_off s off, Tau.countEngine, if_neg none, if_neg (by rw [off]; exact Bool.false_ne_true)]
  · have none : ¬ s.tau.Tenth := fun tenth => absurd tenth.2 (Nat.not_le_of_lt short)
    rw [engineSecond_short s on short, Tau.countEngine, if_neg none, if_pos on, if_pos short]
    rfl
  · rw [engineSecond_tenth s tenth, svsEngineHour, (countItems_only _ _).tau_eq (by decide), Tau.countEngine,
      if_pos tenth, if_pos tenth.1, if_neg (Nat.not_lt_of_le tenth.2)]
    rfl

/-- A completed tenth counts the enabled items' hours down (R134). -/
theorem engineSecond_items (i : ItemIx) : (engineSecond s).svs.items[i] =
    if s.tau.Tenth ∧ s.svs.items[i].enabled = true
    then { s.svs.items[i].downHours with state := s.svs.items[i].downHours.decided } else s.svs.items[i] := by
  rcases engineSecond_cases s with off | ⟨on, short⟩ | tenth
  · rw [engineSecond_off s off, if_neg fun both => Bool.false_ne_true (off.symm.trans both.1.1)]
  · rw [engineSecond_short s on short, if_neg fun both => absurd both.1.2 (Nat.not_le_of_lt short)]
    rfl
  · rw [engineSecond_tenth s tenth, svsEngineHour, countItems_item]
    exact if_congr (and_iff_right tenth).symm rfl rfl

theorem engineSecond_marks : MarksOnly s (engineSecond s) := by
  rcases engineSecond_cases s with off | ⟨on, short⟩ | tenth
  · rw [engineSecond_off s off]
    exact .refl s
  · rw [engineSecond_short s on short]
    exact .of_only (modTau_only s _)
  · rw [engineSecond_tenth s tenth]
    exact (MarksOnly.of_only (modTau_only s _)).trans (CountsOnly.countItems _ _).marks

theorem engineSecond_notices : NoticesOnly itemBits s (engineSecond s) := by
  rcases engineSecond_cases s with off | ⟨on, short⟩ | tenth
  · rw [engineSecond_off s off]
    exact .refl s
  · rw [engineSecond_short s on short]
    exact .of_only (modTau_only s _)
  · rw [engineSecond_tenth s tenth]
    exact (NoticesOnly.of_only (modTau_only s _)).trans (.countItems _ _)

theorem tauSecond_parked (parked : s.tau.power = .parked) : tauSecond s = engineSecond s := if_pos parked

theorem tauSecond_awake (awake : s.tau.power ≠ .parked) : ∃ v, TripsSecond (engineSecond s) v ∧
    tauSecond s = v.modTau fun u => { u with bucket := { u.bucket with seconds := countUp 65535 u.bucket.seconds } } :=
  ⟨_, tripsSecond _, if_neg awake⟩

theorem tauSecond_tau : (tauSecond s).tau = s.tau.takeSecond := by
  unfold Tau.takeSecond
  by_cases parked : s.tau.power = .parked
  · rw [tauSecond_parked s parked, engineSecond_tau, if_pos parked]
  · obtain ⟨v, trips, taken⟩ := tauSecond_awake s parked
    rw [taken, State.modTau_tau, trips.tau, engineSecond_tau, if_neg parked]
    rfl

theorem tauSecond_items (i : ItemIx) : (tauSecond s).svs.items[i] =
    if s.tau.Tenth ∧ s.svs.items[i].enabled = true
    then { s.svs.items[i].downHours with state := s.svs.items[i].downHours.decided } else s.svs.items[i] := by
  rw [← engineSecond_items]
  by_cases parked : s.tau.power = .parked
  · rw [tauSecond_parked s parked]
  · obtain ⟨v, trips, taken⟩ := tauSecond_awake s parked
    rw [taken, State.modTau_svs, trips.svs]

theorem tauSecond_marks : MarksOnly s (tauSecond s) := by
  by_cases parked : s.tau.power = .parked
  · rw [tauSecond_parked s parked]
    exact engineSecond_marks s
  · obtain ⟨v, trips, taken⟩ := tauSecond_awake s parked
    rw [taken]
    exact ((engineSecond_marks s).trans trips.marks).trans (.of_only (modTau_only _ _))

/-- The mask bits of WARNING, CHIME, SERVICE and TRIP notices (Table 65). -/
abbrev tripBits : List Nat := [1, 2, 4, 8]

theorem tauSecond_notices : NoticesOnly tripBits s (tauSecond s) := by
  have engine : NoticesOnly tripBits s (engineSecond s) := (engineSecond_notices s).mono (by decide)
  by_cases parked : s.tau.power = .parked
  · rw [tauSecond_parked s parked]
    exact engine
  · obtain ⟨v, trips, taken⟩ := tauSecond_awake s parked
    rw [taken]
    exact (engine.trans (trips.notices.mono (by decide))).trans (.of_only (modTau_only _ _))

variable {s}

theorem engineSecond_trips : (engineSecond s).tau.trips = s.tau.trips := by
  rw [engineSecond_tau]
  rfl

/-- A trip whose running seconds a second fills is told (R53). -/
theorem tauSecond_told {n : TripIx} (awake : s.tau.power ≠ .parked) (opened : s.tau.trips[n].state = .open)
    (fills : s.tau.trips[n].running = 3599998) (on : s.lkp.mask.getLsbD 8 = true) :
    (tauSecond s).lkp.Told (.trip n.castSucc .saturated) := by
  obtain ⟨v, trips, taken⟩ := tauSecond_awake s awake
  rw [taken]
  exact trips.told n (by rw [engineSecond_trips]; exact opened) (by rw [engineSecond_trips]; exact fills)
    (by rw [(engineSecond_notices s).mask_eq]; exact on)

theorem tauSecond_marked (awake : s.tau.power ≠ .parked) (opened : s.tau.trips[(3 : TripIx)].state = .open)
    (minute : min (s.tau.trips[(3 : TripIx)].running + 1) 3599999 / 60 ≠ s.tau.trips[(3 : TripIx)].running / 60) :
    Marked .passengerTrip s (tauSecond s) := by
  obtain ⟨v, trips, taken⟩ := tauSecond_awake s awake
  rw [taken]
  have marked := trips.marked (by rw [engineSecond_trips]; exact opened) (by rw [engineSecond_trips]; exact minute)
  exact MarksOnly.marked_then ((engineSecond_marks s).then_marked marked) (.of_only (modTau_only _ _))

end

/-! ## What a count at the items leaves -/

theorem downHours_fields (it : ServiceItem) : it.downHours = { it with remainingHours := it.downHours.remainingHours } ∧
    ∀ (n : Nat) (r : Int), it.hoursInterval = some n → it.remainingHours = some r →
      it.downHours.remainingHours = some (max (r - 1) (-2 * n)) := by
  obtain ⟨_, _, _, hours, _, _, remaining⟩ := it
  refine ⟨by cases hours <;> cases remaining <;> rfl, ?_⟩
  rintro n r rfl rfl
  rfl

theorem downDays_fields (it : ServiceItem) : it.downDays = { it with remainingDays := it.downDays.remainingDays } ∧
    ∀ (n : Nat) (r : Int), it.daysInterval = some n → it.remainingDays = some r →
      it.downDays.remainingDays = some (max (r - 1) (-2 * n)) := by
  obtain ⟨_, _, _, _, days, _, _, remaining⟩ := it
  refine ⟨by cases days <;> cases remaining <;> rfl, ?_⟩
  rintro n r rfl rfl
  rfl

end Sys2Proof.Machine
end

section
/-! The alarms, and the second boundary as a whole (R65 to R70, R77 to R79). -/

namespace Sys2Proof.Machine

-- One theorem at a time, so that a build as one text needs few threads.
set_option Elab.async false

/-! ## Entries without patterns hand no chimes -/

/-- No entry has a pattern. -/
def NoPatterns (s : State) : Prop := ∀ w : EntryIx, s.wtb.entries[w].cfg.pattern = none

/-- With no patterns among the entries the chime queue does not grow, and keeps the alarms' requests. -/
structure QuietStep (s t : State) : Prop where
  silent : NoPatterns t
  queue : t.chs.queue.length ≤ s.chs.queue.length
  alarms : ∀ a : AlarmIx, s.chs.holds (.alarm a) = true → t.chs.holds (.alarm a) = true

def Quiet (s t : State) : Prop := NoPatterns s → QuietStep s t

namespace Quiet
variable {s t u : State}

theorem of_chs_eq (flags : FlagsKept s t) (same : t.chs = s.chs) : Quiet s t := fun silent => by
  refine ⟨fun w => ?_, by rw [same], fun a => by rw [same]; exact id⟩
  rw [(flags w).1]
  exact silent w

theorem of_only {ps : List Part} (h : OnlyChanges ps s t) (wtb : Part.wtb ∉ ps := by decide)
    (chs : Part.chs ∉ ps := by decide) : Quiet s t := of_chs_eq (.of_only h wtb) (h .chs chs)

theorem refl (s : State) : Quiet s s := of_chs_eq (.refl s) rfl

theorem trans (h : Quiet s t) (k : Quiet t u) : Quiet s u := fun silent => by
  obtain ⟨between, fewer, kept⟩ := h silent
  obtain ⟨after, fewer', kept'⟩ := k between
  exact ⟨after, fewer'.trans fewer, fun a held => kept' a (kept a held)⟩

theorem foldl {α : Type} {f : State → α → State} (each : ∀ s a, Quiet s (f s a)) (l : List α) (s : State) :
    Quiet s (l.foldl f s) := List.foldlRecOn l f (refl s) fun t before a _ => before.trans (each t a)

theorem eachIx {n : Nat} {f : Fin n → State → State} (each : ∀ i s, Quiet s (f i s)) (s : State) :
    Quiet s (Machine.eachIx n f s) := foldl (fun s i => each i s) _ s

theorem modEntry {f : Entry → Entry} (w : EntryIx) (s : State) (flags : KeepsFlags f) : Quiet s (s.modEntry w f) :=
  of_chs_eq (FlagsKept.walk.entry w f s flags) rfl

theorem reportEntry (w : EntryIx) (old new : EntryState) (s : State) : Quiet s (Machine.reportEntry w old new s) :=
  of_chs_eq (FlagsKept.walk.reportEntry w old new s) (reportEntry_chs w old new s)

theorem removeWarning (w : EntryIx) (s : State) : Quiet s (removeChime (.warning w) s) := fun silent => by
  refine ⟨silent, ?_, fun a held => ?_⟩
  · change (s.chs.remove (.warning w)).queue.length ≤ _
    rw [Chs.remove_queue]
    exact List.length_filter_le _ _
  · change (s.chs.remove (.warning w)).holds (.alarm a) = true
    obtain ⟨r, mem, source⟩ := List.any_eq_true.mp held
    unfold Chs.holds
    rw [Chs.remove_queue]
    refine List.any_eq_true.mpr ⟨r, List.mem_filter.mpr ⟨mem, decide_eq_true fun warning => ?_⟩, source⟩
    exact nomatch (of_decide_eq_true source).symm.trans warning

theorem handWarningChime (w : EntryIx) (s : State) : Quiet s (Machine.handWarningChime w s) := fun silent => by
  have none : Machine.handWarningChime w s = s := by
    unfold Machine.handWarningChime
    rw [silent w]
  rw [none]
  exact refl s silent

theorem entryChange {w : EntryIx} {f : Entry → Entry} {chime : State → State} (old new : EntryState)
    (flags : KeepsFlags f) (chimes : ∀ s, Quiet s (chime s)) (s : State) :
    Quiet s (Machine.reportEntry w old new (chime (s.modEntry w f))) :=
  ((modEntry w s flags).trans (chimes _)).trans (.reportEntry w old new _)

theorem enterActive (w : EntryIx) (s : State) : Quiet s (Machine.enterActive w s) :=
  entryChange _ _ (by exact fun _ => ⟨rfl, rfl, rfl⟩) (.handWarningChime w) s

theorem leaveActive (w : EntryIx) (new : EntryState) (s : State) : Quiet s (Machine.leaveActive w new s) :=
  entryChange _ _ (by exact fun _ => ⟨rfl, rfl, rfl⟩) (.removeWarning w) s

theorem enterPending (w : EntryIx) (s : State) : Quiet s (Machine.enterPending w s) :=
  entryChange (chime := id) _ _ (by exact fun _ => ⟨rfl, rfl, rfl⟩) refl s

theorem enterIdle (w : EntryIx) (s : State) : Quiet s (Machine.enterIdle w s) :=
  entryChange (chime := id) _ _ (by exact fun _ => ⟨rfl, rfl, rfl⟩) refl s

theorem moveEntry (w : EntryIx) (condition : Bool) (s : State) : Quiet s (Machine.moveEntry w condition s) := by
  unfold Machine.moveEntry
  split
  · split_ifs
    · exact enterActive w s
    · exact enterPending w s
  · exact enterIdle w s
  · exact leaveActive w _ s
  · exact enterIdle w s
  · exact enterActive w s
  all_goals exact refl s

theorem evaluateEntry (w : EntryIx) (s : State) : Quiet s (Machine.evaluateEntry w s) := by
  unfold Machine.evaluateEntry
  dsimp only
  split_ifs
  · exact refl s
  · exact (modEntry w s (by exact fun _ => ⟨rfl, rfl, rfl⟩)).trans (moveEntry w _ _)

theorem evaluateWhere (test : EntryConfig → Bool) (s : State) : Quiet s (Machine.evaluateWhere test s) := by
  refine eachIx (fun w s => ?_) s
  split_ifs
  · exact evaluateEntry w s
  · exact refl s

theorem wtbTake (f : WarnView → WarnView) (test : EntryConfig → Bool) (s : State) :
    Quiet s (Machine.wtbTake f test s) :=
  (of_chs_eq (s := s) (t := s.modWarnView f) (.of_wtb_eq rfl) rfl).trans (evaluateWhere test _)

theorem countItems (down : ServiceItem → ServiceItem) (s : State) : Quiet s (Machine.countItems down s) := by
  refine eachIx (fun i s => ?_) s
  split_ifs
  · have decided (u : State) : Quiet u (Machine.decideItem i u) := by
      unfold Machine.decideItem
      dsimp only
      split_ifs
      · exact refl u
      · exact ((of_only (modItem_only u i _)).trans (of_only (notify_only _ _))).trans (wtbTake _ _ _)
    exact (of_only (modItem_only s i down)).trans (decided _)
  · exact refl s

theorem engineSecond (s : State) : Quiet s (Machine.engineSecond s) := by
  rcases engineSecond_cases s with off | ⟨on, short⟩ | tenth
  · rw [engineSecond_off s off]
    exact refl s
  · rw [engineSecond_short s on short]
    exact of_only (modTau_only s _)
  · rw [engineSecond_tenth s tenth]
    exact (of_only (modTau_only s _)).trans (countItems _ _)

theorem tauSecond (s : State) : Quiet s (Machine.tauSecond s) := by
  by_cases parked : s.tau.power = .parked
  · rw [tauSecond_parked s parked]
    exact engineSecond s
  · unfold Machine.tauSecond
    dsimp only
    rw [if_neg parked]
    exact ((engineSecond s).trans (of_only (eachIx_only (fun t s => tripSecond_only s t) _))).trans (of_only (modTau_only _ _))

end Quiet

/-! ## A match of an alarm (R79) -/

/-- An alarm's match before it disables itself: its request and its notice. -/
abbrev alarmSounded (a : AlarmIx) (s : State) : State :=
  ((takeChime (alarmRequest s.chs a s.clk.alarms[a]) s).1).notify (.alarm a)

section
variable (a : AlarmIx) (s : State)

theorem alarmSounded_clk : (alarmSounded a s).clk = s.clk := (ByProducts.takeChime _ s).only .clk (by decide)

theorem alarmMatch_daily (daily : s.clk.alarms[a].rep ≠ .once) : alarmMatch a s = alarmSounded a s := if_neg daily

theorem alarmMatch_once (once : s.clk.alarms[a].rep = .once) : alarmMatch a s =
    markAlarm a ((alarmSounded a s).modAlarm a fun x => { x with enabled := false }) := if_pos once

/-- The record of an alarm after its match. -/
def Alarm.matched (x : Alarm) : Alarm := if x.rep = .once then { x with enabled := false } else x

theorem alarmMatch_clk : (alarmMatch a s).clk = { s.clk with alarms := updAt s.clk.alarms a Alarm.matched } := by
  by_cases once : s.clk.alarms[a].rep = .once
  · have marks (u : State) : (markAlarm a u).clk = u.clk := (markAlarm_only u a) .clk (by decide)
    have taken : updAt s.clk.alarms a Alarm.matched = updAt s.clk.alarms a fun x => { x with enabled := false } :=
      updAt_congr (if_pos once)
    rw [alarmMatch_once a s once, marks, taken, ← alarmSounded_clk a s]
    rfl
  · rw [alarmMatch_daily a s once, alarmSounded_clk, updAt_of_fixed]
    exact if_neg once

theorem markAlarm_marks : MarksOnly s (markAlarm a s) := by
  unfold markAlarm
  split_ifs
  · exact .mark _ s
  · exact .refl s

theorem alarmSounded_marks : MarksOnly s (alarmSounded a s) :=
  (MarksOnly.walk.takeChime _ s).trans (.of_only (notify_only _ _))

theorem alarmMatch_marks : MarksOnly s (alarmMatch a s) := by
  by_cases once : s.clk.alarms[a].rep = .once
  · rw [alarmMatch_once a s once]
    exact ((alarmSounded_marks a s).trans (.of_only (modAlarm_only _ a _))).trans (markAlarm_marks a _)
  · rw [alarmMatch_daily a s once]
    exact alarmSounded_marks a s

/-- A2 and A3 mark ALARMS_REAR when a match disables them (R77, R79). -/
theorem alarmMatch_marked {a : AlarmIx} {s : State} (rear : 2 ≤ a.val) (once : s.clk.alarms[a].rep = .once) :
    Marked .alarmsRear s (alarmMatch a s) := by
  have before := (alarmSounded_marks a s).trans
    (.of_only (modAlarm_only (alarmSounded a s) a fun x => { x with enabled := false }))
  rw [alarmMatch_once a s once, markAlarm, if_pos rear]
  exact before.then_marked (marked_mark _ _)

theorem alarmMatch_lkp : (alarmMatch a s).lkp =
    (takeChime (alarmRequest s.chs a s.clk.alarms[a]) s).1.lkp.takeNotice (.alarm a) := by
  by_cases once : s.clk.alarms[a].rep = .once
  · rw [alarmMatch_once a s once, (markAlarm_only _ a).lkp_eq (by decide)]
    rfl
  · rw [alarmMatch_daily a s once]
    rfl

theorem alarmMatch_mask : (alarmMatch a s).lkp.mask = s.lkp.mask := by
  rw [alarmMatch_lkp, Lkp.takeNotice_mask, (NoticesOnly.takeChime _ s).mask_eq]

theorem alarmMatch_told (on : s.lkp.mask.getLsbD 3 = true) : (alarmMatch a s).lkp.Told (.alarm a) := by
  rw [alarmMatch_lkp]
  exact Lkp.told_takeNotice (by rw [(NoticesOnly.takeChime _ s).mask_eq]; exact on)

/-- A notice that is not the same alarm's stays told, and the same alarm's too. -/
theorem alarmMatch_keeps_told {n : Notice} {s : State} (other : n.bit ∉ NoticesOnly.warnBits)
    (key : n.key = (Notice.alarm a).key → .alarm a = n) (told : s.lkp.Told n) : (alarmMatch a s).lkp.Told n := by
  rw [alarmMatch_lkp]
  exact ((NoticesOnly.takeChime _ s).told other told).takeNotice key

theorem alarmMatch_chs : (alarmMatch a s).chs = (takeChime (alarmRequest s.chs a s.clk.alarms[a]) s).1.chs := by
  by_cases once : s.clk.alarms[a].rep = .once
  · rw [alarmMatch_once a s once]
    exact (markAlarm_only _ a) .chs (by decide)
  · rw [alarmMatch_daily a s once]
    rfl

theorem alarmMatch_flags : FlagsKept s (alarmMatch a s) := by
  have sounded : FlagsKept s (alarmSounded a s) :=
    (FlagsKept.walk.takeChime _ s).trans (.of_only (notify_only _ _))
  by_cases once : s.clk.alarms[a].rep = .once
  · rw [alarmMatch_once a s once]
    exact (sounded.trans (.of_only (modAlarm_only _ a _))).trans (.of_only (markAlarm_only _ a))
  · rw [alarmMatch_daily a s once]
    exact sounded

end

/-- With room a request that is not the host's makes the queue at most one longer, and removes none (R112). -/
theorem takeChime_with_room {r : ChimeRequest} {s : State} (other : r.source ≠ .link) (room : s.chs.queue.length < 8) :
    (takeChime r s).1.chs.queue.length ≤ s.chs.queue.length + 1 ∧
      ∀ src, s.chs.holds src = true → (takeChime r s).1.chs.holds src = true := by
  rcases takeChime_cases (s := s) other with ⟨-, taken⟩ | ⟨-, -, taken⟩ | ⟨v, -, full, -⟩
  · rw [taken]
    exact ⟨Nat.le_succ _, fun src held => held⟩
  · have perm := insertRequest_perm { r with arrival := s.chs.nextArrival } s.chs.queue
    have queue : (takeChime r s).1.chs.queue = insertRequest { r with arrival := s.chs.nextArrival } s.chs.queue := by
      rw [taken]
      exact Chs.chooseIfSilent_queue _
    refine ⟨by rw [queue, perm.length_eq, List.length_cons], fun src held => ?_⟩
    obtain ⟨q, mem, source⟩ := List.any_eq_true.mp held
    unfold Chs.holds
    rw [queue]
    exact List.any_eq_true.mpr ⟨q, perm.mem_iff.mpr (List.mem_cons_of_mem _ mem), source⟩
  · exact absurd full (Nat.not_le_of_lt room)

/-! ## The alarms' turns at a minute -/

/-- One alarm's turn at a minute event (R78). -/
def alarmTurn (t : ClockTime) (a : AlarmIx) (s : State) : State :=
  if s.clk.alarms[a].isDue t then alarmMatch a s else s

theorem testAlarms_eq (t : ClockTime) (s : State) : testAlarms t s = eachIx 4 (alarmTurn t) s := rfl

section
variable (t : ClockTime) (a : AlarmIx) (s : State)

/-- The record of an alarm after its turn. -/
def Alarm.afterTurn (t : ClockTime) (x : Alarm) : Alarm := if x.isDue t then x.matched else x

theorem alarmTurn_due {t : ClockTime} {a : AlarmIx} {s : State} (due : s.clk.alarms[a].isDue t = true) :
    alarmTurn t a s = alarmMatch a s := if_pos due

theorem alarmTurn_clk : (alarmTurn t a s).clk = { s.clk with alarms := updAt s.clk.alarms a (Alarm.afterTurn t) } := by
  unfold alarmTurn
  split_ifs with due
  · have same : s.clk.alarms[a].matched = s.clk.alarms[a].afterTurn t := (if_pos due).symm
    rw [alarmMatch_clk, updAt_congr same]
  · have fixed : s.clk.alarms[a].afterTurn t = s.clk.alarms[a] := if_neg due
    rw [updAt_of_fixed fixed]

theorem alarmTurn_alarms_of_ne {b : AlarmIx} (ne : b ≠ a) : (alarmTurn t b s).clk.alarms[a] = s.clk.alarms[a] := by
  rw [alarmTurn_clk, updAt_get_other _ _ _ _ ne]

theorem alarmTurn_mask : (alarmTurn t a s).lkp.mask = s.lkp.mask := by
  unfold alarmTurn
  split_ifs
  · exact alarmMatch_mask a s
  · rfl

theorem alarmTurn_marks : MarksOnly s (alarmTurn t a s) := by
  unfold alarmTurn
  split_ifs
  · exact alarmMatch_marks a s
  · exact .refl s

theorem alarmTurn_flags : FlagsKept s (alarmTurn t a s) := by
  unfold alarmTurn
  split_ifs
  · exact alarmMatch_flags a s
  · exact .refl s

theorem alarmTurn_keeps_told {n : Notice} {s : State} (other : n.bit ∉ NoticesOnly.warnBits)
    (key : n.key = (Notice.alarm a).key → .alarm a = n) (told : s.lkp.Told n) : (alarmTurn t a s).lkp.Told n := by
  unfold alarmTurn
  split_ifs
  · exact alarmMatch_keeps_told a other key told
  · exact told

theorem alarmTurn_room {s : State} (room : s.chs.queue.length < 8) :
    (alarmTurn t a s).chs.queue.length ≤ s.chs.queue.length + 1 ∧
      ∀ src, s.chs.holds src = true → (alarmTurn t a s).chs.holds src = true := by
  unfold alarmTurn
  split_ifs
  · rw [alarmMatch_chs]
    exact takeChime_with_room nofun room
  · exact ⟨Nat.le_succ _, fun src held => held⟩

end

/-- The turns of a list of alarms with room for all their requests: they keep every request, and each that is due has
its own (R79, R112). -/
theorem alarmTurns_hold (t : ClockTime) (l : List AlarmIx) : ∀ s : State, s.chs.queue.length + l.length ≤ 8 →
    (∀ src, s.chs.holds src = true → (l.foldl (fun s a => alarmTurn t a s) s).chs.holds src = true) ∧
    ∀ a ∈ l, l.Nodup → s.clk.alarms[a].isDue t = true →
      (l.foldl (fun s a => alarmTurn t a s) s).chs.holds (.alarm a) = true := by
  induction l with
  | nil => exact fun s _ => ⟨fun src held => held, fun a mem => nomatch mem⟩
  | cons b l ih =>
    intro s room
    rw [List.length_cons] at room
    obtain ⟨longer, kept⟩ := alarmTurn_room t b (s := s) (by omega)
    obtain ⟨keeps, holds⟩ := ih (alarmTurn t b s) (by omega)
    refine ⟨fun src held => keeps src (kept src held), fun a mem once due => ?_⟩
    obtain ⟨apart, rest⟩ := List.nodup_cons.mp once
    rw [List.foldl_cons]
    by_cases same : b = a
    · subst same
      refine keeps _ ?_
      rw [alarmTurn_due due, alarmMatch_chs]
      exact takeChime_holds nofun (by omega)
    · rcases List.mem_cons.mp mem with rfl | later
      · exact absurd rfl same
      · exact holds a later rest (by rw [alarmTurn_alarms_of_ne t a s same]; exact due)

/-- What the alarms' turns at a minute bring. -/
structure AlarmsTested (t : ClockTime) (s v : State) : Prop where
  others : { v.clk with alarms := s.clk.alarms } = s.clk
  alarms : ∀ a : AlarmIx, v.clk.alarms[a] = s.clk.alarms[a].afterTurn t
  marks : MarksOnly s v
  flags : FlagsKept s v
  mask : v.lkp.mask = s.lkp.mask
  keeps_told : ∀ n : Notice, n.bit ∉ [1, 2, 3] → s.lkp.Told n → v.lkp.Told n
  told : ∀ a : AlarmIx, s.clk.alarms[a].isDue t = true → s.lkp.mask.getLsbD 3 = true → v.lkp.Told (.alarm a)
  marked : ∀ a : AlarmIx, s.clk.alarms[a].isDue t = true → 2 ≤ a.val → s.clk.alarms[a].rep = .once →
    Marked .alarmsRear s v
  holds : ∀ a : AlarmIx, s.clk.alarms[a].isDue t = true → s.chs.queue.length ≤ 4 → v.chs.holds (.alarm a) = true

section
variable (t : ClockTime) (s : State)

theorem testAlarms_alarm (a : AlarmIx) : (testAlarms t s).clk.alarms[a] = s.clk.alarms[a].afterTurn t := by
  rw [testAlarms_eq]
  refine eachIx_brings a (f := alarmTurn t) (before := fun x => x.clk.alarms[a] = s.clk.alarms[a])
    (goal := fun x => x.clk.alarms[a] = s.clk.alarms[a].afterTurn t) (fun x same => ?_)
    (fun b x ne same => (alarmTurn_alarms_of_ne t a x ne).trans same)
    (fun b x ne taken => (alarmTurn_alarms_of_ne t a x ne).trans taken) rfl
  rw [alarmTurn_clk, updAt_get_same, same]

theorem alarm_of_key {n : Notice} {a : AlarmIx} (other : n.bit ∉ [1, 2, 3]) :
    n.key = (Notice.alarm a).key → .alarm a = n := fun key => by
  have bit : n.bit = 3 := congrArg Prod.fst key
  exact absurd (by rw [bit]; decide) other

theorem testAlarms_told (a : AlarmIx) (due : s.clk.alarms[a].isDue t = true) (on : s.lkp.mask.getLsbD 3 = true) :
    (testAlarms t s).lkp.Told (.alarm a) := by
  rw [testAlarms_eq]
  refine eachIx_brings a (f := alarmTurn t)
    (before := fun x => x.clk.alarms[a] = s.clk.alarms[a] ∧ x.lkp.mask = s.lkp.mask)
    (goal := fun x => x.lkp.Told (.alarm a)) (fun x before => ?_) (fun b x ne before => ?_) (fun b x ne told => ?_)
    ⟨rfl, rfl⟩
  · obtain ⟨alarm, mask⟩ := before
    rw [alarmTurn_due (by rw [alarm]; exact due)]
    exact alarmMatch_told a x (by rw [mask]; exact on)
  · obtain ⟨alarm, mask⟩ := before
    exact ⟨(alarmTurn_alarms_of_ne t a x ne).trans alarm, (alarmTurn_mask t b x).trans mask⟩
  · refine alarmTurn_keeps_told t b (by simp [Notice.bit]) (fun key => ?_) told
    have index : a.val = b.val := congrArg Prod.snd key
    rw [Fin.ext index]

theorem testAlarms_marked (a : AlarmIx) (due : s.clk.alarms[a].isDue t = true) (rear : 2 ≤ a.val)
    (once : s.clk.alarms[a].rep = .once) : Marked .alarmsRear s (testAlarms t s) := by
  rw [testAlarms_eq]
  refine eachIx_brings a (f := alarmTurn t) (before := fun x => x.clk.alarms[a] = s.clk.alarms[a] ∧ MarksOnly s x)
    (goal := Marked .alarmsRear s) (fun x before => ?_) (fun b x ne before => ?_)
    (fun b x ne marked => MarksOnly.marked_then marked (alarmTurn_marks t b x)) ⟨rfl, .refl s⟩
  · obtain ⟨alarm, marks⟩ := before
    rw [alarmTurn_due (by rw [alarm]; exact due)]
    exact marks.then_marked (alarmMatch_marked rear (by rw [alarm]; exact once))
  · obtain ⟨alarm, marks⟩ := before
    exact ⟨(alarmTurn_alarms_of_ne t a x ne).trans alarm, marks.trans (alarmTurn_marks t b x)⟩

theorem alarmsTested : AlarmsTested t s (testAlarms t s) where
  others := eachIx_keeps (f := alarmTurn t) (get := fun x => { x.clk with alarms := s.clk.alarms }) (fun a x => by rw [alarmTurn_clk]) s
  alarms := testAlarms_alarm t s
  marks := eachIx_induct (f := alarmTurn t) (motive := MarksOnly s) (.refl s)
    (fun a x before => before.trans (alarmTurn_marks t a x))
  flags := FlagsKept.walk.eachIx (alarmTurn_flags t) s
  mask := eachIx_keeps (f := alarmTurn t) (get := fun x => x.lkp.mask) (alarmTurn_mask t) s
  keeps_told n other told := eachIx_induct (f := alarmTurn t) (motive := fun x => x.lkp.Told n) told
    (fun a x told => alarmTurn_keeps_told t a (fun mem => other (List.mem_append_left [3] mem)) (alarm_of_key other) told)
  told := testAlarms_told t s
  marked := testAlarms_marked t s
  holds a due room := (alarmTurns_hold t (List.finRange 4) s (by rw [List.length_finRange]; omega)).2 a
    (List.mem_finRange a) (List.nodup_finRange 4) due

end

/-! ## The handing of a second boundary (R69, R70, R72) -/

/-- The blocks a second boundary is handed to. -/
abbrev secondTakers : List Block := [.tau, .clk, .clc, .svs, .wtb, .lkp]

section
variable (t : ClockTime) (st : ClockState) (rollover : Bool)

theorem takeSecond_marks (b : Block) (s : State) : MarksOnly s (takeSecond t st rollover b s) := by
  cases b
  case tau => exact tauSecond_marks s
  case clk =>
    unfold takeSecond
    dsimp only
    split_ifs
    · exact (alarmsTested t s).marks
    · exact .refl s
  case clc =>
    unfold takeSecond
    dsimp only
    split_ifs
    · exact .mark _ s
    · exact .refl s
  case svs =>
    unfold takeSecond
    dsimp only
    split_ifs
    · exact (CountsOnly.countItems _ s).marks
    · exact .refl s
  case wtb =>
    unfold takeSecond
    dsimp only
    split_ifs
    · exact .wtbTake _ _ s
    · exact .refl s
  all_goals exact .of_only (takeSecond_parts s t st rollover _)

theorem svsMidnight_notices (s : State) : NoticesOnly itemBits s (svsMidnight s) := .countItems _ s

theorem wtbClock_notices (st : ClockState) (s : State) : NoticesOnly NoticesOnly.warnBits s (wtbClock st s) :=
  .wtbTake _ _ s

theorem takeSecond_mask (b : Block) (s : State) : (takeSecond t st rollover b s).lkp.mask = s.lkp.mask := by
  cases b
  case tau => exact (tauSecond_notices s).mask_eq
  case clk =>
    unfold takeSecond
    dsimp only
    split_ifs
    · exact (alarmsTested t s).mask
    · rfl
  case svs =>
    unfold takeSecond
    dsimp only
    split_ifs
    · exact (svsMidnight_notices s).mask_eq
    · rfl
  case wtb =>
    unfold takeSecond
    dsimp only
    split_ifs
    · exact (wtbClock_notices st s).mask_eq
    · rfl
  case lkp =>
    unfold takeSecond
    dsimp only
    split_ifs <;> rfl
  all_goals rw [(takeSecond_parts s t st rollover _).lkp_eq (by decide)]

/-- A notice that neither the WTB, the CHS nor the SVS queues stays told, by every block whose own it is not. -/
theorem takeSecond_told (b : Block) (s : State) {n : Notice} (bit : n.bit ∉ itemBits)
    (tau : b = .tau → n.bit ∉ tripBits) (clk : b = .clk → n.bit ∉ [1, 2, 3]) (told : s.lkp.Told n) :
    (takeSecond t st rollover b s).lkp.Told n := by
  cases b
  case tau => exact (tauSecond_notices s).told (tau rfl) told
  case clk =>
    unfold takeSecond
    dsimp only
    split_ifs
    · exact (alarmsTested t s).keeps_told n (clk rfl) told
    · exact told
  case svs =>
    unfold takeSecond
    dsimp only
    split_ifs
    · exact (svsMidnight_notices s).told bit told
    · exact told
  case wtb =>
    unfold takeSecond
    dsimp only
    split_ifs
    · exact (wtbClock_notices st s).told (fun mem => bit (List.mem_append_left [4] mem)) told
    · exact told
  case lkp =>
    unfold takeSecond
    dsimp only
    split_ifs <;> exact told
  all_goals
    rw [(takeSecond_parts s t st rollover _).lkp_eq (by decide)]
    exact told

theorem takeSecond_quiet (b : Block) (other : b ≠ .clk) (s : State) : Quiet s (takeSecond t st rollover b s) := by
  cases b
  case clk => exact absurd rfl other
  case tau => exact .tauSecond s
  case svs =>
    unfold takeSecond
    dsimp only
    split_ifs
    · exact .countItems _ s
    · exact .refl s
  case wtb =>
    unfold takeSecond
    dsimp only
    split_ifs
    · exact .wtbTake _ _ s
    · exact .refl s
  all_goals exact .of_only (takeSecond_parts s t st rollover _)

theorem secondParts_tau {b : Block} (other : b ≠ .tau) : Part.tau ∉ secondParts b := by
  cases b
  case tau => exact absurd rfl other
  all_goals decide

theorem secondParts_clk {b : Block} (other : b ≠ .clk) : Part.clk ∉ secondParts b := by
  cases b
  case clk => exact absurd rfl other
  all_goals decide

theorem secondParts_svs {b : Block} (tau : b ≠ .tau) (svs : b ≠ .svs) : Part.svs ∉ secondParts b := by
  cases b
  case tau => exact absurd rfl tau
  case svs => exact absurd rfl svs
  all_goals decide

variable {t st rollover}

theorem takeSecond_tau_of_ne {b : Block} (other : b ≠ .tau) (s : State) :
    (takeSecond t st rollover b s).tau = s.tau :=
  (takeSecond_parts s t st rollover b).tau_eq (secondParts_tau other)

theorem takeSecond_clk_of_ne {b : Block} (other : b ≠ .clk) (s : State) :
    (takeSecond t st rollover b s).clk = s.clk :=
  takeSecond_parts s t st rollover b .clk (secondParts_clk other)

/-- What the blocks bring together, in whatever order they take their turns. -/
theorem handed_second_tau (u : State) : (hand secondTakers (takeSecond t st rollover) u).tau = u.tau.takeSecond := by
  refine hand_reaches (b := .tau) (before := fun x => x.tau = u.tau) (goal := fun x => x.tau = u.tau.takeSecond)
    (by decide) (fun _ _ same => same) (fun x same => ?_)
    (fun b x ne same => (takeSecond_tau_of_ne ne x).trans same)
    (fun b x ne same => (takeSecond_tau_of_ne ne x).trans same) rfl
  exact (tauSecond_tau x).trans (by rw [same])

theorem handed_second_trip_told {u : State} {n : TripIx} (awake : u.tau.power ≠ .parked)
    (opened : u.tau.trips[n].state = .open) (fills : u.tau.trips[n].running = 3599998)
    (on : u.lkp.mask.getLsbD 8 = true) :
    (hand secondTakers (takeSecond t st rollover) u).lkp.Told (.trip n.castSucc .saturated) := by
  refine hand_reaches (b := .tau) (before := fun x => x.tau = u.tau ∧ x.lkp.mask = u.lkp.mask)
    (goal := fun x => x.lkp.Told (.trip n.castSucc .saturated))
    (by decide) (fun _ _ same => same) (fun x before => ?_) (fun b x ne before => ?_) (fun b x ne told => ?_) ⟨rfl, rfl⟩
  · obtain ⟨tau, mask⟩ := before
    exact tauSecond_told (by rw [tau]; exact awake) (by rw [tau]; exact opened) (by rw [tau]; exact fills)
      (by rw [mask]; exact on)
  · obtain ⟨tau, mask⟩ := before
    exact ⟨(takeSecond_tau_of_ne ne x).trans tau, (takeSecond_mask t st rollover b x).trans mask⟩
  · exact takeSecond_told t st rollover b x (by simp [Notice.bit]) (fun same => absurd same ne) (fun _ => by simp [Notice.bit])
      told

theorem handed_second_trip_marked {u : State} (awake : u.tau.power ≠ .parked)
    (opened : u.tau.trips[(3 : TripIx)].state = .open)
    (minute : min (u.tau.trips[(3 : TripIx)].running + 1) 3599999 / 60 ≠ u.tau.trips[(3 : TripIx)].running / 60) :
    Marked .passengerTrip u (hand secondTakers (takeSecond t st rollover) u) := by
  refine hand_reaches (b := .tau) (before := fun x => x.tau = u.tau ∧ MarksOnly u x) (goal := Marked .passengerTrip u)
    (by decide) (fun _ _ same => same) (fun x before => ?_) (fun b x ne before => ?_)
    (fun b x ne marked => MarksOnly.marked_then marked (takeSecond_marks t st rollover b x)) ⟨rfl, .refl u⟩
  · obtain ⟨tau, marks⟩ := before
    exact marks.then_marked
      (tauSecond_marked (by rw [tau]; exact awake) (by rw [tau]; exact opened) (by rw [tau]; exact minute))
  · obtain ⟨tau, marks⟩ := before
    exact ⟨(takeSecond_tau_of_ne ne x).trans tau, marks.trans (takeSecond_marks t st rollover b x)⟩

theorem handed_second_clock_marked (minute : t.second = 0) (u : State) :
    Marked .clock u (hand secondTakers (takeSecond t st rollover) u) := by
  refine hand_reaches (b := .clc) (before := MarksOnly u) (goal := Marked .clock u) (by decide)
    (fun _ _ same => same) (fun x marks => ?_) (fun b x ne marks => marks.trans (takeSecond_marks t st rollover b x))
    (fun b x ne marked => MarksOnly.marked_then marked (takeSecond_marks t st rollover b x)) (.refl u)
  have taken : takeSecond t st rollover .clc x = mark .clock x := if_pos minute
  rw [taken]
  exact marks.then_marked (marked_mark _ _)

/-- The alarms are tested at a minute of the SET clock (R78). -/
theorem handed_second_clk (u : State) :
    { (hand secondTakers (takeSecond t st rollover) u).clk with alarms := u.clk.alarms } = u.clk ∧
    ∀ a : AlarmIx, (hand secondTakers (takeSecond t st rollover) u).clk.alarms[a] =
      if t.second = 0 ∧ st = .set then u.clk.alarms[a].afterTurn t else u.clk.alarms[a] := by
  refine hand_reaches (b := .clk) (before := fun x => x.clk = u.clk)
    (goal := fun x => { x.clk with alarms := u.clk.alarms } = u.clk ∧ ∀ a : AlarmIx, x.clk.alarms[a] =
      if t.second = 0 ∧ st = .set then u.clk.alarms[a].afterTurn t else u.clk.alarms[a])
    (by decide) (fun _ _ same => same) (fun x same => ?_)
    (fun b x ne same => (takeSecond_clk_of_ne ne x).trans same)
    (fun b x ne same => by rw [takeSecond_clk_of_ne ne x]; exact same) rfl
  rw [← same]
  by_cases minute : t.second = 0 ∧ st = .set
  · have taken : takeSecond t st rollover .clk x = testAlarms t x := if_pos minute
    rw [taken]
    refine ⟨(alarmsTested t x).others, fun a => ?_⟩
    rw [if_pos minute, (alarmsTested t x).alarms]
  · have taken : takeSecond t st rollover .clk x = x := if_neg minute
    rw [taken]
    exact ⟨rfl, fun a => (if_neg minute).symm⟩

section
variable {u : State} {a : AlarmIx} (minute : t.second = 0 ∧ st = .set) (due : u.clk.alarms[a].isDue t = true)
include minute due

theorem handed_second_alarm_told (on : u.lkp.mask.getLsbD 3 = true) :
    (hand secondTakers (takeSecond t st rollover) u).lkp.Told (.alarm a) := by
  refine hand_reaches (b := .clk) (before := fun x => x.clk = u.clk ∧ x.lkp.mask = u.lkp.mask)
    (goal := fun x => x.lkp.Told (.alarm a))
    (by decide) (fun _ _ same => same) (fun x before => ?_) (fun b x ne before => ?_) (fun b x ne told => ?_) ⟨rfl, rfl⟩
  · obtain ⟨clk, mask⟩ := before
    have taken : takeSecond t st rollover .clk x = testAlarms t x := if_pos minute
    rw [taken]
    exact (alarmsTested t x).told a (by rw [clk]; exact due) (by rw [mask]; exact on)
  · obtain ⟨clk, mask⟩ := before
    exact ⟨(takeSecond_clk_of_ne ne x).trans clk, (takeSecond_mask t st rollover b x).trans mask⟩
  · exact takeSecond_told t st rollover b x (by simp [Notice.bit]) (fun _ => by simp [Notice.bit])
      (fun same => absurd same ne) told

theorem handed_second_alarm_marked (rear : 2 ≤ a.val) (once : u.clk.alarms[a].rep = .once) :
    Marked .alarmsRear u (hand secondTakers (takeSecond t st rollover) u) := by
  refine hand_reaches (b := .clk) (before := fun x => x.clk = u.clk ∧ MarksOnly u x) (goal := Marked .alarmsRear u)
    (by decide) (fun _ _ same => same) (fun x before => ?_) (fun b x ne before => ?_)
    (fun b x ne marked => MarksOnly.marked_then marked (takeSecond_marks t st rollover b x)) ⟨rfl, .refl u⟩
  · obtain ⟨clk, marks⟩ := before
    have taken : takeSecond t st rollover .clk x = testAlarms t x := if_pos minute
    rw [taken]
    exact marks.then_marked ((alarmsTested t x).marked a (by rw [clk]; exact due) rear (by rw [clk]; exact once))
  · obtain ⟨clk, marks⟩ := before
    exact ⟨(takeSecond_clk_of_ne ne x).trans clk, marks.trans (takeSecond_marks t st rollover b x)⟩

/-- With no patterns among the entries and room for the four alarms' requests, an alarm that matches has its own. -/
theorem handed_second_alarm_holds (silent : NoPatterns u) (room : u.chs.queue.length ≤ 4) :
    (hand secondTakers (takeSecond t st rollover) u).chs.holds (.alarm a) = true := by
  have held : ∀ x : State, NoPatterns x ∧ x.chs.holds (.alarm a) = true → x.chs.holds (.alarm a) = true := fun x h => h.2
  refine held _ (hand_reaches (b := .clk)
    (before := fun x => x.clk = u.clk ∧ NoPatterns x ∧ x.chs.queue.length ≤ 4)
    (goal := fun x => NoPatterns x ∧ x.chs.holds (.alarm a) = true)
    (by decide) (fun _ _ same => same) (fun x before => ?_) (fun b x ne before => ?_) (fun b x ne goal => ?_)
    ⟨rfl, silent, room⟩)
  · obtain ⟨clk, silent, room⟩ := before
    have taken : takeSecond t st rollover .clk x = testAlarms t x := if_pos minute
    rw [taken]
    refine ⟨fun w => ?_, (alarmsTested t x).holds a (by rw [clk]; exact due) room⟩
    rw [((alarmsTested t x).flags w).1]
    exact silent w
  · obtain ⟨clk, silent, room⟩ := before
    obtain ⟨silent', fewer, -⟩ := takeSecond_quiet t st rollover b ne x silent
    exact ⟨(takeSecond_clk_of_ne ne x).trans clk, silent', fewer.trans room⟩
  · obtain ⟨silent, holds⟩ := goal
    obtain ⟨silent', -, kept⟩ := takeSecond_quiet t st rollover b ne x silent
    exact ⟨silent', kept a holds⟩

end

/-! ### The items -/

/-- A midnight that leaves the clock SET (R70). -/
abbrev Midnight (t : ClockTime) (st : ClockState) : Prop := t.hour = 0 ∧ t.minute = 0 ∧ t.second = 0 ∧ st = .set

theorem takeSecond_svs_items (i : ItemIx) (x : State) : (takeSecond t st rollover .svs x).svs.items[i] =
    if Midnight t st ∧ x.svs.items[i].enabled = true
    then { x.svs.items[i].downDays with state := x.svs.items[i].downDays.decided } else x.svs.items[i] := by
  by_cases midnight : Midnight t st
  · have taken : takeSecond t st rollover .svs x = svsMidnight x := if_pos midnight
    rw [taken, svsMidnight, countItems_item]
    exact if_congr (and_iff_right midnight).symm rfl rfl
  · have taken : takeSecond t st rollover .svs x = x := if_neg midnight
    rw [taken, if_neg fun both => midnight both.1]

theorem takeSecond_tau_items (i : ItemIx) (x : State) : (takeSecond t st rollover .tau x).svs.items[i] =
    if x.tau.Tenth ∧ x.svs.items[i].enabled = true
    then { x.svs.items[i].downHours with state := x.svs.items[i].downHours.decided } else x.svs.items[i] :=
  tauSecond_items x i

/-- The blocks other than the TAU leave an item but for its days and its state. -/
theorem takeSecond_item_of_ne_tau {b : Block} (other : b ≠ .tau) (i : ItemIx) (x : State) :
    ∃ days st', (takeSecond t st rollover b x).svs.items[i] = { x.svs.items[i] with remainingDays := days, state := st' } := by
  by_cases svs : b = .svs
  · subst svs
    rw [takeSecond_svs_items]
    split_ifs
    · rw [(downDays_fields _).1]
      exact ⟨_, _, rfl⟩
    · exact ⟨_, _, rfl⟩
  · rw [(takeSecond_parts x t st rollover b).svs_eq (secondParts_svs other svs)]
    exact ⟨_, _, rfl⟩

/-- The blocks other than the SVS leave an item but for its hours and its state. -/
theorem takeSecond_item_of_ne_svs {b : Block} (other : b ≠ .svs) (i : ItemIx) (x : State) :
    ∃ hours st', (takeSecond t st rollover b x).svs.items[i] = { x.svs.items[i] with remainingHours := hours, state := st' } := by
  by_cases tau : b = .tau
  · subst tau
    rw [takeSecond_tau_items]
    split_ifs
    · rw [(downHours_fields _).1]
      exact ⟨_, _, rfl⟩
    · exact ⟨_, _, rfl⟩
  · rw [(takeSecond_parts x t st rollover b).svs_eq (secondParts_svs tau other)]
    exact ⟨_, _, rfl⟩

theorem handed_second_distance (i : ItemIx) (u : State) :
    (hand secondTakers (takeSecond t st rollover) u).svs.items[i].remainingDistance =
      u.svs.items[i].remainingDistance := by
  refine hand_keeps (get := fun x => x.svs.items[i].remainingDistance) (fun _ _ => rfl) (fun b x => ?_) _ u
  by_cases tau : b = .tau
  · subst tau
    obtain ⟨_, _, left⟩ := takeSecond_item_of_ne_svs (t := t) (st := st) (rollover := rollover) (b := .tau)
      (by decide) i x
    rw [left]
  · obtain ⟨_, _, left⟩ := takeSecond_item_of_ne_tau (t := t) (st := st) (rollover := rollover) tau i x
    rw [left]

theorem handed_second_days {i : ItemIx} {u : State} {n : Nat} {r : Int} (interval : u.svs.items[i].daysInterval = some n)
    (days : u.svs.items[i].remainingDays = some r) :
    (hand secondTakers (takeSecond t st rollover) u).svs.items[i].remainingDays =
      if u.svs.items[i].enabled = true ∧ Midnight t st then some (max (r - 1) (-2 * n)) else some r := by
  refine hand_reaches (b := .svs) (before := fun x => x.svs.items[i].enabled = u.svs.items[i].enabled ∧
      x.svs.items[i].daysInterval = some n ∧ x.svs.items[i].remainingDays = some r)
    (goal := fun x => x.svs.items[i].remainingDays =
      if u.svs.items[i].enabled = true ∧ Midnight t st then some (max (r - 1) (-2 * n)) else some r)
    (by decide) (fun _ _ same => same) (fun x before => ?_) (fun b x ne before => ?_) (fun b x ne goal => ?_)
    ⟨rfl, interval, days⟩
  · obtain ⟨enabled, interval, days⟩ := before
    have counted := (downDays_fields x.svs.items[i]).2 n r interval days
    rw [takeSecond_svs_items, ← enabled]
    by_cases counts : x.svs.items[i].enabled = true ∧ Midnight t st
    · rw [if_pos counts, if_pos counts.symm]
      exact counted
    · rw [if_neg counts, if_neg fun both => counts both.symm]
      exact days
  · obtain ⟨_, _, left⟩ := takeSecond_item_of_ne_svs (t := t) (st := st) (rollover := rollover) ne i x
    rw [left]
    exact before
  · obtain ⟨_, _, left⟩ := takeSecond_item_of_ne_svs (t := t) (st := st) (rollover := rollover) ne i x
    rw [left]
    exact goal

theorem handed_second_hours {i : ItemIx} {u : State} {n : Nat} {r : Int}
    (interval : u.svs.items[i].hoursInterval = some n) (hours : u.svs.items[i].remainingHours = some r) :
    (hand secondTakers (takeSecond t st rollover) u).svs.items[i].remainingHours =
      if u.svs.items[i].enabled = true ∧ u.tau.Tenth then some (max (r - 1) (-2 * n)) else some r := by
  refine hand_reaches (b := .tau) (before := fun x => x.tau = u.tau ∧ x.svs.items[i].enabled = u.svs.items[i].enabled ∧
      x.svs.items[i].hoursInterval = some n ∧ x.svs.items[i].remainingHours = some r)
    (goal := fun x => x.svs.items[i].remainingHours =
      if u.svs.items[i].enabled = true ∧ u.tau.Tenth then some (max (r - 1) (-2 * n)) else some r)
    (by decide) (fun _ _ same => same) (fun x before => ?_) (fun b x ne before => ?_) (fun b x ne goal => ?_)
    ⟨rfl, rfl, interval, hours⟩
  · obtain ⟨tau, enabled, interval, hours⟩ := before
    have counted := (downHours_fields x.svs.items[i]).2 n r interval hours
    rw [takeSecond_tau_items, ← enabled, ← tau]
    by_cases counts : x.svs.items[i].enabled = true ∧ x.tau.Tenth
    · rw [if_pos counts, if_pos counts.symm]
      exact counted
    · rw [if_neg counts, if_neg fun both => counts both.symm]
      exact hours
  · obtain ⟨tau, rest⟩ := before
    obtain ⟨_, _, left⟩ := takeSecond_item_of_ne_tau (t := t) (st := st) (rollover := rollover) ne i x
    rw [left]
    exact ⟨(takeSecond_tau_of_ne ne x).trans tau, rest⟩
  · obtain ⟨_, _, left⟩ := takeSecond_item_of_ne_tau (t := t) (st := st) (rollover := rollover) ne i x
    rw [left]
    exact goal

end

end Sys2Proof.Machine
end

section
/-! The clock's advance, and the second boundary's obligation (R67, R68, R78, R79). -/

namespace Sys2Proof.Machine

-- One theorem at a time, so that a build as one text needs few threads.
set_option Elab.async false

/-! ## The clock -/

theorem ClockTime.tick_eq (t : ClockTime) :
    let days := if t.month = 2 then (if t.year % 4 = 0 then 29 else 28)
      else if t.month = 4 ∨ t.month = 6 ∨ t.month = 9 ∨ t.month = 11 then 30 else 31
    t.tick = if t.second < 59 then { t with second := t.second + 1 }
      else if t.minute < 59 then { t with second := 0, minute := t.minute + 1 }
      else if t.hour < 23 then { t with second := 0, minute := 0, hour := t.hour + 1 }
      else if t.day < days then { t with second := 0, minute := 0, hour := 0, day := t.day + 1 }
      else if t.month < 12 then { t with second := 0, minute := 0, hour := 0, day := 1, month := t.month + 1 }
      else { year := if t.year < 2079 then t.year + 1 else 1980, month := 1, day := 1, hour := 0, minute := 0,
             second := 0 } := by
  intro days
  have last : (if t.year < 2079 then
        { t with second := 0, minute := 0, hour := 0, day := 1, month := 1, year := t.year + 1 } else ClockTime.epoch) =
      { year := if t.year < 2079 then t.year + 1 else 1980, month := 1, day := 1, hour := 0, minute := 0, second := 0 } := by
    split_ifs <;> rfl
  unfold ClockTime.tick
  rw [last]
  rfl

theorem ClockTime.lastSecond_iff (t : ClockTime) : t.lastSecond = true ↔
    t = { year := 2079, month := 12, day := 31, hour := 23, minute := 59, second := 59 } := by
  obtain ⟨year, month, day, hour, minute, second⟩ := t
  simp only [ClockTime.lastSecond, Bool.and_eq_true, decide_eq_true_iff, ClockTime.mk.injEq]
  tauto

/-! ## An alarm's turn -/

theorem Alarm.isDue_iff (x : Alarm) (t : ClockTime) : x.isDue t = true ↔ x.enabled = true ∧ x.hour = t.hour ∧
    x.minute = t.minute ∧ (x.dayMask = 0 ∨ x.dayMask.getLsbD t.weekday = true) := by
  unfold Alarm.isDue
  rw [Bool.and_eq_true, Bool.and_eq_true, Bool.and_eq_true, Bool.or_eq_true, decide_eq_true_iff, decide_eq_true_iff,
    decide_eq_true_iff]
  tauto

/-- A turn disables an alarm that is due and repeats ONCE, and changes nothing else. -/
theorem Alarm.afterTurn_eq (x : Alarm) (t : ClockTime) : x.afterTurn t = { x with
    enabled := x.enabled && !(decide (x.hour = t.hour ∧ x.minute = t.minute ∧ x.rep = .once ∧
      (x.dayMask = 0 ∨ x.dayMask.getLsbD t.weekday = true))) } := by
  unfold Alarm.afterTurn Alarm.matched
  by_cases enabled : x.enabled = true
  · by_cases matches_ : x.hour = t.hour ∧ x.minute = t.minute ∧ x.rep = .once ∧
        (x.dayMask = 0 ∨ x.dayMask.getLsbD t.weekday = true)
    · obtain ⟨hour, minute, once, day⟩ := matches_
      rw [if_pos ((x.isDue_iff t).mpr ⟨enabled, hour, minute, day⟩), if_pos once,
        decide_eq_true ⟨hour, minute, once, day⟩, Bool.not_true, Bool.and_false]
    · have kept : (if x.isDue t = true then if x.rep = .once then { x with enabled := false } else x else x) = x := by
        split_ifs with due once
        · obtain ⟨-, hour, minute, day⟩ := (x.isDue_iff t).mp due
          exact absurd ⟨hour, minute, once, day⟩ matches_
        · rfl
        · rfl
      rw [kept, decide_eq_false matches_, Bool.not_false, Bool.and_true]
  · have off : x.enabled = false := by simpa using enabled
    rw [if_neg fun due => enabled ((x.isDue_iff t).mp due).1, off, Bool.false_and, ← off]

theorem alarmRequest_eq (c : Chs) (a : AlarmIx) (x : Alarm) : alarmRequest c a x =
    { source := .alarm a, cls := .advisory, pattern := x.pattern, dest := x.dest, arrival := 0, tag := none
      passes := match c.patterns[x.pattern].passes with
        | .times k => .times k
        | .whileActive => .times 1 } := by
  unfold alarmRequest
  cases c.patterns[x.pattern].passes <;> rfl

/-- A match of an alarm, written out (R79). -/
theorem alarmMatch_eq (a : AlarmIx) (s : State) {r : ChimeRequest} (request : alarmRequest s.chs a s.clk.alarms[a] = r) :
    let sounded := (takeChime r s).1.modLkp fun l => l.takeNotice (.alarm a)
    let disabled := sounded.modClk fun c =>
      { c with alarms := c.alarms.set a { s.clk.alarms[a] with enabled := false } }
    alarmMatch a s = match s.clk.alarms[a].rep with
      | .daily => sounded
      | .once => if 2 ≤ a.val then mark .alarmsRear disabled else disabled := by
  intro sounded disabled
  have takes : alarmSounded a s = sounded := by
    unfold alarmSounded
    rw [request]
    rfl
  cases rep : s.clk.alarms[a].rep with
  | daily => exact (alarmMatch_daily a s (by rw [rep]; decide)).trans takes
  | once =>
    have clears : (alarmSounded a s).modAlarm a (fun x => { x with enabled := false }) = disabled := by
      have alarm : sounded.clk.alarms[a] = s.clk.alarms[a] := by rw [← takes, alarmSounded_clk]
      unfold disabled
      rw [takes, ← alarm]
      rfl
    rw [alarmMatch_once a s rep, clears]
    rfl

/-! ## The second boundary -/

/-- The clock state a second boundary ends with (R68). -/
abbrev stateAfter (s : State) : ClockState := if s.clk.time.lastSecond then .unset else s.clk.state

/-- The state whose blocks are handed a second boundary. -/
abbrev secondBegun (s : State) : State := s.modClk fun c =>
  { c with time := s.clk.time.tick, state := stateAfter s, secondLength := trimmedSecond c.trim }

theorem secondBoundary_eq (s : State) : secondBoundary s = hand secondTakers
    (takeSecond s.clk.time.tick (stateAfter s) (stateAfter s ≠ s.clk.state)) (secondBegun s) := rfl

theorem exec_secondBoundary {s : State} (supplied : s.igs.supplied = true) :
    exec .secondBoundary s = .next (settle (secondBoundary s)) := takeEvent_supplied supplied

section
variable (s : State)

theorem secondBoundary_clk : (secondBoundary s).clk.time = s.clk.time.tick ∧
    (secondBoundary s).clk.state = stateAfter s ∧
    (secondBoundary s).clk.secondLength = (1000000 - 2 * s.clk.trim).toNat ∧
    (secondBoundary s).clk.trim = s.clk.trim ∧ (secondBoundary s).clk.lock = s.clk.lock ∧
    ∀ a : AlarmIx, (secondBoundary s).clk.alarms[a] = if s.clk.time.tick.second = 0 ∧ stateAfter s = .set
      then s.clk.alarms[a].afterTurn s.clk.time.tick else s.clk.alarms[a] := by
  obtain ⟨others, alarms⟩ := handed_second_clk (t := s.clk.time.tick) (st := stateAfter s)
    (rollover := stateAfter s ≠ s.clk.state) (secondBegun s)
  rw [← secondBoundary_eq] at others alarms
  have field {α : Type} (get : Clk → α) := congrArg get others
  exact ⟨field Clk.time, field Clk.state, field Clk.secondLength, field Clk.trim, field Clk.lock, alarms⟩

theorem secondBoundary_tau : (secondBoundary s).tau = s.tau.takeSecond := by
  rw [secondBoundary_eq]
  exact handed_second_tau (secondBegun s)

/-- Marks between the handed state and the end are marks from the start. -/
theorem marked_of_begun {item : MirrorItem} {t : State} (marked : Marked item (secondBegun s) t) : Marked item s t :=
  (MarksOnly.of_only (modClk_only s _)).then_marked marked

end

theorem Tau.takeSecond_trip (u : Tau) (i : TripIx) : u.takeSecond.trips[i] =
    if u.power ≠ .parked ∧ u.trips[i].state = .open then
      { u.trips[i] with
        running := min (u.trips[i].running + 1) 3599999
        moving := if u.roadLive then min (u.trips[i].moving + 1) 3599999 else u.trips[i].moving }
    else u.trips[i] := by
  unfold Tau.takeSecond
  by_cases parked : u.power = .parked
  · rw [if_pos parked, if_neg fun both => both.1 parked]
    rfl
  · rw [if_neg parked, mapAll_get, Trip.takeSecond]
    exact if_congr (and_iff_right parked).symm rfl rfl

theorem Tau.takeSecond_bucket (u : Tau) : u.takeSecond.bucket = if u.power ≠ .parked
    then { u.bucket with seconds := min (u.bucket.seconds + 1) 65535 } else u.bucket := by
  unfold Tau.takeSecond
  by_cases parked : u.power = .parked
  · rw [if_pos parked, if_neg fun awake => awake parked]
    rfl
  · rw [if_neg parked, if_pos parked]

/-- The bucket and the trips aside, a second is one at the engine hours. -/
theorem Tau.takeSecond_engine (u : Tau) : { u.takeSecond with bucket := u.bucket, trips := u.trips } = u.countEngine := by
  unfold Tau.takeSecond
  split_ifs <;> rfl

/-- Settles O43: each block's turn by its own rules, in whatever order the turns come. -/
theorem secondsPass : Obligations.SecondsPass := by
  unfold Obligations.SecondsPass
  refine ⟨fun a s => alarmMatch_eq a s (alarmRequest_eq _ _ _), tripSecond_lkp, fun s supplied =>
    ⟨secondBoundary s, exec_secondBoundary supplied, secondBoundary_only s, ?_⟩⟩
  intro t days n
  obtain ⟨time, state, length, trim, lock, alarms⟩ := secondBoundary_clk s
  have due (a : AlarmIx) (enabled : s.clk.alarms[a].enabled = true) (hour : s.clk.alarms[a].hour = n.hour)
      (minute : s.clk.alarms[a].minute = n.minute)
      (day : s.clk.alarms[a].dayMask = 0 ∨ s.clk.alarms[a].dayMask.getLsbD n.weekday = true) :
      s.clk.alarms[a].isDue s.clk.time.tick = true := by
    rw [Alarm.isDue_iff, ← time]
    exact ⟨enabled, hour, minute, day⟩
  have begun (second : n.second = 0) (set : (secondBoundary s).clk.state = .set) :
      s.clk.time.tick.second = 0 ∧ stateAfter s = .set := ⟨(congrArg ClockTime.second time).symm.trans second,
        state.symm.trans set⟩
  refine ⟨time.trans (ClockTime.tick_eq t), ?_, length, trim, lock, fun a => ?_,
    fun a enabled second set hour minute day => ⟨fun on => ?_, fun silent room => ?_, fun rear once => ?_⟩,
    fun second => ?_, fun awake opened minute => ?_, ?_⟩
  · rw [state]
    exact if_congr (ClockTime.lastSecond_iff t) rfl rfl
  · rw [alarms]
    split_ifs with minute
    · rw [Alarm.afterTurn_eq, ← time]
      have same : (s.clk.alarms[a].hour = n.hour ∧ s.clk.alarms[a].minute = n.minute ∧ s.clk.alarms[a].rep = .once ∧
          (s.clk.alarms[a].dayMask = 0 ∨ s.clk.alarms[a].dayMask.getLsbD n.weekday = true)) ↔
          (n.second = 0 ∧ (secondBoundary s).clk.state = .set ∧ s.clk.alarms[a].hour = n.hour ∧
            s.clk.alarms[a].minute = n.minute ∧ s.clk.alarms[a].rep = .once ∧
            (s.clk.alarms[a].dayMask = 0 ∨ s.clk.alarms[a].dayMask.getLsbD n.weekday = true)) := by
        rw [state]
        have second : n.second = 0 := (congrArg ClockTime.second time).trans minute.1
        exact ⟨fun all => ⟨second, minute.2, all⟩, fun all => all.2.2⟩
      rw [decide_eq_decide.mpr same]
    · have quiet : ¬ (n.second = 0 ∧ (secondBoundary s).clk.state = .set ∧ s.clk.alarms[a].hour = n.hour ∧
          s.clk.alarms[a].minute = n.minute ∧ s.clk.alarms[a].rep = .once ∧
          (s.clk.alarms[a].dayMask = 0 ∨ s.clk.alarms[a].dayMask.getLsbD n.weekday = true)) := by
        rintro ⟨second, set, -⟩
        exact minute (begun second set)
      rw [decide_eq_false quiet, Bool.not_false, Bool.and_true]
  · exact handed_second_alarm_told (u := secondBegun s) (begun second set)
      (due a enabled hour minute day) on
  · exact handed_second_alarm_holds (u := secondBegun s) (begun second set)
      (due a enabled hour minute day) silent room
  · exact marked_of_begun s (handed_second_alarm_marked (u := secondBegun s)
      (begun second set) (due a enabled hour minute day) rear once)
  · exact marked_of_begun s (handed_second_clock_marked (by rw [← time]; exact second) _)
  · exact marked_of_begun s (handed_second_trip_marked (u := secondBegun s) awake opened minute)
  · have engine {α : Type} (get : Tau → α) := congrArg get s.tau.takeSecond_engine
    rw [secondBoundary_tau]
    refine ⟨engine Tau.engineResidue, engine Tau.engineHours, engine Tau.odometer, engine Tau.ring,
      engine Tau.destination, s.tau.takeSecond_trip, fun i awake opened fills on =>
        handed_second_trip_told (u := secondBegun s) awake opened fills on, s.tau.takeSecond_bucket,
      fun i => ⟨handed_second_distance i _, fun I r interval days => ?_, fun I r interval hours =>
        handed_second_hours (u := secondBegun s) interval hours⟩⟩
    rw [secondBoundary_eq, handed_second_days (u := secondBegun s) interval days, ← secondBoundary_eq]
    exact if_congr (and_congr_right fun _ => iff_of_eq (congrArg₂ Midnight time.symm state.symm)) rfl rfl

end Sys2Proof.Machine
end

section
/-! No event ends with work undone (R150, R191, R192). -/

namespace Sys2Proof.Machine

-- One theorem at a time, so that a build as one text needs few threads.
set_option Elab.async false

/-! ## The line -/

/-- A free line has nothing waiting (R150). -/
def Clc.Done (c : Clc) : Prop := c.lineFree = true →
  c.retry = none ∧ (∀ p ∈ c.pass, p.phase ≠ .waiting) ∧ c.firstDue = none ∧ c.mirrorQueue = []

/-- A line with a transaction is not free. -/
theorem startTxn_done (k : TxnKind) (s : State) : (startTxn k s).clc.Done := fun free => by
  have busy : (startTxn k s).clc.lineFree = false := Clc.lineFree_eq_false (.inr (.inl nofun))
  exact nomatch busy.symm.trans free

section
variable {s : State}

theorem chooseWork_done (retry : s.clc.retry = none) (idle : ∀ p ∈ s.clc.pass, p.phase ≠ .waiting) :
    (chooseWork s).clc.Done := by
  cases due : s.clc.firstDue with
  | some n =>
    rw [chooseWork_poll due]
    exact startTxn_done _ _
  | none =>
    cases queue : s.clc.mirrorQueue with
    | cons pair rest =>
      rw [chooseWork_mirror due queue]
      exact startTxn_done _ _
    | nil =>
      rw [chooseWork_nothing due queue]
      exact fun _ => ⟨retry, idle, due, queue⟩

theorem chooseWork_endPass_done (resp : Response) (retry : s.clc.retry = none) :
    (chooseWork (endPass resp s)).clc.Done := by
  refine chooseWork_done ?_ ?_
  · rw [endPass_clc]
    exact retry
  · rw [endPass_clc]
    exact nofun

theorem startPass_done (n : NodeIx) (retry : s.clc.retry = none) : (startPass n s).clc.Done := by
  unfold startPass
  split_ifs
  · exact startTxn_done _ _
  · exact chooseWork_endPass_done _ retry

/-- Whatever the arbiter finds, it leaves no free line with work waiting (R150). -/
theorem arbiter_done (s : State) : (arbiter s).clc.Done := by
  by_cases free : s.clc.lineFree = true
  · unfold arbiter
    rw [if_pos free]
    split
    · exact startPass_done _ rfl
    · exact startTxn_done _ _
    · rename_i retry
      split
      · split_ifs with waits
        · split
          · exact startPass_done _ retry
          · exact chooseWork_endPass_done _ retry
        · rename_i p held
          exact chooseWork_done retry fun q mem => by
            rw [held] at mem
            exact Option.mem_some.mp mem ▸ waits
      · rename_i held
        exact chooseWork_done retry fun q mem => by
          rw [held] at mem
          exact nomatch mem
  · rw [arbiter_of_busy (by simpa using free)]
    exact fun free' => absurd free' free

/-! ## The transmitter -/

/-- Replies with their status bytes, and an idle transmitter that has nothing to send (R191, R192). -/
def Lkp.Done (l : Lkp) : Prop := (∀ r ∈ l.replies, r.sealed.isSome = true) ∧
  (l.tx = .idle → l.txHold = false → l.replies = [] ∧ l.notices = [])

theorem sealReplies_sealed (s : State) : ∀ r ∈ (sealReplies s).lkp.replies, r.sealed.isSome = true := by
  intro r mem
  obtain ⟨q, -, rfl⟩ := List.mem_map.mp mem
  dsimp only
  split <;> rfl

theorem startTransmitter_done (made : ∀ r ∈ s.lkp.replies, r.sealed.isSome = true) : (startTransmitter s).lkp.Done := by
  refine ⟨by rw [startTransmitter_replies]; exact made, ?_⟩
  unfold startTransmitter
  split_ifs with free
  · split
    · exact nofun
    · exact nofun
    · rename_i replies notices
      exact fun _ _ => ⟨replies, notices⟩
  · exact fun idle held => absurd ⟨idle, held⟩ free

/-- The end of an event leaves no work undone. -/
theorem settle_noWorkUndone (s : State) : NoWorkUndone (settle s) := by
  obtain ⟨made, sent⟩ := startTransmitter_done (sealReplies_sealed (arbiter s))
  have line := arbiter_done s
  rw [← settle_clc] at line
  exact ⟨made, sent, line⟩

end

/-- Settles O7: the arbiter, the sealing and the transmitter leave none, and no other step makes any. -/
theorem noWorkLeftUndone : Obligations.NoWorkLeftUndone := by
  unfold Obligations.NoWorkLeftUndone
  intro s t done stepped
  rcases step_cases stepped with rfl | ⟨c, rest, -, ran⟩
  · unfold NoWorkUndone
    rw [(nextTick_only s).lkp_eq (by decide), (nextTick_only s).clc_eq (by decide)]
    exact done
  · have event : ∀ {f : State → State} {u : State}, NoWorkUndone u → takeEvent f u = .next t → NoWorkUndone t := by
      intro f u ready taken
      rw [takeEvent_next] at taken
      cases taken
      split_ifs
      · exact settle_noWorkUndone _
      · exact ready
    have ready : NoWorkUndone { s with pending := rest } := done
    rcases exec_cases c { s with pending := rest } with ⟨k, rfl⟩ | ⟨lines, rfl⟩ | ⟨eq, -⟩
    · rw [exec_row] at ran
      exact event ready ran
    · cases ran
      exact settle_noWorkUndone _
    · rw [eq] at ran
      exact event ready ran

end Sys2Proof.Machine
end

section
/-! Chapter 3: every operation that reaches the TAU's records keeps them within their ranges (R43, R45, R50, R55, R58). -/

namespace Sys2Proof.Machine

-- One theorem at a time, so that a build as one text needs few threads.
set_option Elab.async false

/-! ## What changes the records -/

theorem TripOk.takeDistance {t : Trip} (ok : TripOk t) : TripOk t.takeDistance := by
  obtain ⟨distance, others⟩ := ok
  unfold Trip.takeDistance
  split_ifs
  · exact ⟨Nat.min_le_right _ _, others⟩
  · exact ⟨distance, others⟩

theorem TripOk.takeFuel {t : Trip} (ok : TripOk t) : TripOk t.takeFuel := by
  obtain ⟨distance, fuel, others⟩ := ok
  unfold Trip.takeFuel
  split_ifs
  · exact ⟨distance, Nat.min_le_right _ _, others⟩
  · exact ⟨distance, fuel, others⟩

theorem countUp_mono {m n : Nat} (limit : Nat) (le : m ≤ n) : countUp limit m ≤ countUp limit n := by
  unfold countUp
  omega

theorem countUp_le (limit n : Nat) : countUp limit n ≤ limit := Nat.min_le_right _ _

/-- The moving seconds stay below the running ones, which no second leaves behind (R51). -/
theorem TripOk.takeSecond {t : Trip} (live : Bool) (ok : TripOk t) : TripOk (t.takeSecond live) := by
  unfold Trip.takeSecond
  by_cases opened : t.state = .open
  · obtain ⟨distance, fuel, running, moving, others⟩ := ok
    rw [if_pos opened]
    refine ⟨distance, fuel, countUp_le _ _, ?_, others⟩
    have counted : t.moving ≤ countUp Config.maxSeconds t.running := Nat.le_min.mpr ⟨Nat.le_succ_of_le moving, moving.trans running⟩
    cases live
    · exact counted
    · exact countUp_mono _ moving
  · rw [if_neg opened]
    exact ok

theorem TripOk.takeSpeed {t : Trip} {v : Nat} (speed : v ≤ Config.maxSpeed) (ok : TripOk t) :
    TripOk (if t.state = .open then { t with maxSpeed := max t.maxSpeed v } else t) := by
  split_ifs
  · obtain ⟨distance, fuel, running, moving, highest, start⟩ := ok
    exact ⟨distance, fuel, running, moving, Nat.max_le.mpr ⟨highest, speed⟩, start⟩
  · exact ok

theorem TripOk.restored {t : Trip} (r : Nat) (ok : TripOk t) :
    TripOk { t with startOdometer := (t.startOdometer + r) % Config.odometerModulus } := by
  obtain ⟨distance, fuel, running, moving, highest, -⟩ := ok
  exact ⟨distance, fuel, running, moving, highest, Nat.mod_lt _ (by decide)⟩

/-- A reset trip starts at the odometer (R47). -/
theorem TripOk.fresh {start : Nat} (ok : start < Config.odometerModulus) (date : Option StartDate) (by_ : ResetBy) :
    TripOk { state := .open, distance := 0, fuel := 0, running := 0, moving := 0, maxSpeed := 0,
             startOdometer := start, startDate := date, resetBy := some by_ } :=
  ⟨Nat.zero_le _, Nat.zero_le _, Nat.zero_le _, Nat.zero_le _, Nat.zero_le _, ok⟩

theorem ringPush_length {ring : List Bucket} (b : Bucket) (ok : ring.length ≤ Config.ringSize) :
    (ringPush ring b).length ≤ Config.ringSize := by
  unfold ringPush Config.ringSize at *
  split_ifs <;> simp <;> omega

theorem mem_ringPush {ring : List Bucket} {b c : Bucket} (mem : c ∈ ringPush ring b) : c ∈ ring ∨ c = b := by
  unfold ringPush at mem
  split_ifs at mem
  · simpa using mem
  · exact (List.mem_append.mp mem).imp List.mem_of_mem_tail List.mem_singleton.mp

section
variable {u : Tau} (ok : TripsOk u)
include ok

/-- The records in their ranges after the trips changed. -/
theorem TripsOk.withTrips {trips : Vector Trip 4} (kept : ∀ t : TripIx, TripOk trips[t]) :
    TripsOk { u with trips := trips } := by
  obtain ⟨odometer, acc, valid, hours, residue, -, others⟩ := ok
  exact ⟨odometer, acc, valid, hours, residue, kept, others⟩

theorem TripsOk.mapTrips {f : Trip → Trip} (keeps : ∀ t, TripOk t → TripOk (f t)) :
    TripsOk { u with trips := mapAll f u.trips } := by
  have trips := ok.2.2.2.2.2.1
  refine ok.withTrips fun t => ?_
  rw [mapAll_get]
  exact keeps _ (trips t)

theorem TripsOk.updTrip {i : TripIx} {f : Trip → Trip} (keeps : TripOk u.trips[i] → TripOk (f u.trips[i])) :
    TripsOk { u with trips := updAt u.trips i f } := by
  have trips := ok.2.2.2.2.2.1
  refine ok.withTrips fun t => ?_
  rw [updAt_get]
  split_ifs
  · exact keeps (trips i)
  · exact trips t

theorem TripsOk.odometerUnit : TripsOk { u with
    odometer := (u.odometer + 1) % Config.odometerModulus
    accInvalid := if u.odometerState = .invalid then countUp 9999999 u.accInvalid else u.accInvalid } := by
  obtain ⟨-, acc, valid, others⟩ := ok
  refine ⟨Nat.mod_lt _ (by decide), ?_, fun is => ?_, others⟩
  · show (if u.odometerState = .invalid then countUp 9999999 u.accInvalid else u.accInvalid) < _
    split_ifs
    · exact Nat.lt_succ_of_le (countUp_le _ _)
    · exact acc
  · show (if u.odometerState = .invalid then _ else u.accInvalid) = 0
    have is : u.odometerState = .valid := is
    rw [if_neg (by rw [is]; decide), valid is]

/-- A bucket is closed at the bucket length, and a new one begun (R55). -/
theorem TripsOk.bucketUnit :
    (u.bucket.distance + 1 < u.fuel.bucketLength →
      TripsOk { u with bucket := { u.bucket with distance := u.bucket.distance + 1 } }) ∧
    (u.fuel.bucketLength ≤ u.bucket.distance + 1 → TripsOk { u with
      ring := ringPush u.ring { u.bucket with distance := u.bucket.distance + 1 }, bucket := Bucket.zero }) := by
  obtain ⟨odometer, acc, valid, hours, residue, trips, ring, closed, room, bucket, destination⟩ := ok
  refine ⟨fun below => ⟨odometer, acc, valid, hours, residue, trips, ring, closed, below, bucket, destination⟩,
    fun full => ⟨odometer, acc, valid, hours, residue, trips, ringPush_length _ ring, fun b mem => ?_, ?_,
      ⟨Nat.zero_le _, Nat.zero_le _⟩, destination⟩⟩
  · rcases mem_ringPush mem with old | rfl
    · exact closed b old
    · exact ⟨Nat.le_antisymm room full, bucket⟩
  · exact Nat.zero_lt_of_lt room

theorem TripsOk.fuelUnit : TripsOk u.takeFuel := by
  obtain ⟨odometer, acc, valid, hours, residue, trips, ring, closed, room, ⟨-, seconds⟩, destination⟩ :=
    ok.mapTrips fun _ => TripOk.takeFuel
  exact ⟨odometer, acc, valid, hours, residue, trips, ring, closed, room, ⟨Nat.min_le_right _ _, seconds⟩, destination⟩

theorem TripsOk.countEngine : TripsOk u.countEngine := by
  obtain ⟨odometer, acc, valid, hours, residue, others⟩ := ok
  have residue : u.engineResidue < 360 := residue
  refine ⟨odometer, acc, valid, ?_, ?_, others⟩
  · show (if u.Tenth then min (u.engineHours + 1) 999999 else u.engineHours) ≤ Config.maxEngineHours
    split_ifs
    · exact Nat.min_le_right _ _
    · exact hours
  · show (if u.engineRunning then (if u.engineResidue + 1 < 360 then u.engineResidue + 1 else 0)
      else u.engineResidue) < 360
    split_ifs <;> omega

theorem TripsOk.takeSecond : TripsOk u.takeSecond := by
  unfold Tau.takeSecond
  split_ifs
  · exact ok.countEngine
  · have engine : TripsOk { u.countEngine with trips := mapAll (Trip.takeSecond u.roadLive) u.trips } :=
      ok.countEngine.mapTrips (f := Trip.takeSecond u.roadLive) fun _ => TripOk.takeSecond _
    obtain ⟨odometer, acc, valid, hours, residue, trips, ring, closed, room, ⟨fuel, -⟩, destination⟩ := engine
    exact ⟨odometer, acc, valid, hours, residue, trips, ring, closed, room, ⟨fuel, Nat.min_le_right _ _⟩, destination⟩

theorem TripsOk.withDestination {d : Option Nat} (range : ∀ n ∈ d, 1 ≤ n ∧ n ≤ 999999) :
    TripsOk { u with destination := d } := by
  obtain ⟨odometer, acc, valid, hours, residue, trips, ring, closed, room, bucket, -⟩ := ok
  exact ⟨odometer, acc, valid, hours, residue, trips, ring, closed, room, bucket, range⟩

/-- A restore gives an odometer that has not rolled over (R44). -/
theorem TripsOk.restore {r : Nat} (range : r ≤ 9999999 - u.accInvalid) : TripsOk (u.restore r) := by
  obtain ⟨-, acc, -, hours, residue, others⟩ := ok.mapTrips fun _ => TripOk.restored r
  have acc : u.accInvalid < 10000000 := acc
  refine ⟨?_, Nat.zero_lt_succ _, fun _ => rfl, hours, residue, others⟩
  show r + u.accInvalid < 10000000
  omega

/-- New fuel options, with the ring emptied and any range and level-at-stop (R55, R56). -/
theorem TripsOk.withOptions {o : FuelOptions} (length : 1 ≤ o.bucketLength) (level range : Option Nat) :
    TripsOk { u with fuel := o, ring := [], bucket := Bucket.zero, levelAtStop := level, range := range } := by
  obtain ⟨odometer, acc, valid, hours, residue, trips, -, -, -, -, destination⟩ := ok
  exact ⟨odometer, acc, valid, hours, residue, trips, Nat.zero_le _, nofun, length, ⟨Nat.zero_le _, Nat.zero_le _⟩,
    destination⟩

end

theorem Pcu.takeSnapshot_roadSpeed (p : Pcu) : p.takeSnapshot.roadSpeed ≤ Config.maxSpeed := by
  unfold Pcu.takeSnapshot
  dsimp only
  cases p.roadSource
  · exact Nat.min_le_right _ _
  · exact Nat.min_le_right _ _

/-! ## The TAU's own operations -/

/-- The records in their ranges, as a property of the state. -/
def TripsHeld (s : State) : Prop := TripsOk s.tau

theorem TripsHeld.reads : Reads [.tau] TripsHeld := by
  intro s t same ok
  have tau : t.tau = s.tau := same .tau (List.mem_singleton_self _)
  rw [TripsHeld, tau]
  exact ok

section
variable {s : State}

/-- What leaves the TAU's records as they are, its copies and its level-at-stop aside. -/
theorem TripsHeld.of_records {t : State} (same : t.tau.records = s.tau.records) : Keeps TripsHeld s t := by
  intro ok
  have kept : TripsOk t.tau.records := by rw [same]; exact ok
  exact kept

theorem recomputeRange_tripsHeld : Keeps TripsHeld s (recomputeRange s) := by
  intro ok
  rw [TripsHeld, recomputeRange_tau]
  exact ok

/-- The arrival ends the distance to go; on the way there it stays in its range (R58). -/
theorem destinationUnit_tripsHeld : Keeps TripsHeld s (destinationUnit s) := by
  intro ok
  obtain ⟨-, -, -, -, -, -, -, -, -, -, range⟩ := id ok
  obtain ⟨absent, far, near⟩ := destinationUnit_destination s
  have others : (destinationUnit s).tau = { s.tau with destination := (destinationUnit s).tau.destination } := by
    have tau := destinationUnit_tau s
    rw [← tau]
  rw [TripsHeld, others]
  refine ok.withDestination fun n mem => ?_
  rw [Option.mem_def] at mem
  cases given : s.tau.destination with
  | none => exact absurd ((absent given).symm.trans mem) nofun
  | some d =>
    have bounds := range d given
    rcases Nat.lt_or_ge 1 d with more | last
    · have left := Option.some.inj ((far d given more).symm.trans mem)
      omega
    · exact absurd ((near d given last).symm.trans mem) nofun

theorem bucketDistance_tripsHeld : Keeps TripsHeld s (bucketDistance s) := by
  intro ok
  rcases Nat.lt_or_ge (grown s).distance s.tau.fuel.bucketLength with room | full
  · rw [bucketDistance_open s room]
    exact (TripsOk.bucketUnit ok).1 room
  · rw [bucketDistance_closed s full, TripsHeld, (mark_only _ _).tau_eq, recomputeRange_tau]
    exact (TripsOk.bucketUnit ok).2 full

theorem TripsCounted.tripsHeld {v : State} (counted : TripsCounted s v) : Keeps TripsHeld s v := by
  intro ok
  rw [TripsHeld, counted.tau]
  exact (TripsOk.odometerUnit ok).mapTrips fun _ => TripOk.takeDistance

theorem tauDistance_tripsHeld : Keeps TripsHeld s (tauDistance s) := by
  obtain ⟨v, counted, taken⟩ : ∃ v, TripsCounted s v ∧
      tauDistance s = svsDistance (destinationUnit (bucketDistance v)) := ⟨_, tripsCounted s, rfl⟩
  rw [taken]
  exact ((counted.tripsHeld.trans bucketDistance_tripsHeld).trans destinationUnit_tripsHeld).trans
    (.of_only TripsHeld.reads (countItems_only _ _))

theorem tauFuel_tripsHeld : Keeps TripsHeld s (tauFuel s) := by
  intro ok
  rw [TripsHeld, tauFuel_tau]
  exact ok.fuelUnit

theorem tauWindow_tripsHeld {v : Nat} (speed : v ≤ Config.maxSpeed) : Keeps TripsHeld s (tauWindow v s) :=
  fun ok => ok.mapTrips fun _ => TripOk.takeSpeed speed

theorem resetTrip_tripsHeld (t : TripIx) (by_ : ResetBy) : Keeps TripsHeld s (resetTrip t by_ s) := by
  have reset : Keeps TripsHeld s (s.modTrip t fun _ =>
      { state := .open, distance := 0, fuel := 0, running := 0, moving := 0, maxSpeed := 0,
        startOdometer := s.tau.odometer, startDate := s.clk.startDate, resetBy := some by_ }) :=
    fun ok => ok.updTrip fun _ => .fresh ok.1 _ _
  unfold resetTrip
  dsimp only
  split_ifs
  · exact reset.trans (.of_only TripsHeld.reads (mark_only _ _))
  · exact reset

theorem testRefuel_tripsHeld (amount : Nat) : Keeps TripsHeld s (testRefuel amount s) := by
  have filled (before : Nat) : Keeps TripsHeld s (refuel before amount s) :=
    (resetTrip_tripsHeld 2 .auto).trans ((Keeps.of_only TripsHeld.reads (tripNotice_only _ _ _)).trans
      ((Keeps.of_only TripsHeld.reads (notify_only _ _)).trans (.of_only TripsHeld.reads (gduRefuel_only _))))
  have taken (u : State) : Keeps TripsHeld u (u.modTau fun v => { v with levelAtStop := some amount }) := id
  unfold testRefuel
  split
  · split_ifs
    · exact .refl s
    · exact (filled _).trans (taken _)
    · exact taken s
  · exact .refl s

theorem tauReport_tripsHeld (n : SlotIx) : Keeps TripsHeld s (tauReport n s) := by
  unfold tauReport
  split_ifs
  · exact (testRefuel_tripsHeld _).trans recomputeRange_tripsHeld
  · exact .refl s

end

/-! ## Pulses, windows, slots and seconds -/

section
variable (s : State)

theorem changeChannel_tripsHeld (ch : ChannelIx) (f : Channel → Channel) : Keeps TripsHeld s (changeChannel ch f s) :=
  .of_records (changeChannel_records ch f s)

theorem roadEdge_tripsHeld : Keeps TripsHeld s (roadEdge s) := by
  unfold roadEdge
  dsimp only
  split_ifs
  · exact .of_only TripsHeld.reads (modPcu_only s _)
  · exact (Keeps.of_only TripsHeld.reads (modPcu_only s _)).trans tauDistance_tripsHeld
  · exact .of_only TripsHeld.reads (modPcu_only s _)

theorem checkEdge_tripsHeld : Keeps TripsHeld s (checkEdge s) := by
  unfold checkEdge
  dsimp only
  split_ifs
  · exact .of_only TripsHeld.reads (modPcu_only s _)
  · exact (Keeps.of_only TripsHeld.reads (modPcu_only s _)).trans tauDistance_tripsHeld
  · exact .of_only TripsHeld.reads (modPcu_only s _)

theorem pulseEdge_tripsHeld (ch : ChannelIx) (at10us : Nat) : Keeps TripsHeld s (pulseEdge ch at10us s) := by
  unfold pulseEdge
  split_ifs
  · exact .refl s
  · refine (changeChannel_tripsHeld s ch (Channel.edge at10us)).trans ?_
    generalize changeChannel ch (Channel.edge at10us) s = u
    unfold dividerEdge
    split
    · exact roadEdge_tripsHeld u
    · exact .refl u
    · intro ok
      rw [TripsHeld, supplyEdge_tau]
      split_ifs
      · exact TripsOk.fuelUnit ok
      · exact ok
    · exact .of_only TripsHeld.reads (returnEdge_only u)
    · exact checkEdge_tripsHeld u
    · exact .refl u

/-- What the window's result leaves, every part of a window expiry leaves. -/
theorem windowResult_tripsHeld : Keeps TripsHeld s (windowResult s) := by
  have snapped : Keeps TripsHeld s (s.modPcu fun p => { p with snap := p.takeSnapshot }) := id
  refine snapped.trans (.hand TripsHeld.reads (fun b _ u => ?_) _)
  cases b
  case tau => exact tauWindow_tripsHeld (Pcu.takeSnapshot_roadSpeed _)
  all_goals exact .of_only TripsHeld.reads (takeWindow_parts u _ _)

theorem windowExpiry_tripsHeld (at10us : Nat) : Keeps TripsHeld s (windowExpiry at10us s) := by
  unfold windowExpiry
  split_ifs
  · have closed : Keeps TripsHeld s (closeWindow at10us s) := .eachIx (fun ch u => changeChannel_tripsHeld u ch _) s
    have moved (u : State) : Keeps TripsHeld u (moveSource u) := by
      unfold moveSource
      dsimp only
      split_ifs
      · exact .of_only TripsHeld.reads (modPcu_only u _)
      · refine (Keeps.of_only TripsHeld.reads (modPcu_only u _)).trans (.hand TripsHeld.reads (fun b _ v => ?_) _)
        cases b
        case tau => exact .of_records (tauRoadLive_records _ v)
        all_goals exact .of_only TripsHeld.reads (takeRoadLive_parts v _ _)
    have ended (u : State) (f : Pcu → Pcu) (g : FreeValues → FreeValues) : Keeps TripsHeld u ((u.modPcu f).modFree g) := id
    exact (((closed.trans (.of_only TripsHeld.reads (disagreeTest_only _))).trans (moved _)).trans
      (windowResult_tripsHeld _)).trans (ended _ _ _)
  · exact .refl s

theorem takeReport_tripsHeld (n : SlotIx) (b : Block) : Keeps TripsHeld s (takeReport n b s) := by
  cases b
  case tau => exact tauReport_tripsHeld n
  all_goals exact .of_only TripsHeld.reads (takeReport_parts s _ _)

theorem takeSlotState_tripsHeld (n : SlotIx) (b : Block) : Keeps TripsHeld s (takeSlotState n b s) := by
  cases b
  case tau =>
    show Keeps TripsHeld s (tauSlotState n s)
    unfold tauSlotState
    split_ifs
    · exact recomputeRange_tripsHeld
    · exact .refl s
  all_goals exact .of_only TripsHeld.reads (takeSlotState_parts s _ _)

end

/-! ## Power states and resets -/

theorem power_tripsHeld : KeepsPower TripsHeld := by
  have disagree : ∀ b s, Keeps TripsHeld s (setDisagree b s) := fun b s => .of_only TripsHeld.reads (setDisagree_only s b)
  refine .of_reads TripsHeld.reads (by decide) (fun b s => ?_) (fun b s => ?_) (fun p b s => ?_)
    (fun s => .of_only TripsHeld.reads (coachReset_only s))
    (fun test s => .of_only TripsHeld.reads (ByProducts.evaluateWhere test s).only)
    (fun cause armed lines s ok => ok) fun lines s => (by decide +kernel : TripsOk Tau.supply)
  · cases b
    case pcu => exact .pcuRunEntry TripsHeld.reads (by decide) (fun ch f s => changeChannel_tripsHeld s ch f) disagree s
    case tau => exact fun ok => ok
    all_goals exact .of_only TripsHeld.reads (takeRunEntry_parts s _)
  · cases b
    case pcu => exact .pcuParkedEntry TripsHeld.reads (by decide) (fun ch f s => changeChannel_tripsHeld s ch f) disagree s
    case tau => exact fun ok => ok
    all_goals exact .of_only TripsHeld.reads (takeParkedEntry_parts s _)
  · cases b
    case pcu => exact .of_only TripsHeld.reads (modPcu_only s _)
    case tau => exact fun ok => ok
    all_goals exact .of_only TripsHeld.reads (takeCrank_parts s _ _)

/-! ## Requests and steps -/

theorem TripsOk.bucketLength_pos {u : Tau} (ok : TripsOk u) : 1 ≤ u.fuel.bucketLength := by
  obtain ⟨-, -, -, -, -, -, -, -, room, -, -⟩ := ok
  exact Nat.one_le_of_lt room

theorem destinationField_range {n : Nat} {d : Option Nat} (field : destinationField n = some d) :
    ∀ m ∈ d, 1 ≤ m ∧ m ≤ 999999 := by
  unfold destinationField at field
  split_ifs at field
  · cases field
    exact nofun
  · obtain ⟨m, read, rfl⟩ := Option.map_eq_some_iff.mp field
    obtain ⟨rfl, range⟩ := within_eq_some.mp read
    rintro _ ⟨⟩
    exact range

section
variable (s : State)

theorem emptyRing_tripsHeld : Keeps TripsHeld s (emptyRing s) := by
  intro ok
  rw [TripsHeld, emptyRing_tau]
  exact TripsOk.withOptions ok (TripsOk.bucketLength_pos ok) s.tau.levelAtStop none

theorem setFuelOptions_tripsHeld {o : FuelOptions} (length : 1 ≤ o.bucketLength) :
    Keeps TripsHeld s (setFuelOptions o s).1 := by
  intro ok
  rw [setFuelOptions_eq]
  show TripsOk (recomputeRange (levelAfresh (emptyRing (s.modTau fun u => { u with fuel := o })))).tau
  rw [recomputeRange_tau, levelAfresh_tau, emptyRing_tau]
  exact TripsOk.withOptions ok length _ _

theorem setChannel_tripsHeld (p : ChannelIx × ChannelConfig) : Keeps TripsHeld s (setChannel p s).1 := by
  have loaded : Keeps TripsHeld s (s.modInputs (Inputs.loadPulse p.1)) := .of_only TripsHeld.reads (modInputs_only s _)
  have changed := loaded.trans (changeChannel_tripsHeld _ p.1 fun _ => Channel.restarted p.2)
  unfold setChannel emptyAnswer
  dsimp only
  split_ifs
  · exact loaded.trans (.of_only TripsHeld.reads (modChannel_only _ _ _))
  · exact changed.trans (.of_only TripsHeld.reads (modPcu_only _ _))
  · exact changed

theorem setCalibration_tripsHeld (cal : Calibration) : Keeps TripsHeld s (setCalibration cal s).1 := by
  have emptied : Keeps TripsHeld s (emptyRing (setImplausible false (s.modPcu fun p => { p with
      cal, roadResidue := 0, checkResidue := 0, fuelResidue := 0 }))) :=
    ((Keeps.of_only TripsHeld.reads (modPcu_only s _)).trans
      (.of_only TripsHeld.reads (setImplausible_only _ _))).trans (emptyRing_tripsHeld _)
  unfold setCalibration emptyAnswer
  dsimp only
  split_ifs
  · exact emptied
  · exact emptied.trans (.of_only TripsHeld.reads (modPcu_only _ _))

theorem tripControl_tripsHeld (p : TripIx × TripAction) : Keeps TripsHeld s (tripControl p s).1 := by
  unfold tripControl
  split
  · exact resetTrip_tripsHeld _ _
  · split
    · rename_i st _
      have set : Keeps TripsHeld s (s.modTrip p.1 fun x => { x with state := st }) := fun ok => ok.updTrip id
      show Keeps TripsHeld s (setTripState p.1 st s)
      unfold setTripState
      dsimp only
      split_ifs
      · exact set.trans (.of_only TripsHeld.reads (mark_only _ _))
      · exact set
    · exact .refl s

theorem restoreOdometer_tripsHeld {v : Nat} (range : v ≤ 9999999 - s.tau.accInvalid) :
    Keeps TripsHeld s (restoreOdometer v s) := by
  have restored : Keeps TripsHeld s (s.modTau (Tau.restore v)) := fun ok => ok.restore range
  exact ((restored.trans (.of_only TripsHeld.reads (modSvs_only _ _))).trans
    (.of_only TripsHeld.reads (modLkp_only _ _))).trans (.of_only TripsHeld.reads (wtbOdometer_only _ _))

theorem reportSlot_tripsHeld (n : SlotIx) (value : Int) : Keeps TripsHeld s (reportSlot n value s) :=
  (Keeps.of_only TripsHeld.reads (modSlot_only s _ _)).trans
    (.hand TripsHeld.reads (fun b _ u => takeReport_tripsHeld u n b) _)

end

theorem owner_tripsHeld (k : ReqKind) (r : Request) (s : State) : Keeps TripsHeld s (k.owner r s).1 := by
  cases k
  case setChannel => exact .ranged fun p _ => setChannel_tripsHeld s p
  case setCalibration => exact .ranged fun cal _ => setCalibration_tripsHeld s cal
  case sensorReport =>
    exact .ranged fun pairs _ => .foldl (fun u (p : SlotIx × Int) => reportSlot_tripsHeld u p.1 p.2) pairs s
  case tripControl => exact .ranged fun p _ => tripControl_tripsHeld s p
  case setDestination =>
    refine .ranged fun d field => ?_
    have set : Keeps TripsHeld s (s.modTau fun u => { u with destination := d }) :=
      fun ok => ok.withDestination (destinationField_range field)
    exact set.trans (.of_only TripsHeld.reads (mark_only _ _))
  case restoreOdometer =>
    show Keeps TripsHeld s (ownRestoreOdometer r s).1
    unfold ownRestoreOdometer
    dsimp only
    split
    · exact .refl s
    · split_ifs with large
      · exact .refl s
      · dsimp only
        exact restoreOdometer_tripsHeld s (Nat.le_of_not_lt large)
  case setFuelOptions =>
    refine .ranged fun o fields => setFuelOptions_tripsHeld s ?_
    obtain ⟨-, -, ⟨-, length⟩, -⟩ := fuelFields_eq_some.mp fields
    exact length
  all_goals exact .of_only TripsHeld.reads (owner_only _ r s)

theorem ownRearEvent_tripsHeld (e : RearEvent) (s : State) : Keeps TripsHeld s (ownRearEvent e s).1 := by
  unfold ownRearEvent
  split <;> dsimp only
  · exact .of_only TripsHeld.reads (ByProducts.takeChime _ s).only
  · exact .of_only TripsHeld.reads (takePrivacy_only s _)
  · exact .of_only TripsHeld.reads (takePrivacy_only s _)
  · exact (resetTrip_tripsHeld _ _).trans (.of_only TripsHeld.reads (tripNotice_only _ _ _))
  · exact .of_only TripsHeld.reads (ByProducts.acknowledgeWhere _ s).only
  · exact .of_only TripsHeld.reads (rearClockSet_only s _)
  · exact .of_only TripsHeld.reads (rearAlarmSet_only s _)
  · exact .refl s

/-- A property of the TAU alone is kept by the completion of a transaction when the rear events keep it. -/
theorem KeepsCompletion.of_reads {P : State → Prop} {ps : List Part} (reads : Reads ps P)
    (own : ∀ e s, Keeps P s (ownRearEvent e s).1)
    (apart : ∀ p ∈ ps, p ∉ [Part.wtb, .chs, .clc, .lkp] := by decide) : KeepsCompletion P := by
  have away : ∀ {qs : List Part}, qs ⊆ [Part.wtb, .chs, .clc, .lkp] → ∀ p ∈ ps, p ∉ qs :=
    fun sub p mem memQ => apart p mem (sub memQ)
  exact {
    dropped := fun s => .of_only reads (modClc_only s _) (away (by decide))
    valid := fun n s => .of_only reads (validAnswer_only s n) (away (by decide))
    miss := fun n s => .of_only reads (nodeMiss_only s n) (away (by decide))
    whole := fun n s => .of_only reads (modClc_only s _) (away (by decide))
    append := fun n item s => .of_only reads (modClc_only s _) (away (by decide))
    notify := fun n s => .of_only reads (notify_only s n) (away (by decide))
    own := own
    endPass := fun r s => .of_only reads (endPass_only s r) (away (by decide)) }

theorem other_tripsHeld (c : Instr) (s : State) : Keeps TripsHeld s (otherEffect c s) := by
  by_cases power : isPowerCommand c = true
  · exact power_tripsHeld.effect power
  by_cases answer : isAnswerCommand c = true
  · exact .answerCommand (.of_only TripsHeld.reads (modClc_only s _))
      (fun a => (KeepsCompletion.of_reads TripsHeld.reads ownRearEvent_tripsHeld).completeTxn a s) answer
  · cases c
    case pulseEdge ch at10us => exact pulseEdge_tripsHeld s ch at10us
    case stallExpiry ch =>
      show Keeps TripsHeld s (stallExpiry ch s)
      unfold stallExpiry
      split_ifs
      · exact changeChannel_tripsHeld s ch _
      · exact .refl s
    case windowExpiry at10us => exact windowExpiry_tripsHeld s at10us
    case slotStaleExpiry n =>
      show Keeps TripsHeld s (slotStaleExpiry n s)
      unfold slotStaleExpiry
      split_ifs
      · exact (Keeps.of_only TripsHeld.reads (modSlot_only s _ _)).trans
          (.hand TripsHeld.reads (fun b _ u => takeSlotState_tripsHeld u n b) _)
      · exact .refl s
    case slotLostExpiry n =>
      show Keeps TripsHeld s (slotLostExpiry n s)
      unfold slotLostExpiry
      split_ifs
      · exact (Keeps.of_only TripsHeld.reads (modSlot_only s _ _)).trans
          (.hand TripsHeld.reads (fun b _ u => takeSlotState_tripsHeld u n b) _)
      · exact .refl s
    case secondBoundary =>
      intro ok
      show TripsOk (secondBoundary s).tau
      rw [secondBoundary_tau]
      exact TripsOk.takeSecond ok
    all_goals first
      | exact absurd rfl power
      | exact absurd rfl answer
      | exact .of_only TripsHeld.reads (otherEffect_only _ s) (by simp [otherParts])

/-- Every step keeps the TAU's records within their ranges. -/
theorem tripsOk_step {s t : State} (ok : TripsOk s.tau) (stepped : step s = .next t) : TripsOk t.tau :=
  step_keeps_blocks TripsHeld.reads owner_tripsHeld other_tripsHeld ok stepped

end Sys2Proof.Machine
end

section
/-! Chapter 3: the range the TAU holds is the one its records and the fuel slot give (R57), after every step. -/

namespace Sys2Proof.Machine

-- One theorem at a time, so that a build as one text needs few threads.
set_option Elab.async false

/-! ## What the range is computed from -/

/-- What a slot gives those that read it. -/
def Slot.reading (x : Slot) : SlotState × Int := (x.state, x.value)

/-- What the range is computed from, and the range held. -/
structure RangeParts where
  ring : List Bucket
  fuel : FuelOptions
  range : Option Nat
  slots : Vector (SlotState × Int) 8

def State.rangeParts (s : State) : RangeParts :=
  { ring := s.tau.ring, fuel := s.tau.fuel, range := s.tau.range, slots := mapAll Slot.reading s.gdu.slots }

theorem freshFuelValue_congr {s t : State} (slot : t.tau.fuel.slot = s.tau.fuel.slot)
    (same : ∀ n, s.tau.fuel.slot = some n → t.gdu.slots[n].reading = s.gdu.slots[n].reading) :
    freshFuelValue t = freshFuelValue s := by
  unfold freshFuelValue
  rw [slot]
  cases named : s.tau.fuel.slot with
  | none => rfl
  | some n =>
    obtain ⟨state, value⟩ := Prod.mk.inj (same n named)
    rw [Option.bind_some, Option.bind_some, state, value]

theorem computedRange_congr {s t : State} (ring : t.tau.ring = s.tau.ring) (fuel : t.tau.fuel = s.tau.fuel)
    (value : freshFuelValue t = freshFuelValue s) : computedRange t = computedRange s := by
  unfold computedRange Tau.sumFuel Tau.sumDistance Tau.fuelAmount
  rw [value, ring, fuel]

/-- The range current, as a property of the state. -/
def RangeHeld (s : State) : Prop := RangeCurrent s

theorem RangeHeld.reads : Reads [.tau, .gdu] RangeHeld := by
  intro s t same ok
  have tau : t.tau = s.tau := same .tau (by decide)
  have gdu : t.gdu = s.gdu := same .gdu (by decide)
  have value : freshFuelValue t = freshFuelValue s :=
    freshFuelValue_congr (by rw [tau]) fun n _ => by rw [gdu]
  rw [RangeHeld, RangeCurrent, computedRange_congr (by rw [tau]) (by rw [tau]) value, tau]
  exact ok

theorem Keeps.of_rangeParts {s t : State} (same : t.rangeParts = s.rangeParts) : Keeps RangeHeld s t := by
  intro ok
  have ring : t.tau.ring = s.tau.ring := congrArg RangeParts.ring same
  have fuel : t.tau.fuel = s.tau.fuel := congrArg RangeParts.fuel same
  have range : t.tau.range = s.tau.range := congrArg RangeParts.range same
  have slots : mapAll Slot.reading t.gdu.slots = mapAll Slot.reading s.gdu.slots := congrArg RangeParts.slots same
  rw [RangeHeld, RangeCurrent, range, computedRange_congr ring fuel (freshFuelValue_congr (by rw [fuel]) fun n _ => mapAll_congr_get slots n)]
  exact ok

/-- What leaves the TAU's records and the slots leaves what the range is computed from. -/
theorem rangeParts_eq {s t : State} (tau : t.tau.records = s.tau.records) (slots : t.gdu.slots = s.gdu.slots) :
    t.rangeParts = s.rangeParts := by
  have ring : t.tau.ring = s.tau.ring := (congrArg Tau.ring tau :)
  have fuel : t.tau.fuel = s.tau.fuel := (congrArg Tau.fuel tau :)
  have range : t.tau.range = s.tau.range := (congrArg Tau.range tau :)
  rw [State.rangeParts, State.rangeParts, ring, fuel, range, slots]

/-- A recomputed range is current, whatever it was before. -/
theorem recomputeRange_current (s : State) : RangeHeld (recomputeRange s) := by
  have value : freshFuelValue (recomputeRange s) = freshFuelValue s :=
    freshFuelValue_congr (by rw [recomputeRange_tau]) fun n _ => by rw [(recomputeRange_only s).gdu_eq (by decide)]
  rw [RangeHeld, RangeCurrent, computedRange_congr (by rw [recomputeRange_tau]) (by rw [recomputeRange_tau]) value, recomputeRange_tau]

/-! ## The GDU leaves the slots -/

section
variable (s : State)

@[simp] theorem endParking_slots : (endParking s).gdu.slots = s.gdu.slots := by
  unfold endParking
  split_ifs
  · rw [(notify_only _ _).gdu_eq (by decide)]
    rfl
  · rfl

@[simp] theorem endSweep_slots : (endSweep s).gdu.slots = s.gdu.slots := by
  unfold endSweep
  split_ifs
  · rw [(notify_only _ _).gdu_eq (by decide)]
    rfl
  · rfl

@[simp] theorem needleStep_slots (g : GaugeIx) : (needleStep g s).gdu.slots = s.gdu.slots := by
  unfold needleStep
  dsimp only
  split
  · split_ifs
    · rw [endParking_slots, endSweep_slots]
      rfl
    · rfl
  · rfl

@[simp] theorem homingEnd_slots (g : GaugeIx) : (homingEnd g s).gdu.slots = s.gdu.slots := by
  unfold homingEnd
  dsimp only
  split_ifs
  · rfl
  · rw [(notify_only _ _).gdu_eq (by decide)]
    rfl
  · rfl

@[simp] theorem gduParkedEntry_slots : (gduParkedEntry s).gdu.slots = s.gdu.slots := endParking_slots _

/-- SET GAUGE, SWEEP GAUGES and SET SLOT leave every slot's state and value. -/
theorem gaugeRequest_parts {k : ReqKind} (gauge : k = .setSlot ∨ k = .setGauge ∨ k = .sweepGauges) (r : Request) :
    ((k.owner r s).1).rangeParts = s.rangeParts := by
  rcases gauge with rfl | rfl | rfl
  · show ((ownSetSlot r s).1).rangeParts = _
    unfold ownSetSlot ranged
    split
    · rename_i p _
      have slots : mapAll Slot.reading (updAt s.gdu.slots p.1 fun x =>
          { x with staleTime := p.2.1, lostTime := p.2.2 }) = mapAll Slot.reading s.gdu.slots :=
        mapAll_updAt rfl
      exact (congrArg (fun v => { s.rangeParts with slots := v }) slots :)
    · rfl
  · show ((ownSetGauge r s).1).rangeParts = _
    unfold ownSetGauge ranged
    split
    · unfold setGauge
      split_ifs <;> rfl
    · rfl
  · show ((ownSweepGauges r s).1).rangeParts = _
    unfold ownSweepGauges
    split_ifs <;> rfl

/-! ## Distance and seconds -/

theorem bucketDistance_current : Keeps RangeHeld s (bucketDistance s) := by
  rcases Nat.lt_or_ge (grown s).distance s.tau.fuel.bucketLength with room | full
  · rw [bucketDistance_open s room]
    exact .of_rangeParts rfl
  · rw [bucketDistance_closed s full]
    exact .trans (.of_holds (recomputeRange_current _)) (.of_only RangeHeld.reads (mark_only _ _))

theorem destinationUnit_current : Keeps RangeHeld s (destinationUnit s) := by
  have tau := destinationUnit_tau s
  have ring : (destinationUnit s).tau.ring = s.tau.ring := (congrArg Tau.ring tau :)
  have fuel : (destinationUnit s).tau.fuel = s.tau.fuel := (congrArg Tau.fuel tau :)
  have range : (destinationUnit s).tau.range = s.tau.range := (congrArg Tau.range tau :)
  refine .of_rangeParts ?_
  rw [State.rangeParts, State.rangeParts, ring, fuel, range, (destinationUnit_only s).gdu_eq (by decide)]

theorem TripsCounted.current {s v : State} (counted : TripsCounted s v) (gdu : v.gdu = s.gdu) : Keeps RangeHeld s v := by
  refine .of_rangeParts ?_
  rw [State.rangeParts, counted.tau, gdu]
  rfl

theorem tauDistance_current : Keeps RangeHeld s (tauDistance s) := by
  obtain ⟨v, counted, gdu, taken⟩ : ∃ v, TripsCounted s v ∧ v.gdu = s.gdu ∧
      tauDistance s = svsDistance (destinationUnit (bucketDistance v)) :=
    ⟨_, tripsCounted s, eachIx_keeps (get := fun x => x.gdu) (fun t x => (tripDistance_only x t).gdu_eq (by decide)) _, rfl⟩
  rw [taken]
  exact (((counted.current gdu).trans (bucketDistance_current _)).trans (destinationUnit_current _)).trans
    (.of_only RangeHeld.reads (countItems_only _ _))

theorem tauFuel_current : Keeps RangeHeld s (tauFuel s) := by
  refine .of_rangeParts ?_
  rw [State.rangeParts, tauFuel_tau, (tauFuel_only s).gdu_eq (by decide)]
  rfl

theorem Tau.takeSecond_parts (u : Tau) : u.takeSecond.ring = u.ring ∧ u.takeSecond.fuel = u.fuel ∧
    u.takeSecond.range = u.range := by
  have engine := u.takeSecond_engine
  exact ⟨(congrArg Tau.ring engine :), (congrArg Tau.fuel engine :), (congrArg Tau.range engine :)⟩

theorem secondBoundary_current : Keeps RangeHeld s (secondBoundary s) := by
  obtain ⟨ring, fuel, range⟩ := s.tau.takeSecond_parts
  refine .of_rangeParts ?_
  rw [State.rangeParts, State.rangeParts, secondBoundary_tau, ring, fuel, range, (secondBoundary_only s).gdu_eq (by decide)]

theorem resetTrip_current (t : TripIx) (by_ : ResetBy) : Keeps RangeHeld s (resetTrip t by_ s) := by
  unfold resetTrip
  dsimp only
  split_ifs
  · exact Keeps.trans (t := s.modTrip t _) (.of_rangeParts rfl) (.of_only RangeHeld.reads (mark_only _ _))
  · exact .of_rangeParts rfl

/-! ## Reports and expiries of a slot -/

/-- The range is current unless the slot just changed is the fuel slot. -/
def RangeDue (n : SlotIx) (s : State) : Prop := s.tau.fuel.slot ≠ some n → RangeHeld s

theorem RangeDue.reads (n : SlotIx) : Reads [.tau, .gdu] (RangeDue n) := by
  intro s t same due other
  have tau : t.tau = s.tau := same .tau (by decide)
  rw [tau] at other
  exact RangeHeld.reads s t same (due other)

/-- A changed slot is the only one that the range may have to be recomputed for. -/
theorem RangeDue.of_modSlot (n : SlotIx) (f : Slot → Slot) (current : RangeHeld s) : RangeDue n (s.modSlot n f) := by
  intro other
  have value : freshFuelValue (s.modSlot n f) = freshFuelValue s := by
    refine freshFuelValue_congr rfl fun m named => ?_
    have ne : m ≠ n := by
      rintro rfl
      exact other named
    rw [State.modSlot_slots, updAt_get_other _ _ _ _ ne.symm]
  have same : computedRange (s.modSlot n f) = computedRange s := computedRange_congr rfl rfl value
  rw [RangeHeld, RangeCurrent, same]
  exact current

/-- A handing of a slot's change ends with the range current: the TAU recomputes it when the slot is the fuel slot, and
no other taker touches what it is computed from. -/
theorem hand_slot_current {n : SlotIx} {take : Block → State → State} (tau : ∀ u, RangeDue n u → RangeHeld (take .tau u))
    (others : ∀ c u, c ≠ .tau → (take c u).rangeParts = u.rangeParts) (f : Slot → Slot) :
    Keeps RangeHeld s (hand [.gdu, .tau, .wtb, .clc] take (s.modSlot n f)) := by
  intro current
  refine hand_reaches (b := .tau) (before := RangeDue n) (by decide)
    (fun u g => Keeps.of_only (RangeDue.reads n) (modFree_only u g)) tau (fun c u other due named => ?_)
    (fun c u other => Keeps.of_rangeParts (others c u other)) (.of_modSlot s n f current)
  have fuel : (take c u).tau.fuel = u.tau.fuel := congrArg RangeParts.fuel (others c u other)
  rw [fuel] at named
  exact Keeps.of_rangeParts (others c u other) (due named)

theorem reportSlot_current (n : SlotIx) (value : Int) : Keeps RangeHeld s (reportSlot n value s) := by
  refine hand_slot_current s (fun u due => ?_) (fun c u other => ?_) _
  · show RangeHeld (tauReport n u)
    unfold tauReport
    split_ifs with named
    · exact recomputeRange_current _
    · exact due named
  · cases c
    case gdu => exact rangeParts_eq rfl (takeReport_slots n _ u)
    case tau => exact absurd rfl other
    all_goals exact rangeParts_eq (by rw [(takeReport_parts u n _).tau_eq (by decide)]) (takeReport_slots n _ u)

theorem slotExpired_current (n : SlotIx) (f : Slot → Slot) : Keeps RangeHeld s (slotExpired n f s) := by
  refine hand_slot_current s (fun u due => ?_) (fun c u other => ?_) _
  · show RangeHeld (tauSlotState n u)
    unfold tauSlotState
    split_ifs with named
    · exact recomputeRange_current _
    · exact due named
  · cases c
    case gdu => exact rangeParts_eq rfl (takeSlotState_slots n _ u)
    case tau => exact absurd rfl other
    all_goals exact rangeParts_eq (by rw [(takeSlotState_parts u n _).tau_eq (by decide)]) (takeSlotState_slots n _ u)

/-! ## Pulses and windows -/

theorem changeChannel_current (ch : ChannelIx) (f : Channel → Channel) : Keeps RangeHeld s (changeChannel ch f s) := by
  refine .changeChannel (fun u g => .of_only RangeHeld.reads (modFree_only u g))
    (.of_only RangeHeld.reads (modChannel_only s _ _)) (fun u => .of_only RangeHeld.reads (leaveLive_only u))
    fun st engine road b u => ?_
  cases b
  case gdu => exact .of_rangeParts rfl
  case tau => exact .of_rangeParts (rangeParts_eq (tauRoadLive_records road _) (by
    rw [(takeChannel_parts u ch st engine road .tau).gdu_eq (by decide)]))
  all_goals exact .of_only RangeHeld.reads (takeChannel_parts u _ _ _ _ _)

theorem roadEdge_current : Keeps RangeHeld s (roadEdge s) := by
  unfold roadEdge
  dsimp only
  split_ifs
  · exact .of_only RangeHeld.reads (modPcu_only s _)
  · exact (Keeps.of_only RangeHeld.reads (modPcu_only s _)).trans (tauDistance_current _)
  · exact .of_only RangeHeld.reads (modPcu_only s _)

theorem checkEdge_current : Keeps RangeHeld s (checkEdge s) := by
  unfold checkEdge
  dsimp only
  split_ifs
  · exact .of_only RangeHeld.reads (modPcu_only s _)
  · exact (Keeps.of_only RangeHeld.reads (modPcu_only s _)).trans (tauDistance_current _)
  · exact .of_only RangeHeld.reads (modPcu_only s _)

theorem supplyEdge_current : Keeps RangeHeld s (supplyEdge s) := by
  refine .of_rangeParts ?_
  rw [State.rangeParts, supplyEdge_tau, (supplyEdge_only s).gdu_eq (by decide)]
  split_ifs <;> rfl

theorem pulseEdge_current (ch : ChannelIx) (at10us : Nat) : Keeps RangeHeld s (pulseEdge ch at10us s) := by
  unfold pulseEdge
  split_ifs
  · exact .refl s
  · refine (changeChannel_current s ch (Channel.edge at10us)).trans ?_
    unfold dividerEdge
    split
    · exact roadEdge_current _
    · exact .refl _
    · exact supplyEdge_current _
    · exact .of_only RangeHeld.reads (returnEdge_only _)
    · exact checkEdge_current _
    · exact .refl _

theorem windowExpiry_current (at10us : Nat) : Keeps RangeHeld s (windowExpiry at10us s) := by
  refine .windowExpiry RangeHeld.reads (by decide) (fun ch f u => changeChannel_current u ch f)
    (fun u => .of_only RangeHeld.reads (disagreeTest_only u)) (fun road b u => ?_) (fun x b u => ?_) at10us s
  · cases b
    case tau => exact .of_rangeParts (rangeParts_eq (tauRoadLive_records road u) (by
      rw [(takeRoadLive_parts u road .tau).gdu_eq (by decide)]))
    all_goals exact .of_only RangeHeld.reads (takeRoadLive_parts u _ _)
  · cases b
    case gdu => exact .of_rangeParts rfl
    case tau => exact .of_rangeParts rfl
    all_goals exact .of_only RangeHeld.reads (takeWindow_parts u _ _)

end

/-! ## Power states and resets -/

/-- After a reset no slot is FRESH and no range is held (R40, R57, R63). -/
theorem resetAll_current (cause : ResetCause) (armed : Bool) (lines : InputLines) (s : State) :
    RangeHeld (resetAll cause armed lines s) := by
  have tau : (resetAll cause armed lines s).tau = s.tau.reset := rfl
  have slots : (resetAll cause armed lines s).gdu.slots = mapAll Slot.reset s.gdu.slots := rfl
  have value : freshFuelValue (resetAll cause armed lines s) = none := by
    unfold freshFuelValue
    rw [Option.bind_eq_none_iff]
    intro n _
    rw [slots, mapAll_get]
    rfl
  rw [RangeHeld, RangeCurrent, computedRange, value, tau]
  rfl

theorem power_current : KeepsPower RangeHeld := by
  have disagree : ∀ b s, Keeps RangeHeld s (setDisagree b s) :=
    fun b s => .of_only RangeHeld.reads (setDisagree_only s b)
  refine .of_reads RangeHeld.reads (by decide) (fun b s => ?_) (fun b s => ?_) (fun p b s => ?_)
    (fun s => .of_only RangeHeld.reads (coachReset_only s))
    (fun test s => .of_only RangeHeld.reads (ByProducts.evaluateWhere test s).only)
    (fun cause armed lines s => .of_holds (resetAll_current cause armed lines s)) fun lines s => rfl
  · cases b
    case pcu => exact .pcuRunEntry RangeHeld.reads (by decide) (fun ch f s => changeChannel_current s ch f) disagree s
    case gdu => exact .of_rangeParts rfl
    case tau => exact .of_rangeParts rfl
    all_goals exact .of_only RangeHeld.reads (takeRunEntry_parts s _)
  · cases b
    case pcu => exact .pcuParkedEntry RangeHeld.reads (by decide) (fun ch f s => changeChannel_current s ch f) disagree s
    case gdu => exact .of_rangeParts (rangeParts_eq (congrArg Tau.records ((gduParkedEntry_only s).tau_eq (by decide))) (gduParkedEntry_slots s))
    case tau => exact .of_rangeParts rfl
    all_goals exact .of_only RangeHeld.reads (takeParkedEntry_parts s _)
  · cases b
    case pcu => exact .of_only RangeHeld.reads (modPcu_only s _)
    case gdu => exact .of_rangeParts rfl
    case tau => exact .of_rangeParts rfl
    all_goals exact .of_only RangeHeld.reads (takeCrank_parts s _ _)

/-! ## Requests and steps -/

section
variable (s : State)

theorem setFuelOptions_current (o : FuelOptions) : Keeps RangeHeld s (setFuelOptions o s).1 :=
  .of_holds (recomputeRange_current _)

theorem emptyRing_current : Keeps RangeHeld s (emptyRing s) :=
  .trans (.of_holds (recomputeRange_current _)) (.of_only RangeHeld.reads (mark_only _ _))

theorem setChannel_current (p : ChannelIx × ChannelConfig) : Keeps RangeHeld s (setChannel p s).1 := by
  have loaded : Keeps RangeHeld s (s.modInputs (Inputs.loadPulse p.1)) := .of_only RangeHeld.reads (modInputs_only s _)
  have changed := loaded.trans (changeChannel_current _ p.1 fun _ => Channel.restarted p.2)
  unfold setChannel emptyAnswer
  dsimp only
  split_ifs
  · exact loaded.trans (.of_only RangeHeld.reads (modChannel_only _ _ _))
  · exact changed.trans (.of_only RangeHeld.reads (modPcu_only _ _))
  · exact changed

theorem setCalibration_current (cal : Calibration) : Keeps RangeHeld s (setCalibration cal s).1 := by
  unfold setCalibration emptyAnswer
  dsimp only
  have emptied := ((Keeps.of_only RangeHeld.reads (modPcu_only s fun p => { p with
      cal, roadResidue := 0, checkResidue := 0, fuelResidue := 0 })).trans
      (.of_only RangeHeld.reads (setImplausible_only _ false))).trans (emptyRing_current _)
  split_ifs
  · exact emptied
  · exact emptied.trans (.of_only RangeHeld.reads (modPcu_only _ _))

theorem tripControl_current (p : TripIx × TripAction) : Keeps RangeHeld s (tripControl p s).1 := by
  unfold tripControl
  split
  · exact resetTrip_current s _ _
  · split
    · rename_i st _
      show Keeps RangeHeld s (setTripState p.1 st s)
      unfold setTripState
      dsimp only
      split_ifs
      · exact Keeps.trans (t := s.modTrip p.1 _) (.of_rangeParts rfl) (.of_only RangeHeld.reads (mark_only _ _))
      · exact .of_rangeParts rfl
    · exact .refl s

theorem restoreOdometer_current (v : Nat) : Keeps RangeHeld s (restoreOdometer v s) := by
  have restored : Keeps RangeHeld s (s.modTau (Tau.restore v)) := .of_rangeParts rfl
  exact ((restored.trans (.of_only RangeHeld.reads (modSvs_only _ _))).trans
    (.of_only RangeHeld.reads (modLkp_only _ _))).trans (.of_only RangeHeld.reads (wtbOdometer_only _ _))

end

theorem owner_current (k : ReqKind) (r : Request) (s : State) : Keeps RangeHeld s (k.owner r s).1 := by
  cases k
  case setChannel => exact .ranged fun p _ => setChannel_current s p
  case setCalibration => exact .ranged fun cal _ => setCalibration_current s cal
  case sensorReport =>
    exact .ranged fun pairs _ => .foldl (fun u (p : SlotIx × Int) => reportSlot_current u p.1 p.2) pairs s
  case setSlot => exact .of_rangeParts (gaugeRequest_parts s (.inl rfl) r)
  case setGauge => exact .of_rangeParts (gaugeRequest_parts s (.inr (.inl rfl)) r)
  case sweepGauges => exact .of_rangeParts (gaugeRequest_parts s (.inr (.inr rfl)) r)
  case tripControl => exact .ranged fun p _ => tripControl_current s p
  case setDestination =>
    refine .ranged fun d _ => ?_
    exact Keeps.trans (t := s.modTau fun u => { u with destination := d }) (.of_rangeParts rfl)
      (.of_only RangeHeld.reads (mark_only _ _))
  case restoreOdometer =>
    show Keeps RangeHeld s (ownRestoreOdometer r s).1
    unfold ownRestoreOdometer
    dsimp only
    split
    · exact .refl s
    · split_ifs
      · exact .refl s
      · dsimp only
        exact restoreOdometer_current s _
  case setFuelOptions => exact .ranged fun o _ => setFuelOptions_current s o
  all_goals exact .of_only RangeHeld.reads (owner_only _ r s)

theorem ownRearEvent_current (e : RearEvent) (s : State) : Keeps RangeHeld s (ownRearEvent e s).1 := by
  unfold ownRearEvent
  split <;> dsimp only
  · exact .of_only RangeHeld.reads (ByProducts.takeChime _ s).only
  · exact .of_only RangeHeld.reads (takePrivacy_only s _)
  · exact .of_only RangeHeld.reads (takePrivacy_only s _)
  · exact (resetTrip_current s _ _).trans (.of_only RangeHeld.reads (tripNotice_only _ _ _))
  · exact .of_only RangeHeld.reads (ByProducts.acknowledgeWhere _ s).only
  · exact .of_only RangeHeld.reads (rearClockSet_only s _)
  · exact .of_only RangeHeld.reads (rearAlarmSet_only s _)
  · exact .refl s

theorem other_current (c : Instr) (s : State) : Keeps RangeHeld s (otherEffect c s) := by
  by_cases power : isPowerCommand c = true
  · exact power_current.effect power
  by_cases answer : isAnswerCommand c = true
  · exact .answerCommand (.of_only RangeHeld.reads (modClc_only s _))
      (fun a => (KeepsCompletion.of_reads RangeHeld.reads ownRearEvent_current).completeTxn a s) answer
  · cases c
    case pulseEdge ch at10us => exact pulseEdge_current s ch at10us
    case stallExpiry ch =>
      show Keeps RangeHeld s (stallExpiry ch s)
      unfold stallExpiry
      split_ifs
      · exact changeChannel_current s ch _
      · exact .refl s
    case windowExpiry at10us => exact windowExpiry_current s at10us
    case slotStaleExpiry n =>
      show Keeps RangeHeld s (slotStaleExpiry n s)
      unfold slotStaleExpiry
      split_ifs
      · exact slotExpired_current s n _
      · exact .refl s
    case slotLostExpiry n =>
      show Keeps RangeHeld s (slotLostExpiry n s)
      unfold slotLostExpiry
      split_ifs
      · exact slotExpired_current s n _
      · exact .refl s
    case needleStep g =>
      exact .of_rangeParts (rangeParts_eq (congrArg Tau.records ((needleStep_only s g).tau_eq (by decide)))
        (needleStep_slots s g))
    case homingEnd g =>
      exact .of_rangeParts (rangeParts_eq (congrArg Tau.records ((homingEnd_only s g).tau_eq (by decide)))
        (homingEnd_slots s g))
    case secondBoundary => exact secondBoundary_current s
    all_goals first
      | exact absurd rfl power
      | exact absurd rfl answer
      | exact .of_only RangeHeld.reads (otherEffect_only _ s) (by simp [otherParts])

/-! ## What the sums give -/

section
variable (s : State)

theorem computedRange_of_no_slot (named : s.tau.fuel.slot = none) : computedRange s = none := by
  unfold computedRange freshFuelValue
  rw [named]
  rfl

theorem computedRange_of_slot {n : SlotIx} (named : s.tau.fuel.slot = some n) : computedRange s =
    if s.gdu.slots[n].state ≠ .fresh ∨ s.tau.ring.length < 4 ∨ s.tau.sumFuel = 0 then none
    else some (min (tableLookup s.tau.fuel.tank s.gdu.slots[n].value * s.tau.sumDistance / s.tau.sumFuel) 999999) := by
  have value : freshFuelValue s = if s.gdu.slots[n].state = .fresh then some s.gdu.slots[n].value else none := by
    unfold freshFuelValue
    rw [named, Option.bind_some]
  by_cases fresh : s.gdu.slots[n].state = .fresh
  · rw [if_pos fresh] at value
    rw [computedRange, value]
    exact if_congr (or_iff_right (not_not.mpr fresh)).symm rfl rfl
  · rw [if_neg fresh] at value
    rw [computedRange, value, if_pos (.inl fresh)]

/-- The hour and the minute of a time of day (R59). -/
theorem clockFace (n : Nat) : n % 86400 / 3600 = n / 3600 % 24 ∧ n % 86400 % 3600 / 60 = n / 60 % 60 := by omega

theorem eta_of_destination {u : Tau} (c : Clk) {d : Nat} (given : u.destination = some d) :
    eta u c =
      if c.state = .unset ∨ u.ring.length < 4 ∨ u.sumDistance = 0 ∨ 86400 ≤ d * u.sumSeconds / u.sumDistance then none
      else some ((c.time.hour * 3600 + c.time.minute * 60 + c.time.second + d * u.sumSeconds / u.sumDistance) / 3600 % 24,
        (c.time.hour * 3600 + c.time.minute * 60 + c.time.second + d * u.sumSeconds / u.sumDistance) / 60 % 60) := by
  obtain ⟨hour, minute⟩ :=
    clockFace (c.time.hour * 3600 + c.time.minute * 60 + c.time.second + d * u.sumSeconds / u.sumDistance)
  rw [← hour, ← minute, eta, given]

end

/-- Settles O14: the records in their ranges and the range current after every step, and what the closed buckets give. -/
theorem tripsKept : Obligations.TripsKept := by
  unfold Obligations.TripsKept
  refine ⟨fun _ _ => tripsOk_step, fun _ _ => step_keeps_blocks RangeHeld.reads owner_current other_current,
    fun s => ⟨computedRange_of_no_slot s, fun n => computedRange_of_slot s, rfl, fun none => ?_,
      fun d => eta_of_destination s.clk⟩⟩
  unfold eta
  rw [none]

end Sys2Proof.Machine
end

section
/-! What the blocks share, copy by copy: what it is for the copies of one state to be in step with the block that has it,
and the operations that keep them so (R5, R15, R25, R43, R57, R72, R87, R132, R147, R149, R172). -/

namespace Sys2Proof.Machine

-- One theorem at a time, so that a build as one text needs few threads.
set_option Elab.async false

/-! ## The copies -/

/-- A copy that a block holds of a state of another one; where a state has several holders, the holder is named. -/
inductive Copy where
  | power (b : Block) | engineTau | engineWarn | roadTau | roadWarn | roadSvs | roadClc | channelsGauge | channelsWarn
  | odometerWarn | odometerLink | clockWarn | clockLink | disagree | implausible | line | range | items | nodes | slots

/-- Engine running, as the states of the channels give it (R5). -/
def Shared.engine (x : Shared) : Bool := x.states[1] = .live

/-- Road source LIVE, as the states of the channels and the road source give it (R5). -/
def Shared.road (x : Shared) : Bool := x.states[x.roadSource.channel] = .live

/-- A block's copy of the power state; the CLK holds none. -/
def Powers.of (x : Powers) : Block → PowerState
  | .pcu => x.pcu | .gdu => x.gdu | .tau => x.tau | .wtb => x.wtb | .chs => x.chs | .svs => x.svs | .clc => x.clc
  | .lkp => x.lkp | .clk => x.igs

/-- A copy is what the block that has the state holds. -/
def Shared.Agrees (x : Shared) : Copy → Prop
  | .power b => x.powers.of b = x.powers.igs
  | .engineTau => x.tauEngine = x.engine
  | .engineWarn => x.view.engineRunning = x.engine
  | .roadTau => x.tauRoadLive = x.road
  | .roadWarn => x.view.roadLive = x.road
  | .roadSvs => x.svsRoadLive = x.road
  | .roadClc => x.clcRoadLive = x.road
  | .channelsGauge => x.gaugeStates = x.states
  | .channelsWarn => x.view.channels = x.states
  | .odometerWarn => x.view.odometer = x.odometer
  | .odometerLink => x.odometerInvalid = decide (x.odometer = .invalid)
  | .clockWarn => x.view.clock = x.clock
  | .clockLink => x.clockUnset = decide (x.clock = .unset)
  | .disagree => x.view.disagree = x.disagree
  | .implausible => x.view.implausible = x.implausible
  | .line => x.view.line = x.line
  | .range => x.view.range = x.range
  | .items => x.view.items = x.items
  | .nodes => x.view.nodes = x.nodes
  | .slots => ∀ n : SlotIx, (x.view.slotStates[n], x.view.slotValues[n]) = x.slots[n]

/-- The copies of one state are in step. -/
def Agrees (k : Copy) (s : State) : Prop := s.shared.Agrees k

/-- Every state whose copies are in step keeps its copies in step. -/
def InStep (s t : State) : Prop := ∀ k, Keeps (Agrees k) s t

theorem vector_eq_iff {α : Type} {n : Nat} {v w : Vector α n} : v = w ↔ ∀ i : Fin n, v[i] = w[i] :=
  ⟨fun h i => by rw [h], fun h => Vector.ext fun i hi => h ⟨i, hi⟩⟩

theorem shared_engine (s : State) : s.shared.engine = s.pcu.engineRunning := by
  unfold Shared.engine Pcu.engineRunning
  exact congrArg (fun st => decide (st = ChannelState.live)) (mapAll_get (fun c : Channel => c.state) s.pcu.channels (1 : ChannelIx))

theorem shared_road (s : State) : s.shared.road = s.pcu.roadLive := by
  unfold Shared.road Pcu.roadLive
  exact congrArg (fun st => decide (st = ChannelState.live))
    (mapAll_get (fun c : Channel => c.state) s.pcu.channels s.pcu.roadSource.channel)

theorem powerCopiesOk_iff {s : State} : PowerCopiesOk s ↔ ∀ b, Agrees (.power b) s := by
  constructor
  · rintro ⟨pcu, gdu, tau, wtb, chs, svs, clc, lkp⟩ b
    cases b <;> first | assumption | rfl
  · intro all
    exact ⟨all .pcu, all .gdu, all .tau, all .wtb, all .chs, all .svs, all .clc, all .lkp⟩

theorem agrees_engineTau_iff {s : State} : Agrees .engineTau s ↔ s.tau.engineRunning = s.pcu.engineRunning := by
  rw [← shared_engine]
  exact Iff.rfl

theorem agrees_engineWarn_iff {s : State} : Agrees .engineWarn s ↔ s.wtb.view.engineRunning = s.pcu.engineRunning := by
  rw [← shared_engine]
  exact Iff.rfl

theorem agrees_road_iff {s : State} : (Agrees .roadTau s ↔ s.tau.roadLive = s.pcu.roadLive) ∧
    (Agrees .roadWarn s ↔ s.wtb.view.roadLive = s.pcu.roadLive) ∧
    (Agrees .roadSvs s ↔ s.svs.roadLive = s.pcu.roadLive) ∧ (Agrees .roadClc s ↔ s.clc.roadLive = s.pcu.roadLive) := by
  rw [← shared_road]
  exact ⟨Iff.rfl, Iff.rfl, Iff.rfl, Iff.rfl⟩

theorem shared_states (s : State) (ch : ChannelIx) : s.shared.states[ch] = s.pcu.channels[ch].state :=
  mapAll_get (fun c : Channel => c.state) s.pcu.channels ch

theorem agrees_gaugeChannels_iff {s : State} : Agrees .channelsGauge s ↔ ∀ ch : ChannelIx,
    s.gdu.view.channels[ch] = s.pcu.channels[ch].state :=
  vector_eq_iff.trans (forall_congr' fun ch => by rw [shared_states]; exact Iff.rfl)

theorem agrees_warnChannels_iff {s : State} : Agrees .channelsWarn s ↔ ∀ ch : ChannelIx,
    s.wtb.view.channels[ch] = s.pcu.channels[ch].state :=
  vector_eq_iff.trans (forall_congr' fun ch => by rw [shared_states]; exact Iff.rfl)

theorem agrees_items_iff {s : State} : Agrees .items s ↔ ∀ i : ItemIx, s.wtb.view.items[i] = s.svs.items[i].state := by
  have states (i : ItemIx) : s.shared.items[i] = s.svs.items[i].state :=
    mapAll_get (fun it : ServiceItem => it.state) s.svs.items i
  exact vector_eq_iff.trans (forall_congr' fun i => by rw [states]; exact Iff.rfl)

theorem agrees_nodes_iff {s : State} : Agrees .nodes s ↔ ∀ n : NodeIx, s.wtb.view.nodes[n] = s.clc.nodes[n].state := by
  have states (n : NodeIx) : s.shared.nodes[n] = s.clc.nodes[n].state :=
    mapAll_get (fun nd : Node => nd.state) s.clc.nodes n
  exact vector_eq_iff.trans (forall_congr' fun n => by rw [states]; exact Iff.rfl)

theorem agrees_slots_iff {s : State} : Agrees .slots s ↔ ∀ n : SlotIx,
    s.wtb.view.slotStates[n] = s.gdu.slots[n].state ∧ s.wtb.view.slotValues[n] = s.gdu.slots[n].value := by
  have slots (n : SlotIx) : s.shared.slots[n] = (s.gdu.slots[n].state, s.gdu.slots[n].value) :=
    mapAll_get (fun x : Slot => (x.state, x.value)) s.gdu.slots n
  refine forall_congr' fun n => ?_
  rw [slots, Prod.mk.injEq]
  exact Iff.rfl

/-- The copies of the PCU's states. -/
theorem pulseCopiesOk_iff {s : State} : PulseCopiesOk s ↔
    Agrees .engineTau s ∧ Agrees .engineWarn s ∧ Agrees .roadTau s ∧ Agrees .roadWarn s ∧ Agrees .roadSvs s ∧
      Agrees .roadClc s ∧ Agrees .disagree s ∧ Agrees .implausible s ∧ Agrees .channelsGauge s ∧ Agrees .channelsWarn s := by
  obtain ⟨tau, wtb, svs, clc⟩ := agrees_road_iff (s := s)
  rw [agrees_engineTau_iff, agrees_engineWarn_iff, tau, wtb, svs, clc, agrees_gaugeChannels_iff, agrees_warnChannels_iff]
  constructor
  · rintro ⟨engineTau, engineWarn, roadTau, roadWarn, roadSvs, roadClc, disagree, implausible, channels⟩
    exact ⟨engineTau, engineWarn, roadTau, roadWarn, roadSvs, roadClc, disagree, implausible, fun ch => (channels ch).1, fun ch => (channels ch).2⟩
  · rintro ⟨engineTau, engineWarn, roadTau, roadWarn, roadSvs, roadClc, disagree, implausible, gauge, warn⟩
    exact ⟨engineTau, engineWarn, roadTau, roadWarn, roadSvs, roadClc, disagree, implausible, fun ch => ⟨gauge ch, warn ch⟩⟩

/-- The copies of the other blocks' states. -/
theorem stateCopiesOk_iff {s : State} : StateCopiesOk s ↔
    Agrees .odometerWarn s ∧ Agrees .clockWarn s ∧ Agrees .line s ∧ Agrees .range s ∧ Agrees .odometerLink s ∧
      Agrees .clockLink s ∧ Agrees .items s ∧ Agrees .nodes s ∧ Agrees .slots s := by
  rw [agrees_items_iff, agrees_nodes_iff, agrees_slots_iff]
  exact Iff.rfl

/-! ## How copies stay in step -/

namespace InStep
variable {s t u : State}

theorem refl (s : State) : InStep s s := fun _ => .refl s

theorem trans (h : InStep s t) (k : InStep t u) : InStep s u := fun c => (h c).trans (k c)

theorem of_shared (same : t.shared = s.shared) : InStep s t := fun k ok => by rw [Agrees, same]; exact ok

theorem byProducts (h : ByProducts s t) : InStep s t := of_shared h.shared

theorem foldl {α : Type} {f : State → α → State} (h : ∀ s a, InStep s (f s a)) (l : List α) (s : State) :
    InStep s (l.foldl f s) := fun k => .foldl (fun s a => h s a k) l s

theorem eachIx {n : Nat} {f : Fin n → State → State} (h : ∀ i s, InStep s (f i s)) (s : State) :
    InStep s (Machine.eachIx n f s) := foldl (fun s i => h i s) _ s

theorem hand {targets : List Block} {take : Block → State → State} (h : ∀ b s, InStep s (take b s)) (s : State) :
    InStep s (Machine.hand targets take s) :=
  (of_shared (t := s.modFree fun v => { v with orders := v.orders.tail }) rfl).trans (foldl (fun s b => h b s) _ _)

theorem ranged {α : Type} {fields : Option α} {f : α → State → State × Response} (h : ∀ a, InStep s (f a s).1) :
    InStep s (Machine.ranged fields f s).1 := fun k => .ranged fun a _ => h a k

end InStep

/-- What the blocks share with other copies at the WTB. -/
def Shared.withView (x : Shared) (v : WarnView) : Shared := { x with
  powers := { x.powers with wtb := v.power }
  view := { v with roadSpeed := 0, checkSpeed := 0, engineSpeed := 0, roadSource := .ch0 } }

/-- What the WTB takes changes what the blocks share in its copies alone. -/
theorem wtbTake_shared (f : WarnView → WarnView) (test : EntryConfig → Bool) (s : State) :
    (wtbTake f test s).shared = s.shared.withView (f s.wtb.view) := (ByProducts.evaluateWhere test _).shared

section
variable (s : State)

/-! ## One state and its copies -/

theorem setDisagree_inStep (b : Bool) : InStep s (setDisagree b s) := by
  unfold setDisagree
  split_ifs
  · exact .refl s
  · intro k ok
    rw [Agrees, wtbDisagree, wtbTake_shared]
    cases k
    case disagree => rfl
    all_goals exact ok

theorem setImplausible_inStep (b : Bool) : InStep s (setImplausible b s) := by
  unfold setImplausible
  split_ifs
  · exact .refl s
  · intro k ok
    rw [Agrees, wtbImplausible, wtbTake_shared]
    cases k
    case implausible => rfl
    all_goals exact ok

theorem recomputeRange_inStep : InStep s (recomputeRange s) := by
  unfold recomputeRange
  split_ifs
  · exact .refl s
  · intro k ok
    rw [Agrees, wtbRange, wtbTake_shared]
    cases k
    case range => rfl
    all_goals exact ok

theorem setLine_inStep (st : LineState) : InStep s (setLine st s) := by
  unfold setLine
  split_ifs
  · exact .refl s
  · intro k ok
    rw [Agrees, wtbLine, wtbTake_shared]
    cases k
    case line => rfl
    all_goals exact ok

/-- The states of a table after one of them is set. -/
theorem mapAll_updAt_state {α β : Type} {n : Nat} (f : α → β) (v : Vector α n) (i : Fin n) (g : α → α) :
    mapAll f (updAt v i g) = (mapAll f v).set i (f (g v[i])) := by
  refine vector_eq_iff.mpr fun j => ?_
  rw [mapAll_get, updAt_get]
  by_cases same : i = j
  · subst same
    rw [if_pos rfl]
    exact (Vector.getElem_set_self i.isLt).symm
  · rw [if_neg same, ← mapAll_get f]
    exact (Vector.getElem_set_ne i.isLt j.isLt fun eq => same (Fin.ext eq)).symm

end

end Sys2Proof.Machine
end

section
/-! Which operations keep every copy in step: the items, the nodes, the line, the odometer, the clock, the slots and the
channels, each with its handing (R5, R15, R25, R43, R72, R132, R147, R149). -/

namespace Sys2Proof.Machine

-- One theorem at a time, so that a build as one text needs few threads.
set_option Elab.async false

section
variable (s : State)

theorem mark_inStep (i : MirrorItem) : InStep s (mark i s) := .byProducts (.mark i s)

theorem notify_inStep (n : Notice) : InStep s (s.notify n) := .byProducts (.notify n s)

/-! ## Service items -/

theorem decideItem_inStep (i : ItemIx) : InStep s (decideItem i s) := by
  unfold decideItem
  dsimp only
  split_ifs
  · exact .refl s
  · intro k ok
    rw [Agrees, wtbItem, wtbTake_shared, (ByProducts.notify _ _).shared]
    cases k
    case items =>
      have items : s.wtb.view.items = mapAll (fun it : ServiceItem => it.state) s.svs.items := ok
      show s.wtb.view.items.set i s.svs.items[i].decided =
        mapAll (fun it : ServiceItem => it.state) (updAt s.svs.items i fun it => { it with state := it.decided })
      rw [mapAll_updAt_state, items]
    all_goals exact ok

/-- A change of an item that leaves its state, and the decision that follows. -/
theorem changeItem_inStep (i : ItemIx) {f : ServiceItem → ServiceItem} (keeps : ∀ it, (f it).state = it.state) :
    InStep s (changeItem i f s) := by
  have same : (s.modItem i f).shared = s.shared := by
    have states : mapAll (fun it : ServiceItem => it.state) (updAt s.svs.items i f) =
        mapAll (fun it : ServiceItem => it.state) s.svs.items := mapAll_updAt (keeps _)
    exact (congrArg (fun v => { s.shared with items := v }) states :)
  exact (InStep.of_shared same).trans (decideItem_inStep _ i)

theorem countItems_inStep {down : ServiceItem → ServiceItem} (keeps : ∀ it, (down it).state = it.state) :
    InStep s (countItems down s) := by
  refine .eachIx (fun i s => ?_) s
  split_ifs
  · exact changeItem_inStep s i keeps
  · exact .refl s

theorem downDistance_state (it : ServiceItem) : it.downDistance.state = it.state := by
  unfold ServiceItem.downDistance
  split <;> rfl

theorem downHours_state (it : ServiceItem) : it.downHours.state = it.state := by
  unfold ServiceItem.downHours
  split <;> rfl

theorem downDays_state (it : ServiceItem) : it.downDays.state = it.state := by
  unfold ServiceItem.downDays
  split <;> rfl

theorem svsRestore_shared (r : Nat) : (svsRestore r s).shared = s.shared := by
  have states : mapAll (fun it : ServiceItem => it.state) (svsRestore r s).svs.items =
      mapAll (fun it : ServiceItem => it.state) s.svs.items :=
    mapAll_congr fun i => by
      rw [svsRestore, State.modSvs_svs]
      dsimp only
      rw [mapAll_get]
  exact (congrArg (fun v => { s.shared with items := v }) states :)

/-! ## The Coach Line -/

/-- A change of a node's record that leaves its state. -/
theorem modNode_shared {n : NodeIx} {f : Node → Node} (keeps : (f s.clc.nodes[n]).state = s.clc.nodes[n].state) :
    (s.modNode n f).shared = s.shared := by
  have states : mapAll (fun nd : Node => nd.state) (updAt s.clc.nodes n f) =
      mapAll (fun nd : Node => nd.state) s.clc.nodes := mapAll_updAt keeps
  exact (congrArg (fun v => { s.shared with nodes := v }) states :)

theorem enterState_shared (n : NodeIx) (st : NodeState) : (s.modClc (Clc.enterState n st)).shared = s.shared := by
  have kept := Clc.enterState_keeps n st s.clc
  have line : (s.clc.enterState n st).line = s.clc.line := (congrArg Clc.line kept :)
  have nodes : (s.clc.enterState n st).nodes = s.clc.nodes := (congrArg Clc.nodes kept :)
  have power : (s.clc.enterState n st).power = s.clc.power := (congrArg Clc.power kept :)
  have road : (s.clc.enterState n st).roadLive = s.clc.roadLive := (congrArg Clc.roadLive kept :)
  simp only [State.shared, State.powers, State.modClc_clc, line, nodes, power, road]
  rfl

theorem setNodeState_inStep (n : NodeIx) (st : NodeState) : InStep s (setNodeState n st s) := by
  unfold setNodeState
  split_ifs
  · exact .refl s
  · intro k ok
    rw [Agrees, wtbNode, wtbTake_shared, (ByProducts.notify _ _).shared, enterState_shared]
    cases k
    case nodes =>
      have nodes : s.wtb.view.nodes = mapAll (fun nd : Node => nd.state) s.clc.nodes := ok
      show s.wtb.view.nodes.set n st = mapAll (fun nd : Node => nd.state) (updAt s.clc.nodes n (Node.entering st))
      have entering : (Node.entering st s.clc.nodes[n]).state = st := by cases st <;> rfl
      rw [mapAll_updAt_state, entering, nodes]
    all_goals exact ok

theorem validAnswer_inStep (n : NodeIx) : InStep s (validAnswer n s) := by
  have reset : InStep s (s.modNode n fun nd => { nd with misses := 0 }) := .of_shared (modNode_shared s rfl)
  unfold validAnswer
  split
  · exact reset.trans (setNodeState_inStep _ _ _)
  · exact reset.trans (setNodeState_inStep _ _ _)
  · exact reset
  · exact reset

theorem nodeMiss_inStep (n : NodeIx) : InStep s (nodeMiss n s) := by
  have counted (m : Nat) : InStep s (s.modNode n fun nd => { nd with misses := m }) := .of_shared (modNode_shared s rfl)
  unfold nodeMiss
  dsimp only
  split
  · split_ifs
    · exact (counted _).trans (setNodeState_inStep _ _ _)
    · exact counted _
  · split_ifs
    · exact (counted _).trans (setNodeState_inStep _ _ _)
    · exact counted _
  · exact .refl s
  · exact .refl s

theorem configureNode_inStep (n : NodeIx) (x : NodeConfig) : InStep s (configureNode n x s) := by
  have written : InStep s (nodeWritten n x s) :=
    (InStep.of_shared (modNode_shared s (f := Node.configured x (s.clc.stateSet x)) rfl)).trans (.of_shared rfl)
  rw [configureNode_eq]
  exact written.trans (setNodeState_inStep _ _ _)

theorem endPass_inStep (r : Response) : InStep s (endPass r s) := .of_shared (endPass_shared s r)

/-- The states of the slots, which are all that other blocks hold of them. -/
abbrev Clc.states (c : Clc) : Vector NodeState 6 := mapAll (fun nd : Node => nd.state) c.nodes

/-- A change of the Coach Line's records that leaves its copies and its slots' states. -/
theorem modClc_shared {f : Clc → Clc} (power : (f s.clc).power = s.clc.power) (road : (f s.clc).roadLive = s.clc.roadLive)
    (states : (f s.clc).states = s.clc.states) : (s.modClc f).shared = { s.shared with line := (f s.clc).line } := by
  have states : mapAll (fun nd : Node => nd.state) (f s.clc).nodes = mapAll (fun nd : Node => nd.state) s.clc.nodes := states
  simp only [State.shared, State.powers, State.modClc_clc, power, road, states]
  rfl

theorem modClc_inStep {f : Clc → Clc} (power : (f s.clc).power = s.clc.power) (road : (f s.clc).roadLive = s.clc.roadLive)
    (line : (f s.clc).line = s.clc.line) (states : (f s.clc).states = s.clc.states) : InStep s (s.modClc f) :=
  .of_shared (by rw [modClc_shared s power road states, line]; rfl)

theorem Clc.clearDue_states (c : Clc) : c.clearDue.states = c.states :=
  mapAll_congr fun n => by
    unfold Clc.clearDue
    dsimp only
    rw [mapAll_get]

theorem Clc.abandon_states (c : Clc) : c.abandon.states = c.states := c.clearDue_states

theorem Clc.holdDue_states (c : Clc) : c.holdDue.states = c.states :=
  mapAll_congr fun n => by
    unfold Clc.holdDue
    simp only [Fin.getElem_fin, Vector.getElem_ofFn]
    split_ifs <;> rfl

theorem Node.round_state (nd : Node) : nd.round.state = nd.state := by
  unfold Node.round
  split
  case h_3 => split_ifs <;> rfl
  all_goals rfl

theorem Clc.round_states (c : Clc) (period : Option Nat) :
    ({ c with nodes := mapAll Node.round c.nodes, roundTimer := period } : Clc).holdDue.states = c.states := by
  rw [Clc.holdDue_states]
  exact mapAll_congr fun n => by
    show (mapAll Node.round c.nodes)[n].state = _
    rw [mapAll_get, Node.round_state]

theorem startRound_inStep : InStep s (startRound s) := modClc_inStep s rfl rfl rfl (Clc.round_states _ _)

theorem roundExpiry_inStep : InStep s (roundExpiry s) := by
  unfold roundExpiry
  split_ifs
  · exact startRound_inStep s
  · exact .refl s

/-- A line state that differs from the one before the event is handed, so that the copy is in step at the end (R149). -/
theorem handLine_inStep {v : State} (others : ∀ k, k ≠ .line → Keeps (Agrees k) s v)
    (view : v.wtb.view.line = s.wtb.view.line) : InStep s (handLine s.clc.line v) := by
  intro k ok
  unfold handLine
  by_cases line : k = .line
  · subst line
    split_ifs with same
    · exact (view.trans ok).trans same.symm
    · rw [Agrees, wtbLine, wtbTake_shared]
      rfl
  · have kept := others k line ok
    split_ifs
    · exact kept
    · rw [Agrees, wtbLine, wtbTake_shared]
      cases k
      case line => exact absurd rfl line
      all_goals exact kept

/-- The line goes down: its records are abandoned, each enabled slot enters a state, and the line's change is handed
(R158, R159). -/
theorem lineDown_inStep {c : Clc} {g : Node → Node} {st : NodeState} (power : c.power = s.clc.power)
    (road : c.roadLive = s.clc.roadLive) (states : c.states = s.clc.states) (keeps : ∀ nd, (g nd).state = nd.state) :
    InStep s (handLine s.clc.line
      (eachIx 6 (enterIfEnabled g st) (endPass (.refuse .aborted) (s.modClc fun _ => c)))) := by
  have entered (n : NodeIx) (u : State) : InStep u (enterIfEnabled g st n u) := by
    unfold enterIfEnabled
    split_ifs
    · exact (InStep.of_shared (modNode_shared u (keeps _))).trans (setNodeState_inStep _ _ _)
    · exact .refl u
  have loop (u : State) : InStep u (eachIx 6 (enterIfEnabled g st) u) := .eachIx entered u
  refine handLine_inStep s (fun k other => ?_) ?_
  · refine Keeps.trans (t := s.modClc fun _ => c) (fun ok => ?_) (((endPass_inStep _ _).trans (loop _)) k)
    have set := modClc_shared s (f := fun _ => c) power road states
    rw [Agrees, set]
    cases k
    case line => exact absurd rfl other
    all_goals exact ok
  · have view : (endPass (.refuse .aborted) (s.modClc fun _ => c)).wtb = s.wtb := endPass_wtb _ _
    refine (eachIx_keeps (f := enterIfEnabled g st) (get := fun x => x.wtb.view.line) (fun n u => ?_) _).trans (by rw [view])
    obtain ⟨nodes, same, -⟩ := enterIfEnabled_view (g := g) (st := st) n u
    rw [same]

theorem lineFault_inStep : InStep s (lineFault s) := by
  have down := lineDown_inStep s (c := { s.clc.abandon with line := .fault }) (g := id) (st := .lost) rfl rfl
    s.clc.abandon_states fun _ => rfl
  rw [enterIfEnabled_id] at down
  exact down

theorem coachReset_inStep : InStep s (coachReset s) :=
  lineDown_inStep s (c := { s.clc.abandon with line := .resetting, heldLow := true, contentions := 0, sleepWaiting := false })
    (g := Node.rejoined) (st := .joining) rfl rfl s.clc.abandon_states fun _ => rfl

theorem setPassPhase_inStep (ph : PassPhase) : InStep s (setPassPhase ph s) := modClc_inStep s rfl rfl rfl rfl

theorem contention_inStep : InStep s (contention s) := by
  unfold contention
  split
  · rename_i t _
    dsimp only
    have waits (n : Nat) : InStep s (s.modClc fun c => { c with
        txn := none, retry := c.retryOf t.kind, contentions := n }.holdDue) :=
      modClc_inStep s rfl rfl rfl (Clc.holdDue_states _)
    have timed (u : State) : InStep u (u.modClc fun c => { c with backoffTimer := some Config.backoffMs }) :=
      modClc_inStep u rfl rfl rfl rfl
    split_ifs
    · exact .refl s
    · exact modClc_inStep s rfl rfl rfl rfl
    · exact (((waits _).trans (setPassPhase_inStep _ _)).trans (timed _)).trans (setLine_inStep _ _)
    · exact ((waits _).trans (setPassPhase_inStep _ _)).trans (lineFault_inStep _)
  · exact .refl s

theorem backoffExpiry_inStep : InStep s (backoffExpiry s) := by
  unfold backoffExpiry
  split_ifs
  · exact (modClc_inStep s rfl rfl rfl rfl).trans (setLine_inStep _ _)
  · exact .refl s

theorem resettingEnd_inStep : InStep s (resettingEnd s) := by
  unfold resettingEnd
  split_ifs
  · exact (setLine_inStep s _).trans (startRound_inStep _)
  · exact .refl s

theorem sleepStart_inStep : InStep s (sleepStart s) := by
  unfold sleepStart
  split_ifs
  · exact (modClc_inStep s rfl rfl rfl rfl).trans (.of_shared rfl)
  · exact .refl s

theorem answerCharacter_inStep (ch : CoachChar) : InStep s (answerCharacter ch s) := by
  have phase (ph : TxnPhase) : InStep s (setTxnPhase ph s) := .of_shared rfl
  unfold answerCharacter
  split
  · exact phase _
  · split_ifs
    · exact .refl s
    · exact phase _
  · exact .refl s
  · exact .refl s

theorem enterState_inStep (n : NodeIx) (st : NodeState) : InStep s (s.modClc (Clc.enterState n st)) :=
  .of_shared (enterState_shared s n st)

theorem appendPair_inStep (n : NodeIx) (item : MirrorItem) : InStep s (s.modClc fun c => c.appendPair item n) := by
  have kept : { s.clc.appendPair item n with mirrorQueue := s.clc.mirrorQueue } = s.clc := by
    unfold Clc.appendPair
    split_ifs <;> rfl
  have nodes : (s.clc.appendPair item n).nodes = s.clc.nodes := (congrArg Clc.nodes kept :)
  exact modClc_inStep s (congrArg Clc.power kept :) (congrArg Clc.roadLive kept :) (congrArg Clc.line kept :)
    (by rw [Clc.states, nodes])

theorem clcRoadLive_others (b : Bool) {k : Copy} (other : k ≠ .roadClc) : Keeps (Agrees k) s (clcRoadLive b s) := by
  unfold clcRoadLive
  split_ifs
  · exact .refl s
  · refine Keeps.trans (t := s.modClc fun c => { c with roadLive := b }) (fun ok => ?_) (mark_inStep _ _ k)
    cases k
    case roadClc => exact absurd rfl other
    all_goals exact ok

/-! ## The odometer and the clock -/

theorem lkpOdometer_then_wtb (o : OdometerState) {u : State} (others : ∀ k, k ≠ .odometerWarn → k ≠ .odometerLink →
      Keeps (Agrees k) s u) (state : u.tau.odometerState = o) : InStep s (wtbOdometer o (lkpOdometer o u)) := by
  intro k ok
  have kept := fun warn link => others k warn link ok
  rw [Agrees, wtbOdometer, wtbTake_shared]
  cases k
  case odometerWarn => exact state.symm
  case odometerLink =>
    show decide (o = .invalid) = decide (u.tau.odometerState = .invalid)
    rw [state]
  all_goals exact kept nofun nofun

theorem restoreOdometer_inStep (r : Nat) : InStep s (restoreOdometer r s) := by
  refine lkpOdometer_then_wtb s .valid (fun k warn link ok => ?_) ?_
  · rw [Agrees, svsRestore_shared]
    cases k
    case odometerWarn => exact absurd rfl warn
    case odometerLink => exact absurd rfl link
    all_goals exact ok
  · rfl

theorem setClockTo_inStep (t : ClockTime) : InStep s (setClockTo t s) := by
  unfold setClockTo
  dsimp only
  refine InStep.trans ?_ (mark_inStep _ _)
  split_ifs with unset
  · intro k ok
    rw [Agrees, handClockState, wtbClock, wtbTake_shared]
    cases k
    case clockWarn => rfl
    case clockLink => rfl
    all_goals exact ok
  · have set : s.clk.state = .set := by
      cases state : s.clk.state
      · rfl
      · exact absurd state unset
    refine .of_shared ?_
    exact (congrArg (fun c => { s.shared with clock := c }) set.symm :)

theorem markAlarm_inStep (a : AlarmIx) : InStep s (markAlarm a s) := by
  unfold markAlarm
  split_ifs
  · exact mark_inStep s _
  · exact .refl s

theorem changeAlarm_inStep (a : AlarmIx) (f : Alarm → Alarm) : InStep s (changeAlarm a f s) :=
  ((InStep.of_shared (t := s.modAlarm a f) rfl).trans (.byProducts (.removeChime _ _))).trans (markAlarm_inStep _ _)

theorem alarmMatch_inStep (a : AlarmIx) : InStep s (alarmMatch a s) := by
  have taken : InStep s (((takeChime (alarmRequest s.chs a s.clk.alarms[a]) s).1).notify (.alarm a)) :=
    (InStep.byProducts (.takeChime _ s)).trans (notify_inStep _ _)
  unfold alarmMatch
  dsimp only
  split_ifs
  · have off (u : State) : InStep u (u.modAlarm a fun x => { x with enabled := false }) := .of_shared rfl
    exact (taken.trans (off _)).trans (markAlarm_inStep _ a)
  · exact taken

theorem testAlarms_inStep (t : ClockTime) : InStep s (testAlarms t s) := by
  refine .eachIx (fun a s => ?_) s
  split_ifs
  · exact alarmMatch_inStep s a
  · exact .refl s

end

end Sys2Proof.Machine
end

section
/-! Which operations keep every copy in step: distance and fuel, the channels, the slots, the gauges and the second boundary
(R5, R15, R16, R25, R57, R72). -/

namespace Sys2Proof.Machine

-- One theorem at a time, so that a build as one text needs few threads.
set_option Elab.async false

section
variable (s : State)

/-! ## The TAU's records -/

theorem tripNotice_inStep (t : TripIx) (what : TripWhat) : InStep s (tripNotice t what s) := notify_inStep s _

theorem modTrip_inStep (t : TripIx) (f : Trip → Trip) : InStep s (s.modTrip t f) := .of_shared rfl

theorem tripDistance_inStep (t : TripIx) : InStep s (tripDistance t s) := by
  unfold tripDistance
  dsimp only
  split_ifs
  · exact ((modTrip_inStep s _ _).trans (mark_inStep _ _)).trans (tripNotice_inStep _ _ _)
  · exact (modTrip_inStep s _ _).trans (tripNotice_inStep _ _ _)
  · exact (modTrip_inStep s _ _).trans (mark_inStep _ _)
  · exact modTrip_inStep s _ _
  · exact .refl s

theorem tripFuel_inStep (t : TripIx) : InStep s (tripFuel t s) := by
  unfold tripFuel
  dsimp only
  split_ifs
  · exact (modTrip_inStep s _ _).trans (tripNotice_inStep _ _ _)
  · exact modTrip_inStep s _ _
  · exact .refl s

/-- A trip's report of a second comes after the trip's change (R51, R53). -/
theorem tripSecond_inStep (t : TripIx) : InStep s (tripSecond t s) := by
  have reported (f : Trip → Trip) (marks full : Prop) [Decidable marks] [Decidable full] : InStep s
      (if full then tripNotice t .saturated (if marks then mark .passengerTrip (s.modTrip t f) else s.modTrip t f)
        else if marks then mark .passengerTrip (s.modTrip t f) else s.modTrip t f) := by
    split_ifs
    · exact ((modTrip_inStep s _ _).trans (mark_inStep _ _)).trans (tripNotice_inStep _ _ _)
    · exact (modTrip_inStep s _ _).trans (tripNotice_inStep _ _ _)
    · exact (modTrip_inStep s _ _).trans (mark_inStep _ _)
    · exact modTrip_inStep s _ _
  unfold tripSecond
  dsimp only
  by_cases opened : s.tau.trips[t].state = .open
  · rw [if_pos opened]
    exact reported _ _ _
  · rw [if_neg opened]
    exact .refl s

theorem resetTrip_inStep (t : TripIx) (by_ : ResetBy) : InStep s (resetTrip t by_ s) := by
  unfold resetTrip
  dsimp only
  split_ifs
  · exact (modTrip_inStep s _ _).trans (mark_inStep _ _)
  · exact modTrip_inStep s _ _

theorem emptyRing_inStep : InStep s (emptyRing s) := by
  have emptied : InStep s (s.modTau fun u => { u with ring := [], bucket := Bucket.zero }) := .of_shared rfl
  exact (emptied.trans (recomputeRange_inStep _)).trans (mark_inStep _ _)

theorem bucketDistance_inStep : InStep s (bucketDistance s) := by
  rcases Nat.lt_or_ge (grown s).distance s.tau.fuel.bucketLength with room | full
  · rw [bucketDistance_open s room]
    exact .of_shared rfl
  · rw [bucketDistance_closed s full]
    have closed : InStep s (s.modTau fun u => { u with ring := ringPush u.ring (grown s), bucket := Bucket.zero }) :=
      .of_shared rfl
    exact (closed.trans (recomputeRange_inStep _)).trans (mark_inStep _ _)

theorem destinationUnit_inStep : InStep s (destinationUnit s) := by
  have marked (d : Option Nat) : InStep s (mark .destination (s.modTau fun u => { u with destination := d })) :=
    (InStep.of_shared (t := s.modTau fun u => { u with destination := d }) rfl).trans (mark_inStep _ _)
  unfold destinationUnit
  split
  · split_ifs
    · exact ((marked _).trans (.byProducts (.wtbArrival _))).trans (notify_inStep _ _)
    · exact marked _
  · exact .refl s

theorem svsDistance_inStep : InStep s (svsDistance s) := countItems_inStep s downDistance_state

theorem tauDistance_inStep : InStep s (tauDistance s) := by
  have unit : InStep s (odometerUnit s) := .of_shared rfl
  have trips (u : State) : InStep u (eachIx 4 tripDistance u) := .eachIx (fun t v => tripDistance_inStep v t) u
  exact (((unit.trans (trips _)).trans (bucketDistance_inStep _)).trans (destinationUnit_inStep _)).trans
    (svsDistance_inStep _)

theorem tauFuel_inStep : InStep s (tauFuel s) := by
  have trips : InStep s (eachIx 4 tripFuel s) := .eachIx (fun t v => tripFuel_inStep v t) s
  have counted (u : State) : InStep u (u.modTau fun v =>
      { v with bucket := { v.bucket with fuel := countUp Config.maxFuel v.bucket.fuel } }) := .of_shared rfl
  exact trips.trans (counted _)

theorem engineSecond_inStep : InStep s (engineSecond s) := by
  rcases engineSecond_cases s with off | ⟨on, short⟩ | tenth
  · rw [engineSecond_off s off]
    exact .refl s
  · rw [engineSecond_short s on short]
    exact .of_shared rfl
  · rw [engineSecond_tenth s tenth]
    have counted : InStep s (s.modTau fun u =>
      { u with engineResidue := 0, engineHours := countUp Config.maxEngineHours u.engineHours }) := .of_shared rfl
    exact counted.trans (countItems_inStep _ downHours_state)

theorem tauSecond_inStep : InStep s (tauSecond s) := by
  by_cases parked : s.tau.power = .parked
  · rw [tauSecond_parked s parked]
    exact engineSecond_inStep s
  · have trips (u : State) : InStep u (eachIx 4 tripSecond u) := .eachIx (fun t v => tripSecond_inStep v t) u
    have counted (u : State) : InStep u (u.modTau fun v =>
        { v with bucket := { v.bucket with seconds := countUp 65535 v.bucket.seconds } }) := .of_shared rfl
    unfold tauSecond
    dsimp only
    rw [if_neg parked]
    exact ((engineSecond_inStep s).trans (trips _)).trans (counted _)

theorem takeLevel_inStep : InStep s (takeLevel s) := .of_shared rfl

/-! ## The GDU -/

/-- A change of the GDU's records that leaves its copies and the slots' readings. -/
theorem modGdu_inStep {f : Gdu → Gdu} (power : (f s.gdu).power = s.gdu.power)
    (channels : (f s.gdu).view.channels = s.gdu.view.channels) (slots : (f s.gdu).slots = s.gdu.slots) :
    InStep s (s.modGdu f) := by
  refine .of_shared ?_
  simp only [State.shared, State.powers, State.modGdu_gdu, power, channels, slots]
  rfl

theorem endParking_inStep : InStep s (endParking s) := by
  unfold endParking
  split_ifs
  · have ended (u : State) : InStep u (u.modGdu fun d => { d with
        parking := false
        gauges := mapAll (fun g => if g.present.isSome then { g with state := .rest } else g) d.gauges }) :=
      modGdu_inStep u rfl rfl rfl
    exact (ended s).trans (notify_inStep _ _)
  · exact .refl s

theorem endSweep_inStep : InStep s (endSweep s) := by
  unfold endSweep
  split_ifs
  · have ended (u : State) : InStep u (u.modGdu fun d =>
        { d with gauges := mapAll (fun g => if g.state = .sweep then d.goCalled g else g) d.gauges }) :=
      modGdu_inStep u rfl rfl rfl
    exact (ended s).trans (notify_inStep _ _)
  · exact .refl s

theorem modGauge_inStep (g : GaugeIx) (f : Gauge → Gauge) : InStep s (s.modGauge g f) := .of_shared rfl

theorem needleStep_inStep (g : GaugeIx) : InStep s (needleStep g s) := by
  unfold needleStep
  dsimp only
  split
  · split_ifs
    · exact ((modGauge_inStep s _ _).trans (endSweep_inStep _)).trans (endParking_inStep _)
    · exact .refl s
  · exact .refl s

theorem homingEnd_inStep (g : GaugeIx) : InStep s (homingEnd g s) := by
  have homed (u : State) : InStep u (u.modGdu fun d =>
      { d with gauges := updAt d.gauges g fun x => d.goCalled { x with present := some 0 } }) := .of_shared rfl
  unfold homingEnd
  dsimp only
  split_ifs
  · exact homed s
  · exact (homed s).trans (notify_inStep _ _)
  · exact .refl s

theorem withBuffers_inStep (n : SlotIx) (f : Gdu → Gauge → List Int) :
    InStep s (s.modGdu fun d => d.withBuffers n (f d)) := modGdu_inStep s rfl rfl rfl

theorem gduRefuel_inStep : InStep s (gduRefuel s) := by
  unfold gduRefuel
  split
  · rename_i n _
    exact withBuffers_inStep s n fun d g => List.replicate g.cfg.damping d.slots[n].value
  · exact .refl s

theorem refuel_inStep (before after : Nat) : InStep s (refuel before after s) :=
  (((resetTrip_inStep s 2 .auto).trans (tripNotice_inStep _ _ _)).trans (notify_inStep _ _)).trans (gduRefuel_inStep _)

theorem testRefuel_inStep (amount : Nat) : InStep s (testRefuel amount s) := by
  have taken (u : State) : InStep u (u.modTau fun v => { v with levelAtStop := some amount }) := .of_shared rfl
  unfold testRefuel
  split
  · split_ifs
    · exact .refl s
    · exact (refuel_inStep s _ _).trans (taken _)
    · exact taken s
  · exact .refl s

theorem tauReport_inStep (n : SlotIx) : InStep s (tauReport n s) := by
  unfold tauReport
  split_ifs
  · exact (testRefuel_inStep s _).trans (recomputeRange_inStep _)
  · exact .refl s

theorem tauSlotState_inStep (n : SlotIx) : InStep s (tauSlotState n s) := by
  unfold tauSlotState
  split_ifs
  · exact recomputeRange_inStep s
  · exact .refl s

theorem clcSlot_inStep (n : SlotIx) : InStep s (clcSlot n s) := by
  unfold clcSlot
  split_ifs
  · exact mark_inStep s _
  · exact .refl s

end

/-! ## The slots -/

/-- The WTB's copies of the slots are in step, the one of a slot just changed aside. -/
def SlotsDue (n : SlotIx) (s : State) : Prop := ∀ m : SlotIx, m ≠ n →
  s.wtb.view.slotStates[m] = s.gdu.slots[m].state ∧ s.wtb.view.slotValues[m] = s.gdu.slots[m].value

/-- What leaves the slots and their copies. -/
def SlotsLeft (s t : State) : Prop := t.wtb.view.slotStates = s.wtb.view.slotStates ∧
  t.wtb.view.slotValues = s.wtb.view.slotValues ∧ t.gdu.slots = s.gdu.slots

theorem SlotsLeft.due {n : SlotIx} {s t : State} (left : SlotsLeft s t) (due : SlotsDue n s) : SlotsDue n t := by
  obtain ⟨states, values, slots⟩ := left
  intro m other
  rw [states, values, slots]
  exact due m other

theorem recomputeRange_slotsLeft (s : State) : SlotsLeft s (recomputeRange s) := by
  have gdu := (recomputeRange_only s).gdu_eq (by decide)
  unfold recomputeRange at gdu ⊢
  split_ifs at gdu ⊢
  · exact ⟨rfl, rfl, rfl⟩
  · have view := wtbTake_view (fun x => { x with range := computedRange s }) (fun c => c.source.readsValue .range)
      (s.modTau fun u => { u with range := computedRange s })
    rw [wtbRange] at gdu ⊢
    exact ⟨(congrArg WarnView.slotStates view :), (congrArg WarnView.slotValues view :), (congrArg Gdu.slots gdu :)⟩

theorem testRefuel_slotsLeft (amount : Nat) (s : State) : SlotsLeft s (testRefuel amount s) := by
  have wtb := (testRefuel_only s amount).wtb_eq (by decide)
  exact ⟨by rw [wtb], by rw [wtb], testRefuel_slots amount s⟩

theorem SlotsLeft.of_wtb {s t : State} (wtb : t.wtb = s.wtb) (slots : t.gdu.slots = s.gdu.slots) : SlotsLeft s t :=
  ⟨by rw [wtb], by rw [wtb], slots⟩

theorem SlotsLeft.refl (s : State) : SlotsLeft s s := ⟨rfl, rfl, rfl⟩

theorem SlotsLeft.trans {s t u : State} (h : SlotsLeft s t) (k : SlotsLeft t u) : SlotsLeft s u :=
  ⟨k.1.trans h.1, k.2.1.trans h.2.1, k.2.2.trans h.2.2⟩

section
variable (n : SlotIx) (s : State)

theorem wtbSlot_inStep_but {k : Copy} (other : k ≠ .slots) (st : SlotState) (v : Int) :
    Keeps (Agrees k) s (wtbSlot n st v s) := by
  intro ok
  rw [Agrees, wtbSlot, wtbTake_shared]
  cases k
  case slots => exact absurd rfl other
  all_goals exact ok

/-- The WTB takes what the slot holds. -/
theorem wtbSlot_sets (due : SlotsDue n s) :
    Agrees .slots (wtbSlot n s.gdu.slots[n].state s.gdu.slots[n].value s) := by
  have view := wtbTake_view (fun x => { x with
    slotStates := x.slotStates.set n s.gdu.slots[n].state, slotValues := x.slotValues.set n s.gdu.slots[n].value })
    (fun c => c.source.readsSlot n) s
  have gdu := (wtbSlot_only s n s.gdu.slots[n].state s.gdu.slots[n].value).gdu_eq (by decide)
  rw [agrees_slots_iff, gdu, wtbSlot, view]
  intro m
  dsimp only
  by_cases same : n = m
  · subst same
    exact ⟨Vector.getElem_set_self n.isLt, Vector.getElem_set_self n.isLt⟩
  · obtain ⟨state, value⟩ := due m fun eq => same eq.symm
    have ne : n.val ≠ m.val := fun eq => same (Fin.ext eq)
    exact ⟨(Vector.getElem_set_ne n.isLt m.isLt ne).trans state, (Vector.getElem_set_ne n.isLt m.isLt ne).trans value⟩

/-- The copies other than those of the slots do not read the slot's record. -/
theorem modSlot_inStep_but {k : Copy} (other : k ≠ .slots) (f : Slot → Slot) : Keeps (Agrees k) s (s.modSlot n f) := by
  intro ok
  cases k
  case slots => exact absurd rfl other
  all_goals exact ok

theorem modSlot_slotsDue (f : Slot → Slot) (ok : Agrees .slots s) : SlotsDue n (s.modSlot n f) := by
  intro m other
  rw [State.modSlot_slots, updAt_get_other _ _ _ _ other.symm]
  exact agrees_slots_iff.mp ok m

/-- A handing of a slot's change: the WTB takes it, and no other taker touches the slots or their copies. -/
theorem hand_slot_inStep {take : Block → State → State}
    (warn : ∀ u, take .wtb u = wtbSlot n u.gdu.slots[n].state u.gdu.slots[n].value u)
    (others : ∀ c u, c ≠ .wtb → InStep u (take c u)) (left : ∀ c u, c ≠ .wtb → SlotsLeft u (take c u)) (f : Slot → Slot) :
    InStep s (hand [.gdu, .tau, .wtb, .clc] take (s.modSlot n f)) := by
  have free (u : State) (g : FreeValues → FreeValues) : InStep u (u.modFree g) := .of_shared rfl
  intro k ok
  by_cases slots : k = .slots
  · subst slots
    refine hand_reaches (b := .wtb) (before := SlotsDue n) (by decide) (fun u g due => due) (fun u due => ?_)
      (fun c u other => (left c u other).due) (fun c u other => others c u other .slots) (modSlot_slotsDue n s f ok)
    rw [warn]
    exact wtbSlot_sets n u due
  · refine (free _ _).trans (.refl _) k |>.trans (Keeps.foldl (fun u c => ?_) _ _) (modSlot_inStep_but n s slots f ok)
    by_cases wtb : c = .wtb
    · subst wtb
      rw [warn]
      exact wtbSlot_inStep_but n u slots _ _
    · exact others c u wtb k

theorem reportSlot_inStep (value : Int) : InStep s (reportSlot n value s) := by
  refine hand_slot_inStep (take := takeReport n) n s (fun u => rfl) (fun c u other => ?_) (fun c u other => ?_) _
  · cases c
    case gdu => exact withBuffers_inStep u n fun d g => bufferPush g.cfg.damping g.buffer d.slots[n].value
    case tau => exact tauReport_inStep u n
    case clc => exact clcSlot_inStep u n
    case wtb => exact absurd rfl other
    all_goals exact .refl u
  · cases c
    case gdu => exact .refl u
    case tau =>
      show SlotsLeft u (tauReport n u)
      unfold tauReport
      split_ifs
      · exact (testRefuel_slotsLeft _ u).trans (recomputeRange_slotsLeft _)
      · exact .refl u
    case wtb => exact absurd rfl other
    case clc => exact .of_wtb ((clcSlot_only u n).wtb_eq (by decide)) (takeReport_slots n .clc u)
    all_goals exact .refl u

theorem slotExpired_inStep (f : Slot → Slot) : InStep s (slotExpired n f s) := by
  refine hand_slot_inStep (take := takeSlotState n) n s (fun u => rfl) (fun c u other => ?_) (fun c u other => ?_) _
  · cases c
    case gdu => exact withBuffers_inStep u n fun d g => if d.slots[n].state = .lost then [] else g.buffer
    case tau => exact tauSlotState_inStep u n
    case clc => exact clcSlot_inStep u n
    case wtb => exact absurd rfl other
    all_goals exact .refl u
  · cases c
    case gdu => exact .refl u
    case tau =>
      show SlotsLeft u (tauSlotState n u)
      unfold tauSlotState
      split_ifs
      · exact recomputeRange_slotsLeft _
      · exact .refl u
    case wtb => exact absurd rfl other
    case clc => exact .of_wtb ((clcSlot_only u n).wtb_eq (by decide)) (takeSlotState_slots n .clc u)
    all_goals exact .refl u

end

end Sys2Proof.Machine
end

section
/-! Which operations keep every copy in step: the changes of a channel's state, the window and the second boundary (R5,
R15, R16, R72). -/

namespace Sys2Proof.Machine

-- One theorem at a time, so that a build as one text needs few threads.
set_option Elab.async false

/-! ## A channel's state -/

/-- The block that holds a copy of road source LIVE (R5). -/
def Copy.roadHolder : Copy → Option Block
  | .roadTau => some .tau
  | .roadWarn => some .wtb
  | .roadSvs => some .svs
  | .roadClc => some .clc
  | _ => none

/-- The copies that a handing of road source LIVE sets (R5). -/
def Copy.isRoad (k : Copy) : Bool := k.roadHolder.isSome

/-- The copies of engine running and road source LIVE (R5). -/
def Copy.isLive : Copy → Bool
  | .engineTau | .engineWarn => true
  | k => k.isRoad

/-- The copies that a handing of a channel's state sets (R5). -/
def Copy.ofPulse : Copy → Bool
  | .channelsGauge | .channelsWarn => true
  | k => k.isLive

section
variable (s : State)

theorem leaveLive_inStep : InStep s (leaveLive s) := by
  have counted : InStep s (s.modPcu fun p => { p with cross := { p.cross with disagreeing := 0, agreeing := 0 } }) :=
    .of_shared rfl
  exact counted.trans (setDisagree_inStep _ _)

theorem takeLive_inStep_but (engine road : Bool) {k : Copy} (other : k.ofPulse = false) :
    Keeps (Agrees k) s (tauRoadLive road (tauEngine engine s)) := by
  have tau := tauChannel_tau engine road s
  have only : OnlyChanges [.tau] s (tauRoadLive road (tauEngine engine s)) :=
    (tauEngine_only s _).trans (tauRoadLive_only _ _)
  have shared : (tauRoadLive road (tauEngine engine s)).shared =
      { s.shared with tauEngine := engine, tauRoadLive := road } := by
    unfold tauRoadLive tauEngine
    dsimp only
    split_ifs <;> rfl
  intro ok
  rw [Agrees, shared]
  cases k
  case engineTau | roadTau => exact absurd other (by decide)
  case engineWarn | roadWarn | roadSvs | roadClc | channelsGauge | channelsWarn => exact absurd other (by decide)
  all_goals exact ok

theorem takeChannel_inStep_but (ch : ChannelIx) (st : ChannelState) (engine road : Bool) {k : Copy}
    (other : k.ofPulse = false) (b : Block) : Keeps (Agrees k) s (takeChannel ch st engine road b s) := by
  cases b
  case gdu =>
    intro ok
    cases k
    case channelsGauge => exact absurd other (by decide)
    all_goals exact ok
  case wtb =>
    intro ok
    have shared : (wtbChannel ch st engine road s).shared = s.shared.withView
        { s.wtb.view with channels := s.wtb.view.channels.set ch st, engineRunning := engine, roadLive := road } := by
      unfold wtbChannel
      dsimp only
      rw [wtbTake_shared]
      rfl
    show (wtbChannel ch st engine road s).shared.Agrees k
    rw [shared]
    cases k
    case engineWarn | roadWarn | channelsWarn => exact absurd other (by decide)
    all_goals exact ok
  case tau => exact takeLive_inStep_but s engine road other
  case svs =>
    intro ok
    cases k
    case roadSvs => exact absurd other (by decide)
    all_goals exact ok
  case clc => exact clcRoadLive_others s road (by rintro rfl; exact absurd other (by decide))
  all_goals exact .refl s

theorem modChannel_inStep_but (ch : ChannelIx) (f : Channel → Channel) {k : Copy} (other : k.ofPulse = false) :
    Keeps (Agrees k) s (s.modChannel ch f) := by
  intro ok
  cases k
  case engineTau | engineWarn | roadTau | roadWarn | roadSvs | roadClc | channelsGauge | channelsWarn =>
    exact absurd other (by decide)
  all_goals exact ok

theorem changeChannel_inStep_but (ch : ChannelIx) (f : Channel → Channel) {k : Copy} (other : k.ofPulse = false) :
    Keeps (Agrees k) s (changeChannel ch f s) :=
  .changeChannel (fun u g => (InStep.of_shared (s := u) (t := u.modFree g) rfl) k) (modChannel_inStep_but s ch f other)
    (fun u => leaveLive_inStep u k) fun st engine road b u => takeChannel_inStep_but u ch st engine road other b

end

/-- The states of a table of copies after one of them is set. -/
theorem set_get {α : Type} {n : Nat} (v : Vector α n) (i j : Fin n) (x : α) :
    (v.set i x)[j] = if i = j then x else v[j] := by
  by_cases same : i = j
  · subst same
    rw [if_pos rfl]
    exact Vector.getElem_set_self i.isLt
  · rw [if_neg same]
    exact Vector.getElem_set_ne i.isLt j.isLt fun eq => same (Fin.ext eq)

section
variable {ch : ChannelIx} {f : Channel → Channel} {s : State} (changed : (f s.pcu.channels[ch]).state ≠ s.pcu.channels[ch].state)
include changed

/-- After a change of a channel's state is handed, the copies of engine running and road source LIVE are in step, whatever
they were before (R5). -/
theorem changeChannel_live {k : Copy} (live : k.isLive = true) :
    Agrees k (changeChannel ch f s) := by
  obtain ⟨tau, warn, svs, clc⟩ := agrees_road_iff (s := changeChannel ch f s)
  cases k
  case engineTau => rw [agrees_engineTau_iff, changeChannel_tau changed, changeChannel_pcu changed]; rfl
  case engineWarn => rw [agrees_engineWarn_iff, changeChannel_view changed, changeChannel_pcu changed]; rfl
  case roadTau => rw [tau, changeChannel_tau changed, changeChannel_pcu changed]; rfl
  case roadWarn => rw [warn, changeChannel_view changed, changeChannel_pcu changed]; rfl
  case roadSvs => rw [svs, changeChannel_svs changed, changeChannel_pcu changed]
  case roadClc =>
    rw [clc, changeChannel_pcu changed]
    exact (changeChannel_clc changed).1
  all_goals exact absurd live Bool.false_ne_true

theorem changeChannel_states (c : ChannelIx) : (changeChannel ch f s).pcu.channels[c].state =
    if ch = c then (f s.pcu.channels[ch]).state else s.pcu.channels[c].state := by
  rw [changeChannel_pcu changed, channelRecorded_pcu]
  dsimp only
  rw [updAt_get]
  split_ifs with same
  · subst same; rfl
  · rfl

theorem changeChannel_channelCopies {k : Copy} (copy : k = .channelsGauge ∨ k = .channelsWarn) (ok : Agrees k s) :
    Agrees k (changeChannel ch f s) := by
  rcases copy with rfl | rfl
  · have before := agrees_gaugeChannels_iff.mp ok
    refine agrees_gaugeChannels_iff.mpr fun c => ?_
    rw [changeChannel_states changed, changeChannel_gdu changed, ← before c]
    exact set_get s.gdu.view.channels ch c _
  · have before := agrees_warnChannels_iff.mp ok
    have view : (channelRecorded ch f s).wtb.view.channels = s.wtb.view.channels :=
      (congrArg WarnView.channels (channelRecorded_view ch f s) :)
    refine agrees_warnChannels_iff.mpr fun c => ?_
    rw [changeChannel_states changed, changeChannel_view changed, ← before c, ← view]
    exact set_get (channelRecorded ch f s).wtb.view.channels ch c _

end

theorem changeChannel_inStep (s : State) (ch : ChannelIx) (f : Channel → Channel) : InStep s (changeChannel ch f s) := by
  by_cases changed : (f s.pcu.channels[ch]).state = s.pcu.channels[ch].state
  · rw [changeChannel_of_same changed]
    exact .of_shared (modChannel_shared s changed)
  · intro k ok
    cases k
    case engineTau | engineWarn | roadTau | roadWarn | roadSvs | roadClc => exact changeChannel_live changed rfl
    case channelsGauge => exact changeChannel_channelCopies changed (.inl rfl) ok
    case channelsWarn => exact changeChannel_channelCopies changed (.inr rfl) ok
    all_goals exact changeChannel_inStep_but s ch f rfl ok

/-! ## The road source and the window -/

section
variable (s : State)

/-- A block's taking of road source LIVE leaves every copy but its own. -/
theorem takeRoadLive_others (road : Bool) {k : Copy} {b : Block} (other : k.roadHolder ≠ some b) :
    Keeps (Agrees k) s (takeRoadLive road b s) := by
  cases b
  case wtb =>
    intro ok
    show (wtbRoadLive road s).shared.Agrees k
    rw [wtbRoadLive, wtbTake_shared]
    cases k
    case roadWarn => exact absurd rfl other
    all_goals exact ok
  case tau =>
    intro ok
    have shared : (tauRoadLive road s).shared = { s.shared with tauRoadLive := road } := by
      unfold tauRoadLive
      dsimp only
      split_ifs <;> rfl
    show (tauRoadLive road s).shared.Agrees k
    rw [shared]
    cases k
    case roadTau => exact absurd rfl other
    all_goals exact ok
  case svs =>
    intro ok
    cases k
    case roadSvs => exact absurd rfl other
    all_goals exact ok
  case clc => exact clcRoadLive_others s road (by rintro rfl; exact absurd rfl other)
  all_goals exact .refl s

theorem takeRoadLive_pcu (road : Bool) (b : Block) : (takeRoadLive road b s).pcu = s.pcu := by
  cases b
  case wtb => exact (wtbRoadLive_only s _) .pcu (by decide)
  case tau => exact (tauRoadLive_only s _) .pcu (by decide)
  case clc => exact (clcRoadLive_only s _) .pcu (by decide)
  all_goals rfl

theorem wtbRoadLive_live (road : Bool) : (wtbRoadLive road s).wtb.view.roadLive = road := by
  rw [wtbRoadLive, wtbTake_view]

/-- The block that holds a copy of road source LIVE takes what the PCU has. -/
theorem takeRoadLive_sets {k : Copy} {b : Block} (holder : k.roadHolder = some b) :
    Agrees k (takeRoadLive s.pcu.roadLive b s) := by
  obtain ⟨tau, warn, svs, clc⟩ := agrees_road_iff (s := takeRoadLive s.pcu.roadLive b s)
  rw [takeRoadLive_pcu] at tau warn svs clc
  cases k
  case roadTau =>
    cases holder
    refine tau.mpr ?_
    show (tauRoadLive s.pcu.roadLive s).tau.roadLive = _
    unfold tauRoadLive
    dsimp only
    split_ifs <;> rfl
  case roadWarn =>
    cases holder
    have takes : takeRoadLive s.pcu.roadLive .wtb s = wtbRoadLive s.pcu.roadLive s := rfl
    rw [takes] at warn ⊢
    exact warn.mpr (wtbRoadLive_live s _)
  case roadSvs =>
    cases holder
    refine svs.mpr ?_
    show (svsRoadLive s.pcu.roadLive s).svs.roadLive = _
    rfl
  case roadClc =>
    cases holder
    refine clc.mpr ?_
    show (clcRoadLive s.pcu.roadLive s).clc.roadLive = _
    unfold clcRoadLive
    split_ifs with same
    · exact same
    · rw [(MarksOnly.mark _ _).roadLive_eq]
      rfl
  all_goals cases holder

/-- A handing of road source LIVE ends with every copy of it in step. -/
theorem hand_roadLive {k : Copy} (road : k.isRoad = true) :
    Agrees k (hand [.wtb, .tau, .svs, .clc] (takeRoadLive s.pcu.roadLive) s) := by
  obtain ⟨b, holder⟩ := Option.isSome_iff_exists.mp road
  have mem : b ∈ [Block.wtb, .tau, .svs, .clc] := by
    cases k
    case roadTau | roadWarn | roadSvs | roadClc => cases holder; decide
    all_goals cases holder
  have others (c : Block) (ne : c ≠ b) : k.roadHolder ≠ some c := by
    rw [holder]
    exact fun same => ne (Option.some.inj same).symm
  refine hand_reaches (b := b) (before := fun u => u.pcu = s.pcu) mem (fun u g same => same) (fun u same => ?_)
    (fun c u _ same => (takeRoadLive_pcu u _ c).trans same) (fun c u ne => takeRoadLive_others u _ (others c ne)) rfl
  have set := takeRoadLive_sets u holder
  rw [same] at set
  exact set

theorem Pcu.sourceTest_keeps (p : Pcu) : { p.sourceTest with roadSource := p.roadSource, cross := p.cross } = p := by
  unfold Pcu.sourceTest
  split <;> split_ifs <;> rfl

/-- The source test leaves what the blocks share but the source itself. -/
theorem sourceTest_shared : (s.modPcu Pcu.sourceTest).shared =
    { s.shared with roadSource := s.pcu.sourceTest.roadSource } := by
  have kept := s.pcu.sourceTest_keeps
  have power : s.pcu.sourceTest.power = s.pcu.power := (congrArg Pcu.power kept :)
  have channels : s.pcu.sourceTest.channels = s.pcu.channels := (congrArg Pcu.channels kept :)
  have disagree : s.pcu.sourceTest.disagree = s.pcu.disagree := (congrArg Pcu.disagree kept :)
  have implausible : s.pcu.sourceTest.implausible = s.pcu.implausible := (congrArg Pcu.implausible kept :)
  simp only [State.shared, State.powers, State.modPcu_pcu, power, channels, disagree, implausible]
  rfl

theorem moveSource_inStep : InStep s (moveSource s) := by
  have tested {k : Copy} (other : k.isRoad = false) : Keeps (Agrees k) s (s.modPcu Pcu.sourceTest) := by
    intro ok
    rw [Agrees, sourceTest_shared]
    cases k
    case roadTau | roadWarn | roadSvs | roadClc => exact absurd other (by decide)
    all_goals exact ok
  have free (u : State) (g : FreeValues → FreeValues) : InStep u (u.modFree g) := .of_shared rfl
  unfold moveSource
  dsimp only
  intro k ok
  by_cases road : k.isRoad = true
  · split_ifs with same
    · have live : s.shared.road = { s.shared with roadSource := s.pcu.sourceTest.roadSource }.road := by
        rw [← sourceTest_shared, shared_road, shared_road]
        exact same.symm
      rw [Agrees, sourceTest_shared]
      cases k
      case roadTau | roadWarn | roadSvs | roadClc => exact (id ok : _ = s.shared.road).trans live
      all_goals exact absurd road Bool.false_ne_true
    · exact hand_roadLive _ road
  · have other := Bool.eq_false_iff.mpr road
    split_ifs
    · exact tested other ok
    · refine (free _ _ k).trans (Keeps.foldl (fun u c => takeRoadLive_others u _ ?_) _ _) (tested other ok)
      rw [Option.isSome_eq_false_iff.mp other |> Option.isNone_iff_eq_none.mp]
      exact nofun

theorem disagreeTest_inStep : InStep s (disagreeTest s) := by
  have counted (m n : Nat) : InStep s (s.modPcu fun p => { p with
      cross := { p.cross with disagreeing := m, agreeing := n } }) := .of_shared rfl
  unfold disagreeTest
  dsimp only
  split_ifs
  · exact counted 0 0
  · exact (counted 0 _).trans (setDisagree_inStep _ _)
  · exact counted 0 _
  · exact (counted _ 0).trans (setDisagree_inStep _ _)
  · exact counted _ 0

/-- The speeds that a window's result hands are no copies of a state. -/
theorem windowResult_inStep : InStep s (windowResult s) := by
  have snapped : InStep s (s.modPcu fun p => { p with snap := p.takeSnapshot }) := .of_shared rfl
  refine snapped.trans (.hand (fun b u => ?_) _)
  generalize (s.modPcu fun p => { p with snap := p.takeSnapshot }).pcu.snap = snap
  cases b
  case gdu => exact modGdu_inStep u rfl rfl rfl
  case wtb =>
    have shared : (wtbWindow snap u).shared = u.shared := wtbTake_shared _ _ u
    exact .of_shared shared
  case tau =>
    have shared : (tauWindow snap.roadSpeed u).shared = u.shared := rfl
    exact .of_shared shared
  case clc => exact (InStep.of_shared (t := u.modClc fun c => { c with roadSpeed := snap.roadSpeed }) rfl).trans (mark_inStep _ _)
  all_goals exact .refl u

theorem windowExpiry_inStep (at10us : Nat) : InStep s (windowExpiry at10us s) := by
  unfold windowExpiry
  split_ifs
  · have closed : InStep s (closeWindow at10us s) := .eachIx (fun ch u => changeChannel_inStep u ch _) s
    have ended (u : State) : InStep u ((u.modPcu fun p => { p with gate := some p.cal.window.ms }).modFree
        fun v => { v with draws := v.draws + 1 }) := .of_shared rfl
    exact (((closed.trans (disagreeTest_inStep _)).trans (moveSource_inStep _)).trans (windowResult_inStep _)).trans
      (ended _)
  · exact .refl s

/-! ## Edges -/

theorem roadEdge_inStep : InStep s (roadEdge s) := by
  have counted (n : Nat) : InStep s (s.modPcu fun p => { p with roadResidue := n }) := .of_shared rfl
  unfold roadEdge
  dsimp only
  split_ifs
  · exact .of_shared rfl
  · exact (counted _).trans (tauDistance_inStep _)
  · exact counted _

theorem checkEdge_inStep : InStep s (checkEdge s) := by
  have counted (n : Nat) : InStep s (s.modPcu fun p => { p with checkResidue := n }) := .of_shared rfl
  unfold checkEdge
  dsimp only
  split_ifs
  · exact .of_shared rfl
  · exact (counted _).trans (tauDistance_inStep _)
  · exact counted _

theorem followImplausible_inStep : InStep s (followImplausible s) := by
  unfold followImplausible
  split_ifs
  · exact setImplausible_inStep s _
  · exact setImplausible_inStep s _
  · exact .refl s

theorem supplyEdge_inStep : InStep s (supplyEdge s) := by
  have counted (r : Int) : InStep s (s.modPcu fun p => { p with fuelResidue := r }) := .of_shared rfl
  unfold supplyEdge
  dsimp only
  refine InStep.trans ?_ (followImplausible_inStep _)
  split_ifs
  · exact (counted _).trans (tauFuel_inStep _)
  · exact counted _

theorem returnEdge_inStep : InStep s (returnEdge s) := by
  have counted : InStep s (s.modPcu fun p => { p with fuelResidue := max (p.fuelResidue - 1) (-(p.cal.kf : Int)) }) :=
    .of_shared rfl
  exact counted.trans (followImplausible_inStep _)

theorem pulseEdge_inStep (ch : ChannelIx) (at10us : Nat) : InStep s (pulseEdge ch at10us s) := by
  unfold pulseEdge
  split_ifs
  · exact .refl s
  · refine (changeChannel_inStep s ch (Channel.edge at10us)).trans ?_
    unfold dividerEdge
    split
    · exact roadEdge_inStep _
    · exact .refl _
    · exact supplyEdge_inStep _
    · exact returnEdge_inStep _
    · exact checkEdge_inStep _
    · exact .refl _

end

end Sys2Proof.Machine
end

section
/-! Every command that changes no power state keeps every copy in step: the second boundary, the Link Port, the requests
and the answers on the Coach Line. -/

namespace Sys2Proof.Machine

-- One theorem at a time, so that a build as one text needs few threads.
set_option Elab.async false

/-! ## The second boundary -/

/-- The block that holds a copy of the clock state (R72). -/
def Copy.clockHolder : Copy → Option Block
  | .clockWarn => some .wtb
  | .clockLink => some .lkp
  | _ => none

section
variable (s : State) {t : ClockTime} {st : ClockState} {rollover : Bool}

/-- A block's taking of a second leaves every copy but its own of the clock state in step, and that one too when the
clock state has not changed. -/
theorem takeSecond_others {k : Copy} {b : Block} (other : rollover = true → k.clockHolder ≠ some b) :
    Keeps (Agrees k) s (takeSecond t st rollover b s) := by
  cases b <;> unfold takeSecond <;> dsimp only
  case tau => exact tauSecond_inStep s k
  case clk =>
    split_ifs
    · exact testAlarms_inStep s t k
    · exact .refl s
  case clc =>
    split_ifs
    · exact mark_inStep s _ k
    · exact .refl s
  case svs =>
    split_ifs
    · exact countItems_inStep s downDays_state k
    · exact .refl s
  case wtb =>
    split_ifs with rolls
    · intro ok
      rw [Agrees, wtbClock, wtbTake_shared]
      cases k
      case clockWarn => exact absurd rfl (other rolls)
      all_goals exact ok
    · exact .refl s
  case lkp =>
    split_ifs with rolls
    · intro ok
      cases k
      case clockLink => exact absurd rfl (other rolls)
      all_goals exact ok
    · exact .refl s
  all_goals exact .refl s

theorem alarmMatch_clockState (a : AlarmIx) : (alarmMatch a s).clk.state = s.clk.state := by
  have taken : ((takeChime (alarmRequest s.chs a s.clk.alarms[a]) s).1).clk = s.clk :=
    (ByProducts.takeChime (alarmRequest s.chs a s.clk.alarms[a]) s).only .clk (by decide)
  have marked (u : State) : (markAlarm a u).clk = u.clk := (markAlarm_only u a) .clk (by decide)
  unfold alarmMatch
  dsimp only
  split_ifs
  · rw [marked]
    exact (congrArg Clk.state taken :)
  · exact congrArg Clk.state taken

theorem takeSecond_clockState (b : Block) : (takeSecond t st rollover b s).clk.state = s.clk.state := by
  by_cases clk : b = .clk
  · subst clk
    unfold takeSecond
    dsimp only
    split_ifs
    · refine eachIx_keeps (get := fun u => u.clk.state) (fun a u => ?_) s
      split_ifs
      · exact alarmMatch_clockState u a
      · rfl
    · rfl
  · rw [takeSecond_clk_of_ne clk]

/-- At a rollover the block that holds a copy of the clock state takes it (R72). -/
theorem takeSecond_sets {k : Copy} {b : Block} (holder : k.clockHolder = some b) (state : s.clk.state = st) :
    Agrees k (takeSecond t st true b s) := by
  cases k
  case clockWarn =>
    cases holder
    show (wtbClock st s).shared.Agrees .clockWarn
    rw [wtbClock, wtbTake_shared]
    exact state.symm
  case clockLink =>
    cases holder
    show decide (st = .unset) = decide (s.clk.state = .unset)
    rw [state]
  all_goals cases holder

theorem secondBoundary_inStep : InStep s (secondBoundary s) := by
  rw [secondBoundary_eq]
  intro k ok
  have free (u : State) (g : FreeValues → FreeValues) : InStep u (u.modFree g) := .of_shared rfl
  have handed (other : stateAfter s ≠ s.clk.state → k.clockHolder = none) (begun : Agrees k (secondBegun s)) :
      Agrees k (hand secondTakers (takeSecond s.clk.time.tick (stateAfter s) (stateAfter s ≠ s.clk.state))
        (secondBegun s)) := by
    refine (free _ _ k).trans (Keeps.foldl (fun u b => takeSecond_others u fun rolls => ?_) _ _) begun
    rw [other (of_decide_eq_true rolls)]
    exact nofun
  by_cases same : stateAfter s = s.clk.state
  · refine handed (fun differs => absurd same differs) ?_
    have shared : (secondBegun s).shared = s.shared := (congrArg (fun c => { s.shared with clock := c }) same :)
    rw [Agrees, shared]
    exact ok
  · cases holder : k.clockHolder with
    | none =>
      refine handed (fun _ => holder) ?_
      cases k
      case clockWarn | clockLink => cases holder
      all_goals exact ok
    | some b =>
      have mem : b ∈ secondTakers := by
        cases k
        case clockWarn | clockLink => cases holder; decide
        all_goals cases holder
      have rolls : decide (stateAfter s ≠ s.clk.state) = true := decide_eq_true same
      rw [rolls]
      refine hand_reaches (b := b) (before := fun u => u.clk.state = stateAfter s) mem (fun u g state => state)
        (fun u state => takeSecond_sets u holder state) (fun c u _ state => (takeSecond_clockState u c).trans state)
        (fun c u ne => takeSecond_others u fun _ same => ne (Option.some.inj (same.symm.trans holder))) rfl

end

/-! ## The Link Port -/

section
variable (s : State)

/-- A change of the Link Port that leaves its copies. -/
theorem modLkp_inStep {f : Lkp → Lkp} (power : (f s.lkp).power = s.lkp.power)
    (odometer : (f s.lkp).odometerInvalid = s.lkp.odometerInvalid) (clock : (f s.lkp).clockUnset = s.lkp.clockUnset) :
    InStep s (s.modLkp f) := by
  refine .of_shared ?_
  simp only [State.shared, State.powers, State.modLkp_lkp, power, odometer, clock]
  rfl

theorem reply_inStep (entry : ReplyEntry) (kind tag : Byte) (resp : Response) : InStep s (s.reply entry kind tag resp) :=
  .of_shared (reply_shared s entry kind tag resp)

theorem takeRequest_inStep : InStep s (takeRequest s) := .of_shared rfl

theorem receive_inStep (value : Byte) (error : Bool) : InStep s (s.modLkp (Lkp.receive value error)) := by
  have kept : { s.lkp.receive value error with rx := s.lkp.rx, rxBytes := s.lkp.rxBytes } = s.lkp := by
    unfold Lkp.receive
    split
    case h_3 => split_ifs <;> rfl
    case h_4 => split_ifs <;> rfl
    all_goals rfl
  exact modLkp_inStep s (congrArg Lkp.power kept :) (congrArg Lkp.odometerInvalid kept :) (congrArg Lkp.clockUnset kept :)

theorem receiverRefusal_inStep (reason : Reason) (kind tag : Byte) : InStep s (receiverRefusal reason kind tag s) := by
  unfold receiverRefusal
  split_ifs
  · exact reply_inStep s _ _ _ _
  · exact modLkp_inStep s rfl rfl rfl

theorem offer_inStep (r : Request) : InStep s (s.modLkp (Lkp.offer r)) := by
  have kept : (s.lkp.offer r).power = s.lkp.power ∧ (s.lkp.offer r).odometerInvalid = s.lkp.odometerInvalid ∧
      (s.lkp.offer r).clockUnset = s.lkp.clockUnset := by
    unfold Lkp.offer
    split_ifs <;> exact ⟨rfl, rfl, rfl⟩
  obtain ⟨power, odometer, clock⟩ := kept
  exact modLkp_inStep s power odometer clock

theorem judgeBytes_inStep (b : List Byte) : InStep s (judgeBytes b s) := by
  unfold judgeBytes
  split_ifs
  · exact .refl s
  · exact receiverRefusal_inStep s _ _ _
  · exact receiverRefusal_inStep s _ _ _
  · exact offer_inStep s _

theorem idleGap_inStep : InStep s (idleGap s) := by
  have ready : InStep s (s.modLkp Lkp.rxReady) := .of_shared rfl
  unfold idleGap
  dsimp only
  split
  · exact ready
  · exact ready
  · split_ifs
    · exact ready
    · exact ready.trans (judgeBytes_inStep _ _)
  · split_ifs
    · exact ready
    · exact ready.trans (receiverRefusal_inStep _ _ _ _)
    · exact ready

theorem serveUnknown_inStep : InStep s (serveUnknown s) := by
  unfold serveUnknown
  split
  · split_ifs
    · exact (takeRequest_inStep s).trans (reply_inStep _ _ _ _ _)
    · exact .refl s
  · exact .refl s

theorem serve_inStep {k : ReqKind} {owner : Request → State → State × Response}
    (h : ∀ r u, InStep u (owner r u).1) : InStep s (serve k owner s) := by
  unfold serve
  split
  · split_ifs
    · exact ((takeRequest_inStep s).trans (h _ _)).trans (reply_inStep _ _ _ _ _)
    · exact (takeRequest_inStep s).trans (reply_inStep _ _ _ _ _)
    · exact .refl s
  · exact .refl s

/-! ## The owners of the requests -/

theorem abortBehind_inStep : InStep s (abortBehind s) := by
  have aborted : InStep s (s.lkp.requests.foldl (fun u r => u.reply .ordinary r.kind r.tag (.refuse .aborted)) s) :=
    .foldl (fun u r => reply_inStep u _ _ _ _) _ s
  have emptied (u : State) : InStep u (u.modLkp fun l => { l with requests := [] }) := .of_shared rfl
  exact aborted.trans (emptied _)

theorem ownRestart_inStep (r : Request) : InStep s (ownRestart r s).1 := by
  have held (u : State) : InStep u (abortPass u) := (endPass_inStep u _).trans (modClc_inStep _ rfl rfl rfl rfl)
  have discards (u : State) : InStep u (u.modLkp fun l => { l with discardAll := true }) := .of_shared rfl
  exact ((abortBehind_inStep s).trans (held _)).trans (discards _)

theorem setChannel_inStep (p : ChannelIx × ChannelConfig) : InStep s (setChannel p s).1 := by
  have loaded : InStep s (s.modInputs (Inputs.loadPulse p.1)) := .of_shared rfl
  have changed := loaded.trans (changeChannel_inStep _ p.1 fun _ => Channel.restarted p.2)
  have cleared (u : State) : InStep u (u.modPcu fun x => { x with cross := CrossCheck.zero }) := .of_shared rfl
  unfold setChannel emptyAnswer
  dsimp only
  split_ifs
  · exact loaded.trans (.of_shared (modChannel_shared _ rfl))
  · exact changed.trans (cleared _)
  · exact changed

theorem freshWindow_inStep : InStep s (s.modPcu Pcu.freshWindow) := by
  refine .of_shared ?_
  have states : mapAll (fun c : Channel => c.state) s.pcu.freshWindow.channels =
      mapAll (fun c : Channel => c.state) s.pcu.channels := mapAll_congr fun ch => by
    unfold Pcu.freshWindow
    dsimp only
    rw [mapAll_get]
  exact (congrArg (fun v => { s.shared with states := v }) states :)

theorem setCalibration_inStep (cal : Calibration) : InStep s (setCalibration cal s).1 := by
  have written : InStep s (s.modPcu fun p => { p with cal, roadResidue := 0, checkResidue := 0, fuelResidue := 0 }) :=
    .of_shared rfl
  have emptied := (written.trans (setImplausible_inStep _ false)).trans (emptyRing_inStep _)
  unfold setCalibration emptyAnswer
  dsimp only
  split_ifs
  · exact emptied
  · exact emptied.trans (freshWindow_inStep _)

theorem gaugeRequest_inStep {k : ReqKind} (gauge : k = .setSlot ∨ k = .setGauge ∨ k = .sweepGauges) (r : Request) :
    InStep s (k.owner r s).1 := by
  rcases gauge with rfl | rfl | rfl
  · refine .ranged fun p => ?_
    have slots : mapAll (fun x : Slot => (x.state, x.value)) (updAt s.gdu.slots p.1 fun x =>
        { x with staleTime := p.2.1, lostTime := p.2.2 }) =
        mapAll (fun x : Slot => (x.state, x.value)) s.gdu.slots := mapAll_updAt rfl
    exact .of_shared (congrArg (fun v => { s.shared with slots := v }) slots :)
  · refine .ranged fun p => ?_
    unfold setGauge
    split_ifs
    · exact .refl s
    · exact modGdu_inStep s rfl rfl rfl
  · show InStep s (ownSweepGauges r s).1
    unfold ownSweepGauges
    split_ifs
    · exact .refl s
    · exact .refl s
    · exact modGdu_inStep s rfl rfl rfl

theorem tripControl_inStep (p : TripIx × TripAction) : InStep s (tripControl p s).1 := by
  unfold tripControl
  split
  · exact resetTrip_inStep s _ _
  · split
    · rename_i st _
      show InStep s (setTripState p.1 st s)
      unfold setTripState
      dsimp only
      split_ifs
      · exact (modTrip_inStep s _ _).trans (mark_inStep _ _)
      · exact modTrip_inStep s _ _
    · exact .refl s

theorem setFuelOptions_inStep (o : FuelOptions) : InStep s (setFuelOptions o s).1 := by
  have options : InStep s (s.modTau fun u => { u with fuel := o }) := .of_shared rfl
  have level (u : State) : InStep u (levelAfresh u) := by
    unfold levelAfresh
    split_ifs
    · exact .of_shared rfl
    · exact takeLevel_inStep u
  exact ((options.trans (emptyRing_inStep _)).trans (level _)).trans (recomputeRange_inStep _)

theorem reconfigureEntry_inStep (w : EntryIx) (c : EntryConfig) : InStep s (reconfigureEntry w c s) := by
  have entry (u : State) (f : Entry → Entry) : InStep u (u.modEntry w f) := .of_shared rfl
  unfold reconfigureEntry
  dsimp only
  split_ifs
  · exact ((((entry s _).trans (.byProducts (.removeChime _ _))).trans (.byProducts (.reportEntry _ _ _ _))).trans
      (entry _ _)).trans (.byProducts (.evaluateEntry _ _))
  · exact (((entry s _).trans (.byProducts (.reportEntry _ _ _ _))).trans (entry _ _)).trans
      (.byProducts (.evaluateEntry _ _))

theorem changeSwitch_inStep (n : SwitchIx) (f : Switch → Switch) : InStep s (changeSwitch n f s) := by
  have written : InStep s (s.modWtb fun t => { t with switches := updAt t.switches n f }) := .of_shared rfl
  unfold changeSwitch
  dsimp only
  split_ifs
  · exact written
  · exact written.trans (.byProducts (.wtbSwitch _ _))

theorem takePrivacy_inStep (on : Bool) : InStep s (takePrivacy on s) := by
  have power : (s.chs.setPrivacy on).power = s.chs.power := (congrArg Chs.power s.chs.setPrivacy_frame :)
  have set : InStep s (s.modChs (Chs.setPrivacy on)) := by
    refine .of_shared ?_
    simp only [State.shared, State.powers, State.modChs_chs, power]
    rfl
  exact set.trans (mark_inStep _ _)

theorem acceptPass_inStep (p : PassThrough) : InStep s (acceptPass p s).1 := by
  unfold acceptPass
  split_ifs
  · exact .refl s
  · split
    · split_ifs
      · exact modClc_inStep s rfl rfl rfl rfl
      · exact .refl s
    · exact .refl s

theorem ownSetNoticeMask_inStep (r : Request) : InStep s (ownSetNoticeMask r s).1 := by
  unfold ownSetNoticeMask
  dsimp only
  split_ifs
  · exact .refl s
  · exact modLkp_inStep s rfl rfl rfl

theorem ownRestoreOdometer_inStep (r : Request) : InStep s (ownRestoreOdometer r s).1 := by
  unfold ownRestoreOdometer
  dsimp only
  split
  · exact .refl s
  · split_ifs
    · exact .refl s
    · dsimp only
      exact restoreOdometer_inStep s _

theorem linkCondition_inStep (p : EntryIx × Bool) : InStep s (linkCondition p s).1 := by
  have condition : InStep s (s.modEntry p.1 fun e => { e with linkCondition := p.2 }) := .of_shared rfl
  unfold linkCondition
  split_ifs
  · exact condition.trans (.byProducts (.evaluateEntry _ _))
  · exact .refl s

theorem ownCancelChime_inStep (r : Request) : InStep s (ownCancelChime r s).1 := by
  unfold ownCancelChime
  split
  · exact .byProducts ((ByProducts.removeChime _ s).trans (.handEnd _ _ _))
  · exact .refl s

theorem setPattern_inStep (p : PatternIx × Pattern) : InStep s (setPattern p s).1 := by
  unfold setPattern
  split_ifs
  · exact .refl s
  · exact .of_shared rfl

theorem serviceDone_inStep (i : ItemIx) : InStep s (serviceDone i s).1 := by
  unfold serviceDone emptyAnswer
  split_ifs
  · exact .refl s
  · exact .refl s
  · exact .refl s
  · exact changeItem_inStep s i fun _ => rfl

theorem ownCoachPass_inStep (r : Request) : InStep s (ownCoachPass r s).1 := by
  unfold ownCoachPass
  split_ifs
  · exact .refl s
  · exact .ranged fun p => acceptPass_inStep s p

theorem ownCoachReset_inStep (r : Request) : InStep s (ownCoachReset r s).1 := by
  unfold ownCoachReset emptyAnswer
  split_ifs
  · exact .refl s
  · dsimp only
    exact coachReset_inStep s

theorem owner_inStep (k : ReqKind) (r : Request) : InStep s (k.owner r s).1 := by
  cases k
  case setNoticeMask => exact ownSetNoticeMask_inStep s r
  case restart => exact ownRestart_inStep s r
  case setChannel => exact .ranged fun p => setChannel_inStep s p
  case setCalibration => exact .ranged fun cal => setCalibration_inStep s cal
  case sensorReport =>
    exact .ranged fun pairs => .foldl (fun u (p : SlotIx × Int) => reportSlot_inStep p.1 u p.2) pairs s
  case setSlot => exact gaugeRequest_inStep s (.inl rfl) r
  case setGauge => exact gaugeRequest_inStep s (.inr (.inl rfl)) r
  case sweepGauges => exact gaugeRequest_inStep s (.inr (.inr rfl)) r
  case tripControl => exact .ranged fun p => tripControl_inStep s p
  case setDestination =>
    refine .ranged fun d => ?_
    have set : InStep s (s.modTau fun u => { u with destination := d }) := .of_shared rfl
    exact set.trans (mark_inStep _ _)
  case restoreOdometer => exact ownRestoreOdometer_inStep s r
  case setFuelOptions => exact .ranged fun o => setFuelOptions_inStep s o
  case setClock => exact .ranged fun t => setClockTo_inStep s t
  case setAlarm => exact .ranged fun p => changeAlarm_inStep s p.1 _
  case setClockOptions => exact .ranged fun p => .of_shared rfl
  case setWarning => exact .ranged fun p => reconfigureEntry_inStep s p.1 p.2
  case acknowledge => exact .ranged fun one => .byProducts (.acknowledgeWhere _ s)
  case linkCondition => exact .ranged fun p => linkCondition_inStep s p
  case setLamp => exact .ranged fun p => .of_shared rfl
  case setSwitch => exact .ranged fun p => changeSwitch_inStep s p.1 _
  case chime =>
    refine .ranged fun f => ?_
    dsimp only
    split_ifs
    · exact .byProducts (.takeChime _ s)
    · exact .byProducts (.takeChime _ s)
  case cancelChime => exact ownCancelChime_inStep s r
  case setPattern => exact .ranged fun p => setPattern_inStep s p
  case setPrivacy => exact .ranged fun on => takePrivacy_inStep s on
  case setServiceItem =>
    refine .ranged fun p => ?_
    exact changeItem_inStep s p.1 fun _ => rfl
  case serviceDone => exact .ranged fun i => serviceDone_inStep s i
  case setNode =>
    refine .ranged fun p => ?_
    unfold setNode emptyAnswer
    split_ifs
    · exact .refl s
    · exact .refl s
    · exact configureNode_inStep s p.1 p.2
  case coachPass => exact ownCoachPass_inStep s r
  case coachReset => exact ownCoachReset_inStep s r
  case setCoachOptions =>
    refine .ranged fun p => ?_
    have set : InStep s (s.modClc fun c => { c with
        roundPeriod := p.1, callPattern := p.2.1, outsideSlot := p.2.2 }) := .of_shared rfl
    exact set.trans (mark_inStep _ _)
  case readTrip => exact .ranged fun t => .refl s
  case readService => exact .ranged fun i => .refl s
  all_goals exact .refl s

/-! ## Answers on the Coach Line -/

theorem ownRearEvent_inStep (e : RearEvent) : InStep s (ownRearEvent e s).1 := by
  unfold ownRearEvent
  split <;> dsimp only
  · exact .byProducts (.takeChime _ s)
  · exact takePrivacy_inStep s _
  · exact takePrivacy_inStep s _
  · exact (resetTrip_inStep s _ _).trans (tripNotice_inStep _ _ _)
  · exact .byProducts (.acknowledgeWhere _ s)
  · unfold rearClockSet
    dsimp only
    split_ifs
    · exact .refl s
    · exact setClockTo_inStep s _
  · unfold rearAlarmSet
    split
    · exact changeAlarm_inStep s _ _
    · exact .refl s
  · exact .refl s

/-- What marks a whole set or appends a pair changes the mirror queue alone. -/
theorem completion_keeps (k : Copy) : KeepsCompletion (Agrees k) where
  dropped u := (InStep.of_shared (t := u.modClc fun c => { c with txn := none, contentions := 0 }) rfl) k
  valid n u := validAnswer_inStep u n k
  miss n u := nodeMiss_inStep u n k
  whole n u := enterState_inStep u n .present k
  append n item u := appendPair_inStep u n item k
  notify n u := notify_inStep u n k
  own e u := ownRearEvent_inStep u e k
  endPass r u := endPass_inStep u r k

end

/-! ## Every other command -/

theorem other_inStep {c : Instr} (power : isPowerCommand c ≠ true) (s : State) : InStep s (otherEffect c s) := by
  by_cases answer : isAnswerCommand c = true
  · have phase : InStep s (setTxnPhase .window s) := .of_shared rfl
    exact fun k => .answerCommand (phase k) (fun a => (completion_keeps k).completeTxn a s) answer
  · cases c
    case unknownKind => exact serveUnknown_inStep s
    case hostCharacter value error => exact receive_inStep s value error
    case idleGap => exact idleGap_inStep s
    case gapEnd => exact modLkp_inStep s rfl rfl rfl
    case pulseEdge ch at10us => exact pulseEdge_inStep s ch at10us
    case stallExpiry ch =>
      show InStep s (stallExpiry ch s)
      unfold stallExpiry
      split_ifs
      · exact changeChannel_inStep s ch _
      · exact .refl s
    case windowExpiry at10us => exact windowExpiry_inStep s at10us
    case slotStaleExpiry n =>
      show InStep s (slotStaleExpiry n s)
      unfold slotStaleExpiry
      split_ifs
      · exact slotExpired_inStep n s _
      · exact .refl s
    case slotLostExpiry n =>
      show InStep s (slotLostExpiry n s)
      unfold slotLostExpiry
      split_ifs
      · exact slotExpired_inStep n s _
      · exact .refl s
    case needleStep g => exact needleStep_inStep s g
    case homingEnd g => exact homingEnd_inStep s g
    case secondBoundary => exact secondBoundary_inStep s
    case switchChange n => exact changeSwitch_inStep s n _
    case qualifyExpiry w =>
      show InStep s (qualifyExpiry w s)
      unfold qualifyExpiry
      split_ifs
      · exact .byProducts (.enterActive w s)
      · exact .refl s
    case repeatExpiry w =>
      show InStep s (repeatExpiry w s)
      have stopped : InStep s (s.modEntry w fun e => { e with repeatTimer := none }) := .of_shared rfl
      unfold repeatExpiry
      split_ifs
      · exact stopped.trans (.byProducts (.handWarningChime _ _))
      · exact .refl s
    case flashPhase => exact .of_shared rfl
    case bulbCheckEnd => exact .of_shared rfl
    case segmentEnd => exact .byProducts (.segmentEnd s)
    case contention => exact contention_inStep s
    case backoffExpiry => exact backoffExpiry_inStep s
    case lineRelease =>
      show InStep s (lineRelease s)
      unfold lineRelease
      split_ifs
      · exact modClc_inStep s rfl rfl rfl rfl
      · exact .refl s
    case resettingEnd => exact resettingEnd_inStep s
    case roundStart => exact roundExpiry_inStep s
    case sleepStart => exact sleepStart_inStep s
    case answerCharacter value mark error => exact answerCharacter_inStep s _
    case resetLineHigh => exact .of_shared rfl
    all_goals first
      | exact absurd rfl power
      | exact absurd rfl answer
      | exact .refl s

end Sys2Proof.Machine
end

section
/-! The copies through changes of the power state: what each block takes at Run entry, at Parked entry and at CRANK gives
it the new power state and leaves the other copies in step (R17, R18, R34, R35, R38, R100, R101, R122, R159, R160, R172). -/

namespace Sys2Proof.Machine

-- One theorem at a time, so that a build as one text needs few threads.
set_option Elab.async false

/-! ## A block takes the power state -/

/-- A block's copy of the power state replaced. -/
def Powers.put (x : Powers) (b : Block) (p : PowerState) : Powers :=
  match b with
  | .pcu => { x with pcu := p }
  | .gdu => { x with gdu := p }
  | .tau => { x with tau := p }
  | .wtb => { x with wtb := p }
  | .chs => { x with chs := p }
  | .svs => { x with svs := p }
  | .clc => { x with clc := p }
  | .lkp => { x with lkp := p }
  | .clk => x

/-- What the blocks share once a block has taken a power state. -/
def Shared.withPower (x : Shared) (b : Block) (p : PowerState) : Shared :=
  { x with
    powers := x.powers.put b p
    view := match b with
      | .wtb => { x.view with power := p }
      | .pcu | .gdu | .tau | .clk | .chs | .svs | .clc | .lkp => x.view }

/-- A block takes the power state: its copy is the IGS's when the IGS has that state, and every other copy stays in
step. -/
structure EntersPower (b : Block) (p : PowerState) (s t : State) : Prop where
  igs : t.igs = s.igs
  taken : s.igs.power = p → Agrees (.power b) t
  others : ∀ k, k ≠ .power b → Keeps (Agrees k) s t

namespace EntersPower
variable {b : Block} {p : PowerState} {s t u : State}

theorem of_shared (igs : t.igs = s.igs) (same : t.shared = s.shared.withPower b p) : EntersPower b p s t where
  igs := igs
  taken := fun power => by
    rw [Agrees, same]
    cases b
    case clk => rfl
    all_goals exact power.symm
  others := fun k other ok => by
    rw [Agrees, same]
    cases k
    case power c =>
      cases b <;> cases c
      all_goals first
        | exact absurd rfl other
        | exact ok
    all_goals
      cases b
      all_goals exact ok

theorem of_inStep (igs : t.igs = s.igs) (h : InStep s t) : EntersPower .clk p s t :=
  ⟨igs, fun _ => rfl, fun k _ => h k⟩

theorem after (igs : t.igs = s.igs) (h : InStep s t) (k : EntersPower b p t u) : EntersPower b p s u :=
  ⟨k.igs.trans igs, fun power => k.taken (by rw [igs]; exact power), fun c other => (h c).trans (k.others c other)⟩

theorem andThen (k : EntersPower b p s t) (igs : u.igs = t.igs) (h : InStep t u) : EntersPower b p s u :=
  ⟨igs.trans k.igs, fun power => h _ (k.taken power), fun c other => (k.others c other).trans (h c)⟩

/-- Every block takes the power state that the IGS enters: every copy stays in step. -/
theorem hand {take : Block → State → State} (takes : ∀ b s, EntersPower b p s (take b s)) (s : State) :
    InStep s (Machine.hand allBlocks take (s.modIgs fun g => { g with power := p })) := by
  intro k
  by_cases power : ∃ b, k = .power b
  · obtain ⟨b, rfl⟩ := power
    intro _
    refine hand_reaches (b := b) (before := fun u : State => u.igs.power = p)
      (goal := fun u : State => Agrees (.power b) u) (by cases b <;> decide) (fun _ _ held => held)
      (fun u held => (takes b u).taken held) (fun c u _ held => ?_) (fun c u other held => ?_) rfl
    · rw [(takes c u).igs]
      exact held
    · exact (takes c u).others _ (fun same => other (Copy.power.inj same).symm) held
  · have apart (c : Block) : k ≠ .power c := fun same => power ⟨c, same⟩
    have entered : Keeps (Agrees k) s (s.modIgs fun g => { g with power := p }) := by
      intro ok
      cases k
      case power c => exact absurd rfl (apart c)
      all_goals exact ok
    have freed (u : State) (f : FreeValues → FreeValues) : Keeps (Agrees k) u (u.modFree f) :=
      InStep.of_shared (s := u) (t := u.modFree f) rfl k
    exact entered.trans ((freed _ _).trans (.foldl (fun u c => (takes c u).others k (apart c)) _ _))

end EntersPower

section
variable (s : State)

/-! ## The PCU -/

/-- A channel whose state is LIVE holds a copy of road source LIVE up until its next change. -/
theorem channels_loop_road {k : Copy} (road : k.isRoad = true) (f : ChannelIx → Channel → Channel)
    (ends : ∀ ch c, (f ch c).state ≠ .live) (due : Agrees k s ∨ ∃ ch : ChannelIx, s.pcu.channels[ch].state = .live) :
    Agrees k (eachIx 6 (fun ch s => changeChannel ch (f ch) s) s) := by
  have live : k.isLive = true := by cases k <;> first | rfl | exact road
  rcases due with ok | ⟨ch, up⟩
  · exact InStep.eachIx (fun ch u => changeChannel_inStep u ch _) s k ok
  · refine eachIx_reaches (i := ch) (before := fun u => u.pcu.channels[ch].state = .live) (goal := Agrees k)
      (fun u up => ?_) (fun j u other up => ?_) (fun j u ok => changeChannel_inStep u j _ k ok) up
    · exact changeChannel_live (fun same => ends ch _ (same.trans up)) live
    · rw [changeChannel_channels, updAt_get, if_neg other]
      exact up

/-- When the road source returns to CH0, a copy of road source LIVE is in step, or CH0 or CH4 is LIVE. -/
theorem road_due {k : Copy} (road : k.isRoad = true) {t : State} (channels : t.pcu.channels = s.pcu.channels)
    (copies : t.shared = { s.shared.withPower .pcu t.pcu.power with roadSource := .ch0 }) (ok : Agrees k s) :
    Agrees k t ∨ ∃ ch : ChannelIx, t.pcu.channels[ch].state = .live := by
  by_cases up : ∃ ch : ChannelIx, t.pcu.channels[ch].state = .live
  · exact .inr up
  · have down (ch : ChannelIx) : t.pcu.channels[ch].state ≠ .live := fun held => up ⟨ch, held⟩
    have before : s.pcu.roadLive = false := by
      unfold Pcu.roadLive
      exact decide_eq_false fun held => down _ (by rw [channels]; exact held)
    have now : t.pcu.roadLive = false := by
      unfold Pcu.roadLive
      exact decide_eq_false (down _)
    obtain ⟨tau, warn, svs, clc⟩ := agrees_road_iff (s := s)
    obtain ⟨tau', warn', svs', clc'⟩ := agrees_road_iff (s := t)
    rw [before] at tau warn svs clc
    rw [now] at tau' warn' svs' clc'
    left
    cases k
    case roadTau => exact tau'.mpr ((congrArg Shared.tauRoadLive copies).trans (tau.mp ok))
    case roadWarn => exact warn'.mpr ((congrArg (fun x : Shared => x.view.roadLive) copies).trans (warn.mp ok))
    case roadSvs => exact svs'.mpr ((congrArg Shared.svsRoadLive copies).trans (svs.mp ok))
    case roadClc => exact clc'.mpr ((congrArg Shared.clcRoadLive copies).trans (clc.mp ok))
    all_goals cases road

/-- What Run entry and Parked entry do at the PCU: the power state and the source change, and each channel leaves LIVE. -/
theorem pcuEntry_enters {p : PowerState} {t : State} (power : t.pcu.power = p)
    (channels : t.pcu.channels = s.pcu.channels) (igs : t.igs = s.igs)
    (copies : t.shared = { s.shared.withPower .pcu p with roadSource := .ch0 }) (f : ChannelIx → Channel → Channel)
    (ends : ∀ ch c, (f ch c).state ≠ .live) :
    EntersPower .pcu p s (eachIx 6 (fun ch s => changeChannel ch (f ch) s) (setDisagree false t)) := by
  have kept : (eachIx 6 (fun ch s => changeChannel ch (f ch) s) (setDisagree false t)).igs = s.igs :=
    ((eachIx_keeps (get := State.igs) (fun ch u => changeChannel_only u ch (f ch) .igs (by decide)) _).trans
      (setDisagree_only t false .igs (by decide))).trans igs
  have loop : InStep (setDisagree false t) (eachIx 6 (fun ch s => changeChannel ch (f ch) s) (setDisagree false t)) :=
    .eachIx (fun ch u => changeChannel_inStep u ch _) _
  have moved : InStep t (eachIx 6 (fun ch s => changeChannel ch (f ch) s) (setDisagree false t)) :=
    (setDisagree_inStep t false).trans loop
  refine ⟨kept, fun entered => moved _ ?_, fun k other ok => ?_⟩
  · rw [Agrees, copies]
    exact entered.symm
  · by_cases road : k.isRoad = true
    · refine channels_loop_road _ road f ends ?_
      have due := road_due s road channels (by rw [power]; exact copies) ok
      rw [setDisagree_pcu]
      exact due.imp_left (setDisagree_inStep t false k)
    · refine moved k ?_
      rw [Agrees, copies]
      cases k
      case power c =>
        cases c
        case pcu => exact absurd rfl other
        all_goals exact ok
      case roadTau | roadWarn | roadSvs | roadClc => exact absurd rfl road
      all_goals exact ok

theorem pcuRunEntry_enters : EntersPower .pcu .run s (pcuRunEntry s) := by
  refine pcuEntry_enters s (t := (s.modInputs (Inputs.loadPulses fun ch => s.pcu.channels[ch].cfg.enabled)).modPcu
    fun p => { p with power := .run, gate := some p.cal.window.ms, roadSource := .ch0, cross := CrossCheck.zero })
    rfl rfl rfl rfl (fun _ c => Channel.restarted c.cfg) fun _ c => ?_
  unfold Channel.restarted
  dsimp only
  split_ifs <;> nofun

theorem pcuParkedEntry_enters : EntersPower .pcu .parked s (pcuParkedEntry s) :=
  pcuEntry_enters s (t := s.modPcu fun p => { p with
    power := .parked, gate := none, roadSource := .ch0, cross := CrossCheck.zero, snap := Snapshot.idle })
    rfl rfl rfl rfl (fun _ c => Channel.off c.cfg) fun _ _ => nofun

/-! ## The GDU, the WTB, the CHS and the CLC -/

theorem gduParkedEntry_enters : EntersPower .gdu .parked s (gduParkedEntry s) :=
  .andThen (t := s.modGdu fun d => { d with
    power := .parked
    parking := true
    gauges := mapAll (fun g => { g with state := .parking, phase := none, homingLeft := none, target := 0 }) d.gauges
    view := { d.view with
      roadSource := .ch0
      roadSpeed := if d.view.roadSource = .ch0 then d.view.roadSpeed else 0 } })
    (.of_shared rfl rfl) (endParking_only _ .igs (by decide)) (endParking_inStep _)

theorem evaluateWhere_enters (test : EntryConfig → Bool) {b : Block} {p : PowerState} {t : State}
    (h : EntersPower b p s t) : EntersPower b p s (evaluateWhere test t) :=
  h.andThen ((ByProducts.evaluateWhere test t).only .igs (by decide)) (.byProducts (.evaluateWhere test t))

theorem wtbParkedEntry_enters : EntersPower .wtb .parked s (wtbParkedEntry s) := by
  unfold wtbParkedEntry
  dsimp only
  have parked (moved : Prop) [Decidable moved] : EntersPower .wtb .parked s (s.modWtb fun t => { t with
      bulbCheck := none
      view := { t.view with
        power := .parked
        roadSource := .ch0
        roadSpeed := if moved then 0 else t.view.roadSpeed } }) := .of_shared rfl rfl
  have walked {f : EntryIx → State → State} (h : ∀ w u, ByProducts u (f w u)) (u : State) (k : EntersPower .wtb .parked s u) :
      EntersPower .wtb .parked s (eachIx 32 f u) :=
    k.andThen ((ByProducts.eachIx h u).only .igs (by decide)) (.byProducts (.eachIx h u))
  refine walked (fun w u => ?_) _ (parked _)
  split_ifs
  · exact .evaluateEntry w u
  · exact .refl u
  · exact .parkEntry w u

theorem modChs_inStep {f : Chs → Chs} (power : (f s.chs).power = s.chs.power) : InStep s (s.modChs f) := by
  refine .of_shared ?_
  simp only [State.shared, State.powers, State.modChs_chs, power]
  rfl

theorem modChs_enters {f : Chs → Chs} {p : PowerState} (power : (f s.chs).power = p) :
    EntersPower .chs p s (s.modChs f) := by
  refine .of_shared rfl ?_
  simp only [State.shared, State.powers, State.modChs_chs, power]
  rfl

theorem chsPower_enters (p : PowerState) : EntersPower .chs p s (chsPower p s) := by
  cases p
  case parked =>
    show EntersPower .chs .parked s (chsParkedEntry s)
    have power (c : Chs) : c.chooseIfSilent.power = c.power := (congrArg Chs.power c.chooseIfSilent_frame :)
    have removed (u : State) : InStep u (removeChime .rearCall u) := .byProducts (.removeChime _ u)
    unfold chsParkedEntry
    dsimp only
    split_ifs
    · exact .after (by rw [(ByProducts.removeChime _ _).only .igs (by decide), takePrivacy_only s false .igs (by decide)])
        ((takePrivacy_inStep s false).trans (removed _)) (modChs_enters _ (power _))
    · exact .after ((ByProducts.removeChime _ s).only .igs (by decide)) (removed s) (modChs_enters _ (power _))
  case crank => exact modChs_enters s (f := fun c => { c with power := .crank, player := none }) rfl
  case run =>
    have power (c : Chs) : c.choose.power = c.power := (congrArg Chs.power c.choose_frame :)
    show EntersPower .chs .run s (if s.chs.power = .crank then _ else _)
    split_ifs
    · exact modChs_enters s (power _)
    · exact modChs_enters s rfl

theorem clcParkedEntry_enters : EntersPower .clc .parked s (clcParkedEntry s) := by
  have parked (b : Bool) : EntersPower .clc .parked s (s.modClc fun c =>
      { c.abandon with power := .parked, heldLow := false, sleepWaiting := b }) := by
    refine .of_shared rfl ?_
    have nodes : mapAll (fun nd : Node => nd.state) s.clc.abandon.nodes = s.shared.nodes := s.clc.abandon_states
    simp only [State.shared, State.powers, State.modClc_clc, nodes]
    rfl
  unfold clcParkedEntry
  exact (parked _).andThen ((setLine_only _ _ .igs (by decide)).trans (endPass_only _ _ .igs (by decide)))
    ((endPass_inStep _ _).trans (setLine_inStep _ _))

/-! ## Every block -/

theorem takeRunEntry_enters (b : Block) : EntersPower b .run s (takeRunEntry b s) := by
  cases b
  case pcu => exact pcuRunEntry_enters s
  case wtb =>
    have takes : takeRunEntry .wtb s = evaluateWhere (fun c => c.enabled)
        (s.modWtb fun t => { t with bulbCheck := some Config.bulbCheckMs, view := { t.view with power := .run } }) := rfl
    rw [takes]
    exact evaluateWhere_enters s _ (.of_shared rfl rfl)
  case chs => exact chsPower_enters s _
  case clc =>
    have run : EntersPower .clc .run s (s.modClc fun c => { c with power := .run }) := .of_shared rfl rfl
    have takes : takeRunEntry .clc s = coachReset (s.modClc fun c => { c with power := .run }) := rfl
    rw [takes]
    exact run.andThen (coachReset_only _ .igs (by decide)) (coachReset_inStep _)
  case clk => exact .of_inStep rfl (.refl s)
  all_goals exact .of_shared rfl rfl

theorem takeParkedEntry_enters (b : Block) : EntersPower b .parked s (takeParkedEntry b s) := by
  cases b
  case pcu => exact pcuParkedEntry_enters s
  case gdu => exact gduParkedEntry_enters s
  case wtb => exact wtbParkedEntry_enters s
  case chs => exact chsPower_enters s _
  case clc => exact clcParkedEntry_enters s
  case clk => exact .of_inStep rfl (.refl s)
  all_goals exact .of_shared rfl rfl

theorem takeCrank_enters (p : PowerState) (b : Block) : EntersPower b p s (takeCrank p b s) := by
  cases b
  case wtb =>
    have takes : takeCrank p .wtb s = evaluateWhere (fun c => c.gated fun g => g = .run)
        (s.modWtb fun t => { t with view := { t.view with power := p } }) := rfl
    rw [takes]
    exact evaluateWhere_enters s _ (.of_shared rfl rfl)
  case chs => exact chsPower_enters s _
  case clk => exact .of_inStep rfl (.refl s)
  all_goals exact .of_shared rfl rfl

theorem enterRun_inStep : InStep s (enterRun s) := EntersPower.hand (fun b u => takeRunEntry_enters u b) s

theorem enterParked_inStep : InStep s (enterParked s) := EntersPower.hand (fun b u => takeParkedEntry_enters u b) s

theorem enterCrank_inStep (p : PowerState) : InStep s (enterCrank p s) := EntersPower.hand (fun b u => takeCrank_enters u p b) s

end

end Sys2Proof.Machine
end

section
/-! Every step keeps the copies in step: the resets give every copy its value afresh, and the changes of the power state
hand it to every block (R5, R15, R25, R43, R57, R72, R87, R132, R147, R149, R172, R175, R179). -/

namespace Sys2Proof.Machine

-- One theorem at a time, so that a build as one text needs few threads.
set_option Elab.async false

/-! ## Resets -/

/-- A Line or Restart reset gives every copy its value afresh. -/
theorem resetAll_agrees (cause : ResetCause) (armed : Bool) (lines : InputLines) (s : State) (k : Copy) :
    Agrees k (resetAll cause armed lines s) := by
  have off (ch : ChannelIx) : (resetAll cause armed lines s).pcu.channels[ch].state = .off :=
    congrArg Channel.state (mapAll_get (fun c : Channel => Channel.off c.cfg) s.pcu.channels ch)
  have engine : (resetAll cause armed lines s).pcu.engineRunning = false :=
    decide_eq_false fun live => absurd ((off 1).symm.trans live) nofun
  have road : (resetAll cause armed lines s).pcu.roadLive = false :=
    decide_eq_false fun live => absurd ((off _).symm.trans live) nofun
  obtain ⟨tau, warn, svs, clc⟩ := agrees_road_iff (s := resetAll cause armed lines s)
  rw [road] at tau warn svs clc
  cases k
  case power b => cases b <;> rfl
  case engineTau => exact agrees_engineTau_iff.mpr engine.symm
  case engineWarn => exact agrees_engineWarn_iff.mpr engine.symm
  case roadTau => exact tau.mpr rfl
  case roadWarn => exact warn.mpr rfl
  case roadSvs => exact svs.mpr rfl
  case roadClc => exact clc.mpr rfl
  case channelsGauge =>
    refine agrees_gaugeChannels_iff.mpr fun ch => ?_
    rw [off]
    exact Vector.getElem_replicate ch.isLt
  case slots =>
    refine agrees_slots_iff.mpr fun n => ?_
    exact ⟨mapAll_get (fun x : Slot => x.state) (mapAll Slot.reset s.gdu.slots) n,
      mapAll_get (fun x : Slot => x.value) (mapAll Slot.reset s.gdu.slots) n⟩
  all_goals rfl

/-- After a Supply reset every copy is what the block that has the state holds (R179). -/
theorem supplied_agrees (lines : InputLines) (inputs : Inputs) (free : FreeValues) (pending : List Instr) (k : Copy) :
    Agrees k (State.supplied lines inputs free pending) := by
  cases k
  case power b => cases b <;> rfl
  case slots =>
    refine agrees_slots_iff.mpr ?_
    intro n
    fin_cases n <;> exact ⟨rfl, rfl⟩
  all_goals rfl

section
variable (s : State)

/-! ## The power state -/

theorem crankIfOn_inStep : InStep s (crankIfOn s) := by
  unfold crankIfOn
  split_ifs
  · exact (notify_inStep s _).trans (enterCrank_inStep _ _)
  · exact .refl s

theorem runAfterReset_inStep : InStep s (runAfterReset s) := by
  unfold runAfterReset
  split_ifs
  · exact (enterRun_inStep s).trans (crankIfOn_inStep _)
  · exact .refl s

theorem keptReset_inStep (cause : ResetCause) (armed : Bool) (lines : InputLines) :
    InStep s (keptReset cause armed lines s) := by
  rw [keptReset_eq]
  have reset : InStep s (resetAll cause armed lines s) := fun k _ => resetAll_agrees cause armed lines s k
  have evaluated := (reset.trans (notify_inStep _ (.power (powerAfter lines) cause.powerCause))).trans
    (.byProducts (.evaluateWhere (fun c => c.enabled && c.parkedLive) _))
  dsimp only
  split_ifs
  · exact (evaluated.trans (coachReset_inStep _)).trans (runAfterReset_inStep _)
  · exact evaluated.trans (runAfterReset_inStep _)

theorem power_inStep {c : Instr} (power : isPowerCommand c = true) : InStep s (otherEffect c s) := by
  have ign (f : Igs → Igs) (same : (f s.igs).power = s.igs.power) : InStep s (s.modIgs f) := by
    refine .of_shared ?_
    simp only [State.shared, State.powers, State.modIgs_igs, same]
    rfl
  cases c
  case transmissionComplete lines =>
    show InStep s (transmissionComplete lines s)
    unfold transmissionComplete
    split
    · have sent (f : OutFrame) : InStep s (s.modLkp (Lkp.frameSent f)) := modLkp_inStep s rfl rfl rfl
      dsimp only
      split_ifs
      · exact (sent _).trans (keptReset_inStep _ _ _ _)
      · exact sent _
    · exact .refl s
    · exact .refl s
  case supplyReset lines =>
    exact fun k => (Keeps.of_holds (supplied_agrees lines _ _ _ k)).trans
      ((notify_inStep _ _).trans (runAfterReset_inStep _) k)
  case battBelowRetention => exact fun k => .of_holds (supplied_agrees quietLines s.inputs s.free s.pending k)
  case lineReset lines =>
    show InStep s (lineReset lines s)
    unfold lineReset
    split_ifs
    · exact keptReset_inStep _ _ _ _
    · exact .refl s
  case runEntry =>
    show InStep s (ignitionOn s)
    unfold ignitionOn
    split_ifs
    · exact (((ign _ rfl).trans (notify_inStep _ _)).trans (enterRun_inStep _)).trans (crankIfOn_inStep _)
    · exact .refl s
  case parkedEntry =>
    show InStep s (ignitionOff s)
    unfold ignitionOff
    split_ifs
    · exact .refl s
    · exact ((ign _ rfl).trans (notify_inStep _ _)).trans (enterParked_inStep _)
  case crankOn =>
    show InStep s (crankOn s)
    unfold crankOn
    split_ifs
    · exact .refl s
    · exact (ign _ rfl).trans (crankIfOn_inStep _)
  case crankOff =>
    show InStep s (crankOff s)
    unfold crankOff
    dsimp only
    split_ifs
    · exact ((ign _ rfl).trans (notify_inStep _ _)).trans (enterCrank_inStep _ _)
    · exact ign _ rfl
  all_goals exact absurd power (by simp [isPowerCommand])

end

/-! ## Steps -/

theorem nextTick_shared (s : State) : (nextTick s).shared = s.shared := by
  have only := nextTick_only s
  have igs : (nextTick s).igs = s.igs := only .igs (by decide)
  have chs : (nextTick s).chs = s.chs := only .chs (by decide)
  have svs : (nextTick s).svs = s.svs := only .svs (by decide)
  have clk : (nextTick s).clk = s.clk := only .clk (by decide)
  simp only [State.shared, State.powers, igs, chs, svs, clk, only.pcu_eq (by decide), only.gdu_eq (by decide),
    only.tau_eq (by decide), only.wtb_eq (by decide), only.clc_eq (by decide), only.lkp_eq (by decide)]

/-- Every step keeps the copies of every state in step. -/
theorem step_agrees (k : Copy) {s t : State} (before : Agrees k s) (stepped : step s = .next t) : Agrees k t := by
  refine step_keeps (P := Agrees k) (fun s rest => (InStep.of_shared rfl k :))
    (fun s => (InStep.of_shared (nextTick_shared s) k :)) (fun s => (InStep.of_shared (settle_shared s) k :))
    (fun kind s => serve_inStep s (fun r u => owner_inStep u kind r) k) (fun c s => ?_) before stepped
  · by_cases power : isPowerCommand c = true
    · exact power_inStep s power k
    · exact other_inStep power s k

/-- Settles O16: every operation that changes a state that other blocks hold hands it to them, and what it does besides
changes none of the states and none of the copies. -/
theorem copiesKept : Obligations.CopiesKept := by
  unfold Obligations.CopiesKept
  refine ⟨fun s t ok stepped => ?_, fun s t pulse states stepped => ?_⟩
  · exact powerCopiesOk_iff.mpr fun b => step_agrees _ (powerCopiesOk_iff.mp ok b) stepped
  · have kept (k : Copy) (ok : Agrees k s) : Agrees k t := step_agrees k ok stepped
    rw [pulseCopiesOk_iff] at pulse ⊢
    rw [stateCopiesOk_iff] at states ⊢
    exact ⟨pulse.imp (kept _) (.imp (kept _) (.imp (kept _) (.imp (kept _) (.imp (kept _) (.imp (kept _)
      (.imp (kept _) (.imp (kept _) (.imp (kept _) (kept _))))))))),
      states.imp (kept _) (.imp (kept _) (.imp (kept _) (.imp (kept _) (.imp (kept _) (.imp (kept _)
      (.imp (kept _) (.imp (kept _) (kept _))))))))⟩

end Sys2Proof.Machine
end

section
/-! Properties that hold while the blocks' copies of the power state are in step: what is enough for every change of the
power state, every reset and every step to keep one, and the step's walk for them (R172). -/

namespace Sys2Proof.Machine

-- One theorem at a time, so that a build as one text needs few threads.
set_option Elab.async false

theorem InStep.power {s t : State} (h : InStep s t) (ok : PowerCopiesOk s) : PowerCopiesOk t :=
  powerCopiesOk_iff.mpr fun b => h _ (powerCopiesOk_iff.mp ok b)

theorem PowerCopiesOk.of {s : State} (ok : PowerCopiesOk s) (b : Block) : s.powers.of b = s.igs.power :=
  powerCopiesOk_iff.mp ok b

/-! ## CRANK -/

/-- Entering CRANK or returning from it changes a block's copy of the power state and no other of what the blocks share. -/
theorem takeCrank_shared {p : PowerState} (runs : p ≠ .parked) (b : Block) (s : State) :
    (takeCrank p b s).shared = s.shared.withPower b p := by
  cases b
  case wtb =>
    have takes : takeCrank p .wtb s = evaluateWhere (fun c => c.gated fun g => g = .run)
        (s.modWtb fun t => { t with view := { t.view with power := p } }) := rfl
    rw [takes, (ByProducts.evaluateWhere _ _).shared]
    rfl
  case chs =>
    have of_power {f : Chs → Chs} (power : (f s.chs).power = p) : (s.modChs f).shared = s.shared.withPower .chs p := by
      simp only [State.shared, State.powers, State.modChs_chs, power]
      rfl
    cases p
    case parked => exact absurd rfl runs
    case crank => exact of_power (f := fun c => { c with power := .crank, player := none }) rfl
    case run =>
      have power (c : Chs) : c.choose.power = c.power := (congrArg Chs.power c.choose_frame :)
      show (if s.chs.power = .crank then _ else _ : State).shared = _
      split_ifs
      · exact of_power (power _)
      · exact of_power rfl
  all_goals rfl

theorem Powers.put_of (x : Powers) (b c : Block) (p : PowerState) : (x.put b p).of c = if b = c ∧ b ≠ .clk then p else x.of c := by
  cases b <;> cases c <;> rfl

/-! ## Changes of the power state and resets -/

/-- What is enough for a property to be kept by every change of the power state and every reset while the blocks' copies of
the power state are in step: CRANK is entered and left by blocks that are not in PARKED. -/
structure KeepsEntry (P : State → Prop) : Prop where
  igs : ∀ s f, Keeps P s (s.modIgs f)
  free : ∀ s f, Keeps P s (s.modFree f)
  notify : ∀ s n, Keeps P s (s.notify n)
  sent : ∀ s f, Keeps P s (s.modLkp (Lkp.frameSent f))
  run : ∀ b s, Keeps P s (takeRunEntry b s)
  parked : ∀ b s, Keeps P s (takeParkedEntry b s)
  crank : ∀ p b s, p ≠ .parked → s.powers.of b ≠ .parked → Keeps P s (takeCrank p b s)
  rejoin : ∀ s, Keeps P s (Machine.enterRun (coachReset s))
  reset : ∀ cause armed lines n s, Keeps P s
    (evaluateWhere (fun c => c.enabled && c.parkedLive) ((resetAll cause armed lines s).notify n))
  supplied : ∀ (lines : InputLines) (s : State), P (State.supplied lines s.inputs s.free s.pending)

namespace KeepsEntry
variable {P : State → Prop} (h : KeepsEntry P) {s : State}
include h

theorem enterRun : Keeps P s (Machine.enterRun s) :=
  (h.igs s _).trans ((h.free _ _).trans (.foldl (fun u b => h.run b u) _ _))

theorem enterParked : Keeps P s (Machine.enterParked s) :=
  (h.igs s _).trans ((h.free _ _).trans (.foldl (fun u b => h.parked b u) _ _))

theorem enterCrank {p : PowerState} (runs : p ≠ .parked) (powers : PowerCopiesOk s) (on : s.igs.power ≠ .parked) :
    Keeps P s (Machine.enterCrank p s) := by
  intro ok
  have start (b : Block) : (s.modIgs fun g => { g with power := p }).powers.of b ≠ .parked := by
    have copy := powers.of b
    cases b
    case clk => exact runs
    all_goals exact fun parked => on (copy.symm.trans parked)
  have walked : P (Machine.enterCrank p s) ∧ ∀ b, (Machine.enterCrank p s).powers.of b ≠ .parked := by
    refine List.foldlRecOn (motive := fun u => P u ∧ ∀ b, u.powers.of b ≠ .parked) _ _
      ⟨h.free _ _ (h.igs s _ ok), start⟩ ?_
    rintro u ⟨kept, up⟩ b -
    refine ⟨h.crank p b u runs (up b) kept, fun c => ?_⟩
    have powers : (takeCrank p b u).powers = u.powers.put b p := congrArg Shared.powers (takeCrank_shared runs b u)
    rw [powers, Powers.put_of]
    split_ifs
    · exact runs
    · exact up c
  exact walked.1

theorem crankIfOn (powers : PowerCopiesOk s) : Keeps P s (Machine.crankIfOn s) := by
  unfold Machine.crankIfOn
  split_ifs with run
  · exact (h.notify s _).trans (h.enterCrank nofun ((notify_inStep s _).power powers)
      fun parked => absurd (run.1.symm.trans parked) nofun)
  · exact .refl s

theorem enterRun_crankIfOn (powers : PowerCopiesOk s) : Keeps P s (Machine.crankIfOn (Machine.enterRun s)) :=
  h.enterRun.trans (h.crankIfOn ((enterRun_inStep s).power powers))

theorem runAfterReset (powers : PowerCopiesOk s) : Keeps P s (Machine.runAfterReset s) := by
  unfold Machine.runAfterReset
  split_ifs
  · exact h.enterRun_crankIfOn powers
  · exact .refl s

/-- With the ignition on a Coach reset is followed by Run entry (R175). -/
theorem coachReset_runAfterReset (on : s.igs.ign = true) (powers : PowerCopiesOk s) :
    Keeps P s (Machine.runAfterReset (coachReset s)) := by
  have igs : (coachReset s).igs = s.igs := coachReset_only s .igs (by decide)
  unfold Machine.runAfterReset
  rw [if_pos (by rw [igs]; exact on)]
  exact (h.rejoin s).trans (h.crankIfOn ((enterRun_inStep _).power ((coachReset_inStep s).power powers)))

theorem keptReset (cause : ResetCause) (armed : Bool) (lines : InputLines) :
    Keeps P s (Machine.keptReset cause armed lines s) := by
  rw [keptReset_eq]
  have evaluated := h.reset cause armed lines (.power (powerAfter lines) cause.powerCause) s
  have powers := ((notify_inStep _ (.power (powerAfter lines) cause.powerCause)).trans
    (.byProducts (.evaluateWhere (fun c => c.enabled && c.parkedLive) _))).power
      (powerCopiesOk_iff.mpr fun b => resetAll_agrees cause armed lines s (.power b))
  dsimp only
  split_ifs with on
  · exact evaluated.trans (h.coachReset_runAfterReset on powers)
  · exact evaluated.trans (h.runAfterReset powers)

/-- Every command that changes the power state or resets the part keeps such a property. -/
theorem effect {c : Instr} (power : isPowerCommand c = true) (powers : PowerCopiesOk s) : Keeps P s (otherEffect c s) := by
  cases c
  case transmissionComplete lines =>
    show Keeps P s (Machine.transmissionComplete lines s)
    unfold Machine.transmissionComplete
    split
    · dsimp only
      split_ifs
      · exact (h.sent s _).trans (h.keptReset _ _ _)
      · exact h.sent s _
    · exact .refl s
    · exact .refl s
  case supplyReset lines =>
    exact (Keeps.of_holds (h.supplied lines s)).trans ((h.notify _ _).trans (h.runAfterReset
      ((notify_inStep _ _).power (powerCopiesOk_iff.mpr fun b => supplied_agrees lines _ _ _ (.power b)))))
  case battBelowRetention =>
    exact (Keeps.of_holds (h.supplied quietLines s)).trans (h.igs _ fun g => { g with supplied := false })
  case lineReset lines =>
    show Keeps P s (Machine.lineReset lines s)
    unfold Machine.lineReset
    split_ifs
    · exact h.keptReset _ _ _
    · exact .refl s
  case runEntry =>
    show Keeps P s (Machine.ignitionOn s)
    unfold Machine.ignitionOn
    split_ifs
    · exact ((h.igs s _).trans (h.notify _ _)).trans (h.enterRun_crankIfOn ((notify_inStep _ _).power powers))
    · exact .refl s
  case parkedEntry =>
    show Keeps P s (Machine.ignitionOff s)
    unfold Machine.ignitionOff
    split_ifs
    · exact .refl s
    · exact ((h.igs s _).trans (h.notify _ _)).trans h.enterParked
  case crankOn =>
    show Keeps P s (Machine.crankOn s)
    unfold Machine.crankOn
    split_ifs
    · exact .refl s
    · exact (h.igs s _).trans (h.crankIfOn powers)
  case crankOff =>
    show Keeps P s (Machine.crankOff s)
    unfold Machine.crankOff
    dsimp only
    split_ifs with on
    · exact ((h.igs s _).trans (h.notify _ _)).trans (h.enterCrank nofun ((notify_inStep _ _).power powers)
        fun parked => absurd (on.symm.trans parked) nofun)
    · exact h.igs s _
  all_goals exact absurd power (by simp [isPowerCommand])

end KeepsEntry

/-- A property that reads none of the IGS, the Link Port and the free values needs less. -/
theorem KeepsEntry.of_reads {P : State → Prop} {ps : List Part} (reads : Reads ps P)
    (apart : ∀ p ∈ ps, p ∉ [Part.igs, .lkp, .free])
    (run : ∀ b s, Keeps P s (takeRunEntry b s)) (parked : ∀ b s, Keeps P s (takeParkedEntry b s))
    (crank : ∀ p b s, p ≠ .parked → s.powers.of b ≠ .parked → Keeps P s (takeCrank p b s))
    (coach : ∀ s, Keeps P s (coachReset s)) (evaluate : ∀ test s, Keeps P s (evaluateWhere test s))
    (reset : ∀ cause armed lines s, Keeps P s (resetAll cause armed lines s))
    (supplied : ∀ (lines : InputLines) (s : State), P (State.supplied lines s.inputs s.free s.pending)) : KeepsEntry P where
  rejoin s := (coach s).trans ((Keeps.of_only reads (modIgs_only _ _) fun p mem mem' => apart p mem (by simp_all)).trans
    ((Keeps.of_only reads (modFree_only _ _) fun p mem mem' => apart p mem (by simp_all)).trans
      (.foldl (fun u b => run b u) _ _)))
  igs s f := .of_only reads (modIgs_only s f) fun p mem mem' => apart p mem (by simp_all)
  free s f := .of_only reads (modFree_only s f) fun p mem mem' => apart p mem (by simp_all)
  notify s n := .of_only reads (notify_only s n) fun p mem mem' => apart p mem (by simp_all)
  sent s f := .of_only reads (modLkp_only s _) fun p mem mem' => apart p mem (by simp_all)
  run := run
  parked := parked
  crank := crank
  reset cause armed lines n s := ((reset cause armed lines s).trans
    (.of_only reads (notify_only _ n) fun p mem mem' => apart p mem (by simp_all))).trans (evaluate _ _)
  supplied := supplied

/-! ## Steps -/

/-- A property that every part of a step keeps while the copies of the power state are in step is kept by every step
there. -/
theorem step_keeps_powered {P : State → Prop} (queue : ∀ s rest, Keeps P s { s with pending := rest })
    (tick : ∀ s, Keeps P s (nextTick s)) (settled : ∀ s, Keeps P s (settle s))
    (row : ∀ (k : ReqKind) s, PowerCopiesOk s → Keeps P s (serve k k.owner s))
    (other : ∀ c s, PowerCopiesOk s → Keeps P s (otherEffect c s)) {s t : State} (before : P s)
    (powers : PowerCopiesOk s) (stepped : step s = .next t) : P t := by
  have both : P t ∧ PowerCopiesOk t := by
    refine step_keeps (P := fun u => P u ∧ PowerCopiesOk u) (fun u rest ok => ?_) (fun u ok => ?_) (fun u ok => ?_)
      (fun k u ok => ?_) (fun c u ok => ?_) ⟨before, powers⟩ stepped
    all_goals obtain ⟨held, copies⟩ := ok
    · exact ⟨queue u rest held, copies⟩
    · exact ⟨tick u held, (InStep.of_shared (nextTick_shared u)).power copies⟩
    · exact ⟨settled u held, (InStep.of_shared (settle_shared u)).power copies⟩
    · exact ⟨row k u copies held, (serve_inStep u fun r v => owner_inStep v k r).power copies⟩
    · refine ⟨other c u copies held, InStep.power ?_ copies⟩
      by_cases power : isPowerCommand c = true
      · exact power_inStep u power
      · exact other_inStep power u
  exact both.1

/-- The same for a property of the blocks apart from the Coach Line and the Link Port. -/
theorem step_keeps_blocks_powered {P : State → Prop} {ps : List Part} (reads : Reads ps P)
    (owner : ∀ (k : ReqKind) r s, PowerCopiesOk s → Keeps P s (k.owner r s).1)
    (other : ∀ c s, PowerCopiesOk s → Keeps P s (otherEffect c s)) {s t : State} (before : P s)
    (powers : PowerCopiesOk s) (stepped : step s = .next t)
    (apart : ∀ p ∈ ps, p ∉ [Part.clc, .lkp, .free, .inputs, .pending] := by decide) : P t := by
  have away : ∀ {qs : List Part}, qs ⊆ [Part.clc, .lkp, .free, .inputs, .pending] → ∀ p ∈ ps, p ∉ qs :=
    fun sub p mem memQ => apart p mem (sub memQ)
  refine step_keeps_powered (fun s rest ok => reads s _ (fun p mem => ?_) ok)
    (fun s => Keeps.of_only reads (nextTick_only s) (away (by decide)))
    (fun s => Keeps.of_only reads (settle_only s) (away (by decide)))
    (fun k s copies => ?_) other before powers stepped
  · have := apart p mem
    cases p <;> first | rfl | simp at this
  · have taken := (takeRequest_inStep s).power copies
    have left := away (qs := [.lkp]) (by decide)
    unfold serve
    split
    · split_ifs
      · exact ((Keeps.of_only reads (takeRequest_only s) left).trans (owner k _ _ taken)).trans
          (.of_only reads (reply_only _ _ _ _ _) left)
      · exact (Keeps.of_only reads (takeRequest_only s) left).trans (.of_only reads (reply_only _ _ _ _ _) left)
      · exact .refl s
    · exact .refl s

end Sys2Proof.Machine
end

section
/-! O13, the records: what keeps the channels, the dividers and the cross-check in agreement (R3, R4, R6, R13 to R18). -/

namespace Sys2Proof.Machine

-- One theorem at a time, so that a build as one text needs few threads.
set_option Elab.async false

/-! ## Channels -/

namespace ChannelOk
variable {c : Channel}

theorem off (cfg : ChannelConfig) : ChannelOk (Channel.off cfg) := by
  unfold Channel.off
  simp [ChannelOk]

theorem restarted (cfg : ChannelConfig) : ChannelOk (Channel.restarted cfg) := by
  unfold Channel.restarted Channel.off
  by_cases on : cfg.enabled = true <;> simp [ChannelOk, on]

theorem edge (ok : ChannelOk c) (at10us : Nat) (on : c.state ≠ .off) : ChannelOk (c.edge at10us) := by
  obtain ⟨stall, idle, live, fault, window, freq, period⟩ := ok
  have counted : countUp 65535 c.windowCount ≤ 65535 := countUp_le _ _
  have captured : ∀ p ∈ c.edgePeriod at10us, p ≤ Config.maxPeriod := by
    unfold Channel.edgePeriod
    split
    · intro p mem
      cases mem
      exact min_le_right _ _
    · exact period
  unfold Channel.edge
  by_cases still : c.state = .still
  · obtain ⟨-, -, -, -, above, below⟩ := idle (.inr still)
    simp [ChannelOk, still, above, counted, freq]
    exact captured
  · have up : c.state = .live ∨ c.state = .fault := by cases h : c.state <;> simp_all
    simp only [if_neg still]
    refine ⟨by simp [up], fun down => ?_, live, fault, counted, freq, captured⟩
    rcases down with h | h
    · exact absurd h on
    · exact absurd h still

theorem enterStill (ok : ChannelOk c) : ChannelOk c.enterStill := by
  obtain ⟨-, -, -, -, window, -, -⟩ := ok
  unfold Channel.enterStill
  simp [ChannelOk, window]

theorem withConfig (ok : ChannelOk c) (cfg : ChannelConfig) : ChannelOk { c with cfg } := ok

theorem freshWindow (ok : ChannelOk c) : ChannelOk { c with windowCount := 0, aboveMax := 0, atOrBelow := 0 } := by
  obtain ⟨stall, idle, live, fault, window, freq, period⟩ := ok
  refine ⟨stall, fun down => ?_, fun _ => Nat.zero_le _, fun _ => Nat.zero_le _, Nat.zero_le _, freq, period⟩
  obtain ⟨mode, last, latest, zero, -, -⟩ := idle down
  exact ⟨mode, last, latest, zero, rfl, rfl⟩

end ChannelOk

theorem closedFrequency_le (c : Channel) (w : WindowLength) (at10us free : Nat) :
    c.closedFrequency w at10us free ≤ Config.maxFrequency := by
  have byPeriod : c.periodFrequency at10us free ≤ Config.maxFrequency := by
    unfold Channel.periodFrequency
    split
    · exact Nat.zero_le _
    · dsimp only
      split_ifs
      · exact min_le_right _ _
      · exact min_le_right _ _
  unfold Channel.closedFrequency
  split
  · exact Nat.zero_le _
  · exact Nat.zero_le _
  · split
    · exact min_le_right _ _
    · exact byPeriod
  · split
    · exact min_le_right _ _
    · exact byPeriod

/-- The fault test keeps a channel's fields in agreement and its other fields as they are (R4). -/
theorem ChannelOk.close {c : Channel} (ok : ChannelOk c) (w : WindowLength) {f : Nat} (bound : f ≤ Config.maxFrequency)
    (quiet : c.state = .still → f = 0) : ChannelOk (c.close w f) := by
  obtain ⟨stall, idle, live, fault, window, freq, period⟩ := ok
  unfold Channel.close Channel.faultTest
  cases st : c.state
  case off =>
    exact ⟨stall, idle, live, fault, window, freq, period⟩
  case still =>
    obtain ⟨mode, last, latest, -, above, below⟩ := idle (.inr st)
    obtain rfl := quiet st
    simp [ChannelOk, st, mode, last, latest, above, below, Channel.nextMode]
    simpa [st] using stall
  case live =>
    have running : c.stallTimer.isSome = true := stall.mpr (.inl st)
    dsimp only
    split_ifs with above again
    · simp [ChannelOk, running, bound]
      exact ⟨by omega, period⟩
    · simp [ChannelOk, running, bound]
      exact period
    · simp [ChannelOk, running, bound]
      exact period
  case fault =>
    have running : c.stallTimer.isSome = true := stall.mpr (.inr st)
    dsimp only
    split_ifs with above again
    · simp [ChannelOk, running, bound]
      exact period
    · simp [ChannelOk, running, bound]
      exact ⟨by omega, period⟩
    · simp [ChannelOk, running, bound]
      exact period

theorem Channel.close_off_iff (c : Channel) (w : WindowLength) (f : Nat) : (c.close w f).state = .off ↔ c.state = .off := by
  unfold Channel.close Channel.faultTest
  cases st : c.state
  case off => simp [st]
  case still => simp [st]
  all_goals
    dsimp only
    split_ifs <;> simp

theorem Channel.close_cfg (c : Channel) (w : WindowLength) (f : Nat) : (c.close w f).cfg = c.cfg := by
  unfold Channel.close Channel.faultTest
  cases c.state
  case off | still => rfl
  all_goals
    dsimp only
    split_ifs <;> rfl

/-! ## The power state -/

theorem pulsePowerOk_of_parked {p : Pcu} (parked : p.power = .parked) : PulsePowerOk p ↔
    (∀ ch : ChannelIx, p.channels[ch].state = .off) ∧ p.gate = none ∧ p.roadSource = .ch0 ∧ p.snap = Snapshot.idle := by
  rw [PulsePowerOk, if_pos parked]

theorem pulsePowerOk_of_running {p : Pcu} (running : p.power ≠ .parked) : PulsePowerOk p ↔
    p.gate.isSome = true ∧ ∀ ch : ChannelIx, p.channels[ch].state = .off ↔ p.channels[ch].cfg.enabled = false := by
  rw [PulsePowerOk, if_neg running]

/-! ## A change of a channel -/

/-- CH0 or CH4 leaves LIVE with the change (R15). -/
def Pcu.LeavesLive (p : Pcu) (ch : ChannelIx) (f : Channel → Channel) : Prop :=
  p.channels[ch].state = .live ∧ (f p.channels[ch]).state ≠ .live ∧ (ch = 0 ∨ ch = 4)

/-- What a change of a channel makes of the PCU. -/
structure Pcu.ChangesChannel (ch : ChannelIx) (f : Channel → Channel) (p q : Pcu) : Prop where
  frame : { q with channels := p.channels, disagree := p.disagree, cross := p.cross } = p
  channels : q.channels = updAt p.channels ch f
  leaves : p.LeavesLive ch f → q.disagree = false ∧ q.cross = { p.cross with disagreeing := 0, agreeing := 0 }
  stays : ¬ p.LeavesLive ch f → q.disagree = p.disagree ∧ q.cross = p.cross

theorem changeChannel_changes (ch : ChannelIx) (f : Channel → Channel) (s : State) :
    s.pcu.ChangesChannel ch f (changeChannel ch f s).pcu := by
  by_cases changed : (f s.pcu.channels[ch]).state = s.pcu.channels[ch].state
  · rw [changeChannel_of_same changed]
    exact ⟨rfl, rfl, fun ⟨live, down, _⟩ => absurd (changed.trans live) down, fun _ => ⟨rfl, rfl⟩⟩
  · rw [changeChannel_pcu changed, channelRecorded_pcu]
    refine ⟨rfl, rfl, fun ⟨live, _, pair⟩ => ?_, fun stays => ?_⟩
    · exact ⟨if_pos ⟨live, pair⟩, if_pos ⟨live, pair⟩⟩
    · have not : ¬ (s.pcu.channels[ch].state = .live ∧ (ch = 0 ∨ ch = 4)) := fun ⟨live, pair⟩ =>
        stays ⟨live, fun same => changed (same.trans live.symm), pair⟩
      exact ⟨if_neg not, if_neg not⟩

theorem pcu_bothLive_iff (p : Pcu) : p.bothLive = true ↔ p.channels[0].state = .live ∧ p.channels[4].state = .live := by
  simp [Pcu.bothLive]

namespace Pcu.ChangesChannel
variable {ch : ChannelIx} {f : Channel → Channel} {p q : Pcu} (h : p.ChangesChannel ch f q)
include h

theorem channelsOk (ok : ∀ c : ChannelIx, ChannelOk p.channels[c]) (new : ChannelOk (f p.channels[ch])) (c : ChannelIx) :
    ChannelOk q.channels[c] := by
  rw [h.channels, updAt_get]
  split_ifs with same
  · subst same; exact new
  · exact ok c

theorem dividersOk (ok : DividersOk p) : DividersOk q := by
  rw [← h.frame] at ok
  exact ok

theorem crossCheckOk (ok : CrossCheckOk p) : CrossCheckOk q := by
  obtain ⟨disagreeing, agreeing, fallback, returning, both⟩ := ok
  by_cases leaves : p.LeavesLive ch f
  · obtain ⟨clear, cross⟩ := h.leaves leaves
    refine ⟨?_, ?_, ?_, ?_, fun set => absurd (clear.symm.trans set) nofun⟩
    all_goals rw [cross]
    · exact Nat.zero_le _
    · exact Nat.zero_le _
    · exact fallback
    · exact returning
  · obtain ⟨condition, cross⟩ := h.stays leaves
    rw [CrossCheckOk, condition, cross]
    refine ⟨disagreeing, agreeing, fallback, returning, fun set => ?_⟩
    obtain ⟨live0, live4⟩ := (pcu_bothLive_iff p).mp (both set)
    have stays (c : ChannelIx) (pair : c = 0 ∨ c = 4) (live : p.channels[c].state = .live) :
        q.channels[c].state = .live := by
      rw [h.channels, updAt_get]
      split_ifs with same
      · subst same
        by_contra down
        exact leaves ⟨live, down, pair⟩
      · exact live
    exact (pcu_bothLive_iff q).mpr ⟨stays 0 (.inl rfl) live0, stays 4 (.inr rfl) live4⟩

theorem powerOk (ok : PulsePowerOk p) (parked : p.power = .parked → (f p.channels[ch]).state = .off)
    (runs : p.power ≠ .parked → ((f p.channels[ch]).state = .off ↔ (f p.channels[ch]).cfg.enabled = false)) :
    PulsePowerOk q := by
  have power : q.power = p.power := (congrArg Pcu.power h.frame :)
  have gate : q.gate = p.gate := (congrArg Pcu.gate h.frame :)
  have source : q.roadSource = p.roadSource := (congrArg Pcu.roadSource h.frame :)
  have snap : q.snap = p.snap := (congrArg Pcu.snap h.frame :)
  unfold PulsePowerOk at ok ⊢
  rw [power, gate, source, snap, h.channels]
  split_ifs with park
  · rw [if_pos park] at ok
    obtain ⟨off, rest⟩ := ok
    refine ⟨fun c => ?_, rest⟩
    rw [updAt_get]
    split_ifs with same
    · exact parked park
    · exact off c
  · rw [if_neg park] at ok
    obtain ⟨gate, off⟩ := ok
    refine ⟨gate, fun c => ?_⟩
    rw [updAt_get]
    split_ifs with same
    · exact runs park
    · exact off c

end Pcu.ChangesChannel

theorem changeChannel_pulseOk {s : State} {ch : ChannelIx} {f : Channel → Channel} (ok : PulseOk s.pcu)
    (new : ChannelOk (f s.pcu.channels[ch])) (parked : s.pcu.power = .parked → (f s.pcu.channels[ch]).state = .off)
    (runs : s.pcu.power ≠ .parked →
      ((f s.pcu.channels[ch]).state = .off ↔ (f s.pcu.channels[ch]).cfg.enabled = false)) :
    PulseOk (changeChannel ch f s).pcu := by
  obtain ⟨channels, power, dividers, cross⟩ := ok
  have h := changeChannel_changes ch f s
  exact ⟨h.channelsOk channels new, h.powerOk power parked runs, h.dividersOk dividers, h.crossCheckOk cross⟩

/-- A change that keeps a channel's configuration and whether it is OFF. -/
theorem changeChannel_pulseOk_of_off {s : State} {ch : ChannelIx} {f : Channel → Channel} (ok : PulseOk s.pcu)
    (new : ChannelOk (f s.pcu.channels[ch])) (cfg : (f s.pcu.channels[ch]).cfg = s.pcu.channels[ch].cfg)
    (off : (f s.pcu.channels[ch]).state = .off ↔ s.pcu.channels[ch].state = .off) :
    PulseOk (changeChannel ch f s).pcu := by
  refine changeChannel_pulseOk ok new (fun park => ?_) (fun run => ?_)
  all_goals
    obtain ⟨-, power, -, -⟩ := ok
  · exact off.mpr (((pulsePowerOk_of_parked park).mp power).1 ch)
  · rw [off, cfg]
    exact ((pulsePowerOk_of_running run).mp power).2 ch

/-! ## Run entry, Parked entry and resets -/

/-- With the cross-check at rest a change of a channel changes its record alone. -/
theorem changeChannel_pcu_of_rest {u : State} (ch : ChannelIx) (f : Channel → Channel) (clear : u.pcu.disagree = false)
    (zero : u.pcu.cross = CrossCheck.zero) :
    (changeChannel ch f u).pcu = { u.pcu with channels := updAt u.pcu.channels ch f } := by
  obtain ⟨frame, channels, leaves, stays⟩ := changeChannel_changes ch f u
  have same : (changeChannel ch f u).pcu.disagree = u.pcu.disagree ∧ (changeChannel ch f u).pcu.cross = u.pcu.cross := by
    by_cases left : u.pcu.LeavesLive ch f
    · obtain ⟨no, counts⟩ := leaves left
      exact ⟨no.trans clear.symm, counts.trans (by rw [zero]; rfl)⟩
    · exact stays left
  rw [← same.1, ← same.2] at frame
  rw [← channels]
  exact (congrArg (fun p : Pcu => { p with channels := (changeChannel ch f u).pcu.channels }) frame :)

/-- What the changes of every channel at a change of the power state make of the PCU. -/
theorem channels_loop_pcu (f : ChannelIx → Channel → Channel) (s : State) (clear : s.pcu.disagree = false)
    (zero : s.pcu.cross = CrossCheck.zero) : (eachIx 6 (fun ch s => changeChannel ch (f ch) s) s).pcu =
    { s.pcu with channels := Vector.ofFn fun ch => f ch s.pcu.channels[ch] } := by
  have frame : (eachIx 6 (fun ch s => changeChannel ch (f ch) s) s).pcu =
      { s.pcu with channels := (eachIx 6 (fun ch s => changeChannel ch (f ch) s) s).pcu.channels } := by
    refine eachIx_induct (motive := fun u => u.pcu = { s.pcu with channels := u.pcu.channels }) rfl fun ch u held => ?_
    have zero' : u.pcu.cross = CrossCheck.zero := by rw [held]; exact zero
    have clear' : u.pcu.disagree = false := by rw [held]; exact clear
    rw [changeChannel_pcu_of_rest ch (f ch) clear' zero']
    exact (congrArg (fun p : Pcu => { p with channels := updAt u.pcu.channels ch (f ch) }) held :)
  have channels : (eachIx 6 (fun ch s => changeChannel ch (f ch) s) s).pcu.channels =
      Vector.ofFn fun ch => f ch s.pcu.channels[ch] := by
    refine vector_eq_iff.mpr fun ch => ?_
    obtain ⟨t, before, after⟩ := eachIx_at (get := fun u : State => u.pcu.channels[ch]) (i := ch)
      (f := fun ch s => changeChannel ch (f ch) s) (fun j u other => by
        rw [changeChannel_channels, updAt_get_other _ _ _ _ other]) s
    rw [after, changeChannel_channels, updAt_get_same, before]
    exact (Vector.getElem_ofFn (f := fun ch => f ch s.pcu.channels[ch]) ch.isLt).symm
  rw [frame, channels]

/-- Run entry at the PCU (R17). -/
theorem pcuRunEntry_pcu (s : State) : (pcuRunEntry s).pcu = { s.pcu with
    power := .run, gate := some s.pcu.cal.window.ms, roadSource := .ch0, disagree := false, cross := CrossCheck.zero
    channels := mapAll (fun c => Channel.restarted c.cfg) s.pcu.channels } := by
  unfold pcuRunEntry
  dsimp only
  rw [channels_loop_pcu (fun _ c => Channel.restarted c.cfg) _ (by rw [setDisagree_pcu]) (by rw [setDisagree_pcu]; rfl),
    setDisagree_pcu]
  rfl

/-- Parked entry at the PCU (R18). -/
theorem pcuParkedEntry_pcu (s : State) : (pcuParkedEntry s).pcu = { s.pcu with
    power := .parked, gate := none, roadSource := .ch0, disagree := false, cross := CrossCheck.zero, snap := Snapshot.idle
    channels := mapAll (fun c => Channel.off c.cfg) s.pcu.channels } := by
  unfold pcuParkedEntry
  dsimp only
  rw [channels_loop_pcu (fun _ c => Channel.off c.cfg) _ (by rw [setDisagree_pcu]) (by rw [setDisagree_pcu]; rfl),
    setDisagree_pcu]
  rfl

theorem CrossCheckOk.of_zero {p : Pcu} (zero : p.cross = CrossCheck.zero) (clear : p.disagree = false) : CrossCheckOk p := by
  rw [CrossCheckOk, zero, clear]
  exact ⟨by decide, by decide, by decide, by decide, nofun⟩

theorem pcuRunEntry_pulseOk {s : State} (ok : PulseOk s.pcu) : PulseOk (pcuRunEntry s).pcu := by
  obtain ⟨-, -, dividers, -⟩ := ok
  rw [pcuRunEntry_pcu]
  refine ⟨fun ch => ?_, ?_, dividers, .of_zero rfl rfl⟩
  · dsimp only
    rw [mapAll_get]
    exact .restarted _
  · refine (pulsePowerOk_of_running (by intro parked; cases parked)).mpr ⟨rfl, fun ch => ?_⟩
    dsimp only
    rw [mapAll_get]
    unfold Channel.restarted Channel.off
    dsimp only
    split_ifs with on
    · exact iff_of_false nofun (by rw [on]; nofun)
    · exact iff_of_true rfl (Bool.eq_false_iff.mpr on)

theorem pcuParkedEntry_pulseOk {s : State} (ok : PulseOk s.pcu) : PulseOk (pcuParkedEntry s).pcu := by
  obtain ⟨-, -, dividers, -⟩ := ok
  rw [pcuParkedEntry_pcu]
  have channels (ch : ChannelIx) : (mapAll (fun c => Channel.off c.cfg) s.pcu.channels)[ch] =
      Channel.off s.pcu.channels[ch].cfg := mapAll_get _ _ _
  refine ⟨fun ch => ?_, (pulsePowerOk_of_parked rfl).mpr ⟨fun ch => ?_, rfl, rfl, rfl⟩, dividers, .of_zero rfl rfl⟩
  all_goals
    dsimp only
    rw [channels]
  · exact .off _
  · rfl

theorem Pcu.reset_pulseOk {p : Pcu} (ok : PulseOk p) : PulseOk p.reset := by
  obtain ⟨-, -, ⟨road, check, floor, top, -, -⟩, -⟩ := ok
  have channels (ch : ChannelIx) : p.reset.channels[ch] = Channel.off p.channels[ch].cfg := mapAll_get _ _ _
  refine ⟨fun ch => ?_, (pulsePowerOk_of_parked rfl).mpr ⟨fun ch => ?_, rfl, rfl, rfl⟩, ?_, .of_zero rfl rfl⟩
  · rw [channels]
    exact .off _
  · rw [channels]
    rfl
  · refine ⟨road, check, floor, top, fun least => decide_eq_true least, fun up => decide_eq_false fun least => ?_⟩
    have residue : p.reset.fuelResidue = p.fuelResidue := rfl
    rw [residue] at up
    omega

end Sys2Proof.Machine
end

section
/-! O13: every step keeps the channels, the residues, the conditions and the cross-check in agreement (R3, R4, R6, R13 to
R18). -/

namespace Sys2Proof.Machine

-- One theorem at a time, so that a build as one text needs few threads.
set_option Elab.async false

/-- The pulse invariant of a state. -/
def PulseHeld (s : State) : Prop := PulseOk s.pcu

theorem PulseHeld.reads : Reads [.pcu] PulseHeld := fun _ _ same ok => by
  have pcu := same .pcu (by decide)
  rw [PulseHeld, pcu]
  exact ok

/-- What gives the PCU a record with the invariant keeps it. -/
theorem Keeps.of_pcu {s t : State} {p : Pcu} (pcu : t.pcu = p) (ok : PulseOk s.pcu → PulseOk p) : Keeps PulseHeld s t :=
  fun held => by rw [PulseHeld, pcu]; exact ok held

section
variable (s : State)

/-! ## Edges -/

theorem changeChannel_pulseHeld {ch : ChannelIx} {f : Channel → Channel} (new : ChannelOk s.pcu.channels[ch] →
      ChannelOk (f s.pcu.channels[ch])) (cfg : (f s.pcu.channels[ch]).cfg = s.pcu.channels[ch].cfg)
    (off : (f s.pcu.channels[ch]).state = .off ↔ s.pcu.channels[ch].state = .off) :
    Keeps PulseHeld s (changeChannel ch f s) :=
  fun ok => changeChannel_pulseOk_of_off ok (new (ok.1 ch)) cfg off

theorem Channel.edge_off_iff (c : Channel) (at10us : Nat) : (c.edge at10us).state = .off ↔ c.state = .off := by
  unfold Channel.edge
  dsimp only
  split_ifs with still <;> simp [*]

theorem counted_lt {r d : Nat} (below : r < d) : (if r + 1 < d then r + 1 else 0) < d := by
  split_ifs <;> omega

theorem roadEdge_pulseHeld : Keeps PulseHeld s (roadEdge s) :=
  .of_pcu (roadEdge_pcu s) fun ⟨channels, power, ⟨road, check, fuel⟩, cross⟩ =>
    ⟨channels, power, ⟨counted_lt road, check, fuel⟩, cross⟩

theorem checkEdge_pulseHeld : Keeps PulseHeld s (checkEdge s) :=
  .of_pcu (checkEdge_pcu s) fun ⟨channels, power, ⟨road, check, fuel⟩, cross⟩ =>
    ⟨channels, power, ⟨road, counted_lt check, fuel⟩, cross⟩

/-- The condition follows a new residue that stays within the divisor (R14). -/
theorem fuel_pulseHeld {r : Int} {t : State} (pcu : t.pcu = { s.pcu with
      fuelResidue := r
      implausible := if r = -(s.pcu.cal.kf : Int) then true else if 0 ≤ r then false else s.pcu.implausible })
    (within : -(s.pcu.cal.kf : Int) ≤ s.pcu.fuelResidue → s.pcu.fuelResidue < s.pcu.cal.kf →
      -(s.pcu.cal.kf : Int) ≤ r ∧ r < s.pcu.cal.kf) : Keeps PulseHeld s t := by
  refine .of_pcu pcu fun ok => ?_
  obtain ⟨channels, power, ⟨road, check, floor, top, -, -⟩, cross⟩ := ok
  obtain ⟨floor', top'⟩ := within floor top
  refine ⟨channels, power, ⟨road, check, floor', top', fun least => if_pos least, fun up => ?_⟩, cross⟩
  dsimp only at up ⊢
  rw [if_neg (by omega), if_pos up]

theorem supplyEdge_pulseHeld : Keeps PulseHeld s (supplyEdge s) :=
  fuel_pulseHeld s (supplyEdge_pcu s) fun floor top => by split_ifs <;> omega

theorem returnEdge_pulseHeld : Keeps PulseHeld s (returnEdge s) :=
  fuel_pulseHeld s (returnEdge_pcu s) fun floor top => by omega

theorem pulseEdge_pulseHeld (ch : ChannelIx) (at10us : Nat) : Keeps PulseHeld s (pulseEdge ch at10us s) := by
  unfold pulseEdge
  split_ifs with off
  · exact .refl s
  · have taken : Keeps PulseHeld s (changeChannel ch (Channel.edge at10us) s) :=
      changeChannel_pulseHeld s (fun ok => ok.edge at10us off) rfl (Channel.edge_off_iff _ at10us)
    refine taken.trans ?_
    unfold dividerEdge
    split
    · exact roadEdge_pulseHeld _
    · exact .refl _
    · exact supplyEdge_pulseHeld _
    · exact returnEdge_pulseHeld _
    · exact checkEdge_pulseHeld _
    · exact .refl _

theorem stallExpiry_pulseHeld (ch : ChannelIx) : Keeps PulseHeld s (stallExpiry ch s) := by
  unfold stallExpiry
  split_ifs with running
  · intro ok
    obtain ⟨stall, -⟩ := ok.1 ch
    have on : s.pcu.channels[ch].state ≠ .off := by
      rcases stall.mp running with up | up <;> exact fun off => absurd (off.symm.trans up) nofun
    exact changeChannel_pulseHeld s (fun ok => ok.enterStill) rfl (iff_of_false nofun on) ok
  · exact .refl s

/-! ## Windows -/

theorem closeChannel_pulseHeld (at10us : Nat) (ch : ChannelIx) : Keeps PulseHeld s (closeChannel at10us ch s) :=
  changeChannel_pulseHeld s (fun ok => ok.close _ (closedFrequency_le _ _ _ _) fun still => closedFrequency_of_still still)
    (Channel.close_cfg _ _ _) (Channel.close_off_iff _ _ _)

theorem disagreeTest_pulseHeld : Keeps PulseHeld s (disagreeTest s) := by
  have counted (a b : Nat) (le : a ≤ 3) (le' : b ≤ 3) : Keeps PulseHeld s (s.modPcu fun p => { p with
      cross := { p.cross with disagreeing := a, agreeing := b } }) :=
    fun ⟨channels, power, dividers, ⟨_, _, rest⟩⟩ => ⟨channels, power, dividers, ⟨le, le', rest⟩⟩
  have disagree (u : State) (b : Bool) (both : b = true → u.pcu.bothLive = true) : Keeps PulseHeld u (setDisagree b u) :=
    .of_pcu (setDisagree_pcu b u) fun ⟨channels, power, dividers, ⟨m, n, f, r, _⟩⟩ =>
      ⟨channels, power, dividers, ⟨m, n, f, r, both⟩⟩
  unfold disagreeTest
  dsimp only
  by_cases both : s.pcu.bothLive = true
  swap
  · rw [if_pos (by simp [both])]
    exact counted 0 0 (Nat.zero_le _) (Nat.zero_le _)
  rw [if_neg (by simp [both])]
  split_ifs
  · exact (counted 0 _ (Nat.zero_le _) (countUp_le _ _)).trans (disagree _ false nofun)
  · exact counted 0 _ (Nat.zero_le _) (countUp_le _ _)
  · exact (counted _ 0 (countUp_le _ _) (Nat.zero_le _)).trans (disagree _ true fun _ => both)
  · exact counted _ 0 (countUp_le _ _) (Nat.zero_le _)

theorem sourceTest_pulseOk {p : Pcu} (ok : PulseOk p) (running : p.power ≠ .parked) : PulseOk p.sourceTest := by
  obtain ⟨channels, power, dividers, ⟨m, n, fallback, returning, both⟩⟩ := ok
  have moved (source : RoadSource) (a b : Nat) (below : a < 3) (below' : b < 3) : PulseOk { p with
      roadSource := source, cross := { p.cross with fallback := a, returning := b } } :=
    ⟨channels, (pulsePowerOk_of_running (by exact running)).mpr ((pulsePowerOk_of_running running).mp power), dividers, ⟨m, n, below, below', both⟩⟩
  unfold Pcu.sourceTest
  split
  all_goals
    rename_i source
    split_ifs with quiet again
  · have kept := moved p.roadSource 0 p.cross.returning (by decide) returning
    exact kept
  · have kept := moved p.roadSource (p.cross.fallback + 1) p.cross.returning again returning
    exact kept
  · exact moved .ch4 0 0 (by decide) (by decide)
  · have kept := moved p.roadSource p.cross.fallback 0 fallback (by decide)
    exact kept
  · have kept := moved p.roadSource p.cross.fallback (p.cross.returning + 1) fallback again
    exact kept
  · exact moved .ch0 0 0 (by decide) (by decide)

theorem moveSource_pcu : (moveSource s).pcu = s.pcu.sourceTest := by
  unfold moveSource
  dsimp only
  split_ifs
  · rfl
  · refine List.foldlRecOn (motive := fun u : State => u.pcu = s.pcu.sourceTest) _ _ rfl fun u kept b _ => ?_
    rw [takeRoadLive_pcu, kept]

theorem windowResult_pcu : (windowResult s).pcu = { s.pcu with snap := s.pcu.takeSnapshot } := by
  have handed (snap : Snapshot) (u : State) : (hand [.gdu, .wtb, .tau, .clc] (takeWindow snap) u).pcu = u.pcu :=
    List.foldlRecOn (motive := fun v : State => v.pcu = u.pcu) _ _ rfl fun v kept b _ => by
      have same : (takeWindow snap b v).pcu = v.pcu := (takeWindow_parts v snap b) .pcu (by cases b <;> decide)
      rw [same, kept]
  exact handed _ _

theorem changeChannel_keeps (ch : ChannelIx) (f : Channel → Channel) :
    (changeChannel ch f s).pcu.power = s.pcu.power ∧ (changeChannel ch f s).pcu.gate = s.pcu.gate := by
  have frame := (changeChannel_changes ch f s).frame
  exact ⟨(congrArg Pcu.power frame :), (congrArg Pcu.gate frame :)⟩

theorem closeWindow_keeps (at10us : Nat) : (closeWindow at10us s).pcu.power = s.pcu.power ∧
    (closeWindow at10us s).pcu.gate = s.pcu.gate := by
  rw [closeWindow_eq]
  refine eachIx_induct (f := closeChannel at10us)
    (motive := fun u => u.pcu.power = s.pcu.power ∧ u.pcu.gate = s.pcu.gate) ⟨rfl, rfl⟩ fun ch u kept => ?_
  unfold closeChannel
  obtain ⟨power, gate⟩ := changeChannel_keeps u ch (Channel.close u.pcu.cal.window (u.pcu.channels[ch].closedFrequency
    u.pcu.cal.window at10us (Config.zeroPeriodFrequency u.free.draws ch.val)))
  exact ⟨power.trans kept.1, gate.trans kept.2⟩

theorem disagreeTest_keeps : (disagreeTest s).pcu.power = s.pcu.power ∧ (disagreeTest s).pcu.gate = s.pcu.gate := by
  unfold disagreeTest
  dsimp only
  split_ifs
  · exact ⟨rfl, rfl⟩
  · rw [setDisagree_pcu]; exact ⟨rfl, rfl⟩
  · exact ⟨rfl, rfl⟩
  · rw [setDisagree_pcu]; exact ⟨rfl, rfl⟩
  · exact ⟨rfl, rfl⟩

/-- While the gate timer runs, the part is not in PARKED (R6, R18). -/
theorem running_of_gate {p : Pcu} (ok : PulsePowerOk p) (gate : p.gate.isSome = true) : p.power ≠ .parked := by
  intro parked
  obtain ⟨-, none, -, -⟩ := (pulsePowerOk_of_parked parked).mp ok
  exact absurd gate (by rw [none]; nofun)

theorem PulseOk.windowEnd {p : Pcu} (ok : PulseOk p) (running : p.power ≠ .parked) (snap : Snapshot) (ms : Nat) :
    PulseOk { p with snap, gate := some ms } := by
  obtain ⟨channels, power, dividers, cross⟩ := ok
  exact ⟨channels, (pulsePowerOk_of_running (by exact running)).mpr ⟨rfl, ((pulsePowerOk_of_running running).mp power).2⟩, dividers, cross⟩

theorem windowExpiry_pulseHeld (at10us : Nat) : Keeps PulseHeld s (windowExpiry at10us s) := by
  have ended (u : State) : PulseOk u.pcu → u.pcu.power ≠ .parked → PulseHeld ((u.modPcu fun p =>
      { p with gate := some p.cal.window.ms }).modFree fun v => { v with draws := v.draws + 1 }) :=
    fun ok running => ok.windowEnd running u.pcu.snap _
  have result (u : State) (ok : PulseOk u.pcu) (running : u.pcu.power ≠ .parked) (gate : u.pcu.gate.isSome = true) :
      PulseOk (windowResult (moveSource u)).pcu ∧ (windowResult (moveSource u)).pcu.power ≠ .parked := by
    have moved := sourceTest_pulseOk ok running
    have kept := Pcu.sourceTest_keeps u.pcu
    have stays : u.pcu.sourceTest.power ≠ .parked := by rw [(congrArg Pcu.power kept :)]; exact running
    rw [windowResult_pcu, moveSource_pcu]
    refine ⟨?_, stays⟩
    obtain ⟨ms, some⟩ := Option.isSome_iff_exists.mp gate
    have same : u.pcu.sourceTest.gate = Option.some ms := by rw [(congrArg Pcu.gate kept :)]; exact some
    have snapped := moved.windowEnd stays u.pcu.sourceTest.takeSnapshot ms
    rw [← same] at snapped
    exact snapped
  unfold windowExpiry
  split_ifs with gate
  · intro ok
    have closed : PulseHeld (closeWindow at10us s) :=
      Keeps.eachIx (fun ch u => closeChannel_pulseHeld u at10us ch) s ok
    have kept := closeWindow_keeps s at10us
    have tested := disagreeTest_keeps (closeWindow at10us s)
    have running : (disagreeTest (closeWindow at10us s)).pcu.power ≠ .parked := by
      rw [tested.1, kept.1]
      exact running_of_gate ok.2.1 gate
    obtain ⟨ok', running'⟩ := result (disagreeTest (closeWindow at10us s)) (disagreeTest_pulseHeld _ closed) running (by rw [tested.2, kept.2]; exact gate)
    exact ended _ ok' running'
  · exact .refl s

/-! ## Power states and requests -/

theorem pcuRunEntry_pulseHeld : Keeps PulseHeld s (pcuRunEntry s) := pcuRunEntry_pulseOk

theorem pcuParkedEntry_pulseHeld : Keeps PulseHeld s (pcuParkedEntry s) := pcuParkedEntry_pulseOk

theorem takeRunEntry_pulseHeld (b : Block) : Keeps PulseHeld s (takeRunEntry b s) := by
  cases b
  case pcu => exact pcuRunEntry_pulseHeld s
  all_goals exact .of_only PulseHeld.reads (takeRunEntry_parts s _)

theorem takeParkedEntry_pulseHeld (b : Block) : Keeps PulseHeld s (takeParkedEntry b s) := by
  cases b
  case pcu => exact pcuParkedEntry_pulseHeld s
  all_goals exact .of_only PulseHeld.reads (takeParkedEntry_parts s _)

theorem takeCrank_pulseHeld {p : PowerState} (b : Block) (runs : p ≠ .parked) (on : s.powers.of b ≠ .parked) :
    Keeps PulseHeld s (takeCrank p b s) := by
  cases b
  case pcu =>
    rintro ⟨channels, power, dividers, cross⟩
    have up : s.pcu.power ≠ .parked := on
    have entered : PulsePowerOk { s.pcu with power := p } :=
      (pulsePowerOk_of_running runs).mpr ((pulsePowerOk_of_running up).mp power)
    exact ⟨channels, entered, dividers, cross⟩
  all_goals exact .of_only PulseHeld.reads (takeCrank_parts s _ _)

theorem supplied_pulseHeld (lines : InputLines) : PulseHeld (State.supplied lines s.inputs s.free s.pending) := by
  have ok : PulseOk Pcu.supply := by decide +kernel
  exact ok

theorem uncounted : Keeps PulseHeld s (s.modPcu fun x => { x with cross := CrossCheck.zero }) :=
  fun ⟨channels, power, dividers, ⟨_, _, _, _, both⟩⟩ =>
    ⟨channels, power, dividers, ⟨Nat.zero_le _, Nat.zero_le _, Nat.zero_lt_succ _, Nat.zero_lt_succ _, both⟩⟩

theorem configured {ch : ChannelIx} {cfg : ChannelConfig} (parked : s.pcu.power = .parked) :
    Keeps PulseHeld s (s.modChannel ch fun c => { c with cfg }) := by
  rintro ⟨channels, power, dividers, ⟨m, n, f, r, both⟩⟩
  have record (c : ChannelIx) : (s.modChannel ch fun c => { c with cfg }).pcu.channels[c] =
      if ch = c then { s.pcu.channels[ch] with cfg } else s.pcu.channels[c] :=
    updAt_get _ _ _ _
  have state (c : ChannelIx) : (s.modChannel ch fun c => { c with cfg }).pcu.channels[c].state = s.pcu.channels[c].state := by
    rw [record]
    split_ifs with same
    · subst same; rfl
    · rfl
  obtain ⟨off, rest⟩ := (pulsePowerOk_of_parked parked).mp power
  refine ⟨fun c => ?_, ?_, dividers, ⟨m, n, f, r, fun set => ?_⟩⟩
  · rw [record]
    split_ifs
    · exact (channels ch).withConfig cfg
    · exact channels c
  · exact (pulsePowerOk_of_parked (by exact parked)).mpr ⟨fun c => (state c).trans (off c), rest⟩
  · obtain ⟨live0, live4⟩ := (pcu_bothLive_iff s.pcu).mp (both set)
    exact (pcu_bothLive_iff _).mpr ⟨(state 0).trans live0, (state 4).trans live4⟩

theorem setChannel_pulseHeld (p : ChannelIx × ChannelConfig) : Keeps PulseHeld s (setChannel p s).1 := by
  unfold setChannel emptyAnswer
  dsimp only
  have changed (running : s.pcu.power ≠ .parked) : Keeps PulseHeld s
      (changeChannel p.1 (fun _ => Channel.restarted p.2) (s.modInputs (Inputs.loadPulse p.1))) := fun ok =>
    changeChannel_pulseOk ok (.restarted _) (fun parked => absurd parked running) fun _ => by
      unfold Channel.restarted Channel.off
      dsimp only
      split_ifs with on
      · exact iff_of_false nofun (by rw [on]; nofun)
      · exact iff_of_true rfl (Bool.eq_false_iff.mpr on)
  split_ifs with parked pair
  · exact configured (s.modInputs (Inputs.loadPulse p.1)) parked
  · exact (changed parked).trans (uncounted _)
  · exact changed parked

theorem emptyRing_pulseHeld : Keeps PulseHeld s (emptyRing s) := .of_only PulseHeld.reads (emptyRing_only s)

theorem PulseOk.freshWindow {p : Pcu} (ok : PulseOk p) (running : p.power ≠ .parked) : PulseOk p.freshWindow := by
  obtain ⟨channels, power, dividers, ⟨-, -, -, -, both⟩⟩ := ok
  have record (ch : ChannelIx) : p.freshWindow.channels[ch] =
      { p.channels[ch] with windowCount := 0, aboveMax := 0, atOrBelow := 0 } := mapAll_get _ _ _
  have power := (pulsePowerOk_of_running running).mp power
  refine ⟨fun ch => ?_, (pulsePowerOk_of_running (by exact running)).mpr ⟨rfl, fun ch => ?_⟩, dividers,
    ⟨Nat.zero_le _, Nat.zero_le _, Nat.zero_lt_succ _, Nat.zero_lt_succ _, fun set => ?_⟩⟩
  · rw [record]
    exact (channels ch).freshWindow
  · rw [record]
    exact power.2 ch
  · obtain ⟨live0, live4⟩ := (pcu_bothLive_iff p).mp (both set)
    exact (pcu_bothLive_iff _).mpr ⟨(congrArg Channel.state (record 0)).trans live0,
      (congrArg Channel.state (record 4)).trans live4⟩

theorem setCalibration_pulseHeld {b : List Byte} {cal : Calibration} (fields : calibrationFields b = some cal) :
    Keeps PulseHeld s (setCalibration cal s).1 := by
  obtain ⟨⟨-, kd⟩, ⟨-, kd2⟩, ⟨-, kf⟩, -⟩ := calibrationFields_eq_some.mp fields
  have set : Keeps PulseHeld s (setImplausible false (s.modPcu fun p =>
      { p with cal, roadResidue := 0, checkResidue := 0, fuelResidue := 0 })) := by
    refine .of_pcu (setImplausible_pcu _ _) fun ⟨channels, power, _, cross⟩ => ⟨channels, power, ?_, cross⟩
    refine ⟨kd, kd2, ?_, ?_, fun least => ?_, fun _ => rfl⟩
    · show -(cal.kf : Int) ≤ 0
      omega
    · show (0 : Int) < cal.kf
      omega
    · have zero : (0 : Int) = -(cal.kf : Int) := least
      omega
  have running : (emptyRing (setImplausible false (s.modPcu fun p =>
      { p with cal, roadResidue := 0, checkResidue := 0, fuelResidue := 0 }))).pcu.power = s.pcu.power := by
    rw [(emptyRing_only _).pcu_eq (by decide), setImplausible_pcu]
    rfl
  have fresh (u : State) (up : u.pcu.power ≠ .parked) : Keeps PulseHeld u (u.modPcu Pcu.freshWindow) :=
    fun ok => PulseOk.freshWindow ok up
  unfold setCalibration emptyAnswer
  dsimp only
  split_ifs with parked
  · exact set.trans (emptyRing_pulseHeld _)
  · exact (set.trans (emptyRing_pulseHeld _)).trans (fresh _ (by rw [running]; exact parked))

end

theorem owner_pulseHeld (k : ReqKind) (r : Request) (s : State) : Keeps PulseHeld s (k.owner r s).1 := by
  cases k
  case setChannel => exact .ranged fun p _ => setChannel_pulseHeld s p
  case setCalibration => exact .ranged fun cal fields => setCalibration_pulseHeld s fields
  all_goals exact .of_only PulseHeld.reads (owner_only _ r s)

theorem entry_pulseHeld : KeepsEntry PulseHeld :=
  .of_reads PulseHeld.reads (by decide) (fun b s => takeRunEntry_pulseHeld s b) (fun b s => takeParkedEntry_pulseHeld s b)
    (fun _ b s => takeCrank_pulseHeld s b) (fun s => .of_only PulseHeld.reads (coachReset_only s))
    (fun test s => .of_only PulseHeld.reads (ByProducts.evaluateWhere test s).only)
    (fun _ _ _ _ ok => Pcu.reset_pulseOk ok) fun lines s => supplied_pulseHeld s lines

theorem other_pulseHeld (c : Instr) (s : State) (powers : PowerCopiesOk s) : Keeps PulseHeld s (otherEffect c s) := by
  by_cases power : isPowerCommand c = true
  · exact entry_pulseHeld.effect power powers
  · cases c
    case pulseEdge ch at10us => exact pulseEdge_pulseHeld s ch at10us
    case stallExpiry ch => exact stallExpiry_pulseHeld s ch
    case windowExpiry at10us => exact windowExpiry_pulseHeld s at10us
    all_goals first
      | exact absurd rfl power
      | exact .of_only PulseHeld.reads (otherEffect_only _ s) (by simp [otherParts])

/-- Settles O13: the invariant is kept by every change of a channel, by the dividers and by the tests of a window, and
every entry of a power state and every reset makes it afresh; that no block enters CRANK from PARKED takes the copies of
the power state. -/
theorem pulseKept : Obligations.PulseKept := by
  unfold Obligations.PulseKept
  exact fun _ _ ok powers stepped => step_keeps_blocks_powered PulseHeld.reads (fun k r s _ => owner_pulseHeld k r s)
    other_pulseHeld ok powers stepped

end Sys2Proof.Machine
end

section
/-! O11, the records: what keeps a gauge's angles within its scale and its fields in agreement with its state (R28, R30,
R33, R35 to R38). -/

namespace Sys2Proof.Machine

-- One theorem at a time, so that a build as one text needs few threads.
set_option Elab.async false

/-! ## Scale tables -/

/-- The interpolated value lies no higher than the higher of the two points. -/
theorem interpolate_le {v : Int} {p q : Int × Nat} {top : Nat} (after : p.1 ≤ v) (before : v < q.1) (first : p.2 ≤ top)
    (second : q.2 ≤ top) : (p.2 : Int) + (((q.2 : Int) - p.2) * (v - p.1)).tdiv (q.1 - p.1) ≤ top := by
  have span : 0 < q.1 - p.1 := by omega
  have small : ((q.2 : Int) - p.2) * (v - p.1) ≤ (q.1 - p.1) * ((top : Int) - p.2) := by
    have climb : ((q.2 : Int) - p.2) * (v - p.1) ≤ ((top : Int) - p.2) * (v - p.1) :=
      Int.mul_le_mul_of_nonneg_right (by omega) (by omega)
    have rest : ((top : Int) - p.2) * (v - p.1) ≤ ((top : Int) - p.2) * (q.1 - p.1) :=
      Int.mul_le_mul_of_nonneg_left (by omega) (by omega)
    calc _ ≤ _ := climb
      _ ≤ _ := rest
      _ = _ := Int.mul_comm _ _
  have quotient : (((q.2 : Int) - p.2) * (v - p.1)).tdiv (q.1 - p.1) ≤ (top : Int) - p.2 := by
    rw [← Int.mul_tdiv_cancel_left ((top : Int) - p.2) span.ne']
    exact Int.tdiv_le_tdiv span small
  omega

theorem lookupFrom_le {v : Int} {top : Nat} {p : Int × Nat} {rest : List (Int × Nat)} (rising : increasing (p :: rest) = true)
    (below : ∀ q ∈ p :: rest, q.2 ≤ top) : lookupFrom v p rest ≤ top := by
  induction rest generalizing p with
  | nil => exact below p (List.mem_singleton.mpr rfl)
  | cons q rest ih =>
    obtain ⟨step, tail⟩ := increasing_cons_cons.mp rising
    have first := below p (by simp)
    have second := below q (by simp)
    by_cases low : v ≤ p.1
    · rw [lookupFrom_of_le low]
      exact first
    · by_cases before : v < q.1
      · have between := lookupFrom_between (rest := rest) (p := p) (q := q) (v := v) (by omega) before
        have bound := interpolate_le (v := v) (p := p) (by omega) before first second
        omega
      · rw [lookupFrom_of_ge step (by omega)]
        exact ih tail fun r mem => below r (by simp [List.mem_cons.mp mem])

theorem tableLookup_le {cfg : GaugeConfig} (ok : GaugeConfigOk cfg) (v : Int) : tableLookup cfg.table v ≤ cfg.fullScale := by
  obtain ⟨-, -, -, -, -, -, -, rising, below, -⟩ := ok
  unfold tableLookup
  split
  · exact Nat.zero_le _
  · rename_i table
    rw [table] at rising below
    exact lookupFrom_le rising below

theorem Gdu.sourceAngle_le (d : Gdu) {g : Gauge} (ok : GaugeConfigOk g.cfg) : ∀ a ∈ d.sourceAngle g, a ≤ g.cfg.fullScale := by
  have table (v : Int) : ∀ a ∈ some (tableLookup g.cfg.table v), a ≤ g.cfg.fullScale := by
    rintro a ⟨⟩
    exact tableLookup_le ok v
  obtain ⟨-, -, -, -, -, -, -, -, -, argument⟩ := ok
  unfold Gdu.sourceAngle
  cases source : g.cfg.source
  case slot n =>
    intro a mem
    obtain ⟨v, -, rfl⟩ := Option.map_eq_some_iff.mp mem
    exact table v _ rfl
  case fixed arg =>
    rintro a ⟨⟩
    rw [source] at argument
    have within : arg ≤ 255 := by simpa [GaugeSource.argOk] using argument
    exact Nat.div_le_of_le_mul (by nlinarith)
  all_goals exact table _

/-! ## Gauges -/

namespace GaugeOk
variable {g : Gauge}

/-- A needle of known position that is called is in agreement, whatever phase it leaves, once what its source gives lies
within its scale (R29, R31). -/
theorem goCalled (d : Gdu) {a : Nat} (cfg : GaugeConfigOk g.cfg) (present : g.present = some a) (angle : a ≤ g.cfg.fullScale)
    (source : d.calledFor g.cfg.source ≠ .held → d.calledFor g.cfg.source ≠ .void →
      (d.sourceAngle g).getD g.target ≤ g.cfg.fullScale) (buffer : g.buffer.length ≤ g.cfg.damping) :
    GaugeOk (d.goCalled g) := by
  have known : ∀ b ∈ g.present, b ≤ g.cfg.fullScale := by
    rw [present]
    rintro b ⟨⟩
    exact angle
  unfold Gdu.goCalled
  dsimp only
  split
  · refine ⟨cfg, known, ?_, buffer, ?_, ?_, ?_, ?_, ?_, ?_⟩ <;> simp [present, angle]
  · refine ⟨cfg, known, ?_, buffer, ?_, ?_, ?_, ?_, ?_, ?_⟩ <;> simp [present]
  · rename_i held void
    refine ⟨cfg, known, source held void, buffer, ?_, ?_, ?_, ?_, ?_, ?_⟩ <;> simp [present]

theorem getD_sourceAngle_le (d : Gdu) (cfg : GaugeConfigOk g.cfg) (target : g.target ≤ g.cfg.fullScale) :
    (d.sourceAngle g).getD g.target ≤ g.cfg.fullScale := by
  have top := d.sourceAngle_le cfg
  cases found : d.sourceAngle g
  · exact target
  · exact top _ found

/-- A needle in a state that names its position has one. -/
theorem present_some (ok : GaugeOk g) (home : g.state ≠ .homing) (park : g.state ≠ .parking) :
    ∃ a, g.present = some a ∧ a ≤ g.cfg.fullScale := by
  obtain ⟨-, present, -, -, -, -, -, unknown, -, -⟩ := ok
  cases known : g.present
  case none =>
    rcases unknown known with state | state
    · exact absurd state home
    · exact absurd state park
  case some a => exact ⟨a, rfl, present a known⟩

theorem goCalled_of_known (ok : GaugeOk g) (d : Gdu) (known : g.present.isSome = true) : GaugeOk (d.goCalled g) := by
  obtain ⟨a, present⟩ := Option.isSome_iff_exists.mp known
  obtain ⟨cfg, angle, target, buffer, -⟩ := ok
  exact goCalled d cfg present (angle a present) (fun _ _ => getD_sourceAngle_le d cfg target) buffer

theorem recompute (ok : GaugeOk g) (d : Gdu) : GaugeOk (d.recompute g) := by
  unfold Gdu.recompute
  have called (home : g.state ≠ .homing) (park : g.state ≠ .parking) : GaugeOk (d.goCalled g) := by
    obtain ⟨a, present, -⟩ := ok.present_some home park
    exact ok.goCalled_of_known d (by rw [present]; rfl)
  cases state : g.state
  case tracking | held | void => exact called (by rw [state]; nofun) (by rw [state]; nofun)
  all_goals exact ok

theorem withBuffer (ok : GaugeOk g) {b : List Int} (short : b.length ≤ g.cfg.damping) : GaugeOk { g with buffer := b } := by
  obtain ⟨cfg, present, target, -, rest⟩ := ok
  exact ⟨cfg, present, target, short, rest⟩

theorem parked (ok : GaugeOk g) : GaugeOk { g with state := .parking, phase := none, homingLeft := none, target := 0 } := by
  obtain ⟨cfg, present, -, buffer, -⟩ := ok
  refine ⟨cfg, present, Nat.zero_le _, buffer, ?_, ?_, ?_, ?_, ?_, ?_⟩ <;> simp

theorem homing (ok : GaugeOk g) (unknown : g.present = none) (n : Nat) :
    GaugeOk { g with state := .homing, phase := none, homingLeft := some n, target := 0 } := by
  obtain ⟨cfg, present, -, buffer, -⟩ := ok
  refine ⟨cfg, present, Nat.zero_le _, buffer, ?_, ?_, ?_, ?_, ?_, ?_⟩ <;> simp [unknown]

theorem unknown {cfg : GaugeConfig} (ok : GaugeConfigOk cfg) : GaugeOk (Gauge.unknown cfg) := by
  refine ⟨ok, ?_, Nat.zero_le _, Nat.zero_le _, ?_, ?_, ?_, ?_, ?_, ?_⟩ <;> simp [Gauge.unknown]

/-- A needle that sweeps may turn or wait (R37). -/
theorem withPhase (ok : GaugeOk g) (sweeps : g.state = .sweep) (p : SweepPhase) {target : Nat}
    (within : target ≤ g.cfg.fullScale) : GaugeOk { g with phase := some p, target } := by
  obtain ⟨cfg, present, -, buffer, -, homing, home, unknown, rest, -⟩ := ok
  refine ⟨cfg, present, within, buffer, iff_of_true rfl sweeps, homing, home, unknown, rest, ?_⟩
  rintro (state | state | state | state) <;> exact absurd (sweeps.symm.trans state) nofun

theorem turnSweep (ok : GaugeOk g) : GaugeOk g.turnSweep := by
  have sweeps {p : SweepPhase} (phase : g.phase = some p) : g.state = .sweep := by
    obtain ⟨-, -, -, -, iff, -⟩ := ok
    exact iff.mp (by rw [phase]; rfl)
  unfold Gauge.turnSweep
  split_ifs with up down
  · exact ok.withPhase (sweeps up.1) .down (Nat.zero_le _)
  · exact ok.withPhase (sweeps down.1) .wait (Nat.zero_le _)
  · exact ok

theorem moved (ok : GaugeOk g) {a : Nat} (present : g.present = some a) (rest : g.state ≠ .rest) {b : Nat}
    (within : b ≤ g.cfg.fullScale) : GaugeOk { g with present := some b } := by
  obtain ⟨cfg, -, target, buffer, phase, homing, home, unknown, -, zero⟩ := ok
  refine ⟨cfg, ?_, target, buffer, phase, homing, fun state => ?_, nofun, fun state => absurd state rest, zero⟩
  · rintro c ⟨⟩
    exact within
  · exact absurd (present.symm.trans (home state)) nofun

theorem stepped (ok : GaugeOk g) {a : Nat} (present : g.present = some a) (rest : g.state ≠ .rest) :
    GaugeOk (g.stepped a) := by
  refine turnSweep (ok.moved present rest ?_)
  obtain ⟨-, angle, target, -⟩ := ok
  have here := angle a present
  unfold stepToward
  split_ifs <;> omega

theorem rested (ok : GaugeOk g) (park : g.state = .parking) (zero : g.present = some 0) : GaugeOk { g with state := .rest } := by
  obtain ⟨cfg, present, target, buffer, phase, homing, -, -, -, still⟩ := ok
  refine ⟨cfg, present, target, buffer, ?_, ?_, nofun, fun none => absurd (zero.symm.trans none) nofun, fun _ => zero,
    fun _ => still (.inr (.inr (.inr park)))⟩
  · exact iff_of_false (fun on => absurd (park.symm.trans (phase.mp on)) nofun) nofun
  · exact iff_of_false (fun on => absurd (park.symm.trans (homing.mp on)) nofun) nofun

/-- A sweep starts on a needle of known position (R37). -/
theorem sweeping (ok : GaugeOk g) (home : g.state ≠ .homing) (park : g.state ≠ .parking) :
    GaugeOk { g with state := .sweep, phase := some .up, target := g.cfg.fullScale } := by
  obtain ⟨a, known, -⟩ := ok.present_some home park
  obtain ⟨cfg, present, -, buffer, -, homing, -⟩ := ok
  refine ⟨cfg, present, le_rfl, buffer, iff_of_true rfl rfl, ?_, nofun, fun none => absurd (known.symm.trans none) nofun,
    nofun, ?_⟩
  · exact iff_of_false (fun on => home (homing.mp on)) nofun
  · rintro (state | state | state | state) <;> cases state

/-- The buffer a new configuration starts with gives the needle an angle wherever the source calls for TRACKING (R29,
R41). -/
theorem sourceAngle_of_called (d : Gdu) (g : Gauge) {cfg : GaugeConfig} (held : d.calledFor cfg.source ≠ .held)
    (void : d.calledFor cfg.source ≠ .void) :
    ∃ a, d.sourceAngle { g with cfg, buffer := d.firstBuffer cfg.source } = some a := by
  unfold Gdu.sourceAngle
  cases source : cfg.source
  case slot n =>
    have fresh : d.slots[n].state = .fresh := by
      rw [source] at held void
      unfold Gdu.calledFor at held void
      cases state : d.slots[n].state <;> simp_all
    have first : d.firstBuffer (.slot n) = [d.slots[n].value] := by
      unfold Gdu.firstBuffer
      dsimp only
      rw [fresh]
    dsimp only
    rw [first]
    exact ⟨_, rfl⟩
  all_goals exact ⟨_, rfl⟩

/-- An accepted configuration (R41). -/
theorem configured (ok : GaugeOk g) {cfg : GaugeConfig} (fields : GaugeConfigOk cfg) (accepted : g.refusesConfig cfg = false)
    (d : Gdu) : GaugeOk (d.recompute { g with cfg, buffer := d.firstBuffer cfg.source }) := by
  have short : (d.firstBuffer cfg.source).length ≤ cfg.damping := by
    have deep : 1 ≤ cfg.damping := by
      obtain ⟨-, -, -, -, depth, -⟩ := fields
      simp at depth
      omega
    have single : (d.firstBuffer cfg.source).length ≤ 1 := by
      unfold Gdu.firstBuffer
      split
      · split <;> simp
      · exact Nat.zero_le _
    omega
  have accepts : ¬ g.refusesConfig cfg = true := by rw [accepted]; nofun
  rw [refusesConfig_iff, not_or, not_or] at accepts
  obtain ⟨home, sweep, within⟩ := accepts
  have fits : ∀ a ∈ g.present, a ≤ cfg.fullScale := fun a known => by
    by_contra beyond
    exact within ⟨a, known, by omega⟩
  rw [Gdu.recompute_of_settled d { g with cfg, buffer := d.firstBuffer cfg.source } home sweep]
  split_ifs with still
  · obtain ⟨-, -, -, -, phase, homing, homed, unknown, rest, zero⟩ := ok
    have stands : g.target = 0 := zero (.inr (still.imp_right .inr))
    exact ⟨fields, fits, by rw [stands]; exact Nat.zero_le _, short, phase, homing, homed, unknown, rest, zero⟩
  · rw [not_or] at still
    obtain ⟨a, known, -⟩ := ok.present_some home still.2
    refine goCalled d fields known (fits a known) (fun held void => ?_) short
    have angle := d.sourceAngle_le (g := { g with cfg, buffer := d.firstBuffer cfg.source }) fields
    obtain ⟨b, given⟩ := sourceAngle_of_called d g held void
    rw [given] at angle ⊢
    exact angle b rfl

end GaugeOk

/-- The fields of an accepted SET GAUGE (R28, R41). -/
theorem gaugeFields_configOk {body : List Byte} {p : GaugeIx × GaugeConfig} (fields : gaugeFields body = some p) :
    GaugeConfigOk p.2 := by
  obtain ⟨-, source, ⟨-, low, high⟩, ⟨-, slow, fast⟩, ⟨damping, depth⟩, ⟨few, many⟩, table, rising, below⟩ :=
    gaugeFields_eq_some.mp fields
  have length : p.2.table.length = u8 body 8 := by rw [table, List.length_map, List.length_range]
  have argument : p.2.source.argOk = true := by
    unfold GaugeSource.ofCode at source
    split at source
    case h_5 =>
      obtain ⟨n, -, given⟩ := Option.map_eq_some_iff.mp source
      rw [← given]
      rfl
    case h_6 =>
      rw [← Option.some.inj source]
      have byte := u8_lt body 2
      simp [GaugeSource.argOk]
      omega
    case h_7 => cases source
    all_goals
      obtain ⟨-, given⟩ := Option.ite_none_right_eq_some.mp source
      rw [← Option.some.inj given]
      rfl
  refine ⟨low, high, slow, fast, damping ▸ depth, by omega, by omega, by rw [table]; exact rising, ?_, argument⟩
  rw [table]
  simpa using below

/-! ## The table of gauges -/

/-- A change of a gauge that leaves whether it parks or rests and whether it sweeps, with its phase. -/
structure Gauge.Follows (g h : Gauge) : Prop where
  ok : GaugeOk g → GaugeOk h
  still : (h.state = .rest ∨ h.state = .parking) ↔ (g.state = .rest ∨ g.state = .parking)
  sweep : h.state = .sweep ↔ g.state = .sweep
  phase : g.state = .sweep → h.phase = g.phase

namespace Gauge.Follows
variable {g h i : Gauge}

theorem refl (g : Gauge) : g.Follows g := ⟨id, Iff.rfl, Iff.rfl, fun _ => rfl⟩

theorem trans (a : g.Follows h) (b : h.Follows i) : g.Follows i where
  ok := b.ok ∘ a.ok
  still := b.still.trans a.still
  sweep := b.sweep.trans a.sweep
  phase := fun sweeps => (b.phase (a.sweep.mpr sweeps)).trans (a.phase sweeps)

theorem recompute (d : Gdu) (g : Gauge) : g.Follows (d.recompute g) := by
  have called (home : g.state ≠ .rest ∧ g.state ≠ .parking ∧ g.state ≠ .sweep) (same : d.recompute g = d.goCalled g) :
      g.Follows (d.recompute g) := by
    obtain ⟨rest, park, sweep⟩ := home
    obtain ⟨-, -, -, -, states⟩ := d.goCalled_keeps g
    refine ⟨fun ok => ok.recompute d, iff_of_false ?_ (not_or.mpr ⟨rest, park⟩), iff_of_false ?_ sweep,
      fun sweeps => absurd sweeps sweep⟩
    all_goals
      rw [same]
      rcases states with state | state | state <;> rw [state] <;> simp
  cases state : g.state
  case tracking => exact called (by simp [state]) (d.recompute_driven (.inl state))
  case held => exact called (by simp [state]) (d.recompute_driven (.inr (.inl state)))
  case void => exact called (by simp [state]) (d.recompute_driven (.inr (.inr state)))
  all_goals
    have same : d.recompute g = g := by rw [Gdu.recompute, state]
    rw [same]
    exact .refl g

theorem withBuffer {b : List Int} (short : g.buffer.length ≤ g.cfg.damping → 1 ≤ g.cfg.damping → b.length ≤ g.cfg.damping) :
    g.Follows { g with buffer := b } where
  ok := fun ok => by
    have kept := ok
    obtain ⟨⟨-, -, -, -, depth, -⟩, -, -, buffer, -⟩ := ok
    exact kept.withBuffer (short buffer (by simp at depth; omega))
  still := Iff.rfl
  sweep := Iff.rfl
  phase := fun _ => rfl

end Gauge.Follows

theorem GaugesOk.follows {d e : Gdu} (ok : GaugesOk d) (power : e.power = d.power) (parking : e.parking = d.parking)
    (gauges : ∀ g : GaugeIx, d.gauges[g].Follows e.gauges[g]) : GaugesOk e := by
  obtain ⟨each, parks, sweeps⟩ := ok
  refine ⟨fun g => ⟨(gauges g).ok (each g).1, ?_⟩, ?_, ?_⟩
  · rw [power, (gauges g).still]
    exact (each g).2
  · rw [power, parking]
    exact parks
  · rintro ⟨g, sweep⟩
    obtain ⟨all, h, goes⟩ := sweeps ⟨g, (gauges g).sweep.mp sweep⟩
    exact ⟨fun i => (gauges i).sweep.mpr (all i), h, by rw [(gauges h).phase (all h)]; exact goes⟩

/-- What changes each gauge alone. -/
theorem GaugesOk.mapped {d : Gdu} (ok : GaugesOk d) {f : Gauge → Gauge} (follows : ∀ g : Gauge, g.Follows (f g)) :
    GaugesOk { d with gauges := mapAll f d.gauges } :=
  GaugesOk.follows ok rfl rfl fun g => by
    show d.gauges[g].Follows (mapAll f d.gauges)[g]
    rw [mapAll_get]
    exact follows _

theorem GaugesOk.recomputeWhere {d : Gdu} (ok : GaugesOk d) (test : GaugeSource → Bool) : GaugesOk (d.recomputeWhere test) :=
  GaugesOk.mapped ok fun g => by
    split_ifs
    · exact .recompute d g
    · exact .refl g

theorem GaugesOk.withBuffers {d : Gdu} (ok : GaugesOk d) (n : SlotIx) {f : Gauge → List Int}
    (short : ∀ g : Gauge, g.buffer.length ≤ g.cfg.damping → 1 ≤ g.cfg.damping → (f g).length ≤ g.cfg.damping) :
    GaugesOk (d.withBuffers n f) := by
  have fed := GaugesOk.mapped ok (f := fun g => if g.cfg.source = .slot n then { g with buffer := f g } else g) fun g => by
    split_ifs
    · exact .withBuffer (short g)
    · exact .refl g
  have recomputed := GaugesOk.recomputeWhere fed fun src => src = .slot n
  exact recomputed

/-- The view and the slots play no part. -/
theorem GaugesOk.of_gauges {d e : Gdu} (ok : GaugesOk d) (power : e.power = d.power) (parking : e.parking = d.parking)
    (gauges : e.gauges = d.gauges) : GaugesOk e :=
  GaugesOk.follows ok power parking fun g => by rw [gauges]; exact .refl _

end Sys2Proof.Machine
end

section
/-! O11: every step keeps the gauges and the slots in agreement (R24, R28, R30, R33, R35 to R38). -/

namespace Sys2Proof.Machine

-- One theorem at a time, so that a build as one text needs few threads.
set_option Elab.async false

/-! ## Sweeps, parkings and changes of the power state -/

section
variable {d e : Gdu} (ok : GaugesOk d)
include ok

theorem GaugesOk.parkingEnds (ends : ParkingEnds d) (power : e.power = d.power) (parking : e.parking = false)
    (gauges : ∀ g : GaugeIx, e.gauges[g] = if d.gauges[g].present.isSome then { d.gauges[g] with state := .rest }
      else d.gauges[g]) : GaugesOk e := by
  obtain ⟨each, parks, -⟩ := ok
  obtain ⟨parking', zero⟩ := ends
  have parked : d.power = .parked := parks parking'
  have rests (g : GaugeIx) : GaugeOk e.gauges[g] ∧ (e.gauges[g].state = .rest ∨ e.gauges[g].state = .parking) := by
    obtain ⟨ok, stands⟩ := each g
    have state := stands.mp parked
    rw [gauges]
    split_ifs with known
    · have here : d.gauges[g].present = some 0 := (zero g).resolve_left (Option.isSome_iff_ne_none.mp known)
      rcases state with rest | park
      · have same : ({ d.gauges[g] with state := .rest } : Gauge) = d.gauges[g] := by rw [← rest]
        exact ⟨by rw [same]; exact ok, .inl rfl⟩
      · exact ⟨ok.rested park here, .inl rfl⟩
    · exact ⟨ok, state⟩
  refine ⟨fun g => ⟨(rests g).1, iff_of_true (power.trans parked) (rests g).2⟩, fun on => ?_, ?_⟩
  · exact absurd (parking.symm.trans on) nofun
  · rintro ⟨g, sweep⟩
    rcases (rests g).2 with held | held <;> exact absurd (held.symm.trans sweep) nofun

/-- While one needle stands still in no state of PARKED, the part is not in PARKED, and no parking is in progress (R38). -/
theorem GaugesOk.running {g : GaugeIx} (rest : d.gauges[g].state ≠ .rest) (park : d.gauges[g].state ≠ .parking) :
    d.power ≠ .parked := fun parked => by
  rcases (ok.1 g).2.mp parked with state | state
  · exact rest state
  · exact park state

/-- Outside PARKED no needle rests or parks (R35). -/
theorem GaugesOk.awake (running : d.power ≠ .parked) (g : GaugeIx) :
    d.gauges[g].state ≠ .rest ∧ d.gauges[g].state ≠ .parking :=
  not_or.mp fun still => running ((ok.1 g).2.mpr still)

end

/-- A table of gauges that neither rest nor park nor sweep is in agreement outside PARKED. -/
theorem GaugesOk.of_called {e : Gdu} (running : e.power ≠ .parked) (parking : e.parking = true → e.power = .parked)
    (gauges : ∀ g : GaugeIx, GaugeOk e.gauges[g] ∧ e.gauges[g].state ≠ .rest ∧ e.gauges[g].state ≠ .parking ∧
      e.gauges[g].state ≠ .sweep) : GaugesOk e := by
  refine ⟨fun g => ?_, parking, ?_⟩
  · obtain ⟨ok, rest, park, -⟩ := gauges g
    exact ⟨ok, iff_of_false running (not_or.mpr ⟨rest, park⟩)⟩
  · rintro ⟨g, sweep⟩
    exact absurd sweep (gauges g).2.2.2

theorem Gdu.goCalled_awake (d : Gdu) (x : Gauge) : (d.goCalled x).state ≠ .rest ∧ (d.goCalled x).state ≠ .parking ∧
    (d.goCalled x).state ≠ .sweep := by
  obtain ⟨-, -, -, -, states⟩ := d.goCalled_keeps x
  rcases states with state | state | state <;> rw [state] <;> decide

/-- The gauges and the slots of a state are in agreement. -/
def GaugesHeld (s : State) : Prop := GaugesOk s.gdu ∧ SlotsOk s.gdu

theorem GaugesHeld.reads : Reads [.gdu] GaugesHeld := fun _ _ same ok => by
  have gdu := same .gdu (by decide)
  rw [GaugesHeld, gdu]
  exact ok

/-- What gives the GDU the same slots and its gauges in agreement keeps both. -/
theorem Keeps.of_gauges {s t : State} (slots : t.gdu.slots = s.gdu.slots) (gauges : GaugesOk s.gdu → GaugesOk t.gdu) :
    Keeps GaugesHeld s t := fun ⟨ok, timers⟩ => ⟨gauges ok, by rw [SlotsOk, slots]; exact timers⟩

section
variable (s : State)

/-! ## What reaches the gauges -/

theorem viewed_gaugesHeld (v : Gdu → GaugeView) (test : Gdu → GaugeSource → Bool) :
    Keeps GaugesHeld s (s.modGdu fun d => Gdu.recomputeWhere (test d) { d with view := v d }) := by
  refine .of_gauges rfl fun ok => ?_
  have seen : GaugesOk { s.gdu with view := v s.gdu } := GaugesOk.of_gauges ok rfl rfl rfl
  exact GaugesOk.recomputeWhere seen (test s.gdu)

theorem gduChannel_gaugesHeld (ch : ChannelIx) (st : ChannelState) : Keeps GaugesHeld s (gduChannel ch st s) := by
  unfold gduChannel
  dsimp only
  exact viewed_gaugesHeld s _ _

theorem gduWindow_gaugesHeld (snap : Snapshot) : Keeps GaugesHeld s (gduWindow snap s) := by
  unfold gduWindow
  dsimp only
  exact viewed_gaugesHeld s _ _

theorem gduReport_gaugesHeld (n : SlotIx) : Keeps GaugesHeld s (gduReport n s) :=
  .of_gauges rfl fun ok => GaugesOk.withBuffers ok n fun g short deep => by
    unfold bufferPush
    split_ifs
    · rw [List.length_append]; simp; omega
    · rw [List.length_append, List.length_tail]; simp; omega

theorem gduSlotState_gaugesHeld (n : SlotIx) : Keeps GaugesHeld s (gduSlotState n s) :=
  .of_gauges rfl fun ok => GaugesOk.withBuffers ok n fun g short _ => by
    split_ifs
    · exact Nat.zero_le _
    · exact short

theorem gduRefuel_gaugesHeld : Keeps GaugesHeld s (gduRefuel s) := by
  unfold gduRefuel
  split
  · exact .of_gauges rfl fun ok => GaugesOk.withBuffers ok _ fun g _ _ => by rw [List.length_replicate]
  · exact .refl s

theorem testRefuel_gaugesHeld (amount : Nat) : Keeps GaugesHeld s (testRefuel amount s) := by
  have taken (u : State) (f : Tau → Tau) : Keeps GaugesHeld u (u.modTau f) := .of_only GaugesHeld.reads (modTau_only u f)
  have refuelled (before : Nat) : Keeps GaugesHeld s (refuel before amount s) :=
    (((Keeps.of_only GaugesHeld.reads (resetTrip_only s 2 .auto)).trans
      (.of_only GaugesHeld.reads (tripNotice_only _ _ _))).trans (.of_only GaugesHeld.reads (notify_only _ _))).trans
      (gduRefuel_gaugesHeld _)
  unfold testRefuel
  split
  · split_ifs
    · exact .refl s
    · exact (refuelled _).trans (taken _ _)
    · exact taken _ _
  · exact .refl s

theorem takeReport_gaugesHeld (n : SlotIx) (b : Block) : Keeps GaugesHeld s (takeReport n b s) := by
  cases b
  case gdu => exact gduReport_gaugesHeld s n
  case tau =>
    show Keeps GaugesHeld s (tauReport n s)
    unfold tauReport
    split_ifs
    · exact (testRefuel_gaugesHeld s _).trans (.of_only GaugesHeld.reads (recomputeRange_only _))
    · exact .refl s
  case wtb => exact .of_only GaugesHeld.reads (wtbSlot_only s n _ _)
  case clc => exact .of_only GaugesHeld.reads (clcSlot_only s n)
  all_goals exact .refl s

theorem takeSlotState_gaugesHeld (n : SlotIx) (b : Block) : Keeps GaugesHeld s (takeSlotState n b s) := by
  cases b
  case gdu => exact gduSlotState_gaugesHeld s n
  case tau =>
    show Keeps GaugesHeld s (tauSlotState n s)
    unfold tauSlotState
    split_ifs
    · exact .of_only GaugesHeld.reads (recomputeRange_only s)
    · exact .refl s
  case wtb => exact .of_only GaugesHeld.reads (wtbSlot_only s n _ _)
  case clc => exact .of_only GaugesHeld.reads (clcSlot_only s n)
  all_goals exact .refl s

/-- A slot whose timers follow its state (R24). -/
abbrev SlotOk (x : Slot) : Prop := (x.staleTimer.isSome = true ↔ x.state = .fresh) ∧ (x.lostTimer.isSome = true ↔ x.state = .stale)

theorem modSlot_gaugesHeld (n : SlotIx) (f : Slot → Slot) (timers : SlotOk s.gdu.slots[n] → SlotOk (f s.gdu.slots[n])) :
    Keeps GaugesHeld s (s.modSlot n f) := by
  rintro ⟨gauges, slots⟩
  refine ⟨GaugesOk.of_gauges gauges rfl rfl rfl, fun m => ?_⟩
  have slot : (s.modSlot n f).gdu.slots[m] = if n = m then f s.gdu.slots[n] else s.gdu.slots[m] := updAt_get _ _ _ _
  rw [slot]
  split_ifs
  · exact timers (slots n)
  · exact slots m

theorem reportSlot_gaugesHeld (n : SlotIx) (value : Int) : Keeps GaugesHeld s (reportSlot n value s) := by
  have fresh : Keeps GaugesHeld s (s.modSlot n (Slot.reported value)) :=
    modSlot_gaugesHeld s n _ fun _ => ⟨iff_of_true rfl rfl, iff_of_false nofun nofun⟩
  exact fresh.trans (.hand GaugesHeld.reads (fun b _ u => takeReport_gaugesHeld u n b) _)

theorem slotExpired_gaugesHeld (n : SlotIx) (f : Slot → Slot) (timers : SlotOk s.gdu.slots[n] → SlotOk (f s.gdu.slots[n])) :
    Keeps GaugesHeld s (slotExpired n f s) :=
  (modSlot_gaugesHeld s n f timers).trans (.hand GaugesHeld.reads (fun b _ u => takeSlotState_gaugesHeld u n b) _)

theorem changeChannel_gaugesHeld (ch : ChannelIx) (f : Channel → Channel) : Keeps GaugesHeld s (changeChannel ch f s) := by
  by_cases changed : (f s.pcu.channels[ch]).state = s.pcu.channels[ch].state
  · rw [changeChannel_of_same changed]
    exact .of_only GaugesHeld.reads (modChannel_only s ch f)
  · intro ok
    have taken := gduChannel_gaugesHeld s ch (f s.pcu.channels[ch]).state ok
    rw [GaugesHeld, changeChannel_gdu changed]
    exact taken

/-! ## Motion -/

theorem endParking_gaugesHeld : Keeps GaugesHeld s (endParking s) := by
  by_cases ends : ParkingEnds s.gdu
  · rw [endParking_of_ends s ends]
    refine Keeps.trans (t := s.modGdu fun d => { d with
      parking := false
      gauges := mapAll (fun g => if g.present.isSome then { g with state := .rest } else g) d.gauges })
      (.of_gauges rfl fun ok => ?_) (.of_only GaugesHeld.reads (notify_only _ _))
    exact GaugesOk.parkingEnds ok ends rfl rfl fun g => mapAll_get _ _ _
  · rw [endParking_of_not_ends s ends]
    exact .refl s

theorem Gdu.not_rest_of_drives {d : Gdu} {x : Gauge} (driven : d.drives x = true) : x.state ≠ .rest := by
  intro rest
  simp [Gdu.drives, rest] at driven

/-- A table of gauges in agreement but for the end of a sweep (R37). -/
structure Gdu.MaySweep (d : Gdu) : Prop where
  each : ∀ g : GaugeIx, GaugeOk d.gauges[g] ∧ (d.power = .parked ↔ d.gauges[g].state = .rest ∨ d.gauges[g].state = .parking)
  parks : d.parking = true → d.power = .parked
  sweeps : (∃ g : GaugeIx, d.gauges[g].state = .sweep) → ∀ g : GaugeIx, d.gauges[g].state = .sweep

theorem endSweep_gauges (may : s.gdu.MaySweep) : GaugesOk (endSweep s).gdu := by
  obtain ⟨each, parks, sweeps⟩ := may
  by_cases ends : SweepEnds s.gdu
  · obtain ⟨some, waits⟩ := ends
    have all := sweeps some
    rw [endSweep_of_ends s ⟨some, waits⟩]
    have running : s.gdu.power ≠ .parked := fun parked => by
      rcases (each 0).2.mp parked with state | state <;> exact absurd ((all 0).symm.trans state) nofun
    refine GaugesOk.of_called running parks fun g => ?_
    have gauge : ((s.modGdu fun d =>
        { d with gauges := mapAll (fun g => if g.state = .sweep then d.goCalled g else g) d.gauges }).notify
          (.gauge .swept)).gdu.gauges[g] = s.gdu.goCalled s.gdu.gauges[g] :=
      (mapAll_get _ _ g).trans (if_pos (all g))
    rw [gauge]
    obtain ⟨a, known, -⟩ := (each g).1.present_some (by rw [all g]; nofun) (by rw [all g]; nofun)
    exact ⟨(each g).1.goCalled_of_known s.gdu (by rw [known]; rfl), s.gdu.goCalled_awake _⟩
  · rw [endSweep_of_not_ends s ends]
    refine ⟨each, parks, fun some => ⟨sweeps some, ?_⟩⟩
    by_contra none
    refine ends ⟨some, fun g _ => ?_⟩
    by_contra goes
    exact none ⟨g, goes⟩

theorem endSweep_gaugesHeld_of (may : s.gdu.MaySweep) (slots : SlotsOk s.gdu) : GaugesHeld (endSweep s) :=
  ⟨endSweep_gauges s may, by rw [SlotsOk, endSweep_slots]; exact slots⟩

/-- The step of a driven needle keeps the table in agreement but for the end of a sweep. -/
theorem moved_maySweep {g : GaugeIx} {a : Nat} (ok : GaugesOk s.gdu) (known : s.gdu.gauges[g].present = some a)
    (driven : s.gdu.gauges[g].state ≠ .rest) : (moved g a s).gdu.MaySweep := by
  obtain ⟨each, parks, sweeps⟩ := ok
  have state (h : GaugeIx) : (moved g a s).gdu.gauges[h].state = s.gdu.gauges[h].state := by
    rw [moved_gauge]
    split_ifs with same
    · rw [same, stepped_state]
    · rfl
  refine ⟨fun h => ⟨?_, ?_⟩, parks, ?_⟩
  · rw [moved_gauge]
    split_ifs
    · exact (each g).1.stepped known driven
    · exact (each h).1
  · rw [state]
    exact (each h).2
  · rintro ⟨h, sweep⟩ i
    rw [state] at sweep ⊢
    exact (sweeps ⟨h, sweep⟩).1 i

theorem needleStep_gaugesHeld (g : GaugeIx) : Keeps GaugesHeld s (needleStep g s) := by
  unfold needleStep
  dsimp only
  split
  · rename_i a known
    split_ifs with driven
    · rintro ⟨ok, slots⟩
      have swept := endSweep_gaugesHeld_of (moved g a s)
        (moved_maySweep s ok known (Gdu.not_rest_of_drives driven.1)) slots
      exact endParking_gaugesHeld _ swept
    · exact .refl s
  · exact .refl s

theorem homingEnd_gaugesHeld (g : GaugeIx) : Keeps GaugesHeld s (homingEnd g s) := by
  by_cases homing : s.gdu.gauges[g].state = .homing ∧ s.gdu.power ≠ .crank
  · refine .of_gauges (homingEnd_slots s g) fun ok => ?_
    rw [homingEnd_gdu homing.1 homing.2]
    have running : s.gdu.power ≠ .parked := GaugesOk.running ok (g := g) (by rw [homing.1]; nofun) (by rw [homing.1]; nofun)
    refine GaugesOk.of_called (e := (homed g s).gdu) running ok.2.1 fun h => ?_
    have gauge : (homed g s).gdu.gauges[h] = if g = h then s.gdu.goCalled { s.gdu.gauges[g] with present := some 0 }
        else s.gdu.gauges[h] := updAt_get _ _ _ _
    rw [gauge]
    split_ifs
    · obtain ⟨⟨cfg, -, target, buffer, -⟩, -⟩ := ok.1 g
      refine ⟨GaugeOk.goCalled s.gdu cfg rfl (Nat.zero_le _) (fun _ _ => GaugeOk.getD_sourceAngle_le _ cfg target) buffer,
        s.gdu.goCalled_awake _⟩
    · obtain ⟨rest, park⟩ := GaugesOk.awake ok running h
      exact ⟨(ok.1 h).1, rest, park, GaugesOk.no_sweep ok (g := g) (by rw [homing.1]; nofun) h⟩
  · have same : homingEnd g s = s := if_neg homing
    rw [same]
    exact .refl s

/-- Every needle begins a sweep (R37). -/
theorem GaugesOk.sweepStarts {d e : Gdu} (ok : GaugesOk d) (running : d.power ≠ .parked)
    (home : ∀ g : GaugeIx, d.gauges[g].state ≠ .homing) (power : e.power = d.power) (parking : e.parking = d.parking)
    (gauges : ∀ g : GaugeIx, e.gauges[g] = Gauge.turnSweep { d.gauges[g] with
      state := .sweep, phase := some .up, target := d.gauges[g].cfg.fullScale }) : GaugesOk e := by
  have sweeps (g : GaugeIx) : e.gauges[g].state = .sweep := by
    rw [gauges]
    exact (Gauge.turnSweep_keeps _).2.2.2
  refine ⟨fun g => ⟨?_, ?_⟩, ?_, fun _ => ⟨sweeps, (0 : GaugeIx), ?_⟩⟩
  · rw [gauges]
    exact ((ok.1 g).1.sweeping (home g) (GaugesOk.awake ok running g).2).turnSweep
  · rw [sweeps g, power]
    exact iff_of_false running (by decide)
  · rw [power, parking]
    exact ok.2.1
  · rw [gauges, sweepStart_eq]
    split_ifs <;> nofun

theorem startSweep_gaugesHeld (run : s.gdu.power = .run) (home : ∀ g : GaugeIx, s.gdu.gauges[g].state ≠ .homing) :
    Keeps GaugesHeld s (startSweep s) :=
  .of_gauges rfl fun ok => GaugesOk.sweepStarts ok (by rw [run]; nofun) home rfl rfl fun g => mapAll_get
    (fun x : Gauge => Gauge.turnSweep { x with state := .sweep, phase := some .up, target := x.cfg.fullScale }) _ g

/-! ## Changes of the power state -/

theorem gduRunEntry_gaugesHeld : Keeps GaugesHeld s (gduRunEntry s) := by
  refine .of_gauges rfl fun ok => GaugesOk.of_called (e := (gduRunEntry s).gdu) nofun nofun fun g => ?_
  have gauge : (gduRunEntry s).gdu.gauges[g] = s.gdu.runGauge s.gdu.gauges[g] := mapAll_get _ _ _
  rw [gauge, Gdu.runGauge]
  split_ifs with known
  · exact ⟨(ok.1 g).1.goCalled_of_known _ known, s.gdu.goCalled_awake _⟩
  · exact ⟨(ok.1 g).1.homing (Option.not_isSome_iff_eq_none.mp known) _, nofun, nofun, nofun⟩

theorem gduParkedEntry_gaugesHeld : Keeps GaugesHeld s (gduParkedEntry s) := by
  have parked : Keeps GaugesHeld s (s.modGdu fun d => { d with
      power := .parked
      parking := true
      gauges := mapAll (fun g => { g with state := .parking, phase := none, homingLeft := none, target := 0 }) d.gauges
      view := { d.view with
        roadSource := .ch0
        roadSpeed := if d.view.roadSource = .ch0 then d.view.roadSpeed else 0 } }) := by
    refine .of_gauges rfl fun ok => ?_
    have gauge (g : GaugeIx) : (mapAll (fun g : Gauge => { g with
        state := .parking, phase := none, homingLeft := none, target := 0 }) s.gdu.gauges)[g] =
        { s.gdu.gauges[g] with state := .parking, phase := none, homingLeft := none, target := 0 } := mapAll_get _ _ _
    refine ⟨fun g => ⟨?_, iff_of_true rfl (.inr ?_)⟩, fun _ => rfl, ?_⟩
    · exact (gauge g).symm ▸ (ok.1 g).1.parked
    · exact (congrArg Gauge.state (gauge g) :)
    · rintro ⟨g, sweep⟩
      have state : NeedleState.parking = .sweep := (congrArg Gauge.state (gauge g)).symm.trans sweep
      cases state
  exact parked.trans (endParking_gaugesHeld _)

theorem gduCrank_gaugesHeld {p : PowerState} (runs : p ≠ .parked) (on : s.gdu.power ≠ .parked) :
    Keeps GaugesHeld s (gduCrank p s) := by
  refine .of_gauges rfl fun ok => ?_
  refine ⟨fun g => ⟨(ok.1 g).1, iff_of_false runs (not_or.mpr (GaugesOk.awake ok on g))⟩, fun parking => ?_, ok.2.2⟩
  exact absurd (ok.2.1 parking) on

theorem resetAll_gaugesHeld (cause : ResetCause) (armed : Bool) (lines : InputLines) :
    Keeps GaugesHeld s (resetAll cause armed lines s) := by
  have reset : GaugesOk s.gdu → GaugesOk s.gdu.reset ∧ SlotsOk s.gdu.reset := by
    intro ok
    have gauge (g : GaugeIx) : s.gdu.reset.gauges[g] = Gauge.unknown s.gdu.gauges[g].cfg := mapAll_get _ _ _
    have slot (n : SlotIx) : s.gdu.reset.slots[n] = s.gdu.slots[n].reset := mapAll_get _ _ _
    refine ⟨⟨fun g => ?_, nofun, ?_⟩, fun n => ?_⟩
    · rw [gauge]
      exact ⟨.unknown (ok.1 g).1.1, iff_of_true rfl (.inr rfl)⟩
    · rintro ⟨g, sweep⟩
      rw [gauge] at sweep
      cases sweep
    · rw [slot]
      exact ⟨iff_of_false nofun nofun, iff_of_false nofun nofun⟩
  have gdu : (resetAll cause armed lines s).gdu = s.gdu.reset := rfl
  intro ok
  rw [GaugesHeld, gdu]
  exact reset ok.1

theorem takeRunEntry_gaugesHeld (b : Block) : Keeps GaugesHeld s (takeRunEntry b s) := by
  cases b
  case pcu =>
    exact .pcuRunEntry GaugesHeld.reads (by decide) (fun ch f u => changeChannel_gaugesHeld u ch f)
      (fun b u => .of_only GaugesHeld.reads (setDisagree_only u b)) s
  case gdu => exact gduRunEntry_gaugesHeld s
  all_goals exact .of_only GaugesHeld.reads (takeRunEntry_parts s _)

theorem takeParkedEntry_gaugesHeld (b : Block) : Keeps GaugesHeld s (takeParkedEntry b s) := by
  cases b
  case pcu =>
    exact .pcuParkedEntry GaugesHeld.reads (by decide) (fun ch f u => changeChannel_gaugesHeld u ch f)
      (fun b u => .of_only GaugesHeld.reads (setDisagree_only u b)) s
  case gdu => exact gduParkedEntry_gaugesHeld s
  all_goals exact .of_only GaugesHeld.reads (takeParkedEntry_parts s _)

theorem takeCrank_gaugesHeld {p : PowerState} (b : Block) (runs : p ≠ .parked) (on : s.powers.of b ≠ .parked) :
    Keeps GaugesHeld s (takeCrank p b s) := by
  cases b
  case pcu => exact .of_only GaugesHeld.reads (modPcu_only s _)
  case gdu => exact gduCrank_gaugesHeld s runs on
  all_goals exact .of_only GaugesHeld.reads (takeCrank_parts s _ _)

theorem supplied_gaugesHeld (lines : InputLines) : GaugesHeld (State.supplied lines s.inputs s.free s.pending) := by
  have ok : GaugesOk Gdu.supply ∧ SlotsOk Gdu.supply := by decide +kernel
  exact ok

/-! ## Requests -/

theorem setChannel_gaugesHeld (p : ChannelIx × ChannelConfig) : Keeps GaugesHeld s (setChannel p s).1 := by
  have loaded : Keeps GaugesHeld s (s.modInputs (Inputs.loadPulse p.1)) := .of_only GaugesHeld.reads (modInputs_only s _)
  have changed := loaded.trans (changeChannel_gaugesHeld _ p.1 fun _ => Channel.restarted p.2)
  unfold setChannel emptyAnswer
  dsimp only
  split_ifs
  · exact loaded.trans (.of_only GaugesHeld.reads (modChannel_only _ _ _))
  · exact changed.trans (.of_only GaugesHeld.reads (modPcu_only _ _))
  · exact changed

/-- A gauge after an accepted SET GAUGE (R41). -/
def Gdu.reconfigured (d : Gdu) (cfg : GaugeConfig) (g : Gauge) : Gauge :=
  d.recompute { g with cfg, buffer := d.firstBuffer cfg.source }

theorem setGauge_gaugesHeld {body : List Byte} {p : GaugeIx × GaugeConfig} (fields : gaugeFields body = some p) :
    Keeps GaugesHeld s (setGauge p s).1 := by
  unfold setGauge emptyAnswer
  split_ifs with refuses
  · exact .refl s
  · refine .of_gauges rfl fun ok => ?_
    have accepts : s.gdu.gauges[p.1].refusesConfig p.2 = false := by simpa using refuses
    refine GaugesOk.follows (e := { s.gdu with
      gauges := updAt s.gdu.gauges p.1 (s.gdu.reconfigured p.2) }) ok rfl rfl fun g => ?_
    show Gauge.Follows _ (updAt s.gdu.gauges p.1 (s.gdu.reconfigured p.2))[g]
    rw [updAt_get]
    split_ifs with same
    · subst same
      obtain ⟨-, still, sweep, phase⟩ := Gauge.Follows.recompute s.gdu { s.gdu.gauges[p.1] with
        cfg := p.2, buffer := s.gdu.firstBuffer p.2.source }
      exact ⟨fun held => held.configured (gaugeFields_configOk fields) accepts s.gdu, still, sweep, phase⟩
    · exact .refl _

theorem sweepGauges_gaugesHeld (r : Request) : Keeps GaugesHeld s (ownSweepGauges r s).1 := by
  unfold ownSweepGauges emptyAnswer
  split_ifs with refuses
  · exact .refl s
  · exact .refl s
  · rw [not_or, Gdu.anyIn_iff] at refuses
    obtain ⟨run, home⟩ := refuses
    exact startSweep_gaugesHeld s (not_not.mp run) fun g state => home ⟨g, state⟩

end

theorem owner_gaugesHeld (k : ReqKind) (r : Request) (s : State) : Keeps GaugesHeld s (k.owner r s).1 := by
  cases k
  case setChannel => exact .ranged fun p _ => setChannel_gaugesHeld s p
  case sensorReport =>
    exact .ranged fun pairs _ => .foldl (fun u (p : SlotIx × Int) => reportSlot_gaugesHeld u p.1 p.2) pairs s
  case setSlot => exact .ranged fun p _ => modSlot_gaugesHeld s p.1 _ id
  case setGauge => exact .ranged fun p fields => setGauge_gaugesHeld s fields
  case sweepGauges => exact sweepGauges_gaugesHeld s r
  all_goals exact .of_only GaugesHeld.reads (owner_only _ r s)

theorem entry_gaugesHeld : KeepsEntry GaugesHeld :=
  .of_reads GaugesHeld.reads (by decide) (fun b s => takeRunEntry_gaugesHeld s b) (fun b s => takeParkedEntry_gaugesHeld s b)
    (fun _ b s => takeCrank_gaugesHeld s b) (fun s => .of_only GaugesHeld.reads (coachReset_only s))
    (fun test s => .of_only GaugesHeld.reads (ByProducts.evaluateWhere test s).only)
    (fun cause armed lines s => resetAll_gaugesHeld s cause armed lines) fun lines s => supplied_gaugesHeld s lines

theorem pulseEdge_gaugesHeld (ch : ChannelIx) (at10us : Nat) (s : State) : Keeps GaugesHeld s (pulseEdge ch at10us s) := by
  unfold pulseEdge
  split_ifs
  · exact .refl s
  · exact (changeChannel_gaugesHeld s ch _).trans (.of_only GaugesHeld.reads (dividerEdge_only _ ch))

theorem windowExpiry_gaugesHeld (at10us : Nat) (s : State) : Keeps GaugesHeld s (windowExpiry at10us s) := by
  refine .windowExpiry GaugesHeld.reads (by decide) (fun ch f u => changeChannel_gaugesHeld u ch f)
    (fun u => .of_only GaugesHeld.reads (disagreeTest_only u)) (fun road b u => ?_) (fun snap b u => ?_) at10us s
  · cases b <;> exact .of_only GaugesHeld.reads (takeRoadLive_parts u _ _)
  · cases b
    case gdu => exact gduWindow_gaugesHeld u snap
    all_goals exact .of_only GaugesHeld.reads (takeWindow_parts u _ _)

theorem other_gaugesHeld (c : Instr) (s : State) (powers : PowerCopiesOk s) : Keeps GaugesHeld s (otherEffect c s) := by
  by_cases power : isPowerCommand c = true
  · exact entry_gaugesHeld.effect power powers
  · cases c
    case pulseEdge ch at10us => exact pulseEdge_gaugesHeld ch at10us s
    case stallExpiry ch =>
      show Keeps GaugesHeld s (stallExpiry ch s)
      unfold stallExpiry
      split_ifs
      · exact changeChannel_gaugesHeld s ch _
      · exact .refl s
    case windowExpiry at10us => exact windowExpiry_gaugesHeld at10us s
    case slotStaleExpiry n =>
      show Keeps GaugesHeld s (slotStaleExpiry n s)
      unfold slotStaleExpiry
      split_ifs
      · exact slotExpired_gaugesHeld s n _ fun _ => ⟨iff_of_false nofun nofun, iff_of_true rfl rfl⟩
      · exact .refl s
    case slotLostExpiry n =>
      show Keeps GaugesHeld s (slotLostExpiry n s)
      unfold slotLostExpiry
      split_ifs with stale
      · refine slotExpired_gaugesHeld s n _ fun ok => ⟨iff_of_false (fun fresh => ?_) nofun, iff_of_false nofun nofun⟩
        exact absurd (stale.1.symm.trans (ok.1.mp fresh)) nofun
      · exact .refl s
    case needleStep g => exact needleStep_gaugesHeld s g
    case homingEnd g => exact homingEnd_gaugesHeld s g
    all_goals first
      | exact absurd rfl power
      | exact .of_only GaugesHeld.reads (otherEffect_only _ s) (by simp [otherParts])

/-- Settles O11: the invariant is kept by every value that reaches a gauge, by every step of a needle and by every change
of the power state; that no block enters CRANK from PARKED takes the copies of the power state. -/
theorem gaugesKept : Obligations.GaugesKept := by
  unfold Obligations.GaugesKept
  exact fun _ _ gauges slots powers stepped => step_keeps_blocks_powered GaugesHeld.reads
    (fun k r s _ => owner_gaugesHeld k r s) other_gaugesHeld ⟨gauges, slots⟩ powers stepped

end Sys2Proof.Machine
end

section
/-! What the measuring blocks do to the others: every operation of the PCU, the GDU, the TAU, the CLK and the SVS is a row of
moves, each of which changes those blocks alone or hands the WTB, the CHS, the CLC or the LKP one thing (R5, R15, R16,
R25, R43, R57, R72, R132). A property that every move keeps is kept by all of them. -/

namespace Sys2Proof.Machine

-- One theorem at a time, so that a build as one text needs few threads.
set_option Elab.async false

/-! ## Moves -/

/-- What the WTB takes leaves every entry that it does not evaluate its condition, and the power state. -/
structure Wtb.Covers (t : Wtb) (f : WarnView → WarnView) (test : EntryConfig → Bool) : Prop where
  power : (f t.view).power = t.view.power
  source : ∀ e : Entry, test e.cfg = false → ({ t with view := f t.view } : Wtb).sourceCondition e = t.sourceCondition e
  gates : ∀ e : Entry, test e.cfg = false → ({ t with view := f t.view } : Wtb).gateTrue e.cfg.gate1 = t.gateTrue e.cfg.gate1 ∧
    ({ t with view := f t.view } : Wtb).gateTrue e.cfg.gate2 = t.gateTrue e.cfg.gate2

/-- One move of a measuring block. -/
inductive HandMove : State → State → Prop
  | elsewhere {ps : List Part} {s t : State} (only : OnlyChanges ps s t)
      (apart : ∀ p ∈ ps, p ∉ [Part.wtb, .chs, .clc, .lkp]) : HandMove s t
  | mark (i : MirrorItem) (s : State) : HandMove s (Machine.mark i s)
  | notify (n : Notice) (s : State) : HandMove s (s.notify n)
  | warn (f : WarnView → WarnView) (test : EntryConfig → Bool) (s : State) (covers : s.wtb.Covers f test) :
      HandMove s (wtbTake f test s)
  | arrival (s : State) : HandMove s (wtbArrival s)
  | alarm (a : AlarmIx) (al : Alarm) (s : State) : HandMove s (takeChime (alarmRequest s.chs a al) s).1
  | alarmGone (a : AlarmIx) (s : State) : HandMove s (removeChime (.alarm a) s)
  | flags (odometer clock : Bool) (s : State) :
      HandMove s (s.modLkp fun l => { l with odometerInvalid := odometer, clockUnset := clock })
  | coach (live : Bool) (speed : Nat) (s : State) :
      HandMove s (s.modClc fun c => { c with roadLive := live, roadSpeed := speed })

/-- A row of such moves. -/
def Handed : State → State → Prop := Relation.ReflTransGen HandMove

namespace Handed
variable {s t u : State}

theorem refl (s : State) : Handed s s := Relation.ReflTransGen.refl

theorem trans (h : Handed s t) (k : Handed t u) : Handed s u := Relation.ReflTransGen.trans h k

theorem move (h : HandMove s t) : Handed s t := Relation.ReflTransGen.single h

theorem of_only {ps : List Part} (only : OnlyChanges ps s t)
    (apart : ∀ p ∈ ps, p ∉ [Part.wtb, .chs, .clc, .lkp] := by decide) : Handed s t := move (.elsewhere only apart)

/-- A property that every move keeps is kept by a row of them. -/
theorem keeps {P : State → Prop} (each : ∀ {s t}, HandMove s t → Keeps P s t) (h : Handed s t) : Keeps P s t := by
  intro ok
  induction h with
  | refl => exact ok
  | tail _ moved held => exact each moved held

theorem foldl {α : Type} {f : State → α → State} (h : ∀ s a, Handed s (f s a)) (l : List α) (s : State) :
    Handed s (l.foldl f s) :=
  List.foldlRecOn (motive := fun t => Handed s t) _ _ (refl s) fun t walked a _ => walked.trans (h t a)

theorem eachIx {n : Nat} {f : Fin n → State → State} (h : ∀ i s, Handed s (f i s)) (s : State) :
    Handed s (Machine.eachIx n f s) := foldl (fun s i => h i s) _ s

theorem hand {targets : List Block} {take : Block → State → State} (h : ∀ b s, Handed s (take b s)) (s : State) :
    Handed s (Machine.hand targets take s) := trans (of_only (modFree_only s _)) (foldl (fun s b => h b s) _ _)

theorem ranged {α : Type} {fields : Option α} {f : α → State → State × Response} (h : ∀ a, Handed s (f a s).1) :
    Handed s (Machine.ranged fields f s).1 := by
  unfold Machine.ranged
  split
  · exact h _
  · exact refl s

end Handed

/-! ## What the WTB takes -/

section
variable (s : State)

theorem covers_of_view {t : Wtb} {f : WarnView → WarnView} {test : EntryConfig → Bool} (power : (f t.view).power = t.view.power)
    (engine : (f t.view).engineRunning = t.view.engineRunning) (road : (f t.view).roadLive = t.view.roadLive)
    (source : ∀ e : Entry, test e.cfg = false →
      ({ t with view := f t.view } : Wtb).sourceCondition e = t.sourceCondition e) : t.Covers f test where
  power := power
  source := source
  gates := fun e _ => by
    have gate (g : Gate) : ({ t with view := f t.view } : Wtb).gateTrue g = t.gateTrue g := by
      cases g
      case run => exact congrArg (fun p => decide (p ≠ PowerState.parked)) power
      case engine => exact engine
      case moving => exact road
      case still => exact congrArg (fun b => !b) road
      all_goals rfl
    exact ⟨gate _, gate _⟩

theorem wtbDisagree_covers (b : Bool) : s.wtb.Covers (fun x => { x with disagree := b })
    (fun c => c.source = .speedDisagree) := by
  refine covers_of_view rfl rfl rfl fun e untested => ?_
  have other : e.cfg.source ≠ .speedDisagree := of_decide_eq_false untested
  unfold Wtb.sourceCondition
  cases source : e.cfg.source
  case speedDisagree => exact absurd source other
  all_goals rfl

theorem wtbDisagree_handed (b : Bool) : Handed s (wtbDisagree b s) :=
  .move (.warn _ _ s (wtbDisagree_covers s b))

theorem wtbImplausible_covers (b : Bool) : s.wtb.Covers (fun x => { x with implausible := b })
    (fun c => c.source = .fuelImplausible) := by
  refine covers_of_view rfl rfl rfl fun e untested => ?_
  have other : e.cfg.source ≠ .fuelImplausible := of_decide_eq_false untested
  unfold Wtb.sourceCondition
  cases source : e.cfg.source
  case fuelImplausible => exact absurd source other
  all_goals rfl

theorem wtbImplausible_handed (b : Bool) : Handed s (wtbImplausible b s) :=
  .move (.warn _ _ s (wtbImplausible_covers s b))

theorem wtbOdometer_covers (o : OdometerState) : s.wtb.Covers (fun x => { x with odometer := o })
    (fun c => c.source = .odometerInvalid) := by
  refine covers_of_view rfl rfl rfl fun e untested => ?_
  have other : e.cfg.source ≠ .odometerInvalid := of_decide_eq_false untested
  unfold Wtb.sourceCondition
  cases source : e.cfg.source
  case odometerInvalid => exact absurd source other
  all_goals rfl

theorem wtbOdometer_handed (o : OdometerState) : Handed s (wtbOdometer o s) :=
  .move (.warn _ _ s (wtbOdometer_covers s o))

theorem wtbClock_covers (c : ClockState) : s.wtb.Covers (fun x => { x with clock := c })
    (fun c => c.source = .clockUnset) := by
  refine covers_of_view rfl rfl rfl fun e untested => ?_
  have other : e.cfg.source ≠ .clockUnset := of_decide_eq_false untested
  unfold Wtb.sourceCondition
  cases source : e.cfg.source
  case clockUnset => exact absurd source other
  all_goals rfl

theorem wtbClock_handed (c : ClockState) : Handed s (wtbClock c s) :=
  .move (.warn _ _ s (wtbClock_covers s c))

theorem wtbLine_covers (st : LineState) : s.wtb.Covers (fun x => { x with line := st })
    (fun c => c.source = .lineFault) := by
  refine covers_of_view rfl rfl rfl fun e untested => ?_
  have other : e.cfg.source ≠ .lineFault := of_decide_eq_false untested
  unfold Wtb.sourceCondition
  cases source : e.cfg.source
  case lineFault => exact absurd source other
  all_goals rfl

theorem wtbLine_handed (st : LineState) : Handed s (wtbLine st s) :=
  .move (.warn _ _ s (wtbLine_covers s st))

theorem wtbItem_covers (i : ItemIx) (st : ItemState) : s.wtb.Covers (fun x => { x with items := x.items.set i st })
    (fun c => c.source = .service i) := by
  refine covers_of_view rfl rfl rfl fun e untested => ?_
  have other : e.cfg.source ≠ (.service i) := of_decide_eq_false untested
  unfold Wtb.sourceCondition
  cases source : e.cfg.source
  case service j =>
    have apart : i ≠ j := fun same => other (by rw [source, same])
    dsimp only
    rw [set_get, if_neg apart]
  all_goals rfl

theorem wtbItem_handed (i : ItemIx) (st : ItemState) : Handed s (wtbItem i st s) :=
  .move (.warn _ _ s (wtbItem_covers s i st))

theorem wtbNode_covers (n : NodeIx) (st : NodeState) : s.wtb.Covers (fun x => { x with nodes := x.nodes.set n st })
    (fun c => c.source = .nodeLost n) := by
  refine covers_of_view rfl rfl rfl fun e untested => ?_
  have other : e.cfg.source ≠ (.nodeLost n) := of_decide_eq_false untested
  unfold Wtb.sourceCondition
  cases source : e.cfg.source
  case nodeLost j =>
    have apart : n ≠ j := fun same => other (by rw [source, same])
    dsimp only
    rw [set_get, if_neg apart]
  all_goals rfl

theorem wtbNode_handed (n : NodeIx) (st : NodeState) : Handed s (wtbNode n st s) :=
  .move (.warn _ _ s (wtbNode_covers s n st))

/-- A change of the values alone leaves the condition of an entry that names none of those that changed. -/
theorem sourceCondition_of_values {t : Wtb} {v : WarnView} {e : Entry}
    (values : ∀ x, e.cfg.source.readsValue x = true → ({ t with view := v } : Wtb).valueOf x = t.valueOf x)
    (channels : ∀ ch, e.cfg.source = .channelFault ch → v.channels[ch] = t.view.channels[ch])
    (slots : ∀ n, e.cfg.source = .slotStale n → v.slotStates[n] = t.view.slotStates[n])
    (others : v.disagree = t.view.disagree ∧ v.implausible = t.view.implausible ∧ v.items = t.view.items ∧
      v.nodes = t.view.nodes ∧ v.line = t.view.line ∧ v.odometer = t.view.odometer ∧ v.clock = t.view.clock) :
    ({ t with view := v } : Wtb).sourceCondition e = t.sourceCondition e := by
  obtain ⟨disagree, implausible, items, nodes, line, odometer, clock⟩ := others
  unfold Wtb.sourceCondition
  cases source : e.cfg.source
  case valueAbove x => dsimp only; rw [values x (by rw [source]; exact decide_eq_true rfl)]
  case valueBelow x => dsimp only; rw [values x (by rw [source]; exact decide_eq_true rfl)]
  case channelFault ch => dsimp only; rw [channels ch source]
  case slotStale n => dsimp only; rw [slots n source]
  case speedDisagree => exact disagree
  case fuelImplausible => exact implausible
  case service i => dsimp only; rw [items]
  case nodeLost n => dsimp only; rw [nodes]
  case lineFault => dsimp only; rw [line]
  case odometerInvalid => dsimp only; rw [odometer]
  case clockUnset => dsimp only; rw [clock]
  all_goals rfl

theorem wtbRange_covers (r : Option Nat) : s.wtb.Covers (fun x => { x with range := r })
    (fun c => c.source.readsValue .range) := by
  refine covers_of_view rfl rfl rfl fun e untested => ?_
  refine sourceCondition_of_values (fun x reads => ?_) (fun _ _ => rfl) (fun _ _ => rfl) ⟨rfl, rfl, rfl, rfl, rfl, rfl, rfl⟩
  cases x
  case range => exact absurd (reads.symm.trans untested) nofun
  all_goals rfl

theorem wtbRange_handed (r : Option Nat) : Handed s (wtbRange r s) :=
  .move (.warn _ _ s (wtbRange_covers s r))

theorem wtbWindow_covers (snap : Snapshot) : s.wtb.Covers (fun x => { x with
      roadSpeed := snap.roadSpeed, checkSpeed := snap.checkSpeed, engineSpeed := snap.engineSpeed
      roadSource := snap.roadSource })
    (fun c =>
      c.source.readsValue .roadSpeed || c.source.readsValue .checkSpeed || c.source.readsValue .engineSpeed) := by
  refine covers_of_view rfl rfl rfl fun e untested => ?_
  simp only [Bool.or_eq_false_iff] at untested
  obtain ⟨⟨road, check⟩, engine⟩ := untested
  refine sourceCondition_of_values (fun x reads => ?_) (fun _ _ => rfl) (fun _ _ => rfl) ⟨rfl, rfl, rfl, rfl, rfl, rfl, rfl⟩
  cases x
  case roadSpeed => exact absurd (reads.symm.trans road) nofun
  case checkSpeed => exact absurd (reads.symm.trans check) nofun
  case engineSpeed => exact absurd (reads.symm.trans engine) nofun
  all_goals rfl

theorem wtbWindow_handed (snap : Snapshot) : Handed s (wtbWindow snap s) :=
  .move (.warn _ _ s (wtbWindow_covers s snap))

theorem wtbSlot_covers (n : SlotIx) (st : SlotState) (value : Int) : s.wtb.Covers (fun x => { x with
      slotStates := x.slotStates.set n st, slotValues := x.slotValues.set n value })
    (fun c => c.source.readsSlot n) := by
  refine covers_of_view rfl rfl rfl fun e untested => ?_
  have unread := untested
  rw [WarnSource.readsSlot, Bool.or_eq_false_iff] at unread
  obtain ⟨value, stale⟩ := unread
  refine sourceCondition_of_values (fun x reads => ?_) (fun _ _ => rfl) (fun m source => ?_) ⟨rfl, rfl, rfl, rfl, rfl, rfl, rfl⟩
  · cases x
    case slot m =>
      have apart : n ≠ m := fun same => by
        subst same
        exact absurd (reads.symm.trans value) nofun
      unfold Wtb.valueOf
      dsimp only
      rw [set_get, set_get, if_neg apart, if_neg apart]
    all_goals rfl
  · have apart : n ≠ m := fun same => of_decide_eq_false stale (by rw [source, same])
    dsimp only
    rw [set_get, if_neg apart]

theorem wtbSlot_handed (n : SlotIx) (st : SlotState) (value : Int) : Handed s (wtbSlot n st value s) :=
  .move (.warn _ _ s (wtbSlot_covers s n st value))

theorem wtbRoadLive_covers (road : Bool) : s.wtb.Covers (fun x => { x with roadLive := road })
    (fun c => c.gated fun g => g = .moving || g = .still) := by
  refine ⟨rfl, fun e _ => ?_, fun e untested => ?_⟩
  · exact sourceCondition_of_values (fun x _ => by cases x <;> rfl) (fun _ _ => rfl) (fun _ _ => rfl)
      ⟨rfl, rfl, rfl, rfl, rfl, rfl, rfl⟩
  · rw [EntryConfig.gated, Bool.or_eq_false_iff] at untested
    have gate (g : Gate) (other : (decide (g = .moving) || decide (g = .still)) = false) :
        ({ s.wtb with view := { s.wtb.view with roadLive := road } } : Wtb).gateTrue g = s.wtb.gateTrue g := by
      cases g
      case moving | still => exact absurd other (by decide)
      all_goals rfl
    exact ⟨gate _ untested.1, gate _ untested.2⟩

theorem wtbRoadLive_handed (road : Bool) : Handed s (wtbRoadLive road s) :=
  .move (.warn _ _ s (wtbRoadLive_covers s road))

theorem wtbChannel_covers (ch : ChannelIx) (st : ChannelState) (engine road : Bool) :
    ∃ f test, wtbChannel ch st engine road s = wtbTake f test s ∧ s.wtb.Covers f test := by
  refine ⟨_, _, rfl, ⟨rfl, fun e untested => ?_, fun e untested => ?_⟩⟩
  all_goals
    simp only [Bool.or_eq_false_iff, Bool.and_eq_false_iff] at untested
    obtain ⟨⟨⟨⟨⟨fault, engineSpeed⟩, checkSpeed⟩, roadSpeed⟩, engineGate⟩, roadGate⟩ := untested
  · refine sourceCondition_of_values (fun x reads => ?_) (fun c source => ?_) (fun _ _ => rfl) ⟨rfl, rfl, rfl, rfl, rfl, rfl, rfl⟩
    · cases x
      case engineSpeed =>
        have quiet := engineSpeed.resolve_right fun unread => absurd (reads.symm.trans unread) nofun
        unfold Wtb.valueOf
        dsimp only
        rw [if_neg (by rw [quiet]; nofun)]
      case checkSpeed =>
        have quiet := checkSpeed.resolve_right fun unread => absurd (reads.symm.trans unread) nofun
        unfold Wtb.valueOf
        dsimp only
        rw [if_neg (by rw [quiet]; nofun)]
      case roadSpeed =>
        have quiet := roadSpeed.resolve_right fun unread => absurd (reads.symm.trans unread) nofun
        unfold Wtb.valueOf
        dsimp only
        rw [if_neg (by rw [quiet]; nofun)]
      all_goals rfl
    · have apart : ch ≠ c := fun same => of_decide_eq_false fault (by rw [source, same])
      dsimp only
      rw [set_get, if_neg apart]
  · have engineSame (gated : (decide (e.cfg.gate1 = .engine) || decide (e.cfg.gate2 = .engine)) = true) :
        engine = s.wtb.view.engineRunning := by
      have same := engineGate.resolve_right fun off => absurd (gated.symm.trans off) nofun
      exact (bne_eq_false_iff_eq.mp same).symm
    have roadSame (gated : ((decide (e.cfg.gate1 = .moving) || decide (e.cfg.gate1 = .still)) ||
        (decide (e.cfg.gate2 = .moving) || decide (e.cfg.gate2 = .still))) = true) : road = s.wtb.view.roadLive := by
      have same := roadGate.resolve_right fun off => absurd (gated.symm.trans off) nofun
      exact (bne_eq_false_iff_eq.mp same).symm
    constructor
    · cases gate : e.cfg.gate1
      case engine => exact engineSame (by simp [gate])
      case moving => exact roadSame (by simp [gate])
      case still => exact congrArg (fun b => !b) (roadSame (by simp [gate]))
      all_goals rfl
    · cases gate : e.cfg.gate2
      case engine => exact engineSame (by simp [gate])
      case moving => exact roadSame (by simp [gate])
      case still => exact congrArg (fun b => !b) (roadSame (by simp [gate]))
      all_goals rfl

theorem wtbChannel_handed (ch : ChannelIx) (st : ChannelState) (engine road : Bool) :
    Handed s (wtbChannel ch st engine road s) := by
  obtain ⟨f, test, takes, covers⟩ := wtbChannel_covers s ch st engine road
  rw [takes]
  exact .move (.warn _ _ s covers)

end

end Sys2Proof.Machine
end

section
/-! The operations of the measuring blocks as rows of moves: the items, the trips, the fuel, the clock, the slots, the
gauges, the channels and the windows (Chapters 1 to 4 and 7). -/

namespace Sys2Proof.Machine

-- One theorem at a time, so that a build as one text needs few threads.
set_option Elab.async false

section
variable (s : State)

theorem mark_handed (i : MirrorItem) : Handed s (mark i s) := .move (.mark i s)

theorem notify_handed (n : Notice) : Handed s (s.notify n) := .move (.notify n s)

theorem pcu_handed (f : Pcu → Pcu) : Handed s (s.modPcu f) := .of_only (modPcu_only s f)

theorem gdu_handed (f : Gdu → Gdu) : Handed s (s.modGdu f) := .of_only (modGdu_only s f)

theorem tau_handed (f : Tau → Tau) : Handed s (s.modTau f) := .of_only (modTau_only s f)

theorem clk_handed (f : Clk → Clk) : Handed s (s.modClk f) := .of_only (modClk_only s f)

theorem svs_handed (f : Svs → Svs) : Handed s (s.modSvs f) := .of_only (modSvs_only s f)

/-! ## Service items -/

theorem changeItem_moves (i : ItemIx) (f : ServiceItem → ServiceItem) : Handed s (changeItem i f s) := by
  have changed : Handed s (s.modItem i f) := .of_only (modItem_only s i f)
  have decided (u : State) (g : ServiceItem → ServiceItem) : Handed u (u.modItem i g) := .of_only (modItem_only u i g)
  refine changed.trans ?_
  show Handed _ (decideItem i _)
  unfold decideItem
  dsimp only
  split_ifs
  · exact .refl _
  · exact ((decided _ _).trans (notify_handed _ _)).trans (wtbItem_handed _ _ _)

theorem countItems_handed (down : ServiceItem → ServiceItem) : Handed s (countItems down s) := by
  refine .eachIx (fun i u => ?_) s
  split_ifs
  · exact changeItem_moves u i down
  · exact .refl u

/-! ## Trips, totals and fuel -/

theorem modTrip_handed (t : TripIx) (f : Trip → Trip) : Handed s (s.modTrip t f) := .of_only (modTrip_only s t f)

theorem recomputeRange_handed : Handed s (recomputeRange s) := by
  unfold recomputeRange
  split_ifs
  · exact .refl s
  · exact (tau_handed s _).trans (wtbRange_handed _ _)

theorem tripDistance_handed (t : TripIx) : Handed s (tripDistance t s) := by
  unfold tripDistance tripNotice
  dsimp only
  split_ifs
  · exact ((modTrip_handed s _ _).trans (mark_handed _ _)).trans (notify_handed _ _)
  · exact (modTrip_handed s _ _).trans (notify_handed _ _)
  · exact (modTrip_handed s _ _).trans (mark_handed _ _)
  · exact modTrip_handed s _ _
  · exact .refl s

theorem tripFuel_handed (t : TripIx) : Handed s (tripFuel t s) := by
  unfold tripFuel tripNotice
  dsimp only
  split_ifs
  · exact (modTrip_handed s _ _).trans (notify_handed _ _)
  · exact modTrip_handed s _ _
  · exact .refl s

theorem tripSecond_handed (t : TripIx) : Handed s (tripSecond t s) := by
  have reported (f : Trip → Trip) (marks full : Prop) [Decidable marks] [Decidable full] : Handed s
      (if full then tripNotice t .saturated (if marks then mark .passengerTrip (s.modTrip t f) else s.modTrip t f)
        else if marks then mark .passengerTrip (s.modTrip t f) else s.modTrip t f) := by
    split_ifs
    · exact ((modTrip_handed s _ _).trans (mark_handed _ _)).trans (notify_handed _ _)
    · exact (modTrip_handed s _ _).trans (notify_handed _ _)
    · exact (modTrip_handed s _ _).trans (mark_handed _ _)
    · exact modTrip_handed s _ _
  unfold tripSecond
  dsimp only
  by_cases opened : s.tau.trips[t].state = .open
  · rw [if_pos opened]
    exact reported _ _ _
  · rw [if_neg opened]
    exact .refl s

theorem resetTrip_handed (t : TripIx) (by_ : ResetBy) : Handed s (resetTrip t by_ s) := by
  unfold resetTrip
  dsimp only
  split_ifs
  · exact (modTrip_handed s _ _).trans (mark_handed _ _)
  · exact modTrip_handed s _ _

theorem tripNotice_handed (t : TripIx) (what : TripWhat) : Handed s (tripNotice t what s) := notify_handed s _

theorem emptyRing_handed : Handed s (emptyRing s) :=
  ((tau_handed s _).trans (recomputeRange_handed _)).trans (mark_handed _ _)

theorem bucketDistance_handed : Handed s (bucketDistance s) := by
  rcases Nat.lt_or_ge (grown s).distance s.tau.fuel.bucketLength with room | full
  · rw [bucketDistance_open s room]
    exact tau_handed s _
  · rw [bucketDistance_closed s full]
    exact ((tau_handed s _).trans (recomputeRange_handed _)).trans (mark_handed _ _)

theorem destinationUnit_handed : Handed s (destinationUnit s) := by
  have marked (f : Tau → Tau) : Handed s (mark .destination (s.modTau f)) := (tau_handed s f).trans (mark_handed _ _)
  have arrives (u : State) : Handed u (wtbArrival u) := .move (.arrival u)
  unfold destinationUnit
  split
  · split_ifs
    · exact ((marked _).trans (arrives _)).trans (notify_handed _ _)
    · exact marked _
  · exact .refl s

theorem svsDistance_handed : Handed s (svsDistance s) := countItems_handed s _

theorem tauDistance_handed : Handed s (tauDistance s) := by
  have trips (u : State) : Handed u (eachIx 4 tripDistance u) := .eachIx (fun t v => tripDistance_handed v t) u
  have unit : Handed s (odometerUnit s) := tau_handed s _
  exact (((unit.trans (trips _)).trans (bucketDistance_handed _)).trans (destinationUnit_handed _)).trans
    (svsDistance_handed _)

theorem tauFuel_handed : Handed s (tauFuel s) := by
  have trips : Handed s (eachIx 4 tripFuel s) := .eachIx (fun t v => tripFuel_handed v t) s
  exact trips.trans (tau_handed _ _)

theorem engineSecond_handed : Handed s (engineSecond s) := by
  rcases engineSecond_cases s with off | ⟨on, short⟩ | tenth
  · rw [engineSecond_off s off]
    exact .refl s
  · rw [engineSecond_short s on short]
    exact tau_handed s _
  · rw [engineSecond_tenth s tenth]
    exact (tau_handed s _).trans (countItems_handed _ _)

theorem tauSecond_handed : Handed s (tauSecond s) := by
  by_cases parked : s.tau.power = .parked
  · rw [tauSecond_parked s parked]
    exact engineSecond_handed s
  · have trips (u : State) : Handed u (eachIx 4 tripSecond u) := .eachIx (fun t v => tripSecond_handed v t) u
    unfold tauSecond
    dsimp only
    rw [if_neg parked]
    exact ((engineSecond_handed s).trans (trips _)).trans (tau_handed _ _)

theorem tauRoadLive_handed (b : Bool) : Handed s (tauRoadLive b s) := .of_only (tauRoadLive_only s b)

/-! ## The GDU and the slots -/

theorem endParking_handed : Handed s (endParking s) := by
  unfold endParking
  split_ifs
  · exact (gdu_handed s _).trans (notify_handed _ _)
  · exact .refl s

theorem endSweep_handed : Handed s (endSweep s) := by
  unfold endSweep
  split_ifs
  · exact (gdu_handed s _).trans (notify_handed _ _)
  · exact .refl s

theorem needleStep_handed (g : GaugeIx) : Handed s (needleStep g s) := by
  have stepped (f : Gauge → Gauge) : Handed s (s.modGauge g f) := .of_only (modGauge_only s g f)
  unfold needleStep
  dsimp only
  split
  · split_ifs
    · exact ((stepped _).trans (endSweep_handed _)).trans (endParking_handed _)
    · exact .refl s
  · exact .refl s

theorem homingEnd_handed (g : GaugeIx) : Handed s (homingEnd g s) := by
  unfold homingEnd
  dsimp only
  split_ifs
  · exact gdu_handed s _
  · exact (gdu_handed s _).trans (notify_handed _ _)
  · exact .refl s

theorem testRefuel_handed (amount : Nat) : Handed s (testRefuel amount s) := by
  have filled (u : State) : Handed u (gduRefuel u) := .of_only (gduRefuel_only u)
  have refuelled (before : Nat) : Handed s (refuel before amount s) :=
    (((resetTrip_handed s 2 .auto).trans (tripNotice_handed _ _ _)).trans (notify_handed _ _)).trans (filled _)
  unfold testRefuel
  split
  · split_ifs
    · exact .refl s
    · exact (refuelled _).trans (tau_handed _ _)
    · exact tau_handed s _
  · exact .refl s

theorem clcSlot_handed (n : SlotIx) : Handed s (clcSlot n s) := by
  unfold clcSlot
  split_ifs
  · exact mark_handed s _
  · exact .refl s

theorem takeReport_handed (n : SlotIx) (b : Block) : Handed s (takeReport n b s) := by
  cases b
  case gdu => exact gdu_handed s _
  case tau =>
    show Handed s (tauReport n s)
    unfold tauReport
    split_ifs
    · exact (testRefuel_handed s _).trans (recomputeRange_handed _)
    · exact .refl s
  case wtb => exact wtbSlot_handed s n _ _
  case clc => exact clcSlot_handed s n
  all_goals exact .refl s

theorem takeSlotState_handed (n : SlotIx) (b : Block) : Handed s (takeSlotState n b s) := by
  cases b
  case gdu => exact gdu_handed s _
  case tau =>
    show Handed s (tauSlotState n s)
    unfold tauSlotState
    split_ifs
    · exact recomputeRange_handed s
    · exact .refl s
  case wtb => exact wtbSlot_handed s n _ _
  case clc => exact clcSlot_handed s n
  all_goals exact .refl s

theorem reportSlot_handed (n : SlotIx) (value : Int) : Handed s (reportSlot n value s) :=
  (gdu_handed s _).trans (.hand (fun b u => takeReport_handed u n b) _)

theorem slotExpired_handed (n : SlotIx) (f : Slot → Slot) : Handed s (slotExpired n f s) :=
  (gdu_handed s _).trans (.hand (fun b u => takeSlotState_handed u n b) _)

/-! ## The PCU -/

theorem setDisagree_handed (b : Bool) : Handed s (setDisagree b s) := by
  unfold setDisagree
  split_ifs
  · exact .refl s
  · exact (pcu_handed s _).trans (wtbDisagree_handed _ _)

theorem setImplausible_handed (b : Bool) : Handed s (setImplausible b s) := by
  unfold setImplausible
  split_ifs
  · exact .refl s
  · exact (pcu_handed s _).trans (wtbImplausible_handed _ _)

theorem coach_handed (live : Bool) (speed : Nat) :
    Handed s (s.modClc fun c => { c with roadLive := live, roadSpeed := speed }) := .move (.coach live speed s)

theorem clcRoadLive_handed (b : Bool) : Handed s (clcRoadLive b s) := by
  have live : Handed s (s.modClc fun c => { c with roadLive := b }) := coach_handed s b s.clc.roadSpeed
  unfold clcRoadLive
  split_ifs
  · exact .refl s
  · exact live.trans (mark_handed _ _)

theorem takeChannel_handed (ch : ChannelIx) (st : ChannelState) (engine road : Bool) (b : Block) :
    Handed s (takeChannel ch st engine road b s) := by
  cases b
  case gdu => exact .of_only (takeChannel_parts s ch st engine road .gdu)
  case wtb => exact wtbChannel_handed s ch st engine road
  case tau => exact (tau_handed s _).trans (tauRoadLive_handed _ road)
  case svs => exact .of_only (takeChannel_parts s ch st engine road .svs)
  case clc => exact clcRoadLive_handed s road
  all_goals exact .refl s

theorem changeChannel_handed (ch : ChannelIx) (f : Channel → Channel) : Handed s (changeChannel ch f s) := by
  have changed : Handed s (s.modChannel ch f) := .of_only (modChannel_only s ch f)
  have left (u : State) : Handed u (leaveLive u) := (pcu_handed u _).trans (setDisagree_handed _ _)
  unfold changeChannel
  dsimp only
  split_ifs
  · exact changed
  · exact (changed.trans (left _)).trans (.hand (fun b u => takeChannel_handed u ch _ _ _ b) _)
  · exact changed.trans (.hand (fun b u => takeChannel_handed u ch _ _ _ b) _)

theorem takeRoadLive_handed (road : Bool) (b : Block) : Handed s (takeRoadLive road b s) := by
  cases b
  case wtb => exact wtbRoadLive_handed s road
  case tau => exact tauRoadLive_handed s road
  case svs => exact .of_only (takeRoadLive_parts s road .svs)
  case clc => exact clcRoadLive_handed s road
  all_goals exact .refl s

theorem takeWindow_handed (snap : Snapshot) (b : Block) : Handed s (takeWindow snap b s) := by
  cases b
  case gdu => exact .of_only (takeWindow_parts s snap .gdu)
  case wtb => exact wtbWindow_handed s snap
  case tau => exact .of_only (takeWindow_parts s snap .tau)
  case clc =>
    have speed : Handed s (s.modClc fun c => { c with roadSpeed := snap.roadSpeed }) := coach_handed s s.clc.roadLive _
    exact speed.trans (mark_handed _ _)
  all_goals exact .refl s

theorem moveSource_handed : Handed s (moveSource s) := by
  unfold moveSource
  dsimp only
  split_ifs
  · exact pcu_handed s _
  · exact (pcu_handed s _).trans (.hand (fun b u => takeRoadLive_handed u _ b) _)

theorem disagreeTest_handed : Handed s (disagreeTest s) := by
  unfold disagreeTest
  dsimp only
  split_ifs
  · exact pcu_handed s _
  · exact (pcu_handed s _).trans (setDisagree_handed _ _)
  · exact pcu_handed s _
  · exact (pcu_handed s _).trans (setDisagree_handed _ _)
  · exact pcu_handed s _

theorem windowExpiry_handed (at10us : Nat) : Handed s (windowExpiry at10us s) := by
  have closed : Handed s (closeWindow at10us s) := .eachIx (fun ch u => changeChannel_handed u ch _) s
  have result (u : State) : Handed u (windowResult u) :=
    (pcu_handed u _).trans (.hand (fun b v => takeWindow_handed v _ b) _)
  have ended (u : State) (f : Pcu → Pcu) (g : FreeValues → FreeValues) : Handed u ((u.modPcu f).modFree g) :=
    (pcu_handed u f).trans (.of_only (modFree_only _ g))
  unfold windowExpiry
  split_ifs
  · exact (((closed.trans (disagreeTest_handed _)).trans (moveSource_handed _)).trans (result _)).trans (ended _ _ _)
  · exact .refl s

theorem roadEdge_handed : Handed s (roadEdge s) := by
  unfold roadEdge
  dsimp only
  split_ifs
  · exact pcu_handed s _
  · exact (pcu_handed s _).trans (tauDistance_handed _)
  · exact pcu_handed s _

theorem checkEdge_handed : Handed s (checkEdge s) := by
  unfold checkEdge
  dsimp only
  split_ifs
  · exact pcu_handed s _
  · exact (pcu_handed s _).trans (tauDistance_handed _)
  · exact pcu_handed s _

theorem followImplausible_handed : Handed s (followImplausible s) := by
  unfold followImplausible
  split_ifs
  · exact setImplausible_handed s _
  · exact setImplausible_handed s _
  · exact .refl s

theorem supplyEdge_handed : Handed s (supplyEdge s) := by
  unfold supplyEdge
  dsimp only
  refine Handed.trans ?_ (followImplausible_handed _)
  split_ifs
  · exact (pcu_handed s _).trans (tauFuel_handed _)
  · exact pcu_handed s _

theorem pulseEdge_handed (ch : ChannelIx) (at10us : Nat) : Handed s (pulseEdge ch at10us s) := by
  unfold pulseEdge
  split_ifs
  · exact .refl s
  · refine (changeChannel_handed s ch (Channel.edge at10us)).trans ?_
    unfold dividerEdge
    split
    · exact roadEdge_handed _
    · exact .refl _
    · exact supplyEdge_handed _
    · exact (pcu_handed _ _).trans (followImplausible_handed _)
    · exact checkEdge_handed _
    · exact .refl _

/-! ## The clock -/

theorem lkpClock_handed (c : ClockState) : Handed s (lkpClock c s) :=
  .move (.flags s.lkp.odometerInvalid (c = .unset) s)

theorem lkpOdometer_handed (o : OdometerState) : Handed s (lkpOdometer o s) :=
  .move (.flags (o = .invalid) s.lkp.clockUnset s)

theorem setClockTo_moves (t : ClockTime) : Handed s (setClockTo t s) := by
  unfold setClockTo
  dsimp only
  refine Handed.trans ?_ (mark_handed _ _)
  split_ifs
  · exact ((clk_handed s _).trans (lkpClock_handed _ _)).trans (wtbClock_handed _ _)
  · exact clk_handed s _

theorem markAlarm_handed (a : AlarmIx) : Handed s (markAlarm a s) := by
  unfold markAlarm
  split_ifs
  · exact mark_handed s _
  · exact .refl s

theorem modAlarm_handed (a : AlarmIx) (f : Alarm → Alarm) : Handed s (s.modAlarm a f) := .of_only (modAlarm_only s a f)

theorem changeAlarm_handed (a : AlarmIx) (f : Alarm → Alarm) : Handed s (changeAlarm a f s) :=
  ((modAlarm_handed s a f).trans (.move (.alarmGone a _))).trans (markAlarm_handed _ _)

theorem alarmMatch_handed (a : AlarmIx) : Handed s (alarmMatch a s) := by
  have taken : Handed s (((takeChime (alarmRequest s.chs a s.clk.alarms[a]) s).1).notify (.alarm a)) :=
    (Handed.move (.alarm a s.clk.alarms[a] s)).trans (notify_handed _ _)
  unfold alarmMatch
  dsimp only
  split_ifs
  · exact (taken.trans (modAlarm_handed _ _ _)).trans (markAlarm_handed _ a)
  · exact taken

theorem takeSecond_handed {t : ClockTime} {st : ClockState} {rollover : Bool} (b : Block) :
    Handed s (takeSecond t st rollover b s) := by
  cases b <;> unfold takeSecond <;> dsimp only
  case tau => exact tauSecond_handed s
  case clk =>
    split_ifs
    · refine .eachIx (fun a u => ?_) s
      split_ifs
      · exact alarmMatch_handed u a
      · exact .refl u
    · exact .refl s
  case clc =>
    split_ifs
    · exact mark_handed s _
    · exact .refl s
  case svs =>
    split_ifs
    · exact countItems_handed s _
    · exact .refl s
  case wtb =>
    split_ifs
    · exact wtbClock_handed s _
    · exact .refl s
  case lkp =>
    split_ifs
    · exact lkpClock_handed s _
    · exact .refl s
  all_goals exact .refl s

theorem secondBoundary_handed : Handed s (secondBoundary s) :=
  (clk_handed s _).trans (.hand (fun b u => takeSecond_handed u b) _)

end

end Sys2Proof.Machine
end

section
/-! The requests, the commands and the changes of the power state that are rows of moves of the measuring blocks (Chapters 1
to 4 and 7). -/

namespace Sys2Proof.Machine

-- One theorem at a time, so that a build as one text needs few threads.
set_option Elab.async false

section
variable (s : State)

/-! ## Requests -/

theorem setChannel_handed (p : ChannelIx × ChannelConfig) : Handed s (setChannel p s).1 := by
  have loaded : Handed s (s.modInputs (Inputs.loadPulse p.1)) := .of_only (modInputs_only s _)
  have changed := loaded.trans (changeChannel_handed _ p.1 fun _ => Channel.restarted p.2)
  unfold setChannel emptyAnswer
  dsimp only
  split_ifs
  · exact loaded.trans (.of_only (modChannel_only _ _ _))
  · dsimp only
    exact changed.trans (pcu_handed _ _)
  · exact changed

theorem setCalibration_handed (cal : Calibration) : Handed s (setCalibration cal s).1 := by
  have written := pcu_handed s fun p => { p with cal, roadResidue := 0, checkResidue := 0, fuelResidue := 0 }
  have emptied := (written.trans (setImplausible_handed _ false)).trans (emptyRing_handed _)
  unfold setCalibration emptyAnswer
  dsimp only
  split_ifs
  · exact emptied
  · exact emptied.trans (pcu_handed _ _)

theorem gaugeRequest_handed {k : ReqKind} (gauge : k = .setSlot ∨ k = .setGauge ∨ k = .sweepGauges) (r : Request) :
    Handed s (k.owner r s).1 := by
  rcases gauge with rfl | rfl | rfl
  · exact .ranged fun p => .of_only (modSlot_only s p.1 _)
  · refine .ranged fun p => ?_
    unfold setGauge emptyAnswer
    split_ifs
    · exact .refl s
    · dsimp only
      exact gdu_handed s _
  · show Handed s (ownSweepGauges r s).1
    unfold ownSweepGauges emptyAnswer
    split_ifs
    · exact .refl s
    · exact .refl s
    · dsimp only
      unfold startSweep
      exact gdu_handed s _

theorem tripControl_handed (p : TripIx × TripAction) : Handed s (tripControl p s).1 := by
  unfold tripControl
  split
  · exact resetTrip_handed s _ _
  · split
    · rename_i st _
      show Handed s (setTripState p.1 st s)
      unfold setTripState
      dsimp only
      split_ifs
      · exact (modTrip_handed s _ _).trans (mark_handed _ _)
      · exact modTrip_handed s _ _
    · exact .refl s

theorem setFuelOptions_handed (o : FuelOptions) : Handed s (setFuelOptions o s).1 := by
  have level (u : State) : Handed u (levelAfresh u) := by
    unfold levelAfresh takeLevel
    split_ifs
    · exact tau_handed u _
    · exact tau_handed u _
  exact (((tau_handed s _).trans (emptyRing_handed _)).trans (level _)).trans (recomputeRange_handed _)

theorem ownRestoreOdometer_handed (r : Request) : Handed s (ownRestoreOdometer r s).1 := by
  have restored (v : Nat) : Handed s (restoreOdometer v s) :=
    (((tau_handed s _).trans (svs_handed _ _)).trans (lkpOdometer_handed _ _)).trans (wtbOdometer_handed _ _)
  unfold ownRestoreOdometer
  dsimp only
  split
  · exact .refl s
  · split_ifs
    · exact .refl s
    · dsimp only
      exact restored _

theorem serviceDone_handed (i : ItemIx) : Handed s (serviceDone i s).1 := by
  unfold serviceDone emptyAnswer
  split_ifs
  · exact .refl s
  · exact .refl s
  · exact .refl s
  · exact changeItem_moves s i _

/-- The requests of the WTB, the CHS, the CLC and the LKP themselves. -/
def ReqKind.isOwn : ReqKind → Bool
  | .setNoticeMask | .restart | .setWarning | .acknowledge | .linkCondition | .setLamp | .setSwitch | .chime
  | .cancelChime | .setPattern | .setPrivacy | .setNode | .coachPass | .coachReset | .setCoachOptions => true
  | _ => false

/-- Every other request is served by a row of moves. -/
theorem owner_handed {k : ReqKind} (other : k.isOwn = false) (r : Request) : Handed s (k.owner r s).1 := by
  cases k
  case setChannel => exact .ranged fun p => setChannel_handed s p
  case setCalibration => exact .ranged fun cal => setCalibration_handed s cal
  case sensorReport =>
    exact .ranged fun pairs => .foldl (fun u (p : SlotIx × Int) => reportSlot_handed u p.1 p.2) pairs s
  case setSlot => exact gaugeRequest_handed s (.inl rfl) r
  case setGauge => exact gaugeRequest_handed s (.inr (.inl rfl)) r
  case sweepGauges => exact gaugeRequest_handed s (.inr (.inr rfl)) r
  case tripControl => exact .ranged fun p => tripControl_handed s p
  case setDestination => exact .ranged fun d => (tau_handed s fun u => { u with destination := d }).trans (mark_handed _ _)
  case restoreOdometer => exact ownRestoreOdometer_handed s r
  case setFuelOptions => exact .ranged fun o => setFuelOptions_handed s o
  case setClock => exact .ranged fun t => setClockTo_moves s t
  case setAlarm => exact .ranged fun p => changeAlarm_handed s p.1 _
  case setClockOptions =>
    refine .ranged fun p => ?_
    unfold emptyAnswer
    dsimp only
    exact clk_handed s _
  case setServiceItem => exact .ranged fun p => changeItem_moves s p.1 _
  case serviceDone => exact .ranged fun i => serviceDone_handed s i
  case readTrip => exact .ranged fun t => .refl s
  case readService => exact .ranged fun i => .refl s
  case readInstruments | readGauges | readTotals | readClock | readWarnings | readNodes | identify =>
    exact .refl s
  all_goals cases other

/-! ## Commands -/

/-- The commands of the measuring blocks. -/
def isMeasuringCommand : Instr → Bool
  | .pulseEdge _ _ | .stallExpiry _ | .windowExpiry _ | .slotStaleExpiry _ | .slotLostExpiry _ | .needleStep _
  | .homingEnd _ | .secondBoundary => true
  | _ => false

theorem measuring_handed {c : Instr} (measuring : isMeasuringCommand c = true) : Handed s (otherEffect c s) := by
  cases c
  case pulseEdge ch at10us => exact pulseEdge_handed s ch at10us
  case stallExpiry ch =>
    show Handed s (stallExpiry ch s)
    unfold stallExpiry
    split_ifs
    · exact changeChannel_handed s ch _
    · exact .refl s
  case windowExpiry at10us => exact windowExpiry_handed s at10us
  case slotStaleExpiry n =>
    show Handed s (slotStaleExpiry n s)
    unfold slotStaleExpiry
    split_ifs
    · exact slotExpired_handed s n _
    · exact .refl s
  case slotLostExpiry n =>
    show Handed s (slotLostExpiry n s)
    unfold slotLostExpiry
    split_ifs
    · exact slotExpired_handed s n _
    · exact .refl s
  case needleStep g => exact needleStep_handed s g
  case homingEnd g => exact homingEnd_handed s g
  case secondBoundary => exact secondBoundary_handed s
  all_goals cases measuring

/-! ## Rear events -/

/-- What the owner makes of a rear event: a row of moves, a chime request, a privacy setting or an acknowledgment (R152). -/
theorem ownRearEvent_cases (e : RearEvent) : Handed s (ownRearEvent e s).1 ∨
    (ownRearEvent e s).1 = (takeChime (rearCallRequest s.chs s.clc.callPattern) s).1 ∨
    (∃ on, (ownRearEvent e s).1 = takePrivacy on s) ∨
    (ownRearEvent e s).1 = (acknowledgeWhere (fun _ c => c.dest = .rear) s).1 := by
  unfold ownRearEvent
  split <;> dsimp only
  · exact .inr (.inl rfl)
  · exact .inr (.inr (.inl ⟨true, rfl⟩))
  · exact .inr (.inr (.inl ⟨false, rfl⟩))
  · exact .inl ((resetTrip_handed s _ _).trans (tripNotice_handed _ _ _))
  · exact .inr (.inr (.inr rfl))
  · unfold rearClockSet
    dsimp only
    split_ifs
    · exact .inl (.refl s)
    · exact .inl (setClockTo_moves s _)
  · unfold rearAlarmSet
    split
    · exact .inl (changeAlarm_handed s _ _)
    · exact .inl (.refl s)
  · exact .inl (.refl s)

/-! ## Changes of the power state -/

/-- The blocks that hand others what a change of the power state brings, or change alone. -/
def Block.measures : Block → Bool
  | .pcu | .gdu | .tau | .clk | .svs => true
  | .wtb | .chs | .clc | .lkp => false

theorem gduRunEntry_handed : Handed s (gduRunEntry s) := by
  unfold gduRunEntry
  exact gdu_handed s _

theorem gduParkedEntry_handed : Handed s (gduParkedEntry s) := by
  unfold gduParkedEntry
  exact (gdu_handed s _).trans (endParking_handed _)

theorem takeRunEntry_handed {b : Block} (measures : b.measures = true) : Handed s (takeRunEntry b s) := by
  cases b
  case pcu =>
    have loaded := Handed.of_only (modInputs_only s (Inputs.loadPulses fun ch => s.pcu.channels[ch].cfg.enabled))
    show Handed s (pcuRunEntry s)
    exact ((loaded.trans (pcu_handed _ _)).trans (setDisagree_handed _ _)).trans
      (.eachIx (fun ch u => changeChannel_handed u ch _) _)
  case gdu => exact gduRunEntry_handed s
  case tau => exact .of_only (takeRunEntry_parts s .tau)
  case clk => exact .refl s
  case svs => exact .of_only (takeRunEntry_parts s .svs)
  all_goals cases measures

theorem takeParkedEntry_handed {b : Block} (measures : b.measures = true) : Handed s (takeParkedEntry b s) := by
  cases b
  case pcu =>
    show Handed s (pcuParkedEntry s)
    exact ((pcu_handed s _).trans (setDisagree_handed _ _)).trans (.eachIx (fun ch u => changeChannel_handed u ch _) _)
  case gdu => exact gduParkedEntry_handed s
  case tau => exact .of_only (takeParkedEntry_parts s .tau)
  case clk => exact .refl s
  case svs => exact .of_only (takeParkedEntry_parts s .svs)
  all_goals cases measures

theorem takeCrank_handed {p : PowerState} {b : Block} (measures : b.measures = true) : Handed s (takeCrank p b s) := by
  cases b
  case pcu => exact .of_only (modPcu_only s _ : OnlyChanges _ s (pcuCrank p s))
  case gdu => exact .of_only (modGdu_only s _ : OnlyChanges _ s (gduCrank p s))
  case tau => exact .of_only (takeCrank_parts s p .tau)
  case clk => exact .refl s
  case svs => exact .of_only (takeCrank_parts s p .svs)
  all_goals cases measures

end

end Sys2Proof.Machine
end

section
/-! Every operation of the WTB and the CHS as a row of small steps: writes of those two blocks, notices and marks. What each
of these keeps, they all keep (R84, R90, R95, R99, R100, R101, R121, R122, R126). -/

namespace Sys2Proof.Machine

-- One theorem at a time, so that a build as one text needs few threads.
set_option Elab.async false

/-- What holds across each of the small steps the WTB and the CHS take, whatever they write into the WTB. -/
structure AlertWalk (R : State → State → Prop) : Prop extends WarnWalk R where
  wtb : ∀ f s, R s (s.modWtb f)

/-- The requests of the WTB and the CHS. -/
def ReqKind.isWarnOwn : ReqKind → Bool
  | .setWarning | .acknowledge | .linkCondition | .setLamp | .setSwitch | .chime | .cancelChime | .setPattern
  | .setPrivacy => true
  | _ => false

/-- The commands of the WTB and the CHS. -/
def isWarnCommand : Instr → Bool
  | .switchChange _ | .qualifyExpiry _ | .repeatExpiry _ | .flashPhase | .bulbCheckEnd | .segmentEnd => true
  | _ => false

namespace AlertWalk
variable {R : State → State → Prop} (h : AlertWalk R) (s : State)
include h

/-! ## Changes of the power state -/

theorem take (f : WarnView → WarnView) (test : EntryConfig → Bool) : R s (wtbTake f test s) :=
  h.trans (h.wtb _ s) (h.evaluateWhere test _)

theorem runEntry : R s (wtbRunEntry s) := by
  unfold wtbRunEntry
  exact h.trans (h.wtb _ s) (h.evaluateWhere _ _)

theorem parkedEntry : R s (wtbParkedEntry s) := by
  unfold wtbParkedEntry
  dsimp only
  refine h.trans (h.wtb _ s) (h.eachIx (fun w u => ?_) _)
  split_ifs
  · exact h.evaluateEntry w u
  · exact h.refl u
  · exact h.parkEntry w u

theorem crank (p : PowerState) : R s (wtbCrank p s) := by
  unfold wtbCrank
  exact h.take s _ _

theorem privacy (on : Bool) : R s (takePrivacy on s) := h.trans (h.chs _ s) (h.mark _ _)

theorem power (p : PowerState) : R s (chsPower p s) := by
  have removed (u : State) : R u ((removeChime .rearCall u).modChs fun c =>
      { c with power := .parked }.chooseIfSilent) := h.trans (h.removeChime _ u) (h.chs _ _)
  unfold chsPower
  split
  · unfold chsParkedEntry
    dsimp only
    split_ifs
    · exact h.trans (h.privacy s false) (removed _)
    · exact removed s
  · exact h.chs _ s
  · split_ifs
    · exact h.chs _ s
    · exact h.chs _ s

/-! ## Requests -/

theorem reconfigureEntry (w : EntryIx) (c : EntryConfig) : R s (Machine.reconfigureEntry w c s) := by
  unfold Machine.reconfigureEntry
  dsimp only
  refine h.trans (h.trans (h.trans ?_ (h.reportEntry _ _ _ _)) (h.anyEntry w _ _)) (h.evaluateEntry _ _)
  split_ifs
  · exact h.trans (h.anyEntry w _ s) (h.removeChime _ _)
  · exact h.anyEntry w _ s

theorem changeSwitch (n : SwitchIx) (f : Switch → Switch) : R s (Machine.changeSwitch n f s) := by
  unfold Machine.changeSwitch
  dsimp only
  split_ifs
  · exact h.wtb _ s
  · exact h.trans (h.wtb _ s) (h.evaluateWhere _ _)

theorem linkCondition (p : EntryIx × Bool) : R s (Machine.linkCondition p s).1 := by
  unfold Machine.linkCondition emptyAnswer
  split_ifs
  · exact h.trans (h.anyEntry p.1 _ s) (h.evaluateEntry _ _)
  · exact h.refl s

theorem ranged {α : Type} {fields : Option α} {f : α → State → State × Response} (each : ∀ a, R s (f a s).1) :
    R s (Machine.ranged fields f s).1 := by
  unfold Machine.ranged
  split
  · exact each _
  · exact h.refl s

theorem owner {k : ReqKind} (own : k.isWarnOwn = true) (r : Request) : R s (k.owner r s).1 := by
  cases k
  case setWarning => exact h.ranged s fun p => h.reconfigureEntry s p.1 p.2
  case acknowledge => exact h.ranged s fun one => h.acknowledgeWhere _ s
  case linkCondition => exact h.ranged s fun p => h.linkCondition s p
  case setLamp => exact h.ranged s fun p => h.wtb (fun t => { t with lamps := t.lamps.set p.1 p.2 }) s
  case setSwitch => exact h.ranged s fun p => h.changeSwitch s p.1 _
  case chime =>
    refine h.ranged s fun f => ?_
    dsimp only
    split_ifs
    · exact h.takeChime _ s
    · exact h.takeChime _ s
  case cancelChime =>
    show R s (ownCancelChime r s).1
    unfold ownCancelChime emptyAnswer
    split
    · exact h.trans (h.removeChime _ s) (h.handEnd _ _ _)
    · exact h.refl s
  case setPattern =>
    refine h.ranged s fun p => ?_
    unfold setPattern emptyAnswer
    split_ifs
    · exact h.refl s
    · exact h.chs (fun c => { c with patterns := c.patterns.set p.1 p.2 }) s
  case setPrivacy => exact h.ranged s fun on => h.privacy s on
  all_goals cases own

/-! ## Commands -/

theorem command {c : Instr} (warns : isWarnCommand c = true) : R s (otherEffect c s) := by
  cases c
  case switchChange n => exact h.changeSwitch s n _
  case qualifyExpiry w =>
    show R s (qualifyExpiry w s)
    unfold qualifyExpiry
    split_ifs
    · exact h.enterActive w s
    · exact h.refl s
  case repeatExpiry w =>
    show R s (repeatExpiry w s)
    unfold repeatExpiry
    split_ifs
    · exact h.trans (h.anyEntry w _ s) (h.handWarningChime _ _)
    · exact h.refl s
  case flashPhase => exact h.wtb (fun t => { t with flashLit := !t.flashLit }) s
  case bulbCheckEnd => exact h.wtb (fun t => { t with bulbCheck := none }) s
  case segmentEnd => exact h.segmentEnd s
  all_goals cases warns

end AlertWalk

end Sys2Proof.Machine
end

section
/-! The invariant of the Coach Line under marks, a slot's states, the end of a pass-through and the arbiter (R147, R150, R154,
R155, R163). -/

namespace Sys2Proof.Machine

-- One theorem at a time, so that a build as one text needs few threads.
set_option Elab.async false

theorem MarksOnly.alerts : AlertWalk MarksOnly where
  toWarnWalk := walk
  wtb _ s := of_only (modWtb_only s _)

/-! ## The mirror queue -/

namespace MirrorQueueOk
variable {c d : Clc}

theorem appendPair (ok : MirrorQueueOk c) (i : MirrorItem) (n : NodeIx) : MirrorQueueOk (c.appendPair i n) := by
  unfold Clc.appendPair
  split_ifs with fits
  · obtain ⟨present, up, new⟩ := fits
    obtain ⟨nodup, shown, -⟩ := ok
    refine ⟨?_, fun p mem => ?_, fun _ => up⟩
    · exact List.nodup_append.mpr ⟨nodup, List.nodup_singleton _, fun a mem b last same => new (by
        rw [List.mem_singleton.mp last] at same
        exact same ▸ mem)⟩
    · rcases List.mem_append.mp mem with before | last
      · exact shown p before
      · rw [List.mem_singleton.mp last]
        exact present
  · exact ok

theorem marked (ok : MirrorQueueOk c) (i : MirrorItem) : MirrorQueueOk (c.mark i) :=
  List.foldlRecOn (motive := MirrorQueueOk) _ _ ok fun b held n _ => by
    split_ifs
    · exact appendPair held i n
    · exact held

theorem markedWhole (ok : MirrorQueueOk c) (n : NodeIx) : MirrorQueueOk (c.markWhole n) :=
  List.foldlRecOn (motive := MirrorQueueOk) _ _ ok fun b held i _ => by
    split_ifs
    · exact appendPair held i n
    · exact held

theorem marks {s t : State} (ok : MirrorQueueOk s.clc) (h : MarksOnly s t) : MirrorQueueOk t.clc := by
  obtain ⟨items, clc⟩ := h
  rw [clc]
  exact List.foldlRecOn (motive := MirrorQueueOk) _ _ ok fun b held i _ => marked held i

/-- An empty queue is in order. -/
theorem of_empty (empty : c.mirrorQueue = []) : MirrorQueueOk c := by
  rw [MirrorQueueOk, empty]
  exact ⟨List.nodup_nil, nofun, fun other => absurd rfl other⟩

/-- Nothing but the queue, the line's state and the slots' states matters. -/
theorem congr (ok : MirrorQueueOk c) (queue : d.mirrorQueue = c.mirrorQueue) (line : c.line.up = true → d.line.up = true)
    (states : ∀ n : NodeIx, d.nodes[n].state = c.nodes[n].state) : MirrorQueueOk d := by
  obtain ⟨nodup, shown, up⟩ := ok
  rw [MirrorQueueOk, queue]
  exact ⟨nodup, fun p mem => (states p.1).trans (shown p mem), fun some => line (up some)⟩

/-- A shorter queue stays in order. -/
theorem sublist {queue : List (NodeIx × MirrorItem)} (ok : MirrorQueueOk c) (sub : queue.Sublist c.mirrorQueue) :
    MirrorQueueOk { c with mirrorQueue := queue } := by
  obtain ⟨nodup, shown, up⟩ := ok
  refine ⟨nodup.sublist sub, fun p mem => shown p (sub.subset mem), fun some => up fun none => some ?_⟩
  rw [none] at sub
  exact List.sublist_nil.mp sub

/-- A slot takes a state: a LOST slot's pairs leave, a PRESENT one's are marked; any other must have none (R147). -/
theorem entered (ok : MirrorQueueOk c) {n : NodeIx} {st : NodeState}
    (gone : st ≠ .lost → st ≠ .present → ∀ q ∈ c.mirrorQueue, q.1 ≠ n) :
    MirrorQueueOk (({ c with nodes := updAt c.nodes n (Node.entering st) } : Clc).enterState n st) := by
  obtain ⟨nodup, shown, up⟩ := ok
  have others : ∀ q ∈ c.mirrorQueue, q.1 ≠ n → (updAt c.nodes n (Node.entering st))[q.1].state = .present := by
    intro q mem other
    rw [updAt_get_other _ _ _ _ (Ne.symm other)]
    exact shown q mem
  have quiet (gone : ∀ q ∈ c.mirrorQueue, q.1 ≠ n) :
      MirrorQueueOk { c with nodes := updAt c.nodes n (Node.entering st) } :=
    ⟨nodup, fun q mem => others q mem (gone q mem), up⟩
  cases st
  case disabled => exact quiet (gone nofun nofun)
  case joining => exact quiet (gone nofun nofun)
  case lost =>
    refine ⟨nodup.filter _, fun q mem => ?_, fun some => up fun none => some ?_⟩
    · obtain ⟨before, other⟩ := List.mem_filter.mp mem
      exact others q before (of_decide_eq_true other)
    · exact congrArg (List.filter _) none
  case present =>
    refine markedWhole (c := { c with nodes := updAt c.nodes n (Node.entering .present) }) ?_ n
    refine ⟨nodup, fun q mem => ?_, up⟩
    by_cases same : q.1 = n
    · obtain ⟨m, i⟩ := q
      obtain rfl : m = n := same
      exact congrArg Node.state (updAt_get_same c.nodes m (Node.entering .present))
    · exact others q mem same

end MirrorQueueOk

/-! ## The node table -/

/-- A slot that keeps what the table is ordered by (R148). -/
structure Node.Follows (x y : Node) : Prop where
  enabled : y.enabled = x.enabled
  address : y.address = x.address
  nodeAlias : y.nodeAlias = x.nodeAlias
  ok : NodeOk x → NodeOk y
  due : y.due = true → x.due = true

theorem Node.Follows.refl (x : Node) : x.Follows x := ⟨rfl, rfl, rfl, id, id⟩

theorem Node.Follows.trans {x y z : Node} (h : x.Follows y) (k : y.Follows z) : x.Follows z :=
  ⟨k.enabled.trans h.enabled, k.address.trans h.address, k.nodeAlias.trans h.nodeAlias, k.ok ∘ h.ok, h.due ∘ k.due⟩

theorem NodeTableOk.of {c d : Clc} (ok : NodeTableOk c) (nodes : ∀ n : NodeIx, NodeOk c.nodes[n] → NodeOk d.nodes[n])
    (enabled : ∀ n : NodeIx, d.nodes[n].enabled = c.nodes[n].enabled)
    (address : ∀ n : NodeIx, d.nodes[n].address = c.nodes[n].address)
    (nodeAlias : ∀ n : NodeIx, d.nodes[n].nodeAlias = c.nodes[n].nodeAlias) : NodeTableOk d := by
  obtain ⟨each, apart⟩ := ok
  refine ⟨fun n => nodes n (each n), fun m n other on on' => ?_⟩
  rw [enabled] at on on'
  rw [address, address, nodeAlias, nodeAlias]
  exact apart m n other on on'

theorem NodeTableOk.follows {c d : Clc} (ok : NodeTableOk c) (nodes : ∀ n : NodeIx, c.nodes[n].Follows d.nodes[n]) :
    NodeTableOk d :=
  NodeTableOk.of ok (fun n => (nodes n).ok) (fun n => (nodes n).enabled) (fun n => (nodes n).address)
    fun n => (nodes n).nodeAlias

/-- A slot takes the state its enabled flag allows. -/
theorem Node.Follows.entering {x : Node} {st : NodeState} (allowed : st = .disabled ↔ x.enabled = false)
    (quiet : st = .disabled → x.due = false) : x.Follows (x.entering st) := by
  cases st
  case disabled =>
    refine ⟨rfl, rfl, rfl, fun ok => ?_, id⟩
    obtain ⟨lo, hi, alo, ahi, misses, rounds, -, -⟩ := ok
    exact ⟨lo, hi, alo, ahi, misses, rounds, allowed, fun due => absurd (due.symm.trans (quiet rfl)) nofun⟩
  case lost =>
    refine ⟨rfl, rfl, rfl, fun ok => ?_, nofun⟩
    obtain ⟨lo, hi, alo, ahi, misses, -, -, -⟩ := ok
    exact ⟨lo, hi, alo, ahi, misses, Nat.succ_pos 7, ⟨nofun, fun off => absurd (allowed.mpr off) nofun⟩, nofun⟩
  all_goals
    refine ⟨rfl, rfl, rfl, fun ok => ?_, id⟩
    obtain ⟨lo, hi, alo, ahi, misses, -, -, -⟩ := ok
    exact ⟨lo, hi, alo, ahi, misses, Nat.succ_pos 7, ⟨nofun, fun off => absurd (allowed.mpr off) nofun⟩, fun _ => nofun⟩

/-- A slot's miss count changes. -/
theorem Node.Follows.missed {x : Node} {k : Nat} (few : k ≤ 3) : x.Follows { x with misses := k } := by
  refine ⟨rfl, rfl, rfl, fun ok => ?_, id⟩
  obtain ⟨lo, hi, alo, ahi, -, rest⟩ := ok
  exact ⟨lo, hi, alo, ahi, few, rest⟩

/-- A slot's due flag is cleared. -/
theorem Node.Follows.settled (x : Node) : x.Follows { x with due := false } := by
  refine ⟨rfl, rfl, rfl, fun ok => ?_, nofun⟩
  obtain ⟨lo, hi, alo, ahi, misses, rounds, off, -⟩ := ok
  exact ⟨lo, hi, alo, ahi, misses, rounds, off, nofun⟩

/-- One slot is written. -/
theorem follows_updAt {v : Vector Node 6} {n : NodeIx} {f : Node → Node} (h : v[n].Follows (f v[n])) (m : NodeIx) :
    v[m].Follows (updAt v n f)[m] := by
  rw [updAt_get]
  split_ifs with same
  · subst same
    exact h
  · exact .refl _

/-! ## The line -/

/-- The slots and the queue change: the invariant stands while both are in order and no due flag is set. -/
theorem CoachLineOk.retabled {c d : Clc} (ok : CoachLineOk c)
    (keeps : { d with nodes := c.nodes, mirrorQueue := c.mirrorQueue } = c) (queue : MirrorQueueOk d) (table : NodeTableOk d)
    (quiet : ∀ n : NodeIx, d.nodes[n].due = true → c.nodes[n].due = true) : CoachLineOk d := by
  obtain ⟨slots, pairs, rfl⟩ : ∃ slots pairs, c = { d with nodes := slots, mirrorQueue := pairs } := ⟨_, _, keeps.symm⟩
  obtain ⟨-, -, ⟨round, backoff, held, sleep, power, few, resetting, due⟩, kinds, retry, noSleep, polled, pass, phase⟩ := ok
  refine ⟨queue, table, ⟨round, backoff, held, sleep, power, few, resetting, fun n on => due n (quiet n on)⟩,
    kinds, retry, noSleep, fun k waits n polls => Bool.eq_false_iff.mpr fun on => ?_, pass, phase⟩
  exact absurd ((quiet n on).symm.trans (polled k waits n polls)) nofun

theorem CoachLineOk.follows {c d : Clc} (ok : CoachLineOk c)
    (keeps : { d with nodes := c.nodes, mirrorQueue := c.mirrorQueue } = c) (queue : MirrorQueueOk d)
    (nodes : ∀ n : NodeIx, c.nodes[n].Follows d.nodes[n]) : CoachLineOk d :=
  CoachLineOk.retabled ok keeps queue (NodeTableOk.follows ok.2.1 nodes) fun n => (nodes n).due

/-- The queue alone changes. -/
theorem CoachLineOk.queued {c d : Clc} (ok : CoachLineOk c) (keeps : { d with mirrorQueue := c.mirrorQueue } = c)
    (queue : MirrorQueueOk d) : CoachLineOk d := by
  have nodes : d.nodes = c.nodes := (congrArg Clc.nodes keeps :)
  refine CoachLineOk.follows ok ?_ queue fun n => ?_
  · rw [← nodes]
    exact keeps
  · rw [nodes]
    exact .refl _

/-- Without a pass-through the invariant stands. -/
theorem CoachLineOk.passed {c : Clc} (ok : CoachLineOk c) : CoachLineOk { c with pass := none } := by
  obtain ⟨queue, table, line, kinds, retry, noSleep, polled, -, -⟩ := ok
  exact ⟨queue, table, line, kinds, retry, noSleep, polled, fun some => absurd rfl some, nofun⟩

section
variable {s : State}

theorem CoachLineOk.endPass (resp : Response) (ok : CoachLineOk s.clc) : CoachLineOk (endPass resp s).clc := by
  rw [endPass_clc]
  exact CoachLineOk.passed ok

end

end Sys2Proof.Machine
end

section
/-! The slots' states and the transactions keep the invariant of the Coach Line (R145, R147, R148, R151, R156, R163). -/

namespace Sys2Proof.Machine

-- One theorem at a time, so that a build as one text needs few threads.
set_option Elab.async false

/-! ## Slots that follow -/

/-- Between two states only slots and the mirror queue differ, and both stay in order. -/
structure SlotsFollow (s t : State) : Prop where
  keeps : { t.clc with nodes := s.clc.nodes, mirrorQueue := s.clc.mirrorQueue } = s.clc
  queue : MirrorQueueOk s.clc → MirrorQueueOk t.clc
  nodes : ∀ n : NodeIx, s.clc.nodes[n].Follows t.clc.nodes[n]

namespace SlotsFollow
variable {s t u : State}

theorem refl (s : State) : SlotsFollow s s := ⟨rfl, id, fun _ => .refl _⟩

theorem trans (h : SlotsFollow s t) (k : SlotsFollow t u) : SlotsFollow s u :=
  ⟨Clc.keeps_nodes_trans h.keeps k.keeps, k.queue ∘ h.queue, fun n => (h.nodes n).trans (k.nodes n)⟩

theorem ok (h : SlotsFollow s t) (ok : CoachLineOk s.clc) : CoachLineOk t.clc :=
  CoachLineOk.follows ok h.keeps (h.queue ok.1) h.nodes

/-- The same apart from a pass-through that waits for its end. -/
theorem passed (h : SlotsFollow s t) (ok : CoachLineOk { s.clc with pass := none }) :
    CoachLineOk { t.clc with pass := none } :=
  CoachLineOk.follows ok (congrArg (fun c : Clc => { c with pass := none }) h.keeps :) (h.queue ok.1) h.nodes

theorem table (h : SlotsFollow s t) (ok : NodeTableOk s.clc) : NodeTableOk t.clc := NodeTableOk.follows ok h.nodes

/-- A slot's miss count is written. -/
theorem missed (n : NodeIx) {k : Nat} (few : k ≤ 3) (s : State) :
    SlotsFollow s (s.modNode n fun nd => { nd with misses := k }) := by
  refine ⟨rfl, fun ok => MirrorQueueOk.congr ok rfl id fun m => ?_, follows_updAt (.missed few)⟩
  rw [State.modNode_nodes, updAt_get]
  split_ifs with same
  · subst same
    rfl
  · rfl

end SlotsFollow

section
variable {s : State}

/-- A slot's state keeps the queue in order, unless it is one whose pairs must be gone. -/
theorem setNodeState_queueOk {n : NodeIx} {st : NodeState} (ok : MirrorQueueOk s.clc)
    (gone : st ≠ .lost → st ≠ .present → ∀ q ∈ s.clc.mirrorQueue, q.1 ≠ n) :
    MirrorQueueOk (setNodeState n st s).clc := by
  by_cases same : s.clc.nodes[n].state = st
  · rw [setNodeState_of_same same]
    exact ok
  · rw [setNodeState_of_changed same]
    exact MirrorQueueOk.marks (s := nodeEntered n st s) (MirrorQueueOk.entered ok gone) (wtbNode_marks n st _)

/-- An enabled slot becomes LOST or PRESENT. -/
theorem setNodeState_follows {n : NodeIx} {st : NodeState} (found : st = .lost ∨ st = .present)
    (enabled : s.clc.nodes[n].enabled ≠ false) : SlotsFollow s (setNodeState n st s) := by
  have awake : st ≠ .disabled := by rcases found with rfl | rfl <;> nofun
  refine ⟨setNodeState_keeps n st s, fun ok => setNodeState_queueOk ok fun lost present => ?_, fun m => ?_⟩
  · exact absurd found (not_or.mpr ⟨lost, present⟩)
  · rw [setNodeState_nodes]
    split_ifs
    · exact .refl _
    · exact follows_updAt (.entering ⟨fun off => absurd off awake, fun off => absurd off enabled⟩
        fun off => absurd off awake) m

/-- A slot in any state but DISABLED is enabled. -/
theorem NodeTableOk.enabled {c : Clc} (ok : NodeTableOk c) {n : NodeIx} (awake : c.nodes[n].state ≠ .disabled) :
    c.nodes[n].enabled ≠ false := by
  obtain ⟨each, -⟩ := ok
  obtain ⟨-, -, -, -, -, -, off, -⟩ := each n
  exact mt off.mpr awake

theorem validAnswer_follows (ok : NodeTableOk s.clc) (n : NodeIx) : SlotsFollow s (validAnswer n s) := by
  have answered := SlotsFollow.missed n (k := 0) (by decide) s
  have entered (awake : s.clc.nodes[n].state ≠ .disabled) := answered.trans
    (setNodeState_follows (n := n) (.inr rfl) (by rw [(answered.nodes n).enabled]; exact NodeTableOk.enabled ok awake))
  unfold validAnswer
  dsimp only
  split
  · rename_i joining
    exact entered (by rw [joining]; nofun)
  · rename_i lost
    exact entered (by rw [lost]; nofun)
  · exact answered
  · exact answered

theorem nodeMiss_follows (ok : NodeTableOk s.clc) (n : NodeIx) : SlotsFollow s (nodeMiss n s) := by
  have few : countUp Config.lostMisses s.clc.nodes[n].misses ≤ 3 := by
    unfold countUp
    exact Nat.min_le_right _ _
  have missed := SlotsFollow.missed n few s
  have entered (awake : s.clc.nodes[n].state ≠ .disabled) := missed.trans
    (setNodeState_follows (n := n) (.inl rfl) (by rw [(missed.nodes n).enabled]; exact NodeTableOk.enabled ok awake))
  unfold nodeMiss
  split
  · rename_i joining
    dsimp only
    split_ifs
    · exact entered (by rw [joining]; nofun)
    · exact missed
  · rename_i present
    dsimp only
    split_ifs
    · exact entered (by rw [present]; nofun)
    · exact missed
  · exact .refl s
  · exact .refl s

/-! ## The end of a transaction -/

/-- The transaction in flight is dropped: what remains is in order but for its pass-through (R145, R157). -/
theorem CoachLineOk.dropped {c : Clc} (ok : CoachLineOk c) {t : Txn} (txn : c.txn = some t) :
    CoachLineOk { c with txn := none, contentions := 0, pass := none } ∧
      (t.kind.isPass = false → CoachLineOk { c with txn := none, contentions := 0 }) := by
  obtain ⟨queue, table, ⟨round, backoff, held, sleep, power, few, resetting, due⟩, kinds, retry, noSleep, polled, pass,
    phase⟩ := ok
  have line : LineOk { c with txn := none, contentions := 0 } :=
    ⟨round, backoff, held, sleep, power, fun _ => Nat.succ_pos 4, fun _ => rfl, due⟩
  refine ⟨⟨queue, table, line, nofun, fun waits => ⟨rfl, (retry waits).2⟩, noSleep, polled, fun some => absurd rfl some,
    nofun⟩, fun other => ⟨queue, table, line, nofun, fun waits => ⟨rfl, (retry waits).2⟩, noSleep, polled, pass,
    fun p held => ⟨(phase p held).1, fun flies => ?_⟩⟩⟩
  have carried := (phase p held).2 flies
  rw [txn] at carried
  exact absurd (carried.symm.trans other) nofun

end

/-! ## Moves of the measuring blocks -/

/-- A property of the Coach Line that marks and the road's copies keep. -/
structure KeptByMarks (Q : Clc → Prop) : Prop where
  mark : ∀ i c, Q c → Q (c.mark i)
  road : ∀ live speed (c : Clc), Q c → Q { c with roadLive := live, roadSpeed := speed }

namespace KeptByMarks
variable {Q : Clc → Prop} (h : KeptByMarks Q) {s t : State}
include h

theorem marks (only : MarksOnly s t) : Keeps (fun u => Q u.clc) s t := by
  intro ok
  obtain ⟨items, clc⟩ := only
  rw [clc]
  exact List.foldlRecOn (motive := Q) _ _ ok fun c held i _ => h.mark i c held

theorem move (moved : HandMove s t) : Keeps (fun u => Q u.clc) s t := by
  intro ok
  cases moved with
  | elsewhere only apart =>
    have clc : t.clc = s.clc := only .clc fun mem => apart _ mem (by decide)
    rw [clc]
    exact ok
  | coach live speed => exact h.road live speed s.clc ok
  | flags => exact ok
  | mark i => exact h.mark i s.clc ok
  | notify n => exact h.marks (.of_only (notify_only s n)) ok
  | warn f test => exact h.marks (.wtbTake f test s) ok
  | arrival => exact h.marks (MarksOnly.walk.wtbArrival s) ok
  | alarm a al => exact h.marks (MarksOnly.walk.takeChime _ s) ok
  | alarmGone a => exact h.marks (MarksOnly.walk.removeChime _ s) ok

theorem handed (walked : Handed s t) : Keeps (fun u => Q u.clc) s t :=
  Handed.keeps (P := fun u => Q u.clc) h.move walked

end KeptByMarks

theorem coachLine_marks : KeptByMarks CoachLineOk where
  mark i c ok := CoachLineOk.queued ok (c.mark_keeps i) (MirrorQueueOk.marked ok.1 i)
  road _ _ _ ok := ok

theorem nodeTable_marks : KeptByMarks NodeTableOk where
  mark i c ok := by
    have nodes : (c.mark i).nodes = c.nodes := (congrArg Clc.nodes (c.mark_keeps i) :)
    rw [NodeTableOk, nodes]
    exact ok
  road _ _ _ ok := ok

section
variable (s : State)

theorem ownRearEvent_coachLine (e : RearEvent) : Keeps (fun u => CoachLineOk u.clc) s (ownRearEvent e s).1 := by
  rcases ownRearEvent_cases s e with handed | chime | ⟨on, privacy⟩ | acknowledged
  · exact coachLine_marks.handed handed
  · rw [chime]
    exact coachLine_marks.marks (MarksOnly.walk.takeChime _ s)
  · rw [privacy]
    exact coachLine_marks.marks (MarksOnly.alerts.privacy s on)
  · rw [acknowledged]
    exact coachLine_marks.marks (MarksOnly.walk.acknowledgeWhere _ s)

theorem takeRearEvent_coachLine (n : NodeIx) (e : RearEvent) :
    Keeps (fun u => CoachLineOk u.clc) s (takeRearEvent n s e) := by
  have noticed (n : Notice) (u : State) : Keeps (fun u => CoachLineOk u.clc) u (u.notify n) :=
    coachLine_marks.marks (.of_only (notify_only u n))
  unfold takeRearEvent
  split_ifs
  · exact (ownRearEvent_coachLine s e).trans (noticed _ _)
  · exact noticed _ s

theorem completePoll_coachLine (n : NodeIx) (answer : Option (List Byte)) :
    Keeps (fun u => CoachLineOk u.clc) s (completePoll n answer s) := by
  intro ok
  have refreshed (u : State) (held : CoachLineOk u.clc) : CoachLineOk (u.clc.markWhole n) :=
    CoachLineOk.queued held (u.clc.markWhole_keeps n) (MirrorQueueOk.markedWhole held.1 n)
  have answered := (validAnswer_follows ok.2.1 n).ok ok
  unfold completePoll
  split
  · dsimp only
    refine Keeps.foldl (P := fun u => CoachLineOk u.clc) (fun u e => takeRearEvent_coachLine u n e) _ _ ?_
    split_ifs
    · exact refreshed _ answered
    · exact answered
  · exact (nodeMiss_follows ok.2.1 n).ok ok

theorem completeMirror_coachLine (n : NodeIx) (item : MirrorItem) (answer : Option (List Byte)) :
    Keeps (fun u => CoachLineOk u.clc) s (completeMirror n item answer s) := by
  intro ok
  unfold completeMirror
  split
  · exact (validAnswer_follows ok.2.1 n).ok ok
  · have missed := (nodeMiss_follows ok.2.1 n).ok ok
    exact CoachLineOk.queued missed (Clc.appendPair_keeps item n _) (MirrorQueueOk.appendPair missed.1 item n)

/-- A pass-through whose transaction completes ends with it (R163). -/
theorem completePass_coachLine {n : NodeIx} {answer : Option (List Byte)} (table : NodeTableOk s.clc)
    (ok : CoachLineOk { s.clc with pass := none }) : CoachLineOk (completePass n answer s).clc := by
  unfold completePass
  split
  · rw [endPass_clc]
    exact (validAnswer_follows table n).passed ok
  · rw [endPass_clc]
    exact (nodeMiss_follows table n).passed ok

theorem completeTxn_coachLine (answer : Option (List Byte)) :
    Keeps (fun u => CoachLineOk u.clc) s (completeTxn answer s) := by
  intro ok
  unfold completeTxn
  split
  · rename_i t txn
    obtain ⟨loose, whole⟩ := CoachLineOk.dropped ok txn
    dsimp only
    cases kind : t.kind
    case poll n => exact completePoll_coachLine _ n answer (whole (by rw [kind]; rfl))
    case mirror n item => exact completeMirror_coachLine _ n item answer (whole (by rw [kind]; rfl))
    case pass n => exact completePass_coachLine _ ok.2.1 loose
    case sleep => exact whole (by rw [kind]; rfl)
  · exact ok

/-! ## The arbiter -/

end

/-- A transaction starts on a free line (R144, R150). -/
theorem CoachLineOk.started {c : Clc} (ok : CoachLineOk c) (running : c.line = .running) (idle : c.retry = none)
    {t : Txn} (awake : t.kind ≠ .sleep)
    (carried : t.kind.isPass = true ∨ ∀ p ∈ c.pass, p.phase = .waiting) : CoachLineOk { c with txn := some t } := by
  obtain ⟨queue, table, line, kinds, retry, noSleep, polled, pass, phase⟩ := ok
  refine ⟨queue, table, line, fun u started => ?_, fun waits => absurd idle waits, noSleep, polled, pass,
    fun p held => ⟨(phase p held).1, fun flies => ?_⟩⟩
  · obtain rfl := Option.some.inj started
    rw [if_neg awake]
    exact running
  · rcases carried with carries | waits
    · exact carries
    · exact absurd (flies.symm.trans (waits p held)) nofun

end Sys2Proof.Machine
end

section
/-! The arbiter, the rounds, contention, FAULT, Coach resets and the requests keep the invariant of the Coach Line (R148, R150,
R151, R157, R158, R159, R160, R162, R163). -/

namespace Sys2Proof.Machine

-- One theorem at a time, so that a build as one text needs few threads.
set_option Elab.async false

/-! ## The arbiter -/

/-- On a free line with nothing to be retried and no pass-through in flight (R150). -/
structure ReadyLine (c : Clc) : Prop where
  ok : CoachLineOk c
  running : c.line = .running
  idle : c.retry = none
  waits : ∀ p ∈ c.pass, p.phase = .waiting

section
variable {s : State}

theorem startTxn_clc (k : TxnKind) (s : State) : (startTxn k s).clc =
    { s.clc with txn := some { kind := k, frame := txnFrame s k, phase := .sending } } := rfl

theorem ReadyLine.startTxn (ready : ReadyLine s.clc) {k : TxnKind} (awake : k ≠ .sleep) :
    CoachLineOk (startTxn k s).clc := by
  rw [startTxn_clc]
  exact CoachLineOk.started ready.ok ready.running ready.idle awake (.inr ready.waits)

theorem ReadyLine.chooseWork (ready : ReadyLine s.clc) : CoachLineOk (chooseWork s).clc := by
  obtain ⟨ok, running, idle, waits⟩ := ready
  unfold Machine.chooseWork
  split
  · rename_i n _
    refine ReadyLine.startTxn (s := s.modNode n fun nd => { nd with due := false }) (k := .poll n) ⟨?_, running, idle, waits⟩ nofun
    refine CoachLineOk.follows ok rfl (MirrorQueueOk.congr ok.1 rfl id fun m => ?_) (follows_updAt (.settled _))
    rw [State.modNode_nodes, updAt_get]
    split_ifs with same
    · subst same
      rfl
    · rfl
  · rename_i n item rest _ queue
    refine ReadyLine.startTxn (s := s.modClc fun c => { c with mirrorQueue := rest }) (k := .mirror n item) ⟨?_, running, idle, waits⟩ nofun
    refine CoachLineOk.queued ok rfl (MirrorQueueOk.sublist ok.1 ?_)
    rw [queue]
    exact List.sublist_cons_self _ _
  · exact ok

theorem ReadyLine.endPass (ready : ReadyLine s.clc) (resp : Response) : ReadyLine (endPass resp s).clc := by
  rw [endPass_clc]
  exact ⟨CoachLineOk.passed ready.ok, ready.running, ready.idle, nofun⟩

theorem ReadyLine.startPass (ready : ReadyLine s.clc) (n : NodeIx) : CoachLineOk (startPass n s).clc := by
  unfold Machine.startPass
  split_ifs
  · obtain ⟨⟨queue, table, line, kinds, retry, noSleep, polled, pass, phase⟩, running, idle, waits⟩ := ready
    refine ⟨queue, table, line, fun t started => ?_, fun some => absurd idle some, noSleep, polled, fun some => ?_,
      fun p held => ?_⟩
    · obtain rfl := Option.some.inj started
      rw [if_neg nofun]
      exact running
    · exact pass fun none => some (congrArg (Option.map _) none)
    · obtain ⟨q, stood, rfl⟩ := Option.map_eq_some_iff.mp held
      exact ⟨(phase q stood).1, fun _ => rfl⟩
  · exact (ready.endPass _).chooseWork

/-- What is free of a transaction is ready once its retry is taken. -/
theorem CoachLineOk.ready {c : Clc} (ok : CoachLineOk c) (free : c.lineFree = true) :
    ReadyLine { c with retry := none } ∧ c.retry ≠ some .sleep := by
  obtain ⟨queue, table, line, kinds, retry, noSleep, polled, pass, phase⟩ := ok
  rw [Clc.lineFree, Bool.and_eq_true, Bool.and_eq_true, decide_eq_true_eq] at free
  obtain ⟨⟨running, empty⟩, -⟩ := free
  have idle : c.txn = none := Option.isNone_iff_eq_none.mp empty
  refine ⟨⟨⟨queue, table, line, kinds, fun some => absurd rfl some, nofun, nofun, pass, phase⟩, running, rfl,
    fun p held => ?_⟩, noSleep⟩
  cases stands : p.phase with
  | waiting => rfl
  | inFlight =>
    have carried := (phase p held).2 stands
    rw [idle] at carried
    cases carried

theorem arbiter_coachLine : Keeps (fun u => CoachLineOk u.clc) s (arbiter s) := by
  intro ok
  by_cases free : s.clc.lineFree = true
  · obtain ⟨ready, noSleep⟩ := CoachLineOk.ready ok free
    have same (none : s.clc.retry = none) : ReadyLine s.clc := by
      rw [← none] at ready
      exact ready
    unfold arbiter
    rw [if_pos free]
    split
    · exact ReadyLine.startPass (s := s.modClc fun c => { c with retry := none }) ready _
    · rename_i k _ waits
      exact ReadyLine.startTxn (s := s.modClc fun c => { c with retry := none }) ready fun sleep => noSleep (by
        rw [waits, sleep])
    · rename_i none
      split
      · split_ifs
        · split
          · exact (same none).startPass _
          · exact ((same none).endPass _).chooseWork
        · exact (same none).chooseWork
      · exact (same none).chooseWork
  · rw [arbiter_of_busy (Bool.eq_false_iff.mpr free)]
    exact ok

/-! ## Rounds and the line's state -/

/-- A round start writes a slot's due flag and its count of rounds alone (R151). -/
theorem Node.round_writes (x : Node) : ∃ due rounds, x.round = { x with due, lostRounds := rounds } ∧
    (x.lostRounds < 8 → rounds < 8) ∧ (due = true → x.due = true ∨ x.state ≠ .disabled) := by
  unfold Node.round
  split
  · rename_i state
    exact ⟨true, _, rfl, id, fun _ => .inr (by rw [state]; nofun)⟩
  · rename_i state
    exact ⟨true, _, rfl, id, fun _ => .inr (by rw [state]; nofun)⟩
  · rename_i state
    split_ifs with few
    · exact ⟨_, _, rfl, fun _ => few, .inl⟩
    · exact ⟨true, 0, rfl, fun _ => Nat.succ_pos 7, fun _ => .inr (by rw [state]; nofun)⟩
  · exact ⟨_, _, rfl, id, .inl⟩

/-- A slot at a round start, due or held back (R151, R157). -/
theorem NodeOk.round {x : Node} (ok : NodeOk x) (waits : Bool) :
    NodeOk (if waits then { x.round with due := false } else x.round) := by
  obtain ⟨lo, hi, alo, ahi, misses, rounds, off, due⟩ := ok
  obtain ⟨flag, k, written, few, set⟩ := x.round_writes
  rw [written]
  cases waits
  case false => exact ⟨lo, hi, alo, ahi, misses, few rounds, off, fun on => (set on).elim due id⟩
  case true => exact ⟨lo, hi, alo, ahi, misses, few rounds, off, nofun⟩

/-- What a round writes into a slot leaves its place in the table. -/
theorem Node.round_place (x : Node) : x.round.enabled = x.enabled ∧ x.round.address = x.address ∧
    x.round.nodeAlias = x.nodeAlias ∧ x.round.state = x.state := by
  obtain ⟨flag, k, written, -, -⟩ := x.round_writes
  rw [written]
  exact ⟨rfl, rfl, rfl, rfl⟩

/-- The slots a round start leaves. -/
abbrev Clc.rounded (c : Clc) : Vector Node 6 :=
  Vector.ofFn fun n => if c.waits n then { c.nodes[n].round with due := false } else c.nodes[n].round

theorem Clc.rounded_get (c : Clc) (n : NodeIx) :
    c.rounded[n] = if c.waits n then { c.nodes[n].round with due := false } else c.nodes[n].round :=
  Vector.getElem_ofFn n.isLt

/-- A round start on a line that is up (R151). -/
theorem CoachLineOk.roundStarted {c : Clc} (ok : CoachLineOk c) (up : c.line.up = true) (k : Nat) :
    CoachLineOk { c with nodes := c.rounded, roundTimer := some k } := by
  obtain ⟨queue, table, ⟨round, backoff, held, sleep, power, few, resetting, due⟩, kinds, retry, noSleep, polled, pass,
    phase⟩ := ok
  have place (n : NodeIx) : c.rounded[n].enabled = c.nodes[n].enabled ∧ c.rounded[n].address = c.nodes[n].address ∧
      c.rounded[n].nodeAlias = c.nodes[n].nodeAlias ∧ c.rounded[n].state = c.nodes[n].state := by
    rw [Clc.rounded_get]
    split_ifs <;> exact c.nodes[n].round_place
  refine ⟨MirrorQueueOk.congr queue rfl id fun n => (place n).2.2.2, NodeTableOk.of table (fun n ok => ?_)
    (fun n => (place n).1) (fun n => (place n).2.1) fun n => (place n).2.2.1,
    ⟨⟨fun _ => up, fun _ => rfl⟩, backoff, held, sleep, power, few, resetting, fun _ _ => up⟩,
    kinds, retry, noSleep, fun k waits n polls => ?_, pass, phase⟩
  · rw [show ({ c with nodes := c.rounded, roundTimer := some k } : Clc).nodes[n] = c.rounded[n] from rfl, Clc.rounded_get]
    exact NodeOk.round ok _
  · have held : c.waits n = true := by
      unfold Clc.waits
      rw [show c.retry = some k from waits]
      exact decide_eq_true polls
    show c.rounded[n].due = false
    rw [Clc.rounded_get, if_pos held]

theorem startRound_coachLine (up : s.clc.line.up = true) : Keeps (fun u => CoachLineOk u.clc) s (startRound s) := by
  intro ok
  rw [startRound_eq]
  exact CoachLineOk.roundStarted ok up _

/-- The line takes a state: its marks keep the queue in order. -/
theorem setLine_queueOk {st : LineState} (ok : MirrorQueueOk s.clc) (up : s.clc.line.up = true → st.up = true) :
    MirrorQueueOk (setLine st s).clc := by
  by_cases same : s.clc.line = st
  · have idle : setLine st s = s := if_pos same
    rw [idle]
    exact ok
  · rw [setLine_of_changed same]
    exact MirrorQueueOk.marks (s := s.modClc fun c => { c with line := st }) (MirrorQueueOk.congr ok rfl up fun _ => rfl)
      (wtbLine_marks st _)

/-- The line takes a state in which the invariant stands. -/
theorem setLine_coachLine {st : LineState} (ok : CoachLineOk { s.clc with line := st })
    (before : MirrorQueueOk s.clc) (up : s.clc.line.up = true → st.up = true) : CoachLineOk (setLine st s).clc :=
  CoachLineOk.queued ok (by rw [setLine_clc]) (setLine_queueOk before up)

end

end Sys2Proof.Machine
end

section
/-! Contention, FAULT, Coach resets, SLEEP frames, the power state, the requests, and the invariant of the Coach Line over
every step (R148, R157, R158, R159, R160, R162, R164, R165). -/

namespace Sys2Proof.Machine

-- One theorem at a time, so that a build as one text needs few threads.
set_option Elab.async false

section
variable {s : State} {c : Clc}

/-! ## The end of RESETTING, backoff and contention -/

/-- A line that is not up has nothing to be retried, no pass-through and an empty queue. -/
theorem CoachLineOk.of_down (ok : CoachLineOk c) (down : c.line.up = false) :
    c.retry = none ∧ c.pass = none ∧ c.mirrorQueue = [] := by
  obtain ⟨⟨-, -, queue⟩, -, -, -, retry, -, -, pass, -⟩ := ok
  refine ⟨?_, ?_, ?_⟩ <;> by_contra some
  · exact absurd ((retry some).2.symm.trans down) nofun
  · exact absurd ((pass some).symm.trans down) nofun
  · exact absurd ((queue some).symm.trans down) nofun

/-- The released line becomes RUNNING with its round timer (R159). -/
theorem CoachLineOk.released (ok : CoachLineOk c) (resetting : c.line = .resetting) (high : c.heldLow = false) (k : Nat) :
    CoachLineOk { c with line := .running, roundTimer := some k } := by
  obtain ⟨queue, table, ⟨-, backoff, -, sleep, power, -, fresh, -⟩, kinds, retry, noSleep, polled, pass, phase⟩ := ok
  have up : c.line ≠ .off := by rw [resetting]; nofun
  refine ⟨MirrorQueueOk.congr queue rfl (fun _ => rfl) fun _ => rfl, table,
    ⟨⟨fun _ => rfl, fun _ => rfl⟩, ⟨fun runs => ?_, nofun⟩, fun low => absurd (high.symm.trans low) nofun,
      fun waits => absurd (sleep waits) up, ⟨fun parked => absurd (power.mp parked) up, nofun⟩, fun _ => ?_, nofun,
      fun _ _ => rfl⟩,
    fun t held => ?_, fun waits => ⟨(retry waits).1, rfl⟩, noSleep, polled, fun _ => rfl, phase⟩
  · exact absurd (resetting.symm.trans (backoff.mp runs)) nofun
  · show c.contentions < 5
    rw [fresh resetting]
    decide
  · have stands := kinds t held
    rw [resetting] at stands
    split_ifs at stands

theorem resettingEnd_coachLine : Keeps (fun u => CoachLineOk u.clc) s (resettingEnd s) := by
  intro ok
  by_cases due : s.clc.line = .resetting ∧ s.clc.heldLow = false
  · obtain ⟨resetting, released⟩ := due
    rw [resettingEnd_of resetting released]
    have whole := CoachLineOk.roundStarted (CoachLineOk.released ok resetting released 0) rfl (50 * s.clc.roundPeriod)
    have queue := setLine_queueOk (st := .running) ok.1 fun _ => rfl
    have clc := startRound_setLine_clc s
    have round : (startRound (setLine .running s)).clc = _ := congrArg State.clc (startRound_eq (setLine .running s))
    have states : MirrorQueueOk (startRound (setLine .running s)).clc := by
      rw [round]
      refine MirrorQueueOk.congr queue rfl id fun n => ?_
      show ((setLine .running s).clc.rounded[n]).state = _
      rw [Clc.rounded_get]
      split_ifs <;> exact (Node.round_place _).2.2.2
    refine CoachLineOk.queued whole ?_ states
    rw [clc]
    rfl
  · have idle : resettingEnd s = s := if_neg due
    rw [idle]
    exact ok

/-- Backoff ends on a RUNNING line (R157). -/
theorem CoachLineOk.backedOff (ok : CoachLineOk c) (backoff : c.line = .backoff) :
    CoachLineOk { c with backoffTimer := none, line := .running } := by
  obtain ⟨queue, table, ⟨round, -, held, sleep, power, few, -, due⟩, kinds, retry, noSleep, polled, pass, phase⟩ := ok
  rw [backoff] at round held sleep power few kinds
  refine ⟨MirrorQueueOk.congr queue rfl (fun _ => rfl) fun _ => rfl, table,
    ⟨round, ⟨nofun, nofun⟩, fun low => absurd (held low) nofun, fun waits => absurd (sleep waits) nofun,
      ⟨fun parked => absurd (power.mp parked) nofun, nofun⟩, few, nofun, fun _ _ => rfl⟩,
    fun t held => ?_, fun waits => ⟨(retry waits).1, rfl⟩, noSleep, polled, fun _ => rfl, phase⟩
  have stands := kinds t held
  split_ifs at stands

theorem backoffExpiry_coachLine : Keeps (fun u => CoachLineOk u.clc) s (backoffExpiry s) := by
  intro ok
  by_cases due : s.clc.line = .backoff ∧ s.clc.backoffTimer.isSome
  · obtain ⟨backoff, running⟩ := due
    rw [backoffExpiry_of backoff (Option.isSome_iff_ne_none.mp running)]
    have after := CoachLineOk.backedOff ok backoff
    exact setLine_coachLine (s := s.modClc fun c => { c with backoffTimer := none }) after ok.1 fun _ => rfl
  · have idle : backoffExpiry s = s := if_neg due
    rw [idle]
    exact ok

/-- The slots after contention differ in due flags that are cleared (R157). -/
theorem collided_follows (t : Txn) (c : Clc) (n : NodeIx) : c.nodes[n].Follows (c.collided t).nodes[n] ∧
    (c.collided t).nodes[n].state = c.nodes[n].state := by
  obtain ⟨polled, other⟩ := collided_node t c n
  by_cases is : t.kind = .poll n ∨ ∃ item, t.kind = .mirror n item
  · rw [polled is]
    exact ⟨.settled _, rfl⟩
  · rw [other is]
    exact ⟨.refl _, rfl⟩

/-- A transaction that meets contention leaves the line in BACKOFF while the count allows (R157). -/
theorem CoachLineOk.collided (ok : CoachLineOk c) {t : Txn} (txn : c.txn = some t) (awake : t.kind ≠ .sleep)
    (few : c.contentions + 1 < 5) : CoachLineOk { c.collided t with backoffTimer := some 50, line := .backoff } := by
  obtain ⟨queue, table, ⟨round, -, held, sleep, power, -, -, due⟩, kinds, -, -, -, pass, phase⟩ := ok
  have running : c.line = .running := by
    have stands := kinds t txn
    rwa [if_neg awake] at stands
  rw [running] at round held sleep power
  refine ⟨MirrorQueueOk.congr queue rfl (fun _ => rfl) fun n => (collided_follows t c n).2,
    NodeTableOk.follows (d := c.collided t) table fun n => (collided_follows t c n).1,
    ⟨round, ⟨fun _ => rfl, fun _ => rfl⟩, fun low => absurd (held low) nofun, fun waits => absurd (sleep waits) nofun,
      ⟨fun parked => absurd (power.mp parked) nofun, nofun⟩, fun _ => few, nofun, fun _ _ => rfl⟩,
    nofun, fun _ => ⟨rfl, rfl⟩, fun sleeps => ?_, fun k waits n polls => ?_, fun _ => rfl, fun p stands => ?_⟩
  · have retried : c.retryOf t.kind = some .sleep := sleeps
    rw [retryOf_eq] at retried
    split_ifs at retried
    exact awake (Option.some.inj retried)
  · have retried : c.retryOf t.kind = some k := waits
    have node := (collided_node t c n).1 ((retryOf_polled c t.kind n).mp (by
      rw [retried]
      exact decide_eq_true polls))
    exact congrArg Node.due node
  · obtain ⟨q, before, rfl⟩ := Option.map_eq_some_iff.mp (stands : c.pass.map _ = some p)
    exact ⟨(phase q before).1, nofun⟩

/-! ## The line taken down -/

theorem Node.Follows.enterIfEnabled {g : Node → Node} (writes : ∀ x : Node, x.Follows (g x)) {st : NodeState}
    (awake : st ≠ .disabled) (x : Node) : x.Follows (x.enterIfEnabled g st) := by
  unfold Node.enterIfEnabled
  split_ifs with enabled
  · exact writes x
  · refine (writes x).trans (.entering ⟨fun off => absurd off awake, fun off => ?_⟩ fun off => absurd off awake)
    rw [(writes x).enabled] at off
    exact absurd (off.symm.trans enabled) nofun
  · exact .refl x

/-- What FAULT and a Coach reset leave: nothing runs on the line and nothing is due (R158, R159). -/
structure ClearedLine (c : Clc) : Prop where
  down : c.line.up = false
  awake : c.line ≠ .off ∧ c.power ≠ .parked
  queue : c.mirrorQueue = []
  txn : c.txn = none
  retry : c.retry = none
  timers : c.roundTimer = none ∧ c.backoffTimer = none
  low : c.heldLow = true → c.line = .resetting
  sleep : c.sleepWaiting = false
  fresh : c.line = .resetting → c.contentions = 0

theorem LineDown.table {g : Node → Node} {st : NodeState} {t : State} (h : LineDown c g st s t)
    (writes : ∀ x : Node, x.Follows (g x)) (on : st ≠ .disabled) (table : NodeTableOk s.clc) :
    NodeTableOk t.clc ∧ ∀ n : NodeIx, t.clc.nodes[n].due = false := by
  have slots (n : NodeIx) : ({ s.clc.nodes[n] with due := false } : Node).Follows t.clc.nodes[n] := by
    rw [h.nodes]
    exact .enterIfEnabled writes on _
  exact ⟨NodeTableOk.follows table fun n => (Node.Follows.settled _).trans (slots n),
    fun n => Bool.eq_false_iff.mpr fun due => absurd ((slots n).due due) nofun⟩

theorem LineDown.coachLine {g : Node → Node} {st : NodeState} {t : State} (h : LineDown c g st s t)
    (writes : ∀ x : Node, x.Follows (g x)) (on : st ≠ .disabled) (table : NodeTableOk s.clc) (cleared : ClearedLine c) :
    CoachLineOk t.clc := by
  obtain ⟨slots, quiet⟩ := h.table writes on table
  obtain ⟨down, ⟨awake, power⟩, queue, txn, retry, ⟨round, backoff⟩, low, sleep, fresh⟩ := cleared
  have other : c.line ≠ .backoff := fun same => absurd (down.symm.trans (congrArg LineState.up same)) nofun
  have clc := h.clc
  generalize t.clc = d at clc slots quiet ⊢
  rw [clc] at slots ⊢
  have up : c.line.up ≠ true := fun up => absurd (down.symm.trans up) nofun
  refine ⟨MirrorQueueOk.of_empty queue, slots,
    ⟨⟨fun runs => ?_, fun is => absurd is up⟩, ⟨fun runs => ?_, fun is => absurd is other⟩, low, fun waits => ?_,
      ⟨fun parked => absurd parked power, fun off => absurd off awake⟩, fun is => absurd is up, fresh,
      fun n due => absurd ((quiet n).symm.trans due) nofun⟩,
    fun u held => ?_, fun waits => absurd retry waits, fun waits => ?_, fun k waits => ?_, fun some => absurd rfl some, nofun⟩
  · rw [show ({ c with pass := none, nodes := d.nodes } : Clc).roundTimer = c.roundTimer from rfl, round] at runs
    cases runs
  · rw [show ({ c with pass := none, nodes := d.nodes } : Clc).backoffTimer = c.backoffTimer from rfl, backoff] at runs
    cases runs
  · exact absurd (sleep.symm.trans waits) nofun
  · exact absurd (txn.symm.trans held) nofun
  · exact absurd (retry.symm.trans waits) nofun
  · exact absurd (retry.symm.trans waits) nofun

theorem lineFault_coachLine (table : NodeTableOk s.clc) (awake : s.clc.power ≠ .parked) (high : s.clc.heldLow = false)
    (sleep : s.clc.sleepWaiting = false) : CoachLineOk (lineFault s).clc :=
  (lineFault_down s).coachLine (fun _ => .refl _) nofun table
    ⟨rfl, ⟨nofun, awake⟩, rfl, rfl, rfl, ⟨rfl, rfl⟩, fun low => absurd (high.symm.trans low) nofun, sleep, nofun⟩

theorem Node.Follows.rejoined (x : Node) : x.Follows x.rejoined := by
  refine ⟨rfl, rfl, rfl, fun ok => ?_, id⟩
  obtain ⟨lo, hi, alo, ahi, -, -, off, due⟩ := ok
  exact ⟨lo, hi, alo, ahi, Nat.zero_le 3, Nat.succ_pos 7, off, due⟩

theorem coachReset_coachLine (table : NodeTableOk s.clc) (awake : s.clc.power ≠ .parked) :
    CoachLineOk (coachReset s).clc :=
  (coachReset_down s).coachLine .rejoined nofun table
    ⟨rfl, ⟨nofun, awake⟩, rfl, rfl, rfl, ⟨rfl, rfl⟩, fun _ => rfl, rfl, fun _ => rfl⟩

theorem contention_coachLine : Keeps (fun u => CoachLineOk u.clc) s (contention s) := by
  intro ok
  cases txn : s.clc.txn with
  | none =>
    rw [contention_of_no_txn txn]
    exact ok
  | some t =>
    by_cases sending : t.phase = .sending
    · by_cases sleep : t.kind = .sleep
      · rw [contention_of_sleep txn sending sleep]
        obtain ⟨queue, table, line, kinds, retry, noSleep, polled, pass, phase⟩ := ok
        refine ⟨queue, table, line, nofun, fun waits => ⟨rfl, (retry waits).2⟩, noSleep, polled, pass,
          fun p held => ⟨(phase p held).1, fun flies => ?_⟩⟩
        have carried := (phase p held).2 flies
        rw [txn] at carried
        change t.kind.isPass = true at carried
        rw [sleep] at carried
        cases carried
      · rcases Nat.lt_or_ge (s.clc.contentions + 1) 5 with few | fifth
        · rw [contention_of_few txn sending sleep few]
          refine setLine_coachLine (s := s.modClc fun c => { c.collided t with backoffTimer := some 50 })
            (CoachLineOk.collided ok txn sleep few) ?_ fun _ => rfl
          exact MirrorQueueOk.congr ok.1 rfl id fun n => (collided_follows t s.clc n).2
        · rw [contention_of_fifth txn sending sleep fifth]
          obtain ⟨-, table, ⟨-, -, held, sleeps, power, -, -, -⟩, kinds, -⟩ := ok
          have running : s.clc.line = .running := by
            have stands := kinds t txn
            rwa [if_neg sleep] at stands
          rw [running] at held sleeps power
          exact lineFault_coachLine (s := s.modClc (Clc.collided t))
            (NodeTableOk.follows table fun n => (collided_follows t s.clc n).1) (fun parked => absurd (power.mp parked) nofun)
            (Bool.eq_false_iff.mpr fun low => absurd (held low) nofun)
            (Bool.eq_false_iff.mpr fun waits => absurd (sleeps waits) nofun)
    · rw [contention_of_not_sending txn sending]
      exact ok

/-! ## Requests -/

/-- A slot as SET NODE leaves it is in order (R148). -/
theorem configureNode_nodeOk {n : NodeIx} {x : NodeConfig} (ok : NodeOk s.clc.nodes[n])
    (address : 1 ≤ x.address ∧ x.address ≤ 30) (nodeAlias : 1 ≤ x.nodeAlias ∧ x.nodeAlias ≤ 30) :
    NodeOk (configureNode n x s).clc.nodes[n] := by
  obtain ⟨-, -, -, -, misses, rounds, -, -⟩ := ok
  have state : s.clc.stateSet x = .disabled ↔ x.enabled = false := by
    unfold Clc.stateSet
    cases x.enabled
    · simp
    · rw [if_neg nofun]
      split_ifs <;> simp
  have lostRounds : (configureNode n x s).clc.nodes[n].lostRounds < 8 := by
    rw [configureNode_eq, setNodeState_nodes, nodeWritten_state]
    have written : (Node.configured x (s.clc.stateSet x) s.clc.nodes[n]).lostRounds < 8 := by
      unfold Node.configured
      dsimp only
      split_ifs
      · decide
      · exact rounds
    split_ifs
    · rw [nodeWritten_nodes, updAt_get_same]
      exact written
    · rw [updAt_get_same, nodeWritten_nodes, updAt_get_same]
      cases st : s.clc.stateSet x
      case disabled =>
        rw [st] at written
        exact written
      all_goals exact Nat.succ_pos 7
  obtain ⟨node, -⟩ := configureNode_node n x (s := s)
  rw [node]
  refine ⟨address.1, address.2, nodeAlias.1, nodeAlias.2, ?_, lostRounds, state, nofun⟩
  dsimp only
  split_ifs
  · exact Nat.zero_le 3
  · exact misses

/-- One slot of the table is configured apart from the others (R148). -/
theorem NodeTableOk.configured {d : Clc} {n : NodeIx} {x : NodeConfig} (ok : NodeTableOk c)
    (others : ∀ m : NodeIx, m ≠ n → d.nodes[m] = c.nodes[m]) (own : NodeOk d.nodes[n])
    (written : d.nodes[n].enabled = x.enabled ∧ d.nodes[n].address = x.address ∧ d.nodes[n].nodeAlias = x.nodeAlias)
    (apart : x.enabled = true → ∀ m : NodeIx, m ≠ n → c.nodes[m].enabled = true →
      c.nodes[m].address ≠ x.address ∧ c.nodes[m].nodeAlias ≠ x.nodeAlias) : NodeTableOk d := by
  obtain ⟨each, pairs⟩ := ok
  obtain ⟨enabled, address, nodeAlias⟩ := written
  refine ⟨fun m => ?_, fun l m other on on' => ?_⟩
  · by_cases same : m = n
    · rw [same]
      exact own
    · rw [others m same]
      exact each m
  · by_cases same : l = n
    · subst same
      rw [others m (Ne.symm other)] at on' ⊢
      rw [address, nodeAlias]
      obtain ⟨a, b⟩ := apart (enabled.symm.trans on) m (Ne.symm other) on'
      exact ⟨Ne.symm a, Ne.symm b⟩
    · rw [others l same] at on ⊢
      by_cases same' : m = n
      · subst same'
        rw [address, nodeAlias]
        exact apart (enabled.symm.trans on') l other on
      · rw [others m same'] at on' ⊢
        exact pairs l m other on on'

/-- What SET NODE writes into a slot. -/
theorem configureNode_written (n : NodeIx) (x : NodeConfig) (s : State) :
    ((configureNode n x s).clc.nodes[n].enabled = x.enabled ∧ (configureNode n x s).clc.nodes[n].address = x.address ∧
      (configureNode n x s).clc.nodes[n].nodeAlias = x.nodeAlias) ∧ (configureNode n x s).clc.nodes[n].due = false := by
  obtain ⟨node, -⟩ := configureNode_node n x (s := s)
  generalize (configureNode n x s).clc.nodes[n] = y at node ⊢
  rw [node]
  exact ⟨⟨rfl, rfl, rfl⟩, rfl⟩

theorem configureNode_queueOk {n : NodeIx} {x : NodeConfig} (ok : MirrorQueueOk s.clc) :
    MirrorQueueOk (configureNode n x s).clc := by
  rw [configureNode_eq]
  refine setNodeState_queueOk ?_ fun _ _ q mem => of_decide_eq_true (List.mem_filter.mp mem).2
  have shorter := MirrorQueueOk.sublist (queue := s.clc.mirrorQueue.filter fun p => p.1 ≠ n) ok List.filter_sublist
  refine MirrorQueueOk.congr shorter rfl id fun m => ?_
  by_cases same : m = n
  · rw [same]
    exact nodeWritten_state n x s
  · rw [nodeWritten_nodes, updAt_get_other _ _ _ _ (Ne.symm same)]

/-- The line with one slot configured (R148). -/
theorem CoachLineOk.configured {d : Clc} {n : NodeIx} {x : NodeConfig} (ok : CoachLineOk c)
    (keeps : { d with nodes := c.nodes, mirrorQueue := c.mirrorQueue } = c) (queue : MirrorQueueOk d)
    (others : ∀ m : NodeIx, m ≠ n → d.nodes[m] = c.nodes[m]) (own : NodeOk d.nodes[n])
    (written : d.nodes[n].enabled = x.enabled ∧ d.nodes[n].address = x.address ∧ d.nodes[n].nodeAlias = x.nodeAlias)
    (quiet : d.nodes[n].due = false) (free : x.enabled = true → c.conflicts n x = false) : CoachLineOk d := by
  have table : NodeTableOk d := NodeTableOk.configured ok.2.1 others own written fun on m other on' => by
    have alone (same : c.nodes[m].address = x.address ∨ c.nodes[m].nodeAlias = x.nodeAlias) : False :=
      absurd ((free on).symm.trans ((conflicts_iff c n x).mpr ⟨m, other, on', same⟩)) nofun
    exact ⟨fun same => alone (.inl same), fun same => alone (.inr same)⟩
  refine CoachLineOk.retabled ok keeps queue table fun m due => ?_
  by_cases same : m = n
  · subst same
    exact absurd (quiet.symm.trans due) nofun
  · rw [others m same] at due
    exact due

/-- SET NODE, once its tests pass (R148). -/
theorem configureNode_coachLine {n : NodeIx} {x : NodeConfig} (address : 1 ≤ x.address ∧ x.address ≤ 30)
    (nodeAlias : 1 ≤ x.nodeAlias ∧ x.nodeAlias ≤ 30) (free : x.enabled = true → s.clc.conflicts n x = false)
    (ok : CoachLineOk s.clc) : CoachLineOk (configureNode n x s).clc := by
  obtain ⟨written, quiet⟩ := configureNode_written n x s
  have own : NodeOk (configureNode n x s).clc.nodes[n] := configureNode_nodeOk (ok.2.1.1 n) address nodeAlias
  have others : ∀ m : NodeIx, m ≠ n → (configureNode n x s).clc.nodes[m] = s.clc.nodes[m] :=
    fun m other => configureNode_other x other
  have queue : MirrorQueueOk (configureNode n x s).clc := configureNode_queueOk ok.1
  have keeps := configureNode_keeps n x s
  generalize (configureNode n x s).clc = d at written quiet own others queue keeps ⊢
  exact CoachLineOk.configured ok keeps queue others own written quiet free

theorem setNode_coachLine (r : Request) : Keeps (fun u => CoachLineOk u.clc) s (ownSetNode r s).1 := by
  unfold ownSetNode
  cases fields : nodeFields r.body with
  | none => exact .refl s
  | some p =>
    obtain ⟨n, x⟩ := p
    obtain ⟨-, -, ⟨address, low, high⟩, ⟨nodeAlias, low', high'⟩, -, -⟩ := nodeFields_eq_some.mp fields
    show Keeps _ s (setNode (n, x) s).1
    unfold setNode emptyAnswer
    split_ifs with busy conflict
    · exact .refl s
    · exact .refl s
    · dsimp only
      exact configureNode_coachLine (by rw [← address]; exact ⟨low, high⟩) (by rw [← nodeAlias]; exact ⟨low', high'⟩)
        fun on => Bool.eq_false_iff.mpr fun same => conflict ⟨on, same⟩

/-- A pass-through as COACH PASS asks for it waits, with at most 16 bytes (R162). -/
theorem passFields_waits {tag : Byte} {body : List Byte} {p : PassThrough} (fields : passFields tag body = some p) :
    p.phase = .waiting ∧ p.data.length ≤ 16 := by
  simp only [passFields, bind, Option.bind_eq_some_iff, within_eq_some] at fields
  obtain ⟨_, -, kind, -, _, ⟨rfl, -, few⟩, asked⟩ := fields
  have short : ((body.drop 4).take (u8 body 3)).length ≤ 16 := by
    rw [List.length_take]
    exact le_trans (Nat.min_le_left _ _) few
  split_ifs at asked
  · obtain ⟨_, -, asked⟩ := Option.bind_eq_some_iff.mp asked
    obtain rfl := Option.some.inj asked
    exact ⟨rfl, short⟩
  · obtain ⟨_, -, asked⟩ := Option.bind_eq_some_iff.mp asked
    cases asked
  · obtain rfl := Option.some.inj asked
    exact ⟨rfl, short⟩

theorem coachPass_coachLine (r : Request) : Keeps (fun u => CoachLineOk u.clc) s (ownCoachPass r s).1 := by
  unfold ownCoachPass
  split_ifs
  · exact .refl s
  · cases fields : passFields r.tag r.body with
    | none => exact .refl s
    | some p =>
      obtain ⟨waits, short⟩ := passFields_waits fields
      show Keeps _ s (acceptPass p s).1
      unfold acceptPass
      split_ifs with shut
      · exact .refl s
      · have up : s.clc.line.up = true := Bool.eq_true_of_not_eq_false fun down => shut (.inr down)
        split
        · split_ifs
          · rintro ⟨queue, table, line, kinds, retry, noSleep, polled, -, -⟩
            refine ⟨queue, table, line, kinds, retry, noSleep, polled, fun _ => up, fun q held => ?_⟩
            obtain rfl := Option.some.inj held
            exact ⟨short, fun flies => absurd (waits.symm.trans flies) nofun⟩
          · exact .refl s
        · exact .refl s

end

end Sys2Proof.Machine
end

section
/-! The invariant of the Coach Line over the changes of the power state, the resets and every step (R160, R164, R165). -/

namespace Sys2Proof.Machine

-- One theorem at a time, so that a build as one text needs few threads.
set_option Elab.async false

/-! ## Changes of the power state -/

section
variable {Q : Clc → Prop} (h : KeptByMarks Q) (s : State)
include h

theorem KeptByMarks.others {b : Block} (other : b ≠ .clc) : Keeps (fun u => Q u.clc) s (takeRunEntry b s) ∧
    Keeps (fun u => Q u.clc) s (takeParkedEntry b s) ∧ ∀ p, Keeps (fun u => Q u.clc) s (takeCrank p b s) := by
  have unread {ps : List Part} {t : State} (only : OnlyChanges ps s t) (apart : Part.clc ∉ ps) :
      Keeps (fun u => Q u.clc) s t := h.marks (.of_only only apart)
  cases b
  case clc => exact absurd rfl other
  case wtb => exact ⟨h.marks (MarksOnly.alerts.runEntry s), h.marks (MarksOnly.alerts.parkedEntry s),
    fun p => h.marks (MarksOnly.alerts.crank s p)⟩
  case chs => exact ⟨h.marks (MarksOnly.alerts.power s .run), h.marks (MarksOnly.alerts.power s .parked),
    fun p => h.marks (MarksOnly.alerts.power s p)⟩
  case lkp => exact ⟨unread (modLkp_only s _) (by decide), unread (modLkp_only s _) (by decide),
    fun p => unread (modLkp_only s _) (by decide)⟩
  all_goals exact ⟨h.handed (takeRunEntry_handed s rfl), h.handed (takeParkedEntry_handed s rfl),
    fun p => h.handed (takeCrank_handed s rfl)⟩

end

section
variable {s : State}

/-- Run entry starts a Coach reset (R159). -/
theorem clcRunEntry_coachLine (table : NodeTableOk s.clc) : CoachLineOk (takeRunEntry .clc s).clc := by
  have takes : takeRunEntry .clc s = coachReset (s.modClc fun c => { c with power := .run }) := rfl
  rw [takes]
  exact coachReset_coachLine (s := s.modClc fun c => { c with power := .run }) table nofun

/-- What the CLC's Run entry brings about, the other blocks keep. -/
theorem enterRun_reaches {before goal : Clc → Prop} (kept : KeptByMarks before) (stays : KeptByMarks goal)
    (reach : ∀ u : State, before u.clc → goal (takeRunEntry .clc u).clc) (start : before s.clc) : goal (enterRun s).clc :=
  hand_reaches (targets := allBlocks) (take := takeRunEntry) (b := .clc) (before := fun u => before u.clc)
    (goal := fun u => goal u.clc) (s := s.modIgs fun g => { g with power := .run }) (by decide) (fun _ _ held => held) reach
    (fun _ u other => (kept.others u other).1) (fun _ u other => (stays.others u other).1) start

theorem enterRun_coachLine (table : NodeTableOk s.clc) : CoachLineOk (enterRun s).clc :=
  enterRun_reaches nodeTable_marks coachLine_marks (fun _ held => clcRunEntry_coachLine held) table

/-- Parked entry takes the line down (R160). -/
theorem CoachLineOk.parked {c : Clc} (table : NodeTableOk c) (awake : Bool) :
    CoachLineOk { c.abandon with power := .parked, heldLow := false, sleepWaiting := awake, pass := none, line := .off } := by
  have quiet (n : NodeIx) : c.abandon.nodes[n].due = false := by rw [Clc.abandon_nodes]
  refine ⟨MirrorQueueOk.of_empty rfl, NodeTableOk.follows table fun n => ?_,
    ⟨⟨nofun, nofun⟩, ⟨nofun, nofun⟩, nofun, fun _ => rfl, ⟨fun _ => rfl, fun _ => rfl⟩, nofun, nofun,
      fun n due => absurd ((quiet n).symm.trans due) nofun⟩,
    nofun, fun some => absurd rfl some, nofun, nofun, fun some => absurd rfl some, nofun⟩
  show c.nodes[n].Follows c.abandon.nodes[n]
  rw [Clc.abandon_nodes]
  exact .settled _

theorem clcParkedEntry_coachLine : Keeps (fun u => CoachLineOk u.clc) s (clcParkedEntry s) := by
  intro ok
  unfold clcParkedEntry
  dsimp only
  generalize decide (s.clc.line = .running ∨ s.clc.line = .backoff ∨ s.clc.line = .resetting) = awake
  have clc := endPass_clc (.refuse .aborted) (s.modClc fun c =>
    { c.abandon with power := .parked, heldLow := false, sleepWaiting := awake })
  generalize endPass (.refuse .aborted) (s.modClc fun c =>
    { c.abandon with power := .parked, heldLow := false, sleepWaiting := awake }) = t at clc ⊢
  have empty : t.clc.mirrorQueue = [] := by
    rw [clc]
    rfl
  have whole := CoachLineOk.parked ok.2.1 awake
  have parked : CoachLineOk { t.clc with line := .off } := by
    rw [clc]
    exact whole
  by_cases same : t.clc.line = .off
  · have idle : setLine .off t = t := if_pos same
    rw [idle]
    rw [← same] at parked
    exact parked
  · rw [setLine_of_changed same]
    have down := (wtbLine_marks .off (t.modClc fun c => { c with line := .off })).clc_of_down rfl
    rw [down]
    exact parked

theorem sleepStart_coachLine : Keeps (fun u => CoachLineOk u.clc) s (sleepStart s) := by
  intro ok
  unfold sleepStart
  split_ifs with waiting
  · have off : s.clc.line = .off := by
      obtain ⟨-, -, ⟨-, -, -, sleep, -⟩, -⟩ := ok
      exact sleep waiting
    obtain ⟨idle, noPass, -⟩ := CoachLineOk.of_down ok (by rw [off]; rfl)
    obtain ⟨queue, table, ⟨round, backoff, held, sleep, power, few, resetting, due⟩, kinds, retry, noSleep, polled, pass,
      phase⟩ := ok
    rw [startTxn_clc]
    refine ⟨queue, table, ⟨round, backoff, held, nofun, power, few, resetting, due⟩, fun t started => ?_,
      fun waits => absurd idle waits, noSleep, polled, pass, fun p stands => absurd (noPass.symm.trans stands) nofun⟩
    obtain rfl := Option.some.inj started
    rw [if_pos rfl]
    exact off
  · exact ok

theorem lineRelease_coachLine : Keeps (fun u => CoachLineOk u.clc) s (lineRelease s) := by
  intro ok
  unfold lineRelease
  split_ifs
  · obtain ⟨queue, table, ⟨round, backoff, held, sleep, power, few, resetting, due⟩, txn⟩ := ok
    exact ⟨queue, table, ⟨round, backoff, nofun, sleep, power, few, resetting, due⟩, txn⟩
  · exact ok

theorem setTxnPhase_coachLine (ph : TxnPhase) : Keeps (fun u => CoachLineOk u.clc) s (setTxnPhase ph s) := by
  rintro ⟨queue, table, line, kinds, retry, noSleep, polled, pass, phase⟩
  refine ⟨queue, table, line, fun t held => ?_, fun waits => ⟨?_, (retry waits).2⟩, noSleep, polled, pass,
    fun p stands => ⟨(phase p stands).1, fun flies => ?_⟩⟩
  · obtain ⟨u, before, rfl⟩ := Option.map_eq_some_iff.mp (held : s.clc.txn.map _ = some t)
    exact kinds u before
  · show s.clc.txn.map _ = none
    rw [(retry waits).1]
    rfl
  · show (s.clc.txn.map fun t => { t with phase := ph }).any _ = true
    rw [Option.any_map]
    exact (phase p stands).2 flies

theorem answerCharacter_coachLine (ch : CoachChar) : Keeps (fun u => CoachLineOk u.clc) s (answerCharacter ch s) := by
  unfold answerCharacter
  split
  · exact setTxnPhase_coachLine _
  · split_ifs
    · exact .refl s
    · exact setTxnPhase_coachLine _
  · exact .refl s
  · exact .refl s

/-! ## Resets -/

theorem Clc.reset_coachLine {c : Clc} (table : NodeTableOk c) : CoachLineOk c.reset := by
  have node (n : NodeIx) : c.reset.nodes[n] = c.nodes[n].reset := mapAll_get _ _ _
  refine ⟨MirrorQueueOk.of_empty rfl, NodeTableOk.of table (fun n ok => ?_) (fun n => ?_) (fun n => ?_) fun n => ?_,
    ⟨⟨nofun, nofun⟩, ⟨nofun, nofun⟩, nofun, nofun, ⟨fun _ => rfl, fun _ => rfl⟩, nofun, nofun, fun n due => ?_⟩,
    nofun, fun some => absurd rfl some, nofun, nofun, fun some => absurd rfl some, nofun⟩
  · obtain ⟨lo, hi, alo, ahi, -, -, -, -⟩ := ok
    rw [node]
    refine ⟨lo, hi, alo, ahi, Nat.zero_le 3, Nat.succ_pos 7, ?_, nofun⟩
    unfold Node.reset
    cases c.nodes[n].enabled
    · exact ⟨fun _ => rfl, fun _ => rfl⟩
    · exact ⟨nofun, nofun⟩
  · rw [node]
    rfl
  · rw [node]
    rfl
  · rw [node]
    rfl
  · rw [node] at due
    cases due

theorem Clc.supply_coachLine : CoachLineOk Clc.supply := by
  have node (n : NodeIx) : Clc.supply.nodes[n] = Node.supply n := Vector.getElem_ofFn n.isLt
  refine ⟨MirrorQueueOk.of_empty rfl, ⟨fun n => ?_, fun m n _ on => ?_⟩,
    ⟨⟨nofun, nofun⟩, ⟨nofun, nofun⟩, nofun, nofun, ⟨fun _ => rfl, fun _ => rfl⟩, nofun, nofun, fun n due => ?_⟩,
    nofun, fun some => absurd rfl some, nofun, nofun, fun some => absurd rfl some, nofun⟩
  · have := n.isLt
    rw [node]
    exact ⟨Nat.succ_pos _, by simp only [Node.supply]; omega, Nat.succ_pos _, by simp only [Node.supply]; omega,
      Nat.zero_le 3, Nat.succ_pos 7, ⟨fun _ => rfl, fun _ => rfl⟩, nofun⟩
  · rw [node] at on
    cases on
  · rw [node] at due
    cases due

end

section
variable {s : State}

/-! ## Every step -/

theorem reads_coachLine : Reads [.clc] fun s => CoachLineOk s.clc := fun s t same ok => by
  have clc : t.clc = s.clc := same .clc (by decide)
  show CoachLineOk t.clc
  rw [clc]
  exact ok

theorem takeRunEntry_coachLine (b : Block) : Keeps (fun u => CoachLineOk u.clc) s (takeRunEntry b s) := by
  by_cases own : b = .clc
  · subst own
    exact fun ok => clcRunEntry_coachLine ok.2.1
  · exact (coachLine_marks.others s own).1

theorem takeParkedEntry_coachLine (b : Block) : Keeps (fun u => CoachLineOk u.clc) s (takeParkedEntry b s) := by
  by_cases own : b = .clc
  · subst own
    exact clcParkedEntry_coachLine
  · exact (coachLine_marks.others s own).2.1

theorem takeCrank_coachLine {p : PowerState} {b : Block} (runs : p ≠ .parked) (on : s.powers.of b ≠ .parked) :
    Keeps (fun u => CoachLineOk u.clc) s (takeCrank p b s) := by
  by_cases own : b = .clc
  · subst own
    rintro ⟨queue, table, ⟨round, backoff, held, sleep, power, few, resetting, due⟩, txn⟩
    exact ⟨queue, table, ⟨round, backoff, held, sleep,
      ⟨fun parked => absurd parked runs, fun off => absurd (power.mpr off) on⟩, few, resetting, due⟩, txn⟩
  · exact (coachLine_marks.others s own).2.2 p

theorem entry_coachLine : KeepsEntry fun s => CoachLineOk s.clc where
  igs _ _ ok := ok
  free _ _ ok := ok
  notify s n := coachLine_marks.marks (.of_only (notify_only s n))
  sent _ _ ok := ok
  run b s := takeRunEntry_coachLine b
  parked b s := takeParkedEntry_coachLine b
  crank p b s runs on := takeCrank_coachLine runs on
  rejoin s ok := enterRun_coachLine (((coachReset_down s).table .rejoined nofun ok.2.1).1)
  reset _ _ _ n s ok := coachLine_marks.marks ((MarksOnly.of_only (notify_only _ n)).trans
    (MarksOnly.walk.evaluateWhere _ _)) (Clc.reset_coachLine ok.2.1)
  supplied _ _ := Clc.supply_coachLine

theorem abortPass_coachLine : Keeps (fun u => CoachLineOk u.clc) s (abortPass s) := by
  intro ok
  have ended := CoachLineOk.passed ok
  unfold abortPass
  show CoachLineOk { (endPass (.refuse .aborted) s).clc with retry := _ }
  rw [endPass_clc]
  obtain ⟨queue, table, line, kinds, retry, noSleep, polled, pass, phase⟩ := ended
  dsimp only
  split
  · exact ⟨queue, table, line, kinds, fun some => absurd rfl some, nofun, nofun, pass, phase⟩
  · exact ⟨queue, table, line, kinds, retry, noSleep, polled, pass, phase⟩

theorem owner_coachLine (k : ReqKind) (r : Request) : Keeps (fun u => CoachLineOk u.clc) s (k.owner r s).1 := by
  by_cases other : k.isOwn = false
  · exact coachLine_marks.handed (owner_handed s other r)
  by_cases warns : k.isWarnOwn = true
  · exact coachLine_marks.marks (MarksOnly.alerts.owner s warns r)
  cases k
  case setNoticeMask => exact .of_only reads_coachLine (owner_only .setNoticeMask r s)
  case restart =>
    have behind : Keeps (fun u => CoachLineOk u.clc) s (abortBehind s) := .of_only reads_coachLine (abortBehind_only s)
    exact behind.trans (abortPass_coachLine (s := abortBehind s))
  case setNode => exact setNode_coachLine r
  case coachPass => exact coachPass_coachLine r
  case coachReset =>
    show Keeps _ s (ownCoachReset r s).1
    unfold ownCoachReset emptyAnswer
    split_ifs with parked
    · exact .refl s
    · dsimp only
      exact fun ok => coachReset_coachLine ok.2.1 parked
  case setCoachOptions =>
    refine .ranged fun p _ => ?_
    have set : Keeps (fun u => CoachLineOk u.clc) s (s.modClc fun c =>
      { c with roundPeriod := p.1, callPattern := p.2.1, outsideSlot := p.2.2 }) := id
    exact set.trans (coachLine_marks.marks (.mark _ _))
  all_goals first | exact absurd rfl other | exact absurd rfl warns

theorem other_coachLine (c : Instr) (powers : PowerCopiesOk s) : Keeps (fun u => CoachLineOk u.clc) s (otherEffect c s) := by
  by_cases power : isPowerCommand c = true
  · exact entry_coachLine.effect power powers
  by_cases answer : isAnswerCommand c = true
  · exact .answerCommand (setTxnPhase_coachLine .window) (fun a => completeTxn_coachLine s a) answer
  by_cases measuring : isMeasuringCommand c = true
  · exact coachLine_marks.handed (measuring_handed s measuring)
  by_cases warns : isWarnCommand c = true
  · exact coachLine_marks.marks (MarksOnly.alerts.command s warns)
  by_cases apart : Part.clc ∈ otherParts c
  case neg =>
    exact .of_only reads_coachLine (otherEffect_only c s) fun p mem => by rwa [List.mem_singleton.mp mem]
  cases c
  case contention => exact contention_coachLine
  case backoffExpiry => exact backoffExpiry_coachLine
  case lineRelease => exact lineRelease_coachLine
  case resettingEnd => exact resettingEnd_coachLine
  case roundStart =>
    intro ok
    show CoachLineOk (roundExpiry s).clc
    unfold roundExpiry
    split_ifs with runs
    · exact startRound_coachLine (ok.2.2.1.1.mp runs) ok
    · exact ok
  case sleepStart => exact sleepStart_coachLine
  case answerCharacter value mark error => exact answerCharacter_coachLine _
  all_goals first
    | exact absurd rfl power
    | exact absurd rfl answer
    | exact absurd rfl measuring
    | exact absurd rfl warns
    | exact absurd apart (by simp [otherParts])

/-- Settles O15: what every operation of the Coach Line leaves of its invariant, and that the others mark alone. -/
theorem coachLineKept : Obligations.CoachLineKept := by
  unfold Obligations.CoachLineKept
  intro s t ok powers stepped
  refine step_keeps_powered (P := fun u => CoachLineOk u.clc) (fun u rest ok => ok) (fun u ok => ?_) (fun u ok => ?_)
    (fun k u _ => ?_) (fun c u copies => other_coachLine c copies) ok powers stepped
  · exact Keeps.of_only reads_coachLine (nextTick_only u) (by decide) ok
  · show CoachLineOk (settle u).clc
    rw [settle_clc]
    exact arbiter_coachLine ok
  · exact .serve reads_coachLine (fun r u => owner_coachLine k r) u

end

end Sys2Proof.Machine
end

section
/-! A warning entry that is in order (R86, R92, R93, R95, R100): what an evaluation makes of it, and what the end of a chime
request may do to it. -/

namespace Sys2Proof.Machine

-- One theorem at a time, so that a build as one text needs few threads.
set_option Elab.async false

/-! ## Repeat timers -/

/-- Of an entry its repeat timer alone changes, and it runs only where it ran or the entry is ACTIVE (R96). -/
def Entry.Rearms (e e' : Entry) : Prop :=
  ∃ timer, e' = { e with repeatTimer := timer } ∧ (timer.isSome = true → e.repeatTimer.isSome = true ∨ e.state = .active)

namespace Entry.Rearms
variable {e e' e'' : Entry}

theorem refl (e : Entry) : e.Rearms e := ⟨e.repeatTimer, rfl, .inl⟩

theorem trans (h : e.Rearms e') (k : e'.Rearms e'') : e.Rearms e'' := by
  obtain ⟨timer, rfl, from_⟩ := h
  obtain ⟨timer', rfl, from'⟩ := k
  exact ⟨timer', rfl, fun runs => (from' runs).elim from_ .inr⟩

end Entry.Rearms

/-- Between two states the WTB differs in repeat timers alone. -/
structure Rearmed (s t : State) : Prop where
  wtb : t.wtb = { s.wtb with entries := t.wtb.entries }
  entries : ∀ w : EntryIx, s.wtb.entries[w].Rearms t.wtb.entries[w]

namespace Rearmed
variable {s t u : State}

theorem of_wtb (same : t.wtb = s.wtb) : Rearmed s t := by
  refine ⟨?_, fun w => ?_⟩ <;> rw [same]
  exact .refl _

theorem refl (s : State) : Rearmed s s := of_wtb rfl

theorem of_only {ps : List Part} (h : OnlyChanges ps s t) (hp : Part.wtb ∉ ps := by decide) : Rearmed s t :=
  of_wtb (h .wtb hp)

theorem trans (h : Rearmed s t) (k : Rearmed t u) : Rearmed s u := by
  refine ⟨?_, fun w => (h.entries w).trans (k.entries w)⟩
  have first := h.wtb
  have second := k.wtb
  rw [first] at second
  exact second

/-- The repeat timer of an ACTIVE entry starts at the end of its request (R96). -/
theorem wtbRequestEnd (w : EntryIx) (s : State) : Rearmed s (wtbRequestEnd w s) := by
  unfold Machine.wtbRequestEnd
  split_ifs with active
  · split
    · rename_i r _
      refine ⟨rfl, fun v => ?_⟩
      rw [State.modEntry_entries, updAt_get]
      split_ifs with same
      · subst same
        exact ⟨some r, rfl, fun _ => .inr active⟩
      · exact .refl _
    · exact refl s
  · exact refl s

theorem handEnd (o : ChimeOutcome) (r : ChimeRequest) (s : State) : Rearmed s (handEnd o r s) := by
  unfold Machine.handEnd
  split
  · exact wtbRequestEnd _ s
  · split
    · exact of_only (notify_only s _)
    · exact refl s
  · exact refl s
  · exact refl s

theorem handNotQueued (src : ChimeSource) (s : State) : Rearmed s (handNotQueued src s) := by
  unfold Machine.handNotQueued
  split
  · exact wtbRequestEnd _ s
  all_goals exact refl s

theorem takeChime (r : ChimeRequest) (s : State) : Rearmed s (takeChime r s).1 := by
  have after {u : State} (h : Rearmed s u) (f : Chs → Chs) : Rearmed s (u.modChs f) := h.trans (of_only (modChs_only u f))
  unfold Machine.takeChime
  split
  · split_ifs
    · dsimp only
      exact after (handEnd _ _ s) _
    · exact refl s
  · split_ifs
    · dsimp only
      exact after (refl s) _
    · split
      · split_ifs
        · dsimp only
          exact after (handEnd _ _ s) _
        · exact handNotQueued _ s
      · exact handNotQueued _ s

theorem removeChime (src : ChimeSource) (s : State) : Rearmed s (removeChime src s) := of_only (modChs_only s _)

theorem segmentEnd (s : State) : Rearmed s (segmentEnd s) := by
  unfold Machine.segmentEnd
  split
  · split_ifs
    · exact of_only (modChs_only s _)
    · split
      · exact of_only (modChs_only s _)
      · split_ifs
        · exact (of_only (modChs_only s _)).trans (handEnd _ _ _)
        · exact of_only (modChs_only s _)
  · exact refl s

theorem handWarningChime (w : EntryIx) (s : State) : Rearmed s (handWarningChime w s) := by
  unfold Machine.handWarningChime
  split
  · exact takeChime _ s
  · exact refl s

theorem reportEntry (w : EntryIx) (old new : EntryState) (s : State) : Rearmed s (reportEntry w old new s) :=
  of_wtb (reportEntry_wtb w old new s)

end Rearmed

/-! ## Moves of an entry -/

/-- What the columns of Table 29 make of an entry's record (R93). -/
def Entry.taken (holds : Bool) (e : Entry) : Entry :=
  match e.state, holds with
  | .idle, true =>
    if e.cfg.qualify = 0 then { e with state := .active, qualifyTimer := none, repeatTimer := none }
    else { e with state := .pending, qualifyTimer := some e.cfg.qualify }
  | .pending, false => { e with state := .idle, qualifyTimer := none }
  | .active, false => { e with state := if e.cfg.latching then .resolved else .idle, repeatTimer := none }
  | .acked, false => { e with state := .idle, qualifyTimer := none }
  | .resolved, true => { e with state := .active, qualifyTimer := none, repeatTimer := none }
  | .idle, false | .pending, true | .active, true | .acked, true | .resolved, false => e

section
variable (w : EntryIx) (s : State)

theorem enterActive_rearmed : Rearmed
    (s.modEntry w fun e => { e with state := .active, qualifyTimer := none, repeatTimer := none }) (enterActive w s) :=
  (Rearmed.handWarningChime w _).trans (.reportEntry _ _ _ _)

theorem leaveActive_rearmed (new : EntryState) :
    Rearmed (s.modEntry w fun e => { e with state := new, repeatTimer := none }) (leaveActive w new s) :=
  (Rearmed.removeChime _ _).trans (.reportEntry _ _ _ _)

theorem enterPending_rearmed :
    Rearmed (s.modEntry w fun e => { e with state := .pending, qualifyTimer := some e.cfg.qualify }) (enterPending w s) :=
  .reportEntry _ _ _ _

theorem enterIdle_rearmed :
    Rearmed (s.modEntry w fun e => { e with state := .idle, qualifyTimer := none }) (enterIdle w s) :=
  .reportEntry _ _ _ _

/-- The write of one entry's record by an equal function. -/
theorem modEntry_congr {f g : Entry → Entry} (same : f s.wtb.entries[w] = g s.wtb.entries[w]) :
    s.modEntry w f = s.modEntry w g := by
  have entries : updAt s.wtb.entries w f = updAt s.wtb.entries w g := by rw [updAt, updAt, same]
  exact congrArg (fun v => { s with wtb := { s.wtb with entries := v } }) entries

/-- Two writes of one entry's record are one. -/
theorem modEntry_modEntry (f g : Entry → Entry) : (s.modEntry w f).modEntry w g = s.modEntry w (g ∘ f) := by
  have entries : updAt (updAt s.wtb.entries w f) w g = updAt s.wtb.entries w (g ∘ f) := by
    rw [updAt, updAt_get_same, updAt, updAt, Vector.set_set]
    rfl
  exact congrArg (fun v => { s with wtb := { s.wtb with entries := v } }) entries

/-- A move changes the entry as Table 29 gives, and repeat timers beside. -/
theorem moveEntry_rearmed (holds : Bool) : Rearmed (s.modEntry w (Entry.taken holds)) (moveEntry w holds s) := by
  have written {f : Entry → Entry} {t : State} (same : f s.wtb.entries[w] = s.wtb.entries[w].taken holds)
      (h : Rearmed (s.modEntry w f) t) : Rearmed (s.modEntry w (Entry.taken holds)) t := by
    rwa [← modEntry_congr w s same]
  have still (same : s.wtb.entries[w] = s.wtb.entries[w].taken holds) : Rearmed (s.modEntry w (Entry.taken holds)) s := by
    refine written (f := id) same (.of_wtb ?_)
    rw [State.modEntry_wtb, updAt_of_fixed rfl]
  unfold moveEntry
  cases st : s.wtb.entries[w].state <;> cases holds
  case idle.true =>
    by_cases zero : s.wtb.entries[w].cfg.qualify = 0
    · rw [if_pos zero]
      exact written (by simp only [Entry.taken, st, zero, if_true]) (enterActive_rearmed w s)
    · rw [if_neg zero]
      exact written (by simp only [Entry.taken, st, zero, if_false]) (enterPending_rearmed w s)
  case pending.false => exact written (by simp only [Entry.taken, st]) (enterIdle_rearmed w s)
  case active.false => exact written (by simp only [Entry.taken, st]) (leaveActive_rearmed w s _)
  case acked.false => exact written (by simp only [Entry.taken, st]) (enterIdle_rearmed w s)
  case resolved.true => exact written (by simp only [Entry.taken, st]) (enterActive_rearmed w s)
  all_goals exact still (by simp only [Entry.taken, st])

/-- An evaluation of an entry's record: the source condition is remembered and the condition moves it (R92). -/
def Wtb.evaluated (t : Wtb) (e : Entry) : Entry :=
  Entry.taken (e.cfg.enabled && t.sourceCondition e && t.gateTrue e.cfg.gate1 && t.gateTrue e.cfg.gate2)
    { e with memory := t.sourceCondition e }

theorem evaluateEntry_rearmed (awake : ¬ (s.wtb.view.power = .parked ∧ ¬ s.wtb.entries[w].cfg.parkedLive)) :
    Rearmed (s.modEntry w s.wtb.evaluated) (evaluateEntry w s) := by
  unfold evaluateEntry
  dsimp only
  rw [if_neg awake]
  have moved := moveEntry_rearmed w (s.modEntry w fun e => { e with memory := s.wtb.sourceCondition s.wtb.entries[w] })
    (s.wtb.entries[w].cfg.enabled && s.wtb.sourceCondition s.wtb.entries[w] &&
      s.wtb.gateTrue s.wtb.entries[w].cfg.gate1 && s.wtb.gateTrue s.wtb.entries[w].cfg.gate2)
  rw [modEntry_modEntry] at moved
  convert moved using 1
  exact modEntry_congr w s rfl

end

end Sys2Proof.Machine
end

section
/-! An entry's record in order, and what an evaluation makes of it (R86, R88, R92, R93, R95, R100). -/

namespace Sys2Proof.Machine

-- One theorem at a time, so that a build as one text needs few threads.
set_option Elab.async false

/-- An entry in order in a WTB; with `current`, no change is left unevaluated either (R92). -/
structure Wtb.Good (current : Bool) (t : Wtb) (e : Entry) : Prop where
  ok : EntryOk e
  parked : EntryParkedOk t.view.power e
  current : current = true → t.watches e → e.memory = t.sourceCondition e ∧ e.moved (t.holds e) = e.state

/-- Every entry in order. -/
def EntriesGood (current : Bool) (s : State) : Prop := ∀ w : EntryIx, s.wtb.Good current s.wtb.entries[w]

theorem entriesGood_false (s : State) : EntriesGood false s ↔ EntriesOk s :=
  ⟨fun good w => ⟨(good w).ok, (good w).parked⟩, fun ok w => ⟨(ok w).1, (ok w).2, nofun⟩⟩

theorem entriesGood_true (s : State) : EntriesGood true s ↔ EntriesOk s ∧ EntriesCurrent s.wtb :=
  ⟨fun good => ⟨fun w => ⟨(good w).ok, (good w).parked⟩, fun w => (good w).current rfl⟩,
    fun ⟨ok, current⟩ w => ⟨(ok w).1, (ok w).2, fun _ => current w⟩⟩

/-! ## Records -/

section
variable {c : Bool} {t : Wtb} {e e' : Entry}

theorem EntryOk.rearms (ok : EntryOk e) (h : e.Rearms e') : EntryOk e' := by
  obtain ⟨timer, rfl, runs⟩ := h
  obtain ⟨qualify, active, disabled, consistent⟩ := ok
  exact ⟨qualify, fun some => (runs some).elim active id, disabled, consistent⟩

/-- Repeat timers leave an entry in order. -/
theorem Wtb.Good.rearms (good : t.Good c e) (h : e.Rearms e') : t.Good c e' := by
  have ok := EntryOk.rearms good.ok h
  obtain ⟨timer, rfl, -⟩ := h
  exact ⟨ok, good.parked, good.current⟩

/-- The other entries do not matter. -/
theorem Wtb.Good.entries (good : t.Good c e) (v : Vector Entry 32) : ({ t with entries := v } : Wtb).Good c e :=
  ⟨good.ok, good.parked, good.current⟩

theorem EntryConfig.hysteresis_nonneg (ok : e.cfg.consistent = true) : 0 ≤ e.cfg.hysteresis := by
  simp only [EntryConfig.consistent, Bool.and_eq_true, decide_eq_true_eq] at ok
  exact ok.1.1.2

theorem aboveCondition_stable {memory : Bool} {threshold hysteresis : Int} (pos : 0 ≤ hysteresis) (v : Option Int) :
    aboveCondition (aboveCondition memory threshold hysteresis v) threshold hysteresis v =
      aboveCondition memory threshold hysteresis v := by
  cases v with
  | none => rfl
  | some v =>
    cases memory
    · by_cases above : threshold < v
      · have still : threshold - hysteresis < v := by omega
        simp [aboveCondition, above, still]
      · simp [aboveCondition, above]
    · by_cases above : threshold - hysteresis < v
      · simp [aboveCondition, above]
      · have under : ¬ threshold < v := by omega
        simp [aboveCondition, above, under]

theorem belowCondition_stable {memory : Bool} {threshold hysteresis : Int} (pos : 0 ≤ hysteresis) (v : Option Int) :
    belowCondition (belowCondition memory threshold hysteresis v) threshold hysteresis v =
      belowCondition memory threshold hysteresis v := by
  cases v with
  | none => rfl
  | some v =>
    cases memory
    · by_cases under : v < threshold
      · have still : v < threshold + hysteresis := by omega
        simp [belowCondition, under, still]
      · simp [belowCondition, under]
    · by_cases under : v < threshold + hysteresis
      · simp [belowCondition, under]
      · have above : ¬ v < threshold := by omega
        simp [belowCondition, under, above]

/-- The source condition, remembered, decides the same again (R88). -/
theorem sourceCondition_stable (consistent : e.cfg.consistent = true) :
    t.sourceCondition { e with memory := t.sourceCondition e } = t.sourceCondition e := by
  have pos := EntryConfig.hysteresis_nonneg consistent
  unfold Wtb.sourceCondition
  dsimp only
  cases e.cfg.source
  case valueAbove v => exact aboveCondition_stable pos _
  case valueBelow v => exact belowCondition_stable pos _
  all_goals rfl

/-- A move leaves the configuration, the memory and the flags. -/
theorem Entry.taken_kept (holds : Bool) (e : Entry) : (e.taken holds).cfg = e.cfg ∧ (e.taken holds).memory = e.memory ∧
    (e.taken holds).eventPending = e.eventPending ∧ (e.taken holds).linkCondition = e.linkCondition := by
  unfold Entry.taken
  split
  · split_ifs <;> exact ⟨rfl, rfl, rfl, rfl⟩
  all_goals exact ⟨rfl, rfl, rfl, rfl⟩

theorem Entry.taken_state (holds : Bool) (e : Entry) : (e.taken holds).state = e.moved holds := by
  unfold Entry.taken Entry.moved
  cases state : e.state <;> cases holds <;> dsimp only
  case idle.true => split_ifs <;> rfl
  all_goals exact state

/-- A moved entry stays where the same condition leaves it (R93). -/
theorem Entry.taken_moved (holds : Bool) (e : Entry) : (e.taken holds).moved holds = (e.taken holds).state := by
  obtain ⟨cfg, -⟩ := e.taken_kept holds
  have state := e.taken_state holds
  unfold Entry.moved at state ⊢
  cases before : e.state <;> cases holds <;> rw [before] at state <;> dsimp only at state <;> rw [state] <;>
    first | rfl | (split_ifs <;> rfl)

/-- A move that may start the entry only when it is enabled keeps its timers in step with its state (R93, R94, R95). -/
theorem EntryOk.taken (ok : EntryOk e) {holds : Bool} (enabled : holds = true → e.cfg.enabled = true) :
    EntryOk (e.taken holds) := by
  obtain ⟨qualify, repeats, disabled, consistent⟩ := ok
  have idle (inactive : e.state ≠ .active) : e.repeatTimer.isSome ≠ true := fun runs => inactive (repeats runs)
  have quiet (settled : e.state ≠ .pending) : e.qualifyTimer.isSome ≠ true := fun runs => settled (qualify.mp runs)
  have off {p : Prop} (on : e.cfg.enabled = true) (no : e.cfg.enabled = false) : p := absurd (on.symm.trans no) nofun
  unfold Entry.taken
  split
  · rename_i state
    split_ifs
    · exact ⟨⟨nofun, nofun⟩, nofun, off (enabled rfl), consistent⟩
    · exact ⟨⟨fun _ => rfl, fun _ => rfl⟩, fun runs => absurd runs (idle (by rw [state]; nofun)), off (enabled rfl), consistent⟩
  · rename_i state
    exact ⟨⟨nofun, nofun⟩, fun runs => absurd runs (idle (by rw [state]; nofun)), fun _ => rfl, consistent⟩
  · rename_i state
    have timer := quiet (by rw [state]; nofun)
    refine ⟨⟨fun runs => absurd runs timer, fun pends => ?_⟩, nofun, fun no => ?_, consistent⟩
    · dsimp only at pends
      split_ifs at pends
    · have stands := disabled no
      rw [state] at stands
      cases stands
  · rename_i state
    exact ⟨⟨nofun, nofun⟩, fun runs => absurd runs (idle (by rw [state]; nofun)), fun _ => rfl, consistent⟩
  · exact ⟨⟨nofun, nofun⟩, nofun, off (enabled rfl), consistent⟩
  all_goals exact ⟨qualify, repeats, disabled, consistent⟩

/-- The source condition reads the configuration, the memory and the flags (R87, R88, R89, R90). -/
theorem sourceCondition_congr (cfg : e'.cfg = e.cfg) (memory : e'.memory = e.memory)
    (pending : e'.eventPending = e.eventPending) (link : e'.linkCondition = e.linkCondition) :
    t.sourceCondition e' = t.sourceCondition e := by
  unfold Wtb.sourceCondition
  rw [cfg, memory, pending, link]

theorem holds_congr (cfg : e'.cfg = e.cfg) (source : t.sourceCondition e' = t.sourceCondition e) :
    t.holds e' = t.holds e := by
  unfold Wtb.holds
  rw [cfg, source]

/-- A moved entry is in order while it remembers its source condition and the move is by its condition (R92, R93, R100). -/
theorem Wtb.taken_good (ok : EntryOk e) (awake : t.view.power = .parked → e.cfg.parkedLive = true)
    (remembered : e.memory = t.sourceCondition e) : t.Good c (e.taken (t.holds e)) := by
  obtain ⟨cfg, memory, pending, link⟩ := Entry.taken_kept (t.holds e) e
  have source := sourceCondition_congr (t := t) cfg memory pending link
  have holds := holds_congr cfg source
  refine ⟨EntryOk.taken ok fun on => ?_, fun parked => ?_, fun _ _ => ⟨?_, ?_⟩⟩
  · simp only [Wtb.holds, Bool.and_eq_true] at on
    exact on.1.1.1
  · rw [cfg]
    refine ⟨fun asleep => absurd ((awake parked).symm.trans asleep) nofun, fun run => ?_⟩
    have off : t.holds e = false := by
      have closed : t.gateTrue .run = false := by
        unfold Wtb.gateTrue
        exact decide_eq_false (not_not_intro parked)
      unfold Wtb.holds
      rcases run with gate | gate <;> rw [gate, closed] <;> simp
    rw [off, Entry.taken_state]
    unfold Entry.moved
    cases e.state <;> dsimp only
    case active => split_ifs <;> simp
    all_goals simp
  · rw [memory, source, remembered]
  · rw [holds]
    exact Entry.taken_moved _ e

/-- An evaluated entry is in order. -/
theorem Wtb.evaluated_good (ok : EntryOk e) (awake : ¬ (t.view.power = .parked ∧ ¬ e.cfg.parkedLive = true)) :
    t.Good c (t.evaluated e) := by
  have stable := sourceCondition_stable (t := t) ok.2.2.2
  have good := Wtb.taken_good (c := c) (t := t) (e := { e with memory := t.sourceCondition e }) ok
    (fun parked => of_not_not fun asleep => awake ⟨parked, asleep⟩) stable.symm
  have holds : t.holds { e with memory := t.sourceCondition e } =
      (e.cfg.enabled && t.sourceCondition e && t.gateTrue e.cfg.gate1 && t.gateTrue e.cfg.gate2) := by
    unfold Wtb.holds
    rw [stable]
  rwa [holds] at good

end

end Sys2Proof.Machine
end

section
/-! Every operation of the WTB leaves its entries in order (R84, R89, R90, R92, R93, R99, R100, R101, R106). -/

namespace Sys2Proof.Machine

-- One theorem at a time, so that a build as one text needs few threads.
set_option Elab.async false

/-! ## One entry apart from the others -/

/-- Of one entry its repeat timer alone changes, and of the rest of the WTB other entries alone. -/
structure EntryLeft (w : EntryIx) (s t : State) : Prop where
  wtb : t.wtb = { s.wtb with entries := t.wtb.entries }
  entry : s.wtb.entries[w].Rearms t.wtb.entries[w]

section
variable {c : Bool} {w : EntryIx} {s t u : State} {f : Entry → Entry}

theorem EntryLeft.refl (w : EntryIx) (s : State) : EntryLeft w s s := ⟨rfl, .refl _⟩

theorem EntryLeft.trans (h : EntryLeft w s t) (k : EntryLeft w t u) : EntryLeft w s u := by
  refine ⟨?_, h.entry.trans k.entry⟩
  have first := h.wtb
  have second := k.wtb
  rw [first] at second
  exact second

theorem Rearmed.left (h : Rearmed s t) (w : EntryIx) : EntryLeft w s t := ⟨h.wtb, h.entries w⟩

/-- A write of one entry leaves another. -/
theorem Rearmed.other {v : EntryIx} (h : Rearmed (s.modEntry v f) t) (other : v ≠ w) : EntryLeft w s t := by
  have written : EntryLeft w s (s.modEntry v f) := by
    refine ⟨rfl, ?_⟩
    rw [State.modEntry_entries, updAt_get_other _ _ _ _ other]
    exact .refl _
  exact written.trans (h.left w)

theorem EntryLeft.good (h : EntryLeft w s t) (good : s.wtb.Good c s.wtb.entries[w]) : t.wtb.Good c t.wtb.entries[w] := by
  have after := (good.rearms h.entry).entries t.wtb.entries
  rwa [← h.wtb] at after

/-- A written entry is in order where its record is. -/
theorem Rearmed.good (h : Rearmed (s.modEntry w f) t) (good : s.wtb.Good c (f s.wtb.entries[w])) :
    t.wtb.Good c t.wtb.entries[w] := by
  refine (h.left w).good ?_
  rw [State.modEntry_entries, updAt_get_same]
  exact good.entries _

/-- A written entry leaves the entries in order where its record is. -/
theorem Rearmed.entriesGood (h : Rearmed (s.modEntry w f) t)
    (good : s.wtb.Good c s.wtb.entries[w] → s.wtb.Good c (f s.wtb.entries[w])) : Keeps (EntriesGood c) s t := by
  intro before v
  by_cases same : w = v
  · subst same
    exact h.good (good (before w))
  · exact (h.other same).good (before v)

theorem Rearmed.keeps (h : Rearmed s t) : Keeps (EntriesGood c) s t := fun before v => (h.left v).good (before v)

/-! ## Evaluations -/

theorem evaluateEntry_left {v : EntryIx} (other : v ≠ w) (s : State) : EntryLeft w s (evaluateEntry v s) := by
  by_cases asleep : s.wtb.view.power = .parked ∧ ¬ s.wtb.entries[v].cfg.parkedLive
  · have idle : evaluateEntry v s = s := if_pos asleep
    rw [idle]
    exact .refl w s
  · exact (evaluateEntry_rearmed v s asleep).other other

/-- An entry that is evaluated is in order; one that is not must be before. -/
theorem evaluateEntry_good (ok : EntryOk s.wtb.entries[w])
    (asleep : s.wtb.view.power = .parked → ¬ s.wtb.entries[w].cfg.parkedLive = true → s.wtb.Good c s.wtb.entries[w]) :
    (evaluateEntry w s).wtb.Good c (evaluateEntry w s).wtb.entries[w] := by
  by_cases sleeps : s.wtb.view.power = .parked ∧ ¬ s.wtb.entries[w].cfg.parkedLive
  · have idle : evaluateEntry w s = s := if_pos sleeps
    rw [idle]
    exact asleep sleeps.1 sleeps.2
  · exact (evaluateEntry_rearmed w s sleeps).good (Wtb.evaluated_good ok sleeps)

theorem evaluateEntry_entriesGood (w : EntryIx) (s : State) : Keeps (EntriesGood c) s (evaluateEntry w s) := by
  intro before v
  by_cases same : w = v
  · subst same
    exact evaluateEntry_good (before w).ok fun _ _ => before w
  · exact (evaluateEntry_left same s).good (before v)

/-- Entries taken in turn, each by an operation that leaves the others: in order in the end. -/
theorem turns_entriesGood {g : EntryIx → State → State} (others : ∀ v w u, v ≠ w → EntryLeft w u (g v u))
    (own : ∀ w u, EntryLeft w s u → (g w u).wtb.Good c (g w u).wtb.entries[w]) : EntriesGood c (eachIx 32 g s) :=
  fun w => eachIx_brings w (before := fun u => EntryLeft w s u) (goal := fun u => u.wtb.Good c u.wtb.entries[w])
    (fun u left => own w u left) (fun v u other left => left.trans (others v w u other))
    (fun v u other good => (others v w u other).good good) (.refl w s)

/-- What an evaluation of some entries leaves: in order, when each is in order but for an evaluation that it gets. -/
theorem evaluateWhere_entriesGood {test : EntryConfig → Bool} (ok : ∀ w : EntryIx, EntryOk s.wtb.entries[w])
    (left : ∀ w : EntryIx, test s.wtb.entries[w].cfg = false ∨
      (s.wtb.view.power = .parked ∧ ¬ s.wtb.entries[w].cfg.parkedLive = true) → s.wtb.Good c s.wtb.entries[w]) :
    EntriesGood c (evaluateWhere test s) := by
  refine turns_entriesGood (fun v w u other => ?_) (fun w u before => ?_)
  · split_ifs
    · exact evaluateEntry_left other u
    · exact .refl w u
  · have power : u.wtb.view.power = s.wtb.view.power := by rw [before.wtb]
    have cfg : u.wtb.entries[w].cfg = s.wtb.entries[w].cfg := by
      obtain ⟨timer, same, -⟩ := before.entry
      rw [same]
    split_ifs with tested
    · refine evaluateEntry_good (EntryOk.rearms (ok w) before.entry) fun parked asleep => before.good (left w (.inr ?_))
      rw [← power, ← cfg]
      exact ⟨parked, asleep⟩
    · refine before.good (left w (.inl ?_))
      rw [← cfg]
      exact Bool.eq_false_iff.mpr tested

/-- The same for a WTB that is written first. -/
theorem written_entriesGood {t : Wtb} {test : EntryConfig → Bool} (ok : ∀ w : EntryIx, EntryOk t.entries[w])
    (left : ∀ w : EntryIx, test t.entries[w].cfg = false ∨
      (t.view.power = .parked ∧ ¬ t.entries[w].cfg.parkedLive = true) → t.Good c t.entries[w]) :
    EntriesGood c (evaluateWhere test (s.modWtb fun _ => t)) := evaluateWhere_entriesGood ok left

/-- An entry stays in order in a WTB of the same power state that gives it the same conditions where it is watched. -/
theorem Wtb.Good.covered {t t' : Wtb} {e : Entry} (good : t.Good c e) (power : t'.view.power = t.view.power)
    (same : t.watches e → t'.sourceCondition e = t.sourceCondition e ∧ t'.gateTrue e.cfg.gate1 = t.gateTrue e.cfg.gate1 ∧
      t'.gateTrue e.cfg.gate2 = t.gateTrue e.cfg.gate2) : t'.Good c e := by
  obtain ⟨ok, parked, current⟩ := good
  refine ⟨ok, by rw [power]; exact parked, fun on watched => ?_⟩
  rw [Wtb.watches, power] at watched
  obtain ⟨source, gate1, gate2⟩ := same watched
  have holds : t'.holds e = t.holds e := by
    unfold Wtb.holds
    rw [source, gate1, gate2]
  rw [source, holds]
  exact current on watched

/-- A change of the WTB's copies or switches that leaves the power state and the condition of the entries it does not
evaluate. -/
theorem changed_entriesGood {t : Wtb} {test : EntryConfig → Bool} (entries : t.entries = s.wtb.entries)
    (power : t.view.power = s.wtb.view.power)
    (source : ∀ e : Entry, test e.cfg = false → t.sourceCondition e = s.wtb.sourceCondition e)
    (gates : ∀ e : Entry, test e.cfg = false → t.gateTrue e.cfg.gate1 = s.wtb.gateTrue e.cfg.gate1 ∧
      t.gateTrue e.cfg.gate2 = s.wtb.gateTrue e.cfg.gate2) :
    Keeps (EntriesGood c) s (evaluateWhere test (s.modWtb fun _ => t)) := by
  intro good
  refine written_entriesGood (fun w => ?_) fun w skipped => ?_
  · rw [entries]
    exact (good w).ok
  · rw [entries] at skipped ⊢
    refine (good w).covered power fun watched => ?_
    have untested := skipped.resolve_right fun ⟨asleep, dead⟩ =>
      dead (watched.2.resolve_left (not_not_intro (power.symm.trans asleep)))
    exact ⟨source _ untested, gates _ untested⟩

theorem wtbTake_entriesGood {f : WarnView → WarnView} {test : EntryConfig → Bool} (covers : s.wtb.Covers f test) :
    Keeps (EntriesGood c) s (wtbTake f test s) :=
  changed_entriesGood (t := { s.wtb with view := f s.wtb.view }) rfl covers.power covers.source covers.gates

/-! ## Switches, arrivals and the power state -/

theorem changeSwitch_entriesGood (n : SwitchIx) (f : Switch → Switch) (s : State) :
    Keeps (EntriesGood c) s (changeSwitch n f s) := by
  unfold changeSwitch
  dsimp only
  split_ifs with same
  · have active (m : SwitchIx) : (updAt s.wtb.switches n f)[m].active = s.wtb.switches[m].active := by
      by_cases is : n = m
      · subst is
        exact same
      · rw [updAt_get_other _ _ _ _ is]
    have gate (g : Gate) : ({ s.wtb with switches := updAt s.wtb.switches n f } : Wtb).gateTrue g = s.wtb.gateTrue g := by
      cases g
      case switchOn m => exact active m
      case switchOff m => exact congrArg (fun b => !b) (active m)
      all_goals rfl
    refine fun good w => (good w).covered rfl fun _ => ⟨?_, gate _, gate _⟩
    unfold Wtb.sourceCondition
    cases source : s.wtb.entries[w].cfg.source
    case switch m => exact active m
    all_goals rfl
  · refine changed_entriesGood (t := { s.wtb with switches := updAt s.wtb.switches n f })
      (test := fun c => c.source = .switch n || c.gated fun g => g = .switchOn n || g = .switchOff n) rfl rfl
      (fun e untested => ?_) fun e untested => ?_
    all_goals
      simp only [EntryConfig.gated, Bool.or_eq_false_iff, decide_eq_false_iff_not] at untested
      obtain ⟨other, ⟨on1, off1⟩, on2, off2⟩ := untested
    · unfold Wtb.sourceCondition
      cases source : e.cfg.source
      case switch m =>
        have apart : n ≠ m := fun is => other (by rw [source, is])
        exact congrArg Switch.active (updAt_get_other _ _ _ _ apart)
      all_goals rfl
    · have gate {g : Gate} (on : g ≠ .switchOn n) (off : g ≠ .switchOff n) :
          ({ s.wtb with switches := updAt s.wtb.switches n f } : Wtb).gateTrue g = s.wtb.gateTrue g := by
        cases g
        case switchOn m =>
          exact congrArg Switch.active (updAt_get_other _ _ _ _ fun is => on (by rw [is]))
        case switchOff m =>
          exact congrArg (fun w : Switch => !w.active) (updAt_get_other _ _ _ _ fun is => off (by rw [is]))
        all_goals rfl
      exact ⟨gate on1 off1, gate on2 off2⟩

/-- An entry's record at an arrival (R89). -/
def Entry.arrived (e : Entry) : Entry :=
  if e.cfg.enabled ∧ e.cfg.source = .arrival then { e with eventPending := true } else e

theorem EntryOk.arrived {e : Entry} (ok : EntryOk e) : EntryOk e.arrived := by
  unfold Entry.arrived
  split_ifs
  · exact ok
  · exact ok

theorem Entry.arrived_cfg (e : Entry) : e.arrived.cfg = e.cfg := by
  unfold Entry.arrived
  split_ifs <;> rfl

/-- An entry that an arrival does not evaluate stays in order (R89). -/
theorem Wtb.Good.arrived {t : Wtb} {e : Entry} (good : t.Good c e)
    (skipped : (e.cfg.enabled && decide (e.cfg.source = .arrival)) = false ∨
      (t.view.power = .parked ∧ ¬ e.cfg.parkedLive = true)) : t.Good c e.arrived := by
  unfold Entry.arrived
  split_ifs with arrives
  · rcases skipped with untested | ⟨asleep, dead⟩
    · rw [arrives.1, decide_eq_true arrives.2] at untested
      cases untested
    · exact ⟨good.ok, good.parked, fun _ watched => absurd asleep (watched.2.resolve_right dead)⟩
  · exact good

/-- An arrival sets the flags of the entries it evaluates (R89). -/
theorem wtbArrival_entriesGood (s : State) : Keeps (EntriesGood c) s (wtbArrival s) := by
  intro good
  have entry (w : EntryIx) : (mapAll Entry.arrived s.wtb.entries)[w] = s.wtb.entries[w].arrived := mapAll_get _ _ _
  have arrives : wtbArrival s = evaluateWhere (fun c => c.enabled && c.source = .arrival)
      (s.modWtb fun _ => { s.wtb with entries := mapAll Entry.arrived s.wtb.entries }) := rfl
  rw [arrives]
  generalize mapAll Entry.arrived s.wtb.entries = v at entry ⊢
  refine written_entriesGood (fun w => ?_) fun w skipped => ?_
  · exact (congrArg EntryOk (entry w)).mpr (EntryOk.arrived (good w).ok)
  · have cfg : v[w].cfg = s.wtb.entries[w].cfg := (congrArg Entry.cfg (entry w)).trans (Entry.arrived_cfg _)
    change (v[w].cfg.enabled && decide (v[w].cfg.source = .arrival)) = false ∨
      (s.wtb.view.power = .parked ∧ ¬ v[w].cfg.parkedLive = true) at skipped
    rw [cfg] at skipped
    have fine := ((good w).arrived skipped).entries v
    rwa [← entry w] at fine

/-- Run entry evaluates every enabled entry (R101). -/
theorem wtbRunEntry_entriesGood (s : State) : Keeps (EntriesGood c) s (wtbRunEntry s) := by
  intro good
  unfold wtbRunEntry
  refine evaluateWhere_entriesGood (fun w => (good w).ok) fun w skipped => ?_
  rcases skipped with disabled | ⟨parked, -⟩
  · exact ⟨(good w).ok, nofun, fun _ watched => absurd (watched.1.symm.trans disabled) nofun⟩
  · cases parked

/-- The WTB with another power state. -/
abbrev Wtb.withPower (t : Wtb) (p : PowerState) : Wtb := { t with view := { t.view with power := p } }

/-- Between RUN and CRANK no condition changes. -/
theorem Wtb.Good.withPower {t : Wtb} {e : Entry} {p : PowerState} (good : t.Good c e) (runs : p ≠ .parked)
    (on : c = true → t.view.power ≠ .parked) : (t.withPower p).Good c e := by
  obtain ⟨ok, -, current⟩ := good
  refine ⟨ok, fun parked => absurd parked runs, fun is watched => ?_⟩
  have gate (g : Gate) : (t.withPower p).gateTrue g = t.gateTrue g := by
    cases g
    case run => exact (decide_eq_true runs).trans (decide_eq_true (on is)).symm
    all_goals rfl
  have source : (t.withPower p).sourceCondition e = t.sourceCondition e := rfl
  have holds : (t.withPower p).holds e = t.holds e := by
    unfold Wtb.holds
    rw [source, gate, gate]
  rw [source, holds]
  exact current is ⟨watched.1, .inl (on is)⟩

/-- CRANK begins and ends outside PARKED (R101). -/
theorem wtbCrank_entriesGood {p : PowerState} (runs : p ≠ .parked) (s : State)
    (on : c = true → s.wtb.view.power ≠ .parked) : Keeps (EntriesGood c) s (wtbCrank p s) := by
  intro good
  have takes : wtbCrank p s = evaluateWhere (fun c => c.gated fun g => g = .run)
      (s.modWtb fun _ => s.wtb.withPower p) := rfl
  rw [takes]
  exact written_entriesGood (fun w => (good w).ok) fun w _ => (good w).withPower runs on

end

end Sys2Proof.Machine
end

section
/-! What the Coach Line does to the WTB and the CHS (R147, R149, R151, R157, R158, R159, R160): its operations are rows of
moves that hand the WTB a slot's or the line's state, and changes that they do not read. -/

namespace Sys2Proof.Machine

-- One theorem at a time, so that a build as one text needs few threads.
set_option Elab.async false

/-- One move of a block that hands the WTB or the CHS something, or a change of the Coach Line and the Link Port. -/
inductive FeedMove : State → State → Prop
  | hand {s t : State} (h : HandMove s t) : FeedMove s t
  | line {s t : State} (only : OnlyChanges [.clc, .free] s t) (held : t.clc.pass.isSome = true → s.clc.pass.isSome = true) :
      FeedMove s t
  | ended (resp : Response) (s : State) : FeedMove s (endPass resp s)

/-- A row of such moves. -/
def Fed : State → State → Prop := Relation.ReflTransGen FeedMove

namespace Fed
variable {s t u : State}

theorem refl (s : State) : Fed s s := Relation.ReflTransGen.refl

theorem trans (h : Fed s t) (k : Fed t u) : Fed s u := Relation.ReflTransGen.trans h k

theorem of_handed (h : Handed s t) : Fed s t := by
  induction h with
  | refl => exact refl s
  | tail _ moved walked => exact walked.tail (.hand moved)

theorem line {ps : List Part} (only : OnlyChanges ps s t)
    (held : t.clc.pass.isSome = true → s.clc.pass.isSome = true := by exact id)
    (sub : ps ⊆ [.clc, .free] := by decide) : Fed s t := Relation.ReflTransGen.single (.line (only.mono sub) held)

/-- A property that every move of a measuring block keeps, and that reads neither the Coach Line nor the Link Port, is kept
by such a row. -/
theorem keeps {P : State → Prop} {ps : List Part} (reads : Reads ps P) (apart : ∀ p ∈ ps, p ∉ [Part.clc, .lkp, .free])
    (each : ∀ {s t}, HandMove s t → Keeps P s t) (h : Fed s t) : Keeps P s t := by
  intro ok
  induction h with
  | refl => exact ok
  | tail _ moved held =>
    cases moved with
    | hand moved => exact each moved held
    | line only _ => exact Keeps.of_only reads (only.mono (by decide)) apart held
    | ended resp => exact Keeps.of_only reads (endPass_only _ resp) (fun p mem changed => apart p mem (by simp_all)) held

theorem foldl {α : Type} {f : State → α → State} (h : ∀ s a, Fed s (f s a)) (l : List α) (s : State) :
    Fed s (l.foldl f s) :=
  List.foldlRecOn (motive := fun t => Fed s t) _ _ (refl s) fun t walked a _ => walked.trans (h t a)

theorem eachIx {n : Nat} {f : Fin n → State → State} (h : ∀ i s, Fed s (f i s)) (s : State) :
    Fed s (Machine.eachIx n f s) := foldl (fun s i => h i s) _ s

end Fed

section
variable (s : State)

theorem clc_fed (f : Clc → Clc) (held : (f s.clc).pass.isSome = true → s.clc.pass.isSome = true := by exact id) :
    Fed s (s.modClc f) := .line (modClc_only s f) held

theorem node_fed (n : NodeIx) (f : Node → Node) : Fed s (s.modNode n f) := .line (modNode_only s n f)

/-- A slot's entry into a state leaves the pass-through (R147, R155). -/
theorem Clc.enterState_pass (n : NodeIx) (st : NodeState) (c : Clc) : (c.enterState n st).pass = c.pass :=
  (congrArg Clc.pass (Clc.enterState_keeps n st c) :)

/-- A collided pass-through is held as before (R157). -/
theorem Clc.collided_pass (t : Txn) (c : Clc) : (c.collided t).pass.isSome = c.pass.isSome := Option.isSome_map

theorem endPass_fed (resp : Response) : Fed s (endPass resp s) :=
  Relation.ReflTransGen.single (.ended resp s)

theorem setNodeState_fed (n : NodeIx) (st : NodeState) : Fed s (setNodeState n st s) := by
  by_cases same : s.clc.nodes[n].state = st
  · rw [setNodeState_of_same same]
    exact .refl s
  · rw [setNodeState_of_changed same]
    have held : ((s.modNode n (Node.entering st)).clc.enterState n st).pass = s.clc.pass := Clc.enterState_pass n st _
    exact (((node_fed s n _).trans (clc_fed _ _ (by rw [held]; exact id))).trans (.of_handed (notify_handed _ _))).trans
      (.of_handed (wtbNode_handed _ n st))

theorem validAnswer_fed (n : NodeIx) : Fed s (validAnswer n s) := by
  unfold validAnswer
  dsimp only
  split
  · exact (node_fed s n _).trans (setNodeState_fed _ n _)
  · exact (node_fed s n _).trans (setNodeState_fed _ n _)
  · exact node_fed s n _
  · exact node_fed s n _

theorem nodeMiss_fed (n : NodeIx) : Fed s (nodeMiss n s) := by
  have missed (k : Nat) : Fed s (if k = Config.lostMisses
      then setNodeState n .lost (s.modNode n fun nd => { nd with misses := k })
      else s.modNode n fun nd => { nd with misses := k }) := by
    split_ifs
    · exact (node_fed s n _).trans (setNodeState_fed _ n _)
    · exact node_fed s n _
  unfold nodeMiss
  split
  · exact missed _
  · exact missed _
  · exact .refl s
  · exact .refl s

theorem setLine_fed (st : LineState) : Fed s (setLine st s) := by
  unfold setLine
  split_ifs
  · exact .refl s
  · exact (clc_fed s _).trans (.of_handed (wtbLine_handed _ st))

theorem handLine_fed (old : LineState) : Fed s (handLine old s) := by
  unfold handLine
  split_ifs
  · exact .refl s
  · exact .of_handed (wtbLine_handed s _)

theorem enterIfEnabled_fed (g : Node → Node) (st : NodeState) (n : NodeIx) : Fed s (enterIfEnabled g st n s) := by
  unfold enterIfEnabled
  split_ifs
  · exact (node_fed s n _).trans (setNodeState_fed _ n _)
  · exact .refl s

theorem lineFault_fed : Fed s (lineFault s) := by
  have slots (u : State) : Fed u (eachIx 6 (enterIfEnabled id .lost) u) := .eachIx (fun n v => enterIfEnabled_fed v id .lost n) u
  unfold lineFault
  dsimp only
  rw [← enterIfEnabled_id]
  exact (((clc_fed s _).trans (endPass_fed _ _)).trans (slots _)).trans (handLine_fed _ _)

theorem coachReset_fed : Fed s (coachReset s) := by
  have slots (u : State) : Fed u (eachIx 6 rejoin u) := .eachIx (fun n v => enterIfEnabled_fed v Node.rejoined .joining n) u
  unfold coachReset
  dsimp only
  exact (((clc_fed s _).trans (endPass_fed _ _)).trans (slots _)).trans (handLine_fed _ _)

theorem contention_fed : Fed s (contention s) := by
  cases txn : s.clc.txn with
  | none =>
    rw [contention_of_no_txn txn]
    exact .refl s
  | some t =>
    by_cases sending : t.phase = .sending
    · by_cases sleep : t.kind = .sleep
      · rw [contention_of_sleep txn sending sleep]
        exact clc_fed s _
      · have held : (s.clc.collided t).pass.isSome = true → s.clc.pass.isSome = true :=
          (Clc.collided_pass t s.clc).symm.trans
        rcases Nat.lt_or_ge (s.clc.contentions + 1) 5 with few | fifth
        · rw [contention_of_few txn sending sleep few]
          exact (clc_fed s (fun c => { c.collided t with backoffTimer := some 50 }) held).trans (setLine_fed _ _)
        · rw [contention_of_fifth txn sending sleep fifth]
          exact (clc_fed s (Clc.collided t) held).trans (lineFault_fed _)
    · rw [contention_of_not_sending txn sending]
      exact .refl s

theorem backoffExpiry_fed : Fed s (backoffExpiry s) := by
  unfold backoffExpiry
  split_ifs
  · exact (clc_fed s _).trans (setLine_fed _ _)
  · exact .refl s

theorem resettingEnd_fed : Fed s (resettingEnd s) := by
  unfold resettingEnd startRound
  split_ifs
  · exact (setLine_fed s _).trans (clc_fed _ _)
  · exact .refl s

theorem configureNode_fed (n : NodeIx) (x : NodeConfig) : Fed s (configureNode n x s) := by
  rw [configureNode_eq]
  exact ((node_fed s n _).trans (clc_fed _ _)).trans (setNodeState_fed _ n _)

theorem clcRunEntry_fed : Fed s (takeRunEntry .clc s) := by
  have takes : takeRunEntry .clc s = coachReset (s.modClc fun c => { c with power := .run }) := rfl
  rw [takes]
  exact (clc_fed s _).trans (coachReset_fed _)

theorem clcParkedEntry_fed : Fed s (clcParkedEntry s) := by
  unfold clcParkedEntry
  dsimp only
  exact ((clc_fed s _).trans (endPass_fed _ _)).trans (setLine_fed _ _)

/-- The commands of the Coach Line that complete no transaction. -/
def isLineCommand : Instr → Bool
  | .contention | .backoffExpiry | .lineRelease | .resettingEnd | .roundStart | .sleepStart | .answerCharacter .. => true
  | _ => false

theorem lineCommand_fed {c : Instr} (line : isLineCommand c = true) : Fed s (otherEffect c s) := by
  cases c
  case contention => exact contention_fed s
  case backoffExpiry => exact backoffExpiry_fed s
  case lineRelease =>
    show Fed s (lineRelease s)
    unfold lineRelease
    split_ifs
    · exact clc_fed s _
    · exact .refl s
  case resettingEnd => exact resettingEnd_fed s
  case roundStart =>
    show Fed s (roundExpiry s)
    unfold roundExpiry startRound
    split_ifs
    · exact clc_fed s _
    · exact .refl s
  case sleepStart =>
    show Fed s (sleepStart s)
    unfold sleepStart
    split_ifs
    · exact (clc_fed s fun c => { c with sleepWaiting := false }).trans (.line (startTxn_only _ _))
    · exact .refl s
  case answerCharacter value mark error =>
    have received (ph : TxnPhase) : Fed s (setTxnPhase ph s) := clc_fed s _
    show Fed s (answerCharacter _ s)
    unfold answerCharacter
    split
    · exact received _
    · split_ifs
      · exact .refl s
      · exact received _
    · exact .refl s
    · exact .refl s
  all_goals cases line

/-- The requests of the Coach Line. -/
def ReqKind.isLineOwn : ReqKind → Bool
  | .setNode | .coachReset | .setCoachOptions => true
  | _ => false

theorem lineOwner_fed {k : ReqKind} (own : k.isLineOwn = true) (r : Request) : Fed s (k.owner r s).1 := by
  have ranged {α : Type} {fields : Option α} {f : α → State → State × Response} (h : ∀ a, Fed s (f a s).1) :
      Fed s (Machine.ranged fields f s).1 := by
    unfold Machine.ranged
    split
    · exact h _
    · exact .refl s
  cases k
  case setNode =>
    refine ranged fun p => ?_
    unfold setNode emptyAnswer
    split_ifs
    · exact .refl s
    · exact .refl s
    · dsimp only
      exact configureNode_fed s p.1 p.2
  case coachReset =>
    show Fed s (ownCoachReset r s).1
    unfold ownCoachReset emptyAnswer
    split_ifs
    · exact .refl s
    · dsimp only
      exact coachReset_fed s
  case setCoachOptions =>
    refine ranged fun p => ?_
    have set : Fed s (s.modClc fun c => { c with roundPeriod := p.1, callPattern := p.2.1, outsideSlot := p.2.2 }) := clc_fed s _
    exact set.trans (.of_handed (mark_handed _ _))
  all_goals cases own

end

end Sys2Proof.Machine
end

section
/-! Acknowledgments, timers, reconfigurations, Parked entry and resets leave the entries in order (R90, R93, R96, R99, R100,
R102, R106). -/

namespace Sys2Proof.Machine

-- One theorem at a time, so that a build as one text needs few threads.
set_option Elab.async false

/-! ## Records -/

section
variable {c : Bool} {t : Wtb} {e : Entry}

theorem Wtb.Good.enabled (good : t.Good c e) (awake : e.state ≠ .idle) : e.cfg.enabled = true := by
  obtain ⟨-, -, disabled, -⟩ := good.ok
  exact Bool.eq_true_of_not_eq_false fun off => awake (disabled off)

/-- In PARKED an entry that is ACTIVE, PENDING or ACKED is parked-live and not gated by RUN. -/
theorem Wtb.Good.unparked (good : t.Good c e) (awake : e.state ≠ .idle ∧ e.state ≠ .resolved)
    (st : EntryState) : EntryParkedOk t.view.power { e with state := st } := by
  obtain ⟨idle, resolved⟩ := awake
  intro parked
  obtain ⟨asleep, run⟩ := good.parked parked
  exact ⟨fun off => absurd (asleep off) idle, fun gated => absurd (run gated) (not_or.mpr ⟨idle, resolved⟩)⟩

/-- An ACTIVE entry is acknowledged (R98). -/
theorem Wtb.Good.acked (good : t.Good c e) (active : e.state = .active) :
    t.Good c { e with state := .acked, repeatTimer := none } := by
  obtain ⟨qualify, -, -, consistent⟩ := good.ok
  have enabled := good.enabled (by rw [active]; nofun)
  have quiet : ¬ e.qualifyTimer.isSome = true := fun runs => absurd (active.symm.trans (qualify.mp runs)) nofun
  refine ⟨⟨⟨fun runs => absurd runs quiet, nofun⟩, nofun, fun off => absurd (enabled.symm.trans off) nofun, consistent⟩,
    good.unparked (by rw [active]; exact ⟨nofun, nofun⟩) .acked, fun on watched => ?_⟩
  obtain ⟨memory, moved⟩ := good.current on watched
  refine ⟨memory, ?_⟩
  have holds : t.holds e = true := by
    unfold Entry.moved at moved
    rw [active] at moved
    cases held : t.holds e with
    | true => rfl
    | false =>
      rw [held] at moved
      dsimp only at moved
      split_ifs at moved
  show Entry.moved _ (t.holds e) = .acked
  rw [holds]
  rfl

/-- A RESOLVED entry goes to IDLE (R99). -/
theorem Wtb.Good.released (good : t.Good c e) (resolved : e.state = .resolved) :
    t.Good c { e with state := .idle, qualifyTimer := none } := by
  obtain ⟨-, repeats, -, consistent⟩ := good.ok
  have still : ¬ e.repeatTimer.isSome = true := fun runs => absurd (resolved.symm.trans (repeats runs)) nofun
  refine ⟨⟨⟨nofun, nofun⟩, fun runs => absurd runs still, fun _ => rfl, consistent⟩,
    fun _ => ⟨fun _ => rfl, fun _ => .inl rfl⟩, fun on watched => ?_⟩
  obtain ⟨memory, moved⟩ := good.current on watched
  refine ⟨memory, ?_⟩
  have holds : t.holds e = false := by
    unfold Entry.moved at moved
    rw [resolved] at moved
    cases held : t.holds e with
    | false => rfl
    | true =>
      rw [held] at moved
      cases moved
  show Entry.moved _ (t.holds e) = .idle
  rw [holds]
  rfl

/-- A PENDING entry qualifies (R93). -/
theorem Wtb.Good.qualified (good : t.Good c e) (pending : e.state = .pending) :
    t.Good c { e with state := .active, qualifyTimer := none, repeatTimer := none } := by
  obtain ⟨-, -, -, consistent⟩ := good.ok
  have enabled := good.enabled (by rw [pending]; nofun)
  refine ⟨⟨⟨nofun, nofun⟩, nofun, fun off => absurd (enabled.symm.trans off) nofun, consistent⟩,
    good.unparked (by rw [pending]; exact ⟨nofun, nofun⟩) .active, fun on watched => ?_⟩
  obtain ⟨memory, moved⟩ := good.current on watched
  refine ⟨memory, ?_⟩
  have holds : t.holds e = true := by
    unfold Entry.moved at moved
    rw [pending] at moved
    cases held : t.holds e with
    | true => rfl
    | false =>
      rw [held] at moved
      cases moved
  show Entry.moved _ (t.holds e) = .active
  rw [holds]
  rfl

/-- An arrival that is acknowledged ends its condition (R99). -/
theorem Wtb.Good.cleared (good : t.Good c e) (arrival : e.cfg.source = .arrival) :
    t.Good c (Entry.taken false { e with eventPending := false, memory := false }) := by
  have source : t.sourceCondition { e with eventPending := false, memory := false } = false := by
    unfold Wtb.sourceCondition
    dsimp only
    rw [arrival]
  have holds : t.holds { e with eventPending := false, memory := false } = false := by
    unfold Wtb.holds
    rw [source, Bool.and_false, Bool.false_and, Bool.false_and]
  by_cases asleep : t.view.power = .parked ∧ e.cfg.parkedLive = false
  · have idle : e.state = .idle := (good.parked asleep.1).1 asleep.2
    have taken : Entry.taken false { e with eventPending := false, memory := false } =
        { e with eventPending := false, memory := false } := by
      simp only [Entry.taken, idle]
    rw [taken]
    exact ⟨good.ok, good.parked, fun _ watched =>
      absurd ((watched.2.resolve_left (not_not_intro asleep.1)).symm.trans asleep.2) nofun⟩
  · have good := Wtb.taken_good (c := c) (t := t) (e := { e with eventPending := false, memory := false }) good.ok
      (fun parked => Bool.eq_true_of_not_eq_false fun off => asleep ⟨parked, off⟩) source.symm
    rwa [holds] at good

/-- An entry as every reset leaves it, in PARKED, apart from one that is watched (R102). -/
theorem Wtb.Good.idle {cfg : EntryConfig} (consistent : cfg.consistent = true)
    (unwatched : c = true → ¬ t.watches (Entry.idle cfg)) :
    t.Good c (Entry.idle cfg) :=
  ⟨⟨⟨nofun, nofun⟩, nofun, fun _ => rfl, consistent⟩, fun _ => ⟨fun _ => rfl, fun _ => .inl rfl⟩,
    fun on watched => absurd watched (unwatched on)⟩

end

/-! ## Acknowledgments and timers -/

section
variable {c : Bool} (s : State)

theorem clearArrival_entriesGood (w : EntryIx) : Keeps (EntriesGood c) s (clearArrival w s) := by
  unfold clearArrival
  split_ifs with arrival
  · have moved := moveEntry_rearmed w (s.modEntry w fun e => { e with eventPending := false, memory := false }) false
    rw [modEntry_modEntry] at moved
    exact moved.entriesGood fun good => good.cleared arrival
  · exact .refl s

theorem acknowledgeEntry_entriesGood (w : EntryIx) : Keeps (EntriesGood c) s (acknowledgeEntry w s).1 := by
  unfold acknowledgeEntry
  split
  · rename_i active
    exact ((leaveActive_rearmed w s .acked).entriesGood fun good => good.acked active).trans
      (clearArrival_entriesGood _ w)
  · rename_i resolved
    exact ((enterIdle_rearmed w s).entriesGood fun good => good.released resolved).trans (clearArrival_entriesGood _ w)
  all_goals exact .refl s

theorem acknowledgeWhere_entriesGood (test : EntryIx → EntryConfig → Bool) :
    Keeps (EntriesGood c) s (acknowledgeWhere test s).1 := by
  unfold acknowledgeWhere
  refine List.foldlRecOn (motive := fun p : State × Nat => Keeps (EntriesGood c) s p.1) _ _ (.refl s) fun p before w _ => ?_
  split_ifs
  · exact before.trans (acknowledgeEntry_entriesGood p.1 w)
  · exact before

theorem qualifyExpiry_entriesGood (w : EntryIx) : Keeps (EntriesGood c) s (qualifyExpiry w s) := by
  unfold qualifyExpiry
  split_ifs with due
  · exact (enterActive_rearmed w s).entriesGood fun good => good.qualified due.1
  · exact .refl s

theorem repeatExpiry_entriesGood (w : EntryIx) : Keeps (EntriesGood c) s (repeatExpiry w s) := by
  unfold repeatExpiry
  split_ifs
  · exact (Rearmed.handWarningChime w _).entriesGood fun good => good.rearms ⟨none, rfl, nofun⟩
  · exact .refl s

/-! ## Requests -/

theorem reconfigureEntry_entriesGood (w : EntryIx) {cfg : EntryConfig} (consistent : cfg.consistent = true) :
    Keeps (EntriesGood c) s (reconfigureEntry w cfg s) := by
  intro good
  rw [reconfigureEntry_eq]
  have wtb := rewriteEntry_wtb w cfg s
  generalize rewriteEntry w cfg s = u at wtb ⊢
  have own : u.wtb.entries[w] = Entry.idle cfg := by
    rw [wtb]
    exact Vector.getElem_set_self w.isLt
  intro v
  by_cases same : w = v
  · subst same
    refine evaluateEntry_good ?_ fun parked asleep => ?_
    · rw [own]
      exact ⟨⟨nofun, nofun⟩, nofun, fun _ => rfl, consistent⟩
    · rw [own] at asleep ⊢
      exact .idle consistent fun _ watched => asleep (watched.2.resolve_left (not_not_intro parked))
  · refine (evaluateEntry_left same u).good ?_
    have other : u.wtb.entries[v] = s.wtb.entries[v] := by
      rw [wtb]
      exact Vector.getElem_set_ne w.isLt v.isLt fun val => same (Fin.ext val)
    rw [other, wtb]
    exact (good v).entries _

theorem linkCondition_entriesGood (p : EntryIx × Bool) : Keeps (EntriesGood c) s (linkCondition p s).1 := by
  intro good
  unfold linkCondition emptyAnswer
  split_ifs
  · dsimp only
    intro v
    by_cases same : p.1 = v
    · subst same
      refine evaluateEntry_good ?_ fun parked asleep => ?_
      · rw [State.modEntry_entries, updAt_get_same]
        exact (good p.1).ok
      · rw [State.modEntry_entries, updAt_get_same] at asleep ⊢
        exact ⟨(good p.1).ok, (good p.1).parked, fun _ watched =>
          absurd (watched.2.resolve_left (not_not_intro parked)) asleep⟩
    · refine (evaluateEntry_left same _).good ?_
      rw [State.modEntry_entries, updAt_get_other _ _ _ _ same]
      exact (good v).entries _
  · exact good

end

end Sys2Proof.Machine
end

section
/-! Parked entry, resets and every step leave the entries in order (R100, R102). -/

namespace Sys2Proof.Machine

-- One theorem at a time, so that a build as one text needs few threads.
set_option Elab.async false

section
variable {c : Bool} (s : State)

/-! ## Parked entry -/

theorem parkEntry_left {v w : EntryIx} (other : v ≠ w) : EntryLeft w s (parkEntry v s) := by
  have written (u : State) : EntryLeft w u (u.modEntry v fun e =>
      { e with qualifyTimer := none, repeatTimer := none, memory := false }) := (Rearmed.refl _).other other
  unfold parkEntry
  dsimp only
  split
  · exact ((leaveActive_rearmed v s .idle).other other).trans (written _)
  · exact ((enterIdle_rearmed v s).other other).trans (written _)
  · exact ((enterIdle_rearmed v s).other other).trans (written _)
  · exact ((enterIdle_rearmed v s).other other).trans (written _)
  · exact written s

/-- A parked entry keeps its configuration and stands in IDLE (R100). -/
theorem parkEntry_entry (w : EntryIx) : (parkEntry w s).wtb.entries[w].cfg = s.wtb.entries[w].cfg ∧
    (parkEntry w s).wtb.entries[w].state = .idle ∧ (parkEntry w s).wtb.entries[w].qualifyTimer = none ∧
    (parkEntry w s).wtb.entries[w].repeatTimer = none ∧ (parkEntry w s).wtb.view = s.wtb.view := by
  have idled {f : Entry → Entry} {u : State} (h : Rearmed (s.modEntry w f) u)
      (idle : (f s.wtb.entries[w]).cfg = s.wtb.entries[w].cfg ∧ (f s.wtb.entries[w]).state = .idle) :
      u.wtb.entries[w].cfg = s.wtb.entries[w].cfg ∧ u.wtb.entries[w].state = .idle ∧ u.wtb.view = s.wtb.view := by
    obtain ⟨timer, entry, -⟩ := h.entries w
    rw [State.modEntry_entries, updAt_get_same] at entry
    refine ⟨?_, ?_, by rw [h.wtb]; rfl⟩
    · rw [entry]
      exact idle.1
    · rw [entry]
      exact idle.2
  have written {u : State} (h : u.wtb.entries[w].cfg = s.wtb.entries[w].cfg ∧ u.wtb.entries[w].state = .idle ∧
      u.wtb.view = s.wtb.view) :
      let t := u.modEntry w fun e => { e with qualifyTimer := none, repeatTimer := none, memory := false }
      t.wtb.entries[w].cfg = s.wtb.entries[w].cfg ∧ t.wtb.entries[w].state = .idle ∧
        t.wtb.entries[w].qualifyTimer = none ∧ t.wtb.entries[w].repeatTimer = none ∧ t.wtb.view = s.wtb.view := by
    dsimp only
    rw [State.modEntry_entries, updAt_get_same]
    exact ⟨h.1, h.2.1, rfl, rfl, h.2.2⟩
  unfold parkEntry
  dsimp only
  split
  · exact written (idled (leaveActive_rearmed w s .idle) ⟨rfl, rfl⟩)
  · exact written (idled (enterIdle_rearmed w s) ⟨rfl, rfl⟩)
  · exact written (idled (enterIdle_rearmed w s) ⟨rfl, rfl⟩)
  · exact written (idled (enterIdle_rearmed w s) ⟨rfl, rfl⟩)
  · rename_i idle
    exact written ⟨rfl, idle, rfl⟩

theorem parkEntry_good {w : EntryIx} (ok : EntryOk s.wtb.entries[w]) (parked : s.wtb.view.power = .parked)
    (asleep : ¬ s.wtb.entries[w].cfg.parkedLive = true) :
    (parkEntry w s).wtb.Good c (parkEntry w s).wtb.entries[w] := by
  obtain ⟨-, -, -, consistent⟩ := ok
  obtain ⟨cfg, idle, qualify, repeats, view⟩ := parkEntry_entry s w
  generalize parkEntry w s = u at cfg idle qualify repeats view ⊢
  refine ⟨⟨⟨fun runs => ?_, fun pends => ?_⟩, fun runs => ?_, fun _ => idle, ?_⟩, fun _ => ⟨fun _ => idle, fun _ => .inl idle⟩,
    fun _ watched => ?_⟩
  · rw [qualify] at runs
    cases runs
  · exact absurd (idle.symm.trans pends) nofun
  · rw [repeats] at runs
    cases runs
  · rw [cfg]
    exact consistent
  · rw [Wtb.watches, view, cfg] at watched
    exact absurd (watched.2.resolve_left (not_not_intro parked)) asleep

/-- The copies as Parked entry writes them (R100). -/
def WarnView.asleep (v : WarnView) : WarnView :=
  { v with
    power := .parked
    roadSource := .ch0
    roadSpeed := if decide (v.roadSource ≠ .ch0) then 0 else v.roadSpeed }

theorem WarnView.asleep_still {v : WarnView} (still : ¬ v.roadSource ≠ .ch0) : v.asleep.roadSpeed = v.roadSpeed :=
  if_neg (decide_eq_true_iff.not.mpr still)

theorem valueOf_asleep (t : Wtb) {x : WarnValue} (still : x = .roadSpeed → ¬ t.view.roadSource ≠ .ch0) :
    ({ t with view := t.view.asleep } : Wtb).valueOf x = t.valueOf x := by
  cases x
  case roadSpeed => exact congrArg (fun v : Int => some v) (congrArg _ (WarnView.asleep_still (still rfl)))
  all_goals rfl

theorem gateTrue_asleep (t : Wtb) {g : Gate} (other : g ≠ .run) :
    ({ t with view := t.view.asleep } : Wtb).gateTrue g = t.gateTrue g := by
  cases g
  case run => exact absurd rfl other
  all_goals rfl

/-- A source that reads no road speed that falls away decides as before (R100). -/
theorem sourceCondition_asleep (t : Wtb) {e : Entry}
    (still : e.cfg.source.readsValue .roadSpeed = true → ¬ t.view.roadSource ≠ .ch0) :
    ({ t with view := t.view.asleep } : Wtb).sourceCondition e = t.sourceCondition e :=
  sourceCondition_of_values
    (fun _ reads => valueOf_asleep t fun road => still (by rw [← road]; exact reads))
    (fun _ _ => rfl) (fun _ _ => rfl) ⟨rfl, rfl, rfl, rfl, rfl, rfl, rfl⟩

/-- A parked-live entry that names neither RUN nor a road speed that falls away stays in order (R100). -/
theorem Wtb.Good.asleep {t : Wtb} {e : Entry} (good : t.Good c e) (live : e.cfg.parkedLive = true)
    (other : ((e.cfg.gated fun g => g = .run) || (decide (t.view.roadSource ≠ .ch0) && e.cfg.source.readsValue .roadSpeed)) = false) :
    ({ t with view := t.view.asleep } : Wtb).Good c e := by
  simp only [EntryConfig.gated, Bool.or_eq_false_iff, decide_eq_false_iff_not] at other
  obtain ⟨⟨gate1, gate2⟩, road⟩ := other
  have source := sourceCondition_asleep t (e := e) fun reads moves => by
    rw [reads, decide_eq_true moves] at road
    cases road
  have holds : ({ t with view := t.view.asleep } : Wtb).holds e = t.holds e := by
    unfold Wtb.holds
    rw [source, gateTrue_asleep t gate1, gateTrue_asleep t gate2]
  refine ⟨good.ok, fun _ => ⟨fun off => absurd (live.symm.trans off) nofun, fun run => absurd run (not_or.mpr ⟨gate1, gate2⟩)⟩,
    fun on watched => ?_⟩
  rw [source, holds]
  exact good.current on ⟨watched.1, .inr live⟩

/-- What Parked entry does with one entry (R100). -/
def parkTurn (moved : Bool) (w : EntryIx) (u : State) : State :=
  if ¬ u.wtb.entries[w].cfg.parkedLive then parkEntry w u
  else if (u.wtb.entries[w].cfg.gated fun g => g = .run) ||
    (moved && u.wtb.entries[w].cfg.source.readsValue .roadSpeed) then evaluateEntry w u
  else u

theorem parkTurn_left {v w : EntryIx} (moved : Bool) (other : v ≠ w) (u : State) : EntryLeft w u (parkTurn moved v u) := by
  unfold parkTurn
  split_ifs
  · exact evaluateEntry_left other u
  · exact .refl w u
  · exact parkEntry_left u other

theorem parkTurn_good {w : EntryIx} {u : State} {t : Wtb} {moved : Bool} (moves : moved = decide (t.view.roadSource ≠ .ch0))
    (view : u.wtb = { t with view := t.view.asleep, entries := u.wtb.entries })
    {e : Entry} (good : t.Good c e) (start : e.Rearms u.wtb.entries[w]) :
    (parkTurn moved w u).wtb.Good c (parkTurn moved w u).wtb.entries[w] := by
  have ok : EntryOk u.wtb.entries[w] := EntryOk.rearms good.ok start
  have now := good.rearms start
  have power : u.wtb.view.power = .parked := by
    rw [view]
    rfl
  unfold parkTurn
  split_ifs with live named
  · exact evaluateEntry_good ok fun _ asleep => absurd live asleep
  · rw [moves] at named
    have after := (now.asleep live (Bool.eq_false_iff.mpr named)).entries u.wtb.entries
    rwa [← view] at after
  · exact parkEntry_good u ok power live

/-- Parked entry takes the entries in turn (R100). -/
theorem wtbParkedEntry_entriesGood : Keeps (EntriesGood c) s (wtbParkedEntry s) := by
  intro good
  have takes : wtbParkedEntry s = eachIx 32 (parkTurn (decide (s.wtb.view.roadSource ≠ .ch0)))
      (s.modWtb fun t => { t with bulbCheck := none, view := t.view.asleep }) := rfl
  rw [takes]
  refine turns_entriesGood (fun v w u other => parkTurn_left _ other u) fun w u before => ?_
  have woken : ({ s.wtb with bulbCheck := none } : Wtb).Good c s.wtb.entries[w] :=
    ⟨(good w).ok, (good w).parked, (good w).current⟩
  exact parkTurn_good (t := { s.wtb with bulbCheck := none }) rfl before.wtb woken before.entry

end

end Sys2Proof.Machine
end

section
/-! Every step leaves the entries in order (R92, R102): what the other blocks hand the WTB, resets, and O9. -/

namespace Sys2Proof.Machine

-- One theorem at a time, so that a build as one text needs few threads.
set_option Elab.async false

section
variable {c : Bool} {s t : State}

theorem reads_entriesGood : Reads [.wtb] (EntriesGood c) := fun s t same good => by
  have wtb : t.wtb = s.wtb := same .wtb (by decide)
  unfold EntriesGood
  rw [wtb]
  exact good

theorem HandMove.entriesGood (h : HandMove s t) : Keeps (EntriesGood c) s t := by
  cases h with
  | elsewhere only apart =>
    refine .of_only reads_entriesGood only fun p mem changed => apart p changed ?_
    rw [List.mem_singleton.mp mem]
    decide
  | mark i => exact .of_only reads_entriesGood (mark_only s i)
  | notify n => exact .of_only reads_entriesGood (notify_only s n)
  | warn f test _ covers => exact wtbTake_entriesGood covers
  | arrival => exact wtbArrival_entriesGood s
  | alarm a al => exact (Rearmed.takeChime _ s).keeps
  | alarmGone a => exact (Rearmed.removeChime _ s).keeps
  | flags o k => exact .of_only reads_entriesGood (modLkp_only s _)
  | coach l v => exact .of_only reads_entriesGood (modClc_only s _)

theorem Fed.entriesGood (h : Fed s t) : Keeps (EntriesGood c) s t :=
  h.keeps reads_entriesGood (by decide) HandMove.entriesGood

theorem Handed.entriesGood (h : Handed s t) : Keeps (EntriesGood c) s t := (Fed.of_handed h).entriesGood

/-! ## Lamps -/

/-- The lamps play no part (R103, R104, R105). -/
theorem Wtb.Good.lit {w : Wtb} {e : Entry} (good : w.Good c e) (lamps : Vector Lamp 12) (flash : Bool) (bulb : Option Nat) :
    ({ w with lamps := lamps, flashLit := flash, bulbCheck := bulb } : Wtb).Good c e :=
  ⟨good.ok, good.parked, good.current⟩

/-! ## Requests and commands -/

theorem warnOwner_entriesGood {k : ReqKind} (own : k.isWarnOwn = true) (r : Request) :
    Keeps (EntriesGood c) s (k.owner r s).1 := by
  cases k
  case setPattern => exact .of_only reads_entriesGood (owner_only .setPattern r s)
  case setPrivacy => exact .of_only reads_entriesGood (owner_only .setPrivacy r s)
  case setLamp =>
    refine .ranged fun p _ => ?_
    exact fun good w => (good w).lit _ _ _
  case setWarning =>
    refine .ranged fun p fields => ?_
    exact reconfigureEntry_entriesGood s p.1 (warningFields_eq_some.mp fields).2.2
  case acknowledge => exact .ranged fun one _ => acknowledgeWhere_entriesGood s _
  case linkCondition => exact .ranged fun p _ => linkCondition_entriesGood s p
  case setSwitch => exact .ranged fun p _ => changeSwitch_entriesGood p.1 _ s
  case chime =>
    refine .ranged fun f _ => ?_
    dsimp only
    split_ifs
    · exact (Rearmed.takeChime _ s).keeps
    · exact (Rearmed.takeChime _ s).keeps
  case cancelChime =>
    show Keeps (EntriesGood c) s (ownCancelChime r s).1
    unfold ownCancelChime emptyAnswer
    split
    · exact ((Rearmed.removeChime _ s).trans (Rearmed.handEnd _ _ _)).keeps
    · exact .refl s
  all_goals cases own

theorem owner_entriesGood (k : ReqKind) (r : Request) : Keeps (EntriesGood c) s (k.owner r s).1 := by
  by_cases other : k.isOwn = false
  · exact (owner_handed s other r).entriesGood
  by_cases warns : k.isWarnOwn = true
  · exact warnOwner_entriesGood warns r
  by_cases line : k.isLineOwn = true
  · exact (lineOwner_fed s line r).entriesGood
  cases k
  case setNoticeMask => exact .of_only reads_entriesGood (owner_only .setNoticeMask r s)
  case restart => exact .of_only reads_entriesGood (owner_only .restart r s)
  case coachPass => exact .of_only reads_entriesGood (owner_only .coachPass r s)
  all_goals first | exact absurd rfl other | exact absurd rfl warns | exact absurd rfl line

theorem warnCommand_entriesGood {i : Instr} (warns : isWarnCommand i = true) :
    Keeps (EntriesGood c) s (otherEffect i s) := by
  cases i
  case switchChange n => exact changeSwitch_entriesGood n _ s
  case qualifyExpiry w => exact qualifyExpiry_entriesGood s w
  case repeatExpiry w => exact repeatExpiry_entriesGood s w
  case flashPhase => exact fun good w => (good w).lit _ _ _
  case bulbCheckEnd => exact fun good w => (good w).lit _ _ _
  case segmentEnd => exact (Rearmed.segmentEnd s).keeps
  all_goals cases warns

theorem ownRearEvent_entriesGood (e : RearEvent) : Keeps (EntriesGood c) s (ownRearEvent e s).1 := by
  rcases ownRearEvent_cases s e with handed | chime | ⟨on, privacy⟩ | acknowledged
  · exact handed.entriesGood
  · rw [chime]
    exact (Rearmed.takeChime _ s).keeps
  · rw [privacy]
    exact .of_only reads_entriesGood (takePrivacy_only s on)
  · rw [acknowledged]
    exact acknowledgeWhere_entriesGood s _

theorem completion_entriesGood : KeepsCompletion (EntriesGood c) where
  dropped s := .of_only reads_entriesGood (modClc_only s _)
  valid n s := (validAnswer_fed s n).entriesGood
  miss n s := (nodeMiss_fed s n).entriesGood
  whole n s := .of_only reads_entriesGood (modClc_only s _)
  append n item s := .of_only reads_entriesGood (modClc_only s _)
  notify n s := .of_only reads_entriesGood (notify_only s n)
  own e s := ownRearEvent_entriesGood e
  endPass r s := .of_only reads_entriesGood (endPass_only s r)

/-- Every command but a change of the power state keeps the entries in order. -/
theorem other_entriesGood {i : Instr} (power : ¬ isPowerCommand i = true) : Keeps (EntriesGood c) s (otherEffect i s) := by
  by_cases answer : isAnswerCommand i = true
  · exact .answerCommand (.of_only reads_entriesGood (modClc_only s _)) (fun a => completion_entriesGood.completeTxn a s) answer
  by_cases measuring : isMeasuringCommand i = true
  · exact (measuring_handed s measuring).entriesGood
  by_cases warns : isWarnCommand i = true
  · exact warnCommand_entriesGood warns
  by_cases line : isLineCommand i = true
  · exact (lineCommand_fed s line).entriesGood
  by_cases apart : Part.wtb ∈ otherParts i
  case neg =>
    exact .of_only reads_entriesGood (otherEffect_only i s) fun p mem => by rwa [List.mem_singleton.mp mem]
  cases i
  all_goals first
    | exact absurd rfl power
    | exact absurd rfl answer
    | exact absurd rfl measuring
    | exact absurd rfl warns
    | exact absurd rfl line
    | exact absurd apart (by simp [otherParts])

/-! ## Changes of the power state and resets -/

theorem coachReset_entriesGood : Keeps (EntriesGood c) s (coachReset s) := (coachReset_fed s).entriesGood

theorem takeRunEntry_entriesGood (b : Block) : Keeps (EntriesGood c) s (takeRunEntry b s) := by
  cases b
  case wtb => exact wtbRunEntry_entriesGood s
  case clc => exact (clcRunEntry_fed s).entriesGood
  case chs => exact .of_only reads_entriesGood (takeRunEntry_parts s .chs)
  case lkp => exact .of_only reads_entriesGood (takeRunEntry_parts s .lkp)
  all_goals exact (takeRunEntry_handed s rfl).entriesGood

theorem takeParkedEntry_entriesGood (b : Block) : Keeps (EntriesGood c) s (takeParkedEntry b s) := by
  cases b
  case wtb => exact wtbParkedEntry_entriesGood s
  case clc => exact (clcParkedEntry_fed s).entriesGood
  case chs => exact .of_only reads_entriesGood (takeParkedEntry_parts s .chs)
  case lkp => exact .of_only reads_entriesGood (takeParkedEntry_parts s .lkp)
  all_goals exact (takeParkedEntry_handed s rfl).entriesGood

theorem takeCrank_entriesGood {p : PowerState} {b : Block} (runs : p ≠ .parked)
    (on : c = true → s.powers.of b ≠ .parked) : Keeps (EntriesGood c) s (takeCrank p b s) := by
  cases b
  case wtb => exact wtbCrank_entriesGood runs s on
  case clc => exact .of_only reads_entriesGood (modClc_only s _)
  case chs => exact .of_only reads_entriesGood (takeCrank_parts s p .chs)
  case lkp => exact .of_only reads_entriesGood (takeCrank_parts s p .lkp)
  all_goals exact (takeCrank_handed s rfl).entriesGood

theorem resetAll_entries (cause : ResetCause) (armed : Bool) (lines : InputLines) (s : State) (w : EntryIx) :
    (resetAll cause armed lines s).wtb.entries[w] = Entry.idle s.wtb.entries[w].cfg :=
  mapAll_get (fun e : Entry => Entry.idle e.cfg) s.wtb.entries w

theorem resetAll_parked (cause : ResetCause) (armed : Bool) (lines : InputLines) (s : State) :
    (resetAll cause armed lines s).wtb.view.power = .parked := rfl

/-- Every reset leaves the entries in order but for the evaluation of those that are parked-live (R102). -/
theorem resetAll_good (cause : ResetCause) (armed : Bool) (lines : InputLines) (s : State) (w : EntryIx)
    (consistent : s.wtb.entries[w].cfg.consistent = true)
    (skipped : c = true → (s.wtb.entries[w].cfg.enabled && s.wtb.entries[w].cfg.parkedLive) = false) :
    (resetAll cause armed lines s).wtb.Good c (resetAll cause armed lines s).wtb.entries[w] := by
  have entry := resetAll_entries cause armed lines s w
  have parked := resetAll_parked cause armed lines s
  generalize (resetAll cause armed lines s).wtb = t at entry parked ⊢
  rw [entry]
  refine .idle consistent fun on watched => ?_
  have live := watched.2.resolve_left (not_not_intro parked)
  have off := skipped on
  rw [show s.wtb.entries[w].cfg.enabled = true from watched.1, show s.wtb.entries[w].cfg.parkedLive = true from live] at off
  cases off

theorem reset_entriesGood (cause : ResetCause) (armed : Bool) (lines : InputLines) (n : Notice) (s : State) :
    Keeps (EntriesGood c) s
      (evaluateWhere (fun c => c.enabled && c.parkedLive) ((resetAll cause armed lines s).notify n)) := by
  intro good
  have consistent (w : EntryIx) : s.wtb.entries[w].cfg.consistent = true := (good w).ok.2.2.2
  have entry (w : EntryIx) := resetAll_entries cause armed lines s w
  have parked := resetAll_parked cause armed lines s
  have reset (w : EntryIx) := resetAll_good (c := c) cause armed lines s w (consistent w)
  have unrepaired (w : EntryIx) := resetAll_good (c := false) cause armed lines s w (consistent w) nofun
  generalize resetAll cause armed lines s = u at entry parked reset unrepaired ⊢
  have wtb : (u.notify n).wtb = u.wtb := notify_only u n .wtb (by decide)
  refine evaluateWhere_entriesGood (fun w => ?_) fun w skipped => ?_
  · rw [wtb]
    exact (unrepaired w).ok
  · rw [wtb] at skipped ⊢
    rw [entry w] at skipped
    refine reset w fun _ => ?_
    rcases skipped with untested | ⟨-, asleep⟩
    · exact untested
    · have live : s.wtb.entries[w].cfg.parkedLive = false := Bool.eq_false_iff.mpr asleep
      rw [live, Bool.and_false]

theorem supplied_entriesGood (lines : InputLines) (s : State) :
    EntriesGood c (State.supplied lines s.inputs s.free s.pending) := by
  intro w
  have entry : (Wtb.supply lines).entries[w] = Entry.idle EntryConfig.supply := Vector.getElem_replicate _
  show (Wtb.supply lines).Good c (Wtb.supply lines).entries[w]
  rw [entry]
  exact .idle (by decide) fun _ watched => absurd watched.1 nofun

/-- The timers, the states and the configurations are kept without the other blocks' copies. -/
theorem power_entriesGood : KeepsPower (EntriesGood false) where
  igs _ _ good := good
  free _ _ good := good
  notify s n := .of_only reads_entriesGood (notify_only s n)
  sent _ _ good := good
  run b s := takeRunEntry_entriesGood b
  parked b s := takeParkedEntry_entriesGood b
  crank p b s runs := takeCrank_entriesGood runs nofun
  coach s := coachReset_entriesGood
  evaluate test s good := evaluateWhere_entriesGood (fun w => (good w).ok) fun w _ => good w
  reset cause armed lines s good w := resetAll_good cause armed lines s w (good w).ok.2.2.2 nofun
  supplied := supplied_entriesGood

theorem entry_entriesGood : KeepsEntry (EntriesGood c) where
  igs _ _ good := good
  free _ _ good := good
  notify s n := .of_only reads_entriesGood (notify_only s n)
  sent _ _ good := good
  run b s := takeRunEntry_entriesGood b
  parked b s := takeParkedEntry_entriesGood b
  crank p b s runs on := takeCrank_entriesGood runs fun _ => on
  rejoin s good := by
    have joined : EntriesGood c (coachReset s) := coachReset_entriesGood good
    generalize coachReset s = u at joined ⊢
    have started : EntriesGood c (u.modIgs fun g => { g with power := .run }) := joined
    exact List.foldlRecOn (motive := EntriesGood c) _ _ started fun v held b _ => takeRunEntry_entriesGood b held
  reset cause armed lines n s := reset_entriesGood cause armed lines n s
  supplied := supplied_entriesGood

end

/-- Settles O9: what every operation of the WTB makes of an entry's record, and that the others hand it conditions alone,
evaluated where they change. -/
theorem entriesKept : Obligations.EntriesKept := by
  unfold Obligations.EntriesKept
  constructor
  · intro s t ok stepped
    rw [← entriesGood_false] at ok ⊢
    refine step_keeps_blocks reads_entriesGood (fun k r u => owner_entriesGood k r) (fun i u => ?_) ok stepped
    by_cases power : isPowerCommand i = true
    · exact power_entriesGood.effect power
    · exact other_entriesGood power
  · intro s t ok current powers stepped
    have good := (entriesGood_true s).mpr ⟨ok, current⟩
    have after : EntriesGood true t := by
      refine step_keeps_blocks_powered reads_entriesGood (fun k r u _ => owner_entriesGood k r) (fun i u copies => ?_) good
        powers stepped
      by_cases power : isPowerCommand i = true
      · exact entry_entriesGood.effect power copies
      · exact other_entriesGood power
    exact ((entriesGood_true t).mp after).2

end Sys2Proof.Machine
end

section
/-! What the blocks do to the Link Port's queues (R187, R189): all but the Link Port's own operations and the end of a
pass-through hand notices alone. A property of the queues that these keep is kept by all of them. -/

namespace Sys2Proof.Machine

-- One theorem at a time, so that a build as one text needs few threads.
set_option Elab.async false

/-! ## The notice queue -/

namespace NoticeQueueOk
variable {l : Lkp}

/-- A notice taken leaves the queue in order (R189). -/
theorem takeNotice (ok : NoticeQueueOk l) (n : Notice) : NoticeQueueOk (l.takeNotice n) := by
  obtain ⟨short, distinct, on⟩ := ok
  unfold Lkp.takeNotice
  split_ifs with off same full
  · exact ⟨short, distinct, on⟩
  · have replaced (m : Notice) : (if m.key = n.key then n else m).key = m.key := by
      split_ifs with key
      · exact key.symm
      · rfl
    refine ⟨by rw [List.length_map]; exact short, ?_, fun m mem => ?_⟩
    · have keys : (l.notices.map fun m => if m.key = n.key then n else m).map Notice.key = l.notices.map Notice.key := by
        rw [List.map_map]
        exact List.map_congr_left fun m _ => replaced m
      dsimp only
      rw [keys]
      exact distinct
    · obtain ⟨m', held, rfl⟩ := List.mem_map.mp mem
      split_ifs
      · exact Bool.eq_true_of_not_eq_false off
      · exact on m' held
  · exact ⟨short, distinct, on⟩
  · refine ⟨?_, ?_, fun m mem => ?_⟩
    · rw [List.length_append, List.length_singleton]
      exact Nat.lt_of_not_le full
    · rw [List.map_append, List.map_singleton]
      refine List.nodup_append.mpr ⟨distinct, List.nodup_singleton _, fun a mem b last key => same ?_⟩
      obtain ⟨m, held, rfl⟩ := List.mem_map.mp mem
      exact List.any_eq_true.mpr ⟨m, held, decide_eq_true (key.trans (List.mem_singleton.mp last))⟩
    · rcases List.mem_append.mp mem with before | last
      · exact on m before
      · rw [List.mem_singleton.mp last]
        exact Bool.eq_true_of_not_eq_false off

/-- The mask of kinds filters the queue (R190). -/
theorem masked (ok : NoticeQueueOk l) (mask : BitVec 10) :
    NoticeQueueOk { l with mask := mask, notices := l.notices.filter fun n => mask.getLsbD n.bit } := by
  obtain ⟨short, distinct, -⟩ := ok
  refine ⟨(List.length_filter_le _ _).trans short, distinct.sublist (List.filter_sublist.map _), fun n mem => ?_⟩
  exact (List.mem_filter.mp mem).2

end NoticeQueueOk

/-! ## Operations that hand notices alone -/

/-- Between two states the Link Port holds the same but for its notices, its markers and its copies, and no pass-through is
taken up. -/
structure LinkStill (s t : State) : Prop where
  notices : NoticeQueueOk s.lkp → NoticeQueueOk t.lkp
  rxBytes : t.lkp.rxBytes = s.lkp.rxBytes
  requests : t.lkp.requests = s.lkp.requests
  replies : t.lkp.replies = s.lkp.replies
  tx : t.lkp.tx = s.lkp.tx
  pass : t.clc.pass.isSome = true → s.clc.pass.isSome = true

namespace LinkStill
variable {s t u : State}

theorem refl (s : State) : LinkStill s s := ⟨id, rfl, rfl, rfl, rfl, id⟩

theorem trans (h : LinkStill s t) (k : LinkStill t u) : LinkStill s u where
  notices := k.notices ∘ h.notices
  rxBytes := k.rxBytes.trans h.rxBytes
  requests := k.requests.trans h.requests
  replies := k.replies.trans h.replies
  tx := k.tx.trans h.tx
  pass := h.pass ∘ k.pass

/-- Nothing of the Link Port changes. -/
theorem of_lkp (lkp : t.lkp = s.lkp) (pass : t.clc.pass.isSome = true → s.clc.pass.isSome = true) : LinkStill s t := by
  refine ⟨?_, ?_, ?_, ?_, ?_, pass⟩ <;> rw [lkp]
  exact id

theorem of_only {ps : List Part} (only : OnlyChanges ps s t) (apart : ∀ p ∈ ps, p ∉ [Part.clc, .lkp] := by decide) :
    LinkStill s t := by
  have same (p : Part) (mem : p ∈ [Part.clc, .lkp]) : p.Same s t := only p fun changed => apart p changed mem
  have clc : t.clc = s.clc := same .clc (by decide)
  exact of_lkp (same .lkp (by decide)) (by rw [clc]; exact id)

theorem notify (n : Notice) (s : State) : LinkStill s (s.notify n) := by
  have frame := Lkp.takeNotice_keeps n s.lkp
  exact ⟨fun ok => NoticeQueueOk.takeNotice ok n, (congrArg Lkp.rxBytes frame :), (congrArg Lkp.requests frame :),
    (congrArg Lkp.replies frame :), (congrArg Lkp.tx frame :), id⟩

theorem mark (i : MirrorItem) (s : State) : LinkStill s (Machine.mark i s) := by
  have pass : (Machine.mark i s).clc.pass = s.clc.pass := (congrArg Clc.pass (Clc.mark_keeps i s.clc) :)
  exact of_lkp (mark_only s i .lkp (by decide)) (by rw [pass]; exact id)

theorem alerts : AlertWalk LinkStill where
  refl := refl
  trans := trans
  entry _ _ _ _ := of_lkp rfl id
  entries _ _ := of_lkp rfl id
  chs _ _ := of_lkp rfl id
  wtb _ _ := of_lkp rfl id
  notify := notify
  mark := mark

/-- What the measuring blocks do. -/
theorem of_move (h : HandMove s t) : LinkStill s t := by
  cases h with
  | elsewhere only apart => exact of_only only fun p changed mem => apart p changed (List.mem_of_mem_drop (i := 2) mem)
  | mark i => exact mark i s
  | notify n => exact notify n s
  | warn f test => exact alerts.take s f test
  | arrival => exact alerts.wtbArrival s
  | alarm a al => exact alerts.takeChime _ s
  | alarmGone a => exact alerts.removeChime _ s
  | flags o c => exact ⟨id, rfl, rfl, rfl, rfl, id⟩
  | coach l v => exact of_lkp rfl id

/-- SET NOTICE MASK (R190). -/
theorem ownSetNoticeMask (r : Request) (s : State) : LinkStill s (Machine.ownSetNoticeMask r s).1 := by
  unfold Machine.ownSetNoticeMask refused emptyAnswer
  dsimp only
  split_ifs
  · exact refl s
  · exact ⟨fun ok => NoticeQueueOk.masked ok _, rfl, rfl, rfl, rfl, id⟩

end LinkStill

/-! ## Properties of the queues -/

/-- What such operations, the end of a pass-through and a reset keep. -/
structure QueueProperty (P : State → Prop) : Prop where
  still : ∀ {s t}, LinkStill s t → Keeps P s t
  ended : ∀ resp s, Keeps P s (endPass resp s)
  sent : ∀ f s, Keeps P s (s.modLkp (Lkp.frameSent f))
  reset : ∀ cause armed lines s, P (resetAll cause armed lines s)
  supplied : ∀ lines (s : State), P (State.supplied lines s.inputs s.free s.pending)

namespace QueueProperty
variable {P : State → Prop} (h : QueueProperty P) {s t : State}
include h

theorem handed (walked : Handed s t) : Keeps P s t := walked.keeps fun moved => h.still (.of_move moved)

theorem fed (walked : Fed s t) : Keeps P s t := by
  intro ok
  induction walked with
  | refl => exact ok
  | tail _ moved held =>
    cases moved with
    | hand moved => exact h.still (.of_move moved) held
    | line only pass => exact h.still (.of_lkp (only .lkp (by decide)) pass) held
    | ended resp => exact h.ended resp _ held

theorem clc (f : Clc → Clc) (pass : (f s.clc).pass.isSome = true → s.clc.pass.isSome = true := by exact id) :
    Keeps P s (s.modClc f) := h.still (.of_lkp rfl pass)

/-! ## The end of an event -/

theorem chooseWork (s : State) : Keeps P s (Machine.chooseWork s) := by
  have started (k : TxnKind) (u : State) : Keeps P u (startTxn k u) := h.still (.of_lkp rfl id)
  unfold Machine.chooseWork
  split
  · exact (h.still (.of_lkp rfl id) : Keeps P s (s.modNode _ _)).trans (started _ _)
  · exact (h.clc _).trans (started _ _)
  · exact .refl s

theorem startPass (n : NodeIx) (s : State) : Keeps P s (Machine.startPass n s) := by
  have phase (u : State) : Keeps P u (setPassPhase .inFlight u) :=
    h.still (.of_lkp rfl fun some => Option.isSome_map.symm.trans some)
  unfold Machine.startPass
  split_ifs
  · exact (phase s).trans (h.still (.of_lkp rfl id))
  · exact (h.ended _ s).trans (h.chooseWork _)

theorem arbiter (s : State) : Keeps P s (Machine.arbiter s) := by
  unfold Machine.arbiter
  split_ifs
  · split
    · exact (h.clc fun c => { c with retry := none }).trans (h.startPass _ _)
    · exact (h.clc fun c => { c with retry := none }).trans (h.still (.of_lkp rfl id))
    · split
      · split_ifs
        · split
          · exact h.startPass _ s
          · exact (h.ended _ s).trans (h.chooseWork _)
        · exact h.chooseWork s
      · exact h.chooseWork s
  · exact .refl s

/-! ## Requests and commands -/

theorem owner {k : ReqKind} (other : k ≠ .restart ∧ k ≠ .coachPass) (r : Request) : Keeps P s (k.owner r s).1 := by
  by_cases measuring : k.isOwn = false
  · exact h.handed (owner_handed s measuring r)
  by_cases warns : k.isWarnOwn = true
  · exact h.still (LinkStill.alerts.owner s warns r)
  by_cases line : k.isLineOwn = true
  · exact h.fed (lineOwner_fed s line r)
  cases k
  case setNoticeMask => exact h.still (.ownSetNoticeMask r s)
  case restart => exact absurd rfl other.1
  case coachPass => exact absurd rfl other.2
  all_goals first | exact absurd rfl measuring | exact absurd rfl warns | exact absurd rfl line

theorem completion : KeepsCompletion P where
  dropped s := h.clc _
  valid n s := h.fed (validAnswer_fed s n)
  miss n s := h.fed (nodeMiss_fed s n)
  whole n s := h.clc _ (by
    have pass : (s.clc.markWhole n).pass = s.clc.pass := (congrArg Clc.pass (s.clc.markWhole_keeps n) :)
    rw [pass]
    exact id)
  append n item s := h.clc _ (by
    have pass : (s.clc.appendPair item n).pass = s.clc.pass := by
      unfold Clc.appendPair
      split_ifs <;> rfl
    rw [pass]
    exact id)
  notify n s := h.still (.notify n s)
  own e s := by
    rcases ownRearEvent_cases s e with handed | chime | ⟨on, privacy⟩ | acknowledged
    · exact h.handed handed
    · rw [chime]
      exact h.still (LinkStill.alerts.takeChime _ s)
    · rw [privacy]
      exact h.still (LinkStill.alerts.privacy s on)
    · rw [acknowledged]
      exact h.still (LinkStill.alerts.acknowledgeWhere _ s)
  endPass r s := h.ended r s

/-! ## Changes of the power state -/

theorem runEntry (b : Block) : Keeps P s (takeRunEntry b s) := by
  cases b
  case wtb => exact h.still (LinkStill.alerts.runEntry s)
  case chs => exact h.still (LinkStill.alerts.power s .run)
  case clc => exact h.fed (clcRunEntry_fed s)
  case lkp => exact h.still ⟨id, rfl, rfl, rfl, rfl, id⟩
  all_goals exact h.handed (takeRunEntry_handed s rfl)

theorem parkedEntry (b : Block) : Keeps P s (takeParkedEntry b s) := by
  cases b
  case wtb => exact h.still (LinkStill.alerts.parkedEntry s)
  case chs => exact h.still (LinkStill.alerts.power s .parked)
  case clc => exact h.fed (clcParkedEntry_fed s)
  case lkp => exact h.still ⟨id, rfl, rfl, rfl, rfl, id⟩
  all_goals exact h.handed (takeParkedEntry_handed s rfl)

theorem crank (p : PowerState) (b : Block) : Keeps P s (takeCrank p b s) := by
  cases b
  case wtb => exact h.still (LinkStill.alerts.crank s p)
  case chs => exact h.still (LinkStill.alerts.power s p)
  case clc => exact h.still (.of_lkp rfl id)
  case lkp => exact h.still ⟨id, rfl, rfl, rfl, rfl, id⟩
  all_goals exact h.handed (takeCrank_handed s rfl)

theorem power : KeepsPower P where
  igs _ _ := h.still (.of_lkp rfl id)
  free _ _ := h.still (.of_lkp rfl id)
  notify s n := h.still (.notify n s)
  sent s f := h.sent f s
  run b _ := h.runEntry b
  parked b _ := h.parkedEntry b
  crank p b _ _ := h.crank p b
  coach s := h.fed (coachReset_fed s)
  evaluate test s := h.still (LinkStill.alerts.evaluateWhere test s)
  reset cause armed lines s _ := h.reset cause armed lines s
  supplied := h.supplied

/-- The commands of the Link Port itself. -/
theorem command {c : Instr} (receive : ∀ value error, Keeps P s (s.modLkp (Lkp.receive value error)))
    (idle : Keeps P s (idleGap s)) (gap : Keeps P s (gapEnd s)) (unknown : Keeps P s (serveUnknown s)) :
    Keeps P s (otherEffect c s) := by
  by_cases power : isPowerCommand c = true
  · exact h.power.effect power
  by_cases answer : isAnswerCommand c = true
  · exact .answerCommand (h.clc _) (fun a => h.completion.completeTxn a s) answer
  by_cases measuring : isMeasuringCommand c = true
  · exact h.handed (measuring_handed s measuring)
  by_cases warns : isWarnCommand c = true
  · exact h.still (LinkStill.alerts.command s warns)
  by_cases line : isLineCommand c = true
  · exact h.fed (lineCommand_fed s line)
  cases c
  case unknownKind => exact unknown
  case hostCharacter value error => exact receive value error
  case idleGap => exact idle
  case gapEnd => exact gap
  all_goals first
    | exact absurd rfl power
    | exact absurd rfl answer
    | exact absurd rfl measuring
    | exact absurd rfl warns
    | exact absurd rfl line
    | exact h.still (.of_only (otherEffect_only _ s))

end QueueProperty

end Sys2Proof.Machine
end

section
/-! The Link Port's queues over every step (R182, R184, R186, R187, R189, R190, R191, R193): O6. -/

namespace Sys2Proof.Machine

-- One theorem at a time, so that a build as one text needs few threads.
set_option Elab.async false

/-! ## The notice queue -/

/-- An operation that leaves the notices and the mask leaves the notice queue in order. -/
theorem NoticeQueueOk.congr {l l' : Lkp} (notices : l'.notices = l.notices) (mask : l'.mask = l.mask)
    (ok : NoticeQueueOk l) : NoticeQueueOk l' := by
  rw [NoticeQueueOk, notices, mask]
  exact ok

section
variable {s t : State}

theorem reply_noticeQueue (entry : ReplyEntry) (kind tag : Byte) (resp : Response) (s : State) :
    Keeps (fun u => NoticeQueueOk u.lkp) s (s.reply entry kind tag resp) := by
  unfold State.reply
  split
  · exact id
  · exact id

theorem endPass_noticeQueue (resp : Response) (s : State) : Keeps (fun u => NoticeQueueOk u.lkp) s (endPass resp s) := by
  unfold endPass
  split
  · exact Keeps.trans (t := s.modClc fun c => { c with pass := none }) id (reply_noticeQueue .reserved _ _ resp _)
  · exact id

theorem noticeQueue_property : QueueProperty fun s => NoticeQueueOk s.lkp where
  still moved := moved.notices
  ended := endPass_noticeQueue
  sent _ _ := id
  reset _ _ _ _ := ⟨Nat.zero_le _, List.nodup_nil, nofun⟩
  supplied _ _ := ⟨Nat.zero_le _, List.nodup_nil, nofun⟩

theorem startTransmitter_noticeQueue : Keeps (fun u => NoticeQueueOk u.lkp) s (startTransmitter s) := by
  intro ok
  unfold startTransmitter
  split_ifs
  · split
    · exact ok
    · rename_i n rest _ queue
      obtain ⟨short, distinct, on⟩ := ok
      rw [queue] at short distinct on
      exact ⟨Nat.le_of_succ_le short, (List.nodup_cons.mp distinct).2, fun m mem => on m (List.mem_cons_of_mem n mem)⟩
    · exact ok
  · exact ok

theorem settle_noticeQueue : Keeps (fun u => NoticeQueueOk u.lkp) s (settle s) := by
  have sealed : Keeps (fun u => NoticeQueueOk u.lkp) (arbiter s) (sealReplies (arbiter s)) := id
  exact ((noticeQueue_property.arbiter s).trans sealed).trans startTransmitter_noticeQueue

theorem receive_noticeQueue (value : Byte) (error : Bool) :
    Keeps (fun u => NoticeQueueOk u.lkp) s (s.modLkp (Lkp.receive value error)) := by
  intro ok
  show NoticeQueueOk (s.lkp.receive value error)
  unfold Lkp.receive
  split
  · exact ok
  · exact ok
  · split_ifs
    · exact ok
    · exact ok
  · split_ifs
    · exact ok
    · exact ok

theorem receiverRefusal_noticeQueue (reason : Reason) (kind tag : Byte) (s : State) :
    Keeps (fun u => NoticeQueueOk u.lkp) s (receiverRefusal reason kind tag s) := by
  unfold receiverRefusal
  split_ifs
  · exact reply_noticeQueue .ordinary kind tag _ s
  · exact id

theorem judgeBytes_noticeQueue (b : List Byte) (s : State) : Keeps (fun u => NoticeQueueOk u.lkp) s (judgeBytes b s) := by
  have offered (r : Request) : Keeps (fun u => NoticeQueueOk u.lkp) s (s.modLkp (Lkp.offer r)) := by
    intro ok
    show NoticeQueueOk (s.lkp.offer r)
    unfold Lkp.offer
    split_ifs
    · exact ok
    · exact ok
  unfold judgeBytes
  split_ifs
  · exact id
  · exact receiverRefusal_noticeQueue _ _ _ s
  · exact receiverRefusal_noticeQueue _ _ _ s
  · exact offered _

theorem idleGap_noticeQueue : Keeps (fun u => NoticeQueueOk u.lkp) s (idleGap s) := by
  have ready : Keeps (fun u => NoticeQueueOk u.lkp) s (s.modLkp Lkp.rxReady) := id
  unfold idleGap
  dsimp only
  split
  · exact ready
  · exact ready
  · split_ifs
    · exact ready
    · exact ready.trans (judgeBytes_noticeQueue _ _)
  · split_ifs
    · exact ready
    · exact ready.trans (receiverRefusal_noticeQueue _ _ _ _)
    · exact ready

theorem serveUnknown_noticeQueue : Keeps (fun u => NoticeQueueOk u.lkp) s (serveUnknown s) := by
  unfold serveUnknown
  split
  · split_ifs
    · exact Keeps.trans (t := takeRequest s) id (reply_noticeQueue _ _ _ _ _)
    · exact id
  · exact id

theorem owner_noticeQueue (k : ReqKind) (r : Request) : Keeps (fun u => NoticeQueueOk u.lkp) s (k.owner r s).1 := by
  by_cases restart : k = .restart
  · subst restart
    have behind : Keeps (fun u => NoticeQueueOk u.lkp) s (abortBehind s) :=
      .trans (.foldl (fun u _ => reply_noticeQueue .ordinary _ _ _ u) _ s) id
    exact behind.trans (endPass_noticeQueue _ (abortBehind s))
  by_cases pass : k = .coachPass
  · subst pass
    intro ok
    have lkp : (ownCoachPass r s).1.lkp = s.lkp := owner_only .coachPass r s .lkp (by decide)
    show NoticeQueueOk (ownCoachPass r s).1.lkp
    rw [lkp]
    exact ok
  · exact noticeQueue_property.owner ⟨restart, pass⟩ r

theorem serve_noticeQueue (k : ReqKind) : Keeps (fun u => NoticeQueueOk u.lkp) s (serve k k.owner s) := by
  have taken : Keeps (fun u => NoticeQueueOk u.lkp) s (takeRequest s) := id
  unfold serve
  split
  · split_ifs
    · exact (taken.trans (owner_noticeQueue k _)).trans (reply_noticeQueue _ _ _ _ _)
    · exact taken.trans (reply_noticeQueue _ _ _ _ _)
    · exact id
  · exact id

theorem noticeQueueKept (ok : NoticeQueueOk s.lkp) (stepped : step s = .next t) : NoticeQueueOk t.lkp := by
  refine step_keeps (P := fun u => NoticeQueueOk u.lkp) (fun _ _ held => held) (fun u held => ?_)
    (fun u => settle_noticeQueue) (fun k u => serve_noticeQueue k)
    (fun c u => noticeQueue_property.command receive_noticeQueue idleGap_noticeQueue id serveUnknown_noticeQueue) ok stepped
  have lkp : (nextTick u).lkp = u.lkp := nextTick_only u .lkp (by decide)
  rw [lkp]
  exact held

end

/-! ## The other queues -/

/-- The other queues in order, with at most `m` ordinary replies. -/
def LinkRoom (m : Nat) (s : State) : Prop := LinkQueuesOk s ∧ s.lkp.ordinaryHeld ≤ m

section
variable {m : Nat} {s t : State}

theorem LinkRoom.of_ok (ok : LinkQueuesOk s) : LinkRoom 2 s := ⟨ok, ok.2.2.1⟩

/-- What the queues in order depend on. -/
theorem LinkRoom.congr (h : LinkRoom m s) (rxBytes : t.lkp.rxBytes.length ≤ Config.maxFrame)
    (requests : t.lkp.requests.length ≤ Config.requestBufferSize) (replies : t.lkp.replies = s.lkp.replies)
    (tx : t.lkp.tx = s.lkp.tx) (pass : t.clc.pass.isSome = true → s.clc.pass.isSome = true) : LinkRoom m t := by
  obtain ⟨⟨-, -, ordinary, reserved, free, sending⟩, room⟩ := h
  unfold LinkRoom LinkQueuesOk Lkp.ordinaryHeld Lkp.reservedFree sendingOk
  rw [replies, tx]
  exact ⟨⟨rxBytes, requests, ordinary, reserved, fun held => free (pass held), sending⟩, room⟩

/-- A reply appended behind the others leaves the one that is being sent (R191). -/
theorem sendingOk_append {l : Lkp} (ok : sendingOk l = true) (r : Reply) :
    sendingOk { l with replies := l.replies ++ [r] } = true := by
  unfold sendingOk at ok ⊢
  dsimp only
  split
  · rename_i f tx
    rw [tx] at ok
    dsimp only at ok
    cases replies : l.replies with
    | nil =>
      rw [replies, List.head?_nil, Option.any_none, Bool.or_false] at ok
      rw [ok, Bool.true_or]
    | cons x l' =>
      rw [replies] at ok
      exact ok
  all_goals rfl

/-- A reply in an ordinary entry (R187, R188). -/
theorem reply_linkRoom (kind tag : Byte) (resp : Response) (room : m < 2) (h : LinkRoom m s) :
    LinkRoom (m + 1) (s.reply .ordinary kind tag resp) := by
  obtain ⟨⟨rx, requests, -, reserved, free, sending⟩, held⟩ := h
  unfold State.reply
  split
  · rename_i r placed
    have ordinary : r.entry = .ordinary := by
      cases resp <;> simp only [replyOf, reduceCtorEq, Option.some.injEq] at placed <;> rw [← placed]
    have count : (s.lkp.replies ++ [r]).countP (fun r => r.entry = .ordinary) ≤ m + 1 := by
      rw [List.countP_append, List.countP_singleton, if_pos (decide_eq_true ordinary)]
      exact Nat.succ_le_succ held
    refine ⟨⟨rx, requests, count.trans room, ?_, fun pass => ?_, sendingOk_append sending r⟩, count⟩
    · show (s.lkp.replies ++ [r]).countP (fun r => r.entry = .reserved) ≤ 1
      have other : ¬ decide (r.entry = .reserved) = true := by rw [ordinary]; decide
      rw [List.countP_append, List.countP_singleton, if_neg other]
      exact reserved
    · show (s.lkp.replies ++ [r]).all (fun r => r.entry = .ordinary) = true
      rw [List.all_append, List.all_cons, List.all_nil, decide_eq_true ordinary]
      exact Bool.and_eq_true_iff.mpr ⟨free pass, rfl⟩
  · exact ⟨⟨rx, requests, (held.trans (Nat.le_of_lt room)), reserved, free, sending⟩, Nat.le_succ_of_le held⟩

/-- The end of a pass-through takes the reserved entry (R186, R187). -/
theorem endPass_linkRoom (resp : Response) (s : State) : Keeps (LinkRoom m) s (endPass resp s) := by
  intro h
  obtain ⟨⟨rx, requests, two, reserved, free, sending⟩, held⟩ := h
  unfold endPass
  split
  · rename_i p pass
    have ordinary := free (by rw [pass]; rfl)
    unfold State.reply
    split
    · rename_i r placed
      have entry : r.entry = .reserved := by
        cases resp <;> simp only [replyOf, reduceCtorEq, Option.some.injEq] at placed <;> rw [← placed]
      have other : ¬ decide (r.entry = .ordinary) = true := by rw [entry]; decide
      have count : (s.lkp.replies ++ [r]).countP (fun r => r.entry = .ordinary) = s.lkp.ordinaryHeld := by
        rw [List.countP_append, List.countP_singleton, if_neg other]
        rfl
      refine ⟨⟨rx, requests, count.trans_le two, ?_, nofun, sendingOk_append sending r⟩, count.trans_le held⟩
      show (s.lkp.replies ++ [r]).countP (fun r => r.entry = .reserved) ≤ 1
      have none : s.lkp.replies.countP (fun r => r.entry = .reserved) = 0 := by
        refine List.countP_eq_zero.mpr fun x mem reserved => ?_
        have kept := of_decide_eq_true (List.all_eq_true.mp ordinary x mem)
        exact absurd (kept.symm.trans (of_decide_eq_true reserved)) nofun
      rw [List.countP_append, none, List.countP_singleton, if_pos (decide_eq_true entry)]
    · exact ⟨⟨rx, requests, two, reserved, nofun, sending⟩, held⟩
  · exact ⟨⟨rx, requests, two, reserved, free, sending⟩, held⟩

theorem emptied_linkRoom {s : State} (lkp : s.lkp.rxBytes = [] ∧ s.lkp.requests = [] ∧ s.lkp.replies = [] ∧ s.lkp.tx = .idle) :
    LinkRoom m s := by
  obtain ⟨rx, requests, replies, tx⟩ := lkp
  unfold LinkRoom LinkQueuesOk Lkp.ordinaryHeld Lkp.reservedFree sendingOk
  rw [rx, requests, replies, tx]
  exact ⟨⟨Nat.zero_le _, Nat.zero_le _, Nat.zero_le _, Nat.zero_le _, fun _ => rfl, rfl⟩, Nat.zero_le _⟩

theorem frameSent_linkRoom (f : OutFrame) (s : State) : Keeps (LinkRoom m) s (s.modLkp (Lkp.frameSent f)) := by
  rintro ⟨⟨rx, requests, two, reserved, free, -⟩, held⟩
  have sub : ((s.lkp.frameSent f).replies).Sublist s.lkp.replies := by
    show (if f.isReply then s.lkp.replies.tail else s.lkp.replies).Sublist _
    split_ifs
    · exact List.tail_sublist _
    · exact .refl _
  exact ⟨⟨rx, requests, sub.countP_le.trans two, sub.countP_le.trans reserved,
    fun pass => List.all_eq_true.mpr fun r mem => List.all_eq_true.mp (free pass) r (sub.subset mem), rfl⟩,
    sub.countP_le.trans held⟩

theorem linkRoom_property : QueueProperty (LinkRoom m) where
  still moved h := h.congr (moved.rxBytes ▸ h.1.1) (moved.requests ▸ h.1.2.1) moved.replies moved.tx moved.pass
  ended := endPass_linkRoom
  sent := frameSent_linkRoom
  reset _ _ _ _ := emptied_linkRoom ⟨rfl, rfl, rfl, rfl⟩
  supplied _ _ := emptied_linkRoom ⟨rfl, rfl, rfl, rfl⟩

/-! ## The end of an event -/

theorem sealReplies_linkRoom : Keeps (LinkRoom m) s (sealReplies s) := by
  rintro ⟨⟨rx, requests, two, reserved, free, sending⟩, held⟩
  have count (e : ReplyEntry) : (sealReplies s).lkp.replies.countP (fun r => r.entry = e) =
      s.lkp.replies.countP (fun r => r.entry = e) := by
    rw [sealReplies_lkp]
    exact List.countP_map
  refine ⟨⟨rx, requests, (count .ordinary).trans_le two, (count .reserved).trans_le reserved, fun pass => ?_, ?_⟩,
    (count .ordinary).trans_le held⟩
  · show (sealReplies s).lkp.replies.all (fun r => r.entry = .ordinary) = true
    rw [sealReplies_lkp]
    exact List.all_map.trans (free pass)
  · unfold sendingOk at sending ⊢
    rw [sealReplies_lkp]
    dsimp only
    split
    · rename_i f tx
      rw [tx] at sending
      dsimp only at sending
      rw [List.head?_map, Option.any_map]
      exact sending
    all_goals rfl

theorem startTransmitter_linkRoom : Keeps (LinkRoom m) s (startTransmitter s) := by
  rintro ⟨⟨rx, requests, two, reserved, free, sending⟩, held⟩
  unfold startTransmitter
  split_ifs
  · split
    · rename_i r l replies
      refine ⟨⟨rx, requests, two, reserved, free, ?_⟩, held⟩
      unfold sendingOk
      dsimp only [State.modLkp]
      rw [replies]
      simp [Reply.frame]
    · exact ⟨⟨rx, requests, two, reserved, free, rfl⟩, held⟩
    · exact ⟨⟨rx, requests, two, reserved, free, sending⟩, held⟩
  · exact ⟨⟨rx, requests, two, reserved, free, sending⟩, held⟩

theorem settle_linkRoom : Keeps (LinkRoom m) s (settle s) :=
  ((linkRoom_property.arbiter s).trans sealReplies_linkRoom).trans startTransmitter_linkRoom

/-! ## Commands of the Link Port -/

theorem receive_linkRoom (value : Byte) (error : Bool) : Keeps (LinkRoom m) s (s.modLkp (Lkp.receive value error)) := by
  intro h
  have rx := h.1.1
  refine h.congr ?_ ?_ ?_ ?_ id
  all_goals
    rw [State.modLkp_lkp]
    unfold Lkp.receive
  · split
    · exact rx
    · exact rx
    · split_ifs
      · exact Nat.zero_le _
      · exact Nat.le_of_ble_eq_true rfl
    · split_ifs with full
      · exact rx
      · rw [List.length_append, List.length_singleton]
        exact Nat.lt_of_not_le (not_or.mp full).2
  · have requests := h.1.2.1
    split <;> first | exact requests | (split_ifs <;> exact requests)
  · split <;> first | rfl | (split_ifs <;> rfl)
  · split <;> first | rfl | (split_ifs <;> rfl)

theorem receiverRefusal_linkRoom (reason : Reason) (kind tag : Byte) (s : State) :
    Keeps (LinkRoom 2) s (receiverRefusal reason kind tag s) := by
  intro h
  unfold receiverRefusal
  split_ifs with room
  · exact reply_linkRoom (m := 1) kind tag _ (by decide) ⟨h.1, Nat.le_of_lt_succ room⟩
  · exact h

theorem judgeBytes_linkRoom (b : List Byte) (s : State) : Keeps (LinkRoom 2) s (judgeBytes b s) := by
  have offered (r : Request) : Keeps (LinkRoom 2) s (s.modLkp (Lkp.offer r)) := by
    intro h
    refine h.congr ?_ ?_ ?_ ?_ id
    all_goals
      rw [State.modLkp_lkp]
      unfold Lkp.offer
    · split_ifs
      · exact h.1.1
      · exact h.1.1
    · split_ifs with room
      · rw [List.length_append, List.length_singleton]
        exact room
      · exact h.1.2.1
    · split_ifs <;> rfl
    · split_ifs <;> rfl
  unfold judgeBytes
  split_ifs
  · exact id
  · exact receiverRefusal_linkRoom _ _ _ s
  · exact receiverRefusal_linkRoom _ _ _ s
  · exact offered _

theorem idleGap_linkRoom : Keeps (LinkRoom 2) s (idleGap s) := by
  have ready : Keeps (LinkRoom 2) s (s.modLkp Lkp.rxReady) := fun h => h.congr (Nat.zero_le _) h.1.2.1 rfl rfl id
  unfold idleGap
  dsimp only
  split
  · exact ready
  · exact ready
  · split_ifs
    · exact ready
    · exact ready.trans (judgeBytes_linkRoom _ _)
  · split_ifs
    · exact ready
    · exact ready.trans (receiverRefusal_linkRoom _ _ _ _)
    · exact ready

theorem gapEnd_linkRoom : Keeps (LinkRoom m) s (gapEnd s) := by
  rintro ⟨⟨rx, requests, two, reserved, free, sending⟩, held⟩
  refine ⟨⟨rx, requests, two, reserved, free, ?_⟩, held⟩
  unfold gapEnd
  rw [State.modLkp_lkp]
  unfold sendingOk at sending ⊢
  dsimp only
  cases tx : s.lkp.tx with
  | sending f =>
    rw [tx] at sending
    exact sending
  | idle => rfl
  | gap => rfl

/-! ## Requests -/

/-- The oldest request leaves the buffer (R184). -/
theorem takeRequest_linkRoom : Keeps (LinkRoom m) s (takeRequest s) := fun h =>
  h.congr h.1.1 ((List.tail_sublist _).length_le.trans h.1.2.1) rfl rfl id

/-- The room that the dispatcher needs (R185). -/
theorem hasRoom_linkRoom {kind : Byte} (ok : LinkQueuesOk s) (room : s.lkp.hasRoom kind = true) : LinkRoom 1 s := by
  refine ⟨ok, ?_⟩
  unfold Lkp.hasRoom at room
  split_ifs at room
  · exact (of_decide_eq_true room).trans_le (Nat.zero_le 1)
  · exact Nat.le_of_lt_succ (of_decide_eq_true (Bool.and_eq_true_iff.mp room).1)
  · exact Nat.le_of_lt_succ (of_decide_eq_true room)

theorem serveUnknown_linkRoom : Keeps (LinkRoom 2) s (serveUnknown s) := by
  intro h
  unfold serveUnknown
  split
  · split_ifs with taken
    · exact reply_linkRoom _ _ _ (by decide) (takeRequest_linkRoom (hasRoom_linkRoom h.1 taken.2))
    · exact h
  · exact h

/-- RESTART answers what waits behind it, and it waits for a free reply queue (R193). -/
theorem ownRestart_linkRoom (r : Request) (h : LinkRoom 0 s) (one : s.lkp.requests.length ≤ 1) :
    LinkRoom 1 (ownRestart r s).1 := by
  have cleared (u : State) (held : LinkRoom 1 u) : LinkRoom 1 (u.modLkp fun l => { l with requests := [] }) :=
    held.congr held.1.1 (Nat.zero_le _) rfl rfl id
  have behind : LinkRoom 1 (abortBehind s) := by
    unfold abortBehind
    refine cleared _ ?_
    match requests : s.lkp.requests, one with
    | [], _ => exact ⟨h.1, h.2.trans (Nat.zero_le 1)⟩
    | [x], _ => exact reply_linkRoom (m := 0) x.kind x.tag (.refuse .aborted) (by decide) h
    | _ :: _ :: _, long => exact absurd long (by simp)
  have ended := endPass_linkRoom (.refuse .aborted) _ behind
  exact ended.congr ended.1.1 ended.1.2.1 rfl rfl id

/-- COACH PASS waits for the reserved entry (R185, R186). -/
theorem ownCoachPass_linkRoom (r : Request) (h : LinkRoom m s) (free : s.lkp.reservedFree = true) :
    LinkRoom m (ownCoachPass r s).1 := by
  obtain ⟨⟨rx, requests, two, reserved, -, sending⟩, held⟩ := h
  have taken (p : Option PassThrough) : LinkRoom m (s.modClc fun c => { c with pass := p }) :=
    ⟨⟨rx, requests, two, reserved, fun _ => free, sending⟩, held⟩
  have same : LinkRoom m s := taken s.clc.pass
  have accepted (p : PassThrough) : LinkRoom m (acceptPass p s).1 := by
    unfold acceptPass refused
    split_ifs
    · exact same
    · split
      · split_ifs
        · exact taken (some p)
        · exact same
      · exact same
  unfold ownCoachPass ranged refused
  split_ifs
  · exact same
  · split
    · exact accepted _
    · exact same

theorem serve_linkRoom (k : ReqKind) : Keeps (LinkRoom 2) s (serve k k.owner s) := by
  intro h
  unfold serve
  split
  · rename_i r rest requests
    split_ifs with taken
    · obtain ⟨kind, room⟩ := taken
      have before := takeRequest_linkRoom (hasRoom_linkRoom h.1 room)
      have short : (takeRequest s).lkp.requests.length ≤ 1 := by
        have two := h.1.2.1
        rw [requests] at two
        show (s.lkp.requests.tail).length ≤ 1
        rw [requests]
        exact Nat.le_of_succ_le_succ two
      refine reply_linkRoom (m := 1) _ _ _ (by decide) ?_
      by_cases restart : k = .restart
      · subst restart
        have none : s.lkp.ordinaryHeld = 0 := by
          rw [kind] at room
          exact of_decide_eq_true room
        exact ownRestart_linkRoom r ⟨before.1, Nat.le_of_eq none⟩ short
      by_cases pass : k = .coachPass
      · subst pass
        have free : s.lkp.reservedFree = true := by
          rw [kind] at room
          exact (Bool.and_eq_true_iff.mp room).2
        exact ownCoachPass_linkRoom r before free
      · exact linkRoom_property.owner ⟨restart, pass⟩ r before
    · exact reply_linkRoom _ _ _ (by decide) (takeRequest_linkRoom (hasRoom_linkRoom h.1 taken.2))
    · exact h
  · exact h

theorem linkQueues_kept (ok : LinkQueuesOk s) (stepped : step s = .next t) : LinkQueuesOk t := by
  have room : LinkRoom 2 t := by
    refine step_keeps (P := LinkRoom 2) (fun u rest held => held.congr held.1.1 held.1.2.1 rfl rfl id) (fun u held => ?_)
      (fun u => settle_linkRoom) (fun k u => serve_linkRoom k)
      (fun c u => linkRoom_property.command receive_linkRoom idleGap_linkRoom gapEnd_linkRoom serveUnknown_linkRoom)
      (.of_ok ok) stepped
    exact linkRoom_property.still (.of_only (nextTick_only u)) held
  exact room.1

end

/-- Settles O6: the blocks hand notices alone, and the Link Port's own operations are in step with the room that the
dispatcher waits for. -/
theorem linkQueuesKept : Obligations.LinkQueuesKept := by
  unfold Obligations.LinkQueuesKept
  exact ⟨fun s t => noticeQueueKept, fun s t => linkQueues_kept⟩

end Sys2Proof.Machine
end

section
/-! The chime queue and the player in order (R109, R111, R115, R116, R121): the operations of the CHS on its own records. -/

namespace Sys2Proof.Machine

-- One theorem at a time, so that a build as one text needs few threads.
set_option Elab.async false

/-! ## The queue -/

namespace ChimeQueueOk
variable {c d : Chs}

/-- The player plays no part. -/
theorem congr (ok : ChimeQueueOk c) (same : { d with player := c.player } = c) : ChimeQueueOk d := by
  have power : d.patterns = c.patterns := (congrArg Chs.patterns same :)
  have queue : d.queue = c.queue := (congrArg Chs.queue same :)
  have next : d.nextArrival = c.nextArrival := (congrArg Chs.nextArrival same :)
  unfold ChimeQueueOk
  rw [power, queue, next]
  exact ok

/-- A request leaves (R119). -/
theorem drop (ok : ChimeQueueOk c) (src : ChimeSource) : ChimeQueueOk (c.drop src) := by
  obtain ⟨patterns, short, distinct, ordered, each⟩ := ok
  have sub : (c.queue.filter fun r => r.source ≠ src).Sublist c.queue := List.filter_sublist
  exact ⟨patterns, sub.length_le.trans short, distinct.sublist (sub.map _), ordered.sublist sub,
    fun r mem => each r (sub.subset mem)⟩

/-- A request of a new source joins a queue with room (R111, R112). -/
theorem enqueue (ok : ChimeQueueOk c) {r : ChimeRequest} (room : c.queue.length < 8) (absent : c.holds r.source = false)
    (tag : r.source = .link ↔ r.tag.isSome = true) (passes : r.passes.ok = true) : ChimeQueueOk (c.enqueue r) := by
  obtain ⟨patterns, -, distinct, ordered, each⟩ := ok
  have perm := insertRequest_perm { r with arrival := c.nextArrival } c.queue
  have old {q : ChimeRequest} (mem : q ∈ c.queue) : q.arrival < c.nextArrival := (each q mem).1
  refine ⟨patterns, ?_, ?_, ?_, fun q mem => ?_⟩
  · show (insertRequest _ c.queue).length ≤ 8
    rw [perm.length_eq]
    exact room
  · show ((insertRequest _ c.queue).map fun r => r.source).Nodup
    rw [(perm.map _).nodup_iff]
    refine List.nodup_cons.mpr ⟨fun mem => ?_, distinct⟩
    obtain ⟨q, held, same⟩ := List.mem_map.mp mem
    have found : c.holds r.source = true := List.any_eq_true.mpr ⟨q, held, decide_eq_true same⟩
    exact absurd (absent.symm.trans found) nofun
  · obtain ⟨ahead, behind, parts, inserted, later, earlier⟩ :=
      insertRequest_splits { r with arrival := c.nextArrival } ordered
    show (insertRequest _ c.queue).Pairwise _
    rw [inserted]
    rw [parts] at ordered
    obtain ⟨first, last, across⟩ := List.pairwise_append.mp ordered
    refine List.pairwise_append.mpr ⟨first, List.pairwise_cons.mpr ⟨earlier, last⟩, fun a mem b mem' => ?_⟩
    rcases List.mem_cons.mp mem' with rfl | rest
    · have before := old (parts ▸ List.mem_append_left _ mem)
      have after := later a mem
      rw [ChimeRequest.before_iff]
      unfold ChimeRequest.After at after
      dsimp only at after ⊢
      omega
    · exact across a mem b rest
  · rcases List.mem_cons.mp (perm.mem_iff.mp mem) with rfl | held
    · exact ⟨Nat.lt_succ_self _, tag, passes⟩
    · obtain ⟨below, tagged, left⟩ := each q held
      exact ⟨Nat.lt_succ_of_lt below, tagged, left⟩

/-- A pass is counted (R117). -/
theorem setPasses (ok : ChimeQueueOk c) (src : ChimeSource) {p : Passes} (passes : p.ok = true) :
    ChimeQueueOk (c.setPasses src p) := by
  obtain ⟨patterns, short, distinct, ordered, each⟩ := ok
  have kept (r : ChimeRequest) : (if r.source = src then { r with passes := p } else r).source = r.source ∧
      (if r.source = src then { r with passes := p } else r).cls = r.cls ∧
      (if r.source = src then { r with passes := p } else r).arrival = r.arrival ∧
      (if r.source = src then { r with passes := p } else r).tag = r.tag := by
    split_ifs <;> exact ⟨rfl, rfl, rfl, rfl⟩
  refine ⟨patterns, ?_, ?_, ?_, fun q mem => ?_⟩
  · exact (List.length_map _).trans_le short
  · show ((c.queue.map fun r => if r.source = src then { r with passes := p } else r).map fun r => r.source).Nodup
    rw [List.map_map]
    have sources : c.queue.map ((fun r : ChimeRequest => r.source) ∘ fun r => if r.source = src then { r with passes := p } else r) =
        c.queue.map fun r => r.source := List.map_congr_left fun r _ => (kept r).1
    rw [sources]
    exact distinct
  · refine List.pairwise_map.mpr (ordered.imp fun {a b} before => ?_)
    obtain ⟨-, cls, arrival, -⟩ := kept a
    obtain ⟨-, cls', arrival', -⟩ := kept b
    unfold ChimeRequest.before at before ⊢
    rw [cls, cls', arrival, arrival']
    exact before
  · obtain ⟨r, held, rfl⟩ := List.mem_map.mp mem
    obtain ⟨below, tagged, left⟩ := each r held
    obtain ⟨source, -, arrival, tag⟩ := kept r
    refine ⟨by rw [arrival]; exact below, by rw [source, tag]; exact tagged, ?_⟩
    split_ifs
    · exact passes
    · exact left

/-- Two requests of one source are one. -/
theorem unique (ok : ChimeQueueOk c) {q r : ChimeRequest} (hq : q ∈ c.queue) (hr : r ∈ c.queue)
    (same : q.source = r.source) : q = r := List.inj_on_of_nodup_map ok.2.2.1 hq hr same

end ChimeQueueOk

/-! ## The player -/

/-- What the player plays is a segment of a queued request that may play, and in CRANK it plays nothing (R116, R121). -/
def Chs.Sound (c : Chs) : Prop := (c.power = .crank → c.player = none) ∧
  ∀ p ∈ c.player, ∃ r ∈ c.queue, r.source = p.source ∧ mayPlay c.privacy r = true ∧
    (c.patterns[r.pattern].segments[p.segment]?).map (fun g => g.duration) = some p.timer

/-- The CHS's own records in order. -/
def Chs.Fit (c : Chs) : Prop := ChimeQueueOk c ∧ PlayerOk c

namespace Chs
variable {c d : Chs} {src : ChimeSource}

theorem Fit.sound (fit : c.Fit) : c.Sound := ⟨fit.2.1, fit.2.2.1⟩

/-- A SILENT player is sound. -/
theorem sound_of_silent (silent : c.player = none) : c.Sound :=
  ⟨fun _ => silent, fun _ plays => absurd (plays.symm.trans silent) nofun⟩

/-- After a choice the CHS is in order (R116, R117). -/
theorem chooseAfter_fit (ok : ChimeQueueOk c) (crank : c.power = .crank → c.player = none) {next : Nat}
    (fits : ∀ r ∈ c.queue, r.source = src → next < c.patterns[r.pattern].segments.length) :
    (c.chooseAfter src next).Fit := by
  have frame := c.chooseAfter_frame src next
  refine ⟨ChimeQueueOk.congr ok frame, ?_⟩
  by_cases asleep : c.power = .crank
  · have same : c.chooseAfter src next = c := if_pos asleep
    rw [same]
    have silent := crank asleep
    exact ⟨fun _ => silent, (sound_of_silent silent).2, fun awake => absurd asleep awake⟩
  · have power : (c.chooseAfter src next).power = c.power := (congrArg Chs.power frame :)
    have plays := Chs.chooseAfter_plays (src := src) asleep next
    have queue : (c.chooseAfter src next).queue = c.queue := (congrArg Chs.queue frame :)
    have privacy : (c.chooseAfter src next).privacy = c.privacy := (congrArg Chs.privacy frame :)
    have patterns : (c.chooseAfter src next).patterns = c.patterns := (congrArg Chs.patterns frame :)
    generalize c.chooseAfter src next = d at power plays queue privacy patterns ⊢
    unfold Chs.PlaysAfter at plays
    rw [queue, privacy, patterns] at plays
    refine ⟨fun on => absurd (power.symm.trans on) asleep, fun p playing => ?_, fun _ silent r mem => ?_⟩
    all_goals cases found : c.queue.find? (mayPlay c.privacy) with
    | none => ?_
    | some q => ?_
    all_goals rw [found] at plays
    · exact absurd (plays.symm.trans playing) nofun
    · rw [queue, privacy, patterns]
      obtain ⟨g, at_, rfl⟩ := Option.map_eq_some_iff.mp (plays.symm.trans playing)
      refine ⟨q, List.mem_of_find?_eq_some found, rfl, List.find?_some found, ?_⟩
      dsimp only
      rw [at_]
      rfl
    · rw [queue] at mem
      rw [privacy]
      exact Bool.eq_false_iff.mpr (List.find?_eq_none.mp found r mem)
    · have held := List.mem_of_find?_eq_some found
      have segment : (if q.source = src then next else 0) < c.patterns[q.pattern].segments.length := by
        split_ifs with same
        · exact fits q held same
        · exact (ok.1 q.pattern).1
      dsimp only at plays
      rw [silent, List.getElem?_eq_getElem segment] at plays
      cases plays

theorem choose_eq_chooseAfter (src : ChimeSource) (c : Chs) : c.choose = c.chooseAfter src 0 := by
  unfold choose chooseAfter
  split_ifs
  · rfl
  · split
    · rw [ite_self]
    · rfl

theorem choose_fit (ok : ChimeQueueOk c) (crank : c.power = .crank → c.player = none) : c.choose.Fit := by
  rw [choose_eq_chooseAfter .link]
  exact chooseAfter_fit ok crank fun r _ _ => (ok.1 r.pattern).1

theorem chooseIfSilent_fit (ok : ChimeQueueOk c) (sound : c.Sound) : c.chooseIfSilent.Fit := by
  cases player : c.player with
  | none =>
    rw [chooseIfSilent_of_silent player]
    exact choose_fit ok sound.1
  | some p =>
    rw [chooseIfSilent_of_playing player]
    exact ⟨ok, sound.1, sound.2, fun _ silent => absurd (player.symm.trans silent) nofun⟩

/-- What plays goes on when another request leaves (R119). -/
theorem Sound.drop (sound : c.Sound) (src : ChimeSource) : (c.drop src).Sound := by
  obtain ⟨crank, plays⟩ := sound
  by_cases playing : c.plays src = true
  · exact sound_of_silent (if_pos playing)
  · have player : (c.drop src).player = c.player := if_neg playing
    refine ⟨fun on => player.trans (crank on), fun p held => ?_⟩
    rw [player] at held
    obtain ⟨r, mem, source, may, segment⟩ := plays p held
    refine ⟨r, List.mem_filter.mpr ⟨mem, decide_eq_true fun same => playing ?_⟩, source, may, segment⟩
    exact plays_iff.mpr ⟨p, held, source.symm.trans same⟩

theorem Sound.enqueue (sound : c.Sound) (r : ChimeRequest) : (c.enqueue r).Sound := by
  obtain ⟨crank, plays⟩ := sound
  refine ⟨crank, fun p held => ?_⟩
  obtain ⟨q, mem, rest⟩ := plays p held
  exact ⟨q, (insertRequest_perm _ _).mem_iff.mpr (List.mem_cons_of_mem _ mem), rest⟩

/-! ## Operations -/

theorem Fit.join (fit : c.Fit) {r : ChimeRequest} (room : c.queue.length < 8) (absent : c.holds r.source = false)
    (tag : r.source = .link ↔ r.tag.isSome = true) (passes : r.passes.ok = true) : (c.enqueue r).chooseIfSilent.Fit :=
  chooseIfSilent_fit (ChimeQueueOk.enqueue fit.1 room absent tag passes) (fit.sound.enqueue r)

theorem Fit.remove (fit : c.Fit) (src : ChimeSource) : (c.remove src).Fit := by
  have dropped := ChimeQueueOk.drop fit.1 src
  have sound := fit.sound.drop src
  by_cases plays : c.plays src = true
  · rw [remove_of_plays plays]
    exact choose_fit dropped sound.1
  · rw [remove_of_not_plays plays]
    have player : (c.drop src).player = c.player := if_neg plays
    exact ⟨dropped, sound.1, sound.2, fun awake silent r mem =>
      fit.2.2.2 awake (player.symm.trans silent) r (List.mem_of_mem_filter mem)⟩

/-- A source that leaves is held no more, and leaves room (R119). -/
theorem drop_holds (c : Chs) (src : ChimeSource) : (c.drop src).holds src = false := by
  refine List.any_eq_false.mpr fun r mem same => ?_
  exact of_decide_eq_true (List.mem_filter.mp mem).2 (of_decide_eq_true same)

theorem drop_holds_other {other : ChimeSource} (absent : c.holds other = false) : (c.drop src).holds other = false :=
  List.any_eq_false.mpr fun r mem => List.any_eq_false.mp absent r (List.mem_of_mem_filter mem)

theorem drop_length (ok : ChimeQueueOk c) (held : c.holds src = true) : (c.drop src).queue.length < 8 := by
  obtain ⟨r, mem, same⟩ := List.any_eq_true.mp held
  refine (List.length_filter_lt_length_iff_exists.mpr ⟨r, mem, ?_⟩).trans_le ok.2.1
  rw [decide_eq_true_eq] at same
  simp [same]

/-- A request takes the place of one that is held (R113, R114). -/
theorem Fit.replace (fit : c.Fit) {r : ChimeRequest} (held : c.holds src = true)
    (absent : (c.drop src).holds r.source = false) (tag : r.source = .link ↔ r.tag.isSome = true)
    (passes : r.passes.ok = true) : ChimeQueueOk ((c.drop src).enqueue r) ∧ ((c.drop src).enqueue r).Sound :=
  ⟨ChimeQueueOk.enqueue (ChimeQueueOk.drop fit.1 src) (drop_length fit.1 held) absent tag passes,
    (fit.sound.drop src).enqueue r⟩

/-- A change of privacy (R120). -/
theorem Fit.setPrivacy (fit : c.Fit) (on : Bool) : (c.setPrivacy on).Fit := by
  have queue : ChimeQueueOk { c with privacy := on } := fit.1
  by_cases same : c.privacy = on
  · rw [setPrivacy_of_same same]
    exact fit
  rw [setPrivacy_of_changed same]
  split
  · rename_i r playing
    split_ifs with may
    · obtain ⟨p, player, found⟩ := Option.bind_eq_some_iff.mp playing
      obtain ⟨q, mem, source, -, segment⟩ := fit.sound.2 p player
      have held := List.mem_of_find?_eq_some found
      have one : r = q := ChimeQueueOk.unique fit.1 held mem
        ((Chs.source_of_find? found).trans source.symm)
      refine ⟨queue, fit.2.1, fun p' plays => ?_, fun _ silent => absurd (player.symm.trans silent) nofun⟩
      obtain rfl : p = p' := Option.some.inj (player.symm.trans plays)
      exact ⟨q, mem, source, one ▸ may, segment⟩
    · exact choose_fit (c := { c with privacy := on, player := none }) fit.1 fun _ => rfl
  · rename_i quiet
    have silent : c.player = none := by
      by_contra playing
      obtain ⟨p, player⟩ := Option.ne_none_iff_exists'.mp playing
      obtain ⟨r, mem, source, -⟩ := fit.sound.2 p player
      unfold playingRequest at quiet
      rw [player, Option.bind_some] at quiet
      exact List.find?_eq_none.mp quiet r mem (decide_eq_true source)
    exact chooseIfSilent_fit (c := { c with privacy := on }) queue (sound_of_silent silent)

/-- A pattern that no queued request names is rewritten (R126). -/
theorem Fit.setPattern (fit : c.Fit) (p : PatternIx) {x : Pattern} (ok : PatternOk x)
    (unused : ∀ r ∈ c.queue, r.pattern ≠ p) : Fit { c with patterns := c.patterns.set p x } := by
  obtain ⟨⟨patterns, queue⟩, crank, plays, busy⟩ := fit
  refine ⟨⟨fun q => ?_, queue⟩, crank, fun y playing => ?_, busy⟩
  · dsimp only
    rw [set_get]
    split_ifs
    · exact ok
    · exact patterns q
  · obtain ⟨r, mem, source, may, segment⟩ := plays y playing
    refine ⟨r, mem, source, may, ?_⟩
    dsimp only
    rw [set_get, if_neg fun same => unused r mem same.symm]
    exact segment

/-- The player falls SILENT in CRANK (R121). -/
theorem Fit.crank (fit : c.Fit) : Fit { c with power := .crank, player := none } :=
  ⟨fit.1, fun _ => rfl, nofun, fun awake => absurd rfl awake⟩

/-- Another power state outside CRANK (R121). -/
theorem Fit.awake (fit : c.Fit) {p : PowerState} (before : c.power ≠ .crank) (after : p ≠ .crank) :
    Fit { c with power := p } :=
  ⟨fit.1, fun crank => absurd crank after, fit.2.2.1, fun _ => fit.2.2.2 before⟩

end Chs

end Sys2Proof.Machine
end

section
/-! Chime requests and the entries they belong to (R94, R95, R111, R112, R113, R114, R117, R119): what takes, ends and removes
a request leaves the chime invariant. -/

namespace Sys2Proof.Machine

-- One theorem at a time, so that a build as one text needs few threads.
set_option Elab.async false

/-! ## Requests -/

/-- A request that may be handed to the CHS: a LINK request alone has a tag, and a pass is left. -/
def ChimeRequest.Valid (r : ChimeRequest) : Prop := (r.source = .link ↔ r.tag.isSome = true) ∧ r.passes.ok = true

theorem Passes.counted_ok {p : Passes} (ok : p.ok = true) : p.counted.ok = true := by
  cases p with
  | times n => exact ok
  | whileActive => rfl

section
variable {c : Chs} (ok : ChimeQueueOk c)
include ok

theorem warningRequest_valid (w : EntryIx) (e : EntryConfig) (p : PatternIx) : (warningRequest c w e p).Valid :=
  ⟨⟨nofun, nofun⟩, (ok.1 p).2.2.2⟩

theorem alarmRequest_valid (a : AlarmIx) (al : Alarm) : (alarmRequest c a al).Valid :=
  ⟨⟨nofun, nofun⟩, Passes.counted_ok (ok.1 al.pattern).2.2.2⟩

theorem rearCallRequest_valid (p : PatternIx) : (rearCallRequest c p).Valid :=
  ⟨⟨nofun, nofun⟩, Passes.counted_ok (ok.1 p).2.2.2⟩

theorem linkRequest_valid (p : PatternIx) (cls : ChimeClass) (dest : Destination) {passes : Nat} (fits : passes ≤ 15)
    (tag : Byte) : (linkRequest c p cls dest passes tag).Valid := by
  refine ⟨⟨fun _ => rfl, fun _ => rfl⟩, ?_⟩
  unfold linkRequest
  dsimp only
  split_ifs with zero
  · exact (ok.1 p).2.2.2
  · exact Bool.and_eq_true_iff.mpr ⟨decide_eq_true (Nat.one_le_iff_ne_zero.mpr zero), decide_eq_true fits⟩

end

/-! ## The CHS takes requests -/

/-- The CHS in order after `s`, with requests of old sources and of `src` alone. -/
def Chs.After (src : Option ChimeSource) (c d : Chs) : Prop :=
  d.Fit ∧ ∀ x, d.holds x = true → c.holds x = true ∨ some x = src

section
variable {c : Chs} {s : State}

theorem Chs.holds_enqueue_iff {x : ChimeSource} {r : ChimeRequest} :
    (c.enqueue r).chooseIfSilent.holds x = true ↔ r.source = x ∨ c.holds x = true := by
  have queue : (c.enqueue r).chooseIfSilent.queue = insertRequest { r with arrival := c.nextArrival } c.queue :=
    Chs.chooseIfSilent_queue _
  have perm := insertRequest_perm { r with arrival := c.nextArrival } c.queue
  unfold Chs.holds
  rw [queue, perm.any_eq, List.any_cons, Bool.or_eq_true, decide_eq_true_iff]

theorem Chs.holds_of_drop {x src : ChimeSource} (held : (c.drop src).holds x = true) : c.holds x = true := by
  by_contra absent
  exact absurd ((Chs.drop_holds_other (src := src) (Bool.eq_false_iff.mpr absent)).symm.trans held) nofun

/-- A request taken leaves the CHS in order (R112, R113, R114). -/
theorem takeChime_after {r : ChimeRequest} (fit : s.chs.Fit) (valid : r.Valid) :
    s.chs.After (some r.source) (takeChime r s).1.chs := by
  obtain ⟨tag, passes⟩ := valid
  have same : s.chs.After (some r.source) s.chs := ⟨fit, fun x held => .inl held⟩
  have joined {c : Chs} {u : State} (chs : u.chs = (c.enqueue r).chooseIfSilent) (fits : (c.enqueue r).chooseIfSilent.Fit)
      (old : ∀ x, c.holds x = true → s.chs.holds x = true) : s.chs.After (some r.source) u.chs := by
    rw [chs]
    refine ⟨fits, fun x held => ?_⟩
    rcases Chs.holds_enqueue_iff.mp held with own | before
    · exact .inr (congrArg some own.symm)
    · exact .inl (old x before)
  have replaced {v : ChimeSource} (held : s.chs.holds v = true) (absent : (s.chs.drop v).holds r.source = false) :
      (((s.chs.drop v).enqueue r).chooseIfSilent).Fit := by
    obtain ⟨ok, sound⟩ := fit.replace held absent tag passes
    exact Chs.chooseIfSilent_fit ok sound
  cases absent : s.chs.holds r.source with
  | true =>
    by_cases link : r.source = .link
    · obtain ⟨old, stands⟩ := Chs.find?_of_holds absent
      rw [link] at stands
      have oldLink := Chs.source_of_find? stands
      obtain ⟨-, oldTag, -⟩ := fit.1.2.2.2.2 old (List.mem_of_find?_eq_some stands)
      obtain ⟨t, tagged⟩ := Option.isSome_iff_exists.mp (oldTag.mp oldLink)
      rw [takeChime_replaces link stands tagged]
      refine joined (c := s.chs.drop .link) rfl (replaced (by rw [← link]; exact absent) ?_) fun x => Chs.holds_of_drop
      rw [link]
      exact Chs.drop_holds s.chs .link
    · rw [takeChime_held absent link]
      exact same
  | false =>
    rcases Nat.lt_or_ge s.chs.queue.length 8 with room | full
    · rw [takeChime_room absent room]
      exact joined (c := s.chs) rfl (fit.join room absent tag passes) fun x held => held
    · obtain ⟨v, victim⟩ := Chs.victim_of_full full
      rcases Nat.lt_or_ge v.cls.rank r.cls.rank with higher | low
      · have held : s.chs.holds v.source = true :=
          List.any_eq_true.mpr ⟨v, (Chs.victim_spec victim).1, decide_eq_true rfl⟩
        rw [takeChime_evicts absent full victim higher]
        refine joined (c := s.chs.drop v.source) ?_ (replaced held (Chs.drop_holds_other absent)) fun x => Chs.holds_of_drop
        rw [State.modChs_chs, (handEnd_spec s .evicted v).1 .chs (by decide)]
      · rw [takeChime_full absent full victim low]
        have chs : (handNotQueued r.source s).chs = s.chs := handNotQueued_only s r.source .chs (by decide)
        dsimp only
        rw [chs]
        exact same

theorem removeChime_after (fit : s.chs.Fit) (src : ChimeSource) : s.chs.After none (removeChime src s).chs := by
  refine ⟨fit.remove src, fun x held => .inl ?_⟩
  obtain ⟨r, mem, source⟩ := List.any_eq_true.mp held
  have queue : (removeChime src s).chs.queue = s.chs.queue.filter fun q => decide (q.source ≠ src) := s.chs.remove_queue src
  rw [queue] at mem
  exact List.any_eq_true.mpr ⟨r, List.mem_of_mem_filter mem, source⟩

theorem removeChime_gone (src : ChimeSource) (s : State) : (removeChime src s).chs.holds src = false := by
  refine List.any_eq_false.mpr fun r mem same => ?_
  have queue : (removeChime src s).chs.queue = s.chs.queue.filter fun q => decide (q.source ≠ src) := s.chs.remove_queue src
  rw [queue] at mem
  exact of_decide_eq_true (List.mem_filter.mp mem).2 (of_decide_eq_true same)

/-- Passes counted leave the sources. -/
theorem Chs.setPasses_holds (src x : ChimeSource) (p : Passes) (c : Chs) : (c.setPasses src p).holds x = c.holds x := by
  unfold Chs.holds Chs.setPasses
  rw [List.any_map]
  congr 1
  funext r
  dsimp only [Function.comp]
  split_ifs <;> rfl

/-- A segment's end leaves the CHS in order (R117). -/
theorem segmentEnd_after (fit : s.chs.Fit) : s.chs.After none (segmentEnd s).chs := by
  have queue {d : Chs} {c : Chs} (frame : { d with player := c.player } = c) (x : ChimeSource) : d.holds x = c.holds x :=
    congrArg (fun q : List ChimeRequest => q.any fun r => decide (r.source = x)) (congrArg Chs.queue frame :)
  unfold segmentEnd
  split
  · rename_i p r player playing
    have found : s.chs.queue.find? (fun q => decide (q.source = p.source)) = some r := by
      unfold Chs.playingRequest at playing
      rw [player, Option.bind_some] at playing
      exact playing
    have mem := List.mem_of_find?_eq_some found
    have source := Chs.source_of_find? found
    have own {q : ChimeRequest} (held : q ∈ s.chs.queue) (same : q.source = p.source) : q = r :=
      ChimeQueueOk.unique fit.1 held mem (same.trans source.symm)
    have first {q : ChimeRequest} : 0 < s.chs.patterns[q.pattern].segments.length := (fit.1.1 q.pattern).1
    split_ifs with more
    · refine ⟨Chs.chooseAfter_fit fit.1 fit.2.1 fun q held same => ?_, fun x held => .inl ?_⟩
      · rw [own held same]
        exact more
      · rwa [State.modChs_chs, queue (s.chs.chooseAfter_frame p.source _)] at held
    · obtain ⟨-, -, left⟩ := fit.1.2.2.2.2 r mem
      split
      · refine ⟨Chs.chooseAfter_fit fit.1 fit.2.1 fun q _ _ => first, fun x held => .inl ?_⟩
        rwa [State.modChs_chs, queue (s.chs.chooseAfter_frame p.source 0)] at held
      · rename_i n passes
        rw [passes] at left
        obtain ⟨-, few⟩ := Bool.and_eq_true_iff.mp left
        split_ifs with last
        · have chs : (handEnd .finished r (s.modChs fun c => (c.drop p.source).choose)).chs = (s.chs.drop p.source).choose :=
            (handEnd_spec _ .finished r).1 .chs (by decide)
          rw [chs]
          refine ⟨Chs.choose_fit (ChimeQueueOk.drop fit.1 _) (fit.sound.drop _).1, fun x held => .inl ?_⟩
          rw [queue (Chs.choose_frame _)] at held
          exact Chs.holds_of_drop held
        · have counted : (Passes.times (n - 1)).ok = true := by
            have few := of_decide_eq_true few
            refine Bool.and_eq_true_iff.mpr ⟨decide_eq_true ?_, decide_eq_true ?_⟩ <;> omega
          have ok := ChimeQueueOk.setPasses fit.1 p.source counted
          refine ⟨Chs.chooseAfter_fit ok fit.2.1 fun q _ _ => first, fun x held => .inl ?_⟩
          rw [State.modChs_chs, queue (Chs.chooseAfter_frame p.source 0 _), Chs.setPasses_holds] at held
          exact held
  · exact ⟨fit, fun x held => .inl held⟩

end

/-! ## The chime invariant -/

/-- The chime invariant with the CHS's records together. -/
def Chimed (s : State) : Prop := s.chs.Fit ∧ WarningChimesActive s

theorem chimed_iff (s : State) : Chimed s ↔ ChimesOk s :=
  ⟨fun ⟨⟨queue, player⟩, active⟩ => ⟨queue, player, active⟩, fun ⟨queue, player, active⟩ => ⟨⟨queue, player⟩, active⟩⟩

theorem reads_chimed : Reads [.chs, .wtb] Chimed := fun s t same ok => by
  have chs : t.chs = s.chs := same .chs (by decide)
  have wtb : t.wtb = s.wtb := same .wtb (by decide)
  unfold Chimed WarningChimesActive
  rw [chs, wtb]
  exact ok

section
variable {s t : State}

/-- The entries keep their states, and no other entry's request is held than before. -/
theorem Chimed.next {src : Option ChimeSource} (ok : Chimed s) (after : s.chs.After src t.chs)
    (states : ∀ w : EntryIx, t.wtb.entries[w].state = s.wtb.entries[w].state)
    (active : ∀ w : EntryIx, src = some (.warning w) → s.wtb.entries[w].state = .active) : Chimed t := by
  refine ⟨after.1, fun w held => ?_⟩
  rw [states w]
  rcases after.2 _ held with before | own
  · exact ok.2 w before
  · exact active w own.symm

theorem Chimed.still (ok : Chimed s) (chs : t.chs = s.chs)
    (states : ∀ w : EntryIx, t.wtb.entries[w].state = s.wtb.entries[w].state) : Chimed t :=
  ok.next (src := none) ⟨by rw [chs]; exact ok.1, fun x held => .inl (by rwa [chs] at held)⟩ states nofun

theorem Rearmed.states (h : Rearmed s t) (w : EntryIx) : t.wtb.entries[w].state = s.wtb.entries[w].state := by
  obtain ⟨timer, entry, -⟩ := h.entries w
  rw [entry]

theorem takeChime_chimed {r : ChimeRequest} (valid : r.Valid)
    (active : ∀ w : EntryIx, r.source = .warning w → s.wtb.entries[w].state = .active) :
    Keeps Chimed s (takeChime r s).1 := fun ok =>
  ok.next (takeChime_after ok.1 valid) (Rearmed.takeChime r s).states fun w own => active w (Option.some.inj own)

theorem removeChime_chimed (src : ChimeSource) : Keeps Chimed s (removeChime src s) := fun ok =>
  ok.next (removeChime_after ok.1 src) (fun _ => rfl) nofun

theorem segmentEnd_chimed : Keeps Chimed s (segmentEnd s) := fun ok =>
  ok.next (segmentEnd_after ok.1) (Rearmed.segmentEnd s).states nofun

theorem handEnd_chimed (o : ChimeOutcome) (r : ChimeRequest) : Keeps Chimed s (handEnd o r s) := fun ok =>
  ok.still ((handEnd_spec s o r).1 .chs (by decide)) (Rearmed.handEnd o r s).states

/-! ## An entry's moves -/

theorem State.modEntry_states {w v : EntryIx} {f : Entry → Entry} (s : State) :
    (s.modEntry w f).wtb.entries[v].state = if w = v then (f s.wtb.entries[v]).state else s.wtb.entries[v].state := by
  rw [State.modEntry_entries, updAt_get]
  split_ifs with same
  · subst same
    rfl
  · rfl

/-- A write of an entry that has no request, or has one rightly. -/
theorem modEntry_chimed {w : EntryIx} {f : Entry → Entry}
    (rightly : s.wtb.entries[w].state = .active → (f s.wtb.entries[w]).state = .active) :
    Keeps Chimed s (s.modEntry w f) := by
  intro ok
  refine ⟨ok.1, fun v held => ?_⟩
  have active := ok.2 v held
  rw [State.modEntry_states]
  split_ifs with same
  · subst same
    exact rightly active
  · exact active

/-- An entry that leaves ACTIVE takes its request away (R95). -/
theorem modEntry_removeChime_chimed {w : EntryIx} {f : Entry → Entry} :
    Keeps Chimed s (removeChime (.warning w) (s.modEntry w f)) := by
  intro ok
  have after := removeChime_after (s := s.modEntry w f) ok.1 (.warning w)
  refine ⟨after.1, fun v held => ?_⟩
  have apart : ¬ w = v := by
    rintro rfl
    exact absurd ((removeChime_gone (.warning w) (s.modEntry w f)).symm.trans held) nofun
  have wtb : (removeChime (.warning w) (s.modEntry w f)).wtb = (s.modEntry w f).wtb := rfl
  rw [wtb, State.modEntry_states, if_neg apart]
  rcases after.2 _ held with before | own
  · exact ok.2 v before
  · cases own

theorem reportEntry_chimed (w : EntryIx) (old new : EntryState) : Keeps Chimed s (reportEntry w old new s) := fun ok =>
  ok.still (reportEntry_chs w old new s) fun v => by rw [reportEntry_wtb]

theorem handWarningChime_chimed {w : EntryIx} (active : s.wtb.entries[w].state = .active) :
    Keeps Chimed s (handWarningChime w s) := by
  intro ok
  unfold handWarningChime
  split
  · refine takeChime_chimed (warningRequest_valid ok.1.1 w _ _) (fun v own => ?_) ok
    obtain rfl : w = v := ChimeSource.warning.inj own
    exact active
  · exact ok

theorem enterActive_chimed (w : EntryIx) : Keeps Chimed s (enterActive w s) := by
  have entered : Keeps Chimed s (s.modEntry w fun e => { e with state := .active, qualifyTimer := none, repeatTimer := none }) :=
    modEntry_chimed fun _ => rfl
  refine (entered.trans (handWarningChime_chimed ?_)).trans (reportEntry_chimed w _ _)
  rw [State.modEntry_states, if_pos rfl]

theorem leaveActive_chimed (w : EntryIx) (new : EntryState) : Keeps Chimed s (leaveActive w new s) := by
  have left : Keeps Chimed s (removeChime (.warning w) (s.modEntry w fun e => { e with state := new, repeatTimer := none })) :=
    modEntry_removeChime_chimed
  exact left.trans (reportEntry_chimed w _ _)

theorem enterPending_chimed {w : EntryIx} (quiet : s.wtb.entries[w].state ≠ .active) : Keeps Chimed s (enterPending w s) := by
  have entered : Keeps Chimed s (s.modEntry w fun e => { e with state := .pending, qualifyTimer := some e.cfg.qualify }) :=
    modEntry_chimed fun active => absurd active quiet
  exact entered.trans (reportEntry_chimed w _ _)

theorem enterIdle_chimed {w : EntryIx} (quiet : s.wtb.entries[w].state ≠ .active) : Keeps Chimed s (enterIdle w s) := by
  have entered : Keeps Chimed s (s.modEntry w fun e => { e with state := .idle, qualifyTimer := none }) :=
    modEntry_chimed fun active => absurd active quiet
  exact entered.trans (reportEntry_chimed w _ _)

theorem moveEntry_chimed (w : EntryIx) (holds : Bool) : Keeps Chimed s (moveEntry w holds s) := by
  have quiet {st : EntryState} (stands : s.wtb.entries[w].state = st) (other : st ≠ .active) :
      s.wtb.entries[w].state ≠ .active := by rwa [stands]
  unfold moveEntry
  split
  · rename_i stands
    split_ifs
    · exact enterActive_chimed w
    · exact enterPending_chimed (quiet stands nofun)
  · rename_i stands
    exact enterIdle_chimed (quiet stands nofun)
  · exact leaveActive_chimed w _
  · rename_i stands
    exact enterIdle_chimed (quiet stands nofun)
  · exact enterActive_chimed w
  all_goals exact .refl s

theorem evaluateEntry_chimed (w : EntryIx) : Keeps Chimed s (evaluateEntry w s) := by
  unfold evaluateEntry
  dsimp only
  split_ifs
  · exact .refl s
  · exact (modEntry_chimed fun active => active).trans (moveEntry_chimed w _)

theorem evaluateWhere_chimed (test : EntryConfig → Bool) (s : State) : Keeps Chimed s (evaluateWhere test s) := by
  refine .eachIx (fun w u => ?_) s
  split_ifs
  · exact evaluateEntry_chimed w
  · exact .refl u

end

end Sys2Proof.Machine
end

section
/-! The chime invariant over every step (R99, R100, R111, R121, R122, R126, R128): O8. -/

namespace Sys2Proof.Machine

-- One theorem at a time, so that a build as one text needs few threads.
set_option Elab.async false

section
variable {s t : State}

/-! ## Operations of the WTB -/

/-- A write of the WTB that keeps the entries' states. -/
theorem modWtb_chimed {f : Wtb → Wtb} (states : ∀ w : EntryIx, (f s.wtb).entries[w].state = s.wtb.entries[w].state) :
    Keeps Chimed s (s.modWtb f) := fun ok => ok.still rfl states

theorem wtbTake_chimed (f : WarnView → WarnView) (test : EntryConfig → Bool) : Keeps Chimed s (wtbTake f test s) :=
  (modWtb_chimed (f := fun t => { t with view := f t.view }) fun _ => rfl).trans (evaluateWhere_chimed test _)

theorem Entry.arrived_state (e : Entry) : e.arrived.state = e.state := by
  unfold Entry.arrived
  split_ifs <;> rfl

theorem wtbArrival_chimed : Keeps Chimed s (wtbArrival s) := by
  have entry (w : EntryIx) : (mapAll Entry.arrived s.wtb.entries)[w] = s.wtb.entries[w].arrived := mapAll_get _ _ _
  have arrives : wtbArrival s = evaluateWhere (fun c => c.enabled && c.source = .arrival)
      (s.modWtb fun _ => { s.wtb with entries := mapAll Entry.arrived s.wtb.entries }) := rfl
  rw [arrives]
  generalize mapAll Entry.arrived s.wtb.entries = v at entry ⊢
  refine Keeps.trans ?_ (evaluateWhere_chimed _ _)
  exact modWtb_chimed fun w => (congrArg Entry.state (entry w)).trans (Entry.arrived_state _)

theorem clearArrival_chimed (w : EntryIx) : Keeps Chimed s (clearArrival w s) := by
  unfold clearArrival
  split_ifs
  · exact (modEntry_chimed fun active => active).trans (moveEntry_chimed w false)
  · exact .refl s

theorem acknowledgeEntry_chimed (w : EntryIx) : Keeps Chimed s (acknowledgeEntry w s).1 := by
  unfold acknowledgeEntry
  split
  · exact (leaveActive_chimed w _).trans (clearArrival_chimed w)
  · rename_i resolved
    exact (enterIdle_chimed (by rw [resolved]; nofun)).trans (clearArrival_chimed w)
  all_goals exact .refl s

theorem acknowledgeWhere_chimed (test : EntryIx → EntryConfig → Bool) : Keeps Chimed s (acknowledgeWhere test s).1 := by
  unfold acknowledgeWhere
  refine List.foldlRecOn (motive := fun p : State × Nat => Keeps Chimed s p.1) _ _ (.refl s) fun p before w _ => ?_
  split_ifs
  · exact before.trans (acknowledgeEntry_chimed w)
  · exact before

theorem parkEntry_chimed (w : EntryIx) : Keeps Chimed s (parkEntry w s) := by
  have cleared (u : State) : Keeps Chimed u
      (u.modEntry w fun e => { e with qualifyTimer := none, repeatTimer := none, memory := false }) :=
    modEntry_chimed fun active => active
  have idled {st : EntryState} (stands : s.wtb.entries[w].state = st) (other : st ≠ .active) :
      Keeps Chimed s (enterIdle w s) := enterIdle_chimed (by rwa [stands])
  unfold parkEntry
  dsimp only
  split
  · exact (leaveActive_chimed w _).trans (cleared _)
  · rename_i stands
    exact (idled stands nofun).trans (cleared _)
  · rename_i stands
    exact (idled stands nofun).trans (cleared _)
  · rename_i stands
    exact (idled stands nofun).trans (cleared _)
  · exact cleared s

/-- A configuration is rewritten: an ACTIVE entry's request leaves first (R98). -/
theorem reconfigureEntry_chimed (w : EntryIx) (c : EntryConfig) : Keeps Chimed s (reconfigureEntry w c s) := by
  have rewritten (u : State) (quiet : u.wtb.entries[w].state ≠ .active) :
      Keeps Chimed u (u.modEntry w fun _ => Entry.idle c) := modEntry_chimed fun active => absurd active quiet
  have idle {u : State} {f : Entry → Entry} (state : (f u.wtb.entries[w]).state = .idle) :
      (u.modEntry w f).wtb.entries[w].state = .idle := by
    rw [State.modEntry_states, if_pos rfl, state]
  have reported (old : EntryState) (u : State) (stands : u.wtb.entries[w].state = .idle) :
      Keeps Chimed u (evaluateEntry w ((reportEntry w old .idle u).modEntry w fun _ => Entry.idle c)) := by
    refine ((reportEntry_chimed w old .idle).trans (rewritten _ ?_)).trans (evaluateEntry_chimed w)
    rw [reportEntry_wtb, stands]
    nofun
  unfold reconfigureEntry
  dsimp only
  split_ifs with active
  · refine Keeps.trans ?_ (reported _ _ ?_)
    · exact modEntry_removeChime_chimed
    · exact idle rfl
  · refine Keeps.trans ?_ (reported _ _ ?_)
    · exact modEntry_chimed fun stands => absurd stands active
    · exact idle rfl

theorem changeSwitch_chimed (n : SwitchIx) (f : Switch → Switch) : Keeps Chimed s (changeSwitch n f s) := by
  have written : Keeps Chimed s (s.modWtb fun t => { t with switches := updAt t.switches n f }) := modWtb_chimed fun _ => rfl
  unfold changeSwitch
  dsimp only
  split_ifs
  · exact written
  · exact written.trans (evaluateWhere_chimed _ _)

theorem linkCondition_chimed (p : EntryIx × Bool) : Keeps Chimed s (linkCondition p s).1 := by
  unfold linkCondition emptyAnswer
  split_ifs
  · exact (modEntry_chimed fun active => active).trans (evaluateEntry_chimed p.1)
  · exact .refl s

/-! ## Operations of the CHS -/

theorem takePrivacy_chimed (on : Bool) : Keeps Chimed s (takePrivacy on s) := by
  intro ok
  have queue : (s.chs.setPrivacy on).queue = s.chs.queue := (congrArg Chs.queue (s.chs.setPrivacy_frame (on := on)) :)
  have after : s.chs.After none (s.chs.setPrivacy on) :=
    ⟨ok.1.setPrivacy on, fun x held => .inl (by unfold Chs.holds at held ⊢; rwa [queue] at held)⟩
  exact ok.next (t := takePrivacy on s) after (fun _ => rfl) nofun

theorem chsPower_chimed (p : PowerState) : Keeps Chimed s (chsPower p s) := by
  have written {u : State} {d : Chs} (fit : u.chs.Fit → d.Fit) (queue : d.queue = u.chs.queue) :
      Keeps Chimed u (u.modChs fun _ => d) := fun ok =>
    ok.next (src := none) ⟨fit ok.1, fun x held => .inl (by unfold Chs.holds at held ⊢; rwa [← queue])⟩ (fun _ => rfl) nofun
  have parked (u : State) : Keeps Chimed u ((removeChime .rearCall u).modChs fun c =>
      { c with power := .parked }.chooseIfSilent) := by
    refine (removeChime_chimed .rearCall).trans ?_
    generalize removeChime .rearCall u = v
    exact written (d := { v.chs with power := .parked }.chooseIfSilent)
      (fun fit => Chs.chooseIfSilent_fit (c := { v.chs with power := .parked }) fit.1 ⟨nofun, fit.sound.2⟩)
      (Chs.chooseIfSilent_queue _)
  unfold chsPower
  split
  · unfold chsParkedEntry
    dsimp only
    split_ifs
    · exact (takePrivacy_chimed false).trans (parked _)
    · exact parked s
  · exact written (d := { s.chs with power := .crank, player := none }) Chs.Fit.crank rfl
  · split_ifs with crank
    · refine written (d := { s.chs with power := .run }.choose)
        (fun fit => Chs.choose_fit (c := { s.chs with power := .run }) fit.1 nofun) ?_
      exact (congrArg Chs.queue (Chs.choose_frame { s.chs with power := .run }) :)
    · exact written (d := { s.chs with power := .run }) (fun fit => fit.awake crank nofun) rfl

/-- SET PATTERN (R126). -/
theorem patternFields_ok {b : List Byte} {p : PatternIx × Pattern} (fields : patternFields b = some p) : PatternOk p.2 := by
  simp only [patternFields, bind, Option.bind_eq_some_iff, pure, Option.some.injEq] at fields
  obtain ⟨x, -, passes, pass, count, few, segments, each, rfl⟩ := fields
  obtain ⟨rfl, low, high⟩ := within_eq_some.mp few
  obtain ⟨length, at_⟩ := mapM_range_eq_some_iff.mp each
  refine ⟨by rw [length]; exact low, by rw [length]; exact high, fun g mem => ?_, ?_⟩
  · obtain ⟨i, stands⟩ := List.mem_iff_getElem?.mp mem
    obtain ⟨-, duration, least, most⟩ := segmentField_eq_some.mp (at_ i g stands)
    rw [← duration]
    exact ⟨least, most⟩
  · rcases Nat.lt_or_ge (u8 b 1) 16 with fits | many
    · rw [Passes.ofCode_of_le fits, Option.some.injEq] at pass
      rw [← pass]
      split_ifs with zero
      · rfl
      · refine Bool.and_eq_true_iff.mpr ⟨decide_eq_true ?_, decide_eq_true ?_⟩ <;> omega
    · rw [Passes.ofCode_eq_none many] at pass
      cases pass

theorem setPattern_chimed {p : PatternIx × Pattern} (ok : PatternOk p.2) : Keeps Chimed s (setPattern p s).1 := by
  intro chimed
  unfold setPattern refused emptyAnswer
  split_ifs with used
  · exact chimed
  · have unused (r : ChimeRequest) (mem : r ∈ s.chs.queue) : r.pattern ≠ p.1 := fun same =>
      used (List.any_eq_true.mpr ⟨r, mem, decide_eq_true same⟩)
    exact chimed.next (src := none) (t := s.modChs fun c => { c with patterns := c.patterns.set p.1 p.2 })
      ⟨chimed.1.setPattern p.1 ok unused, fun x held => .inl held⟩ (fun _ => rfl) nofun

/-! ## What the measuring blocks and the line do -/

theorem HandMove.chimed (h : HandMove s t) : Keeps Chimed s t := by
  cases h with
  | elsewhere only apart =>
    refine .of_only reads_chimed only fun p mem changed => apart p changed ?_
    fin_cases mem <;> decide
  | mark i => exact .of_only reads_chimed (mark_only s i)
  | notify n => exact .of_only reads_chimed (notify_only s n)
  | warn f test => exact wtbTake_chimed f test
  | arrival => exact wtbArrival_chimed
  | alarm a al => exact fun ok => takeChime_chimed (alarmRequest_valid ok.1.1 a al) nofun ok
  | alarmGone a => exact removeChime_chimed _
  | flags o c => exact .of_only reads_chimed (modLkp_only s _)
  | coach l v => exact .of_only reads_chimed (modClc_only s _)

theorem Fed.chimed (h : Fed s t) : Keeps Chimed s t := h.keeps reads_chimed (by decide) HandMove.chimed

theorem Handed.chimed (h : Handed s t) : Keeps Chimed s t := (Fed.of_handed h).chimed

/-! ## Requests and commands -/

theorem warnOwner_chimed {k : ReqKind} (own : k.isWarnOwn = true) (r : Request) : Keeps Chimed s (k.owner r s).1 := by
  cases k
  case setWarning => exact .ranged fun p _ => reconfigureEntry_chimed p.1 p.2
  case acknowledge => exact .ranged fun one _ => acknowledgeWhere_chimed _
  case linkCondition => exact .ranged fun p _ => linkCondition_chimed p
  case setLamp => exact .ranged fun p _ => modWtb_chimed (f := fun t => { t with lamps := t.lamps.set p.1 p.2 }) fun _ => rfl
  case setSwitch => exact .ranged fun p _ => changeSwitch_chimed p.1 _
  case chime =>
    refine .ranged fun f fields ok => ?_
    obtain ⟨p, cls, dest, passes⟩ := f
    have taken : Chimed (takeChime (linkRequest s.chs p cls dest passes r.tag) s).1 := by
      obtain ⟨-, -, -, rfl, few⟩ := chimeFields_eq_some.mp fields
      exact takeChime_chimed (linkRequest_valid ok.1.1 p cls dest few r.tag) nofun ok
    dsimp only
    split_ifs
    · exact taken
    · exact taken
  case cancelChime =>
    show Keeps Chimed s (ownCancelChime r s).1
    unfold ownCancelChime emptyAnswer
    split
    · exact (removeChime_chimed .link).trans (handEnd_chimed _ _)
    · exact .refl s
  case setPattern => exact .ranged fun p fields => setPattern_chimed (patternFields_ok fields)
  case setPrivacy => exact .ranged fun on _ => takePrivacy_chimed on
  all_goals cases own

theorem owner_chimed (k : ReqKind) (r : Request) : Keeps Chimed s (k.owner r s).1 := by
  by_cases other : k.isOwn = false
  · exact (owner_handed s other r).chimed
  by_cases warns : k.isWarnOwn = true
  · exact warnOwner_chimed warns r
  by_cases line : k.isLineOwn = true
  · exact (lineOwner_fed s line r).chimed
  cases k
  case setNoticeMask => exact .of_only reads_chimed (owner_only .setNoticeMask r s)
  case restart => exact .of_only reads_chimed (owner_only .restart r s)
  case coachPass => exact .of_only reads_chimed (owner_only .coachPass r s)
  all_goals first | exact absurd rfl other | exact absurd rfl warns | exact absurd rfl line

theorem warnCommand_chimed {i : Instr} (warns : isWarnCommand i = true) : Keeps Chimed s (otherEffect i s) := by
  cases i
  case switchChange n => exact changeSwitch_chimed n _
  case qualifyExpiry w =>
    show Keeps Chimed s (qualifyExpiry w s)
    unfold qualifyExpiry
    split_ifs
    · exact enterActive_chimed w
    · exact .refl s
  case repeatExpiry w =>
    show Keeps Chimed s (repeatExpiry w s)
    unfold repeatExpiry
    split_ifs with due
    · refine (modEntry_chimed fun active => active).trans (handWarningChime_chimed ?_)
      rw [State.modEntry_states, if_pos rfl]
      exact due.1
    · exact .refl s
  case flashPhase => exact modWtb_chimed (f := fun t => { t with flashLit := !t.flashLit }) fun _ => rfl
  case bulbCheckEnd => exact modWtb_chimed (f := fun t => { t with bulbCheck := none }) fun _ => rfl
  case segmentEnd => exact segmentEnd_chimed
  all_goals cases warns

theorem ownRearEvent_chimed (e : RearEvent) : Keeps Chimed s (ownRearEvent e s).1 := by
  rcases ownRearEvent_cases s e with handed | chime | ⟨on, privacy⟩ | acknowledged
  · exact handed.chimed
  · rw [chime]
    exact fun ok => takeChime_chimed (rearCallRequest_valid ok.1.1 _) nofun ok
  · rw [privacy]
    exact takePrivacy_chimed on
  · rw [acknowledged]
    exact acknowledgeWhere_chimed _

theorem completion_chimed : KeepsCompletion Chimed where
  dropped s := .of_only reads_chimed (modClc_only s _)
  valid n s := (validAnswer_fed s n).chimed
  miss n s := (nodeMiss_fed s n).chimed
  whole n s := .of_only reads_chimed (modClc_only s _)
  append n item s := .of_only reads_chimed (modClc_only s _)
  notify n s := .of_only reads_chimed (notify_only s n)
  own e _ := ownRearEvent_chimed e
  endPass r s := .of_only reads_chimed (endPass_only s r)

/-! ## Changes of the power state and resets -/

theorem takeRunEntry_chimed (b : Block) : Keeps Chimed s (takeRunEntry b s) := by
  cases b
  case wtb =>
    show Keeps Chimed s (wtbRunEntry s)
    unfold wtbRunEntry
    exact (modWtb_chimed fun _ => rfl).trans (evaluateWhere_chimed _ _)
  case chs => exact chsPower_chimed .run
  case clc => exact (clcRunEntry_fed s).chimed
  case lkp => exact .of_only reads_chimed (takeRunEntry_parts s .lkp)
  all_goals exact (takeRunEntry_handed s rfl).chimed

theorem wtbParkedEntry_chimed : Keeps Chimed s (wtbParkedEntry s) := by
  unfold wtbParkedEntry
  dsimp only
  refine (modWtb_chimed fun _ => rfl).trans (.eachIx (fun w u => ?_) _)
  split_ifs
  · exact evaluateEntry_chimed w
  · exact .refl u
  · exact parkEntry_chimed w

theorem takeParkedEntry_chimed (b : Block) : Keeps Chimed s (takeParkedEntry b s) := by
  cases b
  case wtb => exact wtbParkedEntry_chimed
  case chs => exact chsPower_chimed .parked
  case clc => exact (clcParkedEntry_fed s).chimed
  case lkp => exact .of_only reads_chimed (takeParkedEntry_parts s .lkp)
  all_goals exact (takeParkedEntry_handed s rfl).chimed

theorem takeCrank_chimed (p : PowerState) (b : Block) : Keeps Chimed s (takeCrank p b s) := by
  cases b
  case wtb =>
    show Keeps Chimed s (wtbCrank p s)
    unfold wtbCrank
    exact wtbTake_chimed _ _
  case chs => exact chsPower_chimed p
  case clc => exact .of_only reads_chimed (modClc_only s _)
  case lkp => exact .of_only reads_chimed (takeCrank_parts s p .lkp)
  all_goals exact (takeCrank_handed s rfl).chimed

/-- A reset empties the queue (R128). -/
theorem emptied_chimed {u : State} (patterns : ∀ p : PatternIx, PatternOk u.chs.patterns[p]) (queue : u.chs.queue = [])
    (silent : u.chs.player = none) : Chimed u := by
  unfold Chimed Chs.Fit ChimeQueueOk PlayerOk WarningChimesActive Chs.holds
  rw [queue, silent]
  exact ⟨⟨⟨patterns, Nat.zero_le _, List.nodup_nil, .nil, nofun⟩, fun _ => rfl, nofun, fun _ _ => nofun⟩, nofun⟩

theorem supply_patterns (p : PatternIx) : PatternOk (Pattern.supply p) := by
  revert p
  decide

theorem power_chimed : KeepsPower Chimed where
  igs _ _ ok := ok
  free _ _ ok := ok
  notify s n := .of_only reads_chimed (notify_only s n)
  sent _ _ ok := ok
  run b _ := takeRunEntry_chimed b
  parked b _ := takeParkedEntry_chimed b
  crank p b _ _ := takeCrank_chimed p b
  coach s := (coachReset_fed s).chimed
  evaluate test s := evaluateWhere_chimed test s
  reset _ _ _ _ ok := emptied_chimed ok.1.1.1 rfl rfl
  supplied _ _ := emptied_chimed (fun p => by
    have pattern : Chs.supply.patterns[p] = Pattern.supply p := Vector.getElem_ofFn _
    exact pattern ▸ supply_patterns p) rfl rfl

theorem other_chimed (i : Instr) (s : State) : Keeps Chimed s (otherEffect i s) := by
  by_cases power : isPowerCommand i = true
  · exact power_chimed.effect power
  by_cases answer : isAnswerCommand i = true
  · exact .answerCommand (.of_only reads_chimed (modClc_only s _)) (fun a => completion_chimed.completeTxn a s) answer
  by_cases measuring : isMeasuringCommand i = true
  · exact (measuring_handed s measuring).chimed
  by_cases warns : isWarnCommand i = true
  · exact warnCommand_chimed warns
  by_cases line : isLineCommand i = true
  · exact (lineCommand_fed s line).chimed
  cases i
  case hostCharacter value error => exact .of_only reads_chimed (modLkp_only s _)
  all_goals first
    | exact absurd rfl power
    | exact absurd rfl answer
    | exact absurd rfl measuring
    | exact absurd rfl warns
    | exact absurd rfl line
    | exact .of_only reads_chimed (otherEffect_only _ s)

end

/-- Settles O8: what every operation of the CHS makes of its queue and its player, and that an entry takes its request away
where it leaves ACTIVE. -/
theorem chimesKept : Obligations.ChimesKept := by
  unfold Obligations.ChimesKept
  intro s t ok stepped
  rw [← chimed_iff] at ok ⊢
  exact step_keeps_blocks reads_chimed (fun k r u => owner_chimed k r) other_chimed ok stepped

end Sys2Proof.Machine
end

section
/-! What a rear event brings about at the block that owns it, and its REAR notice (R76, R81, R99, R152, R153). -/

namespace Sys2Proof.Machine

-- One theorem at a time, so that a build as one text needs few threads.
set_option Elab.async false

section
variable {n : NodeIx} {e : RearEvent} {s : State}

/-! ## Who takes it -/

/-- Which kinds of node have an event handed to its block (Table 44). -/
def NodeKind.Hands (k : NodeKind) : RearKind → Prop
  | .intercomCall | .privacyOn | .privacyOff | .passengerTripReset | .rearAck => k = .console ∨ k = .panel
  | .clockSet | .alarmSet => k = .console
  | .key => False

theorem NodeKind.hands_iff {k : NodeKind} {e : RearKind} : k.hands e = true ↔ k.Hands e := by
  cases e <;> simp [NodeKind.hands, NodeKind.Hands]

theorem takeRearEvent_forwarded (other : ¬ s.clc.nodes[n].kind.Hands e.kind) :
    takeRearEvent n s e = s.notify (.rear n e.kind .forwarded (if e.kind = .rearAck then [0] else e.data)) := by
  have data : e.forwardedData = if e.kind = .rearAck then [0] else e.data := by
    unfold RearEvent.forwardedData
    cases e.kind <;> rfl
  unfold takeRearEvent
  rw [if_neg (NodeKind.hands_iff.not.mpr other), data]

theorem takeRearEvent_handed (handed : s.clc.nodes[n].kind.Hands e.kind) {u : State} {r : RearResult} {d : List Byte}
    (own : ownRearEvent e s = (u, r, d)) : takeRearEvent n s e = u.notify (.rear n e.kind r d) := by
  unfold takeRearEvent
  rw [if_pos (NodeKind.hands_iff.mpr handed), own]

/-! ## What its owner makes of it -/

theorem ownRearEvent_call (kind : e.kind = .intercomCall) : ownRearEvent e s =
    ((takeChime (rearCallRequest s.chs s.clc.callPattern) s).1,
      (takeChime (rearCallRequest s.chs s.clc.callPattern) s).2.result, e.data) := by
  unfold ownRearEvent
  rw [kind]

theorem ownRearEvent_privacy {on : Bool} (kind : e.kind = if on then .privacyOn else .privacyOff) :
    ownRearEvent e s = (takePrivacy on s, .applied, e.data) := by
  unfold ownRearEvent
  rw [kind]
  cases on <;> rfl

theorem ownRearEvent_trip (kind : e.kind = .passengerTripReset) :
    ownRearEvent e s = (tripNotice 3 .reset (resetTrip 3 .rear s), .applied, e.data) := by
  unfold ownRearEvent
  rw [kind]

theorem ownRearEvent_ack (kind : e.kind = .rearAck) : ownRearEvent e s =
    ((acknowledgeWhere (fun _ c => c.dest = .rear) s).1, .applied,
      be1 (acknowledgeWhere (fun _ c => c.dest = .rear) s).2) := by
  unfold ownRearEvent
  rw [kind]

theorem ownRearEvent_clock (kind : e.kind = .clockSet) :
    ownRearEvent e s = ((rearClockSet e.data s).1, (rearClockSet e.data s).2, e.data) := by
  unfold ownRearEvent
  rw [kind]

theorem ownRearEvent_alarm (kind : e.kind = .alarmSet) :
    ownRearEvent e s = ((rearAlarmSet e.data s).1, (rearAlarmSet e.data s).2, e.data) := by
  unfold ownRearEvent
  rw [kind]

end

/-! ## Acknowledgments -/

/-- Entries acknowledged where a test of their configurations is met (R99). -/
theorem acknowledgeWhere_filter (test : EntryConfig → Bool) (s : State) :
    acknowledgeWhere (fun _ c => test c) s =
      ((List.finRange 32).filter fun w => test s.wtb.entries[w].cfg).foldl acknowledgeNext (s, 0) := by
  have turns (l : List EntryIx) (p : State × Nat) (cfg : ∀ w : EntryIx, p.1.wtb.entries[w].cfg = s.wtb.entries[w].cfg) :
      l.foldl (fun p w => if test p.1.wtb.entries[w].cfg then acknowledgeNext p w else p) p =
        (l.filter fun w => test s.wtb.entries[w].cfg).foldl acknowledgeNext p := by
    induction l generalizing p with
    | nil => rfl
    | cons w l ih =>
      rw [List.foldl_cons, cfg w]
      by_cases tested : test s.wtb.entries[w].cfg = true
      · rw [if_pos tested, List.filter_cons_of_pos (p := fun w : EntryIx => test s.wtb.entries[w].cfg) tested, List.foldl_cons]
        exact ih _ fun v => ((ByProducts.acknowledgeEntry w p.1).cfg v).trans (cfg v)
      · rw [if_neg tested, List.filter_cons_of_neg (p := fun w : EntryIx => test s.wtb.entries[w].cfg) tested]
        exact ih p cfg
  exact turns _ _ fun _ => rfl

/-- REAR_ACK acknowledges the entries of destination REAR (R99, R153). -/
theorem acknowledgeRear_acknowledged (s : State) :
    AcknowledgedAll s ((List.finRange 32).filter fun w => decide (s.wtb.entries[w].cfg.dest = .rear))
      (acknowledgeWhere (fun _ c => c.dest = .rear) s) := by
  rw [acknowledgeWhere_filter fun c => decide (c.dest = .rear)]
  exact acknowledgedAll s _ ((List.nodup_finRange 32).filter _)

section
variable (s : State)

/-- The entries that a REAR_ACK takes. -/
abbrev RearTaken (w : EntryIx) : Prop := s.wtb.entries[w].cfg.dest = .rear ∧
  (s.wtb.entries[w].state = .active ∨ s.wtb.entries[w].state = .resolved)

theorem acknowledgeRear_count : (acknowledgeWhere (fun _ c => c.dest = .rear) s).2 =
    (List.finRange 32).countP fun w => decide (RearTaken s w) := by
  rw [(acknowledgeRear_acknowledged s).count, List.countP_filter]
  refine List.countP_congr fun w _ => ?_
  simp only [Bool.and_eq_true, decide_eq_true_iff]
  exact and_comm

theorem acknowledgeRear_chs : (acknowledgeWhere (fun _ c => c.dest = .rear) s).1.chs =
    (List.finRange 32).foldl
      (fun c w => if RearTaken s w ∧ s.wtb.entries[w].state = .active then c.remove (.warning w) else c) s.chs := by
  have silenced : (fun (c : Chs) (w : EntryIx) =>
        if decide (s.wtb.entries[w].cfg.dest = .rear) = true then s.wtb.entries[w].silenced w c else c) =
      fun c w => if RearTaken s w ∧ s.wtb.entries[w].state = .active then c.remove (.warning w) else c := by
    funext c w
    by_cases rear : s.wtb.entries[w].cfg.dest = .rear
    · rw [if_pos (decide_eq_true rear)]
      by_cases active : s.wtb.entries[w].state = .active
      · rw [if_pos ⟨⟨rear, .inl active⟩, active⟩]
        exact if_pos active
      · rw [if_neg fun taken => active taken.2]
        exact if_neg active
    · rw [if_neg (by simpa using rear), if_neg fun taken => rear taken.1.1]
  rw [(acknowledgeRear_acknowledged s).chs, List.foldl_filter, silenced]

theorem acknowledgeRear_entry (w : EntryIx) : (acknowledgeWhere (fun _ c => c.dest = .rear) s).1.wtb.entries[w] =
    if RearTaken s w then s.wtb.entries[w].acknowledged else s.wtb.entries[w] := by
  rw [(acknowledgeRear_acknowledged s).entries w]
  refine if_congr ⟨fun ⟨mem, stands⟩ => ⟨of_decide_eq_true (List.mem_filter.mp mem).2, stands⟩,
    fun ⟨rear, stands⟩ => ⟨List.mem_filter.mpr ⟨List.mem_finRange w, decide_eq_true rear⟩, stands⟩⟩ rfl rfl

end

/-! ## Clock and alarms -/

section
variable {d : List Byte} {s : State}

/-- The fields of a rear CLOCK_SET that R73 turns down. -/
def BadRearClock (d : List Byte) : Prop :=
  let y := 1980 + u8 d 0
  let m := u8 d 1
  let day := u8 d 2
  2079 < y ∨ m = 0 ∨ 12 < m ∨ day = 0 ∨ daysInMonth y m < day ∨ 23 < u8 d 3 ∨ 59 < u8 d 4 ∨ 59 < u8 d 5

/-- The time of a rear CLOCK_SET (R201). -/
def rearClockTime (d : List Byte) : ClockTime :=
  { year := 1980 + u8 d 0, month := u8 d 1, day := u8 d 2, hour := u8 d 3, minute := u8 d 4, second := u8 d 5 }

theorem rearClockTime_valid_iff : (rearClockTime d).valid = true ↔ ¬ BadRearClock d := by
  rw [ClockTime.valid_iff]
  simp only [rearClockTime, BadRearClock]
  omega

theorem rearClockSet_refused (bad : s.clk.lock = true ∨ BadRearClock d) : rearClockSet d s = (s, .refused) := by
  refine if_pos (bad.imp id fun bad valid => ?_)
  exact rearClockTime_valid_iff.mp valid bad

theorem rearClockSet_applied (open_ : s.clk.lock = false) (good : ¬ BadRearClock d) :
    rearClockSet d s = (setClockTo (rearClockTime d) s, .applied) := by
  refine if_neg (not_or.mpr ⟨by rw [open_]; nofun, not_not_intro ?_⟩)
  exact rearClockTime_valid_iff.mpr good

/-- The fields of a rear ALARM_SET that R81 turns down. -/
def BadRearAlarm (d : List Byte) : Prop := (u8 d 0 ≠ 2 ∧ u8 d 0 ≠ 3) ∨ 2 ≤ u8 d 1 ∨ 23 < u8 d 2 ∨ 59 < u8 d 3

theorem rearAlarmIx_eq_some {k : Nat} {a : AlarmIx} : rearAlarmIx k = some a ↔ k = a ∧ 2 ≤ k := by
  unfold rearAlarmIx
  split
  · fin_cases a <;> simp
  · fin_cases a <;> simp
  · rename_i two three
    have bound := a.isLt
    simp only [reduceCtorEq, false_iff]
    rintro ⟨rfl, low⟩
    change ¬ a.val = 2 at two
    change ¬ a.val = 3 at three
    omega

theorem rearAlarmSet_refused (bad : BadRearAlarm d) : rearAlarmSet d s = (s, .refused) := by
  unfold rearAlarmSet
  split
  · rename_i a on hour minute alarm flag hourFits minuteFits
    obtain ⟨ix, low⟩ := rearAlarmIx_eq_some.mp alarm
    have flag := flagOf_eq_some.mp flag
    have some := Bool.toNat_lt on
    obtain ⟨-, -, hours⟩ := within_eq_some.mp hourFits
    obtain ⟨-, -, minutes⟩ := within_eq_some.mp minuteFits
    have bound := a.isLt
    unfold BadRearAlarm at bad
    exfalso
    omega
  · rfl

theorem rearAlarmSet_applied (good : ¬ BadRearAlarm d) {a : AlarmIx} (ix : u8 d 0 = a) :
    rearAlarmSet d s = (mark .alarmsRear (removeChime (.alarm a) (s.modClk fun c =>
      { c with alarms := c.alarms.set a { c.alarms[a] with
          enabled := u8 d 1 = 1, hour := u8 d 2, minute := u8 d 3 } })), .applied) := by
  unfold BadRearAlarm at good
  have alarm : rearAlarmIx (u8 d 0) = some a := rearAlarmIx_eq_some.mpr ⟨ix, by omega⟩
  have flag : flagOf (u8 d 1) = some (decide (u8 d 1 = 1)) := by
    have few : u8 d 1 = 0 ∨ u8 d 1 = 1 := by omega
    rcases few with zero | one
    · rw [zero]
      rfl
    · rw [one]
      rfl
  have hour : within 0 23 (u8 d 2) = some (u8 d 2) := within_eq_some.mpr ⟨rfl, by omega, by omega⟩
  have minute : within 0 59 (u8 d 3) = some (u8 d 3) := within_eq_some.mpr ⟨rfl, by omega, by omega⟩
  have rear : 2 ≤ a.val := by omega
  unfold rearAlarmSet
  rw [alarm, flag, hour, minute]
  dsimp only
  rw [changeAlarm, markAlarm, if_pos rear]
  rfl

end

end Sys2Proof.Machine
end

section
/-! A slot after an answer or a miss, the pairs it has marked, and what the rear events of an answer leave (R147, R152, R154). -/

namespace Sys2Proof.Machine

-- One theorem at a time, so that a build as one text needs few threads.
set_option Elab.async false

/-! ## A slot's own marks -/

/-- An item is marked for one slot alone. -/
abbrev Clc.markOwn (n : NodeIx) (c : Clc) (i : MirrorItem) : Clc := if c.nodes[n].shows i then c.appendPair i n else c

section
variable {n : NodeIx}

theorem Clc.appendPair_pairs (i : MirrorItem) (c : Clc) : (c.appendPair i n).nodes = c.nodes ∧
    (c.appendPair i n).line = c.line ∧ c.mirrorQueue ⊆ (c.appendPair i n).mirrorQueue := by
  unfold Clc.appendPair
  split_ifs
  · exact ⟨rfl, rfl, List.subset_append_left _ _⟩
  · exact ⟨rfl, rfl, List.Subset.refl _⟩

/-- A pair is appended for a PRESENT slot on a line that takes marks (R154, R155). -/
theorem Clc.appendPair_mem {c : Clc} (i : MirrorItem) (present : c.nodes[n].state = .present) (up : c.line.up = true) :
    (n, i) ∈ (c.appendPair i n).mirrorQueue := by
  unfold Clc.appendPair
  by_cases held : (n, i) ∈ c.mirrorQueue
  · rwa [if_neg fun fits => fits.2.2 held]
  · rw [if_pos ⟨present, up, held⟩]
    exact List.mem_append_right _ (List.mem_singleton_self _)

theorem Clc.markOwn_pairs (c : Clc) (i : MirrorItem) : (c.markOwn n i).nodes = c.nodes ∧
    (c.markOwn n i).line = c.line ∧ c.mirrorQueue ⊆ (c.markOwn n i).mirrorQueue := by
  unfold Clc.markOwn
  split_ifs
  · exact Clc.appendPair_pairs i c
  · exact ⟨rfl, rfl, List.Subset.refl _⟩

theorem Clc.markOwn_foldl_holds (l : List MirrorItem) (c : Clc) : c.mirrorQueue ⊆ (l.foldl (Clc.markOwn n) c).mirrorQueue :=
  List.foldlRecOn (motive := fun d : Clc => c.mirrorQueue ⊆ d.mirrorQueue) l _ (List.Subset.refl _)
    fun d held i _ => List.Subset.trans held (Clc.markOwn_pairs d i).2.2

theorem Clc.markOwn_foldl_mem {i : MirrorItem} {l : List MirrorItem} (mem : i ∈ l) {c : Clc}
    (present : c.nodes[n].state = .present) (up : c.line.up = true) (shown : c.nodes[n].shows i = true) :
    (n, i) ∈ (l.foldl (Clc.markOwn n) c).mirrorQueue := by
  induction l generalizing c with
  | nil => cases mem
  | cons j l ih =>
    rcases List.mem_cons.mp mem with rfl | later
    · refine Clc.markOwn_foldl_holds l _ ?_
      rw [Clc.markOwn, if_pos shown]
      exact Clc.appendPair_mem i present up
    · obtain ⟨nodes, line, -⟩ := Clc.markOwn_pairs (n := n) c j
      exact ih later (by rw [nodes]; exact present) (by rw [line]; exact up) (by rw [nodes]; exact shown)

/-- A PRESENT slot's items stand in the queue once they are marked for it (R154). -/
theorem Clc.markWhole_mem {c : Clc} {i : MirrorItem} (present : c.nodes[n].state = .present) (up : c.line.up = true)
    (shown : c.nodes[n].shows i = true) : (n, i) ∈ (c.markWhole n).mirrorQueue :=
  Clc.markOwn_foldl_mem (l := MirrorItem.all) (by cases i <;> decide) present up shown

theorem Clc.markWhole_holds (c : Clc) : c.mirrorQueue ⊆ (c.markWhole n).mirrorQueue := Clc.markOwn_foldl_holds MirrorItem.all c

theorem Clc.markOwn_foldl_queue {l : List MirrorItem} (once : l.Nodup) {c : Clc} (present : c.nodes[n].state = .present)
    (up : c.line.up = true) (fresh : ∀ i ∈ l, (n, i) ∉ c.mirrorQueue) : (l.foldl (Clc.markOwn n) c).mirrorQueue =
      c.mirrorQueue ++ (l.filter fun i => c.nodes[n].shows i).map fun i => (n, i) := by
  induction l generalizing c with
  | nil => simp
  | cons i l ih =>
    obtain ⟨new, rest⟩ := List.nodup_cons.mp once
    rw [List.foldl_cons, Clc.markOwn]
    by_cases shown : c.nodes[n].shows i = true
    · have appended : c.appendPair i n = { c with mirrorQueue := c.mirrorQueue ++ [(n, i)] } :=
        if_pos ⟨present, up, fresh i List.mem_cons_self⟩
      have rested := ih rest (c := { c with mirrorQueue := c.mirrorQueue ++ [(n, i)] }) present up fun j mem held => by
        rcases List.mem_append.mp held with before | last
        · exact fresh j (List.mem_cons_of_mem i mem) before
        · obtain rfl : j = i := congrArg Prod.snd (List.mem_singleton.mp last)
          exact new mem
      rw [if_pos shown, appended, List.filter_cons_of_pos (p := fun i => c.nodes[n].shows i) shown, List.map_cons]
      exact rested.trans (List.append_assoc _ _ _)
    · rw [if_neg shown, ih rest present up fun j mem => fresh j (List.mem_cons_of_mem i mem),
        List.filter_cons_of_neg (p := fun i => c.nodes[n].shows i) shown]

/-- The pairs of a slot that had none, item 0 first (R154). -/
theorem Clc.markWhole_queue {c : Clc} (present : c.nodes[n].state = .present) (up : c.line.up = true)
    (fresh : ∀ q ∈ c.mirrorQueue, q.1 ≠ n) : (c.markWhole n).mirrorQueue =
      c.mirrorQueue ++ (MirrorItem.all.filter fun i => c.nodes[n].shows i).map fun i => (n, i) :=
  Clc.markOwn_foldl_queue (by decide) present up fun i _ held => fresh (n, i) held rfl

end

/-- Marks append pairs at the end (R155). -/
theorem MarksOnly.appends {s t : State} (h : MarksOnly s t) : ∃ more, t.clc.mirrorQueue = s.clc.mirrorQueue ++ more := by
  have appended (i : MirrorItem) (c : Clc) (n : NodeIx) :
      ∃ more, (c.markFor i n).mirrorQueue = c.mirrorQueue ++ more := by
    unfold Clc.markFor Clc.appendPair
    split_ifs
    · exact ⟨[(n, i)], rfl⟩
    · exact ⟨[], (List.append_nil _).symm⟩
    · exact ⟨[], (List.append_nil _).symm⟩
  have step {c d e : Clc} (h : ∃ more, d.mirrorQueue = c.mirrorQueue ++ more)
      (k : ∃ more, e.mirrorQueue = d.mirrorQueue ++ more) : ∃ more, e.mirrorQueue = c.mirrorQueue ++ more := by
    obtain ⟨more, first⟩ := h
    obtain ⟨rest, second⟩ := k
    exact ⟨more ++ rest, by rw [second, first, List.append_assoc]⟩
  have same (c : Clc) : ∃ more, c.mirrorQueue = c.mirrorQueue ++ more := ⟨[], (List.append_nil _).symm⟩
  obtain ⟨items, clc⟩ := h
  rw [clc]
  refine List.foldlRecOn (motive := fun c : Clc => ∃ more, c.mirrorQueue = s.clc.mirrorQueue ++ more) _ _ (same _)
    fun c held i _ => step held ?_
  exact List.foldlRecOn (motive := fun d : Clc => ∃ more, d.mirrorQueue = c.mirrorQueue ++ more) _ _ (same _)
    fun d before m _ => step before (appended i d m)

/-! ## A slot's record -/

/-- Of the Coach Line a slot's record and the mirror queue alone change, and a change of the slot's state is told (R147). -/
structure SlotMoved (n : NodeIx) (s t : State) : Prop where
  only : OnlyChanges [.wtb, .chs, .clc, .lkp] s t
  others : ∀ m : NodeIx, m ≠ n → t.clc.nodes[m] = s.clc.nodes[m]
  cfg : t.clc.nodes[n].mirrorSet = s.clc.nodes[n].mirrorSet
  clc : { t.clc with nodes := s.clc.nodes, mirrorQueue := s.clc.mirrorQueue } = s.clc
  replies : t.lkp.replies = s.lkp.replies
  told : t.clc.nodes[n].state ≠ s.clc.nodes[n].state → t.wtb.view.nodes[n] = t.clc.nodes[n].state ∧
    (s.lkp.mask.getLsbD 5 = true → t.lkp.Told (.node n t.clc.nodes[n].state))

section
variable {n : NodeIx} {s : State}

theorem Node.entering_state (st : NodeState) (nd : Node) : (Node.entering st nd).state = st := by
  cases st <;> rfl

theorem Node.entering_kept (st : NodeState) (nd : Node) : (Node.entering st nd).misses = nd.misses ∧
    (Node.entering st nd).mirrorSet = nd.mirrorSet := by
  cases st <;> exact ⟨rfl, rfl⟩

theorem SlotMoved.write {f : Node → Node} (state : (f s.clc.nodes[n]).state = s.clc.nodes[n].state)
    (cfg : (f s.clc.nodes[n]).mirrorSet = s.clc.nodes[n].mirrorSet) : SlotMoved n s (s.modNode n f) := by
  have own : (s.modNode n f).clc.nodes[n] = f s.clc.nodes[n] := updAt_get_same _ _ _
  refine ⟨(modNode_only s n f).mono (by decide), fun m other => updAt_get_other _ _ _ _ (Ne.symm other), ?_, rfl, rfl,
    fun changed => absurd ?_ changed⟩
  · rw [own]
    exact cfg
  · rw [own]
    exact state

theorem SlotMoved.refl (s : State) : SlotMoved n s s :=
  ⟨.refl _ _, fun _ _ => rfl, rfl, rfl, rfl, fun changed => absurd rfl changed⟩

theorem SlotMoved.enter (h : SlotMoved n s (s.modNode n f)) (same : (f s.clc.nodes[n]).state = s.clc.nodes[n].state)
    (st : NodeState) : SlotMoved n s (setNodeState n st (s.modNode n f)) := by
  have start : (s.modNode n f).clc.nodes[n].state = s.clc.nodes[n].state :=
    (congrArg Node.state (updAt_get_same s.clc.nodes n f)).trans same
  by_cases already : (s.modNode n f).clc.nodes[n].state = st
  · rw [setNodeState_of_same already]
    exact h
  have nodes := setNodeState_nodes n st (s.modNode n f)
  rw [if_neg already] at nodes
  have state : (setNodeState n st (s.modNode n f)).clc.nodes[n].state = st := by
    rw [nodes, updAt_get_same, Node.entering_state]
  refine ⟨h.only.trans (setNodeState_only _ n st), fun m other => ?_, ?_, ?_, ?_, fun changed => ⟨?_, fun on => ?_⟩⟩
  · rw [setNodeState_other st _ other]
    exact h.others m other
  · rw [nodes, updAt_get_same, (Node.entering_kept st _).2]
    exact h.cfg
  · have kept := setNodeState_keeps n st (s.modNode n f)
    have first := h.clc
    rw [← kept] at first
    exact first
  · exact (setNodeState_replies n st _).1.trans h.replies
  · rw [setNodeState_view, if_neg already, state]
    exact Vector.getElem_set_self n.isLt
  · rw [state]
    exact setNodeState_told n st _ already on

/-! ## Answers and misses -/

theorem validAnswer_moved (n : NodeIx) (s : State) : SlotMoved n s (validAnswer n s) := by
  have counted : SlotMoved n s (s.modNode n fun nd => { nd with misses := 0 }) := .write rfl rfl
  unfold validAnswer
  dsimp only
  split
  · exact counted.enter rfl _
  · exact counted.enter rfl _
  · exact counted
  · exact counted

/-- A valid answer makes a JOINING or LOST slot PRESENT (R147). -/
theorem validAnswer_node (n : NodeIx) (s : State) : (validAnswer n s).clc.nodes[n].misses = 0 ∧
    (validAnswer n s).clc.nodes[n].state = if s.clc.nodes[n].state = .disabled then .disabled else .present := by
  have own : (s.modNode n fun nd => { nd with misses := 0 }).clc.nodes[n] = { s.clc.nodes[n] with misses := 0 } :=
    updAt_get_same _ _ _
  have entered (other : s.clc.nodes[n].state ≠ .present) :
      (setNodeState n .present (s.modNode n fun nd => { nd with misses := 0 })).clc.nodes[n].misses = 0 ∧
      (setNodeState n .present (s.modNode n fun nd => { nd with misses := 0 })).clc.nodes[n].state = .present := by
    rw [setNodeState_nodes, if_neg (by rw [own]; exact other), updAt_get_same, Node.entering_state,
      (Node.entering_kept _ _).1, own]
    exact ⟨rfl, rfl⟩
  unfold validAnswer
  dsimp only
  split
  · rename_i state
    rw [state, if_neg nofun]
    exact entered (by rw [state]; nofun)
  · rename_i state
    rw [state, if_neg nofun]
    exact entered (by rw [state]; nofun)
  · rename_i state
    rw [own, state, if_neg nofun]
    exact ⟨rfl, rfl⟩
  · rename_i state
    rw [own, state, if_pos rfl]
    exact ⟨rfl, rfl⟩

theorem nodeMiss_moved (n : NodeIx) (s : State) : SlotMoved n s (nodeMiss n s) := by
  have counted (k : Nat) : SlotMoved n s (if k = Config.lostMisses
      then setNodeState n .lost (s.modNode n fun nd => { nd with misses := k })
      else s.modNode n fun nd => { nd with misses := k }) := by
    have written : SlotMoved n s (s.modNode n fun nd => { nd with misses := k }) := .write rfl rfl
    split_ifs
    · exact written.enter rfl _
    · exact written
  unfold nodeMiss
  split
  · exact counted _
  · exact counted _
  · exact .refl s
  · exact .refl s

/-- A miss counts up to LOST (R147). -/
theorem nodeMiss_node (n : NodeIx) (s : State) :
    if s.clc.nodes[n].state = .joining ∨ s.clc.nodes[n].state = .present
    then (nodeMiss n s).clc.nodes[n].misses = min (s.clc.nodes[n].misses + 1) 3 ∧
      (nodeMiss n s).clc.nodes[n].state = if 3 ≤ s.clc.nodes[n].misses + 1 then .lost else s.clc.nodes[n].state
    else (nodeMiss n s).clc.nodes[n] = s.clc.nodes[n] := by
  have counted (other : s.clc.nodes[n].state ≠ .lost) (k : Nat) (count : k = min (s.clc.nodes[n].misses + 1) 3) {t : State}
      (missed : t = if k = 3 then setNodeState n .lost (s.modNode n fun nd => { nd with misses := k })
        else s.modNode n fun nd => { nd with misses := k }) :
      t.clc.nodes[n].misses = min (s.clc.nodes[n].misses + 1) 3 ∧
      t.clc.nodes[n].state = if 3 ≤ s.clc.nodes[n].misses + 1 then .lost else s.clc.nodes[n].state := by
    have own : (s.modNode n fun nd => { nd with misses := k }).clc.nodes[n] = { s.clc.nodes[n] with misses := k } :=
      updAt_get_same _ _ _
    by_cases full : k = 3
    · rw [if_pos full] at missed
      rw [missed, ← count, if_pos (by omega), setNodeState_nodes, if_neg (by rw [own]; exact other), updAt_get_same,
        Node.entering_state, (Node.entering_kept _ _).1, own]
      exact ⟨rfl, rfl⟩
    · rw [if_neg full] at missed
      rw [missed, ← count, if_neg (by omega), own]
      exact ⟨rfl, rfl⟩
  by_cases counts : s.clc.nodes[n].state = .joining ∨ s.clc.nodes[n].state = .present
  · rw [if_pos counts]
    rcases counts with joining | present
    · exact counted (by rw [joining]; nofun) _ rfl (t := nodeMiss n s) (by unfold nodeMiss; rw [joining]; rfl)
    · exact counted (by rw [present]; nofun) _ rfl (t := nodeMiss n s) (by unfold nodeMiss; rw [present]; rfl)
  · have still : nodeMiss n s = s := by
      unfold nodeMiss
      split
      · rename_i joining
        exact absurd (Or.inl joining) counts
      · rename_i present
        exact absurd (Or.inr present) counts
      · rfl
      · rfl
    rw [if_neg counts, still]

end

/-! ## The pairs of a slot that becomes PRESENT -/

section
variable {n : NodeIx} {s : State} (running : s.clc.line.up = true)
  (awaited : s.clc.nodes[n].state = .joining ∨ s.clc.nodes[n].state = .lost)
include running awaited

/-- Its own pairs come first, those that the WTB's marks bring stand behind them (R154, log 34). -/
theorem validAnswer_pairs : ∃ c : Clc, c.nodes[n].state = .present ∧ c.line.up = true ∧
    c.mirrorQueue = s.clc.mirrorQueue ∧ (∀ i, c.nodes[n].shows i = s.clc.nodes[n].shows i) ∧
    ∃ more, (validAnswer n s).clc.mirrorQueue = (c.markWhole n).mirrorQueue ++ more := by
  have own : (s.modNode n fun nd => { nd with misses := 0 }).clc.nodes[n] = { s.clc.nodes[n] with misses := 0 } :=
    updAt_get_same _ _ _
  have changed : (s.modNode n fun nd => { nd with misses := 0 }).clc.nodes[n].state ≠ .present := by
    rw [own]
    rcases awaited with state | state <;> exact fun present => absurd (state.symm.trans present) nofun
  have answers : validAnswer n s = setNodeState n .present (s.modNode n fun nd => { nd with misses := 0 }) := by
    unfold validAnswer
    rcases awaited with state | state <;> rw [state]
  have entered : (((s.modNode n fun nd => { nd with misses := 0 }).modNode n (Node.entering .present)).clc.nodes[n]) =
      Node.entering .present { s.clc.nodes[n] with misses := 0 } := (updAt_get_same _ _ _).trans (congrArg _ own)
  refine ⟨((s.modNode n fun nd => { nd with misses := 0 }).modNode n (Node.entering .present)).clc, ?_, running, rfl,
    fun i => ?_, ?_⟩
  · rw [entered]
    rfl
  · rw [entered]
    rfl
  · rw [answers, setNodeState_of_changed changed]
    exact (wtbNode_marks n .present (nodeEntered n .present _)).appends

theorem validAnswer_queue (fresh : ∀ q ∈ s.clc.mirrorQueue, q.1 ≠ n) : ∃ more, (validAnswer n s).clc.mirrorQueue =
    s.clc.mirrorQueue ++ ((MirrorItem.all.filter fun i => s.clc.nodes[n].shows i).map fun i => (n, i)) ++ more := by
  obtain ⟨c, present, up, queue, shows, more, after⟩ := validAnswer_pairs running awaited
  have whole := Clc.markWhole_queue present up (by rw [queue]; exact fresh)
  rw [queue, funext shows] at whole
  exact ⟨more, by rw [after, whole]⟩

theorem validAnswer_mem {i : MirrorItem} (shown : s.clc.nodes[n].shows i = true) :
    (n, i) ∈ (validAnswer n s).clc.mirrorQueue := by
  obtain ⟨c, present, up, -, shows, more, after⟩ := validAnswer_pairs running awaited
  rw [after]
  exact List.mem_append_left _ (Clc.markWhole_mem present up ((shows i).trans shown))

end

/-! ## Rear events -/

/-- What the rear events of an answer leave: the slots, the pass-through and the transaction, the replies, and what is told
of the slots. -/
structure EventsKept (s t : State) : Prop where
  nodes : t.clc.nodes = s.clc.nodes
  pass : t.clc.pass = s.clc.pass
  txn : t.clc.txn = s.clc.txn
  contentions : t.clc.contentions = s.clc.contentions
  replies : t.lkp.replies = s.lkp.replies
  view : t.wtb.view.nodes = s.wtb.view.nodes
  told : ∀ m st, s.lkp.Told (.node m st) → t.lkp.Told (.node m st)

namespace EventsKept
variable {s t u : State}

theorem refl (s : State) : EventsKept s s := ⟨rfl, rfl, rfl, rfl, rfl, rfl, fun _ _ => id⟩

theorem trans (h : EventsKept s t) (k : EventsKept t u) : EventsKept s u where
  nodes := k.nodes.trans h.nodes
  pass := k.pass.trans h.pass
  txn := k.txn.trans h.txn
  contentions := k.contentions.trans h.contentions
  replies := k.replies.trans h.replies
  view := k.view.trans h.view
  told m st := k.told m st ∘ h.told m st

theorem foldl {α : Type} {f : State → α → State} (h : ∀ s a, EventsKept s (f s a)) (l : List α) (s : State) :
    EventsKept s (l.foldl f s) :=
  List.foldlRecOn (motive := EventsKept s) _ _ (refl s) fun t walked a _ => walked.trans (h t a)

/-- The Coach Line changes by marks alone. -/
theorem of_marks (marks : MarksOnly s t) (replies : t.lkp.replies = s.lkp.replies)
    (view : t.wtb.view.nodes = s.wtb.view.nodes) (told : ∀ m st, s.lkp.Told (.node m st) → t.lkp.Told (.node m st)) :
    EventsKept s t :=
  ⟨(congrArg Clc.nodes marks.keeps :), (congrArg Clc.pass marks.keeps :), (congrArg Clc.txn marks.keeps :),
    (congrArg Clc.contentions marks.keeps :), replies, view, told⟩

end EventsKept

theorem told_notice {l : Lkp} {n : Notice} (other : n.bit ≠ 5) {m : NodeIx} {st : NodeState} (told : l.Told (.node m st)) :
    (l.takeNotice n).Told (.node m st) :=
  told.takeNotice fun key => absurd (congrArg Prod.fst key).symm other

section
variable {s : State}

theorem notify_eventsKept {n : Notice} (other : n.bit ≠ 5) (s : State) : EventsKept s (s.notify n) :=
  .of_marks (.of_only (notify_only s n)) (congrArg Lkp.replies (Lkp.takeNotice_keeps n s.lkp) :) rfl
    fun _ _ => told_notice other

theorem takeChime_eventsKept (r : ChimeRequest) (s : State) : EventsKept s (takeChime r s).1 := by
  have notices := NoticesOnly.takeChime r s
  refine .of_marks (MarksOnly.walk.takeChime r s) notices.replies_eq ?_ fun m st told => notices.told (by simp [Notice.bit]) told
  rw [(Rearmed.takeChime r s).wtb]

theorem AcknowledgedAll.view {l : List EntryIx} {p : State × Nat} (h : AcknowledgedAll s l p) :
    p.1.wtb.view = s.wtb.view := (congrArg Wtb.view h.wtb :)

theorem acknowledgeRear_eventsKept (s : State) : EventsKept s (acknowledgeWhere (fun _ c => c.dest = .rear) s).1 := by
  have all := acknowledgeRear_acknowledged s
  have still := LinkStill.alerts.acknowledgeWhere (fun _ c => decide (c.dest = .rear)) s
  refine .of_marks all.marks still.replies (congrArg WarnView.nodes all.view) fun m st told => ?_
  rw [all.lkp]
  refine List.foldlRecOn (motive := Lkp.Told (.node m st)) _ _ told fun l held w _ => ?_
  have warned (x : EntryState) {k : Lkp} (held : k.Told (.node m st)) : (k.takeNotice (.warning w x)).Told (.node m st) :=
    told_notice (by simp [Notice.bit]) held
  split_ifs
  · unfold Entry.notified
    split_ifs
    · exact warned _ (warned _ held)
    · exact warned _ held
  · exact held

theorem wtbClock_eventsKept (c : ClockState) (s : State) : EventsKept s (wtbClock c s) := by
  have notices := wtbClock_notices c s
  have view : (wtbClock c s).wtb.view.nodes = s.wtb.view.nodes := by
    unfold wtbClock
    rw [wtbTake_view]
  refine .of_marks ?_ notices.replies_eq view fun m st told => notices.told (by simp [Notice.bit]) told
  exact .wtbTake _ _ _

theorem setClockTo_eventsKept (t : ClockTime) (s : State) : EventsKept s (setClockTo t s) := by
  have marked (u : State) : EventsKept u (mark .clock u) := .of_marks (.mark _ u) rfl rfl fun _ _ => id
  have handed (u : State) : EventsKept u (handClockState .set u) := by
    have copied : EventsKept u (lkpClock .set u) := .of_marks (.of_clc_eq rfl) rfl rfl fun _ _ => id
    exact copied.trans (wtbClock_eventsKept _ _)
  have set : EventsKept s (s.modClk fun c => { c with time := t, state := .set, secondLength := trimmedSecond c.trim }) :=
    .of_marks (.of_clc_eq rfl) rfl rfl fun _ _ => id
  unfold setClockTo
  dsimp only
  split_ifs
  · exact (set.trans (handed _)).trans (marked _)
  · exact set.trans (marked _)

theorem ownRearEvent_eventsKept (e : RearEvent) (s : State) : EventsKept s (ownRearEvent e s).1 := by
  have marked (i : MirrorItem) (u : State) : EventsKept u (mark i u) := .of_marks (.mark _ u) rfl rfl fun _ _ => id
  have privacy (on : Bool) : EventsKept s (takePrivacy on s) :=
    EventsKept.trans (t := s.modChs (Chs.setPrivacy on)) (.of_marks (.of_clc_eq rfl) rfl rfl fun _ _ => id) (marked _ _)
  unfold ownRearEvent
  split <;> dsimp only
  · exact takeChime_eventsKept _ s
  · exact privacy true
  · exact privacy false
  · have reset : EventsKept s (resetTrip 3 .rear s) := by
      unfold resetTrip
      dsimp only
      rw [if_pos rfl]
      refine EventsKept.trans ?_ (marked _ _)
      exact .of_marks (.of_clc_eq rfl) rfl rfl fun _ _ => id
    exact reset.trans
      (notify_eventsKept (n := .trip 3 .reset) (by simp [Notice.bit]) _)
  · exact acknowledgeRear_eventsKept s
  · unfold rearClockSet
    dsimp only
    split_ifs
    · exact .refl s
    · exact setClockTo_eventsKept _ s
  · unfold rearAlarmSet
    split
    · rename_i a on hour minute _ _ _ _
      have changed : EventsKept s (removeChime (.alarm a) (s.modAlarm a fun x =>
          { x with enabled := on, hour := hour, minute := minute })) := .of_marks (.of_clc_eq rfl) rfl rfl fun _ _ => id
      unfold changeAlarm markAlarm
      split_ifs
      · exact changed.trans (marked _ _)
      · exact changed
    · exact .refl s
  · exact .refl s

theorem takeRearEvent_eventsKept (n : NodeIx) (s : State) (e : RearEvent) : EventsKept s (takeRearEvent n s e) := by
  unfold takeRearEvent
  split_ifs
  · exact (ownRearEvent_eventsKept e s).trans (notify_eventsKept (by simp [Notice.bit]) _)
  · exact notify_eventsKept (by simp [Notice.bit]) s

end

end Sys2Proof.Machine
end

section
/-! What a completed transaction does to its slot, its record and the pass-through (R145, R147, R156, R163). -/

namespace Sys2Proof.Machine

-- One theorem at a time, so that a build as one text needs few threads.
set_option Elab.async false

/-- No transaction is in flight, and the contention count starts again (R157). -/
abbrev State.unasked (s : State) : State := s.modClc fun c => { c with txn := none, contentions := 0 }

/-! ## The slot of a completed transaction -/

section
variable {n : NodeIx} {s u v w : State}

/-- What follows a slot's answer or miss leaves the slots, the transaction and what is told of them. -/
structure SlotKept (v w : State) : Prop where
  nodes : w.clc.nodes = v.clc.nodes
  txn : w.clc.txn = v.clc.txn
  contentions : w.clc.contentions = v.clc.contentions
  view : w.wtb.view.nodes = v.wtb.view.nodes
  told : ∀ m st, v.lkp.Told (.node m st) → w.lkp.Told (.node m st)

theorem SlotKept.refl (s : State) : SlotKept s s := ⟨rfl, rfl, rfl, rfl, fun _ _ => id⟩

theorem EventsKept.slot (h : EventsKept v w) : SlotKept v w := ⟨h.nodes, h.txn, h.contentions, h.view, h.told⟩

theorem endPass_slot (resp : Response) (s : State) : SlotKept s (endPass resp s) := by
  have clc := endPass_clc resp s
  refine ⟨by rw [clc], by rw [clc], by rw [clc], by rw [endPass_wtb], fun m st told => ?_⟩
  unfold endPass State.reply
  split
  · split <;> exact told
  · exact told

/-- A slot's record keeps what it is when pairs are marked behind it. -/
theorem SlotMoved.queue (h : SlotMoved n s u) {f : Clc → Clc}
    (same : { f u.clc with mirrorQueue := u.clc.mirrorQueue } = u.clc) : SlotMoved n s (u.modClc f) := by
  have nodes : (f u.clc).nodes = u.clc.nodes := (congrArg Clc.nodes same :)
  have clc : { f u.clc with nodes := s.clc.nodes, mirrorQueue := s.clc.mirrorQueue } = s.clc :=
    (congrArg (fun c : Clc => { c with nodes := s.clc.nodes, mirrorQueue := s.clc.mirrorQueue }) same).trans h.clc
  refine ⟨h.only.trans ((modClc_only u f).mono (by decide)), fun m other => ?_, ?_, clc, h.replies, fun changed => ?_⟩
  · change (f u.clc).nodes[m] = _
    rw [nodes]
    exact h.others m other
  · change (f u.clc).nodes[n].mirrorSet = _
    rw [nodes]
    exact h.cfg
  · change (f u.clc).nodes[n].state ≠ _ at changed
    change u.wtb.view.nodes[n] = (f u.clc).nodes[n].state ∧ (_ → u.lkp.Told (.node n (f u.clc).nodes[n].state))
    rw [nodes] at changed ⊢
    exact h.told changed

/-- What a completed transaction makes of its slot (R147). -/
structure SlotDone (n : NodeIx) (valid : Prop) (s w : State) : Prop where
  only : OnlyChanges [.clc, .tau, .clk, .wtb, .chs, .lkp] s w
  txn : w.clc.txn = none
  contentions : w.clc.contentions = 0
  others : ∀ m, m ≠ n → w.clc.nodes[m] = s.clc.nodes[m]
  answered : valid → w.clc.nodes[n].misses = 0 ∧
    w.clc.nodes[n].state = if s.clc.nodes[n].state = .disabled then .disabled else .present
  missed : ¬ valid → if s.clc.nodes[n].state = .joining ∨ s.clc.nodes[n].state = .present
    then w.clc.nodes[n].misses = min (s.clc.nodes[n].misses + 1) 3 ∧
      w.clc.nodes[n].state = if 3 ≤ s.clc.nodes[n].misses + 1 then .lost else s.clc.nodes[n].state
    else w.clc.nodes[n] = s.clc.nodes[n]
  spared : ¬ valid → w.tau = s.tau ∧ w.clk = s.clk
  told : w.clc.nodes[n].state ≠ s.clc.nodes[n].state → w.wtb.view.nodes[n] = w.clc.nodes[n].state ∧
    (s.lkp.mask.getLsbD 5 = true → w.lkp.Told (.node n w.clc.nodes[n].state))

section
variable (moved : SlotMoved n s.unasked v) (kept : SlotKept v w)
  (only : OnlyChanges [.clc, .tau, .clk, .wtb, .chs, .lkp] v w)
include moved kept only

theorem slotDone_of_moved {valid : Prop}
    (answered : valid → v.clc.nodes[n].misses = 0 ∧
      v.clc.nodes[n].state = if s.clc.nodes[n].state = .disabled then .disabled else .present)
    (missed : ¬ valid → if s.clc.nodes[n].state = .joining ∨ s.clc.nodes[n].state = .present
      then v.clc.nodes[n].misses = min (s.clc.nodes[n].misses + 1) 3 ∧
        v.clc.nodes[n].state = if 3 ≤ s.clc.nodes[n].misses + 1 then .lost else s.clc.nodes[n].state
      else v.clc.nodes[n] = s.clc.nodes[n])
    (spared : ¬ valid → w.tau = v.tau ∧ w.clk = v.clk) : SlotDone n valid s w where
  only := (((modClc_only s _).mono (by decide)).trans (moved.only.mono (by decide))).trans only
  txn := kept.txn.trans (congrArg Clc.txn moved.clc :)
  contentions := kept.contentions.trans (congrArg Clc.contentions moved.clc :)
  others m other := by
    rw [kept.nodes]
    exact moved.others m other
  answered h := by
    rw [kept.nodes]
    exact answered h
  missed h := by
    rw [kept.nodes]
    exact missed h
  spared h := ⟨(spared h).1.trans (moved.only.tau_eq (by decide)), (spared h).2.trans (moved.only .clk (by decide))⟩
  told changed := by
    rw [kept.nodes] at changed ⊢
    rw [kept.view]
    exact ⟨(moved.told changed).1, fun on => kept.told _ _ ((moved.told changed).2 on)⟩

end

/-! ## What each kind of transaction completes with -/

theorem validAnswer_done {valid : Prop} (holds : valid) (kept : SlotKept (validAnswer n s.unasked) w)
    (only : OnlyChanges [.clc, .tau, .clk, .wtb, .chs, .lkp] (validAnswer n s.unasked) w) : SlotDone n valid s w :=
  slotDone_of_moved (validAnswer_moved n s.unasked) kept only (fun _ => validAnswer_node n s.unasked)
    (fun fails => absurd holds fails) fun fails => absurd holds fails

theorem nodeMiss_done {valid : Prop} (fails : ¬ valid) (kept : SlotKept (nodeMiss n s.unasked) w)
    (only : OnlyChanges [.clc, .lkp] (nodeMiss n s.unasked) w) : SlotDone n valid s w :=
  slotDone_of_moved (nodeMiss_moved n s.unasked) kept (only.mono (by decide)) (fun holds => absurd holds fails)
    (fun _ => nodeMiss_node n s.unasked) fun _ => ⟨only.tau_eq (by decide), only .clk (by decide)⟩

/-- A poll's slot before its rear events: answered, and marked whole for a refresh (R151, log 34). -/
def polled (n : NodeIx) (refresh : Bool) (s : State) : State :=
  if refresh then (validAnswer n s).modClc (Clc.markWhole n) else validAnswer n s

theorem completePoll_events {d : List Byte} {refresh : Bool} {events : List RearEvent}
    (parsed : parsePoll d = some (refresh, events)) (s : State) :
    completePoll n (some d) s = events.foldl (takeRearEvent n) (polled n refresh s) := by
  unfold completePoll
  rw [Option.bind_some, parsed]
  rfl

theorem completePoll_missed {answer : Option (List Byte)} (fails : answer.bind parsePoll = none) (s : State) :
    completePoll n answer s = nodeMiss n s := by
  unfold completePoll
  rw [fails]

theorem polled_moved (n : NodeIx) (refresh : Bool) (s : State) : SlotMoved n s (polled n refresh s) := by
  unfold polled
  split_ifs
  · exact (validAnswer_moved n s).queue (Clc.markWhole_keeps n _)
  · exact validAnswer_moved n s

theorem polled_nodes (n : NodeIx) (refresh : Bool) (s : State) :
    (polled n refresh s).clc.nodes = (validAnswer n s).clc.nodes := by
  unfold polled
  split_ifs
  · exact (congrArg Clc.nodes (Clc.markWhole_keeps n (validAnswer n s).clc) :)
  · rfl

theorem polled_holds (n : NodeIx) (refresh : Bool) (s : State) :
    (validAnswer n s).clc.mirrorQueue ⊆ (polled n refresh s).clc.mirrorQueue := by
  unfold polled
  split_ifs
  · exact Clc.markWhole_holds _
  · exact List.Subset.refl _

/-- A slot that becomes PRESENT, or that asks for a refresh, has its items marked (R151, R154). -/
theorem polled_mem {refresh : Bool} {i : MirrorItem} (up : s.clc.line.up = true)
    (shown : s.clc.nodes[n].shows i = true) (asks : s.clc.nodes[n].state = .joining ∨ s.clc.nodes[n].state = .lost ∨
      (s.clc.nodes[n].state = .present ∧ refresh = true)) : (n, i) ∈ (polled n refresh s).clc.mirrorQueue := by
  have entered (awaited : s.clc.nodes[n].state = .joining ∨ s.clc.nodes[n].state = .lost) :
      (n, i) ∈ (polled n refresh s).clc.mirrorQueue := polled_holds n refresh s (validAnswer_mem up awaited shown)
  rcases asks with joining | lost | ⟨present, asked⟩
  · exact entered (.inl joining)
  · exact entered (.inr lost)
  · have moved := validAnswer_moved n s
    have state := (validAnswer_node n s).2
    rw [present, if_neg nofun] at state
    have line : (validAnswer n s).clc.line = s.clc.line := (congrArg Clc.line moved.clc :)
    have shows : (validAnswer n s).clc.nodes[n].shows i = true := by
      unfold Node.shows at shown ⊢
      rw [moved.cfg]
      exact shown
    unfold polled
    rw [if_pos asked]
    exact Clc.markWhole_mem state (by rw [line]; exact up) shows

theorem rearEvents_kept (n : NodeIx) (events : List RearEvent) (s : State) :
    EventsKept s (events.foldl (takeRearEvent n) s) := .foldl (takeRearEvent_eventsKept n) events s

theorem rearEvents_only (n : NodeIx) (events : List RearEvent) (s : State) :
    OnlyChanges [.clc, .tau, .clk, .wtb, .chs, .lkp] s (events.foldl (takeRearEvent n) s) :=
  List.foldlRecOn (motive := OnlyChanges [.clc, .tau, .clk, .wtb, .chs, .lkp] s) _ _ (.refl _ _) fun t walked e _ =>
    walked.trans ((takeRearEvent_only t n e).mono (by decide))

end

/-! ## The transaction in flight -/

section
variable {n : NodeIx} {t : Txn} {answer : Option (List Byte)} {s : State}

/-- An answer that is valid for what was asked (R145, R151). -/
abbrev ValidFor (t : Txn) (n : NodeIx) (answer : Option (List Byte)) : Prop :=
  ∃ d, answer = some d ∧ (t.kind = .poll n → parsePoll d ≠ none)

theorem completeTxn_poll (flight : s.clc.txn = some t) (kind : t.kind = .poll n) :
    completeTxn answer s = completePoll n answer s.unasked := by
  unfold completeTxn
  rw [flight]
  dsimp only
  rw [kind]

theorem completeTxn_mirror {i : MirrorItem} (flight : s.clc.txn = some t) (kind : t.kind = .mirror n i) :
    completeTxn answer s = completeMirror n i answer s.unasked := by
  unfold completeTxn
  rw [flight]
  dsimp only
  rw [kind]

theorem completeTxn_pass (flight : s.clc.txn = some t) (kind : t.kind = .pass n) :
    completeTxn answer s = completePass n answer s.unasked := by
  unfold completeTxn
  rw [flight]
  dsimp only
  rw [kind]

theorem completeTxn_sleep (flight : s.clc.txn = some t) (kind : t.kind = .sleep) : completeTxn answer s = s.unasked := by
  unfold completeTxn
  rw [flight]
  dsimp only
  rw [kind]

theorem completeTxn_poll_done (flight : s.clc.txn = some t) (kind : t.kind = .poll n) :
    SlotDone n (ValidFor t n answer) s (completeTxn answer s) ∧ (completeTxn answer s).clc.pass = s.clc.pass ∧
    (completeTxn answer s).lkp.replies = s.lkp.replies := by
  rw [completeTxn_poll flight kind]
  cases parsed : answer.bind parsePoll with
  | none =>
    rw [completePoll_missed parsed]
    have fails : ¬ ValidFor t n answer := by
      rintro ⟨d, rfl, parses⟩
      exact parses kind parsed
    have moved := nodeMiss_moved n s.unasked
    exact ⟨nodeMiss_done fails (.refl _) (.refl _ _), (congrArg Clc.pass moved.clc :), moved.replies⟩
  | some p =>
    obtain ⟨refresh, events⟩ := p
    obtain ⟨d, rfl, parses⟩ := Option.bind_eq_some_iff.mp parsed
    rw [completePoll_events parses]
    have holds : ValidFor t n (some d) := ⟨d, rfl, fun _ => by rw [parses]; nofun⟩
    have moved := polled_moved n refresh s.unasked
    have kept := rearEvents_kept n events (polled n refresh s.unasked)
    have node := validAnswer_node n s.unasked
    rw [← polled_nodes n refresh] at node
    exact ⟨slotDone_of_moved moved kept.slot (rearEvents_only n events _) (fun _ => node)
      (fun fails => absurd holds fails) (fun fails => absurd holds fails),
      kept.pass.trans (congrArg Clc.pass moved.clc :), kept.replies.trans moved.replies⟩

/-- A mirror write that was missed waits again while its slot is PRESENT (R156). -/
theorem completeTxn_mirror_done {i : MirrorItem} (flight : s.clc.txn = some t) (kind : t.kind = .mirror n i) :
    SlotDone n (ValidFor t n answer) s (completeTxn answer s) ∧ (completeTxn answer s).clc.pass = s.clc.pass ∧
    (completeTxn answer s).lkp.replies = s.lkp.replies ∧
    (¬ ValidFor t n answer → (completeTxn answer s).clc.nodes[n].state = .present → s.clc.line.up = true →
      (n, i) ∈ (completeTxn answer s).clc.mirrorQueue) := by
  rw [completeTxn_mirror flight kind]
  cases answer with
  | none =>
    have fails : ¬ ValidFor t n none := fun ⟨_, given, _⟩ => nomatch given
    have moved := nodeMiss_moved n s.unasked
    have queued := moved.queue (f := fun c => c.appendPair i n) (Clc.appendPair_keeps i n _)
    have nodes := (Clc.appendPair_pairs (n := n) i (nodeMiss n s.unasked).clc).1
    have kept : SlotKept (nodeMiss n s.unasked) (completeMirror n i none s.unasked) :=
      ⟨nodes, (congrArg Clc.txn (Clc.appendPair_keeps i n (nodeMiss n s.unasked).clc) :),
        (congrArg Clc.contentions (Clc.appendPair_keeps i n (nodeMiss n s.unasked).clc) :), rfl, fun _ _ => id⟩
    refine ⟨nodeMiss_done fails kept ((modClc_only _ _).mono (by decide)), (congrArg Clc.pass queued.clc :),
      queued.replies, fun _ present up => ?_⟩
    have line : (nodeMiss n s.unasked).clc.line = s.clc.line := (congrArg Clc.line moved.clc :)
    rw [kept.nodes] at present
    exact Clc.appendPair_mem i present (by rw [line]; exact up)
  | some d =>
    have holds : ValidFor t n (some d) := ⟨d, rfl, fun poll => by rw [kind] at poll; cases poll⟩
    have moved := validAnswer_moved n s.unasked
    exact ⟨validAnswer_done holds (.refl _) (.refl _ _), (congrArg Clc.pass moved.clc :), moved.replies,
      fun fails => absurd holds fails⟩

/-! ## The pass-through -/

theorem endPass_answer_replies {p : PassThrough} (held : s.clc.pass = some p) (d : List Byte) :
    (endPass (.answer d) s).lkp.replies.map Reply.content =
      s.lkp.replies.map Reply.content ++ [(ReplyEntry.reserved, (0x79 : Byte), p.tag, d)] := by
  unfold endPass
  rw [held]
  exact List.map_append

theorem endPass_timeout_replies {p : PassThrough} (held : s.clc.pass = some p) :
    (endPass (.refuse .timeout) s).lkp.replies.map Reply.content =
      s.lkp.replies.map Reply.content ++ [(ReplyEntry.reserved, (0x7F : Byte), p.tag, [0x0B, 0x39])] := by
  unfold endPass
  rw [held]
  exact List.map_append

/-- The reply of a pass-through: the answer's data, or TIMEOUT (R163). -/
def passReply (p : PassThrough) : Option (List Byte) → ReplyEntry × Byte × Byte × List Byte
  | some d => (.reserved, 0x79, p.tag, d)
  | none => (.reserved, 0x7F, p.tag, [0x0B, 0x39])

/-- What a pass-through completes with, where its record is held and where RESTART emptied it (R163, R164). -/
theorem completeTxn_pass_done (flight : s.clc.txn = some t) (kind : t.kind = .pass n) :
    SlotDone n (ValidFor t n answer) s (completeTxn answer s) ∧ (completeTxn answer s).clc.pass = none ∧
    (∀ p, s.clc.pass = some p → (completeTxn answer s).lkp.replies.map Reply.content =
      s.lkp.replies.map Reply.content ++ [passReply p answer]) ∧
    (s.clc.pass = none → (completeTxn answer s).lkp.replies = s.lkp.replies) := by
  have ended {v : State} (moved : SlotMoved n s.unasked v) (resp : Response) : (endPass resp v).clc.pass = none ∧
      (s.clc.pass = none → (endPass resp v).lkp.replies = s.lkp.replies) := by
    have pass : v.clc.pass = s.clc.pass := (congrArg Clc.pass moved.clc :)
    refine ⟨by rw [endPass_clc], fun empty => ?_⟩
    rw [endPass_of_none v (pass.trans empty)]
    exact moved.replies
  rw [completeTxn_pass flight kind]
  cases answer with
  | none =>
    have fails : ¬ ValidFor t n none := fun ⟨_, given, _⟩ => nomatch given
    have moved := nodeMiss_moved n s.unasked
    obtain ⟨emptied, silent⟩ := ended moved (.refuse .timeout)
    refine ⟨nodeMiss_done fails (endPass_slot _ _) (endPass_only _ _), emptied, fun p held => ?_, silent⟩
    have pass : (nodeMiss n s.unasked).clc.pass = some p := (congrArg Clc.pass moved.clc :).trans held
    refine (endPass_timeout_replies pass).trans ?_
    rw [moved.replies]
    rfl
  | some d =>
    have holds : ValidFor t n (some d) := ⟨d, rfl, fun poll => by rw [kind] at poll; cases poll⟩
    have moved := validAnswer_moved n s.unasked
    obtain ⟨emptied, silent⟩ := ended moved (.answer d)
    refine ⟨validAnswer_done holds (endPass_slot _ _) ((endPass_only _ _).mono (by decide)), emptied,
      fun p held => ?_, silent⟩
    have pass : (validAnswer n s.unasked).clc.pass = some p := (congrArg Clc.pass moved.clc :).trans held
    refine (endPass_answer_replies pass d).trans ?_
    rw [moved.replies]
    rfl

end

end Sys2Proof.Machine
end

section
/-! The transactions of the Coach Line: the stop bits, the windows and the answers that complete them, and the rear
events of a poll (O60). -/

namespace Sys2Proof.Machine

-- One theorem at a time, so that a build as one text needs few threads.
set_option Elab.async false

/-! ## The phases of a transaction -/

section
variable {s : State} {t : Txn}

theorem setTxnPhase_of_flight (flight : s.clc.txn = some t) (ph : TxnPhase) :
    setTxnPhase ph s = s.modClc fun c => { c with txn := some { t with phase := ph } } := by
  have phased : s.clc.txn.map (fun t => { t with phase := ph }) = some { t with phase := ph } := by
    rw [flight]
    rfl
  exact congrArg (fun x => s.modClc fun c => { c with txn := x }) phased

theorem phase_of_flight (flight : s.clc.txn = some t) : s.clc.phase = some t.phase := by
  unfold Clc.phase
  rw [flight]
  rfl

theorem phase_of_none (idle : s.clc.txn = none) : s.clc.phase = none := by
  unfold Clc.phase
  rw [idle]
  rfl

/-- The stop bit of a master frame (R145). -/
theorem masterFrameSent_sent (flight : s.clc.txn = some t) (sending : t.phase = .sending) :
    masterFrameSent s = s.modClc fun c => if t.kind = .sleep
      then { c with txn := none, contentions := 0 } else { c with txn := some { t with phase := .window } } := by
  unfold masterFrameSent
  rw [flight]
  dsimp only
  rw [if_pos sending]
  by_cases sleep : t.kind = .sleep
  · rw [if_pos sleep, completeTxn_sleep flight sleep]
    simp only [if_pos sleep]
  · rw [if_neg sleep, setTxnPhase_of_flight flight]
    simp only [if_neg sleep]

theorem masterFrameSent_idle (idle : ∀ t, s.clc.txn = some t → t.phase ≠ .sending) : masterFrameSent s = s := by
  unfold masterFrameSent
  split
  · rename_i t flight
    exact if_neg (idle t flight)
  · rfl

theorem answerWindowExpiry_idle (idle : s.clc.phase ≠ some .window) : answerWindowExpiry s = s := if_neg idle

/-- A running answer is cut short or completes, and not both (R145). -/
theorem answer_running {cs : List CoachChar} (phase : s.clc.phase = some (.receiving cs)) :
    answerCut s = (if answerComplete cs then s else completeTxn none s) ∧
    answerDone s = if answerComplete cs then completeTxn (answerData cs) s else s := by
  unfold answerCut answerDone
  rw [phase]
  exact ⟨rfl, rfl⟩

theorem answer_idle (phase : s.clc.phase = none) (ch : CoachChar) : answerCut s = s ∧ answerDone s = s ∧
    answerCharacter ch s = s := by
  unfold answerCut answerDone answerCharacter
  rw [phase]
  exact ⟨rfl, rfl, rfl⟩

/-- A character is taken into an answer while the window is open or the answer runs (R143, R145). -/
theorem answerCharacter_of_flight (flight : s.clc.txn = some t) (ch : CoachChar) : answerCharacter ch s =
    match t.phase with
    | .window => s.modClc fun c => { c with txn := some { t with phase := .receiving [ch] } }
    | .receiving cs => if answerComplete cs then s
      else s.modClc fun c => { c with txn := some { t with phase := .receiving (cs ++ [ch]) } }
    | .sending => s := by
  unfold answerCharacter
  rw [phase_of_flight flight]
  cases phase : t.phase
  · rfl
  · exact setTxnPhase_of_flight flight _
  · dsimp only
    rw [setTxnPhase_of_flight flight]

end

/-! ## Rear events -/

section
variable {n : NodeIx} {e : RearEvent} {s : State}

theorem clk_startDate (c : Clk) : c.startDate = match c.state with
    | .set => some { year := c.time.year, month := c.time.month, day := c.time.day,
                     hour := c.time.hour, minute := c.time.minute }
    | .unset => none := by
  unfold Clk.startDate
  cases c.state <;> rfl

/-- The trip that a rear PASSENGER_TRIP_RESET begins (R57). -/
theorem resetPassengerTrip (s : State) : resetTrip 3 .rear s = mark .passengerTrip (s.modTau fun u => { u with
    trips := u.trips.set 3 { state := .open, distance := 0, fuel := 0, running := 0, moving := 0, maxSpeed := 0
                             startOdometer := s.tau.odometer, startDate := s.clk.startDate, resetBy := some .rear } }) := by
  unfold resetTrip
  dsimp only
  rw [if_pos rfl]
  rfl

/-- What REAR_ACK leaves of an entry (R99). -/
theorem acknowledgeRear_taken (w : EntryIx) :
    let after := (acknowledgeWhere (fun _ c => c.dest = .rear) s).1.wtb.entries[w]
    let before := s.wtb.entries[w]
    (¬ RearTaken s w → after = before) ∧
    (RearTaken s w → after.cfg = before.cfg ∧
      after.state = (if before.state = .active ∧ before.cfg.source ≠ .arrival then .acked else .idle) ∧
      after.repeatTimer = (if before.state = .active then none else before.repeatTimer) ∧
      after.eventPending = (if before.cfg.source = .arrival then false else before.eventPending)) := by
  intro after before
  have entry : after = if RearTaken s w then before.acknowledged else before := acknowledgeRear_entry s w
  refine ⟨fun other => by rw [entry, if_neg other], fun taken => ?_⟩
  have state : before.acknowledged.state =
      if before.state = .active ∧ before.cfg.source ≠ .arrival then .acked else .idle := by
    change before.stateAcked = _
    unfold Entry.stateAcked
    rcases taken.2 with active | resolved
    · have active : before.state = .active := active
      by_cases arrival : before.cfg.source = .arrival
      · rw [active, if_pos arrival]
        exact (if_neg fun both => both.2 arrival).symm
      · rw [active, if_neg arrival]
        exact (if_pos ⟨rfl, arrival⟩).symm
    · have resolved : before.state = .resolved := resolved
      rw [resolved]
      exact (if_neg fun both => nomatch both.1).symm
  rw [entry, if_pos taken]
  exact ⟨rfl, state, rfl, rfl⟩

theorem acknowledgeRear_only (s : State) :
    OnlyChanges [.wtb, .chs, .clc, .lkp] s (acknowledgeWhere (fun _ c => c.dest = .rear) s).1 :=
  (ByProducts.acknowledgeWhere _ s).only

end

/-! ## The statement -/

/-- Settles O60: a transaction's slot is answered or missed and told, its marks stand before its rear events, and each
rear event is its owner's own operation and then its notice. -/
theorem transactionsComplete : Obligations.TransactionsComplete := by
  unfold Obligations.TransactionsComplete
  refine ⟨fun n d refresh events t s flight kind parsed => ?_, fun n s running awaited fresh => ?_, fun n e s => ?_,
    fun s supplied => ?_, fun answer t n s flight target => ?_⟩
  case refine_1 =>
    have moved := polled_moved n refresh s.unasked
    have node := validAnswer_node n s.unasked
    rw [← polled_nodes n refresh] at node
    refine ⟨polled n refresh s.unasked, (completeTxn_poll flight kind).trans (completePoll_events parsed _),
      ((modClc_only s _).mono (by decide)).trans (moved.only.mono (by decide)), node.1, ?_,
      fun i running shown asks => polled_mem (congrArg LineState.up running) shown asks⟩
    by_cases disabled : s.clc.nodes[n].state = .disabled
    · exact .inr disabled
    · exact .inl (node.2.trans (if_neg disabled))
  case refine_2 => exact validAnswer_queue (by rw [running]; rfl) awaited fresh
  case refine_3 =>
    intro kind handed after notified
    refine ⟨takeRearEvent_forwarded, fun hands call => ?_, fun hands on privacy => ?_, fun hands trip => ?_,
      fun hands ack => ?_, fun hands clock => ?_, fun hands alarm => ?_⟩
    · have own := takeRearEvent_handed hands (ownRearEvent_call call)
      exact own
    · exact takeRearEvent_handed hands (ownRearEvent_privacy privacy)
    · have own := takeRearEvent_handed hands (ownRearEvent_trip trip)
      rw [resetPassengerTrip, clk_startDate] at own
      exact own
    · have own := takeRearEvent_handed hands (ownRearEvent_ack ack)
      rw [acknowledgeRear_count] at own
      exact ⟨_, own, acknowledgeRear_only s, acknowledgeRear_chs s, acknowledgeRear_taken⟩
    · refine ⟨fun bad => ?_, fun open_ good => ?_⟩
      · have own := takeRearEvent_handed hands (ownRearEvent_clock clock)
        rw [rearClockSet_refused bad] at own
        exact own
      · have own := takeRearEvent_handed hands (ownRearEvent_clock clock)
        rw [rearClockSet_applied open_ good] at own
        exact ⟨_, own, setClockTo_only s _, setClockTo_marked _ s, setClockTo_clk _ s⟩
    · refine ⟨fun bad => ?_, fun i good ix => ?_⟩
      · have own := takeRearEvent_handed hands (ownRearEvent_alarm alarm)
        rw [rearAlarmSet_refused bad] at own
        exact own
      · have own := takeRearEvent_handed hands (ownRearEvent_alarm alarm)
        rw [rearAlarmSet_applied good ix] at own
        exact own
  case refine_4 =>
    have event {f : State → State} {t : State} (takes : f s = t) : takeEvent f s = .next (settle t) := by
      rw [takeEvent_supplied supplied, takes]
    refine ⟨fun t flight sending => event (masterFrameSent_sent flight sending), fun value mark error t flight => ?_,
      fun value mark error idle => event (answer_idle (phase_of_none idle) _).2.2, fun idle => ?_,
      fun t flight other => ?_, fun t flight other => ?_, fun t flight window => ?_, fun t cs flight phase short => ?_,
      fun t cs flight phase complete => ?_⟩
    · have character := answerCharacter_of_flight flight { value, mark, error }
      refine ⟨fun sending => event ?_, fun window => event ?_, fun cs receiving => ?_⟩
      · rw [character, sending]
      · rw [character, window]
      · rw [receiving] at character
        dsimp only at character
        split_ifs at character ⊢
        · exact event character
        · exact event character
    · have phase := phase_of_none idle
      have still := answer_idle phase { value := 0, mark := false, error := false }
      exact ⟨event (masterFrameSent_idle fun t flight => by rw [idle] at flight; cases flight),
        event (answerWindowExpiry_idle (by rw [phase]; nofun)), event still.1, event still.2.1⟩
    · refine event (masterFrameSent_idle fun u held => ?_)
      obtain rfl : t = u := Option.some.inj (flight.symm.trans held)
      exact other
    · exact event (answerWindowExpiry_idle fun phase => other (Option.some.inj ((phase_of_flight flight).symm.trans phase)))
    · exact event (if_pos ((phase_of_flight flight).trans (congrArg some window)))
    · obtain ⟨cut, done⟩ := answer_running ((phase_of_flight flight).trans (congrArg some phase))
      have open_ : ¬ answerComplete cs = true := by rw [short]; nofun
      exact ⟨event (cut.trans (if_neg open_)), event (done.trans (if_neg open_))⟩
    · obtain ⟨cut, done⟩ := answer_running ((phase_of_flight flight).trans (congrArg some phase))
      exact ⟨event (done.trans (if_pos complete)), event (cut.trans (if_pos complete))⟩
  case refine_5 =>
    intro s1 x y valid
    cases kind : t.kind with
    | poll m =>
      rw [kind] at target
      obtain rfl : m = n := Option.some.inj target
      obtain ⟨done, pass, replies⟩ := completeTxn_poll_done (answer := answer) flight kind
      exact ⟨done.only, done.txn, done.contentions, done.others, done.answered, done.missed, done.spared, done.told,
        nofun, nofun, nofun, fun _ => ⟨pass, replies⟩⟩
    | mirror m i =>
      rw [kind] at target
      obtain rfl : m = n := Option.some.inj target
      obtain ⟨done, pass, replies, again⟩ := completeTxn_mirror_done (answer := answer) flight kind
      refine ⟨done.only, done.txn, done.contentions, done.others, done.answered, done.missed, done.spared, done.told,
        fun j same fails present running => ?_, nofun, nofun, fun _ => ⟨pass, replies⟩⟩
      cases same
      exact again fails present (by rw [running]; rfl)
    | pass m =>
      rw [kind] at target
      obtain rfl : m = n := Option.some.inj target
      obtain ⟨done, pass, answered, silent⟩ := completeTxn_pass_done (answer := answer) flight kind
      refine ⟨done.only, done.txn, done.contentions, done.others, done.answered, done.missed, done.spared, done.told,
        nofun, fun p _ held => ⟨pass, ?_⟩, fun _ empty => ⟨pass, silent empty⟩, fun other => absurd rfl other⟩
      have given := answered p held
      cases answer <;> exact given
    | sleep =>
      rw [kind] at target
      cases target

end Sys2Proof.Machine
end

section
/-! SENSOR REPORT: its pairs, what each report leaves at the slots and at the blocks that copy them (R24, R25, R26). -/

namespace Sys2Proof.Machine

-- One theorem at a time, so that a build as one text needs few threads.
set_option Elab.async false

/-! ## The pairs of a SENSOR REPORT -/

/-- The bytes of a list of pairs (Table 61). -/
abbrev pairBytes (pairs : List (SlotIx × Byte × Byte)) : List Byte := pairs.flatMap fun p => [byteOf p.1, p.2.1, p.2.2]

/-- The slots and the values that a list of pairs reports. -/
abbrev pairValues (pairs : List (SlotIx × Byte × Byte)) : List (SlotIx × Int) :=
  pairs.map fun p => (p.1, s16 [p.2.1, p.2.2] 0)

theorem pairBytes_length (pairs : List (SlotIx × Byte × Byte)) : (pairBytes pairs).length = 3 * pairs.length := by
  induction pairs with
  | nil => rfl
  | cons p pairs ih =>
    rw [pairBytes, List.flatMap_cons, List.length_append, ih, List.length_cons, List.length_cons]
    simp only [List.length_cons, List.length_nil]
    omega

theorem reportPairs_pairBytes (pairs : List (SlotIx × Byte × Byte)) :
    reportPairs (pairBytes pairs) = some (pairValues pairs) := by
  induction pairs with
  | nil => rfl
  | cons p pairs ih =>
    have read := reportPairs_cons p.1 p.2.1 p.2.2 (pairBytes pairs)
    rw [ih] at read
    exact read

/-- A pair that names a slot above 7 leaves SENSOR REPORT without pairs (R26). -/
theorem reportPairs_eq_none {body : List Byte} {k : Nat} (inside : 3 * k < body.length) (out : 8 ≤ u8 body (3 * k)) :
    reportPairs body = none := by
  induction k generalizing body with
  | zero =>
    match body, inside, out with
    | [_], _, _ => rfl
    | [_, _], _, _ => rfl
    | n :: hi :: lo :: rest, _, out =>
      have outside : ixOf 8 n.toNat = none := by
        rw [Option.eq_none_iff_forall_ne_some]
        intro slot named
        have same := ixOf_eq_some.mp named
        have := slot.isLt
        change 8 ≤ n.toNat at out
        omega
      rw [reportPairs, outside]
      rfl
  | succ k ih =>
    match body, inside, out with
    | [_], _, _ => rfl
    | [_, _], _, _ => rfl
    | n :: hi :: lo :: rest, inside, out =>
      have later : reportPairs rest = none := by
        refine ih ?_ ?_
        · simp only [List.length_cons] at inside
          omega
        · exact out
      rw [reportPairs, later]
      cases ixOf 8 n.toNat <;> rfl

/-! ## One report -/

section
variable (n : SlotIx) (v : Int) (s : State)

theorem testRefuel_marks (amount : Nat) : MarksOnly s (testRefuel amount s) := by
  have refueled (before after : Nat) : MarksOnly s (refuel before after s) := by
    have reset : MarksOnly s (resetTrip 2 .auto s) := .of_clc_eq rfl
    unfold refuel
    exact ((reset.trans (.of_only (tripNotice_only _ _ _))).trans (.of_only (notify_only _ _))).trans
      (.of_only (gduRefuel_only _))
  have taken (u : State) : MarksOnly u (u.modTau fun v => { v with levelAtStop := some amount }) := .of_clc_eq rfl
  unfold testRefuel
  split
  · split_ifs
    · exact .refl s
    · exact (refueled _ _).trans (taken _)
    · exact taken s
  · exact .refl s

theorem takeReport_marks (b : Block) : MarksOnly s (takeReport n b s) := by
  cases b
  case gdu => exact .of_only (gduReport_only s n)
  case tau =>
    unfold takeReport tauReport
    split_ifs
    · exact (testRefuel_marks s _).trans (CountsOnly.recomputeRange _).marks
    · exact .refl s
  case wtb =>
    unfold takeReport wtbSlot
    exact .wtbTake _ _ s
  case clc =>
    unfold takeReport clcSlot
    split_ifs
    · exact .mark _ s
    · exact .refl s
  all_goals exact .refl s

theorem reportSlot_marks : MarksOnly s (reportSlot n v s) :=
  (MarksOnly.of_clc_eq (t := s.modSlot n (Slot.reported v)) rfl).trans
    ((MarksOnly.of_clc_eq rfl).trans (List.foldlRecOn (motive := MarksOnly _) _ _ (.refl _) fun _ marks b _ =>
      marks.trans (takeReport_marks n _ b)))

/-- The other blocks leave the slots and the WTB's copies of them. -/
theorem takeReport_slotsLeft {b : Block} (ne : b ≠ .wtb) : SlotsLeft s (takeReport n b s) := by
  cases b
  case wtb => exact absurd rfl ne
  case gdu => exact .of_wtb ((gduReport_only s n).wtb_eq (by decide)) (gduReport_slots n s)
  case tau =>
    unfold takeReport tauReport
    split_ifs
    · exact (testRefuel_slotsLeft _ s).trans (recomputeRange_slotsLeft _)
    · exact .refl s
  case clc => exact .of_wtb ((clcSlot_only s n).wtb_eq (by decide)) (congrArg Gdu.slots ((clcSlot_only s n).gdu_eq (by decide)))
  all_goals exact .refl s

/-- The WTB finds what the slot holds (R25). -/
theorem reportSlot_views : (reportSlot n v s).wtb.view.slotStates = s.wtb.view.slotStates.set n .fresh ∧
    (reportSlot n v s).wtb.view.slotValues = s.wtb.view.slotValues.set n v := by
  refine hand_reaches (b := .wtb) (before := fun x => SlotsLeft (s.modSlot n (Slot.reported v)) x)
    (goal := fun x => x.wtb.view.slotStates = s.wtb.view.slotStates.set n .fresh ∧
      x.wtb.view.slotValues = s.wtb.view.slotValues.set n v)
    (by decide) (fun _ _ left => left) (fun x left => ?_) (fun c x ne left => left.trans (takeReport_slotsLeft n x ne))
    (fun c x ne found => ?_) (.refl _)
  · obtain ⟨states, values, slots⟩ := left
    have slot : x.gdu.slots[n] = Slot.reported v s.gdu.slots[n] := by
      rw [slots]
      exact updAt_get_same _ _ _
    have takes : takeReport n .wtb x = wtbSlot n x.gdu.slots[n].state x.gdu.slots[n].value x := rfl
    rw [takes, wtbSlot, wtbTake_view, slot, states, values]
    exact ⟨rfl, rfl⟩
  · obtain ⟨states, values, -⟩ := takeReport_slotsLeft n x ne
    rw [states, values]
    exact found

/-- A report to the outside slot marks OUTSIDE_TEMP (R25, R154). -/
theorem reportSlot_marked (outside : s.clc.outsideSlot = some n) : Marked .outsideTemp s (reportSlot n v s) := by
  refine hand_reaches (b := .clc) (before := fun x => MarksOnly s x) (goal := fun x => Marked .outsideTemp s x)
    (by decide) (fun _ _ marks => marks) (fun x marks => ?_)
    (fun c x ne marks => marks.trans (takeReport_marks n x c))
    (fun c x ne marked => marked.then (takeReport_marks n x c).holds) (.of_clc_eq rfl)
  have same : x.clc.outsideSlot = some n := by rw [marks.outsideSlot_eq, outside]
  have takes : takeReport n .clc x = clcSlot n x := rfl
  rw [takes, clcSlot, if_pos same]
  exact marks.then_marked (marked_mark _ x)

end

/-! ## The reports of a request -/

/-- A slot that a request has reported, as the WTB and the CLC find it. -/
structure SlotReported (n : SlotIx) (s t : State) : Prop where
  fresh : t.gdu.slots[n].state = .fresh
  state : t.wtb.view.slotStates[n] = .fresh
  value : t.wtb.view.slotValues[n] = t.gdu.slots[n].value
  marked : s.clc.outsideSlot = some n → Marked .outsideTemp s t

section
variable {n : SlotIx} {s t : State}

theorem slotReported (n : SlotIx) (v : Int) (s : State) : SlotReported n s (reportSlot n v s) := by
  obtain ⟨states, values⟩ := reportSlot_views n v s
  have slot : (reportSlot n v s).gdu.slots[n] = Slot.reported v s.gdu.slots[n] := by
    rw [reportSlot_slots]
    exact updAt_get_same _ _ _
  refine ⟨by rw [slot]; rfl, ?_, ?_, reportSlot_marked n v s⟩
  · rw [states]
    exact Vector.getElem_set_self n.isLt
  · rw [values, slot]
    exact Vector.getElem_set_self n.isLt

/-- A later report leaves what an earlier one brought about. -/
theorem SlotReported.report (h : SlotReported n s t) (m : SlotIx) (v : Int) : SlotReported n s (reportSlot m v t) := by
  have marked (outside : s.clc.outsideSlot = some n) : Marked .outsideTemp s (reportSlot m v t) :=
    (h.marked outside).then (reportSlot_marks m v t).holds
  by_cases same : m = n
  · subst same
    have again := slotReported m v t
    exact ⟨again.fresh, again.state, again.value, marked⟩
  · obtain ⟨states, values⟩ := reportSlot_views m v t
    have ne : m.val ≠ n.val := fun eq => same (Fin.ext eq)
    have slot : (reportSlot m v t).gdu.slots[n] = t.gdu.slots[n] := by
      rw [reportSlot_slots]
      exact updAt_get_other _ _ _ _ same
    have state : (reportSlot m v t).wtb.view.slotStates[n] = t.wtb.view.slotStates[n] := by
      rw [states]
      exact Vector.getElem_set_ne m.isLt n.isLt ne
    have value : (reportSlot m v t).wtb.view.slotValues[n] = t.wtb.view.slotValues[n] := by
      rw [values]
      exact Vector.getElem_set_ne m.isLt n.isLt ne
    exact ⟨by rw [slot, h.fresh], by rw [state, h.state], by rw [value, slot, h.value], marked⟩

/-- The reports of a list of pairs, in order (R26). -/
def reportAll (pairs : List (SlotIx × Int)) (s : State) : State := pairs.foldl (fun s p => reportSlot p.1 p.2 s) s

theorem reportAll_reported {pairs : List (SlotIx × Int)} {p : SlotIx × Int} (mem : p ∈ pairs) :
    SlotReported p.1 s (reportAll pairs s) := by
  induction pairs generalizing s with
  | nil => cases mem
  | cons q pairs ih =>
    rcases List.mem_cons.mp mem with rfl | later
    · exact List.foldlRecOn (motive := SlotReported p.1 s) pairs _ (slotReported p.1 p.2 s) fun t held r _ =>
        held.report r.1 r.2
    · obtain ⟨fresh, state, value, marked⟩ := ih later (s := reportSlot q.1 q.2 s)
      have marks := reportSlot_marks q.1 q.2 s
      exact ⟨fresh, state, value, fun outside => marks.then_marked (marked (by rw [marks.outsideSlot_eq, outside]))⟩

theorem reportAll_only (pairs : List (SlotIx × Int)) (s : State) :
    OnlyChanges [.gdu, .tau, .wtb, .chs, .clc, .lkp, .free] s (reportAll pairs s) :=
  List.foldlRecOn (motive := OnlyChanges [.gdu, .tau, .wtb, .chs, .clc, .lkp, .free] s) pairs _ (.refl _ _)
    fun t walked p _ => walked.trans (reportSlot_only t p.1 p.2)

theorem reportAll_slots (pairs : List (SlotIx × Int)) (s : State) : (reportAll pairs s).gdu.slots =
    pairs.foldl (fun v p => v.set p.1 (Slot.reported p.2 v[p.1])) s.gdu.slots := by
  induction pairs generalizing s with
  | nil => rfl
  | cons p pairs ih =>
    refine (ih (reportSlot p.1 p.2 s)).trans ?_
    rw [reportSlot_slots]
    rfl

/-! ## The request -/

variable {tag : Byte}

theorem exec_sensorReport_pairs {pairs : List (SlotIx × Byte × Byte)} (some : 1 ≤ pairs.length) (few : pairs.length ≤ 8)
    (serves : Serves .sensorReport tag (pairBytes pairs) s) :
    exec .sensorReport s = .next (answered .sensorReport tag [] (reportAll (pairValues pairs) (takeRequest s))) := by
  have length := pairBytes_length pairs
  have fits : ReqKind.sensorReport.lengthOk (pairBytes pairs) = true := by
    simp only [ReqKind.lengthOk, Bool.and_eq_true, decide_eq_true_iff]
    omega
  exact served_answer serves fits (by rw [ownSensorReport, reportPairs_pairBytes]; rfl)

theorem exec_sensorReport_range {body : List Byte} (serves : Serves .sensorReport tag body s) (low : 3 ≤ body.length)
    (high : body.length ≤ 24) (whole : body.length % 3 = 0) {k : Nat} (inside : 3 * k < body.length)
    (out : 8 ≤ u8 body (3 * k)) : exec .sensorReport s = .next (turnedDown ReqKind.sensorReport.code tag .range s) := by
  have fits : ReqKind.sensorReport.lengthOk body = true := by
    simp only [ReqKind.lengthOk, Bool.and_eq_true, decide_eq_true_iff]
    exact ⟨⟨low, high⟩, whole⟩
  exact served_refuse serves fits (by rw [ownSensorReport, reportPairs_eq_none inside out]; rfl)

end

end Sys2Proof.Machine
end

section
/-! A report at the gauges and at the TAU: the damping buffers, the test for a refuel and the refuel (R31, R32, R39, R47,
R57, R61), and O33. -/

namespace Sys2Proof.Machine

-- One theorem at a time, so that a build as one text needs few threads.
set_option Elab.async false

/-! ## Handings block by block -/

/-- A walk over a list that names nothing twice, with what has had its turn. -/
theorem foldl_walks {α : Type} {f : State → α → State} {P : List α → State → Prop} {l : List α} (once : l.Nodup) {s : State}
    (start : P [] s) (step : ∀ done a x, a ∈ l → a ∉ done → P done x → P (a :: done) (f x a)) :
    ∃ done, (∀ a ∈ l, a ∈ done) ∧ P done (l.foldl f s) := by
  have walk (l' : List α) : ∀ (done : List α) (x : State), l'.Nodup → (∀ a ∈ l', a ∈ l ∧ a ∉ done) → P done x →
      ∃ after, (∀ a, a ∈ l' ∨ a ∈ done → a ∈ after) ∧ P after (l'.foldl f x) := by
    induction l' with
    | nil => exact fun done x _ _ holds => ⟨done, fun a mem => mem.resolve_left List.not_mem_nil, holds⟩
    | cons a l' ih =>
      intro done x nodup turns holds
      obtain ⟨fresh, rest⟩ := List.nodup_cons.mp nodup
      obtain ⟨listed, first⟩ := turns a List.mem_cons_self
      have later (c : α) (mem : c ∈ l') : c ∈ l ∧ c ∉ a :: done := by
        obtain ⟨targeted, undone⟩ := turns c (List.mem_cons_of_mem a mem)
        refine ⟨targeted, fun held => ?_⟩
        rcases List.mem_cons.mp held with rfl | held
        · exact fresh mem
        · exact undone held
      obtain ⟨after, has, walked⟩ := ih (a :: done) (f x a) rest later (step done a x listed first holds)
      refine ⟨after, fun c mem => ?_, walked⟩
      rcases mem with mem | mem
      · rcases List.mem_cons.mp mem with rfl | mem
        · exact has c (.inr List.mem_cons_self)
        · exact has c (.inl mem)
      · exact has c (.inr (List.mem_cons_of_mem a mem))
  obtain ⟨done, has, walked⟩ := walk l [] s once (fun a mem => ⟨mem, List.not_mem_nil⟩) start
  exact ⟨done, fun a mem => has a (.inl mem), walked⟩

/-- A handing as a walk: each block has one turn (R172). -/
theorem hand_walks {targets : List Block} {take : Block → State → State} {P : List Block → State → Prop} {s : State}
    (start : P [] (s.modFree fun v => { v with orders := v.orders.tail }))
    (step : ∀ done b x, b ∈ targets → b ∉ done → P done x → P (b :: done) (take b x)) :
    ∃ done, (∀ b ∈ targets, b ∈ done) ∧ P done (hand targets take s) := by
  obtain ⟨done, has, walked⟩ := foldl_walks (f := fun x b => take b x) ((nodup_blockOrder _).filter _) start
    fun done b x mem => step done b x (of_decide_eq_true (List.mem_filter.mp mem).2)
  exact ⟨done, fun b target => has b (List.mem_filter.mpr ⟨mem_blockOrder b _, by simpa using target⟩), walked⟩

/-! ## A gauge whose buffer a report changes -/

/-- The states in which a needle follows its source (R31). -/
abbrev Gauge.Driven (x : Gauge) : Prop := x.state = .tracking ∨ x.state = .held ∨ x.state = .void

/-- A gauge whose buffer becomes `b` on a slot that is FRESH. -/
structure GaugeFed (b : List Int) (x y : Gauge) : Prop where
  cfg : y.cfg = x.cfg
  buffer : y.buffer = b
  present : y.present = x.present
  driven : x.Driven → y.state = .tracking ∧ y.target = tableLookup x.cfg.table (b.sum.tdiv b.length)
  still : ¬ x.Driven → y = { x with buffer := b }

section
variable {n : SlotIx} {d : Gdu} {g : GaugeIx}

theorem Gdu.recompute_still (d : Gdu) {x : Gauge} (still : ¬ x.Driven) : d.recompute x = x := by
  unfold Gdu.recompute
  split
  · rename_i state
    exact absurd (.inl state) still
  · rename_i state
    exact absurd (.inr (.inl state)) still
  · rename_i state
    exact absurd (.inr (.inr state)) still
  all_goals rfl

theorem Gdu.withBuffers_other (f : Gauge → List Int) (other : d.gauges[g].cfg.source ≠ .slot n) :
    (d.withBuffers n f).gauges[g] = d.gauges[g] := by
  unfold Gdu.withBuffers Gdu.recomputeWhere
  dsimp only
  rw [mapAll_get, mapAll_get, if_neg other, if_neg (by simpa using other)]

/-- The buffers of the gauges on a FRESH slot (R31, R32). -/
theorem Gdu.withBuffers_fed (f : Gauge → List Int) (source : d.gauges[g].cfg.source = .slot n)
    (fresh : d.slots[n].state = .fresh) (holds : f d.gauges[g] ≠ []) :
    GaugeFed (f d.gauges[g]) d.gauges[g] (d.withBuffers n f).gauges[g] := by
  obtain ⟨e, slots, fed⟩ := d.withBuffers_gauge n f source
  rw [fed]
  generalize d.gauges[g] = x at source holds
  by_cases driven : x.Driven
  · have called : e.recompute { x with buffer := f x } = { x with
        buffer := f x, state := .tracking, phase := none, homingLeft := none
        target := tableLookup x.cfg.table ((f x).sum.tdiv (f x).length) } := by
      rw [e.recompute_driven (x := { x with buffer := f x }) driven, e.goCalled_of_slot { x with buffer := f x } (n := n) source, slots, fresh]
      exact if_neg holds
    rw [called]
    exact ⟨rfl, rfl, rfl, fun _ => ⟨rfl, rfl⟩, fun still => absurd driven still⟩
  · rw [e.recompute_still (x := { x with buffer := f x }) driven]
    exact ⟨rfl, rfl, rfl, fun holds => absurd holds driven, fun _ => rfl⟩

theorem bufferPush_eq (depth : Nat) (b : List Int) (v : Int) :
    bufferPush depth b v = (if b.length < depth then b else b.tail) ++ [v] := by
  unfold bufferPush
  split_ifs <;> rfl

/-- A buffer full of one value stays so when that value is pushed again. -/
theorem bufferPush_replicate {depth : Nat} (pos : 1 ≤ depth) (v : Int) :
    bufferPush depth (List.replicate depth v) v = List.replicate depth v := by
  obtain ⟨k, rfl⟩ := Nat.exists_eq_add_of_le' pos
  rw [bufferPush_eq, List.length_replicate, if_neg (by omega), List.replicate_succ, List.tail_cons,
    ← List.replicate_succ', List.replicate_succ]

theorem average_replicate {depth : Nat} (pos : 1 ≤ depth) (v : Int) :
    (List.replicate depth v).sum.tdiv (List.replicate depth v).length = v := by
  rw [List.sum_replicate, List.length_replicate, nsmul_eq_mul]
  exact Int.mul_tdiv_cancel_left v (by omega)

end

/-! ## A report that brings no refuel -/

section
variable {n : SlotIx} {s : State}

theorem testRefuel_gdu (amount : Nat) (quiet : s.tau.roadLive = true ∨ s.tau.levelAtStop = none ∨
    ∃ l, s.tau.levelAtStop = some l ∧ amount < l + s.tau.fuel.threshold) : (testRefuel amount s).gdu = s.gdu := by
  unfold testRefuel
  split
  · rename_i l level
    by_cases live : s.tau.roadLive = true
    · rw [if_pos live]
    · have short : ¬ l + s.tau.fuel.threshold ≤ amount := by
        rcases quiet with road | absent | ⟨k, found, low⟩
        · exact absurd road live
        · rw [level] at absent
          cases absent
        · obtain rfl : l = k := Option.some.inj (level.symm.trans found)
          omega
      rw [if_neg live, if_neg short]
      rfl
  · rfl

/-- The blocks but the GDU and the TAU leave both. -/
theorem takeReport_still {b : Block} (x : State) (gdu : b ≠ .gdu) (tau : b ≠ .tau) :
    (takeReport n b x).gdu = x.gdu ∧ (takeReport n b x).tau = x.tau := by
  cases b
  case gdu => exact absurd rfl gdu
  case tau => exact absurd rfl tau
  case wtb => exact ⟨(wtbSlot_only x n _ _).gdu_eq (by decide), (wtbSlot_only x n _ _).tau_eq (by decide)⟩
  case clc => exact ⟨(clcSlot_only x n).gdu_eq (by decide), (clcSlot_only x n).tau_eq (by decide)⟩
  all_goals exact ⟨rfl, rfl⟩

/-- The state as a report writes it, before the blocks take it. -/
abbrev written (n : SlotIx) (v : Int) (s : State) : State := s.modSlot n (Slot.reported v)

theorem written_slot (n : SlotIx) (v : Int) (s : State) :
    (written n v s).gdu.slots[n] = Slot.reported v s.gdu.slots[n] := updAt_get_same _ _ _

/-- Without a refuel the gauges take the value and nothing else reaches them. -/
theorem reportSlot_gdu {v : Int} (quiet : s.tau.fuel.slot = some n → s.tau.roadLive = true ∨ s.tau.levelAtStop = none ∨
    ∃ l, s.tau.levelAtStop = some l ∧ s.tau.fuelAmount v < l + s.tau.fuel.threshold) :
    (reportSlot n v s).gdu = (gduReport n (written n v s)).gdu := by
  obtain ⟨done, all, walked⟩ := hand_walks (targets := [.gdu, .tau, .wtb, .clc]) (take := takeReport n) (s := written n v s)
    (P := fun done x => x.gdu = (if .gdu ∈ done then (gduReport n (written n v s)).gdu else (written n v s).gdu) ∧
      (Block.tau ∉ done → x.tau = s.tau)) ⟨rfl, fun _ => rfl⟩ fun done b x _ fresh ⟨gdu, tau⟩ => by
    have slots : x.gdu.slots = (written n v s).gdu.slots := by
      rw [gdu]
      split_ifs
      · exact gduReport_slots n _
      · rfl
    by_cases first : b = .gdu
    · subst first
      rw [if_neg fresh] at gdu
      refine ⟨?_, fun rest => tau fun held => rest (List.mem_cons_of_mem _ held)⟩
      rw [if_pos List.mem_cons_self]
      change x.gdu.withBuffers n _ = _
      rw [gdu]
      rfl
    · have others : (Block.gdu ∈ b :: done) = (Block.gdu ∈ done) :=
        propext ⟨fun mem => (List.mem_cons.mp mem).resolve_left (Ne.symm first), List.mem_cons_of_mem b⟩
      simp only [others]
      by_cases second : b = .tau
      · subst second
        refine ⟨Eq.trans ?_ gdu, fun rest => absurd List.mem_cons_self rest⟩
        change (tauReport n x).gdu = _
        unfold tauReport
        split_ifs with own
        · rw [(recomputeRange_only _).gdu_eq (by decide)]
          have same := tau fresh
          rw [slots, written_slot]
          refine testRefuel_gdu _ ?_
          rw [same] at own ⊢
          exact quiet own
        · rfl
      · obtain ⟨gduSame, tauSame⟩ := takeReport_still x first second
        exact ⟨gduSame.trans gdu, fun rest => tauSame.trans (tau fun held => rest (List.mem_cons_of_mem b held))⟩
  have result := walked.1
  rw [if_pos (all .gdu (by decide))] at result
  exact result

/-! ## The refuel -/

/-- The trip that a refuel begins (R47, R61). -/
abbrev autoTrip (s : State) : Trip :=
  { state := .open, distance := 0, fuel := 0, running := 0, moving := 0, maxSpeed := 0,
    startOdometer := s.tau.odometer, startDate := s.clk.startDate, resetBy := some .auto }

theorem recomputeRange_range_only (s : State) :
    (recomputeRange s).tau = { s.tau with range := (recomputeRange s).tau.range } := by
  rw [recomputeRange_tau]

theorem refuel_tau (before after : Nat) (s : State) :
    (refuel before after s).tau = { s.tau with trips := s.tau.trips.set 2 (autoTrip s) } := by
  unfold refuel
  rw [(gduRefuel_only _).tau_eq (by decide), (notify_only _ _).tau_eq (by decide), (tripNotice_only _ _ _).tau_eq (by decide)]
  rfl

theorem testRefuel_idle {amount : Nat} (idle : s.tau.roadLive = true ∨ s.tau.levelAtStop = none) :
    testRefuel amount s = s := by
  unfold testRefuel
  rcases idle with live | absent
  · split
    · exact if_pos live
    · rfl
  · rw [absent]

theorem testRefuel_short {amount l : Nat} (stands : s.tau.roadLive = false) (level : s.tau.levelAtStop = some l)
    (short : amount < l + s.tau.fuel.threshold) :
    testRefuel amount s = s.modTau fun u => { u with levelAtStop := some amount } := by
  unfold testRefuel
  rw [level]
  dsimp only
  rw [if_neg (by rw [stands]; nofun), if_neg (by omega)]

theorem testRefuel_full {amount l : Nat} (stands : s.tau.roadLive = false) (level : s.tau.levelAtStop = some l)
    (full : l + s.tau.fuel.threshold ≤ amount) :
    testRefuel amount s = (refuel l amount s).modTau fun u => { u with levelAtStop := some amount } := by
  unfold testRefuel
  rw [level]
  dsimp only
  rw [if_neg (by rw [stands]; nofun), if_pos full]

/-- What the TAU makes of a report to the fuel slot, as it stands before the other blocks or after them. -/
theorem reportSlot_tau {v : Int} (own : s.tau.fuel.slot = some n) {T : Tau}
    (tests : ∀ x : State, x.tau = s.tau → x.clk = s.clk → (testRefuel (s.tau.fuelAmount v) x).tau = T) :
    (reportSlot n v s).tau = { T with range := (reportSlot n v s).tau.range } := by
  refine hand_reaches (b := .tau)
    (before := fun x => x.tau = s.tau ∧ x.clk = s.clk ∧ x.gdu.slots = (written n v s).gdu.slots)
    (goal := fun x => x.tau = { T with range := x.tau.range })
    (by decide) (fun _ _ same => same) (fun x same => ?_) (fun c x ne same => ?_) (fun c x ne found => ?_) ⟨rfl, rfl, rfl⟩
  · obtain ⟨tau, clk, slots⟩ := same
    have takes : takeReport n .tau x = recomputeRange (testRefuel (x.tau.fuelAmount x.gdu.slots[n].value) x) :=
      if_pos (by rw [tau]; exact own)
    have tested := tests x tau clk
    rw [takes, slots, written_slot, tau]
    have ranged := recomputeRange_range_only (testRefuel (s.tau.fuelAmount v) x)
    rw [tested] at ranged
    exact ranged
  · obtain ⟨tau, clk, slots⟩ := same
    have still : (takeReport n c x).tau = x.tau := by
      by_cases gdu : c = .gdu
      · subst gdu
        exact (gduReport_only x n).tau_eq (by decide)
      · exact (takeReport_still x gdu ne).2
    exact ⟨still.trans tau, ((takeReport_only x n c) .clk (by decide)).trans clk, (takeReport_slots n c x).trans slots⟩
  · have still : (takeReport n c x).tau = x.tau := by
      by_cases gdu : c = .gdu
      · subst gdu
        exact (gduReport_only x n).tau_eq (by decide)
      · exact (takeReport_still x gdu ne).2
    rw [still]
    exact found

/-- The blocks but the TAU hand WARNING and CHIME notices alone. -/
theorem takeReport_notices {b : Block} (x : State) (ne : b ≠ .tau) :
    NoticesOnly NoticesOnly.warnBits x (takeReport n b x) := by
  cases b
  case tau => exact absurd rfl ne
  case gdu => exact .of_only (gduReport_only x n)
  case wtb =>
    unfold takeReport wtbSlot
    exact .wtbTake _ _ x
  case clc => exact .of_only (clcSlot_only x n)
  all_goals exact .refl x

/-- A refuel is told, with the reset of T2 (R47, R61). -/
theorem refuel_told (before after : Nat) (s : State) :
    (s.lkp.mask.getLsbD 8 = true → (refuel before after s).lkp.Told (.trip 2 .reset)) ∧
    (s.lkp.mask.getLsbD 7 = true → (refuel before after s).lkp.Told (.refuel before after)) := by
  have lkp : (refuel before after s).lkp = (s.lkp.takeNotice (.trip 2 .reset)).takeNotice (.refuel before after) := by
    unfold refuel
    rw [(gduRefuel_only _).lkp_eq (by decide)]
    rfl
  rw [lkp]
  refine ⟨fun on => ?_, fun on => Lkp.told_takeNotice (by rw [Lkp.takeNotice_mask]; exact on)⟩
  exact Lkp.Told.takeNotice (Lkp.told_takeNotice (n := .trip 2 .reset) on) fun key => nomatch congrArg Prod.fst key

theorem reportSlot_told {v : Int} {l : Nat} (own : s.tau.fuel.slot = some n) (stands : s.tau.roadLive = false)
    (level : s.tau.levelAtStop = some l) (full : l + s.tau.fuel.threshold ≤ s.tau.fuelAmount v) :
    (s.lkp.mask.getLsbD 8 = true → (reportSlot n v s).lkp.Told (.trip 2 .reset)) ∧
    (s.lkp.mask.getLsbD 7 = true → (reportSlot n v s).lkp.Told (.refuel l (s.tau.fuelAmount v))) := by
  refine hand_reaches (b := .tau)
    (before := fun x => x.tau = s.tau ∧ x.lkp.mask = s.lkp.mask ∧ x.gdu.slots = (written n v s).gdu.slots)
    (goal := fun x => (s.lkp.mask.getLsbD 8 = true → x.lkp.Told (.trip 2 .reset)) ∧
      (s.lkp.mask.getLsbD 7 = true → x.lkp.Told (.refuel l (s.tau.fuelAmount v))))
    (by decide) (fun _ _ same => same) (fun x same => ?_) (fun c x ne same => ?_) (fun c x ne told => ?_) ⟨rfl, rfl, rfl⟩
  · obtain ⟨tau, mask, slots⟩ := same
    have tested := testRefuel_full (s := x) (amount := s.tau.fuelAmount v) (by rw [tau]; exact stands) (by rw [tau]; exact level) (by rw [tau]; exact full)
    have takes : takeReport n .tau x = recomputeRange (testRefuel (x.tau.fuelAmount x.gdu.slots[n].value) x) :=
      if_pos (by rw [tau]; exact own)
    rw [slots, written_slot, tau] at takes
    rw [takes.trans (congrArg recomputeRange tested)]
    obtain ⟨trip, refuelled⟩ := refuel_told l (s.tau.fuelAmount v) x
    rw [mask] at trip refuelled
    have notices := NoticesOnly.recomputeRange ((refuel l (s.tau.fuelAmount v) x).modTau fun u =>
      { u with levelAtStop := some (s.tau.fuelAmount v) })
    exact ⟨fun on => notices.told (by simp [Notice.bit]) (trip on),
      fun on => notices.told (by simp [Notice.bit]) (refuelled on)⟩
  · obtain ⟨tau, mask, slots⟩ := same
    have still : (takeReport n c x).tau = x.tau := by
      by_cases gdu : c = .gdu
      · subst gdu
        exact (gduReport_only x n).tau_eq (by decide)
      · exact (takeReport_still x gdu ne).2
    exact ⟨still.trans tau, (takeReport_notices x ne).mask_eq.trans mask, (takeReport_slots n c x).trans slots⟩
  · have notices := takeReport_notices (n := n) x ne
    exact ⟨fun on => notices.told (by simp [Notice.bit]) (told.1 on),
      fun on => notices.told (by simp [Notice.bit]) (told.2 on)⟩

/-! ## The gauges at a refuel -/

/-- What a report and a refuel leave of a gauge, in whatever order they reach it. -/
structure GaugeSlack (x y : Gauge) : Prop where
  cfg : y.cfg = x.cfg
  present : y.present = x.present
  driven : x.Driven → y.Driven
  still : ¬ x.Driven → y.state = x.state ∧ y.target = x.target

/-- A gauge whose buffer the refuel has filled with a value (R39). -/
structure GaugeFilled (v : Int) (x y : Gauge) : Prop where
  slack : GaugeSlack x y
  buffer : y.buffer = List.replicate x.cfg.damping v
  tracks : x.Driven → y.state = .tracking ∧ y.target = tableLookup x.cfg.table v

theorem GaugeSlack.refl (x : Gauge) : GaugeSlack x x := ⟨rfl, rfl, id, fun _ => ⟨rfl, rfl⟩⟩

theorem GaugeSlack.fed {x y z : Gauge} {b : List Int} (h : GaugeSlack x y) (k : GaugeFed b y z) : GaugeSlack x z where
  cfg := k.cfg.trans h.cfg
  present := k.present.trans h.present
  driven driven := .inl (k.driven (h.driven driven)).1
  still still := by
    have same : ¬ y.Driven := by
      unfold Gauge.Driven
      rw [(h.still still).1]
      exact still
    rw [k.still same]
    exact h.still still

theorem GaugeSlack.filled {x y z : Gauge} {v : Int} (h : GaugeSlack x y) (deep : 1 ≤ x.cfg.damping)
    (k : GaugeFed (List.replicate x.cfg.damping v) y z) : GaugeFilled v x z := by
  refine ⟨h.fed k, k.buffer, fun driven => ?_⟩
  obtain ⟨state, target⟩ := k.driven (h.driven driven)
  rw [average_replicate deep, h.cfg] at target
  exact ⟨state, target⟩

section
variable {v : Int} {u : State} (holds : u.gdu.slots[n] = Slot.reported v s.gdu.slots[n]) {g : GaugeIx}
include holds

theorem gduReport_fed (source : u.gdu.gauges[g].cfg.source = .slot n) :
    GaugeFed (bufferPush u.gdu.gauges[g].cfg.damping u.gdu.gauges[g].buffer v) u.gdu.gauges[g]
      (gduReport n u).gdu.gauges[g] := by
  have value : u.gdu.slots[n].value = v := by rw [holds]; rfl
  have fed := u.gdu.withBuffers_fed (fun x => bufferPush x.cfg.damping x.buffer v) source (by rw [holds]; rfl)
    (by rw [bufferPush_eq]; exact List.append_ne_nil_of_right_ne_nil _ (by simp))
  rw [gduReport, State.modGdu_gdu, value]
  exact fed

theorem gduRefuel_fed (own : u.tau.fuel.slot = some n) (source : u.gdu.gauges[g].cfg.source = .slot n)
    (deep : 1 ≤ u.gdu.gauges[g].cfg.damping) :
    GaugeFed (List.replicate u.gdu.gauges[g].cfg.damping v) u.gdu.gauges[g] (gduRefuel u).gdu.gauges[g] := by
  have value : u.gdu.slots[n].value = v := by rw [holds]; rfl
  have fed := u.gdu.withBuffers_fed (fun x => List.replicate x.cfg.damping v) source (by rw [holds]; rfl)
    (by simp only [ne_eq, List.replicate_eq_nil_iff]; omega)
  unfold gduRefuel
  rw [own]
  dsimp only
  rw [State.modGdu_gdu, value]
  exact fed

end

theorem gduReport_other (u : State) {g : GaugeIx} (other : u.gdu.gauges[g].cfg.source ≠ .slot n) :
    (gduReport n u).gdu.gauges[g] = u.gdu.gauges[g] := u.gdu.withBuffers_other _ other

theorem gduRefuel_other {u : State} (own : u.tau.fuel.slot = some n) {g : GaugeIx}
    (other : u.gdu.gauges[g].cfg.source ≠ .slot n) : (gduRefuel u).gdu.gauges[g] = u.gdu.gauges[g] := by
  unfold gduRefuel
  rw [own]
  exact u.gdu.withBuffers_other _ other

/-- What stands of a gauge while a report that is a refuel is taken: filled once the TAU has had its turn. -/
def GaugeTaking (n : SlotIx) (v : Int) (refuelled : Prop) (x y : Gauge) : Prop :=
  (x.cfg.source ≠ .slot n → y = x) ∧ (x.cfg.source = .slot n → 1 ≤ x.cfg.damping → GaugeSlack x y ∧
    (refuelled → GaugeFilled v x y))

theorem GaugeTaking.report {v : Int} {refuelled : Prop} {u : State} (holds : u.gdu.slots[n] = Slot.reported v s.gdu.slots[n])
    {g : GaugeIx} {x : Gauge} (taking : GaugeTaking n v refuelled x u.gdu.gauges[g]) :
    GaugeTaking n v refuelled x (gduReport n u).gdu.gauges[g] := by
  obtain ⟨other, own⟩ := taking
  refine ⟨fun ne => ?_, fun source deep => ?_⟩
  · have same := other ne
    rw [gduReport_other u (by rw [same]; exact ne), same]
  · obtain ⟨slack, filled⟩ := own source deep
    have fed := gduReport_fed holds (g := g) (by rw [slack.cfg]; exact source)
    refine ⟨slack.fed fed, fun done => ?_⟩
    rw [(filled done).buffer, slack.cfg, bufferPush_replicate deep] at fed
    exact slack.filled deep fed

theorem GaugeTaking.refuel {v : Int} {u : State} (holds : u.gdu.slots[n] = Slot.reported v s.gdu.slots[n])
    (fuel : u.tau.fuel.slot = some n) {g : GaugeIx} {x : Gauge} (taking : GaugeTaking n v False x u.gdu.gauges[g]) :
    GaugeTaking n v True x (gduRefuel u).gdu.gauges[g] := by
  obtain ⟨other, own⟩ := taking
  refine ⟨fun ne => ?_, fun source deep => ?_⟩
  · have same := other ne
    rw [gduRefuel_other fuel (by rw [same]; exact ne), same]
  · obtain ⟨slack, -⟩ := own source deep
    have fed := gduRefuel_fed holds fuel (g := g) (by rw [slack.cfg]; exact source) (by rw [slack.cfg]; exact deep)
    rw [slack.cfg] at fed
    exact ⟨slack.fed fed, fun _ => slack.filled deep fed⟩

/-- The refuel of a report, at the gauges (R39). -/
theorem reportSlot_refuelled {v : Int} {l : Nat} (own : s.tau.fuel.slot = some n) (stands : s.tau.roadLive = false)
    (level : s.tau.levelAtStop = some l) (full : l + s.tau.fuel.threshold ≤ s.tau.fuelAmount v) (g : GaugeIx) :
    GaugeTaking n v True s.gdu.gauges[g] (reportSlot n v s).gdu.gauges[g] := by
  obtain ⟨done, all, walked⟩ := hand_walks (targets := [.gdu, .tau, .wtb, .clc]) (take := takeReport n) (s := written n v s)
    (P := fun done x => x.gdu.slots = (written n v s).gdu.slots ∧ (Block.tau ∉ done → x.tau = s.tau) ∧
      GaugeTaking n v (Block.tau ∈ done) s.gdu.gauges[g] x.gdu.gauges[g])
    ⟨rfl, fun _ => rfl, fun _ => rfl, fun _ _ => ⟨.refl _, nofun⟩⟩ fun done b x _ fresh ⟨slots, tau, taking⟩ => by
    have holds : x.gdu.slots[n] = Slot.reported v s.gdu.slots[n] := by rw [slots, written_slot]
    refine ⟨(takeReport_slots n b x).trans slots, ?_⟩
    by_cases second : b = .tau
    · subst second
      refine ⟨fun rest => absurd List.mem_cons_self rest, ?_⟩
      have same := tau fresh
      have takes : takeReport n .tau x = recomputeRange (testRefuel (x.tau.fuelAmount x.gdu.slots[n].value) x) :=
        if_pos (by rw [same]; exact own)
      have gdu : (takeReport n .tau x).gdu = (gduRefuel ((tripNotice 2 .reset (resetTrip 2 .auto x)).notify
          (.refuel l (s.tau.fuelAmount v)))).gdu := by
        rw [takes, (recomputeRange_only _).gdu_eq (by decide), holds, same]
        change (testRefuel (s.tau.fuelAmount v) x).gdu = _
        rw [testRefuel_full (by rw [same]; exact stands) (by rw [same]; exact level) (by rw [same]; exact full)]
        rfl
      rw [gdu, eq_true (List.mem_cons_self (a := Block.tau) (l := done))]
      rw [eq_false fresh] at taking
      exact GaugeTaking.refuel (u := (tripNotice 2 .reset (resetTrip 2 .auto x)).notify (.refuel l (s.tau.fuelAmount v)))
        holds ((congrArg (fun t => t.fuel.slot) same).trans own) taking
    · have others : (Block.tau ∈ b :: done) = (Block.tau ∈ done) :=
        propext ⟨fun mem => (List.mem_cons.mp mem).resolve_left (Ne.symm second), List.mem_cons_of_mem b⟩
      rw [others]
      by_cases first : b = .gdu
      · subst first
        exact ⟨fun rest => ((gduReport_only x n).tau_eq (by decide)).trans (tau rest), taking.report holds⟩
      · obtain ⟨gduSame, tauSame⟩ := takeReport_still (n := n) x first second
        rw [gduSame]
        exact ⟨fun rest => tauSame.trans (tau rest), taking⟩
  have result := walked.2.2
  rw [eq_true (all .tau (by decide))] at result
  exact result

end

end Sys2Proof.Machine
end

section
/-! SENSOR REPORT as the obligation states it (O33). -/

namespace Sys2Proof.Machine

-- One theorem at a time, so that a build as one text needs few threads.
set_option Elab.async false

section
variable {n : SlotIx} {v : Int} {s : State}

/-- The TAU where no test takes place (R61). -/
theorem reportSlot_tau_idle (own : s.tau.fuel.slot = some n) (idle : s.tau.roadLive = true ∨ s.tau.levelAtStop = none) :
    (reportSlot n v s).tau = { s.tau with range := (reportSlot n v s).tau.range } :=
  reportSlot_tau own fun x tau _ => by rw [testRefuel_idle (by rw [tau]; exact idle), tau]

/-- The TAU where the new level stands below the threshold (R61). -/
theorem reportSlot_tau_short {l : Nat} (own : s.tau.fuel.slot = some n) (stands : s.tau.roadLive = false)
    (level : s.tau.levelAtStop = some l) (short : s.tau.fuelAmount v < l + s.tau.fuel.threshold) :
    (reportSlot n v s).tau =
      { s.tau with range := (reportSlot n v s).tau.range, levelAtStop := some (s.tau.fuelAmount v) } :=
  reportSlot_tau (T := { s.tau with levelAtStop := some (s.tau.fuelAmount v) }) own fun x tau _ => by
    rw [testRefuel_short (by rw [tau]; exact stands) (by rw [tau]; exact level) (by rw [tau]; exact short),
      State.modTau_tau, tau]

/-- The TAU at a refuel (R47, R61). -/
theorem reportSlot_tau_full {l : Nat} (own : s.tau.fuel.slot = some n) (stands : s.tau.roadLive = false)
    (level : s.tau.levelAtStop = some l) (full : l + s.tau.fuel.threshold ≤ s.tau.fuelAmount v) :
    (reportSlot n v s).tau = { s.tau with
      range := (reportSlot n v s).tau.range, levelAtStop := some (s.tau.fuelAmount v)
      trips := s.tau.trips.set 2 (autoTrip s) } :=
  reportSlot_tau (T := { s.tau with
    levelAtStop := some (s.tau.fuelAmount v), trips := s.tau.trips.set 2 (autoTrip s) }) own fun x tau clk => by
    rw [testRefuel_full (by rw [tau]; exact stands) (by rw [tau]; exact level) (by rw [tau]; exact full),
      State.modTau_tau, refuel_tau, autoTrip, tau, clk]

/-- A gauge at a report that is no refuel (R31, R32). -/
theorem reportSlot_gauge (quiet : s.tau.fuel.slot = some n → s.tau.roadLive = true ∨ s.tau.levelAtStop = none ∨
    ∃ l, s.tau.levelAtStop = some l ∧ s.tau.fuelAmount v < l + s.tau.fuel.threshold) (g : GaugeIx) :
    (s.gdu.gauges[g].cfg.source ≠ .slot n → (reportSlot n v s).gdu.gauges[g] = s.gdu.gauges[g]) ∧
    (s.gdu.gauges[g].cfg.source = .slot n → GaugeFed
      ((if s.gdu.gauges[g].buffer.length < s.gdu.gauges[g].cfg.damping then s.gdu.gauges[g].buffer
        else s.gdu.gauges[g].buffer.tail) ++ [v]) s.gdu.gauges[g] (reportSlot n v s).gdu.gauges[g]) := by
  rw [reportSlot_gdu quiet]
  refine ⟨gduReport_other (written n v s), fun source => ?_⟩
  have fed := gduReport_fed (u := written n v s) (written_slot n v s) source
  rw [bufferPush_eq] at fed
  exact fed

end

/-- Settles O33: the pairs of a SENSOR REPORT are reports in order; the WTB and the CLC copy each, the gauges take it into
their buffers, and one to the fuel slot is tested for a refuel. -/
theorem reportsReachSlots : Obligations.ReportsReachSlots := by
  unfold Obligations.ReportsReachSlots
  refine ⟨fun tag body s serves low high whole k inside out => exec_sensorReport_range serves low high whole inside out,
    fun tag pairs s one few serves => ?_, fun tag n hi lo s serves own => ?_, fun tag n hi lo s serves quiet => ?_⟩
  · refine ⟨_, exec_sensorReport_pairs one few serves, ((takeRequest_only s).mono (by decide)).trans (reportAll_only _ _),
      ?_, fun p mem => ?_⟩
    · rw [reportAll_slots, takeRequest_gdu, pairValues, List.foldl_map]
      rfl
    · obtain ⟨-, state, value, marked⟩ := reportAll_reported (s := takeRequest s) (List.mem_map_of_mem mem)
      exact ⟨state, value, marked⟩
  · intro v amount
    have fuel : (takeRequest s).tau.fuel.slot = some n := own
    refine ⟨_, exec_sensorReport_one serves, reportSlot_tau_idle fuel, fun l stands level =>
      ⟨reportSlot_tau_short fuel stands level, fun full => ?_⟩⟩
    obtain ⟨trip, refuelled⟩ := reportSlot_told (s := takeRequest s) fuel stands level full
    have tau := reportSlot_tau_full (s := takeRequest s) fuel stands level full
    rw [autoTrip, clk_startDate] at tau
    refine ⟨tau, trip, refuelled, fun g => ?_⟩
    obtain ⟨other, taken⟩ := reportSlot_refuelled (s := takeRequest s) fuel stands level full g
    refine ⟨other, fun source deep => ?_⟩
    obtain ⟨slack, filled⟩ := taken source deep
    exact ⟨(filled trivial).buffer, slack.present, (filled trivial).tracks, slack.still⟩
  · refine ⟨_, exec_sensorReport_one serves, fun g => ?_⟩
    rw [answered_gdu]
    obtain ⟨other, fed⟩ := reportSlot_gauge (s := takeRequest s) (v := s16 [hi, lo] 0) quiet g
    exact ⟨other, fun source => ⟨(fed source).buffer, (fed source).present⟩, fun source => (fed source).driven,
      fun source => (fed source).still⟩

end Sys2Proof.Machine
end

section
/-! The channels of a window expiry, one after another: what has become of the PCU, the gauges, the TAU and the Coach Line
while some channels have closed (R4, R5, R6, R15, R31, R60). -/

namespace Sys2Proof.Machine

-- One theorem at a time, so that a build as one text needs few threads.
set_option Elab.async false

/-! ## One channel -/

theorem closeChannel_frame (at10us : Nat) (ch : ChannelIx) (s : State) :
    ∃ f, closeChannel at10us ch s = changeChannel ch (Channel.close s.pcu.cal.window f) s := ⟨_, rfl⟩

/-- CH0 or CH4 has left LIVE (R15). -/
def LeftLive (p q : Pcu) : Prop :=
  ∃ ch : ChannelIx, (ch = 0 ∨ ch = 4) ∧ p.channels[ch].state = .live ∧ q.channels[ch].state ≠ .live

/-- The PCU while some of its channels have closed their windows. -/
structure PcuClosing (done : List ChannelIx) (p q : Pcu) : Prop where
  closed : ∀ ch ∈ done, ∃ f, q.channels[ch] = p.channels[ch].close p.cal.window f
  waits : ∀ ch, ch ∉ done → q.channels[ch] = p.channels[ch]
  frame : { q with channels := p.channels, disagree := p.disagree, cross := p.cross } = p
  left : LeftLive p q → q.disagree = false ∧ q.cross = { p.cross with disagreeing := 0, agreeing := 0 }
  stayed : ¬ LeftLive p q → q.disagree = p.disagree ∧ q.cross = p.cross

section
variable {done : List ChannelIx} {p q r : Pcu} {ch : ChannelIx} {f : Nat}

theorem PcuClosing.refl (p : Pcu) : PcuClosing [] p p :=
  ⟨fun _ mem => absurd mem List.not_mem_nil, fun _ _ => rfl, rfl,
    fun ⟨_, _, live, down⟩ => absurd live down, fun _ => ⟨rfl, rfl⟩⟩

theorem PcuClosing.next (h : PcuClosing done p q) (fresh : ch ∉ done)
    (k : q.ChangesChannel ch (Channel.close q.cal.window f) r) : PcuClosing (ch :: done) p r := by
  have cal : q.cal = p.cal := (congrArg Pcu.cal h.frame :)
  have before := h.waits ch fresh
  have own : r.channels[ch] = p.channels[ch].close p.cal.window f := by
    rw [k.channels, updAt_get_same, before, cal]
  have other (c : ChannelIx) (ne : c ≠ ch) : r.channels[c] = q.channels[c] := by
    rw [k.channels, updAt_get_other _ _ _ _ (Ne.symm ne)]
  have frame : { r with channels := p.channels, disagree := p.disagree, cross := p.cross } = p :=
    (congrArg (fun x : Pcu => { x with channels := p.channels, disagree := p.disagree, cross := p.cross }) k.frame).trans
      h.frame
  have cases (left : LeftLive p r) : LeftLive p q ∨ q.LeavesLive ch (Channel.close q.cal.window f) := by
    obtain ⟨c, pair, live, down⟩ := left
    by_cases same : c = ch
    · subst same
      refine .inr ⟨by rw [before]; exact live, ?_, pair⟩
      rw [own, ← before, ← cal] at down
      exact down
    · exact .inl ⟨c, pair, live, by rw [← other c same]; exact down⟩
  have again : LeftLive p q → LeftLive p r := by
    rintro ⟨c, pair, live, down⟩
    have ne : c ≠ ch := fun same => down (by rw [same, before, ← same]; exact live)
    exact ⟨c, pair, live, by rw [other c ne]; exact down⟩
  have leaves : q.LeavesLive ch (Channel.close q.cal.window f) → LeftLive p r := fun ⟨live, down, pair⟩ =>
    ⟨ch, pair, by rw [← before]; exact live, by rw [own, ← before, ← cal]; exact down⟩
  refine ⟨fun c mem => ?_, fun c rest => ?_, frame, fun left => ?_, fun stayed => ?_⟩
  · by_cases same : c = ch
    · subst same
      exact ⟨f, own⟩
    · obtain ⟨g, closed⟩ := h.closed c ((List.mem_cons.mp mem).resolve_left same)
      exact ⟨g, (other c same).trans closed⟩
  · obtain ⟨ne, undone⟩ := List.ne_and_not_mem_of_not_mem_cons rest
    exact (other c ne).trans (h.waits c undone)
  · by_cases now : q.LeavesLive ch (Channel.close q.cal.window f)
    · obtain ⟨clear, cross⟩ := k.leaves now
      refine ⟨clear, cross.trans ?_⟩
      by_cases was : LeftLive p q
      · rw [(h.left was).2]
      · rw [(h.stayed was).2]
    · obtain ⟨clear, cross⟩ := k.stays now
      obtain ⟨cleared, crossed⟩ := h.left ((cases left).resolve_right now)
      exact ⟨clear.trans cleared, cross.trans crossed⟩
  · obtain ⟨clear, cross⟩ := k.stays fun now => stayed (leaves now)
    obtain ⟨cleared, crossed⟩ := h.stayed fun was => stayed (again was)
    exact ⟨clear.trans cleared, cross.trans crossed⟩

end

/-! ## The gauges -/

/-- The channel sources of a gauge (Table 16). -/
def GaugeSource.OnChannel (src : GaugeSource) : Prop :=
  src = .roadSpeed ∨ src = .engineSpeed ∨ src = .checkSpeed ∨ src = .generalFreq

/-- A gauge that its channel may have called already, and that the window result will call (R31). -/
structure GaugePending (x y : Gauge) : Prop where
  kept : { y with state := x.state, phase := x.phase, target := x.target, homingLeft := x.homingLeft } = x
  driven : x.cfg.source.OnChannel → x.Driven → y.Driven
  still : ¬ (x.cfg.source.OnChannel ∧ x.Driven) → y = x

section
variable {x y z : Gauge}

theorem GaugePending.refl (x : Gauge) : GaugePending x x := ⟨rfl, fun _ => id, fun _ => rfl⟩

theorem Gdu.goCalled_called (d : Gdu) (x : Gauge) : (d.goCalled x).Driven ∧
    { d.goCalled x with state := x.state, phase := x.phase, target := x.target, homingLeft := x.homingLeft } = x := by
  unfold Gdu.goCalled
  dsimp only
  split
  · exact ⟨.inr (.inl rfl), rfl⟩
  · exact ⟨.inr (.inr rfl), rfl⟩
  · exact ⟨.inl rfl, rfl⟩

theorem GaugePending.called (h : GaugePending x y) (on : x.cfg.source.OnChannel) (driven : y.Driven) (d : Gdu) :
    GaugePending x (d.goCalled y) := by
  obtain ⟨follows, kept⟩ := d.goCalled_called y
  refine ⟨?_, fun _ _ => follows, fun still => ?_⟩
  · exact (congrArg (fun y : Gauge => { y with
      state := x.state, phase := x.phase, target := x.target, homingLeft := x.homingLeft }) kept).trans h.kept
  · have same := h.still still
    subst same
    exact absurd ⟨on, driven⟩ still

theorem concerned_isSome_iff (v : GaugeView) (src : GaugeSource) : (v.concerned src).isSome = true ↔ src.OnChannel := by
  cases src <;> simp [GaugeView.concerned, GaugeSource.OnChannel]

/-- A channel source reads neither the needle's state nor its target. -/
theorem GaugePending.goCalled (h : GaugePending x y) (on : x.cfg.source.OnChannel) (d : Gdu) :
    d.goCalled y = d.goCalled x := by
  have cfg : y.cfg = x.cfg := (congrArg Gauge.cfg h.kept :)
  have called (v : Nat) (c : ChannelIx) (concerned : d.view.concerned x.cfg.source = some c)
      (angle : ∀ z : Gauge, z.cfg = x.cfg → d.sourceAngle z = some (tableLookup z.cfg.table v)) :
      d.goCalled y = d.goCalled x := by
    rw [d.goCalled_of_channel y (by rw [cfg]; exact concerned) (angle y cfg),
      d.goCalled_of_channel x concerned (angle x rfl)]
    obtain ⟨present, buffer⟩ : y.present = x.present ∧ y.buffer = x.buffer :=
      ⟨(congrArg Gauge.present h.kept :), (congrArg Gauge.buffer h.kept :)⟩
    split_ifs
    · rw [cfg, present, buffer]
    · rw [cfg, present, buffer]
  have angle (v : Nat) (src : GaugeSource) (source : x.cfg.source = src)
      (gives : ∀ z : Gauge, z.cfg.source = src → d.sourceAngle z = some (tableLookup z.cfg.table v)) :
      ∀ z : Gauge, z.cfg = x.cfg → d.sourceAngle z = some (tableLookup z.cfg.table v) := fun z same =>
    gives z (by rw [same]; exact source)
  rcases on with source | source | source | source
  · refine called d.view.roadSpeed _ (by rw [source]; rfl) (angle _ _ source fun z is => ?_)
    unfold Gdu.sourceAngle
    rw [is]
  · refine called d.view.engineSpeed _ (by rw [source]; rfl) (angle _ _ source fun z is => ?_)
    unfold Gdu.sourceAngle
    rw [is]
  · refine called d.view.checkSpeed _ (by rw [source]; rfl) (angle _ _ source fun z is => ?_)
    unfold Gdu.sourceAngle
    rw [is]
  · refine called d.view.generalFreq _ (by rw [source]; rfl) (angle _ _ source fun z is => ?_)
    unfold Gdu.sourceAngle
    rw [is]

end

/-- The GDU while channels close. -/
structure GduClosing (s u : State) : Prop where
  frame : { u.gdu with view := s.gdu.view, gauges := s.gdu.gauges } = s.gdu
  copies : ∀ ch : ChannelIx, u.gdu.view.channels[ch] = if u.pcu.channels[ch].state = s.pcu.channels[ch].state
    then s.gdu.view.channels[ch] else u.pcu.channels[ch].state
  gauges : ∀ g : GaugeIx, GaugePending s.gdu.gauges[g] u.gdu.gauges[g]

section
variable {s u : State} {ch : ChannelIx} {f : Channel → Channel}

theorem GduClosing.next (h : GduClosing s u) (before : u.pcu.channels[ch] = s.pcu.channels[ch]) :
    GduClosing s (changeChannel ch f u) := by
  have channels := changeChannel_channels ch f u
  by_cases changed : (f u.pcu.channels[ch]).state = u.pcu.channels[ch].state
  · have gdu : (changeChannel ch f u).gdu = u.gdu := by
      rw [changeChannel_of_same changed]
      rfl
    refine ⟨by rw [gdu]; exact h.frame, fun c => ?_, fun g => by rw [gdu]; exact h.gauges g⟩
    have state : (changeChannel ch f u).pcu.channels[c].state = u.pcu.channels[c].state := by
      rw [channels, updAt_get]
      split_ifs with same
      · subst same
        exact changed
      · rfl
    rw [gdu, state]
    exact h.copies c
  · have gdu := changeChannel_gdu changed
    refine ⟨by rw [gdu]; exact h.frame, fun c => ?_, fun g => ?_⟩
    · rw [gdu, channels, updAt_get]
      change (u.gdu.view.channels.set ch _)[c] = _
      rw [set_get]
      by_cases same : ch = c
      · subst same
        rw [if_pos rfl, if_pos rfl, if_neg (by rw [← before]; exact changed)]
      · rw [if_neg same, if_neg same]
        exact h.copies c
    · rw [gdu, gduChannel_gauge]
      split_ifs with called
      · obtain ⟨concerned, driven⟩ := called
        have cfg : u.gdu.gauges[g].cfg = s.gdu.gauges[g].cfg := (congrArg Gauge.cfg (h.gauges g).kept :)
        have on := (concerned_isSome_iff u.gdu.view u.gdu.gauges[g].cfg.source).mp (by rw [concerned]; rfl)
        rw [cfg] at on
        exact (h.gauges g).called on driven _
      · exact h.gauges g

end

/-! ## The TAU -/

/-- The channel that is the road source in `s` is LIVE in `u`. -/
abbrev SourceLive (s u : State) : Prop := u.pcu.channels[s.pcu.roadSource.channel].state = .live

/-- The TAU while channels close: where its copy of road source LIVE was in step it is so, and the fall of the road source
has taken the level-at-stop (R60). -/
structure TauClosing (s u : State) : Prop where
  frame : { u.tau with
    engineRunning := s.tau.engineRunning, roadLive := s.tau.roadLive, levelAtStop := s.tau.levelAtStop } = s.tau
  live : (s.tau.roadLive = true ↔ SourceLive s s) → (u.tau.roadLive = true ↔ SourceLive s u)
  level : (s.tau.roadLive = true ↔ SourceLive s s) → u.tau.levelAtStop =
    if SourceLive s s ∧ ¬ SourceLive s u then s.freshLevel else s.tau.levelAtStop

section
variable {s u : State} {ch : ChannelIx} {f : Channel → Channel}

theorem roadLive_iff {r : RoadSource} (source : u.pcu.roadSource = r) :
    u.pcu.roadLive = true ↔ u.pcu.channels[r.channel].state = .live := by
  subst source
  exact decide_eq_true_iff

theorem TauClosing.refl (s : State) : TauClosing s s :=
  ⟨rfl, id, fun _ => (if_neg fun both => both.2 both.1).symm⟩

theorem TauClosing.freshLevel_eq (h : TauClosing s u) (slots : u.gdu.slots = s.gdu.slots) : u.freshLevel = s.freshLevel := by
  have fuel : u.tau.fuel = s.tau.fuel := (congrArg Tau.fuel h.frame :)
  unfold State.freshLevel freshFuelValue Tau.fuelAmount
  rw [fuel, slots]

theorem TauClosing.next (h : TauClosing s u) (before : u.pcu.channels[ch] = s.pcu.channels[ch])
    (source : u.pcu.roadSource = s.pcu.roadSource) (slots : u.gdu.slots = s.gdu.slots) :
    TauClosing s (changeChannel ch f u) := by
  have channels := changeChannel_channels ch f u
  by_cases changed : (f u.pcu.channels[ch]).state = u.pcu.channels[ch].state
  · have tau : (changeChannel ch f u).tau = u.tau := by
      rw [changeChannel_of_same changed]
      rfl
    have still : SourceLive s (changeChannel ch f u) ↔ SourceLive s u := by
      unfold SourceLive
      rw [channels, updAt_get]
      split_ifs with same
      · subst same
        rw [changed]
      · rfl
    refine ⟨by rw [tau]; exact h.frame, fun copy => ?_, fun copy => ?_⟩
    · rw [tau, still]
      exact h.live copy
    · rw [tau, h.level copy]
      simp only [still]
  · have tau := changeChannel_tau changed
    rw [channelRecorded_roadLive, h.freshLevel_eq slots, source] at tau
    have now : SourceLive s (changeChannel ch f u) ↔
        (if ch = s.pcu.roadSource.channel then decide ((f u.pcu.channels[ch]).state = .live) else u.pcu.roadLive) = true := by
      unfold SourceLive
      rw [channels, updAt_get]
      split_ifs with same
      · exact decide_eq_true_iff.symm
      · exact (roadLive_iff source).symm
    generalize (if ch = s.pcu.roadSource.channel then decide ((f u.pcu.channels[ch]).state = .live) else u.pcu.roadLive) =
      road at tau now
    refine ⟨?_, fun copy => ?_, fun copy => ?_⟩
    · rw [tau]
      exact h.frame
    · rw [tau]
      exact now.symm
    · have live := h.live copy
      have level := h.level copy
      rw [tau]
      change (if u.tau.roadLive = true ∧ road = false then s.freshLevel else u.tau.levelAtStop) = _
      rw [level]
      by_cases own : ch = s.pcu.roadSource.channel
      · have here (c : ChannelIx) (same : ch = c) : u.pcu.channels[c] = s.pcu.channels[c] := by
          rw [← same]
          exact before
        have first : SourceLive s u ↔ SourceLive s s := by
          unfold SourceLive
          rw [here _ own]
        have off : road = false ↔ ¬ SourceLive s (changeChannel ch f u) := by rw [now, Bool.not_eq_true]
        have unfallen : ¬ (SourceLive s s ∧ ¬ SourceLive s u) := fun gone => gone.2 (first.mpr gone.1)
        rw [if_neg unfallen]
        exact if_congr (and_congr (live.trans first) off) rfl rfl
      · have same : SourceLive s (changeChannel ch f u) ↔ SourceLive s u := by
          unfold SourceLive
          rw [channels, updAt_get, if_neg own]
        have off : road = false ↔ ¬ SourceLive s u := by rw [← same, now, Bool.not_eq_true]
        rw [if_neg fun both => off.mp both.2 (live.mp both.1)]
        simp only [same]

end

/-! ## The Coach Line -/

/-- The line and its nodes stand as they did. -/
def NodesKept (s t : State) : Prop := t.clc.line = s.clc.line ∧ t.clc.nodes = s.clc.nodes

section
variable {s t u : State}

theorem NodesKept.refl (s : State) : NodesKept s s := ⟨rfl, rfl⟩

theorem NodesKept.trans (h : NodesKept s t) (k : NodesKept t u) : NodesKept s u := ⟨k.1.trans h.1, k.2.trans h.2⟩

theorem MarksOnly.nodesKept (h : MarksOnly s t) : NodesKept s t := ⟨h.line_eq, h.nodes_eq⟩

theorem NodesKept.hand {targets : List Block} {take : Block → State → State} (takes : ∀ b s, NodesKept s (take b s))
    (s : State) : NodesKept s (Machine.hand targets take s) :=
  List.foldlRecOn (motive := NodesKept s) _ _ (.refl s) fun t kept b _ => kept.trans (takes b t)

theorem clcRoadLive_nodesKept (b : Bool) (s : State) : NodesKept s (clcRoadLive b s) := by
  unfold clcRoadLive
  split_ifs
  · exact .refl s
  · exact NodesKept.trans (t := s.modClc fun c => { c with roadLive := b }) ⟨rfl, rfl⟩ (MarksOnly.mark _ _).nodesKept

theorem changeChannel_nodesKept (ch : ChannelIx) (f : Channel → Channel) (s : State) : NodesKept s (changeChannel ch f s) := by
  by_cases changed : (f s.pcu.channels[ch]).state = s.pcu.channels[ch].state
  · rw [changeChannel_of_same changed]
    exact ⟨rfl, rfl⟩
  · rw [changeChannel_of_changed changed]
    refine (channelRecorded_marks ch f s).nodesKept.trans (.hand (fun b u => ?_) _)
    by_cases coach : b = .clc
    · subst coach
      exact clcRoadLive_nodesKept _ u
    · exact (takeChannel_marks ch u _ _ _ coach).nodesKept

end

/-! ## All channels -/

/-- What has become of a state some of whose channels have closed their windows. -/
structure WindowClosing (done : List ChannelIx) (s u : State) : Prop where
  pcu : PcuClosing done s.pcu u.pcu
  gdu : GduClosing s u
  tau : TauClosing s u
  coach : NodesKept s u

theorem WindowClosing.refl (s : State) : WindowClosing [] s s :=
  ⟨.refl s.pcu, ⟨rfl, fun _ => (if_pos rfl).symm, fun _ => .refl _⟩, .refl s, .refl s⟩

theorem closeWindow_closing (at10us : Nat) (s : State) :
    ∃ done, (∀ ch, ch ∈ done) ∧ WindowClosing done s (closeWindow at10us s) := by
  rw [closeWindow_eq]
  obtain ⟨done, all, closed⟩ := foldl_walks (f := fun u ch => closeChannel at10us ch u) (P := fun done => WindowClosing done s)
    (List.nodup_finRange 6) (WindowClosing.refl s) fun done ch u _ fresh h => by
    obtain ⟨f, closes⟩ := closeChannel_frame at10us ch u
    have before := h.pcu.waits ch fresh
    have source : u.pcu.roadSource = s.pcu.roadSource := (congrArg Pcu.roadSource h.pcu.frame :)
    have slots : u.gdu.slots = s.gdu.slots := (congrArg Gdu.slots h.gdu.frame :)
    rw [closes]
    exact ⟨h.pcu.next fresh (changeChannel_changes ch _ u), h.gdu.next before, h.tau.next before source slots,
      h.coach.trans (changeChannel_nodesKept ch _ u)⟩
  exact ⟨done, fun ch => all ch (List.mem_finRange ch), closed⟩

end Sys2Proof.Machine
end

section
/-! The tests of a window expiry and its result at the blocks (R10, R11, R12, R15, R16, R31, R52, R60). -/

namespace Sys2Proof.Machine

-- One theorem at a time, so that a build as one text needs few threads.
set_option Elab.async false

/-! ## The disagreement test -/

/-- The PCU after the disagreement test of a window (R15). -/
def Pcu.disagreeTested (p : Pcu) : Pcu :=
  if p.bothLive = true then
    if p.speedsAgree = true then
      { p with
        cross := { p.cross with disagreeing := 0, agreeing := min (p.cross.agreeing + 1) 3 }
        disagree := if 3 ≤ p.cross.agreeing + 1 then false else p.disagree }
    else
      { p with
        cross := { p.cross with agreeing := 0, disagreeing := min (p.cross.disagreeing + 1) 3 }
        disagree := if 3 ≤ p.cross.disagreeing + 1 then true else p.disagree }
  else { p with cross := { p.cross with disagreeing := 0, agreeing := 0 } }

theorem disagreeTest_pcu (s : State) : (disagreeTest s).pcu = s.pcu.disagreeTested := by
  have decided (u : State) (k : Nat) (b : Bool) : (if countUp 3 k = 3 then setDisagree b u else u).pcu =
      { u.pcu with disagree := if 3 ≤ k + 1 then b else u.pcu.disagree } := by
    have full : countUp 3 k = 3 ↔ 3 ≤ k + 1 := by
      unfold countUp
      omega
    by_cases three : 3 ≤ k + 1
    · rw [if_pos (full.mpr three), if_pos three, setDisagree_pcu]
    · rw [if_neg (mt full.mp three), if_neg three]
  unfold disagreeTest Pcu.disagreeTested
  dsimp only
  by_cases both : s.pcu.bothLive = true
  · rw [if_neg (by simp [both]), if_pos both]
    by_cases agree : s.pcu.speedsAgree = true
    · rw [if_pos agree, if_pos agree]
      exact decided _ _ _
    · rw [if_neg agree, if_neg agree]
      exact decided _ _ _
  · rw [if_pos (by simp [both]), if_neg both]
    rfl

theorem Pcu.disagreeTested_frame (p : Pcu) : { p.disagreeTested with disagree := p.disagree, cross := p.cross } = p := by
  unfold Pcu.disagreeTested
  split_ifs <;> rfl

theorem Pcu.disagreeTested_source (p : Pcu) : p.disagreeTested.cross.fallback = p.cross.fallback ∧
    p.disagreeTested.cross.returning = p.cross.returning := by
  unfold Pcu.disagreeTested
  split_ifs <;> exact ⟨rfl, rfl⟩

theorem disagreeTest_nodesKept (s : State) : NodesKept s (disagreeTest s) := by
  have counted (u : State) (f : Pcu → Pcu) : NodesKept u (u.modPcu f) := ⟨rfl, rfl⟩
  unfold disagreeTest
  dsimp only
  split_ifs
  · exact counted s _
  · exact (counted s _).trans (MarksOnly.setDisagree _ _).nodesKept
  · exact counted s _
  · exact (counted s _).trans (MarksOnly.setDisagree _ _).nodesKept
  · exact counted s _

/-! ## The source test -/

section
variable {p : Pcu}

theorem Pcu.speedsAgree_iff (p : Pcu) :
    p.speedsAgree = true ↔ max p.speed0 p.speed4 - min p.speed0 p.speed4 ≤ p.speed0 / 8 := decide_eq_true_iff

theorem Pcu.fallbackWindow_iff (p : Pcu) : p.fallbackWindow = true ↔
    ¬ p.channels[0].state = .live ∧ p.channels[4].state = .live ∧ 50 < p.speed4 := by
  simp [Pcu.fallbackWindow, and_assoc]

theorem Pcu.returnWindow_iff (p : Pcu) : p.returnWindow = true ↔ p.channels[0].state = .live ∧
    (¬ p.channels[4].state = .live ∨ max p.speed0 p.speed4 - min p.speed0 p.speed4 ≤ p.speed0 / 8) := by
  rw [← p.speedsAgree_iff]
  simp [Pcu.returnWindow]

/-- The source test while CH0 is the road source (R16). -/
theorem Pcu.sourceTest_ch0 (source : p.roadSource = .ch0) : p.sourceTest =
    if p.fallbackWindow = true then
      if p.cross.fallback + 1 < 3 then { p with cross := { p.cross with fallback := p.cross.fallback + 1 } }
      else { p with roadSource := .ch4, cross := { p.cross with fallback := 0, returning := 0 } }
    else { p with cross := { p.cross with fallback := 0 } } := by
  unfold Pcu.sourceTest
  rw [source]
  dsimp only
  by_cases window : p.fallbackWindow = true
  · rw [if_neg (by simp [window]), if_pos window]
  · rw [if_pos (by simp [window]), if_neg window]

/-- The source test while CH4 is the road source (R16). -/
theorem Pcu.sourceTest_ch4 (source : p.roadSource = .ch4) : p.sourceTest =
    if p.returnWindow = true then
      if p.cross.returning + 1 < 3 then { p with cross := { p.cross with returning := p.cross.returning + 1 } }
      else { p with roadSource := .ch0, cross := { p.cross with fallback := 0, returning := 0 } }
    else { p with cross := { p.cross with returning := 0 } } := by
  unfold Pcu.sourceTest
  rw [source]
  dsimp only
  by_cases window : p.returnWindow = true
  · rw [if_neg (by simp [window]), if_pos window]
  · rw [if_pos (by simp [window]), if_neg window]

theorem Pcu.sourceTest_frame (p : Pcu) : { p.sourceTest with roadSource := p.roadSource, cross := p.cross } = p := by
  unfold Pcu.sourceTest
  split <;> split_ifs <;> rfl

theorem Pcu.sourceTest_counts (p : Pcu) : p.sourceTest.cross.disagreeing = p.cross.disagreeing ∧
    p.sourceTest.cross.agreeing = p.cross.agreeing := by
  unfold Pcu.sourceTest
  split <;> split_ifs <;> exact ⟨rfl, rfl⟩

/-- A source that passes is LIVE (R16). -/
theorem Pcu.sourceTest_roadLive (p : Pcu) : p.sourceTest.roadLive = p.roadLive ∨ p.sourceTest.roadLive = true := by
  cases source : p.roadSource with
  | ch0 =>
    rw [Pcu.sourceTest_ch0 source]
    split_ifs with window
    · exact .inl rfl
    · exact .inr (decide_eq_true (p.fallbackWindow_iff.mp window).2.1)
    · exact .inl rfl
  | ch4 =>
    rw [Pcu.sourceTest_ch4 source]
    split_ifs with window
    · exact .inl rfl
    · exact .inr (decide_eq_true (p.returnWindow_iff.mp window).1)
    · exact .inl rfl

end

/-! ## Road source LIVE handed with the source alone -/

section
variable {s : State}

theorem tauRoadLive_tau (road : Bool) (s : State) : (tauRoadLive road s).tau = { s.tau with
    roadLive := road
    levelAtStop := if s.tau.roadLive = true ∧ ¬ road = true then s.freshLevel else s.tau.levelAtStop } := by
  unfold tauRoadLive
  dsimp only
  split_ifs <;> rfl

theorem hand_takeRoadLive_tau (road : Bool) (u : State) :
    (hand [.wtb, .tau, .svs, .clc] (takeRoadLive road) u).tau = (tauRoadLive road u).tau := by
  have kept (c : Block) (x : State) (ne : c ≠ .tau) : (takeRoadLive road c x).tau = x.tau := by
    refine (takeRoadLive_parts x road c).tau_eq ?_
    cases c
    case tau => exact absurd rfl ne
    all_goals decide
  have gdu (c : Block) (x : State) : (takeRoadLive road c x).gdu = x.gdu := (takeRoadLive_only x road c).gdu_eq (by decide)
  refine hand_reaches (b := .tau) (before := fun x => x.tau = u.tau ∧ x.gdu = u.gdu)
    (goal := fun x => x.tau = (tauRoadLive road u).tau) (by decide) (fun _ _ same => same) (fun x same => ?_)
    (fun c x ne same => ⟨(kept c x ne).trans same.1, (gdu c x).trans same.2⟩) (fun c x ne same => (kept c x ne).trans same)
    ⟨rfl, rfl⟩
  obtain ⟨tau, slots⟩ := same
  have level : x.freshLevel = u.freshLevel := by
    unfold State.freshLevel freshFuelValue
    rw [tau, slots]
  change (tauRoadLive road x).tau = _
  rw [tauRoadLive_tau, tauRoadLive_tau, tau, level]

theorem moveSource_tau_frame (s : State) :
    { (moveSource s).tau with roadLive := s.tau.roadLive, levelAtStop := s.tau.levelAtStop } = s.tau := by
  unfold moveSource
  dsimp only
  split_ifs
  · rfl
  · rw [hand_takeRoadLive_tau, tauRoadLive_tau]
    rfl

/-- The source's passing takes no level-at-stop (R16, R60). -/
theorem moveSource_tau (copy : s.tau.roadLive = true ↔ s.pcu.roadLive = true) :
    (moveSource s).tau = { s.tau with roadLive := s.pcu.sourceTest.roadLive } := by
  have same : s.tau.roadLive = s.pcu.roadLive := Bool.eq_iff_iff.mpr copy
  unfold moveSource
  dsimp only
  split_ifs with still
  · change s.pcu.sourceTest.roadLive = _ at still
    rw [still, ← same]
    rfl
  · change ¬ s.pcu.sourceTest.roadLive = _ at still
    have live := s.pcu.sourceTest_roadLive.resolve_left still
    rw [hand_takeRoadLive_tau, tauRoadLive_tau]
    have stands : ¬ ((s.modPcu Pcu.sourceTest).tau.roadLive = true ∧
        ¬ (s.modPcu Pcu.sourceTest).pcu.roadLive = true) := fun falls => falls.2 live
    rw [if_neg stands]
    rfl

theorem moveSource_nodesKept (s : State) : NodesKept s (moveSource s) := by
  have moved : NodesKept s (s.modPcu Pcu.sourceTest) := ⟨rfl, rfl⟩
  unfold moveSource
  dsimp only
  split_ifs
  · exact moved
  · refine moved.trans (.hand (fun b u => ?_) _)
    cases b
    case clc => exact clcRoadLive_nodesKept _ u
    case wtb =>
      unfold takeRoadLive wtbRoadLive
      exact (MarksOnly.wtbTake _ _ u).nodesKept
    all_goals exact (MarksOnly.of_only (takeRoadLive_parts u _ _)).nodesKept

end

/-! ## The window result at the blocks -/

/-- The blocks that take a window result (R12). -/
abbrev windowTakers : List Block := [.gdu, .wtb, .tau, .clc]

section
variable (snap : Snapshot) (u : State)

theorem hand_takeWindow_gdu : (hand windowTakers (takeWindow snap) u).gdu = (gduWindow snap u).gdu := by
  have kept (c : Block) (x : State) (ne : c ≠ .gdu) : (takeWindow snap c x).gdu = x.gdu := by
    refine (takeWindow_parts x snap c).gdu_eq ?_
    cases c
    case gdu => exact absurd rfl ne
    all_goals decide
  refine hand_reaches (b := .gdu) (before := fun x => x.gdu = u.gdu) (goal := fun x => x.gdu = (gduWindow snap u).gdu)
    (by decide) (fun _ _ same => same) (fun x same => ?_) (fun c x ne same => (kept c x ne).trans same)
    (fun c x ne same => (kept c x ne).trans same) rfl
  change (gduWindow snap x).gdu = _
  rw [gduWindow, State.modGdu_gdu, same]
  rfl

theorem hand_takeWindow_tau :
    (hand windowTakers (takeWindow snap) u).tau = (tauWindow snap.roadSpeed u).tau := by
  have kept (c : Block) (x : State) (ne : c ≠ .tau) : (takeWindow snap c x).tau = x.tau := by
    refine (takeWindow_parts x snap c).tau_eq ?_
    cases c
    case tau => exact absurd rfl ne
    all_goals decide
  refine hand_reaches (b := .tau) (before := fun x => x.tau = u.tau)
    (goal := fun x => x.tau = (tauWindow snap.roadSpeed u).tau)
    (by decide) (fun _ _ same => same) (fun x same => ?_) (fun c x ne same => (kept c x ne).trans same)
    (fun c x ne same => (kept c x ne).trans same) rfl
  change (tauWindow snap.roadSpeed x).tau = _
  rw [tauWindow, State.modTau_tau, same]
  rfl

theorem hand_takeWindow_view : (hand windowTakers (takeWindow snap) u).wtb.view = { u.wtb.view with
    roadSpeed := snap.roadSpeed, checkSpeed := snap.checkSpeed, engineSpeed := snap.engineSpeed,
    roadSource := snap.roadSource } := by
  have kept (c : Block) (x : State) (ne : c ≠ .wtb) : (takeWindow snap c x).wtb = x.wtb := by
    refine (takeWindow_parts x snap c).wtb_eq ?_
    cases c
    case wtb => exact absurd rfl ne
    all_goals decide
  refine hand_reaches (b := .wtb) (before := fun x => x.wtb.view = u.wtb.view)
    (goal := fun x => x.wtb.view = { u.wtb.view with
      roadSpeed := snap.roadSpeed, checkSpeed := snap.checkSpeed, engineSpeed := snap.engineSpeed,
      roadSource := snap.roadSource })
    (by decide) (fun _ _ same => same) (fun x same => ?_) (fun c x ne same => ?_) (fun c x ne same => ?_) rfl
  · have takes : takeWindow snap .wtb x = wtbWindow snap x := rfl
    rw [takes, wtbWindow, wtbTake_view, same]
  · rw [kept c x ne, same]
  · rw [kept c x ne, same]

theorem takeWindow_marks {c : Block} (ne : c ≠ .clc) : MarksOnly u (takeWindow snap c u) := by
  cases c
  case clc => exact absurd rfl ne
  case wtb =>
    unfold takeWindow wtbWindow
    exact .wtbTake _ _ u
  all_goals exact .of_only (takeWindow_parts u snap _)

/-- The CLC takes the road speed and marks ROAD_SPEED (R12, R154). -/
theorem hand_takeWindow_clc : (hand windowTakers (takeWindow snap) u).clc.roadSpeed = snap.roadSpeed ∧
    Marked .roadSpeed u (hand windowTakers (takeWindow snap) u) := by
  refine hand_reaches (b := .clc) (before := fun x => MarksOnly u x)
    (goal := fun x => x.clc.roadSpeed = snap.roadSpeed ∧ Marked .roadSpeed u x) (by decide)
    (fun _ _ same => same) (fun x marks => ?_) (fun c x ne marks => marks.trans (takeWindow_marks snap x ne))
    (fun c x ne ⟨speed, marked⟩ => ?_) (.refl u)
  · have takes : takeWindow snap .clc x = mark .roadSpeed (x.modClc fun c => { c with roadSpeed := snap.roadSpeed }) := rfl
    rw [takes]
    have marked := MarksOnly.mark .roadSpeed (x.modClc fun c => { c with roadSpeed := snap.roadSpeed })
    exact ⟨(congrArg Clc.roadSpeed marked.keeps :), Marked.of_frame
      (t := x.modClc fun c => { c with roadSpeed := snap.roadSpeed }) marks.line_eq marks.nodes_eq (marked_mark _ _)⟩
  · have more := takeWindow_marks snap x ne
    exact ⟨(congrArg Clc.roadSpeed more.keeps :).trans speed, marked.then more.holds⟩

end

/-- The gauges on a channel are called by a window result (R31). -/
theorem gduWindow_gauge (snap : Snapshot) (u : State) {x : Gauge} {g : GaugeIx} (pending : GaugePending x u.gdu.gauges[g])
    (on : Prop) [Decidable on] (source : on ↔ x.cfg.source.OnChannel) :
    (gduWindow snap u).gdu.gauges[g] = if on ∧ (x.state = .tracking ∨ x.state = .held ∨ x.state = .void)
      then (gduWindow snap u).gdu.goCalled x else x := by
  have cfg : u.gdu.gauges[g].cfg = x.cfg := (congrArg Gauge.cfg pending.kept :)
  have gauge : ∃ v : GaugeView, (gduWindow snap u).gdu.gauges[g] =
      if (v.concerned u.gdu.gauges[g].cfg.source).isSome = true
      then (gduWindow snap u).gdu.recompute u.gdu.gauges[g] else u.gdu.gauges[g] := by
    unfold gduWindow
    simp only [State.modGdu_gdu, Gdu.recomputeWhere, mapAll_get]
    exact ⟨_, rfl⟩
  obtain ⟨v, gauge⟩ := gauge
  rw [gauge, cfg]
  generalize (gduWindow snap u).gdu = d
  by_cases called : on ∧ x.Driven
  · obtain ⟨onChannel, driven⟩ := called
    have channel := source.mp onChannel
    rw [if_pos ((concerned_isSome_iff v _).mpr channel), if_pos ⟨onChannel, driven⟩,
      d.recompute_driven (pending.driven channel driven), pending.goCalled channel]
  · have same := pending.still fun both => called ⟨source.mpr both.1, both.2⟩
    rw [same, if_neg called]
    split_ifs with channel
    · exact d.recompute_still fun driven => called ⟨source.mpr ((concerned_isSome_iff v _).mp channel), driven⟩
    · rfl

end Sys2Proof.Machine
end

section
/-! A window expiry as the obligation states it (O31). -/

namespace Sys2Proof.Machine

-- One theorem at a time, so that a build as one text needs few threads.
set_option Elab.async false

/-! ## A channel that closes its window -/

section
variable {c d : Channel} {w : WindowLength} {f : Nat} (closes : d = c.close w f)
include closes

theorem close_off (off : c.state = .off) : d = c := by
  rw [closes]
  unfold Channel.close
  rw [off]

theorem close_on (on : c.state ≠ .off) :
    d = { c.faultTest f with lastFreq := f, mode := c.nextMode w f, windowCount := 0 } := by
  rw [closes]
  unfold Channel.close
  cases state : c.state
  case off => exact absurd state on
  all_goals rfl

omit closes in
theorem faultTest_kept (f : Nat) (c : Channel) : (c.faultTest f).cfg = c.cfg ∧
    (c.faultTest f).lastPeriod = c.lastPeriod ∧ (c.faultTest f).latestEdge = c.latestEdge ∧
    (c.faultTest f).stallTimer = c.stallTimer := by
  unfold Channel.faultTest
  dsimp only
  split
  · exact ⟨rfl, rfl, rfl, rfl⟩
  · exact ⟨rfl, rfl, rfl, rfl⟩
  · split_ifs <;> exact ⟨rfl, rfl, rfl, rfl⟩
  · split_ifs <;> exact ⟨rfl, rfl, rfl, rfl⟩

/-- What a channel that is not OFF keeps, and its mode (R6, R9). -/
theorem close_kept (on : c.state ≠ .off) : d.windowCount = 0 ∧ d.cfg = c.cfg ∧ d.lastPeriod = c.lastPeriod ∧
    d.latestEdge = c.latestEdge ∧ d.stallTimer = c.stallTimer ∧ d.mode = (match c.mode with
      | .count => if c.windowCount < 4 then .period else .count
      | .period => if 8 ≤ d.lastFreq * w.ms / 10000 then .count else .period) := by
  obtain ⟨cfg, period, edge, stall⟩ := faultTest_kept f c
  rw [close_on closes on]
  refine ⟨rfl, cfg, period, edge, stall, ?_⟩
  change c.nextMode w f = _
  unfold Channel.nextMode
  cases c.mode <;> rfl

theorem close_still (still : c.state = .still) : d.state = .still := by
  rw [close_on closes (by rw [still]; nofun)]
  change (c.faultTest f).state = _
  unfold Channel.faultTest
  rw [still]
  exact still

/-- The fault test of a LIVE channel (R4, Table 8). -/
theorem close_live (live : c.state = .live) : if c.cfg.maxFreq * 10 < d.lastFreq
    then (if 2 ≤ c.aboveMax + 1 then d.state = .fault ∧ d.atOrBelow = 0
      else d.state = .live ∧ d.aboveMax = c.aboveMax + 1)
    else d.state = .live ∧ d.aboveMax = 0 := by
  rw [close_on closes (by rw [live]; nofun)]
  change if c.cfg.maxFreq * 10 < f
    then (if 2 ≤ c.aboveMax + 1 then (c.faultTest f).state = .fault ∧ (c.faultTest f).atOrBelow = 0
      else (c.faultTest f).state = .live ∧ (c.faultTest f).aboveMax = c.aboveMax + 1)
    else (c.faultTest f).state = .live ∧ (c.faultTest f).aboveMax = 0
  unfold Channel.faultTest
  rw [live]
  dsimp only
  by_cases above : c.cfg.maxFreq * 10 < f
  · rw [if_pos above, if_pos (decide_eq_true above)]
    by_cases first : c.aboveMax + 1 < 2
    · rw [if_neg (by omega), if_pos first]
      exact ⟨rfl, rfl⟩
    · rw [if_pos (by omega), if_neg first]
      exact ⟨rfl, rfl⟩
  · have below : ¬ decide (c.cfg.maxFreq * 10 < f) = true := by simpa using above
    rw [if_neg above, if_neg below]
    exact ⟨rfl, rfl⟩

/-- The fault test of a channel in FAULT (R4, Table 8). -/
theorem close_fault (fault : c.state = .fault) : if c.cfg.maxFreq * 10 < d.lastFreq
    then d.state = .fault ∧ d.atOrBelow = 0
    else (if 2 ≤ c.atOrBelow + 1 then d.state = .live ∧ d.aboveMax = 0
      else d.state = .fault ∧ d.atOrBelow = c.atOrBelow + 1) := by
  rw [close_on closes (by rw [fault]; nofun)]
  change if c.cfg.maxFreq * 10 < f
    then (c.faultTest f).state = .fault ∧ (c.faultTest f).atOrBelow = 0
    else (if 2 ≤ c.atOrBelow + 1 then (c.faultTest f).state = .live ∧ (c.faultTest f).aboveMax = 0
      else (c.faultTest f).state = .fault ∧ (c.faultTest f).atOrBelow = c.atOrBelow + 1)
  unfold Channel.faultTest
  rw [fault]
  dsimp only
  by_cases above : c.cfg.maxFreq * 10 < f
  · rw [if_pos above, if_pos (decide_eq_true above)]
    exact ⟨rfl, rfl⟩
  · have below : ¬ decide (c.cfg.maxFreq * 10 < f) = true := by simpa using above
    rw [if_neg above, if_neg below]
    by_cases first : c.atOrBelow + 1 < 2
    · rw [if_neg (by omega), if_pos first]
      exact ⟨rfl, rfl⟩
    · rw [if_pos (by omega), if_neg first]
      exact ⟨rfl, rfl⟩

end

/-! ## The PCU -/

/-- The PCU after the tests of a window expiry and its snapshot (R6, R10, R15, R16). -/
def Pcu.windowed (q : Pcu) : Pcu := { q.disagreeTested.sourceTest with
  snap := q.disagreeTested.sourceTest.takeSnapshot, gate := some q.disagreeTested.sourceTest.cal.window.ms }

theorem windowExpiry_of_gate {s : State} (gate : s.pcu.gate ≠ none) (at10us : Nat) : windowExpiry at10us s =
    ((windowResult (moveSource (disagreeTest (closeWindow at10us s)))).modPcu fun p =>
      { p with gate := some p.cal.window.ms }).modFree fun v => { v with draws := v.draws + 1 } :=
  if_pos (Option.isSome_iff_ne_none.mpr gate)

theorem windowExpiry_pcu {s : State} (gate : s.pcu.gate ≠ none) (at10us : Nat) :
    (windowExpiry at10us s).pcu = (closeWindow at10us s).pcu.windowed := by
  rw [windowExpiry_of_gate gate, State.modFree_pcu, State.modPcu_pcu, windowResult_pcu, moveSource_pcu, disagreeTest_pcu,
    Pcu.windowed]

/-- Two frames in a row. -/
theorem pcu_frames {p q r : Pcu} (h : { q with disagree := p.disagree, cross := p.cross } = p)
    (k : { r with roadSource := q.roadSource, cross := q.cross } = q) :
    { r with disagree := p.disagree, cross := p.cross, roadSource := p.roadSource, snap := p.snap, gate := p.gate } = p := by
  cases p
  cases q
  cases r
  simp_all

theorem Pcu.windowed_frame (q : Pcu) : { q.windowed with
    disagree := q.disagree, cross := q.cross, roadSource := q.roadSource, snap := q.snap, gate := q.gate } = q := by
  have frames := pcu_frames (r := q.disagreeTested.sourceTest) q.disagreeTested_frame q.disagreeTested.sourceTest_frame
  exact frames

section
variable {q : Pcu}

/-- The disagreement test of a window (R15). -/
theorem windowed_cross :
    let r := q.windowed
    let both := r.channels[0].state = .live ∧ r.channels[4].state = .live
    let agree := max q.speed0 q.speed4 - min q.speed0 q.speed4 ≤ q.speed0 / 8
    (¬ both → r.cross.disagreeing = 0 ∧ r.cross.agreeing = 0 ∧ r.disagree = q.disagree) ∧
    (both → agree → r.cross.disagreeing = 0 ∧ r.cross.agreeing = min (q.cross.agreeing + 1) 3 ∧
      r.disagree = if 3 ≤ q.cross.agreeing + 1 then false else q.disagree) ∧
    (both → ¬ agree → r.cross.agreeing = 0 ∧ r.cross.disagreeing = min (q.cross.disagreeing + 1) 3 ∧
      r.disagree = if 3 ≤ q.cross.disagreeing + 1 then true else q.disagree) := by
  intro r both agree
  have channels : r.channels = q.channels := (congrArg Pcu.channels q.windowed_frame :)
  obtain ⟨disagreeing, agreeing⟩ := q.disagreeTested.sourceTest_counts
  have disagree : q.disagreeTested.sourceTest.disagree = q.disagreeTested.disagree :=
    (congrArg Pcu.disagree q.disagreeTested.sourceTest_frame :)
  have live : both ↔ q.bothLive = true := by
    rw [pcu_bothLive_iff, ← channels]
  have agrees := q.speedsAgree_iff
  change (_ → q.disagreeTested.sourceTest.cross.disagreeing = 0 ∧ q.disagreeTested.sourceTest.cross.agreeing = 0 ∧
      q.disagreeTested.sourceTest.disagree = _) ∧
    (_ → _ → q.disagreeTested.sourceTest.cross.disagreeing = 0 ∧ q.disagreeTested.sourceTest.cross.agreeing = _ ∧
      q.disagreeTested.sourceTest.disagree = _) ∧
    (_ → _ → q.disagreeTested.sourceTest.cross.agreeing = 0 ∧ q.disagreeTested.sourceTest.cross.disagreeing = _ ∧
      q.disagreeTested.sourceTest.disagree = _)
  rw [disagreeing, agreeing, disagree, live]
  unfold Pcu.disagreeTested
  refine ⟨fun lost => ?_, fun lives same => ?_, fun lives apart => ?_⟩
  · rw [if_neg lost]
    exact ⟨rfl, rfl, rfl⟩
  · rw [if_pos lives, if_pos (agrees.mpr same)]
    exact ⟨rfl, rfl, rfl⟩
  · rw [if_pos lives, if_neg (mt agrees.mp apart)]
    exact ⟨rfl, rfl, rfl⟩

/-- The source test of a window (R16). -/
theorem windowed_source :
    let r := q.windowed
    let agree := max q.speed0 q.speed4 - min q.speed0 q.speed4 ≤ q.speed0 / 8
    let fallback := ¬ r.channels[0].state = .live ∧ r.channels[4].state = .live ∧ 50 < q.speed4
    let back := r.channels[0].state = .live ∧ (¬ r.channels[4].state = .live ∨ agree)
    (q.roadSource = .ch0 →
      (¬ fallback → r.roadSource = .ch0 ∧ r.cross.fallback = 0) ∧
      (fallback → q.cross.fallback + 1 < 3 → r.roadSource = .ch0 ∧ r.cross.fallback = q.cross.fallback + 1) ∧
      (fallback → 3 ≤ q.cross.fallback + 1 → r.roadSource = .ch4 ∧ r.cross.fallback = 0 ∧ r.cross.returning = 0)) ∧
    (q.roadSource = .ch4 →
      (¬ back → r.roadSource = .ch4 ∧ r.cross.returning = 0) ∧
      (back → q.cross.returning + 1 < 3 → r.roadSource = .ch4 ∧ r.cross.returning = q.cross.returning + 1) ∧
      (back → 3 ≤ q.cross.returning + 1 → r.roadSource = .ch0 ∧ r.cross.fallback = 0 ∧ r.cross.returning = 0)) := by
  intro r agree fallback back
  have channels : r.channels = q.channels := (congrArg Pcu.channels q.windowed_frame :)
  have tested := q.disagreeTested_frame
  obtain ⟨fallbacks, returns⟩ := q.disagreeTested_source
  have same : q.disagreeTested.channels = q.channels ∧ q.disagreeTested.cal = q.cal ∧
      q.disagreeTested.roadSource = q.roadSource :=
    ⟨(congrArg Pcu.channels tested :), (congrArg Pcu.cal tested :), (congrArg Pcu.roadSource tested :)⟩
  obtain ⟨testedChannels, cal, source⟩ := same
  have falls : q.disagreeTested.fallbackWindow = true ↔ fallback := by
    rw [Pcu.fallbackWindow_iff, Pcu.speed4, testedChannels, cal]
    change _ ↔ ¬ r.channels[0].state = .live ∧ r.channels[4].state = .live ∧ 50 < q.speed4
    rw [channels]
    rfl
  have returned : q.disagreeTested.returnWindow = true ↔ back := by
    rw [Pcu.returnWindow_iff, Pcu.speed0, Pcu.speed4, testedChannels, cal]
    change _ ↔ r.channels[0].state = .live ∧ (¬ r.channels[4].state = .live ∨ agree)
    rw [channels]
    rfl
  change (_ → (_ → q.disagreeTested.sourceTest.roadSource = _ ∧ q.disagreeTested.sourceTest.cross.fallback = _) ∧
      (_ → _ → q.disagreeTested.sourceTest.roadSource = _ ∧ q.disagreeTested.sourceTest.cross.fallback = _) ∧
      (_ → _ → q.disagreeTested.sourceTest.roadSource = _ ∧ q.disagreeTested.sourceTest.cross.fallback = _ ∧
        q.disagreeTested.sourceTest.cross.returning = _)) ∧
    (_ → (_ → q.disagreeTested.sourceTest.roadSource = _ ∧ q.disagreeTested.sourceTest.cross.returning = _) ∧
      (_ → _ → q.disagreeTested.sourceTest.roadSource = _ ∧ q.disagreeTested.sourceTest.cross.returning = _) ∧
      (_ → _ → q.disagreeTested.sourceTest.roadSource = _ ∧ q.disagreeTested.sourceTest.cross.fallback = _ ∧
        q.disagreeTested.sourceTest.cross.returning = _))
  rw [← fallbacks, ← returns]
  refine ⟨fun ch0 => ?_, fun ch4 => ?_⟩
  · have here : q.disagreeTested.roadSource = .ch0 := source.trans ch0
    rw [Pcu.sourceTest_ch0 here]
    refine ⟨fun none => ?_, fun window few => ?_, fun window many => ?_⟩
    · rw [if_neg (mt falls.mp none)]
      exact ⟨here, rfl⟩
    · rw [if_pos (falls.mpr window), if_pos few]
      exact ⟨here, rfl⟩
    · rw [if_pos (falls.mpr window), if_neg (by omega)]
      exact ⟨rfl, rfl, rfl⟩
  · have here : q.disagreeTested.roadSource = .ch4 := source.trans ch4
    rw [Pcu.sourceTest_ch4 here]
    refine ⟨fun none => ?_, fun window few => ?_, fun window many => ?_⟩
    · rw [if_neg (mt returned.mp none)]
      exact ⟨here, rfl⟩
    · rw [if_pos (returned.mpr window), if_pos few]
      exact ⟨here, rfl⟩
    · rw [if_pos (returned.mpr window), if_neg (by omega)]
      exact ⟨rfl, rfl, rfl⟩

end

end Sys2Proof.Machine
end

section
/-! A window expiry at the blocks (R12, R31, R52, R60). -/

namespace Sys2Proof.Machine

-- One theorem at a time, so that a build as one text needs few threads.
set_option Elab.async false

/-! ## What the window result is taken from -/

section
variable (a : State)

/-- The channels have closed; the tests and the snapshot follow, and then the result is handed. -/
def windowDue : State := (moveSource (disagreeTest a)).modPcu fun p => { p with snap := p.takeSnapshot }

theorem windowDue_pcu : (windowDue a).pcu =
    { a.pcu.disagreeTested.sourceTest with snap := a.pcu.disagreeTested.sourceTest.takeSnapshot } := by
  rw [windowDue, State.modPcu_pcu, moveSource_pcu, disagreeTest_pcu]

theorem windowDue_gdu : (windowDue a).gdu = a.gdu := by
  rw [windowDue, State.modPcu_gdu, (moveSource_only _).gdu_eq (by decide), (disagreeTest_only _).gdu_eq (by decide)]

theorem disagreeTest_tau : (disagreeTest a).tau = a.tau := (disagreeTest_only a).tau_eq (by decide)

theorem windowDue_tau : (windowDue a).tau = (moveSource (disagreeTest a)).tau := by
  rw [windowDue, State.modPcu_tau]

theorem windowDue_tau_frame :
    { (windowDue a).tau with roadLive := a.tau.roadLive, levelAtStop := a.tau.levelAtStop } = a.tau := by
  have frame := moveSource_tau_frame (disagreeTest a)
  rw [windowDue_tau]
  rw [disagreeTest_tau] at frame
  exact frame

theorem windowDue_coach : NodesKept a (windowDue a) :=
  ((disagreeTest_nodesKept a).trans (moveSource_nodesKept _)).trans ⟨rfl, rfl⟩

end

/-! ## The end of the window -/

/-- The result is handed and the gate timer starts again. -/
def windowEnd (a : State) : State :=
  ((hand windowTakers (takeWindow (windowDue a).pcu.snap) (windowDue a)).modPcu fun p =>
    { p with gate := some p.cal.window.ms }).modFree fun v => { v with draws := v.draws + 1 }

theorem windowExpiry_end {s : State} (gate : s.pcu.gate ≠ none) (at10us : Nat) :
    windowExpiry at10us s = windowEnd (closeWindow at10us s) := by
  rw [windowExpiry_of_gate gate]
  generalize closeWindow at10us s = a
  rfl

section
variable (a : State)

theorem windowEnd_pcu : (windowEnd a).pcu = a.pcu.windowed := by
  have handed : (hand windowTakers (takeWindow (windowDue a).pcu.snap) (windowDue a)).pcu = (windowDue a).pcu :=
    (hand_only (fun b s => takeWindow_only s _ b) _).pcu_eq (by decide)
  rw [windowEnd, State.modFree_pcu, State.modPcu_pcu, handed, windowDue_pcu, Pcu.windowed]

theorem windowEnd_snap : (windowDue a).pcu.snap = (windowEnd a).pcu.snap := by
  rw [windowEnd_pcu, windowDue_pcu, Pcu.windowed]

theorem windowEnd_gdu : (windowEnd a).gdu = (gduWindow (windowEnd a).pcu.snap (windowDue a)).gdu := by
  rw [← windowEnd_snap, windowEnd, State.modFree_gdu, State.modPcu_gdu, hand_takeWindow_gdu]

theorem windowEnd_tau : (windowEnd a).tau = (tauWindow (windowEnd a).pcu.snap.roadSpeed (windowDue a)).tau := by
  rw [← windowEnd_snap, windowEnd, State.modFree_tau, State.modPcu_tau, hand_takeWindow_tau]

theorem windowEnd_view : (windowEnd a).wtb.view = { (windowDue a).wtb.view with
    roadSpeed := (windowEnd a).pcu.snap.roadSpeed, checkSpeed := (windowEnd a).pcu.snap.checkSpeed
    engineSpeed := (windowEnd a).pcu.snap.engineSpeed, roadSource := (windowEnd a).pcu.snap.roadSource } := by
  rw [← windowEnd_snap, windowEnd, State.modFree_wtb, State.modPcu_wtb, hand_takeWindow_view]

theorem windowEnd_clc : (windowEnd a).clc.roadSpeed = (windowEnd a).pcu.snap.roadSpeed ∧
    Marked .roadSpeed (windowDue a) (windowEnd a) := by
  rw [← windowEnd_snap]
  exact hand_takeWindow_clc (windowDue a).pcu.snap (windowDue a)

end

/-! ## The TAU -/

section
variable {s a : State} {done : List ChannelIx} (closing : WindowClosing done s a)
include closing

/-- Where the TAU's copy was in step it follows the source, and the level-at-stop is taken by the old source's fall alone
(R5, R60). -/
theorem windowDue_live (copy : s.tau.roadLive = true ↔ SourceLive s s) :
    ((windowDue a).tau.roadLive = true ↔ a.pcu.disagreeTested.sourceTest.roadLive = true) ∧
    (windowDue a).tau.levelAtStop =
      if SourceLive s s ∧ ¬ SourceLive s a then s.freshLevel else s.tau.levelAtStop := by
  have tested := disagreeTest_pcu a
  have source : a.pcu.disagreeTested.roadSource = s.pcu.roadSource :=
    (congrArg Pcu.roadSource a.pcu.disagreeTested_frame :).trans (congrArg Pcu.roadSource closing.pcu.frame :)
  have channels : a.pcu.disagreeTested.channels = a.pcu.channels := (congrArg Pcu.channels a.pcu.disagreeTested_frame :)
  have live : (disagreeTest a).tau.roadLive = true ↔ (disagreeTest a).pcu.roadLive = true := by
    rw [disagreeTest_tau, roadLive_iff (r := s.pcu.roadSource) (by rw [tested, source]), tested, channels]
    exact closing.tau.live copy
  have moved := moveSource_tau live
  rw [tested, disagreeTest_tau] at moved
  rw [windowDue_tau, moved]
  exact ⟨.rfl, closing.tau.level copy⟩

/-- The trips take the road speed (R52). -/
theorem windowEnd_trip (i : TripIx) : (windowEnd a).tau.trips[i] = if s.tau.trips[i].state = .open
    then { s.tau.trips[i] with maxSpeed := max s.tau.trips[i].maxSpeed (windowEnd a).pcu.snap.roadSpeed }
    else s.tau.trips[i] := by
  have trips : (windowDue a).tau.trips = s.tau.trips :=
    (congrArg Tau.trips (windowDue_tau_frame a) :).trans (congrArg Tau.trips closing.tau.frame :)
  rw [windowEnd_tau, tauWindow, State.modTau_tau, trips]
  exact mapAll_get _ _ _

/-! ## The GDU -/

theorem windowEnd_copies (ch : ChannelIx) : (windowEnd a).gdu.view.channels[ch] =
    if a.pcu.channels[ch].state = s.pcu.channels[ch].state then s.gdu.view.channels[ch] else a.pcu.channels[ch].state := by
  have same : (gduWindow (windowEnd a).pcu.snap (windowDue a)).gdu.view.channels = (windowDue a).gdu.view.channels := rfl
  rw [windowEnd_gdu, same, windowDue_gdu]
  exact closing.gdu.copies ch

theorem windowEnd_gauge (g : GaugeIx) (on : Prop) [Decidable on] (source : on ↔ s.gdu.gauges[g].cfg.source.OnChannel) :
    (windowEnd a).gdu.gauges[g] = if on ∧ (s.gdu.gauges[g].state = .tracking ∨ s.gdu.gauges[g].state = .held ∨
      s.gdu.gauges[g].state = .void) then (windowEnd a).gdu.goCalled s.gdu.gauges[g] else s.gdu.gauges[g] := by
  rw [windowEnd_gdu]
  refine gduWindow_gauge _ _ ?_ on source
  rw [windowDue_gdu]
  exact closing.gdu.gauges g

theorem windowEnd_gdu_frame : (windowEnd a).gdu = { s.gdu with
    view := { (windowEnd a).gdu.view with
      roadSpeed := (windowEnd a).pcu.snap.roadSpeed, engineSpeed := (windowEnd a).pcu.snap.engineSpeed
      checkSpeed := (windowEnd a).pcu.snap.checkSpeed, generalFreq := (windowEnd a).pcu.snap.freqs[5]
      roadSource := (windowEnd a).pcu.snap.roadSource }
    gauges := (windowEnd a).gdu.gauges } := by
  rw [windowEnd_gdu]
  generalize (windowEnd a).pcu.snap = snap
  have frame : { (windowDue a).gdu with view := s.gdu.view, gauges := s.gdu.gauges } = s.gdu := by
    rw [windowDue_gdu]
    exact closing.gdu.frame
  generalize windowDue a = u at frame
  exact congrArg (fun d : Gdu => { d with
    view := (gduWindow snap u).gdu.view, gauges := (gduWindow snap u).gdu.gauges }) frame

end

end Sys2Proof.Machine
end

section
/-! A window expiry as the obligation states it (O31). -/

namespace Sys2Proof.Machine

-- One theorem at a time, so that a build as one text needs few threads.
set_option Elab.async false

section
variable {p q : Pcu} {done : List ChannelIx} (closing : PcuClosing done p q)

/-- The snapshot of a window expiry (R10, R11). -/
theorem windowed_snap (q : Pcu) : q.windowed.snap =
    { states := mapAll (fun c => c.state) q.windowed.channels
      freqs := mapAll (fun c => c.lastFreq) q.windowed.channels
      roadSpeed := match q.windowed.roadSource with
        | .ch0 => min (q.windowed.channels[0].lastFreq * 360 / q.windowed.cal.kd) 2550
        | .ch4 => min (q.windowed.channels[4].lastFreq * 360 / q.windowed.cal.kd2) 2550
      checkSpeed := min (q.windowed.channels[4].lastFreq * 360 / q.windowed.cal.kd2) 2550
      roadSource := q.windowed.roadSource
      engineSpeed := min (q.windowed.channels[1].lastFreq * 12 / q.windowed.cal.ke) 9999
      fuelRate := min ((q.windowed.channels[2].lastFreq - q.windowed.channels[3].lastFreq) * 360 / q.windowed.cal.kf) 65535
      disagree := q.windowed.disagree
      implausible := q.windowed.implausible } := rfl

theorem windowed_kept (q : Pcu) : q.windowed.channels = q.channels ∧ q.windowed.cal = q.cal :=
  ⟨(congrArg Pcu.channels q.windowed_frame :), (congrArg Pcu.cal q.windowed_frame :)⟩

include closing in
theorem PcuClosing.kept : q.cal = p.cal ∧ q.roadSource = p.roadSource ∧ q.cross.fallback = p.cross.fallback ∧
    q.cross.returning = p.cross.returning := by
  have sources : q.cross.fallback = p.cross.fallback ∧ q.cross.returning = p.cross.returning := by
    by_cases left : LeftLive p q
    · rw [(closing.left left).2]
      exact ⟨rfl, rfl⟩
    · rw [(closing.stayed left).2]
      exact ⟨rfl, rfl⟩
  exact ⟨(congrArg Pcu.cal closing.frame :), (congrArg Pcu.roadSource closing.frame :), sources⟩

theorem leftLive_iff : LeftLive p q ↔ (p.channels[0].state = .live ∧ ¬ q.channels[0].state = .live) ∨
    (p.channels[4].state = .live ∧ ¬ q.channels[4].state = .live) := by
  constructor
  · rintro ⟨c, rfl | rfl, live, down⟩
    · exact .inl ⟨live, down⟩
    · exact .inr ⟨live, down⟩
  · rintro (⟨live, down⟩ | ⟨live, down⟩)
    · exact ⟨0, .inl rfl, live, down⟩
    · exact ⟨4, .inr rfl, live, down⟩

end

/-- Settles O31: the channels close one after another, the disagreement test and the source test follow, the snapshot is
taken, and its result reaches the gauges, the WTB, the TAU and the CLC. -/
theorem windowClosesWhole : Obligations.WindowClosesWhole := by
  unfold Obligations.WindowClosesWhole
  intro at10us s supplied
  refine ⟨fun stopped => ?_, fun gate => ⟨windowExpiry at10us s, exec_windowExpiry supplied at10us,
    (windowExpiry_only s at10us).mono (by decide), ?_⟩⟩
  · have stays : windowExpiry at10us s = s := if_neg (by rw [stopped]; nofun)
    rw [exec_windowExpiry supplied, stays]
  obtain ⟨done, all, closing⟩ := closeWindow_closing at10us s
  rw [windowExpiry_end gate]
  generalize closeWindow at10us s = a at closing
  obtain ⟨cal, source, fallbacks, returns⟩ := closing.pcu.kept
  obtain ⟨channels, calKept⟩ := windowed_kept a.pcu
  have pcu := windowEnd_pcu a
  have speeds : a.pcu.speed0 = min (a.pcu.channels[0].lastFreq * 360 / s.pcu.cal.kd) 2550 ∧
      a.pcu.speed4 = min (a.pcu.channels[4].lastFreq * 360 / s.pcu.cal.kd2) 2550 := by
    rw [← cal]
    exact ⟨rfl, rfl⟩
  refine ⟨?_, fun ch => ?_, ?_⟩
  · rw [pcu, ← cal]
    change some a.pcu.disagreeTested.sourceTest.cal.window.ms = _
    rw [calKept.symm]
    rfl
  · intro c d
    obtain ⟨f, closes⟩ := closing.pcu.closed ch (all ch)
    have same : d = a.pcu.channels[ch] := by
      change (windowEnd a).pcu.channels[ch] = _
      rw [pcu, channels]
    rw [same]
    exact ⟨close_off closes, close_kept closes, close_still closes, close_live closes, close_fault closes⟩
  · intro f live s0 s4 both agree left old new
    have tests := windowed_cross (q := a.pcu)
    have moves := windowed_source (q := a.pcu)
    have snap := windowed_snap a.pcu
    have snapSource : a.pcu.windowed.snap.roadSource = a.pcu.windowed.roadSource := rfl
    have leaves := leftLive_iff (p := s.pcu) (q := a.pcu)
    rw [← channels] at leaves
    rw [speeds.1, speeds.2, ← channels] at tests moves
    rw [calKept, cal] at snap
    rw [← pcu] at tests moves snap snapSource leaves
    rw [source, fallbacks, returns] at moves
    obtain ⟨lost, agreed, apart⟩ := tests
    have stayed (lives : both) : a.pcu.disagree = s.pcu.disagree ∧ a.pcu.cross = s.pcu.cross := by
      refine closing.pcu.stayed fun gone => ?_
      rcases leaves.mp gone with ⟨-, down⟩ | ⟨-, down⟩
      · exact down lives.1
      · exact down lives.2
    refine ⟨fun alone => ?_, fun lives same => ?_, fun lives differ => ?_, ?_⟩
    · obtain ⟨disagreeing, agreeing, disagree⟩ := lost alone
      refine ⟨disagreeing, agreeing, fun gone => ?_, fun stays => ?_⟩
      · exact disagree.trans (closing.pcu.left (leaves.mpr gone)).1
      · exact disagree.trans (closing.pcu.stayed (mt leaves.mp stays)).1
    · obtain ⟨kept, cross⟩ := stayed lives
      rw [kept, cross] at agreed
      exact agreed lives same
    · obtain ⟨kept, cross⟩ := stayed lives
      rw [kept, cross] at apart
      exact apart lives differ
    · intro fallback back
      have view := windowEnd_view a
      have copies := windowEnd_copies closing
      obtain ⟨roadSpeed, marked⟩ := windowEnd_clc a
      have coach := closing.coach.trans (windowDue_coach a)
      rw [← channels, ← pcu] at copies
      refine ⟨moves.1, moves.2, snap, windowEnd_trip closing, ?_, copies,
        fun g => windowEnd_gauge closing g _ Iff.rfl, by rw [view], by rw [view], by rw [view],
        by rw [view]; exact snapSource, roadSpeed, Marked.of_frame coach.1 coach.2 marked, ?_⟩
      · have frame := windowEnd_gdu_frame closing
        have general : (windowEnd a).pcu.snap.freqs[5] = f 5 := by
          rw [snap]
          exact mapAll_get _ _ 5
        rw [general, snapSource] at frame
        exact frame
      · intro sourceOf copy
        obtain ⟨road, level⟩ := windowDue_live closing copy
        have tau : (windowEnd a).tau.roadLive = (windowDue a).tau.roadLive ∧
            (windowEnd a).tau.levelAtStop = (windowDue a).tau.levelAtStop := by
          rw [windowEnd_tau]
          exact ⟨rfl, rfl⟩
        have still : SourceLive s a ↔ live (windowEnd a) (sourceOf s) := by
          change a.pcu.channels[s.pcu.roadSource.channel].state = .live ↔
            (windowEnd a).pcu.channels[s.pcu.roadSource.channel].state = .live
          rw [pcu, channels]
        have now : a.pcu.disagreeTested.sourceTest.roadLive = true ↔ live (windowEnd a) (sourceOf (windowEnd a)) := by
          have same : a.pcu.disagreeTested.sourceTest.roadLive = (windowEnd a).pcu.roadLive := by
            rw [pcu]
            rfl
          rw [same]
          exact roadLive_iff (u := windowEnd a) rfl
        rw [tau.1, tau.2, road, level, freshLevel_eq]
        exact ⟨now, fun was gone => if_pos ⟨was, mt still.mp gone⟩,
          fun stands => if_neg fun falls => stands ⟨falls.1, mt still.mpr falls.2⟩⟩

end Sys2Proof.Machine
end


section
/-! What follows a reset in its event: Kept Memory stands, and under the mask of POWER alone the Link Port takes no
other notice (R178, R190, R195). -/

namespace Sys2Proof.Machine

-- One theorem at a time, so that a build as one text needs few threads.
set_option Elab.async false

/-! ## Kept Memory through the operations -/

namespace KeptMemorySame
variable {s t u : State}

theorem refl (s : State) : KeptMemorySame s s where
  channels _ := rfl
  calibration := rfl
  residues := ⟨rfl, rfl, rfl⟩
  slots _ := ⟨rfl, rfl⟩
  gauges _ := rfl
  trips := rfl
  clock := rfl
  switches _ := rfl
  entries _ := rfl
  lamps _ := rfl
  patterns := rfl
  items _ := rfl
  nodes _ := ⟨rfl, rfl, rfl, rfl, rfl⟩
  coachOptions := ⟨rfl, rfl, rfl⟩

theorem trans (h : KeptMemorySame s t) (k : KeptMemorySame t u) : KeptMemorySame s u where
  channels ch := (k.channels ch).trans (h.channels ch)
  calibration := k.calibration.trans h.calibration
  residues := by
    obtain ⟨road, check, fuel⟩ := h.residues
    obtain ⟨road', check', fuel'⟩ := k.residues
    exact ⟨road'.trans road, check'.trans check, fuel'.trans fuel⟩
  slots n := by
    obtain ⟨stale, lost⟩ := h.slots n
    obtain ⟨stale', lost'⟩ := k.slots n
    exact ⟨stale'.trans stale, lost'.trans lost⟩
  gauges g := (k.gauges g).trans (h.gauges g)
  trips := k.trips.trans h.trips
  clock := k.clock.trans h.clock
  switches n := (k.switches n).trans (h.switches n)
  entries w := (k.entries w).trans (h.entries w)
  lamps l := (k.lamps l).trans (h.lamps l)
  patterns := k.patterns.trans h.patterns
  items i := (k.items i).trans (h.items i)
  nodes n := by
    obtain ⟨enabled, address, nodeAlias, kind, set⟩ := h.nodes n
    obtain ⟨enabled', address', nodeAlias', kind', set'⟩ := k.nodes n
    exact ⟨enabled'.trans enabled, address'.trans address, nodeAlias'.trans nodeAlias, kind'.trans kind, set'.trans set⟩
  coachOptions := by
    obtain ⟨period, pattern, slot⟩ := h.coachOptions
    obtain ⟨period', pattern', slot'⟩ := k.coachOptions
    exact ⟨period'.trans period, pattern'.trans pattern, slot'.trans slot⟩

/-- By-products touch none of Kept Memory (R178). -/
theorem byProducts (h : ByProducts s t) : KeptMemorySame s t := by
  have pcu : t.pcu = s.pcu := h.frame.pcu_eq (by decide)
  have gdu : t.gdu = s.gdu := h.frame.gdu_eq (by decide)
  have tau : t.tau = s.tau := h.frame.tau_eq (by decide)
  have svs : t.svs = s.svs := h.frame .svs (by decide)
  have clk : t.clk = s.clk := h.frame .clk (by decide)
  have switches : t.wtb.switches = s.wtb.switches := (congrArg Wtb.switches h.wtb :)
  have lamps : t.wtb.lamps = s.wtb.lamps := (congrArg Wtb.lamps h.wtb :)
  have patterns : t.chs.patterns = s.chs.patterns := (congrArg Chs.patterns h.chs :)
  have period : t.clc.roundPeriod = s.clc.roundPeriod := (congrArg Clc.roundPeriod h.clc :)
  have pattern : t.clc.callPattern = s.clc.callPattern := (congrArg Clc.callPattern h.clc :)
  have slot : t.clc.outsideSlot = s.clc.outsideSlot := (congrArg Clc.outsideSlot h.clc :)
  exact {
    channels := fun ch => by rw [pcu]
    calibration := by rw [pcu]
    residues := by rw [pcu]; exact ⟨rfl, rfl, rfl⟩
    slots := fun n => by rw [gdu]; exact ⟨rfl, rfl⟩
    gauges := fun g => by rw [gdu]
    trips := by rw [tau]
    clock := clk
    switches := fun n => by rw [switches]
    entries := h.cfg
    lamps := fun l => by rw [lamps]
    patterns
    items := fun i => by rw [svs]
    nodes := fun n => by rw [h.nodes_eq]; exact ⟨rfl, rfl, rfl, rfl, rfl⟩
    coachOptions := ⟨period, pattern, slot⟩ }

/-- Nor does a change of the Link Port alone. -/
theorem of_link (h : OnlyChanges [.lkp] s t) : KeptMemorySame s t where
  channels ch := by rw [h.pcu_eq (by decide)]
  calibration := by rw [h.pcu_eq (by decide)]
  residues := by rw [h.pcu_eq (by decide)]; exact ⟨rfl, rfl, rfl⟩
  slots n := by rw [h.gdu_eq (by decide)]; exact ⟨rfl, rfl⟩
  gauges g := by rw [h.gdu_eq (by decide)]
  trips := by rw [h.tau_eq (by decide)]
  clock := h .clk (by decide)
  switches n := by rw [h.wtb_eq (by decide)]
  entries w := by rw [h.wtb_eq (by decide)]
  lamps l := by rw [h.wtb_eq (by decide)]
  patterns := congrArg Chs.patterns (h .chs (by decide))
  items i := by
    have svs : t.svs = s.svs := h .svs (by decide)
    rw [svs]
  nodes n := by rw [h.clc_eq (by decide)]; exact ⟨rfl, rfl, rfl, rfl, rfl⟩
  coachOptions := by rw [h.clc_eq (by decide)]; exact ⟨rfl, rfl, rfl⟩

end KeptMemorySame

/-! ## A part just reset -/

/-- No channel LIVE, no pass-through held, the line not RUNNING, and POWER alone in the mask, as every reset leaves the part (R19, R165, R195). -/
structure JustReset (s : State) : Prop where
  channels : ∀ ch : ChannelIx, s.pcu.channels[ch].state ≠ .live
  road : s.tau.roadLive = false
  pass : s.clc.pass = none
  line : s.clc.line ≠ .running
  mask : s.lkp.mask = powerMask

/-- What an operation leaves of a part just reset: its Kept Memory, and the Link Port but for the power state's copy. -/
structure ResetKept (s t : State) : Prop where
  memory : KeptMemorySame s t
  lkp : t.lkp = { s.lkp with power := t.lkp.power }
  rests : JustReset t

/-- An operation that leaves all that of every part just reset. -/
def StaysReset (s t : State) : Prop := JustReset s → ResetKept s t

/-- Under the mask of POWER alone no other notice moves the Link Port (R190). -/
theorem Lkp.takeNotice_of_powerMask {n : Notice} {l : Lkp} (mask : l.mask = powerMask) (other : n.bit ≠ 0) :
    l.takeNotice n = l := by
  have off : l.mask.getLsbD n.bit = false := by
    have inMask : ∀ k < 10, k ≠ 0 → powerMask.getLsbD k = false := by decide
    rw [mask]
    exact inMask n.bit (by cases n <;> simp [Notice.bit]) other
  exact if_pos off

theorem NoticesOnly.lkp_of_powerMask {bits : List Nat} {s t : State} (h : NoticesOnly bits s t) (other : 0 ∉ bits)
    (mask : s.lkp.mask = powerMask) : t.lkp = s.lkp := by
  obtain ⟨ns, kinds, taken⟩ := h
  rw [taken]
  refine List.foldlRecOn (motive := fun l => l = s.lkp) ns _ rfl fun l same n mem => ?_
  rw [same]
  exact Lkp.takeNotice_of_powerMask mask fun zero => other (zero ▸ kinds n mem)

namespace StaysReset
variable {s t u : State}

theorem refl (s : State) : StaysReset s s := fun quiet => ⟨.refl s, rfl, quiet⟩

theorem trans (h : StaysReset s t) (k : StaysReset t u) : StaysReset s u := fun quiet => by
  obtain ⟨memory, lkp, rests⟩ := h quiet
  obtain ⟨memory', lkp', rests'⟩ := k rests
  exact ⟨memory.trans memory', by rw [lkp', lkp], rests'⟩

theorem foldl {α : Type} {f : State → α → State} (h : ∀ s a, StaysReset s (f s a)) (l : List α) (s : State) :
    StaysReset s (l.foldl f s) :=
  List.foldlRecOn (motive := fun t => StaysReset s t) _ _ (refl s) fun t walked a _ => walked.trans (h t a)

theorem eachIx {n : Nat} {f : Fin n → State → State} (h : ∀ i s, StaysReset s (f i s)) (s : State) :
    StaysReset s (Machine.eachIx n f s) := foldl (fun s i => h i s) _ s

theorem igs (s : State) (f : Igs → Igs) : StaysReset s (s.modIgs f) := fun quiet =>
  ⟨{ KeptMemorySame.refl s with }, rfl, { quiet with }⟩

theorem free (s : State) (f : FreeValues → FreeValues) : StaysReset s (s.modFree f) := fun quiet =>
  ⟨{ KeptMemorySame.refl s with }, rfl, { quiet with }⟩

theorem inputs (s : State) (f : Inputs → Inputs) : StaysReset s (s.modInputs f) := fun quiet =>
  ⟨{ KeptMemorySame.refl s with }, rfl, { quiet with }⟩

theorem hand {take : Block → State → State} (h : ∀ b s, StaysReset s (take b s)) (targets : List Block) (s : State) :
    StaysReset s (Machine.hand targets take s) := (free s _).trans (foldl (fun s b => h b s) _ _)

/-- By-products with WARNING and CHIME notices. -/
theorem byProducts (h : ByProducts s t) (notices : NoticesOnly NoticesOnly.warnBits s t) : StaysReset s t := fun quiet => by
  have lkp := notices.lkp_of_powerMask (by decide) quiet.mask
  have pass : t.clc.pass = s.clc.pass := (congrArg Clc.pass h.clc :)
  exact {
    memory := .byProducts h
    lkp := by rw [lkp]
    rests := {
      channels := by rw [h.frame.pcu_eq (by decide)]; exact quiet.channels
      road := by rw [h.frame.tau_eq (by decide)]; exact quiet.road
      pass := pass.trans quiet.pass
      line := by rw [h.line_eq]; exact quiet.line
      mask := by rw [lkp]; exact quiet.mask } }

theorem evaluateWhere (test : EntryConfig → Bool) (s : State) : StaysReset s (Machine.evaluateWhere test s) :=
  byProducts (.evaluateWhere test s) (.evaluateWhere test s)

theorem mark (i : MirrorItem) (s : State) : StaysReset s (Machine.mark i s) :=
  byProducts (.mark i s) (.of_only (mark_only s i))

/-- A notice of another kind than POWER. -/
theorem notify {n : Notice} (other : n.bit ≠ 0) (s : State) : StaysReset s (s.notify n) := fun quiet => by
  have lkp : (s.notify n).lkp = s.lkp := Lkp.takeNotice_of_powerMask quiet.mask other
  exact {
    memory := .byProducts (.notify n s)
    lkp := by rw [lkp]
    rests := { quiet with mask := by rw [lkp]; exact quiet.mask } }

/-- A change of the WTB that keeps the entries, the switches and the lamps. -/
theorem wtb {f : Wtb → Wtb} (s : State) (entries : (f s.wtb).entries = s.wtb.entries)
    (switches : (f s.wtb).switches = s.wtb.switches) (lamps : (f s.wtb).lamps = s.wtb.lamps) :
    StaysReset s (s.modWtb f) := fun quiet =>
  ⟨{ KeptMemorySame.refl s with
      entries := fun w => by rw [State.modWtb_wtb, entries]
      switches := fun n => by rw [State.modWtb_wtb, switches]
      lamps := fun l => by rw [State.modWtb_wtb, lamps] }, rfl, { quiet with }⟩

theorem wtbTake (f : WarnView → WarnView) (test : EntryConfig → Bool) (s : State) :
    StaysReset s (Machine.wtbTake f test s) := (wtb s rfl rfl rfl).trans (evaluateWhere test _)

/-- A change of the PCU that keeps the channels, the calibration and the residues. -/
theorem pcu {f : Pcu → Pcu} (s : State) (channels : (f s.pcu).channels = s.pcu.channels)
    (cal : (f s.pcu).cal = s.pcu.cal) (residues : (f s.pcu).roadResidue = s.pcu.roadResidue ∧
      (f s.pcu).checkResidue = s.pcu.checkResidue ∧ (f s.pcu).fuelResidue = s.pcu.fuelResidue) :
    StaysReset s (s.modPcu f) := fun quiet =>
  ⟨{ KeptMemorySame.refl s with
      channels := fun ch => by rw [State.modPcu_pcu, channels]
      calibration := cal
      residues }, rfl, { quiet with channels := fun ch => by rw [State.modPcu_pcu, channels]; exact quiet.channels ch }⟩

theorem gdu {f : Gdu → Gdu} (s : State) (slots : (f s.gdu).slots = s.gdu.slots)
    (gauges : ∀ g : GaugeIx, (f s.gdu).gauges[g].cfg = s.gdu.gauges[g].cfg) : StaysReset s (s.modGdu f) := fun quiet =>
  ⟨{ KeptMemorySame.refl s with
      slots := fun n => by rw [State.modGdu_gdu, slots]; exact ⟨rfl, rfl⟩
      gauges }, rfl, { quiet with }⟩

theorem svs {f : Svs → Svs} (s : State) (items : (f s.svs).items = s.svs.items) : StaysReset s (s.modSvs f) := fun quiet =>
  ⟨{ KeptMemorySame.refl s with items := fun i => by rw [State.modSvs_svs, items] }, rfl, { quiet with }⟩

theorem chs {f : Chs → Chs} (s : State) (patterns : (f s.chs).patterns = s.chs.patterns) : StaysReset s (s.modChs f) :=
  fun quiet => ⟨{ KeptMemorySame.refl s with patterns }, rfl, { quiet with }⟩

/-- A change of the CLC that keeps what is configured and holds no pass-through. -/
theorem clc {f : Clc → Clc} (s : State) (pass : (f s.clc).pass = s.clc.pass)
    (options : (f s.clc).roundPeriod = s.clc.roundPeriod ∧ (f s.clc).callPattern = s.clc.callPattern ∧
      (f s.clc).outsideSlot = s.clc.outsideSlot)
    (nodes : ∀ n : NodeIx, (f s.clc).nodes[n].enabled = s.clc.nodes[n].enabled ∧
      (f s.clc).nodes[n].address = s.clc.nodes[n].address ∧ (f s.clc).nodes[n].nodeAlias = s.clc.nodes[n].nodeAlias ∧
      (f s.clc).nodes[n].kind = s.clc.nodes[n].kind ∧ (f s.clc).nodes[n].mirrorSet = s.clc.nodes[n].mirrorSet)
    (line : s.clc.line ≠ .running → (f s.clc).line ≠ .running := by exact id) :
    StaysReset s (s.modClc f) := fun quiet =>
  ⟨{ KeptMemorySame.refl s with nodes, coachOptions := options }, rfl,
    { quiet with pass := pass.trans quiet.pass, line := line quiet.line }⟩

end StaysReset

end Sys2Proof.Machine
end


section
/-! Run entry, CRANK and the Coach reset of a part just reset: Kept Memory and the Link Port stand (R175, R178, R195). -/

namespace Sys2Proof.Machine

-- One theorem at a time, so that a build as one text needs few threads.
set_option Elab.async false

namespace StaysReset

/-! ## The Coach Line -/

/-- A slot that takes a state keeps what is configured of it. -/
theorem modNode (n : NodeIx) {f : Node → Node} (keeps : ∀ x : Node, (f x).enabled = x.enabled ∧ (f x).address = x.address ∧
    (f x).nodeAlias = x.nodeAlias ∧ (f x).kind = x.kind ∧ (f x).mirrorSet = x.mirrorSet) (s : State) :
    StaysReset s (s.modNode n f) := by
  refine clc s rfl ⟨rfl, rfl, rfl⟩ fun m => ?_
  dsimp only
  rw [updAt_get]
  split_ifs with same
  · rw [← same]
    exact keeps _
  · exact ⟨rfl, rfl, rfl, rfl, rfl⟩

theorem node_entering (st : NodeState) (x : Node) : (x.entering st).enabled = x.enabled ∧
    (x.entering st).address = x.address ∧ (x.entering st).nodeAlias = x.nodeAlias ∧ (x.entering st).kind = x.kind ∧
    (x.entering st).mirrorSet = x.mirrorSet := by
  cases st <;> exact ⟨rfl, rfl, rfl, rfl, rfl⟩

theorem setNodeState (n : NodeIx) (st : NodeState) (s : State) : StaysReset s (Machine.setNodeState n st s) := by
  by_cases same : s.clc.nodes[n].state = st
  · rw [setNodeState_of_same same]
    exact refl s
  · rw [setNodeState_of_changed same]
    have entered : StaysReset (s.modNode n (Node.entering st))
        ((s.modNode n (Node.entering st)).modClc (Clc.enterState n st)) := by
      generalize s.modNode n (Node.entering st) = u
      have keeps := Clc.enterState_keeps n st u.clc
      have nodes : (Clc.enterState n st u.clc).nodes = u.clc.nodes := (congrArg Clc.nodes keeps :)
      refine clc u (congrArg Clc.pass keeps :) ⟨(congrArg Clc.roundPeriod keeps :), (congrArg Clc.callPattern keeps :),
        (congrArg Clc.outsideSlot keeps :)⟩ (fun m => ?_) ?_
      · rw [nodes]
        exact ⟨rfl, rfl, rfl, rfl, rfl⟩
      · have line : (Clc.enterState n st u.clc).line = u.clc.line := (congrArg Clc.line keeps :)
        rw [line]
        exact id
    exact (((modNode n (node_entering st) s).trans entered).trans (notify (n := .node n st) (by simp [Notice.bit]) _)).trans (wtbTake _ _ _)

theorem rejoin (n : NodeIx) (s : State) : StaysReset s (Machine.rejoin n s) := by
  unfold Machine.rejoin
  split_ifs
  · exact (modNode n (f := Node.rejoined) (fun x => ⟨rfl, rfl, rfl, rfl, rfl⟩) s).trans (setNodeState n .joining _)
  · exact refl s

theorem coachReset (s : State) : StaysReset s (Machine.coachReset s) := by
  intro quiet
  have reset : Machine.coachReset s = handLine s.clc.line (Machine.eachIx 6 Machine.rejoin
      (endPass (.refuse .aborted) (s.modClc Clc.resetting))) := rfl
  rw [reset, endPass_of_none (s.modClc Clc.resetting) quiet.pass]
  have taken : StaysReset s (s.modClc Clc.resetting) := by
    refine clc s rfl ⟨rfl, rfl, rfl⟩ (fun n => ?_) fun _ => nofun
    have node : s.clc.resetting.nodes[n] = { s.clc.nodes[n] with due := false } := s.clc.abandon_nodes n
    rw [node]
    exact ⟨rfl, rfl, rfl, rfl, rfl⟩
  refine (taken.trans (.trans (eachIx rejoin _) ?_)) quiet
  unfold handLine
  split_ifs
  · exact refl _
  · exact wtbTake _ _ _

/-! ## A channel leaves OFF -/

theorem setDisagree (b : Bool) (s : State) : StaysReset s (Machine.setDisagree b s) := by
  unfold Machine.setDisagree
  split_ifs
  · exact refl s
  · exact (pcu s rfl rfl ⟨rfl, rfl, rfl⟩).trans (wtbTake _ _ _)

theorem gduChannel (ch : ChannelIx) (st : ChannelState) (s : State) : StaysReset s (Machine.gduChannel ch st s) := by
  refine gdu s rfl fun g => ?_
  have gauge := gduChannel_gauge ch st s g
  have cfg : (Machine.gduChannel ch st s).gdu.gauges[g].cfg = s.gdu.gauges[g].cfg := by
    rw [gauge]
    split_ifs
    · exact (Gdu.goCalled_keeps _ _).2.1
    · rfl
  exact cfg

theorem clcRoadLive (b : Bool) (s : State) : StaysReset s (Machine.clcRoadLive b s) := by
  unfold Machine.clcRoadLive
  split_ifs
  · exact refl s
  · exact (clc s rfl ⟨rfl, rfl, rfl⟩ fun n => ⟨rfl, rfl, rfl, rfl, rfl⟩).trans (mark _ _)

/-- The TAU hears of the channels while the road source is not LIVE (R60). -/
theorem tauRoadLive (engine : Bool) (s : State) : StaysReset s (Machine.tauRoadLive false (tauEngine engine s)) := by
  intro quiet
  unfold Machine.tauRoadLive
  dsimp only
  have before : (tauEngine engine s).tau.roadLive = false := quiet.road
  rw [before, if_neg (by decide)]
  exact ⟨{ KeptMemorySame.refl s with }, rfl, { quiet with road := rfl }⟩

theorem takeChannel (ch : ChannelIx) (st : ChannelState) (engine : Bool) (b : Block) (s : State) :
    StaysReset s (Machine.takeChannel ch st engine false b s) := by
  cases b
  case gdu => exact gduChannel ch st s
  case wtb =>
    show StaysReset s (wtbChannel ch st engine false s)
    unfold wtbChannel
    exact wtbTake _ _ s
  case tau => exact tauRoadLive engine s
  case svs => exact svs (f := fun v => { v with roadLive := false }) s rfl
  case clc => exact clcRoadLive false s
  all_goals exact refl s

/-- A channel starts afresh (R17). -/
theorem changeChannel (ch : ChannelIx) {f : Channel → Channel} (cfg : ∀ c, (f c).cfg = c.cfg)
    (still : ∀ c, (f c).state ≠ .live) (s : State) : StaysReset s (Machine.changeChannel ch f s) := by
  intro quiet
  have recorded : StaysReset s (s.modChannel ch f) := fun quiet => ⟨{ KeptMemorySame.refl s with
      channels := fun c => by
        rw [State.modChannel_channels, updAt_get]
        split_ifs
        · rename_i same
          rw [cfg, same]
        · rfl }, rfl, { quiet with
      channels := fun c => by
        rw [State.modChannel_channels, updAt_get]
        split_ifs
        · exact still _
        · exact quiet.channels c }⟩
  by_cases same : (f s.pcu.channels[ch]).state = s.pcu.channels[ch].state
  · rw [changeChannel_of_same same]
    exact recorded quiet
  · rw [changeChannel_of_changed same]
    have recordedIs : channelRecorded ch f s = s.modChannel ch f := if_neg fun live => quiet.channels ch live.1
    have road : (s.modChannel ch f).pcu.roadLive = false := decide_eq_false ((recorded quiet).rests.channels _)
    rw [recordedIs, road]
    exact (recorded.trans (hand (takeChannel ch _ _) _ _)) quiet

/-! ## The blocks -/

theorem pcuRunEntry (s : State) : StaysReset s (Machine.pcuRunEntry s) := by
  have each (ch : ChannelIx) (u : State) :
      StaysReset u (Machine.changeChannel ch (fun c => Channel.restarted c.cfg) u) := by
    refine changeChannel ch (f := fun c => Channel.restarted c.cfg) (fun c => rfl) (fun c => ?_) u
    unfold Channel.restarted
    dsimp only
    split_ifs <;> exact nofun
  have opened (u : State) : StaysReset u (u.modPcu fun p => { p with
      power := .run, gate := some p.cal.window.ms, roadSource := .ch0, cross := CrossCheck.zero }) :=
    pcu (f := fun p => { p with
      power := .run, gate := some p.cal.window.ms, roadSource := .ch0, cross := CrossCheck.zero }) u rfl rfl ⟨rfl, rfl, rfl⟩
  unfold Machine.pcuRunEntry
  exact (inputs s _).trans ((opened _).trans ((setDisagree false _).trans (eachIx each _)))

theorem gduRunEntry (s : State) : StaysReset s (Machine.gduRunEntry s) := by
  refine gdu s rfl fun g => ?_
  dsimp only
  rw [mapAll_get]
  unfold Gdu.runGauge
  split_ifs
  · exact (Gdu.goCalled_keeps _ _).2.1
  · rfl

theorem tauPower (p : PowerState) (s : State) : StaysReset s (Machine.tauPower p s) := fun quiet =>
  ⟨{ KeptMemorySame.refl s with }, rfl, { quiet with road := quiet.road }⟩

theorem chsRun (s : State) : StaysReset s (chsPower .run s) := by
  unfold chsPower
  dsimp only
  split_ifs
  · exact chs s (congrArg Chs.patterns (Chs.choose_keeps _) :)
  · exact chs s rfl

theorem lkpPower (p : PowerState) (s : State) : StaysReset s (Machine.lkpPower p s) := fun quiet =>
  ⟨{ KeptMemorySame.refl s with }, rfl, { quiet with mask := quiet.mask }⟩

/-- The CLC's copy of the power state, before what it does besides. -/
theorem clcPower (p : PowerState) (s : State) : StaysReset s (s.modClc fun c => { c with power := p }) :=
  clc (f := fun c => { c with power := p }) s rfl ⟨rfl, rfl, rfl⟩ fun _ => ⟨rfl, rfl, rfl, rfl, rfl⟩

theorem svsPower (p : PowerState) (s : State) : StaysReset s (Machine.svsPower p s) :=
  svs (f := fun v => { v with power := p }) s rfl

theorem wtbRunEntry (s : State) : StaysReset s (Machine.wtbRunEntry s) := by
  unfold Machine.wtbRunEntry
  exact (wtb s rfl rfl rfl).trans (evaluateWhere _ _)

theorem wtbCrank (p : PowerState) (s : State) : StaysReset s (Machine.wtbCrank p s) := by
  unfold Machine.wtbCrank
  exact wtbTake _ _ s

theorem takeRunEntry (b : Block) (s : State) : StaysReset s (Machine.takeRunEntry b s) := by
  cases b
  case pcu => exact pcuRunEntry s
  case gdu => exact gduRunEntry s
  case tau => exact tauPower .run s
  case clk => exact refl s
  case wtb => exact wtbRunEntry s
  case chs => exact chsRun s
  case svs => exact svsPower .run s
  case clc => exact (clcPower .run s).trans (coachReset _)
  case lkp => exact lkpPower .run s

theorem takeCrank (b : Block) (s : State) : StaysReset s (Machine.takeCrank .crank b s) := by
  cases b
  case pcu => exact pcu (f := fun x => { x with power := .crank }) s rfl rfl ⟨rfl, rfl, rfl⟩
  case gdu => exact gdu (f := fun d => { d with power := .crank }) s rfl fun g => rfl
  case tau => exact tauPower .crank s
  case clk => exact refl s
  case wtb => exact wtbCrank .crank s
  case chs => exact chs (f := fun c => { c with power := .crank, player := none }) s rfl
  case svs => exact svsPower .crank s
  case clc => exact clcPower .crank s
  case lkp => exact lkpPower .crank s

theorem enterRun (s : State) : StaysReset s (Machine.enterRun s) := (igs s _).trans (hand takeRunEntry _ _)

theorem enterCrank (s : State) : StaysReset s (Machine.enterCrank .crank s) := (igs s _).trans (hand takeCrank _ _)

end StaysReset

end Sys2Proof.Machine
end


section
/-! What a reset of a part with the ignition on or off ends with: the power state the lines give, its one POWER notice,
and the Link Port empty (R175, R195). -/

namespace Sys2Proof.Machine

-- One theorem at a time, so that a build as one text needs few threads.
set_option Elab.async false

/-! ## The IGS through the entries -/

/-- No block changes the IGS as it takes a power state (R172). -/
theorem hand_entry_igs {take : Block → State → State} (parts : ∀ b s, OnlyChanges (entryParts b) s (take b s))
    (targets : List Block) (s : State) : (hand targets take s).igs = s.igs :=
  List.foldlRecOn (motive := fun u : State => u.igs = s.igs) _ _ rfl fun u same b _ => by
    have apart : Part.igs ∉ entryParts b := by cases b <;> decide
    exact (parts b u .igs apart).trans same

theorem enterRun_igs (s : State) : (enterRun s).igs = { s.igs with power := .run } :=
  hand_entry_igs (fun b u => takeRunEntry_parts u b) _ _

theorem enterParked_igs (s : State) : (enterParked s).igs = { s.igs with power := .parked } :=
  hand_entry_igs (fun b u => takeParkedEntry_parts u b) _ _

theorem enterCrank_igs (p : PowerState) (s : State) : (enterCrank p s).igs = { s.igs with power := p } :=
  hand_entry_igs (fun b u => takeCrank_parts u p b) _ _

/-! ## After the blocks have been reset -/

/-- The power state the lines bring about (R170, R175). -/
def powerOfLines (lines : InputLines) : PowerState :=
  if lines.ign then (if lines.crank then .crank else .run) else .parked

/-- The POWER notice of a reset, of which the CRANK notice takes the place (R175, R189, log 30). -/
def noticeOfLines (lines : InputLines) (cause : PowerCause) : Notice :=
  if lines.ign then (if lines.crank then .power .crank .crankOn else .power .run cause) else .power .parked cause

/-- A part just reset, in PARKED, with its POWER notice queued. -/
structure ResetDone (lines : InputLines) (cause : PowerCause) (s : State) : Prop where
  rests : JustReset s
  power : AllIn .parked s
  ign : s.igs.ign = lines.ign
  crank : s.igs.crank = lines.crank
  notices : s.lkp.notices = [.power (powerAfter lines) cause]
  idle : s.lkp.tx = .idle
  replies : s.lkp.replies = []
  hold : s.lkp.txHold = true

/-- What the end of such a reset leaves. -/
structure ResetEnds (lines : InputLines) (cause : PowerCause) (s t : State) : Prop where
  memory : KeptMemorySame s t
  igs : t.igs = { s.igs with power := powerOfLines lines }
  copies : PowerCopiesOk t
  lkp : t.lkp = { s.lkp with power := t.lkp.power, notices := [noticeOfLines lines cause] }
  settled : settle t = t

section
variable {lines : InputLines} {cause : PowerCause} {s t : State}

/-- With no pass-through, no line to run on and a transmitter that waits, the end of the event finds nothing to do. -/
theorem settle_of_rests (rests : JustReset s) (replies : s.lkp.replies = []) (hold : s.lkp.txHold = true) :
    settle s = s := by
  have busy : s.clc.lineFree = false := Clc.lineFree_eq_false (.inl rests.line)
  rw [settle_of_no_work (fun r mem => absurd (replies ▸ mem) List.not_mem_nil) fun free => absurd (busy.symm.trans free) nofun]
  exact if_neg fun ready => Bool.noConfusion (hold.symm.trans ready.2)

/-- What the operations of a reset keep of a part just reset is enough for the end of the event (R175). -/
theorem ResetEnds.of_kept (kept : ResetKept s t) (done : ResetDone lines cause s)
    (igs : t.igs = { s.igs with power := powerOfLines lines }) (copies : PowerCopiesOk t)
    (same : noticeOfLines lines cause = .power (powerAfter lines) cause) : ResetEnds lines cause s t where
  memory := kept.memory
  igs := igs
  copies := copies
  lkp := by
    rw [same, ← done.notices]
    exact kept.lkp
  settled := by
    refine settle_of_rests kept.rests ?_ ?_
    · rw [kept.lkp]; exact done.replies
    · rw [kept.lkp]; exact done.hold

/-- The CRANK notice takes the place of the one queued (R189, log 30). -/
theorem notify_crank_lkp (mask : s.lkp.mask = powerMask) {p : PowerState} {c : PowerCause}
    (notices : s.lkp.notices = [.power p c]) :
    (s.notify (.power .crank .crankOn)).lkp = { s.lkp with notices := [.power .crank .crankOn] } := by
  have on : ¬ s.lkp.mask.getLsbD (Notice.power .crank .crankOn).bit = false := by
    rw [mask]
    decide
  have taken : s.lkp.takeNotice (.power .crank .crankOn) = { s.lkp with notices := [.power .crank .crankOn] } := by
    unfold Lkp.takeNotice
    rw [if_neg on, notices]
    rfl
  exact taken

/-- Run entry, and CRANK where the line is on, after a reset (R170, R175). -/
theorem enterRun_ends (done : ResetDone lines cause s) (on : lines.ign = true) :
    ResetEnds lines cause s (crankIfOn (enterRun s)) := by
  have kept := StaysReset.enterRun s done.rests
  have copies := (enterRun_inStep s).power done.power.2
  have igs := enterRun_igs s
  generalize enterRun s = u at kept copies igs ⊢
  have run : u.igs.power = .run := by rw [igs]
  have crankIs : u.igs.crank = lines.crank := by rw [igs]; exact done.crank
  unfold crankIfOn
  rw [run, crankIs]
  by_cases crank : lines.crank = true
  · rw [if_pos ⟨rfl, crank⟩]
    unfold crankStart
    have notices : u.lkp.notices = [.power (powerAfter lines) cause] := by rw [kept.lkp]; exact done.notices
    have lkp := notify_crank_lkp kept.rests.mask notices
    have power := (notify_inStep u (.power .crank .crankOn)).power copies
    have rests : JustReset (u.notify (.power .crank .crankOn)) :=
      { kept.rests with mask := by rw [lkp]; exact kept.rests.mask }
    have memory : KeptMemorySame u (u.notify (.power .crank .crankOn)) := .byProducts (.notify _ u)
    have same : (u.notify (.power .crank .crankOn)).igs = u.igs := rfl
    generalize u.notify (.power .crank .crankOn) = v at lkp power rests memory same ⊢
    have cranked := StaysReset.enterCrank v rests
    have copied := (enterCrank_inStep v .crank).power power
    have ends := enterCrank_igs .crank v
    generalize enterCrank .crank v = w at cranked copied ends ⊢
    have whole : w.lkp = { s.lkp with power := w.lkp.power, notices := [noticeOfLines lines cause] } := by
      rw [noticeOfLines, if_pos on, if_pos crank, cranked.lkp, lkp, kept.lkp]
    exact {
      memory := kept.memory.trans (memory.trans cranked.memory)
      igs := by rw [ends, same, igs, powerOfLines, if_pos on, if_pos crank]
      copies := copied
      lkp := whole
      settled := settle_of_rests cranked.rests (by rw [whole]; exact done.replies) (by rw [whole]; exact done.hold) }
  · rw [if_neg fun both => crank both.2]
    refine .of_kept kept done ?_ copies ?_
    · rw [igs, powerOfLines, if_pos on, if_neg crank]
    · rw [noticeOfLines, powerAfter, if_pos on, if_neg crank, if_pos on]

/-- A reset with the ignition off ends in PARKED (R175). -/
theorem parked_ends (done : ResetDone lines cause s) (off : lines.ign = false) : ResetEnds lines cause s s := by
  have no : ¬ lines.ign = true := by rw [off]; exact nofun
  refine .of_kept (.mk (.refl s) rfl done.rests) done ?_ done.power.2 ?_
  · rw [powerOfLines, if_neg no, ← done.power.1]
  · rw [noticeOfLines, powerAfter, if_neg no, if_neg no]

/-- What the operations before Run entry keep leaves a part just reset (R175). -/
theorem ResetDone.kept (done : ResetDone lines cause s) (kept : ResetKept s t) (igs : t.igs = s.igs)
    (copies : PowerCopiesOk t) : ResetDone lines cause t where
  rests := kept.rests
  power := ⟨by rw [igs]; exact done.power.1, copies⟩
  ign := by rw [igs]; exact done.ign
  crank := by rw [igs]; exact done.crank
  notices := by rw [kept.lkp]; exact done.notices
  idle := by rw [kept.lkp]; exact done.idle
  replies := by rw [kept.lkp]; exact done.replies
  hold := by rw [kept.lkp]; exact done.hold

theorem ResetEnds.after {u : State} (kept : ResetKept s t) (igs : t.igs = s.igs) (ends : ResetEnds lines cause t u) :
    ResetEnds lines cause s u where
  memory := kept.memory.trans ends.memory
  igs := by rw [ends.igs, igs]
  copies := ends.copies
  lkp := by rw [ends.lkp, kept.lkp]
  settled := ends.settled

/-- A Line or Restart reset's end (R102, R159, R175): the evaluation, the Coach reset and Run entry. -/
theorem resetEnds (done : ResetDone lines cause s) : ResetEnds lines cause s
    (let e := evaluateWhere (fun c => c.enabled && c.parkedLive) s
     if lines.ign then crankIfOn (enterRun (coachReset e)) else e) := by
  dsimp only
  have kept := StaysReset.evaluateWhere (fun c => c.enabled && c.parkedLive) s done.rests
  have igs : (evaluateWhere (fun c => c.enabled && c.parkedLive) s).igs = s.igs :=
    (ByProducts.evaluateWhere _ s).frame .igs (by decide)
  have copies := (InStep.byProducts (.evaluateWhere (fun c => c.enabled && c.parkedLive) s)).power done.power.2
  generalize evaluateWhere (fun c => c.enabled && c.parkedLive) s = e at kept igs copies ⊢
  have evaluated := done.kept kept igs copies
  by_cases on : lines.ign = true
  · rw [if_pos on]
    have rejoins := StaysReset.coachReset e evaluated.rests
    have same : (coachReset e).igs = e.igs := coachReset_only e .igs (by decide)
    have joined := evaluated.kept rejoins same ((coachReset_inStep e).power copies)
    exact .after kept igs (.after rejoins same (enterRun_ends joined on))
  · rw [if_neg on]
    exact .after kept igs (parked_ends evaluated (Bool.eq_false_iff.mpr on))

end

end Sys2Proof.Machine
end


section
/-! The Supply, Line and Restart resets, the fall of BATT, and the RESET line (R168, R171, R175, R176, R178, R179). -/

namespace Sys2Proof.Machine

-- One theorem at a time, so that a build as one text needs few threads.
set_option Elab.async false

/-! ## The RESET line -/

section
variable (tick : Nat) (raw : RawLines) (s : State)

theorem lineReset_mem_tickCommands (lines : InputLines) : .lineReset lines ∈ tickCommands tick raw s ↔
    holdEnds resetHold (resetLow raw s) s.inputs.resetFor = true ∧ lines = raw.lines := by
  rw [mem_tickCommands_of_line _ _ _ (fun _ _ => by simp) (fun _ => by simp)]
  unfold ignCommand crankCommand resetCommand
  split_ifs <;> simp_all

theorem resetLineHigh_mem_tickCommands : .resetLineHigh ∈ tickCommands tick raw s ↔
    holdEnds resetHold (resetLow raw s) s.inputs.resetFor = false ∧ raw.lines.reset = true ∧ s.igs.resetArmed = false := by
  rw [mem_tickCommands_of_line _ _ _ (fun _ _ => by simp) (fun _ => by simp)]
  unfold ignCommand crankCommand resetCommand
  split_ifs <;> simp_all

end

/-! ## The reset of the blocks -/

/-- The POWER notice is the one a reset LKP holds (R175, R195). -/
theorem atReset_takeNotice (odometer clock : Bool) (p : PowerState) (cause : PowerCause) :
    (Lkp.atReset odometer clock).takeNotice (.power p cause) =
      { Lkp.atReset odometer clock with notices := [.power p cause] } := by
  have on : ¬ (Lkp.atReset odometer clock).mask.getLsbD (Notice.power p cause).bit = false :=
    (by decide : ¬ powerMask.getLsbD 0 = false)
  unfold Lkp.takeNotice
  rw [if_neg on]
  rfl

section
variable (cause : ResetCause) (armed : Bool) (lines : InputLines) (s : State)

/-- The part as a Line or Restart reset has its blocks, its POWER notice queued (R175). -/
def resetTold : State := (resetAll cause armed lines s).notify (.power (powerAfter lines) cause.powerCause)

theorem resetTold_channel (ch : ChannelIx) :
    (resetTold cause armed lines s).pcu.channels[ch] = Channel.off s.pcu.channels[ch].cfg :=
  mapAll_get (fun c : Channel => Channel.off c.cfg) s.pcu.channels ch

theorem resetTold_slot (n : SlotIx) : (resetTold cause armed lines s).gdu.slots[n] = s.gdu.slots[n].reset :=
  mapAll_get Slot.reset s.gdu.slots n

theorem resetTold_gauge (g : GaugeIx) :
    (resetTold cause armed lines s).gdu.gauges[g] = Gauge.unknown s.gdu.gauges[g].cfg :=
  mapAll_get (fun x : Gauge => Gauge.unknown x.cfg) s.gdu.gauges g

theorem resetTold_entry (w : EntryIx) :
    (resetTold cause armed lines s).wtb.entries[w] = Entry.idle s.wtb.entries[w].cfg :=
  resetAll_entries cause armed lines s w

theorem resetTold_lamp (l : LampIx) :
    (resetTold cause armed lines s).wtb.lamps[l] = { s.wtb.lamps[l] with host := .off } :=
  mapAll_get (fun x : Lamp => ({ x with host := .off } : Lamp)) s.wtb.lamps l

theorem resetTold_switch (n : SwitchIx) :
    (resetTold cause armed lines s).wtb.switches[n] = { s.wtb.switches[n] with level := lines.switches[n] } :=
  Vector.getElem_ofFn n.isLt

theorem resetTold_item (i : ItemIx) :
    (resetTold cause armed lines s).svs.items[i] = { s.svs.items[i] with state := s.svs.items[i].decided } :=
  mapAll_get (fun it : ServiceItem => ({ it with state := it.decided } : ServiceItem)) s.svs.items i

theorem resetTold_node (n : NodeIx) : (resetTold cause armed lines s).clc.nodes[n] = s.clc.nodes[n].reset :=
  mapAll_get Node.reset s.clc.nodes n

theorem resetTold_lkp : (resetTold cause armed lines s).lkp =
    { Lkp.atReset (s.tau.odometerState = .invalid) (s.clk.state = .unset) with
      notices := [.power (powerAfter lines) cause.powerCause] } := atReset_takeNotice _ _ _ _

theorem resetTold_memory : KeptMemorySame s (resetTold cause armed lines s) where
  channels ch := by rw [resetTold_channel]; rfl
  calibration := rfl
  residues := ⟨rfl, rfl, rfl⟩
  slots n := by rw [resetTold_slot]; exact ⟨rfl, rfl⟩
  gauges g := by rw [resetTold_gauge]; rfl
  trips := rfl
  clock := rfl
  switches n := by rw [resetTold_switch]
  entries w := by rw [resetTold_entry]; rfl
  lamps l := by rw [resetTold_lamp]
  patterns := rfl
  items i := by rw [resetTold_item]
  nodes n := by rw [resetTold_node]; exact ⟨rfl, rfl, rfl, rfl, rfl⟩
  coachOptions := ⟨rfl, rfl, rfl⟩

theorem resetTold_agrees (k : Copy) : Agrees k (resetTold cause armed lines s) :=
  notify_inStep _ _ k (resetAll_agrees cause armed lines s k)

theorem resetTold_done : ResetDone lines cause.powerCause (resetTold cause armed lines s) where
  rests := {
    channels := fun ch => by rw [resetTold_channel]; exact nofun
    road := rfl
    pass := rfl
    line := nofun
    mask := congrArg Lkp.mask (resetTold_lkp cause armed lines s) }
  power := ⟨rfl, powerCopiesOk_iff.mpr fun b => resetTold_agrees cause armed lines s (.power b)⟩
  ign := rfl
  crank := rfl
  notices := congrArg Lkp.notices (resetTold_lkp cause armed lines s)
  idle := congrArg Lkp.tx (resetTold_lkp cause armed lines s)
  replies := congrArg Lkp.replies (resetTold_lkp cause armed lines s)
  hold := congrArg Lkp.txHold (resetTold_lkp cause armed lines s)

theorem keptReset_told : keptReset cause armed lines s =
    (let e := evaluateWhere (fun c => c.enabled && c.parkedLive) (resetTold cause armed lines s)
     if lines.ign then crankIfOn (enterRun (coachReset e)) else e) := by
  rw [keptReset_eq]
  have told : (resetAll cause armed lines s).notify (.power (powerAfter lines) cause.powerCause) =
    resetTold cause armed lines s := rfl
  rw [told]
  dsimp only
  have ign : (evaluateWhere (fun c => c.enabled && c.parkedLive) (resetTold cause armed lines s)).igs.ign = lines.ign :=
    congrArg Igs.ign ((ByProducts.evaluateWhere _ _).frame .igs (by decide))
  generalize evaluateWhere (fun c => c.enabled && c.parkedLive) (resetTold cause armed lines s) = e at ign ⊢
  have joined : (coachReset e).igs.ign = lines.ign := (congrArg Igs.ign (coachReset_only e .igs (by decide))).trans ign
  unfold runAfterReset
  rw [ign]
  by_cases on : lines.ign = true
  · rw [if_pos on, if_pos on, joined, if_pos on]
  · rw [if_neg on, if_neg on, ign, if_neg on]

theorem keptReset_ends :
    ResetEnds lines cause.powerCause (resetTold cause armed lines s) (keptReset cause armed lines s) := by
  rw [keptReset_told]
  exact resetEnds (resetTold_done cause armed lines s)

end

end Sys2Proof.Machine
end


section
/-! ResetsHappen: what every reset does, and what brings the resets of the RESET line about. -/

namespace Sys2Proof.Machine

-- One theorem at a time, so that a build as one text needs few threads.
set_option Elab.async false

section
variable {lines : InputLines} {cause : PowerCause} {s t : State}

theorem allIn_powerOfLines (ends : ResetEnds lines cause s t) :
    AllIn (if lines.ign then (if lines.crank then .crank else .run) else .parked) t :=
  ⟨by rw [ends.igs]; rfl, ends.copies⟩

/-- What the host and the Link Port see of a Line or Restart reset (R171, R175, R176, R195). -/
theorem keptReset_seen (cause : ResetCause) (armed : Bool) (lines : InputLines) (u s : State)
    (memory : KeptMemorySame s u) :
    settle (keptReset cause armed lines u) = keptReset cause armed lines u ∧
      KeptMemorySame s (keptReset cause armed lines u) ∧
      (keptReset cause armed lines u).igs = { Igs.atReset cause lines armed with power := powerOfLines lines } ∧
      PowerCopiesOk (keptReset cause armed lines u) ∧
      (keptReset cause armed lines u).lkp = { Lkp.atReset (u.tau.odometerState = .invalid) (u.clk.state = .unset) with
        power := (keptReset cause armed lines u).lkp.power, notices := [noticeOfLines lines cause.powerCause] } := by
  have ends := keptReset_ends cause armed lines u
  refine ⟨ends.settled, memory.trans ((resetTold_memory cause armed lines u).trans ends.memory), ends.igs, ends.copies, ?_⟩
  have lkp := ends.lkp
  rw [resetTold_lkp] at lkp
  exact lkp

/-- A Supply reset with the ignition on ends as the lines have it (R175, R179). -/
theorem supplied_done (lines : InputLines) (s : State) : ResetDone lines .supply
    ((State.supplied lines s.inputs s.free s.pending).notify (.power (powerAfter lines) .supply)) where
  rests := {
    channels := by
      have off : ∀ ch : ChannelIx, Pcu.supply.channels[ch].state ≠ .live := by decide
      exact off
    road := rfl
    pass := rfl
    line := nofun
    mask := congrArg Lkp.mask (atReset_takeNotice true true (powerAfter lines) .supply) }
  power := ⟨rfl, powerCopiesOk_iff.mpr fun b => notify_inStep _ _ _ (supplied_agrees lines _ _ _ (.power b))⟩
  ign := rfl
  crank := rfl
  notices := congrArg Lkp.notices (atReset_takeNotice true true (powerAfter lines) .supply)
  idle := congrArg Lkp.tx (atReset_takeNotice true true (powerAfter lines) .supply)
  replies := congrArg Lkp.replies (atReset_takeNotice true true (powerAfter lines) .supply)
  hold := congrArg Lkp.txHold (atReset_takeNotice true true (powerAfter lines) .supply)

theorem supplyReset_ends (lines : InputLines) (s : State) (on : lines.ign = true) : ResetEnds lines .supply
    ((State.supplied lines s.inputs s.free s.pending).notify (.power (powerAfter lines) .supply)) (supplyReset lines s) := by
  have done := supplied_done lines s
  unfold supplyReset
  generalize (State.supplied lines s.inputs s.free s.pending).notify (.power (powerAfter lines) .supply) = u at done ⊢
  unfold runAfterReset
  rw [done.ign, if_pos on]
  exact enterRun_ends done on

theorem supplyReset_off (lines : InputLines) (s : State) (off : lines.ign = false) : supplyReset lines s =
    (State.supplied lines s.inputs s.free s.pending).modLkp fun l => { l with notices := [.power .parked .supply] } := by
  have no : ¬ lines.ign = true := by rw [off]; exact nofun
  have power : powerAfter lines = .parked := if_neg no
  have stays : supplyReset lines s =
      (State.supplied lines s.inputs s.free s.pending).notify (.power (powerAfter lines) .supply) := if_neg no
  rw [stays, power]
  exact congrArg (fun l => { State.supplied lines s.inputs s.free s.pending with lkp := l })
    (atReset_takeNotice true true .parked .supply)

/-- The last stop bit of RESTART's Answer resets the part (R176, R193). -/
theorem transmissionComplete_restart {lines : InputLines} {f : OutFrame} (sending : s.lkp.tx = .sending f)
    (reply : f.isReply = true) (restart : f.kind = 0x43) : transmissionComplete lines s =
      keptReset .restart s.igs.resetArmed lines (s.modLkp (Lkp.frameSent f)) := by
  have answer : f.isRestartAnswer = true := by
    unfold OutFrame.isRestartAnswer
    rw [reply, restart]
    rfl
  unfold transmissionComplete
  rw [sending]
  dsimp only
  rw [if_pos answer]
  rfl

theorem lineReset_of (armed : s.igs.resetArmed = true) (low : lines.reset = false) :
    lineReset lines s = keptReset .line false lines s := if_pos ⟨armed, by rw [low]; exact nofun⟩

end

/-- Settles O23: every block at its reset values, then the evaluation, the Coach reset, Run entry and CRANK, of which
each keeps Kept Memory and leaves the Link Port but for the one POWER notice. -/
theorem resetsHappen : Obligations.ResetsHappen := by
  unfold Obligations.ResetsHappen
  intro resets notice
  have told (cause : ResetCause) (armed : Bool) (lines : InputLines) (c : Instr) (s u : State)
      (happens : exec c s = .next (settle (keptReset cause armed lines u))) (sent : OnlyChanges [.lkp] s u) :
      resets c lines s := by
    have pcu : u.pcu = s.pcu := sent.pcu_eq (by decide)
    have gdu : u.gdu = s.gdu := sent.gdu_eq (by decide)
    have tau : u.tau = s.tau := sent.tau_eq (by decide)
    have wtb : u.wtb = s.wtb := sent.wtb_eq (by decide)
    have chs : u.chs = s.chs := sent .chs (by decide)
    have svs : u.svs = s.svs := sent .svs (by decide)
    have clc : u.clc = s.clc := sent.clc_eq (by decide)
    have agrees := resetTold_agrees cause armed lines u
    have memory := (KeptMemorySame.of_link sent).trans (resetTold_memory cause armed lines u)
    rw [keptReset_told] at happens
    refine ⟨resetTold cause armed lines u, happens, (resetTold_done cause armed lines u).power, ?_, ?_, memory, ?_, rfl,
      fun n => ?_, fun g => ?_, ?_, rfl, fun w => ?_, fun l => ?_, fun n => ?_, ?_, fun i => ?_, ?_, fun n => ?_⟩
    · exact pulseCopiesOk_iff.mpr ⟨agrees _, agrees _, agrees _, agrees _, agrees _, agrees _, agrees _, agrees _, agrees _,
        agrees _⟩
    · exact stateCopiesOk_iff.mpr ⟨agrees _, agrees _, agrees _, agrees _, agrees _, agrees _, agrees _, agrees _, agrees _⟩
    · rw [← pcu]; rfl
    · rw [resetTold_slot, gdu]; rfl
    · rw [resetTold_gauge, gdu]; rfl
    · rw [← tau]; rfl
    · rw [resetTold_entry, wtb]; rfl
    · rw [resetTold_lamp, wtb]
    · rw [resetTold_switch, wtb]
    · rw [← chs]; rfl
    · rw [resetTold_item, svs]
    · rw [← clc]; rfl
    · rw [resetTold_node, clc]; rfl
  refine ⟨⟨fun lines s off => ?_, fun lines s on => ?_, fun s supplied => ?_⟩,
    ⟨fun lines s supplied armed low => ?_, fun lines s supplied idle => ?_, fun s supplied => ?_,
      fun lines f s supplied sending reply restart => ?_⟩,
    fun lines s supplied => ⟨fun armed low => ?_, fun f sending reply restart => ?_⟩,
    fun raw rest s supplied idle waits => ?_, fun lines inputs free pending => ?_⟩
  · have happens : exec (.supplyReset lines) s = .next (settle (supplyReset lines s)) := rfl
    rw [happens, supplyReset_off lines s off]
  · have ends := supplyReset_ends lines s on
    have happens : exec (.supplyReset lines) s = .next (settle (supplyReset lines s)) := rfl
    have pending : (supplyReset lines s).pending = s.pending := (supplyReset_only s lines).pending_eq (by decide)
    have power := allIn_powerOfLines ends
    rw [if_pos on] at power
    rw [ends.settled] at happens
    exact ⟨_, happens, power, congrArg Igs.cause ends.igs, congrArg Igs.supplied ends.igs, congrArg Lkp.notices ends.lkp,
      (KeptMemorySame.byProducts (.notify _ _)).trans ends.memory, pending⟩
  · have happens : exec .battBelowRetention s = .next (settle (losePower s)) := takeEvent_supplied supplied
    have only := settle_only (losePower s)
    exact ⟨_, happens, congrArg Igs.supplied (only .igs (by decide)),
      (settle_pending _).trans ((losePower_only s).pending_eq (by decide))⟩
  · obtain ⟨settled, memory, igs, copies, lkp⟩ := keptReset_seen .line false lines s s (.refl s)
    have happens : exec (.lineReset lines) s = .next (settle (lineReset lines s)) := takeEvent_supplied supplied
    rw [lineReset_of armed low, settled] at happens
    refine ⟨_, happens, memory, ?_⟩
    generalize keptReset .line false lines s = t at igs copies lkp ⊢
    rw [lkp]
    exact ⟨congrArg Igs.cause igs, congrArg Igs.resetArmed igs, ⟨congrArg Igs.power igs, copies⟩, rfl, rfl, rfl, rfl, rfl, rfl,
      rfl, rfl, rfl, rfl⟩
  · have happens : exec (.lineReset lines) s = .next (settle (lineReset lines s)) := takeEvent_supplied supplied
    have stays : lineReset lines s = s := if_neg fun both => by
      obtain ⟨armed, low⟩ := both
      exact idle.elim (fun off => Bool.noConfusion (off.symm.trans armed)) low
    rw [happens, stays]
  · exact takeEvent_supplied supplied
  · obtain ⟨settled, memory, igs, copies, lkp⟩ := keptReset_seen .restart s.igs.resetArmed lines
      (s.modLkp (Lkp.frameSent f)) s (.of_link (modLkp_only s _))
    have happens : exec (.transmissionComplete lines) s = .next (settle (transmissionComplete lines s)) :=
      takeEvent_supplied supplied
    rw [transmissionComplete_restart sending reply restart, settled] at happens
    refine ⟨_, happens, memory, ?_⟩
    generalize keptReset .restart s.igs.resetArmed lines (s.modLkp (Lkp.frameSent f)) = t at igs copies lkp ⊢
    rw [lkp]
    exact ⟨congrArg Igs.cause igs, ⟨congrArg Igs.power igs, copies⟩, rfl, rfl, rfl, rfl, rfl, rfl, rfl, rfl⟩
  · refine told .line false lines _ s s ?_ (.refl _ _)
    rw [← lineReset_of armed low]
    exact takeEvent_supplied supplied
  · refine told .restart s.igs.resetArmed lines _ s (s.modLkp (Lkp.frameSent f)) ?_ (modLkp_only s _)
    rw [← transmissionComplete_restart sending reply restart]
    exact takeEvent_supplied supplied
  · obtain ⟨t, stepped, pending, inputs⟩ := step_tick supplied idle waits
    have resetFor : t.inputs.resetFor = holdNext resetHold (resetLow raw s) s.inputs.resetFor := congrArg Inputs.resetFor inputs
    refine ⟨t, stepped, ?_⟩
    rw [pending, resetFor]
    simp only [lineReset_mem_tickCommands, resetLineHigh_mem_tickCommands]
    refine ⟨fun high => ?_, fun low => ?_⟩
    · have still : resetLow raw s = false := by unfold resetLow; rw [high]; exact Bool.and_false _
      rw [still]
      exact ⟨rfl, fun lines held => Bool.noConfusion held.1, fun waits => waits.2.2, fun off => ⟨rfl, high, off⟩⟩
    · have falls : resetLow raw s = s.igs.resetArmed := by unfold resetLow; rw [low]; exact Bool.and_true _
      rw [falls]
      refine ⟨fun waits => Bool.noConfusion (low.symm.trans waits.2.1), fun off lines held => ?_, fun armed short => ?_,
        fun armed long => ?_⟩
      · rw [off] at held
        exact Bool.noConfusion held.1
      · rw [armed]
        simp [holdNext, holdEnds, resetHold, short, Nat.not_le.mpr short]
      · rw [armed]
        simp [holdEnds, resetHold, long]
  · exact ⟨rfl, by intro ch; fin_cases ch <;> exact ⟨rfl, rfl⟩, rfl, rfl, rfl, rfl, rfl, rfl, rfl, rfl,
      fun n => Vector.getElem_replicate n.isLt, by intro g; fin_cases g <;> rfl, rfl, rfl,
      by intro w; fin_cases w <;> exact ⟨rfl, rfl⟩, fun n => Vector.getElem_ofFn n.isLt,
      fun l => Vector.getElem_replicate l.isLt, by intro p; fin_cases p <;> rfl, rfl, rfl, rfl,
      by intro i; fin_cases i <;> exact ⟨rfl, rfl⟩, fun n => Vector.getElem_ofFn n.isLt, rfl, rfl, rfl, rfl, rfl, rfl, rfl,
      rfl, rfl, rfl⟩

end Sys2Proof.Machine
end


section
/-! A change of the power state reaches every block, and a notice that waits when it begins still waits when it ends
(R172, R173, R189). -/

namespace Sys2Proof.Machine

-- One theorem at a time, so that a build as one text needs few threads.
set_option Elab.async false

/-! ## Every block has the power state -/

/-- Every block's copy is the power state the IGS enters, whatever it was before (R172). -/
theorem EntersPower.hand_power {p : PowerState} {take : Block → State → State}
    (takes : ∀ b s, EntersPower b p s (take b s)) (s : State) :
    PowerCopiesOk (Machine.hand allBlocks take (s.modIgs fun g => { g with power := p })) := by
  refine powerCopiesOk_iff.mpr fun b => ?_
  refine hand_reaches (b := b) (before := fun u : State => u.igs.power = p)
    (goal := fun u : State => Agrees (.power b) u) (by cases b <;> decide) (fun _ _ held => held)
    (fun u held => (takes b u).taken held) (fun c u _ held => ?_) (fun c u other held => ?_) rfl
  · rw [(takes c u).igs]
    exact held
  · exact (takes c u).others _ (fun same => other (Copy.power.inj same).symm) held

theorem enterRun_allIn (s : State) : AllIn .run (enterRun s) :=
  ⟨by rw [enterRun_igs], EntersPower.hand_power (fun b u => takeRunEntry_enters u b) s⟩

theorem enterParked_allIn (s : State) : AllIn .parked (enterParked s) :=
  ⟨by rw [enterParked_igs], EntersPower.hand_power (fun b u => takeParkedEntry_enters u b) s⟩

theorem enterCrank_allIn (p : PowerState) (s : State) : AllIn p (enterCrank p s) :=
  ⟨by rw [enterCrank_igs], EntersPower.hand_power (fun b u => takeCrank_enters u p b) s⟩

/-! ## A notice that waits -/

/-- A notice that waits goes on waiting, one that is told stays told, and the mask stands. -/
structure KeepsNotice (n : Notice) (s t : State) : Prop where
  mask : t.lkp.mask = s.lkp.mask
  waits : n ∈ s.lkp.notices → n ∈ t.lkp.notices
  told : s.lkp.Told n → t.lkp.Told n

namespace KeepsNotice
variable {n : Notice} {s t u : State}

theorem of_lkp (notices : t.lkp.notices = s.lkp.notices) (lost : t.lkp.noticesLost = s.lkp.noticesLost)
    (mask : t.lkp.mask = s.lkp.mask) : KeepsNotice n s t where
  mask := mask
  waits := by rw [notices]; exact id
  told := by unfold Lkp.Told; rw [notices, lost]; exact id

theorem of_only {ps : List Part} (h : OnlyChanges ps s t) (hp : Part.lkp ∉ ps := by decide) : KeepsNotice n s t := by
  have lkp := h.lkp_eq hp
  exact of_lkp (by rw [lkp]) (by rw [lkp]) (by rw [lkp])

theorem refl (s : State) : KeepsNotice n s s := of_lkp rfl rfl rfl

theorem trans (h : KeepsNotice n s t) (k : KeepsNotice n t u) : KeepsNotice n s u :=
  ⟨k.mask.trans h.mask, k.waits ∘ h.waits, k.told ∘ h.told⟩

theorem foldl {α : Type} {f : State → α → State} (h : ∀ s a, KeepsNotice n s (f s a)) (l : List α) (s : State) :
    KeepsNotice n s (l.foldl f s) :=
  List.foldlRecOn (motive := fun t => KeepsNotice n s t) _ _ (refl s) fun t walked a _ => walked.trans (h t a)

theorem eachIx {k : Nat} {f : Fin k → State → State} (h : ∀ i s, KeepsNotice n s (f i s)) (s : State) :
    KeepsNotice n s (Machine.eachIx k f s) := foldl (fun s i => h i s) _ s

theorem hand {take : Block → State → State} (h : ∀ b s, KeepsNotice n s (take b s)) (targets : List Block) (s : State) :
    KeepsNotice n s (Machine.hand targets take s) := (of_only (modFree_only s _)).trans (foldl (fun s b => h b s) _ _)

/-- A notice of another subject takes no other's place (R189). -/
theorem notify {m : Notice} (place : n.key = m.key → m = n) (s : State) : KeepsNotice n s (s.notify m) where
  mask := Lkp.takeNotice_mask m s.lkp
  waits := fun held => by
    show n ∈ (s.lkp.takeNotice m).notices
    unfold Lkp.takeNotice
    split_ifs
    · exact held
    · refine List.mem_map.mpr ⟨n, held, ?_⟩
      split_ifs with key
      · exact place key
      · rfl
    · exact held
    · exact List.mem_append_left _ held
  told := fun told => told.takeNotice place

theorem notices {bits : List Nat} (h : NoticesOnly bits s t) (other : n.bit ∉ bits) : KeepsNotice n s t where
  mask := h.mask_eq
  waits := fun held => by
    obtain ⟨ns, kinds, taken⟩ := h
    rw [taken]
    refine List.foldlRecOn (motive := fun l : Lkp => n ∈ l.notices) ns _ held fun l waits m mem => ?_
    have apart (key : n.key = m.key) : m = n := by
      have bit : n.bit = m.bit := congrArg Prod.fst key
      exact absurd (bit ▸ kinds m mem) other
    have each := notify apart
      { s with lkp := l }
    exact each.waits waits
  told := h.told other

theorem reply (entry : ReplyEntry) (kind tag : Byte) (resp : Response) (s : State) :
    KeepsNotice n s (s.reply entry kind tag resp) := by
  unfold State.reply
  split
  · exact of_lkp rfl rfl rfl
  · exact refl s

theorem endPass (resp : Response) (s : State) : KeepsNotice n s (Machine.endPass resp s) := by
  unfold Machine.endPass
  split
  · exact (of_only (modClc_only s _)).trans (reply _ _ _ _ _)
  · exact refl s

/-! ## The blocks -/

theorem wtbTake (quiet : n.bit ∉ NoticesOnly.warnBits) (f : WarnView → WarnView) (test : EntryConfig → Bool) (s : State) :
    KeepsNotice n s (Machine.wtbTake f test s) := notices (.wtbTake f test s) quiet

theorem setNodeState (quiet : n.bit ∉ NoticesOnly.warnBits) (other : n.bit ≠ 5) (k : NodeIx) (st : NodeState) (s : State) :
    KeepsNotice n s (Machine.setNodeState k st s) := by
  by_cases same : s.clc.nodes[k].state = st
  · rw [setNodeState_of_same same]
    exact refl s
  · rw [setNodeState_of_changed same]
    refine trans ?_ (notices (wtbNode_notices k st (nodeEntered k st s)) quiet)
    unfold nodeEntered
    refine (of_only ((modNode_only s k _).trans (modClc_only _ _))).trans (notify (fun key => ?_) _)
    exact absurd (congrArg Prod.fst key) other

theorem coachReset (quiet : n.bit ∉ NoticesOnly.warnBits) (other : n.bit ≠ 5) (s : State) :
    KeepsNotice n s (Machine.coachReset s) := by
  have joins (k : NodeIx) (u : State) : KeepsNotice n u (rejoin k u) := by
    unfold rejoin
    split_ifs
    · exact (of_only (modNode_only u k _)).trans (setNodeState quiet other k .joining _)
    · exact refl u
  have hands (old : LineState) (u : State) : KeepsNotice n u (handLine old u) := by
    unfold handLine
    split_ifs
    · exact refl u
    · exact notices (wtbLine_notices _ u) quiet
  unfold Machine.coachReset
  exact (((of_only (modClc_only s _)).trans (endPass _ _)).trans (eachIx joins _)).trans (hands _ _)

theorem setLine (quiet : n.bit ∉ NoticesOnly.warnBits) (st : LineState) (s : State) :
    KeepsNotice n s (Machine.setLine st s) := by
  unfold Machine.setLine
  split_ifs
  · exact refl s
  · exact (of_only (modClc_only s _)).trans (notices (wtbLine_notices _ _) quiet)

theorem pcuLoop (quiet : n.bit ∉ NoticesOnly.warnBits) (f : ChannelIx → Channel → Channel) (s : State) :
    KeepsNotice n s (Machine.eachIx 6 (fun ch s => changeChannel ch (f ch) s) (setDisagree false s)) :=
  (notices (.setDisagree false s) quiet).trans (eachIx (fun ch u => notices (.changeChannel ch (f ch) u) quiet) _)

/-- No block takes the place of a POWER notice at Run entry (R173). -/
theorem takeRunEntry (quiet : n.bit ∉ NoticesOnly.warnBits) (b : Block) (coach : b = .clc → n.bit ≠ 5) (s : State) :
    KeepsNotice n s (Machine.takeRunEntry b s) := by
  cases b
  case pcu =>
    show KeepsNotice n s (pcuRunEntry s)
    unfold pcuRunEntry
    exact ((of_only (modInputs_only s _)).trans (of_only (modPcu_only _ _))).trans
      (pcuLoop quiet (fun _ c => Channel.restarted c.cfg) _)
  case gdu => exact of_only (gduRunEntry_only s)
  case wtb =>
    show KeepsNotice n s (wtbRunEntry s)
    unfold wtbRunEntry
    exact (of_only (modWtb_only s _)).trans (notices (.evaluateWhere _ _) quiet)
  case clc =>
    have takes : Machine.takeRunEntry .clc s = Machine.coachReset (s.modClc fun c => { c with power := .run }) := rfl
    rw [takes]
    exact (of_only (modClc_only s _)).trans (coachReset quiet (coach rfl) _)
  case lkp => exact of_lkp (t := s.modLkp fun l => { l with power := .run }) rfl rfl rfl
  all_goals exact of_only (takeRunEntry_parts s _)

theorem takeCrank (quiet : n.bit ∉ NoticesOnly.warnBits) (p : PowerState) (b : Block) (s : State) :
    KeepsNotice n s (Machine.takeCrank p b s) := by
  cases b
  case wtb =>
    show KeepsNotice n s (wtbCrank p s)
    unfold wtbCrank
    exact wtbTake quiet _ _ s
  case lkp => exact of_lkp (t := s.modLkp fun l => { l with power := p }) rfl rfl rfl
  case pcu => exact of_only (modPcu_only s _)
  case gdu => exact of_only (gduCrank_only s p)
  case clc => exact of_only (modClc_only s _)
  all_goals exact of_only (takeCrank_parts s p _)

theorem parkEntry (quiet : n.bit ∉ NoticesOnly.warnBits) (w : EntryIx) (s : State) :
    KeepsNotice n s (Machine.parkEntry w s) := by
  have parked {u : State} (first : KeepsNotice n s u) : KeepsNotice n s (u.modEntry w fun e =>
      { e with qualifyTimer := none, repeatTimer := none, memory := false }) := first.trans (of_only (modEntry_only u w _))
  unfold Machine.parkEntry
  split
  · exact parked (notices (.leaveActive w .idle s) quiet)
  · exact parked (notices (.enterIdle w s) quiet)
  · exact parked (notices (.enterIdle w s) quiet)
  · exact parked (notices (.enterIdle w s) quiet)
  · exact parked (refl s)

theorem wtbParkedEntry (quiet : n.bit ∉ NoticesOnly.warnBits) (s : State) :
    KeepsNotice n s (Machine.wtbParkedEntry s) := by
  have turn (moved : Bool) (w : EntryIx) (u : State) : KeepsNotice n u (parkTurn moved w u) := by
    unfold parkTurn
    split_ifs
    · exact notices (.evaluateEntry w u) quiet
    · exact refl u
    · exact parkEntry quiet w u
  unfold Machine.wtbParkedEntry
  exact (of_only (modWtb_only s _)).trans (eachIx (turn _) _)

theorem clcParkedEntry (quiet : n.bit ∉ NoticesOnly.warnBits) (s : State) :
    KeepsNotice n s (Machine.clcParkedEntry s) := by
  unfold Machine.clcParkedEntry
  exact ((of_only (modClc_only s _)).trans (endPass _ _)).trans (setLine quiet .off _)

theorem endParking (place : n.key = (Notice.gauge .parked).key → Notice.gauge .parked = n) (s : State) :
    KeepsNotice n s (Machine.endParking s) := by
  unfold Machine.endParking
  split_ifs
  · exact (of_only (modGdu_only s _)).trans (notify place _)
  · exact refl s

/-- No block takes the place of a POWER notice at Parked entry (R173). -/
theorem takeParkedEntry (quiet : n.bit ∉ NoticesOnly.warnBits)
    (place : n.key = (Notice.gauge .parked).key → Notice.gauge .parked = n) (b : Block) (s : State) :
    KeepsNotice n s (Machine.takeParkedEntry b s) := by
  cases b
  case pcu =>
    show KeepsNotice n s (pcuParkedEntry s)
    unfold pcuParkedEntry
    exact (of_only (modPcu_only s _)).trans (pcuLoop quiet (fun _ c => Channel.off c.cfg) _)
  case gdu =>
    show KeepsNotice n s (gduParkedEntry s)
    unfold gduParkedEntry
    exact (of_only (modGdu_only s _)).trans (endParking place _)
  case wtb => exact wtbParkedEntry quiet s
  case clc => exact clcParkedEntry quiet s
  case lkp => exact of_lkp (t := s.modLkp fun l => { l with power := .parked }) rfl rfl rfl
  all_goals exact of_only (takeParkedEntry_parts s _)

end KeepsNotice

end Sys2Proof.Machine
end


section
/-! The WARNING notice of an evaluation: one for a change of the entry's state, of that entry alone (R97, R189). -/

namespace Sys2Proof.Machine

-- One theorem at a time, so that a build as one text needs few threads.
set_option Elab.async false

/-! ## Chime requests hand CHIME notices alone -/

namespace NoticesOnly

/-- The mask bit of the CHIME notices (Table 65). -/
abbrev chimeBits : List Nat := [2]

theorem requestEnd_chimes (w : EntryIx) (s : State) : NoticesOnly chimeBits s (Machine.wtbRequestEnd w s) := by
  unfold Machine.wtbRequestEnd
  split_ifs
  · split
    · exact .of_only (modEntry_only s w _)
    · exact .refl s
  · exact .refl s

theorem handEnd_chimes (o : ChimeOutcome) (r : ChimeRequest) (s : State) :
    NoticesOnly chimeBits s (Machine.handEnd o r s) := by
  unfold Machine.handEnd
  split
  · exact requestEnd_chimes _ s
  · split
    · exact .notify (by simp [Notice.bit]) s
    · exact .refl s
  · exact .refl s
  · exact .refl s

theorem handNotQueued_chimes (src : ChimeSource) (s : State) :
    NoticesOnly chimeBits s (Machine.handNotQueued src s) := by
  unfold Machine.handNotQueued
  split
  · exact requestEnd_chimes _ s
  all_goals exact .refl s

theorem takeChime_chimes (r : ChimeRequest) (s : State) : NoticesOnly chimeBits s (Machine.takeChime r s).1 := by
  unfold Machine.takeChime
  split
  · split_ifs
    · exact (handEnd_chimes _ _ s).trans (.of_only (modChs_only _ _))
    · exact .refl s
  · split_ifs
    · exact .of_only (modChs_only s _)
    · split
      · split_ifs
        · exact (handEnd_chimes _ _ s).trans (.of_only (modChs_only _ _))
        · exact handNotQueued_chimes _ s
      · exact handNotQueued_chimes _ s

theorem handWarningChime_chimes (w : EntryIx) (s : State) :
    NoticesOnly chimeBits s (Machine.handWarningChime w s) := by
  unfold Machine.handWarningChime
  split
  · exact takeChime_chimes _ s
  · exact .refl s

end NoticesOnly

/-! ## The notice of a move -/

section
variable (w : EntryIx) (s : State)

/-- An entry that moves hands one WARNING notice with its new state, behind CHIME notices alone (R97). -/
theorem moveEntry_lkp (holds : Bool) :
    (s.wtb.entries[w].moved holds = s.wtb.entries[w].state ∧ moveEntry w holds s = s) ∨
    ∃ u, NoticesOnly NoticesOnly.chimeBits s u ∧
      (moveEntry w holds s).lkp = u.lkp.takeNotice (.warning w (s.wtb.entries[w].moved holds)) := by
  have reported {f : Entry → Entry} {chime : State → State} (old new : EntryState)
      (chimes : ∀ u, NoticesOnly NoticesOnly.chimeBits u (chime u)) : ∃ u, NoticesOnly NoticesOnly.chimeBits s u ∧
        (reportEntry w old new (chime (s.modEntry w f))).lkp = u.lkp.takeNotice (.warning w new) :=
    ⟨chime (s.modEntry w f), (NoticesOnly.of_only (modEntry_only s w f)).trans (chimes _), reportEntry_lkp _ _ _ _⟩
  have active : ∃ u, NoticesOnly NoticesOnly.chimeBits s u ∧ (enterActive w s).lkp = u.lkp.takeNotice (.warning w .active) :=
    reported _ _ (NoticesOnly.handWarningChime_chimes w)
  have idle : ∃ u, NoticesOnly NoticesOnly.chimeBits s u ∧ (enterIdle w s).lkp = u.lkp.takeNotice (.warning w .idle) :=
    reported (chime := id) _ _ .refl
  unfold moveEntry Entry.moved
  cases st : s.wtb.entries[w].state <;> cases holds <;> dsimp only
  case idle.true =>
    right
    by_cases zero : s.wtb.entries[w].cfg.qualify = 0
    · rw [if_pos zero, if_pos zero]
      exact active
    · rw [if_neg zero, if_neg zero]
      exact reported (chime := id) _ _ .refl
  case pending.false => exact .inr idle
  case active.false => exact .inr (reported _ _ fun u => .of_only (modChs_only u _))
  case acked.false => exact .inr idle
  case resolved.true => exact .inr active
  all_goals exact .inl ⟨rfl, rfl⟩

/-- The state an evaluation moves an entry to. -/
def Wtb.evaluatedState (t : Wtb) (e : Entry) : EntryState := e.moved (t.holds e)

/-- An evaluation hands a WARNING notice for a change of the entry's state (R92, R97). -/
theorem evaluateEntry_lkp (awake : ¬ (s.wtb.view.power = .parked ∧ ¬ s.wtb.entries[w].cfg.parkedLive)) :
    (s.wtb.evaluatedState s.wtb.entries[w] = s.wtb.entries[w].state ∧ (evaluateEntry w s).lkp = s.lkp) ∨
    ∃ u, NoticesOnly NoticesOnly.chimeBits s u ∧
      (evaluateEntry w s).lkp = u.lkp.takeNotice (.warning w (s.wtb.evaluatedState s.wtb.entries[w])) := by
  unfold evaluateEntry
  dsimp only
  rw [if_neg awake]
  set written := s.modEntry w fun e => { e with memory := s.wtb.sourceCondition s.wtb.entries[w] } with hw
  have entry : written.wtb.entries[w] =
      { s.wtb.entries[w] with memory := s.wtb.sourceCondition s.wtb.entries[w] } := by
    rw [hw, State.modEntry_entries, updAt_get_same]
  have only : OnlyChanges [.wtb] s written := modEntry_only s w _
  have moved := moveEntry_lkp w written (s.wtb.entries[w].cfg.enabled && s.wtb.sourceCondition s.wtb.entries[w] &&
    s.wtb.gateTrue s.wtb.entries[w].cfg.gate1 && s.wtb.gateTrue s.wtb.entries[w].cfg.gate2)
  clear_value written
  rw [entry] at moved
  rcases moved with ⟨same, stays⟩ | ⟨u, chimes, lkp⟩
  · left
    exact ⟨same, by rw [stays]; exact only.lkp_eq (by decide)⟩
  · right
    exact ⟨u, (NoticesOnly.of_only only).trans chimes, lkp⟩

end

namespace KeepsNotice
variable {s : State} {w : EntryIx} {st : EntryState}

/-- A notice that only the entry's own notice could take the place of, and that is the same. -/
theorem evaluateEntry_of {n : Notice} (quiet : n.bit ∉ NoticesOnly.chimeBits) (v : EntryIx) (s : State)
    (place : n.key = (Notice.warning v (s.wtb.evaluatedState s.wtb.entries[v])).key →
      Notice.warning v (s.wtb.evaluatedState s.wtb.entries[v]) = n) : KeepsNotice n s (evaluateEntry v s) := by
  by_cases asleep : s.wtb.view.power = .parked ∧ ¬ s.wtb.entries[v].cfg.parkedLive
  · have idle : evaluateEntry v s = s := if_pos asleep
    rw [idle]
    exact refl s
  · rcases evaluateEntry_lkp v s asleep with ⟨-, lkp⟩ | ⟨u, chimes, lkp⟩
    · exact of_lkp (by rw [lkp]) (by rw [lkp]) (by rw [lkp])
    · have taken := (notices chimes quiet).trans (notify place u)
      exact ⟨by rw [lkp]; exact taken.mask, by rw [lkp]; exact taken.waits, by rw [lkp]; exact taken.told⟩

/-- The evaluation of another entry leaves an entry's WARNING notice (R189). -/
theorem evaluateOther {v : EntryIx} (other : v ≠ w) (s : State) : KeepsNotice (.warning w st) s (evaluateEntry v s) :=
  evaluateEntry_of (by simp [Notice.bit]) v s fun key => absurd (Fin.ext (congrArg Prod.snd key :)) (Ne.symm other)

end KeepsNotice

/-- A change by an evaluation is told under the mask (R97, R189). -/
theorem evaluateEntry_told {w : EntryIx} {s : State}
    (awake : ¬ (s.wtb.view.power = .parked ∧ ¬ s.wtb.entries[w].cfg.parkedLive))
    (changed : s.wtb.evaluatedState s.wtb.entries[w] ≠ s.wtb.entries[w].state) (on : s.lkp.mask.getLsbD 1 = true) :
    (evaluateEntry w s).lkp.Told (.warning w (s.wtb.evaluatedState s.wtb.entries[w])) := by
  rcases evaluateEntry_lkp w s awake with ⟨same, -⟩ | ⟨u, chimes, lkp⟩
  · exact absurd same changed
  · rw [lkp]
    refine Lkp.told_takeNotice ?_
    rw [chimes.mask_eq]
    exact on

end Sys2Proof.Machine
end


section
/-! A warning entry through Run entry: whose source the Run entry leaves as it is, it ends as its condition with the RUN
gate moves it, however often and in whatever order the blocks have it evaluated (R91, R92, R93, R101). -/

namespace Sys2Proof.Machine

-- One theorem at a time, so that a build as one text needs few threads.
set_option Elab.async false

/-! ## The copies at Run entry -/

/-- A source that Run entry leaves as it is: what the entry sets to 0, ends or starts afresh is so already. -/
def WarnSource.Stays (v : WarnView) : WarnSource → Prop
  | .valueAbove x | .valueBelow x =>
    match x with
    | .roadSpeed => v.roadSpeed = 0
    | .engineSpeed => v.engineSpeed = 0
    | .checkSpeed => v.checkSpeed = 0
    | .range | .slot _ => True
  | .channelFault ch => v.channels[ch] ≠ .fault
  | .speedDisagree => v.disagree = false
  | .nodeLost n => v.nodes[n] ≠ .lost
  | .lineFault => v.line ≠ .fault
  | .switch _ | .slotStale _ | .fuelImplausible | .service _ | .linkCondition | .odometerInvalid | .clockUnset
  | .arrival => True

/-- Copies as the operations of Run entry change them, for an entry of this source. -/
structure WarnView.EntersRun (src : WarnSource) (v v' : WarnView) : Prop where
  stays : src.Stays v'
  engine : v'.engineRunning = false
  road : v'.roadLive = false
  slots : v'.slotStates = v.slotStates ∧ v'.slotValues = v.slotValues
  items : v'.items = v.items
  flags : v'.odometer = v.odometer ∧ v'.clock = v.clock ∧ v'.implausible = v.implausible
  range : v'.range = v.range

section
variable {t t' : Wtb} {e : Entry}

/-- Between such copies the source condition is the same. -/
theorem sourceCondition_entersRun (stays : e.cfg.source.Stays t.view) (switches : t'.switches = t.switches)
    (h : t.view.EntersRun e.cfg.source t'.view) : t'.sourceCondition e = t.sourceCondition e := by
  obtain ⟨stays', -, -, ⟨slotStates, slotValues⟩, items, ⟨odometer, clock, implausible⟩, range⟩ := h
  have values (x : WarnValue) (zero : (WarnSource.valueAbove x).Stays t.view)
      (zero' : (WarnSource.valueAbove x).Stays t'.view) : t'.valueOf x = t.valueOf x := by
    unfold Wtb.valueOf
    cases x
    case roadSpeed => exact congrArg (fun k : Nat => some (k : Int)) (zero'.trans zero.symm)
    case engineSpeed => exact congrArg (fun k : Nat => some (k : Int)) (zero'.trans zero.symm)
    case checkSpeed => exact congrArg (fun k : Nat => some (k : Int)) (zero'.trans zero.symm)
    case range => dsimp only; rw [range]
    case slot n => dsimp only; rw [slotStates, slotValues]
  unfold Wtb.sourceCondition
  cases source : e.cfg.source <;> rw [source] at stays stays' <;> dsimp only
  case valueAbove x => rw [values x stays stays']
  case valueBelow x => rw [values x stays stays']
  case switch n => rw [switches]
  case channelFault ch => rw [decide_eq_false stays, decide_eq_false stays']
  case slotStale n => rw [slotStates]
  case speedDisagree => exact stays'.trans stays.symm
  case fuelImplausible => exact implausible
  case service i => rw [items]
  case nodeLost n => rw [decide_eq_false stays, decide_eq_false stays']
  case lineFault => rw [decide_eq_false stays, decide_eq_false stays']
  case odometerInvalid => rw [odometer]
  case clockUnset => rw [clock]

/-- Every gate but RUN decides as before. -/
theorem gateTrue_entersRun {src : WarnSource} {g : Gate} (other : g ≠ .run) (engine : t.view.engineRunning = false)
    (road : t.view.roadLive = false) (switches : t'.switches = t.switches) (h : t.view.EntersRun src t'.view) :
    t'.gateTrue g = t.gateTrue g := by
  unfold Wtb.gateTrue
  cases g
  case run => exact absurd rfl other
  case engine => exact h.engine.trans engine.symm
  case moving => exact h.road.trans road.symm
  case still => exact congrArg not (h.road.trans road.symm)
  case switchOn n => dsimp only; rw [switches]
  case switchOff n => dsimp only; rw [switches]
  case none => rfl

end

/-! ## The entry -/

/-- What the statement asks of an entry and the WTB as Run entry begins. -/
structure RunStart (w : EntryIx) (t : Wtb) : Prop where
  ok : EntryOk t.entries[w]
  parked : EntryParkedOk t.view.power t.entries[w]
  enabled : t.entries[w].cfg.enabled = true
  stays : t.entries[w].cfg.source.Stays t.view
  engine : t.view.engineRunning = false
  road : t.view.roadLive = false

/-- The condition of an entry as it is in RUN (R91). -/
def Wtb.runHolds (t : Wtb) (w : EntryIx) : Bool := (t.withPower .run).holds t.entries[w]

/-- The state Run entry takes an entry to (R93, R101). -/
def Wtb.runState (t : Wtb) (w : EntryIx) : EntryState := t.entries[w].moved (t.runHolds w)

/-- An entry in the course of Run entry: as it was, or as it ends; `done` once the WTB has taken its own part. -/
structure RunsEntry (w : EntryIx) (t : Wtb) (on done : Prop) (u : State) : Prop where
  switches : u.wtb.switches = t.switches
  view : t.view.EntersRun t.entries[w].cfg.source u.wtb.view
  power : u.wtb.view.power = .parked → t.view.power = .parked
  cfg : u.wtb.entries[w].cfg = t.entries[w].cfg
  pending : u.wtb.entries[w].eventPending = t.entries[w].eventPending
  link : u.wtb.entries[w].linkCondition = t.entries[w].linkCondition
  memory : u.wtb.entries[w].memory = t.entries[w].memory ∨
    u.wtb.entries[w].memory = t.sourceCondition t.entries[w]
  state : u.wtb.entries[w].state = t.entries[w].state ∨ u.wtb.entries[w].state = t.runState w
  gated : u.wtb.view.power = .parked → t.entries[w].cfg.gate1 = .run ∨ t.entries[w].cfg.gate2 = .run →
    u.wtb.entries[w].state = t.entries[w].state
  mask : on → u.lkp.mask.getLsbD 1 = true
  told : on → u.wtb.entries[w].state ≠ t.entries[w].state → u.lkp.Told (.warning w (t.runState w))
  ends : done → u.wtb.view.power ≠ .parked ∧ u.wtb.entries[w].state = t.runState w

section
variable {w : EntryIx} {t : Wtb} {on done : Prop} {u v : State}

theorem Entry.moved_congr {e e' : Entry} (cfg : e'.cfg = e.cfg) (state : e'.state = e.state) (holds : Bool) :
    e'.moved holds = e.moved holds := by
  unfold Entry.moved
  rw [cfg, state]

/-- A move by the same condition moves no further (R93). -/
theorem Entry.moved_moved {e e' : Entry} {holds : Bool} (cfg : e'.cfg = e.cfg) (state : e'.state = e.moved holds) :
    e'.moved holds = e.moved holds := by
  have taken := e.taken_state holds
  have again := e.taken_moved holds
  rw [taken] at again
  rw [← again]
  exact Entry.moved_congr (cfg.trans (e.taken_kept holds).1.symm) (state.trans taken.symm) holds

namespace RunsEntry

theorem start (begins : RunStart w t) (same : u.wtb = t) (mask : on → u.lkp.mask.getLsbD 1 = true) :
    RunsEntry w t on False u where
  switches := by rw [same]
  view := by
    rw [same]
    exact ⟨begins.stays, begins.engine, begins.road, ⟨rfl, rfl⟩, rfl, ⟨rfl, rfl, rfl⟩, rfl⟩
  power := by rw [same]; exact id
  cfg := by rw [same]
  pending := by rw [same]
  link := by rw [same]
  memory := .inl (by rw [same])
  state := .inl (by rw [same])
  gated := fun _ _ => by rw [same]
  mask := mask
  told := fun _ differs => absurd (by rw [same]) differs
  ends := False.elim

/-- The source condition is the one with which Run entry began, remembered or not (R88, R92). -/
theorem source (h : RunsEntry w t on done u) (begins : RunStart w t) :
    u.wtb.sourceCondition u.wtb.entries[w] = t.sourceCondition t.entries[w] := by
  have reads : u.wtb.sourceCondition u.wtb.entries[w] = t.sourceCondition u.wtb.entries[w] := by
    refine sourceCondition_entersRun ?_ h.switches ?_
    · rw [h.cfg]
      exact begins.stays
    · rw [h.cfg]
      exact h.view
  rw [reads]
  rcases h.memory with memory | memory
  · exact sourceCondition_congr h.cfg memory h.pending h.link
  · refine Eq.trans ?_ (sourceCondition_stable begins.ok.2.2.2)
    exact sourceCondition_congr (e := { t.entries[w] with memory := t.sourceCondition t.entries[w] }) h.cfg memory h.pending
      h.link

/-- Once the power state is not PARKED, or the entry is not gated by RUN, its condition is that of RUN. -/
theorem holds_run (h : RunsEntry w t on done u) (begins : RunStart w t)
    (free : u.wtb.view.power = .parked → ¬ (t.entries[w].cfg.gate1 = .run ∨ t.entries[w].cfg.gate2 = .run)) :
    u.wtb.holds u.wtb.entries[w] = t.runHolds w := by
  have gate (g : Gate) (mem : g = t.entries[w].cfg.gate1 ∨ g = t.entries[w].cfg.gate2) :
      u.wtb.gateTrue g = (t.withPower .run).gateTrue g := by
    by_cases run : g = .run
    · subst run
      have awake : u.wtb.view.power ≠ .parked := fun parked => free parked (mem.imp Eq.symm Eq.symm)
      exact (decide_eq_true awake).trans rfl
    · exact (gateTrue_entersRun run begins.engine begins.road h.switches h.view).trans
        (by cases g <;> first | rfl | exact absurd rfl run)
  have source : (t.withPower .run).sourceCondition t.entries[w] = t.sourceCondition t.entries[w] := by
    refine sourceCondition_of_values (fun x _ => by cases x <;> rfl) (fun _ _ => rfl) (fun _ _ => rfl)
      ⟨rfl, rfl, rfl, rfl, rfl, rfl, rfl⟩
  unfold Wtb.runHolds Wtb.holds
  rw [h.source begins, source, h.cfg, gate _ (.inl rfl), gate _ (.inr rfl)]

/-- The state an evaluation gives is that of RUN, but for an entry gated by RUN in PARKED, which stands still. -/
theorem evaluatedState (h : RunsEntry w t on done u) (begins : RunStart w t) :
    (¬ (u.wtb.view.power = .parked ∧ (t.entries[w].cfg.gate1 = .run ∨ t.entries[w].cfg.gate2 = .run)) ∧
        u.wtb.evaluatedState u.wtb.entries[w] = t.runState w) ∨
      (u.wtb.view.power = .parked ∧ (t.entries[w].cfg.gate1 = .run ∨ t.entries[w].cfg.gate2 = .run) ∧
        u.wtb.evaluatedState u.wtb.entries[w] = u.wtb.entries[w].state) := by
  by_cases asleep : u.wtb.view.power = .parked ∧ (t.entries[w].cfg.gate1 = .run ∨ t.entries[w].cfg.gate2 = .run)
  · right
    obtain ⟨parked, gated⟩ := asleep
    refine ⟨parked, gated, ?_⟩
    have shut : u.wtb.gateTrue .run = false := decide_eq_false fun awake => awake parked
    have off : u.wtb.holds u.wtb.entries[w] = false := by
      unfold Wtb.holds
      rw [h.cfg]
      rcases gated with gate | gate
      · rw [gate, shut, Bool.and_false, Bool.false_and]
      · rw [gate, shut, Bool.and_false]
    have rests := (begins.parked (h.power parked)).2 gated
    have same := h.gated parked gated
    unfold Wtb.evaluatedState Entry.moved
    rw [off, same]
    rcases rests with idle | resolved
    · rw [idle]
    · rw [resolved]
  · left
    refine ⟨asleep, ?_⟩
    unfold Wtb.evaluatedState Wtb.runState
    rw [h.holds_run begins fun parked gated => asleep ⟨parked, gated⟩]
    rcases h.state with same | moved
    · exact Entry.moved_congr h.cfg same _
    · exact Entry.moved_moved h.cfg moved

/-- What leaves the WTB but for repeat timers and other entries, and the notice of this entry. -/
theorem left (h : RunsEntry w t on done u) (kept : EntryLeft w u v) (notice : KeepsNotice (.warning w (t.runState w)) u v) :
    RunsEntry w t on done v := by
  obtain ⟨wtb, timer, entry, -⟩ := kept
  have view : v.wtb.view = u.wtb.view := by rw [wtb]
  have switches : v.wtb.switches = u.wtb.switches := by rw [wtb]
  exact {
    switches := switches.trans h.switches
    view := by rw [view]; exact h.view
    power := by rw [view]; exact h.power
    cfg := by rw [entry]; exact h.cfg
    pending := by rw [entry]; exact h.pending
    link := by rw [entry]; exact h.link
    memory := by rw [entry]; exact h.memory
    state := by rw [entry]; exact h.state
    gated := by rw [entry, view]; exact h.gated
    mask := fun isOn => by rw [notice.mask]; exact h.mask isOn
    told := fun isOn => by rw [entry]; exact fun differs => notice.told (h.told isOn differs)
    ends := by rw [entry, view]; exact h.ends }

/-- What leaves the WTB. -/
theorem of_wtb (h : RunsEntry w t on done u) (same : v.wtb = u.wtb)
    (notice : KeepsNotice (.warning w (t.runState w)) u v) : RunsEntry w t on done v :=
  h.left ((Rearmed.of_wtb same).left w) notice

end RunsEntry

/-- The state of an evaluated entry, and the copies, which stand (R92). -/
theorem evaluateEntry_state (awake : ¬ (u.wtb.view.power = .parked ∧ ¬ u.wtb.entries[w].cfg.parkedLive)) :
    (evaluateEntry w u).wtb.entries[w].state = u.wtb.evaluatedState u.wtb.entries[w] ∧
      (evaluateEntry w u).wtb.view = u.wtb.view := by
  obtain ⟨wtb, timer, entry, -⟩ := (evaluateEntry_rearmed w u awake).left w
  rw [State.modEntry_entries, updAt_get_same] at entry
  refine ⟨?_, by rw [wtb]; rfl⟩
  rw [entry]
  exact Entry.taken_state (u.wtb.holds u.wtb.entries[w])
    { u.wtb.entries[w] with memory := u.wtb.sourceCondition u.wtb.entries[w] }

namespace RunsEntry

/-- An evaluation of the entry leaves it as it was or takes it where RUN takes it. -/
theorem evaluated (h : RunsEntry w t on done u) (begins : RunStart w t)
    (awake : ¬ (u.wtb.view.power = .parked ∧ ¬ u.wtb.entries[w].cfg.parkedLive)) :
    RunsEntry w t on done (evaluateEntry w u) := by
  have rearmed := evaluateEntry_rearmed w u awake
  obtain ⟨wtb, timer, entry, -⟩ := rearmed.left w
  rw [State.modEntry_entries, updAt_get_same] at entry
  obtain ⟨state, view⟩ := evaluateEntry_state awake
  have switches : (evaluateEntry w u).wtb.switches = u.wtb.switches := by rw [wtb]; rfl
  obtain ⟨cfg, memory, pending, link⟩ := Entry.taken_kept (u.wtb.holds u.wtb.entries[w])
    { u.wtb.entries[w] with memory := u.wtb.sourceCondition u.wtb.entries[w] }
  have mask : (evaluateEntry w u).lkp.mask = u.lkp.mask := (NoticesOnly.evaluateEntry w u).mask_eq
  have outcome := h.evaluatedState begins
  exact {
    switches := switches.trans h.switches
    view := by rw [view]; exact h.view
    power := by rw [view]; exact h.power
    cfg := by rw [entry]; exact cfg.trans h.cfg
    pending := by rw [entry]; exact pending.trans h.pending
    link := by rw [entry]; exact link.trans h.link
    memory := .inr (by rw [entry]; exact memory.trans (h.source begins))
    state := by
      rw [state]
      rcases outcome with ⟨-, moved⟩ | ⟨parked, gated, same⟩
      · exact .inr moved
      · exact .inl (same.trans (h.gated parked gated))
    gated := fun parked gated => by
      rw [view] at parked
      rw [state]
      rcases outcome with ⟨awake, -⟩ | ⟨-, -, same⟩
      · exact absurd ⟨parked, gated⟩ awake
      · exact same.trans (h.gated parked gated)
    mask := fun isOn => by rw [mask]; exact h.mask isOn
    told := fun isOn differs => by
      rw [state] at differs
      rcases outcome with ⟨-, moved⟩ | ⟨parked, gated, same⟩
      · by_cases changed : u.wtb.evaluatedState u.wtb.entries[w] = u.wtb.entries[w].state
        · rw [changed] at differs
          refine (KeepsNotice.evaluateEntry_of (by simp [Notice.bit]) w u fun _ => ?_).told (h.told isOn differs)
          rw [moved]
        · rw [← moved]
          exact evaluateEntry_told awake changed (h.mask isOn)
      · exact absurd (same.trans (h.gated parked gated)) differs
    ends := fun finished => by
      obtain ⟨power, -⟩ := h.ends finished
      rw [view, state]
      rcases outcome with ⟨-, moved⟩ | ⟨parked, -, -⟩
      · exact ⟨power, moved⟩
      · exact absurd parked power }

/-- An evaluation of any entries. -/
theorem evaluateWhere (h : RunsEntry w t on done u) (begins : RunStart w t) (test : EntryConfig → Bool) :
    RunsEntry w t on done (Machine.evaluateWhere test u) := by
  refine eachIx_induct h fun k v held => ?_
  split_ifs
  · by_cases own : k = w
    · subst own
      by_cases asleep : v.wtb.view.power = .parked ∧ ¬ v.wtb.entries[k].cfg.parkedLive
      · have idle : evaluateEntry k v = v := if_pos asleep
        rw [idle]
        exact held
      · exact held.evaluated begins asleep
    · exact held.left (evaluateEntry_left own v) (.evaluateOther own v)
  · exact held

/-- A change of the copies that Run entry makes. -/
theorem viewed (h : RunsEntry w t on done u) {f : Wtb → Wtb} (entries : (f u.wtb).entries = u.wtb.entries)
    (switches : (f u.wtb).switches = u.wtb.switches) (view : t.view.EntersRun t.entries[w].cfg.source (f u.wtb).view)
    (power : (f u.wtb).view.power = .parked → u.wtb.view.power = .parked) : RunsEntry w t on done (u.modWtb f) := by
  have record : (u.modWtb f).wtb.entries = u.wtb.entries := entries
  exact {
    switches := switches.trans h.switches
    view := view
    power := fun parked => h.power (power parked)
    cfg := by rw [record]; exact h.cfg
    pending := by rw [record]; exact h.pending
    link := by rw [record]; exact h.link
    memory := by rw [record]; exact h.memory
    state := by rw [record]; exact h.state
    gated := fun parked => by rw [record]; exact h.gated (power parked)
    mask := h.mask
    told := by rw [record]; exact h.told
    ends := fun finished => by
      obtain ⟨awake, state⟩ := h.ends finished
      rw [record]
      exact ⟨fun parked => awake (power parked), state⟩ }

theorem wtbTake (h : RunsEntry w t on done u) (begins : RunStart w t) {f : WarnView → WarnView}
    (view : t.view.EntersRun t.entries[w].cfg.source (f u.wtb.view))
    (power : (f u.wtb.view).power = u.wtb.view.power ∨ (f u.wtb.view).power ≠ .parked) (test : EntryConfig → Bool) :
    RunsEntry w t on done (Machine.wtbTake f test u) := by
  refine (h.viewed (f := fun x => { x with view := f x.view }) rfl rfl view fun parked => ?_).evaluateWhere begins test
  rcases power with same | awake
  · rw [← same]
    exact parked
  · exact absurd parked awake

end RunsEntry

end

end Sys2Proof.Machine
end


section
/-! The blocks' parts of Run entry and CRANK, for a warning entry whose source they leave as it is (R92, R101). -/

namespace Sys2Proof.Machine

-- One theorem at a time, so that a build as one text needs few threads.
set_option Elab.async false

/-! ## What Run entry writes into the copies -/

section
variable {src : WarnSource} {v v' : WarnView}

theorem WarnView.EntersRun.disagree (h : v.EntersRun src v') : v.EntersRun src { v' with disagree := false } :=
  { h with
    stays := by
      have stays := h.stays
      cases src
      case speedDisagree => rfl
      all_goals exact stays }

theorem WarnView.EntersRun.node (h : v.EntersRun src v') (n : NodeIx) :
    v.EntersRun src { v' with nodes := v'.nodes.set n .joining } :=
  { h with
    stays := by
      have stays := h.stays
      cases src
      case nodeLost m =>
        show (v'.nodes.set n .joining)[m] ≠ .lost
        rw [set_get]
        split_ifs
        · exact nofun
        · exact stays
      all_goals exact stays }

theorem WarnView.EntersRun.line (h : v.EntersRun src v') {st : LineState} (sound : st ≠ .fault) :
    v.EntersRun src { v' with line := st } :=
  { h with
    stays := by
      have stays := h.stays
      cases src
      case lineFault => exact sound
      all_goals exact stays }

theorem WarnView.EntersRun.power (h : v.EntersRun src v') (p : PowerState) : v.EntersRun src { v' with power := p } :=
  { h with
    stays := by
      have stays := h.stays
      cases src
      all_goals exact stays }

/-- A channel that goes STILL or OFF while none is LIVE (R87, R88). -/
theorem WarnView.EntersRun.channel (h : v.EntersRun src v') (ch : ChannelIx) {st : ChannelState} (sound : st ≠ .fault) :
    v.EntersRun src (v'.takeChannel ch st false false) :=
  { h with
    engine := rfl
    road := rfl
    stays := by
      have stays := h.stays
      have values (x : WarnValue) (zero : (WarnSource.valueAbove x).Stays v') :
          (WarnSource.valueAbove x).Stays (v'.takeChannel ch st false false) := by
        cases x
        case roadSpeed => exact (ite_eq_left_iff.mpr fun _ => zero)
        case engineSpeed => exact (ite_eq_left_iff.mpr fun _ => zero)
        case checkSpeed => exact (ite_eq_left_iff.mpr fun _ => zero)
        all_goals trivial
      cases src
      case valueAbove x => exact values x stays
      case valueBelow x => exact values x stays
      case channelFault c =>
        show (v'.channels.set ch st)[c] ≠ .fault
        rw [set_get]
        split_ifs
        · exact sound
        · exact stays
      all_goals exact stays }

end

/-- The WTB takes a channel's state into its copies and evaluates (R87). -/
theorem wtbChannel_take (ch : ChannelIx) (st : ChannelState) (engine road : Bool) (s : State) :
    ∃ f test, wtbChannel ch st engine road s = wtbTake f test s ∧
      f s.wtb.view = s.wtb.view.takeChannel ch st engine road := by
  unfold wtbChannel
  dsimp only
  refine ⟨_, _, rfl, ?_⟩
  simp [WarnView.takeChannel]

namespace RunsEntry
variable {w : EntryIx} {t : Wtb} {on done : Prop} {u : State}

/-! ## The PCU -/

/-- What the entry is through Run entry while no channel is LIVE. -/
def Held (w : EntryIx) (t : Wtb) (on done : Prop) (u : State) : Prop :=
  RunsEntry w t on done u ∧ ∀ ch : ChannelIx, u.pcu.channels[ch].state ≠ .live

theorem setDisagree (h : RunsEntry w t on done u) (begins : RunStart w t) :
    RunsEntry w t on done (Machine.setDisagree false u) := by
  unfold Machine.setDisagree
  split_ifs
  · exact h
  · have written := h.of_wtb (v := u.modPcu fun p => { p with disagree := false }) rfl (.of_only (modPcu_only u _))
    exact written.wtbTake begins h.view.disagree (.inl rfl) _

theorem takeChannel (h : RunsEntry w t on done u) (begins : RunStart w t) (ch : ChannelIx) {st : ChannelState}
    (sound : st ≠ .fault) (b : Block) : RunsEntry w t on done (Machine.takeChannel ch st false false b u) := by
  cases b
  case gdu => exact h.of_wtb rfl (.of_only (gduChannel_only u ch st))
  case wtb =>
    obtain ⟨f, test, taken, view⟩ := wtbChannel_take ch st false false u
    show RunsEntry w t on done (wtbChannel ch st false false u)
    rw [taken]
    exact h.wtbTake begins (by rw [view]; exact h.view.channel ch sound) (.inl (by rw [view]; rfl)) test
  case tau =>
    have only : OnlyChanges [.tau] u (Machine.takeChannel ch st false false .tau u) :=
      (modTau_only u _).trans (tauRoadLive_only _ _)
    exact h.of_wtb (only.wtb_eq (by decide)) (.of_only only)
  case svs => exact h.of_wtb rfl (.of_only (modSvs_only u _))
  case clc =>
    have only : OnlyChanges [.clc] u (clcRoadLive false u) := clcRoadLive_only u false
    exact h.of_wtb (only.wtb_eq (by decide)) (.of_only only)
  all_goals exact h

/-- A channel starts afresh at Run entry (R17). -/
theorem changeChannel (begins : RunStart w t) (ch : ChannelIx) (h : Held w t on done u) :
    Held w t on done (Machine.changeChannel ch (fun c => Channel.restarted c.cfg) u) := by
  obtain ⟨runs, down⟩ := h
  have still (c : Channel) : (Channel.restarted c.cfg).state ≠ .live ∧ (Channel.restarted c.cfg).state ≠ .fault := by
    unfold Channel.restarted
    dsimp only
    split_ifs <;> exact ⟨nofun, nofun⟩
  have low (c : ChannelIx) : (u.modChannel ch fun c => Channel.restarted c.cfg).pcu.channels[c].state ≠ .live := by
    rw [State.modChannel_channels, updAt_get]
    split_ifs
    · exact (still _).1
    · exact down c
  refine ⟨?_, fun c => ?_⟩
  · have written := runs.of_wtb (v := u.modChannel ch fun c => Channel.restarted c.cfg) rfl
      (.of_only (modChannel_only u ch _))
    by_cases same : (Channel.restarted u.pcu.channels[ch].cfg).state = u.pcu.channels[ch].state
    · rw [changeChannel_of_same same]
      exact written
    · rw [changeChannel_of_changed same]
      have recordedIs : channelRecorded ch (fun c => Channel.restarted c.cfg) u =
          u.modChannel ch fun c => Channel.restarted c.cfg := if_neg fun live => down ch live.1
      have engine : (u.modChannel ch fun c => Channel.restarted c.cfg).pcu.engineRunning = false :=
        decide_eq_false (low 1)
      have road : (u.modChannel ch fun c => Channel.restarted c.cfg).pcu.roadLive = false := decide_eq_false (low _)
      rw [recordedIs, engine, road]
      exact hand_of_idle (goal := RunsEntry w t on done) (fun v f held => held.of_wtb rfl (.of_only (modFree_only v f)))
        (fun b v _ held => held.takeChannel begins ch (still _).2 b) written
  · rw [changeChannel_channels, updAt_get]
    split_ifs
    · exact (still _).1
    · exact down c

theorem pcuRunEntry (begins : RunStart w t) (h : Held w t on done u) : Held w t on done (Machine.pcuRunEntry u) := by
  obtain ⟨runs, down⟩ := h
  unfold Machine.pcuRunEntry
  dsimp only
  have opened : Held w t on done ((u.modInputs (Inputs.loadPulses fun ch => u.pcu.channels[ch].cfg.enabled)).modPcu fun p =>
      { p with power := .run, gate := some p.cal.window.ms, roadSource := .ch0, cross := CrossCheck.zero }) :=
    ⟨runs.of_wtb rfl (.of_only ((modInputs_only u _).comp (modPcu_only _ _) : OnlyChanges [.inputs, .pcu] _ _)), down⟩
  generalize (u.modInputs (Inputs.loadPulses fun ch => u.pcu.channels[ch].cfg.enabled)).modPcu (fun p =>
      { p with power := .run, gate := some p.cal.window.ms, roadSource := .ch0, cross := CrossCheck.zero }) = v at opened ⊢
  refine eachIx_induct ⟨opened.1.setDisagree begins, fun ch => ?_⟩ fun ch x held => changeChannel begins ch held
  rw [setDisagree_pcu]
  exact opened.2 ch

/-! ## The Coach Line -/

theorem setNodeState (h : RunsEntry w t on done u) (begins : RunStart w t) (n : NodeIx) :
    RunsEntry w t on done (Machine.setNodeState n .joining u) := by
  by_cases same : u.clc.nodes[n].state = .joining
  · rw [setNodeState_of_same same]
    exact h
  · rw [setNodeState_of_changed same]
    have entered : RunsEntry w t on done (nodeEntered n .joining u) := by
      refine h.of_wtb rfl ?_
      exact (KeepsNotice.of_only ((modNode_only u n _).trans (modClc_only _ _))).trans
        (.notify (fun key => absurd (congrArg Prod.fst key) (by simp [Notice.key, Notice.bit])) _)
    generalize nodeEntered n .joining u = v at entered ⊢
    unfold wtbNode
    exact entered.wtbTake begins (entered.view.node n) (.inl rfl) _

theorem coachReset (h : RunsEntry w t on done u) (begins : RunStart w t) :
    RunsEntry w t on done (Machine.coachReset u) := by
  have reset : Machine.coachReset u = handLine u.clc.line (eachIx 6 rejoin
      (endPass (.refuse .aborted) (u.modClc Clc.resetting))) := rfl
  rw [reset]
  have taken : RunsEntry w t on done (endPass (.refuse .aborted) (u.modClc Clc.resetting)) :=
    h.of_wtb (endPass_wtb _ _) ((KeepsNotice.of_only (modClc_only u _)).trans (.endPass _ _))
  have line : (endPass (.refuse .aborted) (u.modClc Clc.resetting)).clc.line = .resetting := by
    rw [endPass_clc]
    rfl
  generalize endPass (.refuse .aborted) (u.modClc Clc.resetting) = v at taken line ⊢
  have joined : RunsEntry w t on done (eachIx 6 rejoin v) ∧ (eachIx 6 rejoin v).clc.line = .resetting := by
    refine eachIx_induct (motive := fun x => RunsEntry w t on done x ∧ x.clc.line = .resetting) ⟨taken, line⟩
      fun n x held => ?_
    obtain ⟨runs, resetting⟩ := held
    unfold rejoin
    split_ifs
    · have marked : RunsEntry w t on done (x.modNode n Node.rejoined) := runs.of_wtb rfl (.of_only (modNode_only x n _))
      refine ⟨marked.setNodeState begins n, ?_⟩
      have keeps := setNodeState_keeps n .joining (x.modNode n Node.rejoined)
      exact (congrArg Clc.line keeps).trans resetting
    · exact ⟨runs, resetting⟩
  generalize eachIx 6 rejoin v = x at joined ⊢
  obtain ⟨runs, resetting⟩ := joined
  unfold handLine
  rw [resetting]
  split_ifs
  · exact runs
  · unfold wtbLine
    exact runs.wtbTake begins (runs.view.line (st := .resetting) nofun) (.inl rfl) _

/-! ## Every block -/

theorem takeRunEntry (begins : RunStart w t) (b : Block) (h : Held w t on done u) :
    Held w t on done (Machine.takeRunEntry b u) := by
  have unread {ps : List Part} {v : State} (only : OnlyChanges ps u v) (wtb : Part.wtb ∉ ps) (pcu : Part.pcu ∉ ps)
      (notice : KeepsNotice (.warning w (t.runState w)) u v) : Held w t on done v :=
    ⟨h.1.of_wtb (only.wtb_eq wtb) notice, by rw [only.pcu_eq pcu]; exact h.2⟩
  have quiet {ps : List Part} {v : State} (only : OnlyChanges ps u v) (wtb : Part.wtb ∉ ps) (pcu : Part.pcu ∉ ps)
      (lkp : Part.lkp ∉ ps) : Held w t on done v := unread only wtb pcu (.of_only only lkp)
  cases b
  case pcu => exact pcuRunEntry begins h
  case gdu => exact quiet (gduRunEntry_only u) (by decide) (by decide) (by decide)
  case tau => exact quiet (tauPower_only u .run) (by decide) (by decide) (by decide)
  case clk => exact h
  case wtb =>
    refine ⟨?_, by rw [(takeRunEntry_parts u .wtb).pcu_eq (by decide)]; exact h.2⟩
    show RunsEntry w t on done (wtbRunEntry u)
    unfold wtbRunEntry
    exact (h.1.viewed (f := fun x => { x with bulbCheck := some Config.bulbCheckMs, view := { x.view with power := .run } })
      rfl rfl (h.1.view.power .run) nofun).evaluateWhere begins _
  case chs => exact quiet (chsPower_only u .run) (by decide) (by decide) (by decide)
  case svs => exact quiet (modSvs_only u _) (by decide) (by decide) (by decide)
  case clc =>
    refine ⟨?_, by rw [(takeRunEntry_parts u .clc).pcu_eq (by decide)]; exact h.2⟩
    have takes : Machine.takeRunEntry .clc u = Machine.coachReset (u.modClc fun c => { c with power := .run }) := rfl
    rw [takes]
    exact (h.1.of_wtb (v := u.modClc fun c => { c with power := .run }) rfl (.of_only (modClc_only u _))).coachReset begins
  case lkp => exact unread (modLkp_only u _) (by decide) (by decide) (.of_lkp rfl rfl rfl)

/-- The WTB's own part: the entry is evaluated in RUN (R101). -/
theorem wtbRunEntry (begins : RunStart w t) (h : Held w t on done u) :
    Held w t on True (Machine.takeRunEntry .wtb u) := by
  refine ⟨?_, by rw [(takeRunEntry_parts u .wtb).pcu_eq (by decide)]; exact h.2⟩
  show RunsEntry w t on True (Machine.wtbRunEntry u)
  unfold Machine.wtbRunEntry
  have opened : RunsEntry w t on done (u.modWtb fun x => { x with
      bulbCheck := some Config.bulbCheckMs, view := { x.view with power := .run } }) :=
    h.1.viewed (f := fun x => { x with bulbCheck := some Config.bulbCheckMs, view := { x.view with power := .run } })
      rfl rfl (h.1.view.power .run) nofun
  have awake : (u.modWtb fun x => { x with
      bulbCheck := some Config.bulbCheckMs, view := { x.view with power := .run } }).wtb.view.power ≠ .parked := nofun
  generalize u.modWtb (fun x => { x with
      bulbCheck := some Config.bulbCheckMs, view := { x.view with power := .run } }) = v at opened awake ⊢
  refine eachIx_brings w (before := fun x => RunsEntry w t on done x ∧ x.wtb.view.power ≠ .parked)
    (goal := RunsEntry w t on True) (fun x held => ?_) (fun k x other held => ?_) (fun k x other held => ?_) ⟨opened, awake⟩
  · obtain ⟨runs, up⟩ := held
    rw [if_pos (by rw [runs.cfg]; exact begins.enabled)]
    have awake : ¬ (x.wtb.view.power = .parked ∧ ¬ x.wtb.entries[w].cfg.parkedLive) := fun asleep => up asleep.1
    obtain ⟨state, view⟩ := evaluateEntry_state awake
    refine { runs.evaluated begins awake with ends := fun _ => ?_ }
    rw [view, state]
    rcases runs.evaluatedState begins with ⟨-, moved⟩ | ⟨parked, -, -⟩
    · exact ⟨up, moved⟩
    · exact absurd parked up
  · split_ifs
    · have kept := evaluateEntry_left other x
      refine ⟨held.1.left kept (.evaluateOther other x), ?_⟩
      rw [kept.wtb]
      exact held.2
    · exact held
  · split_ifs
    · exact held.left (evaluateEntry_left other x) (.evaluateOther other x)
    · exact held

theorem takeCrank (begins : RunStart w t) (b : Block) (h : RunsEntry w t on done u) :
    RunsEntry w t on done (Machine.takeCrank .crank b u) := by
  have unread {ps : List Part} {v : State} (only : OnlyChanges ps u v) (wtb : Part.wtb ∉ ps) (lkp : Part.lkp ∉ ps) :
      RunsEntry w t on done v := h.of_wtb (only.wtb_eq wtb) (.of_only only lkp)
  cases b
  case wtb =>
    show RunsEntry w t on done (wtbCrank .crank u)
    unfold wtbCrank
    exact h.wtbTake begins (h.view.power .crank) (.inr (by decide : PowerState.crank ≠ .parked)) _
  case lkp => exact h.of_wtb (v := u.modLkp fun l => { l with power := .crank }) rfl (.of_lkp rfl rfl rfl)
  case pcu => exact unread (modPcu_only u _) (by decide) (by decide)
  case gdu => exact unread (gduCrank_only u .crank) (by decide) (by decide)
  case clc => exact unread (modClc_only u _) (by decide) (by decide)
  case tau => exact unread (takeCrank_parts u .crank .tau) (by decide) (by decide)
  case clk => exact unread (takeCrank_parts u .crank .clk) (by decide) (by decide)
  case chs => exact unread (takeCrank_parts u .crank .chs) (by decide) (by decide)
  case svs => exact unread (takeCrank_parts u .crank .svs) (by decide) (by decide)

end RunsEntry

end Sys2Proof.Machine
end


section
/-! What the other blocks leave of the Coach Line, of the replies and of the bulb check while a power state is handed
(R104, R154, R163, R172). -/

namespace Sys2Proof.Machine

-- One theorem at a time, so that a build as one text needs few threads.
set_option Elab.async false

/-! ## The Coach Line -/

/-- Of the Coach Line the mirror queue, while the line is up, and the copy of road source LIVE alone change. -/
structure CoachKept (s t : State) : Prop where
  frame : { t.clc with mirrorQueue := s.clc.mirrorQueue, roadLive := s.clc.roadLive } = s.clc
  queue : s.clc.line.up = false → t.clc.mirrorQueue = s.clc.mirrorQueue

namespace CoachKept
variable {s t u : State}

theorem refl (s : State) : CoachKept s s := ⟨rfl, fun _ => rfl⟩

theorem line_eq (h : CoachKept s t) : t.clc.line = s.clc.line := (congrArg Clc.line h.frame :)

theorem frame_trans {a b c : Clc} (h : { b with mirrorQueue := a.mirrorQueue, roadLive := a.roadLive } = a)
    (k : { c with mirrorQueue := b.mirrorQueue, roadLive := b.roadLive } = b) :
    { c with mirrorQueue := a.mirrorQueue, roadLive := a.roadLive } = a := by
  rw [← k] at h
  exact h

theorem trans (h : CoachKept s t) (k : CoachKept t u) : CoachKept s u where
  frame := frame_trans h.frame k.frame
  queue := fun down => (k.queue (by rw [h.line_eq]; exact down)).trans (h.queue down)

theorem of_clc (same : t.clc = s.clc) : CoachKept s t := ⟨by rw [same], fun _ => by rw [same]⟩

theorem of_only {ps : List Part} (h : OnlyChanges ps s t) (hp : Part.clc ∉ ps := by decide) : CoachKept s t :=
  of_clc (h.clc_eq hp)

theorem frame_of_keeps {c d : Clc} (h : { d with mirrorQueue := c.mirrorQueue } = c) :
    { d with mirrorQueue := c.mirrorQueue, roadLive := c.roadLive } = c := by
  have live : d.roadLive = c.roadLive := (congrArg Clc.roadLive h :)
  rw [← live]
  exact h

theorem marks (h : MarksOnly s t) : CoachKept s t :=
  ⟨frame_of_keeps h.keeps, fun down => by rw [h.clc_of_down down]⟩

theorem roadLive (b : Bool) (s : State) : CoachKept s (clcRoadLive b s) := by
  unfold clcRoadLive
  split_ifs
  · exact refl s
  · exact trans (t := s.modClc fun c => { c with roadLive := b }) ⟨rfl, fun _ => rfl⟩ (.marks (.mark _ _))

theorem foldl {α : Type} {f : State → α → State} (h : ∀ s a, CoachKept s (f s a)) (l : List α) (s : State) :
    CoachKept s (l.foldl f s) :=
  List.foldlRecOn (motive := fun t => CoachKept s t) _ _ (refl s) fun t walked a _ => walked.trans (h t a)

theorem eachIx {n : Nat} {f : Fin n → State → State} (h : ∀ i s, CoachKept s (f i s)) (s : State) :
    CoachKept s (Machine.eachIx n f s) := foldl (fun s i => h i s) _ s

theorem hand {targets : List Block} {take : Block → State → State} (h : ∀ b s, CoachKept s (take b s)) (s : State) :
    CoachKept s (Machine.hand targets take s) := trans (of_only (modFree_only s _)) (foldl (fun s b => h b s) _ _)

theorem changeChannel (ch : ChannelIx) (f : Channel → Channel) (s : State) : CoachKept s (Machine.changeChannel ch f s) := by
  by_cases same : (f s.pcu.channels[ch]).state = s.pcu.channels[ch].state
  · rw [changeChannel_of_same same]
    exact of_only (modChannel_only s ch f)
  · rw [changeChannel_of_changed same]
    refine (marks (channelRecorded_marks ch f s)).trans (hand (fun b u => ?_) _)
    by_cases coach : b = .clc
    · subst coach
      exact roadLive _ u
    · exact marks (takeChannel_marks ch u _ _ _ coach)

theorem pcuLoop (f : ChannelIx → Channel → Channel) (s : State) :
    CoachKept s (Machine.eachIx 6 (fun ch s => Machine.changeChannel ch (f ch) s) (setDisagree false s)) :=
  (marks (.setDisagree false s)).trans (eachIx (fun ch u => changeChannel ch (f ch) u) _)

theorem takeRunEntry {b : Block} (other : b ≠ .clc) (s : State) : CoachKept s (Machine.takeRunEntry b s) := by
  cases b
  case pcu =>
    show CoachKept s (pcuRunEntry s)
    unfold pcuRunEntry
    exact ((of_only (modInputs_only s _)).trans (of_only (modPcu_only _ _))).trans
      (pcuLoop (fun _ c => Channel.restarted c.cfg) _)
  case wtb => exact marks (MarksOnly.alerts.runEntry s)
  case chs => exact marks (MarksOnly.alerts.power s .run)
  case clc => exact absurd rfl other
  all_goals exact of_only (takeRunEntry_parts s _)

theorem takeParkedEntry {b : Block} (other : b ≠ .clc) (s : State) : CoachKept s (Machine.takeParkedEntry b s) := by
  cases b
  case pcu =>
    show CoachKept s (pcuParkedEntry s)
    unfold pcuParkedEntry
    exact (of_only (modPcu_only s _)).trans (pcuLoop (fun _ c => Channel.off c.cfg) _)
  case wtb => exact marks (MarksOnly.alerts.parkedEntry s)
  case chs => exact marks (MarksOnly.alerts.power s .parked)
  case clc => exact absurd rfl other
  all_goals exact of_only (takeParkedEntry_parts s _)

theorem takeCrank (p : PowerState) {b : Block} (other : b ≠ .clc) (s : State) : CoachKept s (Machine.takeCrank p b s) := by
  cases b
  case pcu => exact of_only (modPcu_only s _)
  case wtb => exact marks (MarksOnly.alerts.crank s p)
  case chs => exact marks (MarksOnly.alerts.power s p)
  case clc => exact absurd rfl other
  all_goals exact of_only (takeCrank_parts s p _)

end CoachKept

/-! ## The Link Port -/

/-- The kinds of notices that the blocks besides the CLC hand as they take a power state: WARNING, CHIME and GAUGE. -/
abbrev entryBits : List Nat := [1, 2, 9]

namespace NoticesOnly
variable {s t : State}

theorem warned (h : NoticesOnly warnBits s t) : NoticesOnly entryBits s t := h.mono (by decide)

theorem pcuLoop (f : ChannelIx → Channel → Channel) (s : State) :
    NoticesOnly entryBits s (Machine.eachIx 6 (fun ch s => Machine.changeChannel ch (f ch) s) (Machine.setDisagree false s)) :=
  (warned (.setDisagree false s)).trans (.eachIx (fun ch u => warned (.changeChannel ch (f ch) u)) _)

theorem takeRunEntry {b : Block} (coach : b ≠ .clc) (link : b ≠ .lkp) (s : State) :
    NoticesOnly entryBits s (Machine.takeRunEntry b s) := by
  cases b
  case pcu =>
    show NoticesOnly entryBits s (pcuRunEntry s)
    unfold pcuRunEntry
    exact ((of_only (modInputs_only s _)).trans (of_only (modPcu_only _ _))).trans
      (pcuLoop (fun _ c => Channel.restarted c.cfg) _)
  case gdu => exact of_only (gduRunEntry_only s)
  case wtb =>
    show NoticesOnly entryBits s (wtbRunEntry s)
    unfold wtbRunEntry
    exact (of_only (modWtb_only s _)).trans (warned (.evaluateWhere _ _))
  case clc => exact absurd rfl coach
  case lkp => exact absurd rfl link
  all_goals exact of_only (takeRunEntry_parts s _)

theorem takeParkedEntry {b : Block} (coach : b ≠ .clc) (link : b ≠ .lkp) (s : State) :
    NoticesOnly entryBits s (Machine.takeParkedEntry b s) := by
  cases b
  case pcu =>
    show NoticesOnly entryBits s (pcuParkedEntry s)
    unfold pcuParkedEntry
    exact (of_only (modPcu_only s _)).trans (pcuLoop (fun _ c => Channel.off c.cfg) _)
  case gdu =>
    show NoticesOnly entryBits s (gduParkedEntry s)
    unfold gduParkedEntry Machine.endParking
    split_ifs
    · exact ((of_only (modGdu_only s _)).trans (of_only (modGdu_only _ _))).trans (.notify (by simp [Notice.bit]) _)
    · exact of_only (modGdu_only s _)
  case wtb =>
    have parked (w : EntryIx) (u : State) : NoticesOnly entryBits u (parkEntry w u) := by
      have written {v : State} (first : NoticesOnly warnBits u v) : NoticesOnly entryBits u (v.modEntry w fun e =>
          { e with qualifyTimer := none, repeatTimer := none, memory := false }) :=
        warned (first.trans (of_only (modEntry_only v w _)))
      unfold parkEntry
      split
      · exact written (.leaveActive w .idle u)
      · exact written (.enterIdle w u)
      · exact written (.enterIdle w u)
      · exact written (.enterIdle w u)
      · exact written (.refl u)
    have turn (moved : Bool) (w : EntryIx) (u : State) : NoticesOnly entryBits u (parkTurn moved w u) := by
      unfold parkTurn
      split_ifs
      · exact warned (.evaluateEntry w u)
      · exact refl u
      · exact parked w u
    show NoticesOnly entryBits s (wtbParkedEntry s)
    unfold wtbParkedEntry
    exact (of_only (modWtb_only s _)).trans (.eachIx (turn _) _)
  case clc => exact absurd rfl coach
  case lkp => exact absurd rfl link
  all_goals exact of_only (takeParkedEntry_parts s _)

end NoticesOnly

/-- The blocks besides the CLC place no reply. -/
theorem takeRunEntry_replies {b : Block} (coach : b ≠ .clc) (s : State) :
    (takeRunEntry b s).lkp.replies = s.lkp.replies := by
  by_cases link : b = .lkp
  · subst link
    rfl
  · exact (NoticesOnly.takeRunEntry coach link s).replies_eq

theorem takeParkedEntry_replies {b : Block} (coach : b ≠ .clc) (s : State) :
    (takeParkedEntry b s).lkp.replies = s.lkp.replies := by
  by_cases link : b = .lkp
  · subst link
    rfl
  · exact (NoticesOnly.takeParkedEntry coach link s).replies_eq

theorem takeCrank_replies (p : PowerState) (b : Block) (s : State) : (takeCrank p b s).lkp.replies = s.lkp.replies := by
  cases b
  case wtb =>
    have taken : NoticesOnly NoticesOnly.warnBits s (wtbCrank p s) := by
      unfold wtbCrank
      exact .wtbTake _ _ s
    have takes : takeCrank p .wtb s = wtbCrank p s := rfl
    rw [takes]
    exact taken.replies_eq
  case lkp => rfl
  case pcu =>
    have only : OnlyChanges [.pcu] s (takeCrank p .pcu s) := modPcu_only s _
    rw [only.lkp_eq (by decide)]
  case gdu =>
    have only : OnlyChanges [.gdu] s (takeCrank p .gdu s) := gduCrank_only s p
    rw [only.lkp_eq (by decide)]
  case clc =>
    have only : OnlyChanges [.clc] s (takeCrank p .clc s) := modClc_only s _
    rw [only.lkp_eq (by decide)]
  all_goals rw [(takeCrank_parts s p _).lkp_eq (by decide)]

/-! ## The bulb check and the configurations -/

/-- Of the WTB the bulb check and the entries' configurations stand. -/
def BulbKept (s t : State) : Prop :=
  t.wtb.bulbCheck = s.wtb.bulbCheck ∧ ∀ w : EntryIx, t.wtb.entries[w].cfg = s.wtb.entries[w].cfg

namespace BulbKept
variable {s t u : State}

theorem refl (s : State) : BulbKept s s := ⟨rfl, fun _ => rfl⟩

theorem trans (h : BulbKept s t) (k : BulbKept t u) : BulbKept s u :=
  ⟨k.1.trans h.1, fun w => (k.2 w).trans (h.2 w)⟩

theorem byProducts (h : ByProducts s t) : BulbKept s t := ⟨(congrArg Wtb.bulbCheck h.wtb :), h.cfg⟩

theorem of_wtb (same : t.wtb = s.wtb) : BulbKept s t := by
  unfold BulbKept
  rw [same]
  exact ⟨rfl, fun _ => rfl⟩

theorem wtbTake (f : WarnView → WarnView) (test : EntryConfig → Bool) (s : State) :
    BulbKept s (Machine.wtbTake f test s) :=
  trans (t := s.modWarnView f) ⟨rfl, fun _ => rfl⟩ (byProducts (.evaluateWhere test _))

theorem move (h : HandMove s t) : BulbKept s t := by
  cases h with
  | elsewhere only apart => exact of_wtb (only .wtb fun mem => apart _ mem (by decide))
  | mark i => exact byProducts (.mark i s)
  | notify n => exact byProducts (.notify n s)
  | warn f test => exact wtbTake f test s
  | arrival =>
    have entry (w : EntryIx) : (mapAll Entry.arrived s.wtb.entries)[w] = s.wtb.entries[w].arrived := mapAll_get _ _ _
    have arrives : wtbArrival s = evaluateWhere (fun c => c.enabled && c.source = .arrival)
        (s.modWtb fun _ => { s.wtb with entries := mapAll Entry.arrived s.wtb.entries }) := rfl
    rw [arrives]
    generalize mapAll Entry.arrived s.wtb.entries = v at entry ⊢
    have written : BulbKept s (s.modWtb fun _ => { s.wtb with entries := v }) :=
      ⟨rfl, fun w => (congrArg Entry.cfg (entry w)).trans (Entry.arrived_cfg _)⟩
    exact written.trans (byProducts (.evaluateWhere _ _))
  | alarm a al => exact byProducts (.takeChime _ s)
  | alarmGone a => exact of_wtb rfl
  | flags => exact of_wtb rfl
  | coach => exact of_wtb rfl

theorem fed (h : Fed s t) : BulbKept s t := by
  induction h with
  | refl => exact refl s
  | tail _ moved kept =>
    refine kept.trans ?_
    cases moved with
    | hand moved => exact move moved
    | line only _ => exact of_wtb (only.wtb_eq (by decide))
    | ended resp => exact of_wtb (endPass_wtb resp _)

end BulbKept

end Sys2Proof.Machine
end


section
/-! The Coach Line through Run entry, CRANK and Parked entry (R147, R149, R159, R160, R163). -/

namespace Sys2Proof.Machine

-- One theorem at a time, so that a build as one text needs few threads.
set_option Elab.async false

/-- The reply to a pass-through that a reset or Parked entry aborts (R163). -/
def State.abortedReplies (s : State) : List (ReplyEntry × Byte × Byte × List Byte) :=
  s.lkp.replies.map Reply.content ++
    (s.clc.pass.toList.map fun p => (ReplyEntry.reserved, (0x7F : Byte), p.tag, [(0x0C : Byte), 0x39]))

/-- What Run entry makes of the Coach Line (R159). -/
structure CoachEntered (s t : State) : Prop where
  clc : t.clc = { s.clc.resetting with
    power := t.clc.power, roadLive := t.clc.roadLive, pass := none, nodes := t.clc.nodes }
  nodes : ∀ n : NodeIx, t.clc.nodes[n] = Node.enterIfEnabled Node.rejoined .joining { s.clc.nodes[n] with due := false }
  replies : t.lkp.replies.map Reply.content = s.abortedReplies
  heard : ∀ n : NodeIx, s.clc.nodes[n].enabled = true → s.clc.nodes[n].state ≠ .joining →
    s.lkp.mask.getLsbD 5 = true → t.lkp.Told (.node n .joining)
  line : s.clc.line ≠ .resetting → Agrees .line t

/-- What Parked entry makes of the Coach Line (R160). -/
structure CoachParked (s t : State) : Prop where
  clc : t.clc = { s.clc.abandon with
    power := t.clc.power, roadLive := t.clc.roadLive, pass := none, heldLow := false, line := .off
    sleepWaiting := s.clc.line = .running ∨ s.clc.line = .backoff ∨ s.clc.line = .resetting }
  replies : t.lkp.replies.map Reply.content = s.abortedReplies
  line : s.clc.line ≠ .off → Agrees .line t

section
variable {s t u : State}

theorem CoachKept.clc_eq (h : CoachKept s t) :
    t.clc = { s.clc with mirrorQueue := t.clc.mirrorQueue, roadLive := t.clc.roadLive } := by
  have whole := congrArg (fun c : Clc => { c with mirrorQueue := t.clc.mirrorQueue, roadLive := t.clc.roadLive }) h.frame
  exact whole

theorem agrees_line_iff : Agrees .line s ↔ s.wtb.view.line = s.clc.line := by
  unfold Agrees
  exact Iff.rfl

/-- What has not touched the Coach Line but for marks, the replies and the mask. -/
structure CoachWaits (s u : State) : Prop where
  kept : CoachKept s u
  replies : u.lkp.replies = s.lkp.replies
  mask : u.lkp.mask = s.lkp.mask

theorem CoachWaits.aborted (h : CoachWaits s u) : u.abortedReplies = s.abortedReplies := by
  have pass : u.clc.pass = s.clc.pass := (congrArg Clc.pass h.kept.frame :)
  unfold State.abortedReplies
  rw [h.replies, pass]

/-- The CLC's part of Run entry (R159). -/
theorem clcRunEntry_entered (h : CoachWaits s u) : CoachEntered s (takeRunEntry .clc u) := by
  have takes : takeRunEntry .clc u = coachReset (u.modClc fun c => { c with power := .run }) := rfl
  rw [takes]
  have down := coachReset_down (u.modClc fun c => { c with power := .run })
  have nodes : u.clc.nodes = s.clc.nodes := (congrArg Clc.nodes h.kept.frame :)
  have clc := h.kept.clc_eq
  have heard := down.heard
  have replies := down.replies
  have line := down.line
  have record := down.clc
  have slots := down.nodes
  generalize coachReset (u.modClc fun c => { c with power := .run }) = t at heard replies line record slots ⊢
  exact {
    clc := by
      have power : t.clc.power = .run := by rw [record]; rfl
      have road : t.clc.roadLive = u.clc.roadLive := by rw [record]; rfl
      rw [power, road]
      refine record.trans ?_
      rw [State.modClc_clc, clc]
      rfl
    nodes := fun n => by
      rw [slots, ← nodes]
      rfl
    replies := by
      rw [← h.aborted]
      exact replies
    heard := fun n enabled changed on => by
      rw [← nodes] at enabled changed
      exact (heard n enabled changed).2 (by rw [← h.mask] at on; exact on)
    line := fun differs => by
      rw [agrees_line_iff, record]
      exact line (by rw [← h.kept.line_eq] at differs; exact differs) }

/-- The CLC's part of Parked entry (R160). -/
theorem clcParkedEntry_parked (h : CoachWaits s u) : CoachParked s (takeParkedEntry .clc u) := by
  have takes : takeParkedEntry .clc u = clcParkedEntry u := rfl
  rw [takes]
  unfold clcParkedEntry
  dsimp only
  have clc := h.kept.clc_eq
  have up := h.kept.line_eq
  rw [up]
  generalize awake : decide (s.clc.line = .running ∨ s.clc.line = .backoff ∨ s.clc.line = .resetting) = sleeps
  have record := endPass_clc (.refuse .aborted) (u.modClc fun c =>
    { c.abandon with power := .parked, heldLow := false, sleepWaiting := sleeps })
  have replies := endPass_aborted_replies (u.modClc fun c =>
    { c.abandon with power := .parked, heldLow := false, sleepWaiting := sleeps })
  generalize endPass (.refuse .aborted) (u.modClc fun c =>
    { c.abandon with power := .parked, heldLow := false, sleepWaiting := sleeps }) = e at record replies ⊢
  have aborted : e.lkp.replies.map Reply.content = s.abortedReplies := by
    rw [← h.aborted]
    exact replies
  have whole : { e.clc with line := .off } = { s.clc.abandon with
      power := .parked, roadLive := u.clc.roadLive, pass := none, heldLow := false, line := .off, sleepWaiting := sleeps } := by
    rw [record, State.modClc_clc, clc]
    rfl
  have before : e.clc.line = s.clc.line := by
    rw [record]
    exact up
  by_cases same : e.clc.line = .off
  · have idle : setLine .off e = e := if_pos same
    rw [idle]
    have record' : e.clc = { s.clc.abandon with
        power := .parked, roadLive := u.clc.roadLive, pass := none, heldLow := false, line := .off, sleepWaiting := sleeps } := by
      rw [← whole, ← same]
    refine ⟨?_, aborted, fun differs => absurd (before.symm.trans same) differs⟩
    rw [awake]
    have power : e.clc.power = .parked := by rw [record']
    have road : e.clc.roadLive = u.clc.roadLive := by rw [record']
    rw [power, road]
    exact record'
  · rw [setLine_of_changed same]
    have down := (wtbLine_marks .off (e.modClc fun c => { c with line := .off })).clc_of_down rfl
    have record' : (wtbLine .off (e.modClc fun c => { c with line := .off })).clc = { s.clc.abandon with
        power := .parked, roadLive := u.clc.roadLive, pass := none, heldLow := false, line := .off, sleepWaiting := sleeps } := by
      rw [down]
      exact whole
    have told := (wtbLine_notices .off (e.modClc fun c => { c with line := .off })).replies_eq
    have view := wtbLine_view .off (e.modClc fun c => { c with line := .off })
    generalize wtbLine .off (e.modClc fun c => { c with line := .off }) = v at record' told view ⊢
    refine ⟨?_, ?_, fun _ => ?_⟩
    · have power : v.clc.power = .parked := by rw [record']
      have road : v.clc.roadLive = u.clc.roadLive := by rw [record']
      rw [awake, power, road]
      exact record'
    · rw [told]
      exact aborted
    · rw [agrees_line_iff, view, record']

/-! ## The other blocks -/

theorem CoachEntered.after (h : CoachEntered s t) (kept : CoachKept t u) (replies : u.lkp.replies = t.lkp.replies)
    (told : ∀ n : NodeIx, KeepsNotice (.node n .joining) t u) (line : Keeps (Agrees .line) t u) : CoachEntered s u where
  clc := by
    have down : t.clc.line.up = false := by rw [h.clc]; rfl
    rw [kept.clc_eq, kept.queue down]
    have clc := h.clc
    generalize t.clc = c at clc ⊢
    rw [clc]
  nodes := fun n => by
    have nodes : u.clc.nodes = t.clc.nodes := (congrArg Clc.nodes kept.frame :)
    rw [nodes]
    exact h.nodes n
  replies := by rw [replies]; exact h.replies
  heard := fun n enabled changed on => (told n).told (h.heard n enabled changed on)
  line := fun differs => line (h.line differs)

theorem CoachParked.after (h : CoachParked s t) (kept : CoachKept t u) (replies : u.lkp.replies = t.lkp.replies)
    (line : Keeps (Agrees .line) t u) : CoachParked s u where
  clc := by
    have down : t.clc.line.up = false := by rw [h.clc]; rfl
    rw [kept.clc_eq, kept.queue down]
    have clc := h.clc
    generalize t.clc = c at clc ⊢
    rw [clc]
  replies := by rw [replies]; exact h.replies
  line := fun differs => line (h.line differs)

theorem CoachWaits.start (s : State) (f : Igs → Igs) : CoachWaits s (s.modIgs f) := ⟨.of_clc rfl, rfl, rfl⟩

theorem enterRun_coach (s : State) : CoachEntered s (enterRun s) := by
  have apart (n : NodeIx) : (Notice.node n .joining).bit ∉ NoticesOnly.warnBits := by simp [Notice.bit]
  refine hand_reaches (b := .clc) (before := CoachWaits s) (goal := CoachEntered s) (by decide) (fun u f h => ?_)
    (fun u h => clcRunEntry_entered h) (fun b u other h => ?_) (fun b u other h => ?_) (.start s _)
  · exact ⟨h.kept.trans (.of_clc rfl), h.replies, h.mask⟩
  · have mask := (KeepsNotice.takeRunEntry (apart 0) b (fun coach => absurd coach other) u).mask
    exact ⟨h.kept.trans (.takeRunEntry other u), (takeRunEntry_replies other u).trans h.replies, mask.trans h.mask⟩
  · exact h.after (.takeRunEntry other u) (takeRunEntry_replies other u)
      (fun n => .takeRunEntry (apart n) b (fun coach => absurd coach other) u)
      ((takeRunEntry_enters u b).others .line nofun)

theorem enterParked_coach (s : State) : CoachParked s (enterParked s) := by
  have apart : (Notice.node 0 .joining).bit ∉ NoticesOnly.warnBits := by simp [Notice.bit]
  refine hand_reaches (b := .clc) (before := CoachWaits s) (goal := CoachParked s) (by decide) (fun u f h => ?_)
    (fun u h => clcParkedEntry_parked h) (fun b u other h => ?_) (fun b u other h => ?_) (.start s _)
  · exact ⟨h.kept.trans (.of_clc rfl), h.replies, h.mask⟩
  · have mask := (KeepsNotice.takeParkedEntry apart (fun key => absurd (congrArg Prod.fst key) (by simp [Notice.key, Notice.bit]))
      b u).mask
    exact ⟨h.kept.trans (.takeParkedEntry other u), (takeParkedEntry_replies other u).trans h.replies, mask.trans h.mask⟩
  · exact h.after (.takeParkedEntry other u) (takeParkedEntry_replies other u)
      ((takeParkedEntry_enters u b).others .line nofun)

/-- CRANK leaves the Coach Line as Run entry has it, but for the CLC's copy of the power state (R150). -/
theorem CoachEntered.takeCrank (h : CoachEntered s t) (b : Block) : CoachEntered s (takeCrank .crank b t) := by
  have line : Keeps (Agrees .line) t (Machine.takeCrank .crank b t) := (takeCrank_enters t .crank b).others .line nofun
  have replies := takeCrank_replies .crank b t
  have told (n : NodeIx) : KeepsNotice (.node n .joining) t (Machine.takeCrank .crank b t) :=
    .takeCrank (by simp [Notice.bit]) .crank b t
  by_cases coach : b = .clc
  · subst coach
    have clc : (Machine.takeCrank .crank .clc t).clc = { t.clc with power := .crank } := rfl
    generalize Machine.takeCrank .crank .clc t = u at line replies told clc ⊢
    exact {
      clc := by
        rw [clc]
        have record := h.clc
        generalize t.clc = c at record ⊢
        rw [record]
      nodes := fun n => by rw [clc]; exact h.nodes n
      replies := by rw [replies]; exact h.replies
      heard := fun n enabled changed on => (told n).told (h.heard n enabled changed on)
      line := fun differs => line (h.line differs) }
  · exact h.after (.takeCrank .crank coach t) replies told line

end

end Sys2Proof.Machine
end


section
/-! The gauges through Run entry: each needle homes or goes to the state its source calls for, whatever the order of the
GDU and the PCU (R31, R35, R172). -/

namespace Sys2Proof.Machine

-- One theorem at a time, so that a build as one text needs few threads.
set_option Elab.async false

/-! ## What a call of the source depends on -/

section
variable {x y : Gauge} {d e : Gdu}

/-- A call reads the slots and the copies of the GDU alone. -/
theorem Gdu.goCalled_congr (slots : e.slots = d.slots) (view : e.view = d.view) (x : Gauge) :
    e.goCalled x = d.goCalled x := by
  unfold Gdu.goCalled Gdu.calledFor Gdu.sourceAngle
  rw [slots, view]

theorem Gdu.goCalled_driven (d : Gdu) (x : Gauge) : (d.goCalled x).Driven := (d.goCalled_called x).1

/-- A channel source calls a needle that follows to the same, whatever it followed before. -/
theorem Gdu.goCalled_again (on : x.cfg.source.OnChannel) (d e : Gdu) : e.goCalled (d.goCalled x) = e.goCalled x := by
  obtain ⟨driven, kept⟩ := d.goCalled_called x
  have pending : GaugePending { x with state := .tracking } (d.goCalled x) :=
    { kept := (congrArg (fun y : Gauge => { y with state := .tracking }) kept :)
      driven := fun _ _ => driven
      still := fun still => absurd ⟨on, .inl rfl⟩ still }
  exact pending.goCalled on e

end

/-! ## A channel's change -/

/-- The GDU before its own part of an entry. -/
structure GduWaits (s u : State) : Prop where
  slots : u.gdu.slots = s.gdu.slots
  gauges : ∀ g : GaugeIx, GaugePending s.gdu.gauges[g] u.gdu.gauges[g]

/-- The GDU after its own part of Run entry (R35). -/
structure GduEntered (s u : State) : Prop where
  parking : u.gdu.parking = false
  slots : u.gdu.slots = s.gdu.slots
  homes : ∀ g : GaugeIx, s.gdu.gauges[g].present = none → u.gdu.gauges[g] = { s.gdu.gauges[g] with
    state := .homing, phase := none, homingLeft := some (11 * s.gdu.gauges[g].cfg.fullScale), target := 0 }
  called : ∀ g : GaugeIx, s.gdu.gauges[g].present ≠ none → u.gdu.gauges[g] = u.gdu.goCalled s.gdu.gauges[g]

section
variable {s u v : State}

theorem GduWaits.refl (s : State) : GduWaits s s := ⟨rfl, fun _ => .refl _⟩

theorem GduWaits.of_gdu (h : GduWaits s u) (same : v.gdu = u.gdu) : GduWaits s v := by
  refine ⟨?_, ?_⟩
  all_goals rw [same]
  · exact h.slots
  · exact h.gauges

theorem GduEntered.of_gdu (h : GduEntered s u) (same : v.gdu = u.gdu) : GduEntered s v := by
  refine ⟨?_, ?_, ?_, ?_⟩
  all_goals rw [same]
  · exact h.parking
  · exact h.slots
  · exact h.homes
  · exact h.called

theorem GduEntered.power (h : GduEntered s u) (p : PowerState) : GduEntered s (gduCrank p u) :=
  ⟨h.parking, h.slots, h.homes, fun g known =>
    (h.called g known).trans (Gdu.goCalled_congr (d := (gduCrank p u).gdu) rfl rfl _)⟩

theorem gduChannel_slots (ch : ChannelIx) (st : ChannelState) (u : State) : (gduChannel ch st u).gdu.slots = u.gdu.slots := rfl

theorem gduChannel_parking (ch : ChannelIx) (st : ChannelState) (u : State) :
    (gduChannel ch st u).gdu.parking = u.gdu.parking := rfl

theorem Gdu.goCalled_of_source {d e : Gdu} {x : Gauge} (called : e.calledFor x.cfg.source = d.calledFor x.cfg.source)
    (angle : e.sourceAngle x = d.sourceAngle x) : e.goCalled x = d.goCalled x := by
  unfold Gdu.goCalled
  rw [called, angle]

/-- A channel that is not concerned calls a gauge no otherwise. -/
theorem gduChannel_goCalled_other {ch : ChannelIx} (st : ChannelState) (u : State) {x : Gauge}
    (other : u.gdu.view.concerned x.cfg.source ≠ some ch) : (gduChannel ch st u).gdu.goCalled x = u.gdu.goCalled x := by
  have apart {k : ChannelIx} (concerned : u.gdu.view.concerned x.cfg.source = some k) : ch ≠ k := fun same =>
    other (same ▸ concerned)
  have state {k : ChannelIx} (concerned : u.gdu.view.concerned x.cfg.source = some k) :
      (gduChannel ch st u).gdu.view.channels[k] = u.gdu.view.channels[k] := by
    show (u.gdu.view.channels.set ch st)[k] = _
    rw [set_get, if_neg (apart concerned)]
  have unmoved {k : ChannelIx} (ne : ch ≠ k) (quiet : Prop) [Decidable quiet] (v : Nat) :
      (if quiet ∧ ch = k then 0 else v) = v := if_neg fun both => ne both.2
  have called {k : ChannelIx} (concerned : u.gdu.view.concerned x.cfg.source = some k)
      (after : (gduChannel ch st u).gdu.view.concerned x.cfg.source = some k) :
      (gduChannel ch st u).gdu.calledFor x.cfg.source = u.gdu.calledFor x.cfg.source := by
    rw [Gdu.calledFor_of_channel _ after, Gdu.calledFor_of_channel _ concerned, state concerned]
  have angle (v : GaugeView → Nat) (after : v (gduChannel ch st u).gdu.view = v u.gdu.view)
      (gives : ∀ d : Gdu, d.sourceAngle x = some (tableLookup x.cfg.table (v d.view))) :
      (gduChannel ch st u).gdu.sourceAngle x = u.gdu.sourceAngle x := by
    rw [gives, gives, after]
  cases source : x.cfg.source
  case roadSpeed =>
    have concerned : u.gdu.view.concerned x.cfg.source = some u.gdu.view.roadSource.channel := by rw [source]; rfl
    refine Gdu.goCalled_of_source (called concerned (by rw [source]; rfl)) (angle GaugeView.roadSpeed ?_ fun d => ?_)
    · exact unmoved (apart concerned) _ _
    · unfold Gdu.sourceAngle
      rw [source]
  case engineSpeed =>
    have concerned : u.gdu.view.concerned x.cfg.source = some 1 := by rw [source]; rfl
    refine Gdu.goCalled_of_source (called concerned (by rw [source]; rfl)) (angle GaugeView.engineSpeed ?_ fun d => ?_)
    · exact unmoved (apart concerned) _ _
    · unfold Gdu.sourceAngle
      rw [source]
  case checkSpeed =>
    have concerned : u.gdu.view.concerned x.cfg.source = some 4 := by rw [source]; rfl
    refine Gdu.goCalled_of_source (called concerned (by rw [source]; rfl)) (angle GaugeView.checkSpeed ?_ fun d => ?_)
    · exact unmoved (apart concerned) _ _
    · unfold Gdu.sourceAngle
      rw [source]
  case generalFreq =>
    have concerned : u.gdu.view.concerned x.cfg.source = some 5 := by rw [source]; rfl
    refine Gdu.goCalled_of_source (called concerned (by rw [source]; rfl)) (angle GaugeView.generalFreq ?_ fun d => ?_)
    · exact unmoved (apart concerned) _ _
    · unfold Gdu.sourceAngle
      rw [source]
  case slot n => exact Gdu.goCalled_of_source (by rw [source]; rfl) (by unfold Gdu.sourceAngle; rw [source])
  case fixed arg => exact Gdu.goCalled_of_source (by rw [source]; rfl) (by unfold Gdu.sourceAngle; rw [source])

theorem GduWaits.channel (h : GduWaits s u) (ch : ChannelIx) (st : ChannelState) : GduWaits s (gduChannel ch st u) := by
  refine ⟨h.slots, fun g => ?_⟩
  rw [gduChannel_gauge]
  split_ifs with called
  · obtain ⟨concerned, driven⟩ := called
    have cfg : u.gdu.gauges[g].cfg = s.gdu.gauges[g].cfg := (congrArg Gauge.cfg (h.gauges g).kept :)
    have on := (concerned_isSome_iff u.gdu.view u.gdu.gauges[g].cfg.source).mp (by rw [concerned]; rfl)
    rw [cfg] at on
    exact (h.gauges g).called on driven _
  · exact h.gauges g

theorem GduEntered.channel (h : GduEntered s u) (ch : ChannelIx) (st : ChannelState) :
    GduEntered s (gduChannel ch st u) := by
  refine ⟨h.parking, h.slots, fun g unknown => ?_, fun g known => ?_⟩
  · rw [gduChannel_gauge, h.homes g unknown]
    refine if_neg fun called => ?_
    rcases called.2 with state | state | state <;> exact NeedleState.noConfusion state
  · have gauge := h.called g known
    have cfg : u.gdu.gauges[g].cfg = s.gdu.gauges[g].cfg := by
      rw [gauge]
      exact (congrArg Gauge.cfg (u.gdu.goCalled_called _).2 :)
    have driven : u.gdu.gauges[g].Driven := by
      rw [gauge]
      exact u.gdu.goCalled_driven _
    rw [gduChannel_gauge]
    split_ifs with called
    · have on := (concerned_isSome_iff u.gdu.view u.gdu.gauges[g].cfg.source).mp (by rw [called.1]; rfl)
      rw [cfg] at on
      rw [gauge]
      exact Gdu.goCalled_again on _ _
    · have other : u.gdu.view.concerned s.gdu.gauges[g].cfg.source ≠ some ch := fun concerned =>
        called ⟨by rw [cfg]; exact concerned, driven⟩
      rw [gauge]
      exact (gduChannel_goCalled_other st u other).symm

/-- The GDU's own part of Run entry (R35). -/
theorem GduWaits.enters (h : GduWaits s u) : GduEntered s (gduRunEntry u) := by
  have gauge (g : GaugeIx) : (gduRunEntry u).gdu.gauges[g] = u.gdu.runGauge u.gdu.gauges[g] := mapAll_get _ _ _
  have called (x : Gauge) : (gduRunEntry u).gdu.goCalled x = u.gdu.goCalled x := Gdu.goCalled_congr rfl rfl x
  refine ⟨rfl, h.slots, fun g unknown => ?_, fun g known => ?_⟩
  all_goals
    rw [gauge, Gdu.runGauge]
    have kept := (h.gauges g).kept
    have still := (h.gauges g).still
    have call := (h.gauges g).goCalled (d := u.gdu)
    have present : u.gdu.gauges[g].present = s.gdu.gauges[g].present := (congrArg Gauge.present kept :)
  · rw [if_neg (by rw [present, unknown]; exact Bool.false_ne_true)]
    exact (congrArg (fun y : Gauge => { y with
      state := .homing, phase := none, homingLeft := some (11 * y.cfg.fullScale), target := 0 }) kept :)
  · rw [if_pos (by rw [present]; exact Option.isSome_iff_ne_none.mpr known), called]
    by_cases on : s.gdu.gauges[g].cfg.source.OnChannel
    · exact call on
    · rw [still fun both => on both.1]

/-! ## The PCU's part and the others' -/

theorem changeChannel_gdu_keeps {P : State → Prop} (reads : ∀ u v, P u → v.gdu = u.gdu → P v)
    (channel : ∀ ch st u, P u → P (gduChannel ch st u)) (ch : ChannelIx) (f : Channel → Channel) (held : P u) :
    P (changeChannel ch f u) := by
  by_cases changed : (f u.pcu.channels[ch]).state = u.pcu.channels[ch].state
  · rw [changeChannel_of_same changed]
    exact reads _ _ held rfl
  · exact reads _ _ (channel ch _ u held) (changeChannel_gdu changed)

theorem setDisagree_gdu (b : Bool) (u : State) : (setDisagree b u).gdu = u.gdu :=
  (setDisagree_only u b).gdu_eq (by decide)

/-- What the GDU is goes through every part of Run entry but the GDU's own. -/
theorem takeRunEntry_gdu_keeps {P : State → Prop} (reads : ∀ u v, P u → v.gdu = u.gdu → P v)
    (channel : ∀ ch st u, P u → P (gduChannel ch st u)) {b : Block} (other : b ≠ .gdu) (held : P u) :
    P (takeRunEntry b u) := by
  cases b
  case pcu =>
    show P (pcuRunEntry u)
    unfold pcuRunEntry
    dsimp only
    refine eachIx_induct (motive := P) (reads _ _ held ?_) fun ch x kept => changeChannel_gdu_keeps reads channel ch _ kept
    rw [setDisagree_gdu]
    rfl
  case gdu => exact absurd rfl other
  all_goals exact reads _ _ held ((takeRunEntry_parts u _).gdu_eq (by decide))

theorem enterRun_gdu (s : State) : GduEntered s (enterRun s) := by
  refine hand_reaches (b := .gdu) (before := GduWaits s) (goal := GduEntered s) (by decide) (fun u f held => held.of_gdu rfl)
    (fun u held => held.enters) (fun c u other held => ?_) (fun c u other held => ?_) (GduWaits.refl s |>.of_gdu rfl)
  · exact takeRunEntry_gdu_keeps (fun _ _ held same => held.of_gdu same) (fun ch st _ held => held.channel ch st) other held
  · exact takeRunEntry_gdu_keeps (fun _ _ held same => held.of_gdu same) (fun ch st _ held => held.channel ch st) other held

theorem GduEntered.enterCrank (h : GduEntered s u) (p : PowerState) : GduEntered s (Machine.enterCrank p u) := by
  refine hand_of_idle (goal := GduEntered s) (fun v f held => held.of_gdu rfl) (fun b v _ held => ?_) (h.of_gdu rfl)
  cases b
  case gdu => exact held.power p
  case pcu => exact held.of_gdu rfl
  case clc => exact held.of_gdu rfl
  all_goals exact held.of_gdu ((takeCrank_parts v p _).gdu_eq (by decide))

end

end Sys2Proof.Machine
end


section
/-! The gauges through Parked entry: every needle parks, and those already home rest with a PARKED notice (R38, R172). -/

namespace Sys2Proof.Machine

-- One theorem at a time, so that a build as one text needs few threads.
set_option Elab.async false

/-- Every needle whose angle is known stands at 0. -/
abbrev Gdu.AtRest (d : Gdu) : Prop := ∀ g : GaugeIx, d.gauges[g].present = none ∨ d.gauges[g].present = some 0

/-- A needle as Parked entry leaves it (R38). -/
def Gauge.parksIn (st : NeedleState) (x : Gauge) : Gauge :=
  { x with state := st, phase := none, homingLeft := none, target := 0 }

/-- The GDU after its own part of Parked entry (R38). -/
structure GduParked (s u : State) : Prop where
  slots : u.gdu.slots = s.gdu.slots
  parking : u.gdu.parking = true ↔ ¬ s.gdu.AtRest
  gauges : ∀ g : GaugeIx, u.gdu.gauges[g] = s.gdu.gauges[g].parksIn
    (if s.gdu.AtRest ∧ s.gdu.gauges[g].present.isSome then .rest else .parking)

section
variable {s u v : State}

theorem GduParked.of_gdu (h : GduParked s u) (same : v.gdu = u.gdu) : GduParked s v := by
  refine ⟨?_, ?_, ?_⟩
  all_goals rw [same]
  · exact h.slots
  · exact h.parking
  · exact h.gauges

/-- A needle that parks follows no channel (R31). -/
theorem GduParked.channel (h : GduParked s u) (ch : ChannelIx) (st : ChannelState) : GduParked s (gduChannel ch st u) := by
  refine ⟨h.slots, h.parking, fun g => ?_⟩
  rw [gduChannel_gauge, if_neg]
  · exact h.gauges g
  · rintro ⟨-, driven⟩
    rw [h.gauges g] at driven
    unfold Gauge.parksIn at driven
    dsimp only at driven
    split_ifs at driven <;> simp at driven

/-- The GDU's own part of Parked entry (R38). -/
theorem GduWaits.parks (h : GduWaits s u) : GduParked s (gduParkedEntry u) ∧
    (s.gdu.AtRest → u.lkp.mask.getLsbD 9 = true → (gduParkedEntry u).lkp.Told (.gauge .parked)) := by
  have entry : ∃ v : State, gduParkedEntry u = endParking v ∧ v.gdu.slots = u.gdu.slots ∧ v.gdu.parking = true ∧
      v.lkp = u.lkp ∧ ∀ g : GaugeIx, v.gdu.gauges[g] = s.gdu.gauges[g].parksIn .parking := by
    refine ⟨_, rfl, rfl, rfl, rfl, fun g => ?_⟩
    have gauge : (mapAll (Gauge.parksIn .parking) u.gdu.gauges)[g] = u.gdu.gauges[g].parksIn .parking := mapAll_get _ _ _
    exact gauge.trans (congrArg (Gauge.parksIn .parking) (h.gauges g).kept :)
  obtain ⟨v, parks, slots, parking, lkp, gauges⟩ := entry
  rw [parks]
  have ends : ParkingEnds v.gdu ↔ s.gdu.AtRest := by
    unfold ParkingEnds Gdu.AtRest
    simp only [gauges, parking, Gauge.parksIn, true_and]
  by_cases rest : s.gdu.AtRest
  · rw [endParking_of_ends v (ends.mpr rest)]
    refine ⟨⟨slots.trans h.slots, iff_of_false Bool.false_ne_true (not_not.mpr rest), fun g => ?_⟩, fun _ on => ?_⟩
    · refine (mapAll_get _ _ g).trans ?_
      rw [gauges]
      by_cases known : s.gdu.gauges[g].present.isSome = true
      · exact (if_pos known).trans (congrArg s.gdu.gauges[g].parksIn (if_pos ⟨rest, known⟩).symm)
      · exact (if_neg known).trans (congrArg s.gdu.gauges[g].parksIn (if_neg fun both => known both.2).symm)
    · refine Lkp.told_takeNotice ?_
      show v.lkp.mask.getLsbD 9 = true
      rw [lkp]
      exact on
  · rw [endParking_of_not_ends v fun ended => rest (ends.mp ended)]
    refine ⟨⟨slots.trans h.slots, iff_of_true parking rest, fun g => ?_⟩, fun rests => absurd rests rest⟩
    rw [gauges, if_neg fun both => rest both.1]

theorem takeParkedEntry_gdu_keeps {P : State → Prop} (reads : ∀ u v, P u → v.gdu = u.gdu → P v)
    (channel : ∀ ch st u, P u → P (gduChannel ch st u)) {b : Block} (other : b ≠ .gdu) (held : P u) :
    P (takeParkedEntry b u) := by
  cases b
  case pcu =>
    show P (pcuParkedEntry u)
    unfold pcuParkedEntry
    dsimp only
    refine eachIx_induct (motive := P) (reads _ _ held ?_) fun ch x kept => changeChannel_gdu_keeps reads channel ch _ kept
    rw [setDisagree_gdu]
    rfl
  case gdu => exact absurd rfl other
  all_goals exact reads _ _ held ((takeParkedEntry_parts u _).gdu_eq (by decide))

theorem enterParked_gdu (s : State) : GduParked s (enterParked s) ∧
    (s.gdu.AtRest → s.lkp.mask.getLsbD 9 = true → (enterParked s).lkp.Told (.gauge .parked)) := by
  have keeps (b : Block) (u : State) : KeepsNotice (.gauge .parked) u (takeParkedEntry b u) :=
    .takeParkedEntry (by simp [Notice.bit]) (fun _ => rfl) b u
  refine hand_reaches (b := .gdu) (before := fun u => GduWaits s u ∧ u.lkp.mask = s.lkp.mask)
    (goal := fun u => GduParked s u ∧
      (s.gdu.AtRest → s.lkp.mask.getLsbD 9 = true → u.lkp.Told (.gauge .parked))) (by decide) (fun u f held => ?_)
    (fun u held => ?_) (fun c u other held => ?_) (fun c u other held => ?_) ⟨(GduWaits.refl s).of_gdu rfl, rfl⟩
  · exact ⟨held.1.of_gdu rfl, held.2⟩
  · obtain ⟨waits, mask⟩ := held
    rw [← mask]
    exact waits.parks
  · exact ⟨takeParkedEntry_gdu_keeps (fun _ _ held same => held.of_gdu same) (fun ch st _ held => held.channel ch st) other
      held.1, (keeps c u).mask.trans held.2⟩
  · exact ⟨takeParkedEntry_gdu_keeps (fun _ _ held same => held.of_gdu same) (fun ch st _ held => held.channel ch st) other
      held.1, fun rest on => (keeps c u).told (held.2 rest on)⟩

end

end Sys2Proof.Machine
end


section
/-! The PCU, the samples and the bulb check through a change of the power state (R17, R18, R104, R172). -/

namespace Sys2Proof.Machine

-- One theorem at a time, so that a build as one text needs few threads.
set_option Elab.async false

/-! ## The PCU and the samples -/

section
variable {s u : State}

theorem pcuRunEntry_inputs (s : State) :
    (pcuRunEntry s).inputs = s.inputs.loadPulses fun ch => s.pcu.channels[ch].cfg.enabled := by
  unfold pcuRunEntry
  dsimp only
  refine eachIx_induct (motive := fun u : State =>
    u.inputs = s.inputs.loadPulses fun ch => s.pcu.channels[ch].cfg.enabled) ?_ fun ch u held => ?_
  · exact setDisagree_only _ false .inputs (by decide)
  · exact (show (changeChannel ch _ u).inputs = u.inputs from changeChannel_only u ch _ .inputs (by decide)).trans held

/-- The PCU and the samples as Run entry leaves them (R17). -/
theorem enterRun_pcu (s : State) : (enterRun s).pcu = { s.pcu with
      power := .run, gate := some s.pcu.cal.window.ms, roadSource := .ch0, disagree := false, cross := CrossCheck.zero
      channels := mapAll (fun c => Channel.restarted c.cfg) s.pcu.channels } ∧
    (enterRun s).inputs = s.inputs.loadPulses fun ch => s.pcu.channels[ch].cfg.enabled := by
  have kept (b : Block) (other : b ≠ .pcu) (u : State) : (takeRunEntry b u).pcu = u.pcu ∧ (takeRunEntry b u).inputs = u.inputs := by
    have only := takeRunEntry_parts u b
    have apart : Part.pcu ∉ entryParts b ∧ Part.inputs ∉ entryParts b := by
      cases b
      case pcu => exact absurd rfl other
      all_goals decide
    exact ⟨only.pcu_eq apart.1, only .inputs apart.2⟩
  refine hand_reaches (b := .pcu) (before := fun u => u.pcu = s.pcu ∧ u.inputs = s.inputs)
    (goal := fun u : State => u.pcu = { s.pcu with
        power := .run, gate := some s.pcu.cal.window.ms, roadSource := .ch0, disagree := false, cross := CrossCheck.zero
        channels := mapAll (fun c => Channel.restarted c.cfg) s.pcu.channels } ∧
      u.inputs = s.inputs.loadPulses fun ch => s.pcu.channels[ch].cfg.enabled) (by decide) (fun _ _ h => h)
    (fun u h => ?_) (fun b u other h => ?_) (fun b u other h => ?_) ⟨rfl, rfl⟩
  · obtain ⟨pcu, inputs⟩ := h
    have entered := pcuRunEntry_pcu u
    have loaded := pcuRunEntry_inputs u
    rw [pcu] at entered loaded
    rw [inputs] at loaded
    exact ⟨entered, loaded⟩
  · obtain ⟨pcu, inputs⟩ := kept b other u
    exact ⟨pcu.trans h.1, inputs.trans h.2⟩
  · obtain ⟨pcu, inputs⟩ := kept b other u
    exact ⟨pcu.trans h.1, inputs.trans h.2⟩

/-- The PCU as Parked entry leaves it (R18). -/
theorem enterParked_pcu (s : State) : (enterParked s).pcu = { s.pcu with
    power := .parked, gate := none, roadSource := .ch0, disagree := false, cross := CrossCheck.zero, snap := Snapshot.idle
    channels := mapAll (fun c => Channel.off c.cfg) s.pcu.channels } := by
  have kept (b : Block) (other : b ≠ .pcu) (u : State) : (takeParkedEntry b u).pcu = u.pcu := by
    refine (takeParkedEntry_parts u b).pcu_eq ?_
    cases b
    case pcu => exact absurd rfl other
    all_goals decide
  refine hand_reaches (b := .pcu) (before := fun u => u.pcu = s.pcu) (goal := fun u : State => u.pcu = { s.pcu with
      power := .parked, gate := none, roadSource := .ch0, disagree := false, cross := CrossCheck.zero, snap := Snapshot.idle
      channels := mapAll (fun c => Channel.off c.cfg) s.pcu.channels }) (by decide) (fun _ _ h => h)
    (fun u h => ?_) (fun b u other h => (kept b other u).trans h) (fun b u other h => (kept b other u).trans h) rfl
  have entered := pcuParkedEntry_pcu u
  rw [h] at entered
  exact entered

/-- CRANK changes the copy of the power state alone in the PCU, and no sample (R17). -/
theorem enterCrank_pcu (p : PowerState) (s : State) : (enterCrank p s).pcu = { s.pcu with power := p } := by
  have kept (b : Block) (other : b ≠ .pcu) (u : State) : (takeCrank p b u).pcu = u.pcu := by
    refine (takeCrank_parts u p b).pcu_eq ?_
    cases b
    case pcu => exact absurd rfl other
    all_goals decide
  refine hand_reaches (b := .pcu) (before := fun u => u.pcu = s.pcu) (goal := fun u : State => u.pcu = { s.pcu with power := p })
    (by decide) (fun _ _ h => h) (fun u h => ?_) (fun b u other h => (kept b other u).trans h)
    (fun b u other h => (kept b other u).trans h) rfl
  exact congrArg (fun x : Pcu => { x with power := p }) h

/-! ## The bulb check -/

namespace BulbKept

theorem of_only {ps : List Part} (h : OnlyChanges ps s u) (hp : Part.wtb ∉ ps := by decide) : BulbKept s u :=
  of_wtb (h.wtb_eq hp)

theorem takeRunEntry {b : Block} (other : b ≠ .wtb) (s : State) : BulbKept s (Machine.takeRunEntry b s) := by
  cases b
  case pcu => exact fed (.of_handed (takeRunEntry_handed s rfl))
  case clc => exact fed (clcRunEntry_fed s)
  case wtb => exact absurd rfl other
  all_goals exact of_only (takeRunEntry_parts s _)

theorem takeParkedEntry {b : Block} (other : b ≠ .wtb) (s : State) : BulbKept s (Machine.takeParkedEntry b s) := by
  cases b
  case pcu => exact fed (.of_handed (takeParkedEntry_handed s rfl))
  case clc => exact fed (clcParkedEntry_fed s)
  case wtb => exact absurd rfl other
  all_goals exact of_only (takeParkedEntry_parts s _)

theorem takeCrank (p : PowerState) (b : Block) (s : State) : BulbKept s (Machine.takeCrank p b s) := by
  cases b
  case wtb =>
    show BulbKept s (wtbCrank p s)
    unfold wtbCrank
    exact wtbTake _ _ s
  case pcu => exact of_wtb rfl
  case clc => exact of_wtb rfl
  all_goals exact of_only (takeCrank_parts s p _)

theorem enterCrank (p : PowerState) (s : State) : BulbKept s (Machine.enterCrank p s) :=
  hand_of_idle (goal := BulbKept s) (fun _ _ h => h.trans (.of_wtb rfl)) (fun b u _ h => h.trans (takeCrank p b u)) (of_wtb rfl)

end BulbKept

/-- Run entry starts the bulb check and keeps the configurations (R104). -/
theorem enterRun_bulbCheck (s : State) : (enterRun s).wtb.bulbCheck = some Config.bulbCheckMs ∧
    ∀ w : EntryIx, (enterRun s).wtb.entries[w].cfg = s.wtb.entries[w].cfg := by
  refine hand_reaches (b := .wtb) (before := BulbKept s) (goal := fun u => u.wtb.bulbCheck = some Config.bulbCheckMs ∧
    ∀ w : EntryIx, u.wtb.entries[w].cfg = s.wtb.entries[w].cfg) (by decide) (fun _ _ h => h.trans (.of_wtb rfl))
    (fun u h => ?_) (fun b u other h => h.trans (.takeRunEntry other u)) (fun b u other h => ?_) (.of_wtb rfl)
  · have takes : takeRunEntry .wtb u = evaluateWhere (fun c => c.enabled) (u.modWtb fun t =>
        { t with bulbCheck := some Config.bulbCheckMs, view := { t.view with power := .run } }) := rfl
    rw [takes]
    have evaluated := BulbKept.byProducts (.evaluateWhere (fun c => c.enabled) (u.modWtb fun t =>
      { t with bulbCheck := some Config.bulbCheckMs, view := { t.view with power := .run } }))
    exact ⟨evaluated.1, fun w => (evaluated.2 w).trans (h.2 w)⟩
  · have kept := BulbKept.takeRunEntry other u
    exact ⟨kept.1.trans h.1, fun w => (kept.2 w).trans (h.2 w)⟩

end

end Sys2Proof.Machine
end


section
/-! Run entry with the CRANK transition that may follow it at once (R170, R172, R173). -/

namespace Sys2Proof.Machine

-- One theorem at a time, so that a build as one text needs few threads.
set_option Elab.async false

/-! ## The event -/

/-- The IGS with IGN on, its RUN notice handed, before Run entry (Table 47). -/
def State.ignited (s : State) : State := (s.modIgs fun g => { g with ign := true }).notify (.power .run .ignOn)

/-- Run entry and the CRANK that may follow it. -/
def State.started (s : State) : State := crankIfOn (enterRun s.ignited)

section
variable (s : State)

theorem ignitionOn_of_parked (parked : s.igs.power = .parked) : ignitionOn s = s.started := if_pos parked

theorem crankIfOn_of_run {u : State} (run : u.igs.power = .run) :
    crankIfOn u = if u.igs.crank = true then crankStart u else u := by
  unfold crankIfOn
  by_cases crank : u.igs.crank = true
  · rw [if_pos ⟨run, crank⟩, if_pos crank]
  · rw [if_neg fun both => crank both.2, if_neg crank]

theorem started_eq : s.started = if s.igs.crank = true then crankStart (enterRun s.ignited) else enterRun s.ignited := by
  have igs : (enterRun s.ignited).igs = { s.ignited.igs with power := .run } := enterRun_igs _
  have crank : (enterRun s.ignited).igs.crank = s.igs.crank := by rw [igs]; rfl
  unfold State.started
  rw [crankIfOn_of_run (by rw [igs]), crank]

/-- What holds of Run entry's state and goes through the CRANK notice and the blocks' parts of CRANK holds of the event's. -/
theorem started_of {P : State → Prop} (entered : P (enterRun s.ignited)) (noticed : ∀ u, P u → P (u.notify (.power .crank .crankOn)))
    (igs : ∀ u f, P u → P (u.modIgs f)) (free : ∀ u f, P u → P (u.modFree f))
    (takes : ∀ b u, P u → P (takeCrank .crank b u)) : P s.started := by
  rw [started_eq]
  split_ifs
  · exact hand_of_idle (goal := P) free (fun b u _ held => takes b u held) (igs _ _ (noticed _ entered))
  · exact entered

theorem started_igs : s.started.igs = { s.igs with ign := true, power := if s.igs.crank then .crank else .run } := by
  have igs : (enterRun s.ignited).igs = { s.ignited.igs with power := .run } := enterRun_igs _
  rw [started_eq]
  split_ifs
  · unfold crankStart
    rw [enterCrank_igs]
    exact congrArg (fun g : Igs => { g with power := .crank }) igs
  · rw [igs]
    rfl

theorem started_allIn : AllIn (if s.igs.crank then .crank else .run) s.started := by
  rw [started_eq]
  split_ifs
  · exact enterCrank_allIn .crank _
  · exact enterRun_allIn _

/-! ## The blocks -/

theorem started_gdu : GduEntered s s.started := by
  refine started_of s (P := GduEntered s) ?_ (fun _ h => h.of_gdu rfl) (fun _ _ h => h.of_gdu rfl)
    (fun _ _ h => h.of_gdu rfl) fun b u h => ?_
  · have entered := enterRun_gdu s.ignited
    exact ⟨entered.parking, entered.slots, entered.homes, entered.called⟩
  · cases b
    case gdu => exact h.power .crank
    case pcu => exact h.of_gdu rfl
    case clc => exact h.of_gdu rfl
    all_goals exact h.of_gdu ((takeCrank_parts u .crank _).gdu_eq (by decide))

theorem started_pcu : s.started.pcu = { s.pcu with
      power := s.started.igs.power, gate := some s.pcu.cal.window.ms, roadSource := .ch0, disagree := false
      cross := CrossCheck.zero, channels := mapAll (fun c => Channel.restarted c.cfg) s.pcu.channels } ∧
    s.started.inputs = s.inputs.loadPulses fun ch => s.pcu.channels[ch].cfg.enabled := by
  obtain ⟨pcu, inputs⟩ := enterRun_pcu s.ignited
  have power : s.started.igs.power = if s.igs.crank then .crank else .run := by rw [started_igs]
  rw [power, started_eq]
  by_cases crank : s.igs.crank = true
  · rw [if_pos crank, if_pos crank]
    unfold crankStart
    have only : OnlyChanges [.igs, .pcu, .gdu, .tau, .svs, .wtb, .chs, .clc, .lkp, .free] _ _ :=
      (notify_only (enterRun s.ignited) (.power .crank .crankOn)).comp (enterCrank_only _ .crank)
    refine ⟨?_, (only .inputs (by decide)).trans inputs⟩
    rw [enterCrank_pcu]
    exact congrArg (fun p : Pcu => { p with power := .crank }) pcu
  · rw [if_neg crank, if_neg crank]
    exact ⟨pcu, inputs⟩

theorem started_bulbCheck : s.started.wtb.bulbCheck = some Config.bulbCheckMs ∧
    ∀ w : EntryIx, s.started.wtb.entries[w].cfg = s.wtb.entries[w].cfg := by
  refine started_of s (P := fun u => u.wtb.bulbCheck = some Config.bulbCheckMs ∧
    ∀ w : EntryIx, u.wtb.entries[w].cfg = s.wtb.entries[w].cfg) (enterRun_bulbCheck s.ignited) (fun _ h => h) (fun _ _ h => h)
    (fun _ _ h => h) fun b u h => ?_
  obtain ⟨bulb, cfg⟩ := BulbKept.takeCrank .crank b u
  exact ⟨bulb.trans h.1, fun w => (cfg w).trans (h.2 w)⟩

theorem started_only : OnlyChanges powerParts s s.started := by
  have entered : OnlyChanges powerParts s (enterRun s.ignited) :=
    ((modIgs_only s _).comp (notify_only _ _) : OnlyChanges [.igs, .lkp] s s.ignited).comp (enterRun_only _)
  exact entered.comp (crankIfOn_only _)

/-! ## The Coach Line -/

theorem ignited_replies : s.ignited.lkp.replies = s.lkp.replies :=
  (congrArg Lkp.replies (Lkp.takeNotice_keeps (.power .run .ignOn) s.lkp) :)

theorem ignited_mask : s.ignited.lkp.mask = s.lkp.mask := Lkp.takeNotice_mask _ _

theorem started_coach : CoachEntered s s.started := by
  refine started_of s (P := CoachEntered s) ?_ (fun u h => ?_) (fun u f h => ?_) (fun u f h => ?_) fun b u h => h.takeCrank b
  · have entered := enterRun_coach s.ignited
    have aborted : s.ignited.abortedReplies = s.abortedReplies := by
      unfold State.abortedReplies
      rw [ignited_replies]
      rfl
    exact {
      clc := entered.clc
      nodes := entered.nodes
      replies := entered.replies.trans aborted
      heard := fun n enabled changed on => entered.heard n enabled changed (by rw [ignited_mask]; exact on)
      line := entered.line }
  · exact h.after (.of_clc rfl) (congrArg Lkp.replies (Lkp.takeNotice_keeps _ _) :)
      (fun n => .notify (fun key => absurd (congrArg Prod.fst key) (by simp [Notice.key, Notice.bit])) _) id
  · exact h.after (.of_clc rfl) rfl (fun n => .of_lkp rfl rfl rfl) id
  · exact h.after (.of_clc rfl) rfl (fun n => .of_lkp rfl rfl rfl) id

/-! ## The warning entries -/

/-- The state Run entry takes an enabled entry to, its condition written out (R91, R93). -/
theorem runState_of_enabled {t : Wtb} {w : EntryIx} (enabled : t.entries[w].cfg.enabled = true) :
    t.runState w = match t.entries[w].state, t.sourceCondition t.entries[w] &&
        (t.withPower .run).gateTrue t.entries[w].cfg.gate1 && (t.withPower .run).gateTrue t.entries[w].cfg.gate2 with
      | .idle, true => if t.entries[w].cfg.qualify = 0 then .active else .pending
      | .pending, false => .idle
      | .active, false => if t.entries[w].cfg.latching then .resolved else .idle
      | .acked, false => .idle
      | .resolved, true => .active
      | st, _ => st := by
  have source : (t.withPower .run).sourceCondition t.entries[w] = t.sourceCondition t.entries[w] :=
    sourceCondition_of_values (fun x _ => by cases x <;> rfl) (fun _ _ => rfl) (fun _ _ => rfl)
      ⟨rfl, rfl, rfl, rfl, rfl, rfl, rfl⟩
  unfold Wtb.runState Wtb.runHolds Wtb.holds
  rw [source, enabled, Bool.true_and]
  generalize (t.sourceCondition t.entries[w] && (t.withPower .run).gateTrue t.entries[w].cfg.gate1 &&
    (t.withPower .run).gateTrue t.entries[w].cfg.gate2) = holds
  unfold Entry.moved
  cases state : t.entries[w].state <;> cases holds <;> rfl

theorem started_entry {w : EntryIx} (begins : RunStart w s.wtb) (off : ∀ ch : ChannelIx, s.pcu.channels[ch].state = .off) :
    RunsEntry w s.wtb (s.lkp.mask.getLsbD 1 = true) True s.started := by
  have apart (cause : PowerCause) (p : PowerState) (u : State) :
      KeepsNotice (.warning w (s.wtb.runState w)) u (u.notify (.power p cause)) :=
    .notify (fun key => absurd (congrArg Prod.fst key) (by simp [Notice.key, Notice.bit])) u
  have start : RunsEntry.Held w s.wtb (s.lkp.mask.getLsbD 1 = true) False
      (s.ignited.modIgs fun g => { g with power := .run }) := by
    refine ⟨.start begins rfl fun on => ?_, fun ch => ?_⟩
    · show s.ignited.lkp.mask.getLsbD 1 = true
      rw [ignited_mask]
      exact on
    · have same : (s.ignited.modIgs fun g => { g with power := .run }).pcu.channels[ch].state = .off := off ch
      rw [same]
      exact nofun
  have entered : RunsEntry.Held w s.wtb (s.lkp.mask.getLsbD 1 = true) True (enterRun s.ignited) := by
    refine hand_reaches (b := .wtb) (before := RunsEntry.Held w s.wtb (s.lkp.mask.getLsbD 1 = true) False)
      (goal := RunsEntry.Held w s.wtb (s.lkp.mask.getLsbD 1 = true) True) (by decide) (fun u f h => ?_)
      (fun u h => RunsEntry.wtbRunEntry begins h) (fun b u _ h => RunsEntry.takeRunEntry begins b h)
      (fun b u _ h => RunsEntry.takeRunEntry begins b h) start
    exact ⟨h.1.of_wtb rfl (.of_lkp rfl rfl rfl), h.2⟩
  refine started_of s (P := RunsEntry w s.wtb (s.lkp.mask.getLsbD 1 = true) True) entered.1
    (fun u h => h.of_wtb rfl (apart _ _ u)) (fun u f h => h.of_wtb rfl (.of_lkp rfl rfl rfl))
    (fun u f h => h.of_wtb rfl (.of_lkp rfl rfl rfl)) fun b u h => RunsEntry.takeCrank begins b h

/-! ## The POWER notice -/

theorem enterRun_keepsPower (p : PowerState) (cause : PowerCause) (u : State) :
    KeepsNotice (.power p cause) u (enterRun u) := by
  have takes (b : Block) (v : State) : KeepsNotice (.power p cause) v (takeRunEntry b v) :=
    .takeRunEntry (by simp [Notice.bit]) b (fun _ => by simp [Notice.bit]) v
  exact (KeepsNotice.of_only (modIgs_only u _)).trans (.hand takes allBlocks _)

theorem enterParked_keepsPower (p : PowerState) (cause : PowerCause) (u : State) :
    KeepsNotice (.power p cause) u (enterParked u) := by
  have takes (b : Block) (v : State) : KeepsNotice (.power p cause) v (takeParkedEntry b v) :=
    .takeParkedEntry (by simp [Notice.bit])
      (fun key => absurd (congrArg Prod.fst key) (by simp [Notice.key, Notice.bit])) b v
  exact (KeepsNotice.of_only (modIgs_only u _)).trans (.hand takes allBlocks _)

theorem enterCrank_keepsPower (p q : PowerState) (cause : PowerCause) (u : State) :
    KeepsNotice (.power p cause) u (enterCrank q u) := by
  have takes (b : Block) (v : State) : KeepsNotice (.power p cause) v (takeCrank q b v) :=
    .takeCrank (by simp [Notice.bit]) q b v
  exact (KeepsNotice.of_only (modIgs_only u _)).trans (.hand takes allBlocks _)

/-- A waiting notice gives its place to one of the same subject (R189). -/
theorem notify_replaces {m n : Notice} (key : m.key = n.key) {u : State} (on : u.lkp.mask.getLsbD n.bit = true)
    (held : m ∈ u.lkp.notices) : n ∈ (u.notify n).lkp.notices := by
  show n ∈ (u.lkp.takeNotice n).notices
  rw [Lkp.takeNotice_merged on ⟨m, held, key⟩]
  exact List.mem_map.mpr ⟨m, held, if_pos key⟩

theorem started_notice (on : s.lkp.mask.getLsbD 0 = true) (room : s.lkp.notices.length < 12) :
    (if s.igs.crank then Notice.power .crank .crankOn else .power .run .ignOn) ∈ s.started.lkp.notices := by
  have handed : Notice.power .run .ignOn ∈ s.ignited.lkp.notices :=
    mem_takeNotice (n := .power .run .ignOn) (l := s.lkp) on room
  have kept := enterRun_keepsPower .run .ignOn s.ignited
  have run := kept.waits handed
  have mask : (enterRun s.ignited).lkp.mask = s.lkp.mask := kept.mask.trans (ignited_mask s)
  rw [started_eq]
  split_ifs
  · have crank : Notice.power .crank .crankOn ∈
        ((enterRun s.ignited).notify (.power .crank .crankOn)).lkp.notices :=
      notify_replaces (m := .power .run .ignOn) (n := .power .crank .crankOn) rfl (by rw [mask]; exact on) run
    exact (enterCrank_keepsPower .crank .crank .crankOn _).waits crank
  · exact run

end

end Sys2Proof.Machine
end


section
/-! A warning entry that is not parked-live through Parked entry: IDLE with its timers and memory clear, whatever the
order of the blocks (R100, R172). -/

namespace Sys2Proof.Machine

-- One theorem at a time, so that a build as one text needs few threads.
set_option Elab.async false

/-! ## What reads the WTB and the CHS -/

/-- A property of the WTB and the CHS that goes through what the others hand the WTB, but for the power state. -/
structure WtbStays (P : State → Prop) : Prop where
  reads : ∀ u v : State, P u → v.wtb = u.wtb → v.chs = u.chs → P v
  takes : ∀ (f : WarnView → WarnView) test u, (∀ v : WarnView, (f v).power = v.power) → P u → P (wtbTake f test u)

namespace WtbStays
variable {P : State → Prop} {u : State}

theorem setDisagree (h : WtbStays P) (b : Bool) (held : P u) : P (Machine.setDisagree b u) := by
  unfold Machine.setDisagree
  split_ifs
  · exact held
  · exact h.takes _ _ _ (fun _ => rfl) (h.reads u _ held rfl rfl)

theorem changeChannel (h : WtbStays P) (ch : ChannelIx) (f : Channel → Channel) (held : P u) :
    P (Machine.changeChannel ch f u) := by
  have recorded : P (channelRecorded ch f u) := by
    unfold channelRecorded
    split_ifs
    · unfold leaveLive
      exact h.setDisagree false (h.reads u _ held rfl rfl)
    · exact h.reads u _ held rfl rfl
  by_cases same : (f u.pcu.channels[ch]).state = u.pcu.channels[ch].state
  · rw [changeChannel_of_same same]
    exact h.reads u _ held rfl rfl
  · rw [changeChannel_of_changed same]
    generalize channelRecorded ch f u = v at recorded ⊢
    refine hand_of_idle (goal := P) (fun x g kept => h.reads x _ kept rfl rfl) (fun b x _ kept => ?_) recorded
    cases b
    case wtb =>
      show P (wtbChannel ch _ _ _ x)
      unfold wtbChannel
      exact h.takes _ _ _ (fun _ => rfl) kept
    case tau =>
      have only : OnlyChanges [.tau] x (takeChannel ch (f u.pcu.channels[ch]).state v.pcu.engineRunning v.pcu.roadLive .tau x) :=
        (modTau_only x _).trans (tauRoadLive_only _ _)
      exact h.reads x _ kept (only.wtb_eq (by decide)) (only .chs (by decide))
    case clc => exact h.reads x _ kept ((clcRoadLive_only x _).wtb_eq (by decide)) (clcRoadLive_only x _ .chs (by decide))
    all_goals exact h.reads x _ kept rfl rfl

theorem takeParkedEntry (h : WtbStays P) {b : Block} (other : b ≠ .wtb) (chs : b = .chs → P (chsParkedEntry u))
    (held : P u) : P (Machine.takeParkedEntry b u) := by
  cases b
  case pcu =>
    show P (pcuParkedEntry u)
    unfold pcuParkedEntry
    dsimp only
    exact eachIx_induct (motive := P) (h.setDisagree false (h.reads u _ held rfl rfl)) fun ch v kept => h.changeChannel ch _ kept
  case clc =>
    show P (clcParkedEntry u)
    unfold clcParkedEntry
    dsimp only
    have passed : P (endPass (.refuse .aborted) (u.modClc fun c => { c.abandon with
        power := .parked, heldLow := false
        sleepWaiting := decide (u.clc.line = .running ∨ u.clc.line = .backoff ∨ u.clc.line = .resetting) })) :=
      h.reads u _ held (endPass_wtb _ _) (endPass_only _ _ .chs (by decide))
    generalize endPass (.refuse .aborted) (u.modClc fun c => { c.abandon with
      power := .parked, heldLow := false
      sleepWaiting := decide (u.clc.line = .running ∨ u.clc.line = .backoff ∨ u.clc.line = .resetting) }) = v at passed ⊢
    unfold setLine
    split_ifs
    · exact passed
    · exact h.takes _ _ _ (fun _ => rfl) (h.reads v _ passed rfl rfl)
  case wtb => exact absurd rfl other
  case chs => exact chs rfl
  all_goals exact h.reads u _ held ((takeParkedEntry_parts u _).wtb_eq (by decide)) (takeParkedEntry_parts u _ .chs (by decide))

end WtbStays

/-! ## The entry -/

/-- An entry as Parked entry leaves it (R100). -/
def Entry.asleep (e : Entry) : Entry :=
  { e with state := .idle, qualifyTimer := none, repeatTimer := none, memory := false }

section
variable {w : EntryIx} {e : Entry} {u v : State}

/-- What the entry is configured as, its event and its link condition stand. -/
theorem Entry.taken_asleep (holds : Bool) (e : Entry) : (e.taken holds).asleep = e.asleep := by
  unfold Entry.taken
  cases e.state <;> cases holds <;> dsimp only
  case idle.true => split_ifs <;> rfl
  all_goals rfl

theorem EntryLeft.asleep (h : EntryLeft w u v) : v.wtb.entries[w].asleep = u.wtb.entries[w].asleep := by
  obtain ⟨timer, entry, -⟩ := h.entry
  rw [entry]
  rfl

theorem evaluateEntry_asleep (k : EntryIx) (u : State) :
    (evaluateEntry k u).wtb.entries[w].asleep = u.wtb.entries[w].asleep := by
  by_cases own : k = w
  · subst own
    by_cases rests : u.wtb.view.power = .parked ∧ ¬ u.wtb.entries[k].cfg.parkedLive
    · have idle : evaluateEntry k u = u := if_pos rests
      rw [idle]
    · rw [((evaluateEntry_rearmed k u rests).left k).asleep, State.modEntry_entries, updAt_get_same]
      exact Entry.taken_asleep _ _
  · exact (evaluateEntry_left own u).asleep

/-- An entry that may be evaluated meanwhile. -/
theorem asleep_stays (w : EntryIx) (e : Entry) : WtbStays fun u => u.wtb.entries[w].asleep = e.asleep where
  reads u v held same _ := by rw [same]; exact held
  takes f test u power held := by
    unfold wtbTake evaluateWhere
    refine eachIx_induct (motive := fun v : State => v.wtb.entries[w].asleep = e.asleep) held fun k v kept => ?_
    split_ifs
    · exact (evaluateEntry_asleep k v).trans kept
    · exact kept

/-- An entry at rest in PARKED. -/
structure EntryRests (w : EntryIx) (e : Entry) (u : State) : Prop where
  entry : u.wtb.entries[w] = e.asleep
  power : u.wtb.view.power = .parked

/-- Whose repeat timer does not run, it is not started again. -/
theorem EntryRests.left (h : EntryRests w e u) (kept : EntryLeft w u v) : EntryRests w e v := by
  obtain ⟨wtb, timer, entry, starts⟩ := kept
  have stopped : timer = none := by
    refine Option.not_isSome_iff_eq_none.mp fun runs => ?_
    have running := starts runs
    rw [h.entry] at running
    rcases running with repeats | active
    · exact Bool.noConfusion repeats
    · exact EntryState.noConfusion active
  refine ⟨?_, by rw [wtb]; exact h.power⟩
  rw [entry, h.entry, stopped]
  rfl

theorem EntryRests.evaluated (h : EntryRests w e u) (live : e.cfg.parkedLive = false) (k : EntryIx) :
    EntryRests w e (evaluateEntry k u) := by
  by_cases own : k = w
  · subst own
    have cfg : u.wtb.entries[k].cfg = e.cfg := by rw [h.entry]; rfl
    have idle : evaluateEntry k u = u := if_pos ⟨h.power, by rw [cfg, live]; exact Bool.false_ne_true⟩
    rw [idle]
    exact h
  · exact h.left (evaluateEntry_left own u)

theorem rests_stays (w : EntryIx) (live : e.cfg.parkedLive = false) : WtbStays (EntryRests w e) where
  reads u v held same _ := ⟨by rw [same]; exact held.entry, by rw [same]; exact held.power⟩
  takes f test u power held := by
    unfold wtbTake evaluateWhere
    refine eachIx_induct (motive := EntryRests w e) ⟨held.entry, (power _).trans held.power⟩ fun k v kept => ?_
    split_ifs
    · exact kept.evaluated live k
    · exact kept

/-- The WTB's own part, for one entry (R100). -/
theorem parkEntry_asleep (w : EntryIx) (u : State) : (parkEntry w u).wtb.entries[w] = u.wtb.entries[w].asleep := by
  have written {f : Entry → Entry} {v : State} (h : Rearmed (u.modEntry w f) v)
      (idle : (f u.wtb.entries[w]).state = .idle) (asleep : (f u.wtb.entries[w]).asleep = u.wtb.entries[w].asleep) :
      (v.modEntry w fun e => { e with qualifyTimer := none, repeatTimer := none, memory := false }).wtb.entries[w] =
        u.wtb.entries[w].asleep := by
    obtain ⟨timer, entry, -⟩ := h.entries w
    rw [State.modEntry_entries, updAt_get_same] at entry
    rw [State.modEntry_entries, updAt_get_same, ← asleep, entry]
    unfold Entry.asleep
    rw [idle]
  unfold parkEntry
  dsimp only
  split
  · exact written (leaveActive_rearmed w u .idle) rfl rfl
  · exact written (enterIdle_rearmed w u) rfl rfl
  · exact written (enterIdle_rearmed w u) rfl rfl
  · exact written (enterIdle_rearmed w u) rfl rfl
  · rename_i idle
    rw [State.modEntry_entries, updAt_get_same]
    unfold Entry.asleep
    rw [idle]

theorem wtbParkedEntry_turns (u : State) : wtbParkedEntry u = eachIx 32 (parkTurn (decide (u.wtb.view.roadSource ≠ .ch0)))
    (u.modWtb fun t => { t with bulbCheck := none, view := t.view.asleep }) := rfl

theorem wtbParkedEntry_rests (live : e.cfg.parkedLive = false) (held : u.wtb.entries[w].asleep = e.asleep) :
    EntryRests w e (wtbParkedEntry u) := by
  rw [wtbParkedEntry_turns]
  generalize decide (u.wtb.view.roadSource ≠ .ch0) = moved
  refine eachIx_brings w (before := fun v => v.wtb.entries[w].asleep = e.asleep ∧ v.wtb.view.power = .parked)
    (goal := EntryRests w e) (fun v before => ?_) (fun k v other before => ?_) (fun k v other rests => ?_) ⟨held, rfl⟩
  · obtain ⟨same, parked⟩ := before
    have cfg : v.wtb.entries[w].cfg = e.cfg := (congrArg Entry.cfg same :)
    have turn : parkTurn moved w v = parkEntry w v := if_pos (by rw [cfg, live]; exact Bool.false_ne_true)
    obtain ⟨-, -, -, -, view⟩ := parkEntry_entry v w
    rw [turn]
    exact ⟨(parkEntry_asleep w v).trans same, by rw [view]; exact parked⟩
  · obtain ⟨same, parked⟩ := before
    have kept := parkTurn_left moved other v
    exact ⟨kept.asleep.trans same, by rw [kept.wtb]; exact parked⟩
  · exact rests.left (parkTurn_left moved other v)

end

theorem chsParkedEntry_wtb (u : State) : (chsParkedEntry u).wtb = u.wtb := (chsParkedEntry_only u).wtb_eq (by decide)

/-- An entry that is not parked-live after Parked entry (R100). -/
theorem enterParked_entry (w : EntryIx) (s : State) (live : s.wtb.entries[w].cfg.parkedLive = false) :
    (enterParked s).wtb.entries[w] = s.wtb.entries[w].asleep := by
  have waits := asleep_stays w s.wtb.entries[w]
  have rests := rests_stays w live
  have own (u : State) (held : u.wtb.entries[w].asleep = s.wtb.entries[w].asleep) :
      EntryRests w s.wtb.entries[w] (takeParkedEntry .wtb u) := by
    have takes : takeParkedEntry .wtb u = wtbParkedEntry u := rfl
    rw [takes]
    exact wtbParkedEntry_rests live held
  have entered : EntryRests w s.wtb.entries[w] (enterParked s) :=
    hand_reaches (b := .wtb) (before := fun u => u.wtb.entries[w].asleep = s.wtb.entries[w].asleep)
      (goal := EntryRests w s.wtb.entries[w]) (by decide) (fun u f held => held)
      own (fun b u other held => waits.takeParkedEntry other (fun _ => by rw [chsParkedEntry_wtb]; exact held) held)
      (fun b u other held => rests.takeParkedEntry other (fun _ => held.left ((Rearmed.of_wtb (chsParkedEntry_wtb u)).left w)) held) rfl
  exact entered.entry

/-- Parked entry ends the bulb check and keeps the configurations (R100). -/
theorem enterParked_bulbCheck (s : State) : (enterParked s).wtb.bulbCheck = none ∧
    ∀ w : EntryIx, (enterParked s).wtb.entries[w].cfg = s.wtb.entries[w].cfg := by
  refine hand_reaches (b := .wtb) (before := BulbKept s) (goal := fun u => u.wtb.bulbCheck = none ∧
    ∀ w : EntryIx, u.wtb.entries[w].cfg = s.wtb.entries[w].cfg) (by decide) (fun _ _ h => h.trans (.of_wtb rfl))
    (fun u h => ?_) (fun b u other h => h.trans (.takeParkedEntry other u)) (fun b u other h => ?_) (.of_wtb rfl)
  · have takes : takeParkedEntry .wtb u = wtbParkedEntry u := rfl
    have turn (moved : Bool) (w : EntryIx) (v : State) : ByProducts v (parkTurn moved w v) := by
      unfold parkTurn
      split_ifs
      · exact .evaluateEntry w v
      · exact .refl v
      · exact .parkEntry w v
    rw [takes, wtbParkedEntry_turns]
    have turned := BulbKept.byProducts (.eachIx (turn (decide (u.wtb.view.roadSource ≠ .ch0)))
      (u.modWtb fun t => { t with bulbCheck := none, view := t.view.asleep }))
    generalize eachIx 32 (parkTurn (decide (u.wtb.view.roadSource ≠ .ch0)))
      (u.modWtb fun t => { t with bulbCheck := none, view := t.view.asleep }) = v at turned ⊢
    exact ⟨turned.1, fun w => (turned.2 w).trans (h.2 w)⟩
  · have kept := BulbKept.takeParkedEntry other u
    exact ⟨kept.1.trans h.1, fun w => (kept.2 w).trans (h.2 w)⟩

end Sys2Proof.Machine
end


section
/-! The CHS through Parked entry: no privacy and no call from the rear, whatever the other blocks hand (R122, R172). -/

namespace Sys2Proof.Machine

-- One theorem at a time, so that a build as one text needs few threads.
set_option Elab.async false

/-- Neither privacy nor a call from the rear. -/
structure CallsGone (s : State) : Prop where
  privacy : s.chs.privacy = false
  call : s.chs.holds .rearCall = false

section
variable {s : State}

theorem CallsGone.reads {u v : State} (h : CallsGone u) (same : v.chs = u.chs) : CallsGone v :=
  ⟨by rw [same]; exact h.privacy, by rw [same]; exact h.call⟩

/-- A request of another source is taken with no call put in (R112, R113, R114). -/
theorem takeChime_callsGone {r : ChimeRequest} (link : r.source ≠ .link) (other : r.source ≠ .rearCall) (h : CallsGone s) :
    CallsGone (takeChime r s).1 := by
  have joined {c : Chs} (privacy : c.privacy = false) (call : c.holds .rearCall = false) (u : State)
      (chs : u.chs = (c.enqueue r).chooseIfSilent) : CallsGone u := by
    have frame := (c.enqueue r).chooseIfSilent_frame
    refine ⟨?_, Bool.eq_false_iff.mpr fun held => ?_⟩
    · rw [chs]
      exact (congrArg Chs.privacy frame :).trans privacy
    · rw [chs] at held
      rcases Chs.holds_enqueue_iff.mp held with own | before
      · exact other own
      · exact Bool.noConfusion (call.symm.trans before)
  unfold takeChime
  split
  · rw [if_neg link]
    exact h
  · split_ifs
    · exact joined h.privacy h.call _ rfl
    · split
      · rename_i v _
        split_ifs
        · have chs : (handEnd .evicted v s).chs = s.chs := (handEnd_spec s .evicted v).1 .chs (by decide)
          refine joined (c := s.chs.drop v.source) h.privacy (Chs.drop_holds_other h.call) _ ?_
          rw [State.modChs_chs, chs]
        · exact h.reads (handNotQueued_only s _ .chs (by decide))
      · exact h.reads (handNotQueued_only s _ .chs (by decide))

theorem removeChime_callsGone (src : ChimeSource) (h : CallsGone s) : CallsGone (removeChime src s) := by
  refine ⟨(congrArg Chs.privacy (s.chs.remove_frame src) :).trans h.privacy, ?_⟩
  have queue : (removeChime src s).chs.queue = s.chs.queue.filter fun q => decide (q.source ≠ src) := s.chs.remove_queue src
  have call := h.call
  unfold Chs.holds at call ⊢
  rw [List.any_eq_false] at call ⊢
  rw [queue]
  exact fun r mem => call r (List.mem_of_mem_filter mem)

theorem reportEntry_callsGone (w : EntryIx) (old new : EntryState) (h : CallsGone s) : CallsGone (reportEntry w old new s) := by
  unfold reportEntry
  split_ifs
  · exact h.reads rfl
  · exact h.reads rfl

theorem handWarningChime_callsGone (w : EntryIx) (h : CallsGone s) : CallsGone (handWarningChime w s) := by
  unfold handWarningChime
  split
  · exact takeChime_callsGone (by exact ChimeSource.noConfusion) (by exact ChimeSource.noConfusion) h
  · exact h

theorem entry_callsGone (w : EntryIx) (f : Entry → Entry) (h : CallsGone s) : CallsGone (s.modEntry w f) := h.reads rfl

theorem enterActive_callsGone (w : EntryIx) (h : CallsGone s) : CallsGone (enterActive w s) :=
  reportEntry_callsGone w _ _ (handWarningChime_callsGone w (entry_callsGone w _ h))

theorem leaveActive_callsGone (w : EntryIx) (new : EntryState) (h : CallsGone s) : CallsGone (leaveActive w new s) :=
  reportEntry_callsGone w _ _ (removeChime_callsGone _ (entry_callsGone w _ h))

theorem enterIdle_callsGone (w : EntryIx) (h : CallsGone s) : CallsGone (enterIdle w s) :=
  reportEntry_callsGone w _ _ (entry_callsGone w _ h)

theorem moveEntry_callsGone (w : EntryIx) (holds : Bool) (h : CallsGone s) : CallsGone (moveEntry w holds s) := by
  unfold moveEntry
  split
  · split_ifs
    · exact enterActive_callsGone w h
    · exact reportEntry_callsGone w _ _ (entry_callsGone w _ h)
  · exact enterIdle_callsGone w h
  · exact leaveActive_callsGone w _ h
  · exact enterIdle_callsGone w h
  · exact enterActive_callsGone w h
  all_goals exact h

theorem evaluateEntry_callsGone (w : EntryIx) (h : CallsGone s) : CallsGone (evaluateEntry w s) := by
  unfold evaluateEntry
  dsimp only
  split_ifs
  · exact h
  · exact moveEntry_callsGone w _ (entry_callsGone w _ h)

theorem parkEntry_callsGone (w : EntryIx) (h : CallsGone s) : CallsGone (parkEntry w s) := by
  unfold parkEntry
  dsimp only
  split
  · exact entry_callsGone w _ (leaveActive_callsGone w _ h)
  · exact entry_callsGone w _ (enterIdle_callsGone w h)
  · exact entry_callsGone w _ (enterIdle_callsGone w h)
  · exact entry_callsGone w _ (enterIdle_callsGone w h)
  · exact entry_callsGone w _ h

theorem wtbParkedEntry_callsGone (h : CallsGone s) : CallsGone (wtbParkedEntry s) := by
  rw [wtbParkedEntry_turns]
  refine eachIx_induct (motive := CallsGone) (h.reads rfl) fun w u kept => ?_
  unfold parkTurn
  split_ifs
  · exact evaluateEntry_callsGone w kept
  · exact kept
  · exact parkEntry_callsGone w kept

theorem callsGone_stays : WtbStays CallsGone where
  reads u v held _ same := held.reads same
  takes f test u _ held := by
    unfold wtbTake evaluateWhere
    refine eachIx_induct (motive := CallsGone) (held.reads rfl) fun w v kept => ?_
    split_ifs
    · exact evaluateEntry_callsGone w kept
    · exact kept

/-- The CHS's own part of Parked entry (R122). -/
theorem chsParkedEntry_callsGone (s : State) : CallsGone (chsParkedEntry s) := by
  have ends (u : State) (privacy : u.chs.privacy = false) : CallsGone ((removeChime .rearCall u).modChs fun c =>
      { c with power := .parked }.chooseIfSilent) := by
    have kept : (removeChime .rearCall u).chs.privacy = false := (congrArg Chs.privacy (u.chs.remove_frame .rearCall) :).trans privacy
    have gone := removeChime_gone .rearCall u
    generalize removeChime .rearCall u = v at kept gone ⊢
    have frame := ({ v.chs with power := .parked } : Chs).chooseIfSilent_frame
    refine ⟨(congrArg Chs.privacy frame :).trans kept, ?_⟩
    have queue : ({ v.chs with power := .parked } : Chs).chooseIfSilent.queue = v.chs.queue := Chs.chooseIfSilent_queue _
    unfold Chs.holds at gone ⊢
    rw [State.modChs_chs, queue]
    exact gone
  unfold chsParkedEntry
  dsimp only
  split_ifs with secluded
  · exact ends _ (congrArg Chs.privacy (s.chs.setPrivacy_frame (on := false)) :)
  · exact ends _ (Bool.eq_false_iff.mpr secluded)

end

/-- Parked entry clears the privacy flag and removes the call from the rear (R122). -/
theorem enterParked_callsGone (s : State) : CallsGone (enterParked s) := by
  have takes (b : Block) (u : State) (h : CallsGone u) : CallsGone (takeParkedEntry b u) := by
    by_cases warns : b = .wtb
    · subst warns
      exact wtbParkedEntry_callsGone h
    · exact callsGone_stays.takeParkedEntry warns (fun _ => chsParkedEntry_callsGone u) h
  exact hand_reaches (b := .chs) (before := fun _ => True) (goal := CallsGone) (by decide) (fun _ _ _ => trivial)
    (fun u _ => chsParkedEntry_callsGone u) (fun _ _ _ _ => trivial) (fun b u _ h => takes b u h) trivial

end Sys2Proof.Machine
end


section
/-! The level-at-stop at Parked entry: taken when the road source was LIVE (R18, R60). -/

namespace Sys2Proof.Machine

-- One theorem at a time, so that a build as one text needs few threads.
set_option Elab.async false

/-- The channels go OFF, CH0 first: where the road source was LIVE its fall has taken the level-at-stop; before that the
channels gone OFF were not LIVE. -/
structure LevelTaken (k : Nat) (s u : State) : Prop where
  source : u.pcu.roadSource = .ch0
  waits : ∀ c : ChannelIx, k ≤ c.val → u.pcu.channels[c] = s.pcu.channels[c]
  zero : 0 < k → u.pcu.channels[(0 : ChannelIx)].state ≠ .live
  fuel : u.tau.fuel = s.tau.fuel
  slots : u.gdu.slots = s.gdu.slots
  level : (u.tau.roadLive = s.tau.roadLive ∧ u.tau.levelAtStop = s.tau.levelAtStop ∧
      (s.tau.roadLive = true → ∀ c : ChannelIx, c.val < k → s.pcu.channels[c].state ≠ .live)) ∨
    (u.tau.roadLive = false ∧ s.tau.roadLive = true ∧ u.tau.levelAtStop = s.freshLevel)

section
variable {k : Nat} {s u : State}

theorem freshLevel_congr (fuel : u.tau.fuel = s.tau.fuel) (slots : u.gdu.slots = s.gdu.slots) :
    u.freshLevel = s.freshLevel := by
  unfold State.freshLevel freshFuelValue Tau.fuelAmount
  rw [fuel, slots]

theorem changeChannel_slots (ch : ChannelIx) (f : Channel → Channel) (u : State) :
    (changeChannel ch f u).gdu.slots = u.gdu.slots :=
  changeChannel_gdu_keeps (P := fun v => v.gdu.slots = u.gdu.slots) (fun _ _ held same => by rw [same]; exact held)
    (fun _ _ _ held => held) ch f rfl

theorem LevelTaken.next (h : LevelTaken k s u) (ch : ChannelIx) (turn : ch.val = k) :
    LevelTaken (k + 1) s (changeChannel ch (fun c => Channel.off c.cfg) u) := by
  have channels := changeChannel_channels ch (fun c => Channel.off c.cfg) u
  have source : (changeChannel ch (fun c => Channel.off c.cfg) u).pcu.roadSource = u.pcu.roadSource :=
    (congrArg Pcu.roadSource (changeChannel_changes ch (fun c => Channel.off c.cfg) u).frame :)
  have slots := changeChannel_slots ch (fun c => Channel.off c.cfg) u
  have before := h.waits ch turn.ge
  have waits (c : ChannelIx) (later : k + 1 ≤ c.val) :
      (changeChannel ch (fun c => Channel.off c.cfg) u).pcu.channels[c] = s.pcu.channels[c] := by
    rw [channels, updAt_get_other _ _ _ _ fun same => by rw [← same, turn] at later; omega]
    exact h.waits c (by omega)
  have zero : (changeChannel ch (fun c => Channel.off c.cfg) u).pcu.channels[(0 : ChannelIx)].state ≠ .live := by
    rw [channels, updAt_get]
    split_ifs with own
    · exact nofun
    · refine h.zero ?_
      rw [← turn]
      exact Nat.pos_of_ne_zero fun first => own (Fin.ext first)
  have tau : (changeChannel ch (fun c => Channel.off c.cfg) u).tau = u.tau ∧ s.pcu.channels[ch].state = .off ∨
      ∃ engine, (changeChannel ch (fun c => Channel.off c.cfg) u).tau = u.tau.takeLive engine false s.freshLevel := by
    by_cases same : (Channel.off u.pcu.channels[ch].cfg).state = u.pcu.channels[ch].state
    · left
      rw [before] at same
      refine ⟨?_, same.symm⟩
      rw [changeChannel_of_same (f := fun c => Channel.off c.cfg) (by rw [before]; exact same)]
      rfl
    · right
      have taken := changeChannel_tau (f := fun c => Channel.off c.cfg) same
      have road : (channelRecorded ch (fun c => Channel.off c.cfg) u).pcu.roadLive = false := by
        rw [channelRecorded_roadLive, h.source]
        split_ifs with own
        · rfl
        · have later : 0 < k := by
            rw [← turn]
            exact Nat.pos_of_ne_zero fun first => own (Fin.ext first)
          exact Bool.eq_false_iff.mpr fun live => h.zero later ((roadLive_iff h.source).mp live)
      rw [road, freshLevel_congr h.fuel h.slots] at taken
      exact ⟨_, taken⟩
  generalize changeChannel ch (fun c => Channel.off c.cfg) u = v at source slots waits zero tau ⊢
  refine ⟨source.trans h.source, waits, fun _ => zero, ?_, slots.trans h.slots, ?_⟩
  · rcases tau with ⟨same, -⟩ | ⟨engine, taken⟩
    · rw [same]
      exact h.fuel
    · rw [taken]
      exact h.fuel
  · rcases tau with ⟨same, off⟩ | ⟨engine, taken⟩
    · rw [same]
      refine h.level.imp_left fun ⟨road, level, quiet⟩ => ⟨road, level, fun live c done => ?_⟩
      by_cases own : c = ch
      · rw [own, off]
        exact nofun
      · exact quiet live c (by
          have ne : c.val ≠ ch.val := fun same => own (Fin.ext same)
          omega)
    · rw [taken]
      unfold Tau.takeLive
      dsimp only
      rcases h.level with ⟨road, level, -⟩ | ⟨road, live, level⟩
      · rw [road, level]
        cases was : s.tau.roadLive
        · exact .inl ⟨rfl, rfl, nofun⟩
        · exact .inr ⟨rfl, rfl, rfl⟩
      · rw [road]
        exact .inr ⟨rfl, live, level⟩

theorem eachIx_six (f : ChannelIx → State → State) (s : State) :
    eachIx 6 f s = f 5 (f 4 (f 3 (f 2 (f 1 (f 0 s))))) := rfl

/-- The PCU's part of Parked entry (R18, R60). -/
theorem pcuParkedEntry_level (s : State) (copy : s.tau.roadLive = true ↔ SourceLive s s) :
    (pcuParkedEntry s).tau.levelAtStop = if SourceLive s s then s.freshLevel else s.tau.levelAtStop := by
  have opened : LevelTaken 0 s (setDisagree false (s.modPcu fun p => { p with
      power := .parked, gate := none, roadSource := .ch0, cross := CrossCheck.zero, snap := Snapshot.idle })) := by
    have only := setDisagree_only (s.modPcu fun p => { p with
      power := .parked, gate := none, roadSource := .ch0, cross := CrossCheck.zero, snap := Snapshot.idle }) false
    have pcu := setDisagree_pcu false (s.modPcu fun p => { p with
      power := .parked, gate := none, roadSource := .ch0, cross := CrossCheck.zero, snap := Snapshot.idle })
    have tau := only.tau_eq (by decide)
    have gdu := only.gdu_eq (by decide)
    generalize setDisagree false (s.modPcu fun p => { p with
      power := .parked, gate := none, roadSource := .ch0, cross := CrossCheck.zero, snap := Snapshot.idle }) = v at pcu tau gdu ⊢
    refine ⟨by rw [pcu]; rfl, fun c _ => by rw [pcu]; rfl, nofun, by rw [tau]; rfl, by rw [gdu]; rfl, .inl ⟨by rw [tau]; rfl,
      by rw [tau]; rfl, fun _ c before => absurd before (Nat.not_lt_zero _)⟩⟩
  unfold pcuParkedEntry
  dsimp only
  rw [eachIx_six]
  have taken := ((((((opened.next 0 rfl).next 1 rfl).next 2 rfl).next 3 rfl).next 4 rfl).next 5 rfl).level
  rcases taken with ⟨-, level, quiet⟩ | ⟨-, live, level⟩
  · rw [level, if_neg fun live => quiet (copy.mpr live) _ (Fin.isLt _) live]
  · rw [level, if_pos (copy.mp live)]

end

/-- Parked entry takes the level-at-stop when the road source was LIVE (R60). -/
theorem enterParked_level (s : State) (copy : s.tau.roadLive = true ↔ SourceLive s s) :
    (enterParked s).tau.levelAtStop = if SourceLive s s then s.freshLevel else s.tau.levelAtStop := by
  have slots (b : Block) (u : State) : (takeParkedEntry b u).gdu.slots = u.gdu.slots := by
    by_cases gauges : b = .gdu
    · subst gauges
      exact gduParkedEntry_slots u
    · exact takeParkedEntry_gdu_keeps (P := fun v => v.gdu.slots = u.gdu.slots)
        (fun _ _ held same => by rw [same]; exact held) (fun _ _ _ held => held) gauges rfl
  have others (b : Block) (u : State) (other : b ≠ .pcu) : (takeParkedEntry b u).pcu = u.pcu ∧
      { (takeParkedEntry b u).tau with power := u.tau.power } = u.tau := by
    by_cases totals : b = .tau
    · subst totals
      exact ⟨rfl, rfl⟩
    · have only := takeParkedEntry_parts u b
      have apart : Part.pcu ∉ entryParts b ∧ Part.tau ∉ entryParts b := by
        cases b
        case pcu => exact absurd rfl other
        case tau => exact absurd rfl totals
        all_goals decide
      refine ⟨only.pcu_eq apart.1, ?_⟩
      rw [only.tau_eq apart.2]
  refine hand_reaches (b := .pcu)
    (before := fun u => u.pcu = s.pcu ∧ { u.tau with power := s.tau.power } = s.tau ∧ u.gdu.slots = s.gdu.slots)
    (goal := fun u => u.tau.levelAtStop = if SourceLive s s then s.freshLevel else s.tau.levelAtStop) (by decide)
    (fun _ _ held => held) (fun u held => ?_) (fun b u other held => ?_) (fun b u other held => ?_) ⟨rfl, rfl, rfl⟩
  · obtain ⟨pcu, tau, same⟩ := held
    have road : u.tau.roadLive = s.tau.roadLive := (congrArg Tau.roadLive tau :)
    have level : u.tau.levelAtStop = s.tau.levelAtStop := (congrArg Tau.levelAtStop tau :)
    have fuel : u.tau.fuel = s.tau.fuel := (congrArg Tau.fuel tau :)
    have live : SourceLive u u ↔ SourceLive s s :=
      iff_of_eq (congrArg (fun p : Pcu => p.channels[p.roadSource.channel].state = .live) pcu)
    have parked := pcuParkedEntry_level u (by rw [road, live]; exact copy)
    rw [freshLevel_congr fuel same, level] at parked
    have takes : takeParkedEntry .pcu u = pcuParkedEntry u := rfl
    rw [takes, parked]
    exact if_congr live rfl rfl
  · obtain ⟨pcu, tau, same⟩ := held
    obtain ⟨pcu', tau'⟩ := others b u other
    exact ⟨pcu'.trans pcu, (congrArg (fun x : Tau => { x with power := s.tau.power }) tau' :).trans tau, (slots b u).trans same⟩
  · exact (congrArg Tau.levelAtStop (others b u other).2 :).trans held

end Sys2Proof.Machine
end


section
/-! Parked entry, CRANK and the levels of the IGN and CRANK lines as events (R169, R170, R172, R173). -/

namespace Sys2Proof.Machine

-- One theorem at a time, so that a build as one text needs few threads.
set_option Elab.async false

/-! ## The events -/

/-- The IGS with IGN off, its PARKED notice handed, before Parked entry (Table 47). -/
def State.extinguished (s : State) : State := (s.modIgs fun g => { g with ign := false }).notify (.power .parked .ignOff)

/-- The IGS with CRANK on, its notice handed, before the passage to CRANK (Table 47). -/
def State.cranking (s : State) : State := (s.modIgs fun g => { g with crank := true }).notify (.power .crank .crankOn)

/-- The IGS with CRANK off, its notice handed, before the return to RUN (Table 47). -/
def State.cranked (s : State) : State := (s.modIgs fun g => { g with crank := false }).notify (.power .run .crankOff)

section
variable {s : State}

theorem ignitionOff_of_running (running : s.igs.power ≠ .parked) : ignitionOff s = enterParked s.extinguished :=
  if_neg running

theorem crankOn_of_run (run : s.igs.power = .run) (off : s.igs.crank = false) :
    crankOn s = enterCrank .crank s.cranking := by
  have rises : crankOn s = crankIfOn (s.modIgs fun g => { g with crank := true }) :=
    if_neg (by rw [off]; exact Bool.false_ne_true)
  rw [rises, crankIfOn_of_run (u := s.modIgs fun g => { g with crank := true }) run]
  exact if_pos rfl

theorem crankOn_of_on (on : s.igs.crank = true) : crankOn s = s := if_pos on

/-- Outside RUN the CRANK level moves alone (Table 47). -/
theorem crankOn_of_not_run (other : s.igs.power ≠ .run) : crankOn s = s.modIgs fun g => { g with crank := true } := by
  by_cases on : s.igs.crank = true
  · rw [crankOn_of_on on]
    have same : { s.igs with crank := true } = s.igs := by rw [← on]
    exact (congrArg (fun g => { s with igs := g }) same).symm
  · have rises : crankOn s = crankIfOn (s.modIgs fun g => { g with crank := true }) := if_neg on
    rw [rises]
    exact if_neg fun both => other both.1

theorem crankOff_of_crank (crank : s.igs.power = .crank) : crankOff s = enterCrank .run s.cranked := if_pos crank

theorem crankOff_of_not_crank (other : s.igs.power ≠ .crank) :
    crankOff s = s.modIgs fun g => { g with crank := false } := if_neg other

end

/-! ## A passage between RUN and CRANK -/

section
variable (s : State) (f : Igs → Igs) (p q : PowerState) (cause : PowerCause)

/-- What a passage leaves alone, the IGN and CRANK levels it finds, and its notice (R172, R173). -/
theorem enterCrank_event : AllIn q (enterCrank q ((s.modIgs f).notify (.power p cause))) ∧
    (enterCrank q ((s.modIgs f).notify (.power p cause))).igs = { f s.igs with power := q } ∧
    OnlyChanges [.igs, .pcu, .gdu, .tau, .wtb, .chs, .svs, .clc, .lkp, .free] s
      (enterCrank q ((s.modIgs f).notify (.power p cause))) ∧
    (s.lkp.mask.getLsbD 0 = true → s.lkp.notices.length < 12 →
      .power p cause ∈ (enterCrank q ((s.modIgs f).notify (.power p cause))).lkp.notices) := by
  have before : OnlyChanges [.igs, .lkp] s ((s.modIgs f).notify (.power p cause)) :=
    (modIgs_only s f).comp (notify_only _ _)
  refine ⟨enterCrank_allIn q _, enterCrank_igs q _, before.comp (enterCrank_only _ q), fun on room => ?_⟩
  exact (enterCrank_keepsPower p q cause _).waits (mem_takeNotice (n := .power p cause) (l := s.lkp) on room)

end

/-! ## Parked entry -/

section
variable (s : State)

theorem extinguished_mask : s.extinguished.lkp.mask = s.lkp.mask := Lkp.takeNotice_mask _ _

theorem extinguished_aborted : s.extinguished.abortedReplies = s.abortedReplies := by
  have replies : s.extinguished.lkp.replies = s.lkp.replies :=
    (congrArg Lkp.replies (Lkp.takeNotice_keeps (.power .parked .ignOff) s.lkp) :)
  unfold State.abortedReplies
  rw [replies]
  rfl

theorem enterParked_event : (enterParked s.extinguished).igs.ign = false ∧
    OnlyChanges [.igs, .pcu, .gdu, .tau, .wtb, .chs, .svs, .clc, .lkp, .free] s (enterParked s.extinguished) ∧
    (s.lkp.mask.getLsbD 0 = true → s.lkp.notices.length < 12 →
      .power .parked .ignOff ∈ (enterParked s.extinguished).lkp.notices) := by
  have before : OnlyChanges [.igs, .lkp] s s.extinguished := (modIgs_only s _).comp (notify_only _ _)
  have igs := enterParked_igs s.extinguished
  refine ⟨by rw [igs]; rfl, before.comp (enterParked_only _), fun on room => ?_⟩
  exact (enterParked_keepsPower .parked .ignOff s.extinguished).waits
    (mem_takeNotice (n := .power .parked .ignOff) (l := s.lkp) on room)

/-- A SLEEP frame follows unless the line was OFF or in FAULT (R160). -/
theorem sleeps_eq (st : LineState) : decide (st = .running ∨ st = .backoff ∨ st = .resetting) =
    (match st with
      | .running | .backoff | .resetting => true
      | .off | .fault => false) := by
  cases st <;> rfl

end

/-! ## The levels -/

section
variable {tick : Nat} {raw : RawLines} {s : State}

/-- A level that must be held: counted while it differs, taken when it has been held, and broken off by the old one (R169, R170). -/
theorem level_held {ticks before after : Nat} {new old : Bool} {on off : Prop}
    (next : after = holdNext ticks (new != old) before)
    (rises : on ↔ holdEnds ticks (new != old) before = true ∧ new = true)
    (falls : off ↔ holdEnds ticks (new != old) before = true ∧ new = false) :
    (new = old → after = 0 ∧ ¬ on ∧ ¬ off) ∧
      (new ≠ old → before + 1 < ticks → after = before + 1 ∧ ¬ on ∧ ¬ off) ∧
      (new ≠ old → ticks ≤ before + 1 → after = 0 ∧ (on ↔ new = true) ∧ (off ↔ new = false)) := by
  rw [next, rises, falls]
  refine ⟨fun same => ?_, fun differs short => ?_, fun differs long => ?_⟩
  · have still : (new != old) = false := by rw [same]; exact bne_self_eq_false old
    rw [still]
    exact ⟨rfl, fun both => Bool.noConfusion both.1, fun both => Bool.noConfusion both.1⟩
  · have moves : (new != old) = true := bne_iff_ne.mpr differs
    simp [holdNext, holdEnds, moves, short, Nat.not_le.mpr short]
  · have moves : (new != old) = true := bne_iff_ne.mpr differs
    simp [holdNext, holdEnds, moves, long, Nat.not_lt.mpr long]

theorem runEntry_mem_tickCommands : .runEntry ∈ tickCommands tick raw s ↔
    holdEnds ignHold (raw.lines.ign != s.igs.ign) s.inputs.ignFor = true ∧ raw.lines.ign = true := by
  rw [mem_tickCommands_of_line _ _ _ (fun _ _ => by simp) (fun _ => by simp)]
  unfold ignCommand crankCommand resetCommand
  split_ifs <;> simp_all

theorem parkedEntry_mem_tickCommands : .parkedEntry ∈ tickCommands tick raw s ↔
    holdEnds ignHold (raw.lines.ign != s.igs.ign) s.inputs.ignFor = true ∧ raw.lines.ign = false := by
  rw [mem_tickCommands_of_line _ _ _ (fun _ _ => by simp) (fun _ => by simp)]
  unfold ignCommand crankCommand resetCommand
  split_ifs <;> simp_all

theorem crankOn_mem_tickCommands : .crankOn ∈ tickCommands tick raw s ↔
    holdEnds crankHold (raw.lines.crank != s.igs.crank) s.inputs.crankFor = true ∧ raw.lines.crank = true := by
  rw [mem_tickCommands_of_line _ _ _ (fun _ _ => by simp) (fun _ => by simp)]
  unfold ignCommand crankCommand resetCommand
  split_ifs <;> simp_all

theorem crankOff_mem_tickCommands : .crankOff ∈ tickCommands tick raw s ↔
    holdEnds crankHold (raw.lines.crank != s.igs.crank) s.inputs.crankFor = true ∧ raw.lines.crank = false := by
  rw [mem_tickCommands_of_line _ _ _ (fun _ _ => by simp) (fun _ => by simp)]
  unfold ignCommand crankCommand resetCommand
  split_ifs <;> simp_all

end

end Sys2Proof.Machine
end


section
/-! PowerStateMoves: what Run entry, Parked entry and CRANK do, and which levels bring them about. -/

namespace Sys2Proof.Machine

-- One theorem at a time, so that a build as one text needs few threads.
set_option Elab.async false

/-- Settles O22: each block's part of a power state's entry, carried through the parts of the others in whatever order
they are handed. -/
theorem powerStateMoves : Obligations.PowerStateMoves := by
  unfold Obligations.PowerStateMoves
  intro channel aborted runs evaluates parks
  have running (s : State) : runs s s.started := by
    obtain ⟨pcu, inputs⟩ := started_pcu s
    obtain ⟨parking, slots, homes, called⟩ := started_gdu s
    obtain ⟨bulb, cfgs⟩ := started_bulbCheck s
    obtain ⟨clc, nodes, replies, heard, line⟩ := started_coach s
    obtain ⟨-, -, -, -, -, -, -, power, -⟩ := started_allIn s
    generalize s.started = t at pcu inputs parking slots homes called bulb cfgs clc nodes replies heard line power ⊢
    refine ⟨pcu, inputs, parking, slots, fun g => ⟨homes g, called g⟩, bulb, cfgs, ?_, fun n => ?_, heard, fun differs => ?_,
      replies⟩
    · rw [← power]
      exact clc
    · exact (nodes n).trans (Node.rejoined_joining s.clc.nodes[n])
    · rw [agrees_line_iff.mp (line differs), clc]
  have evaluating (s : State) : evaluates s s.started := by
    intro entries off engine road w v e value stays inRun holds next enabled stay
    have begins : RunStart w s.wtb := ⟨(entries w).1, (entries w).2, enabled, stay, engine, road⟩
    have runs : next = s.wtb.runState w := (runState_of_enabled enabled).symm
    have entered := started_entry s begins off
    have state := (entered.ends trivial).2
    rw [runs]
    exact ⟨state, fun moved on => entered.told on (by rw [state]; exact moved)⟩
  have parking (s : State) : parks s (enterParked s.extinguished) := by
    have pcu := enterParked_pcu s.extinguished
    obtain ⟨⟨slots, moves, gauges⟩, told⟩ := enterParked_gdu s.extinguished
    obtain ⟨bulb, cfgs⟩ := enterParked_bulbCheck s.extinguished
    have asleep (w : EntryIx) := enterParked_entry w s.extinguished
    obtain ⟨privacy, call⟩ := enterParked_callsGone s.extinguished
    obtain ⟨clc, replies, line⟩ := enterParked_coach s.extinguished
    have level := enterParked_level s.extinguished
    obtain ⟨igs, -, -, -, -, -, -, power, -⟩ := enterParked_allIn s.extinguished
    have parked := power.trans igs
    generalize enterParked s.extinguished = t at *
    refine ⟨pcu, slots, fun g => ?_, fun away => ⟨moves.mpr away, fun g => ?_⟩, fun rest => ⟨?_, fun on => ?_, fun g => ?_⟩,
      bulb, fun w => ⟨cfgs w, asleep w⟩, privacy, call, ?_, fun differs => ?_, ?_, fun copy => ?_⟩
    · rw [gauges g]
      rfl
    · rw [gauges g]
      exact if_neg fun both => away both.1
    · exact Bool.eq_false_iff.mpr fun moving => moves.mp moving rest
    · exact told rest (by rw [extinguished_mask]; exact on)
    · rw [gauges g]
      exact if_congr (and_iff_right rest) rfl rfl
    · rw [parked, sleeps_eq] at clc
      exact clc
    · rw [agrees_line_iff.mp (line differs), clc]
    · exact replies.trans (extinguished_aborted s)
    · refine (level copy).trans ?_
      rw [freshLevel_eq, ite_not]
      rfl
  refine ⟨fun s supplied => ⟨fun parked => ?_, fun awake => ?_, fun awake => ?_, fun parked => ?_, fun run off => ?_,
    fun other => ?_, fun on => ?_, fun crank => ?_, fun other => ?_⟩, fun s => rfl, fun raw rest s supplied idle waits => ?_⟩
  · have happens : exec .runEntry s = .next (settle (ignitionOn s)) := takeEvent_supplied supplied
    rw [ignitionOn_of_parked s parked] at happens
    exact ⟨_, happens, congrArg Igs.ign (started_igs s), started_allIn s, running s, evaluating s,
      (started_only s).mono (by decide), started_notice s⟩
  · have happens : exec .runEntry s = .next (settle (ignitionOn s)) := takeEvent_supplied supplied
    rw [happens, show ignitionOn s = s from if_neg awake]
  · have happens : exec .parkedEntry s = .next (settle (ignitionOff s)) := takeEvent_supplied supplied
    rw [ignitionOff_of_running awake] at happens
    obtain ⟨ign, only, notice⟩ := enterParked_event s
    exact ⟨_, happens, ign, enterParked_allIn _, parking s, only, notice⟩
  · have happens : exec .parkedEntry s = .next (settle (ignitionOff s)) := takeEvent_supplied supplied
    rw [happens, show ignitionOff s = s from if_pos parked]
  · have happens : exec .crankOn s = .next (settle (crankOn s)) := takeEvent_supplied supplied
    rw [crankOn_of_run run off] at happens
    obtain ⟨power, igs, only, notice⟩ := enterCrank_event s (fun g => { g with crank := true }) .crank .crank .crankOn
    exact ⟨_, happens, congrArg Igs.crank igs, power, only, notice⟩
  · have happens : exec .crankOn s = .next (settle (crankOn s)) := takeEvent_supplied supplied
    rw [happens, crankOn_of_not_run other]
  · have happens : exec .crankOn s = .next (settle (crankOn s)) := takeEvent_supplied supplied
    rw [happens, crankOn_of_on on]
  · have happens : exec .crankOff s = .next (settle (crankOff s)) := takeEvent_supplied supplied
    rw [crankOff_of_crank crank] at happens
    obtain ⟨power, igs, only, notice⟩ := enterCrank_event s (fun g => { g with crank := false }) .run .run .crankOff
    exact ⟨_, happens, congrArg Igs.crank igs, power, only, notice⟩
  · have happens : exec .crankOff s = .next (settle (crankOff s)) := takeEvent_supplied supplied
    rw [happens, crankOff_of_not_crank other]
  · obtain ⟨t, stepped, pending, inputs⟩ := step_tick supplied idle waits
    refine ⟨t, stepped, ?_⟩
    rw [pending, inputs]
    exact ⟨level_held rfl runEntry_mem_tickCommands parkedEntry_mem_tickCommands,
      level_held rfl crankOn_mem_tickCommands crankOff_mem_tickCommands⟩

end Sys2Proof.Machine
end


section
/-! An evaluation of one entry, form by form: it stays, enters ACTIVE, leaves ACTIVE, or moves among the other states (R92,
R93, R94, R95, R97). -/

namespace Sys2Proof.Machine

-- One theorem at a time, so that a build as one text needs few threads.
set_option Elab.async false

/-! ## The forms of a move -/

/-- What a move does in each column of Table 29. -/
inductive MoveForm (w : EntryIx) (r : State) (old new : EntryState) : State → Prop
  | stays (same : new = old) : MoveForm w r old new r
  | enters (before : old ≠ .active) (active : new = .active) : MoveForm w r old new (enterActive w r)
  | leaves (before : old = .active) (after : new ≠ .active) : MoveForm w r old new (leaveActive w new r)
  | moves (f : Entry → Entry) (cfg : (f r.wtb.entries[w]).cfg = r.wtb.entries[w].cfg) (before : old ≠ .active)
      (after : new ≠ .active) (differs : new ≠ old) : MoveForm w r old new (reportEntry w old new (r.modEntry w f))

theorem moveEntry_form (w : EntryIx) (holds : Bool) (r : State) :
    MoveForm w r r.wtb.entries[w].state (r.wtb.entries[w].moved holds) (moveEntry w holds r) := by
  unfold moveEntry Entry.moved
  cases state : r.wtb.entries[w].state <;> cases holds <;> dsimp only
  case idle.true =>
    by_cases zero : r.wtb.entries[w].cfg.qualify = 0
    · rw [if_pos zero, if_pos zero]
      exact .enters (by decide) rfl
    · rw [if_neg zero, if_neg zero]
      exact .moves _ rfl (by decide) (by decide) (by decide)
  case pending.false | acked.false =>
    have idle := MoveForm.moves (w := w) (r := r) (old := r.wtb.entries[w].state) (new := .idle)
      (fun e => { e with state := .idle, qualifyTimer := none }) rfl (by rw [state]; decide) (by decide)
      (by rw [state]; decide)
    rw [state] at idle
    unfold enterIdle
    rw [state]
    exact idle
  case active.false =>
    split_ifs
    · exact .leaves rfl (by decide)
    · exact .leaves rfl (by decide)
  case resolved.true => exact .enters (by decide) rfl
  all_goals exact .stays rfl

/-- A move by a condition that leaves the entry where it stands. -/
theorem moveEntry_still {w : EntryIx} {holds : Bool} {r : State}
    (same : r.wtb.entries[w].moved holds = r.wtb.entries[w].state) : moveEntry w holds r = r := by
  unfold Entry.moved at same
  unfold moveEntry
  cases state : r.wtb.entries[w].state <;> cases holds <;> rw [state] at same <;> dsimp only at same ⊢
  case idle.true | active.false => split_ifs at same
  all_goals cases same

/-! ## The forms of an evaluation -/

/-- The entry remembers its source condition (R92). -/
abbrev remembered (w : EntryIx) (s : State) : State :=
  s.modEntry w fun e => { e with memory := s.wtb.sourceCondition s.wtb.entries[w] }

section
variable {w : EntryIx} {s : State}

theorem remembered_entry : (remembered w s).wtb.entries[w] =
    { s.wtb.entries[w] with memory := s.wtb.sourceCondition s.wtb.entries[w] } := by
  rw [State.modEntry_entries, updAt_get_same]

/-- The entry's changes are its WTB's to decide and, in PARKED, its configuration's (R92). -/
abbrev Awake (w : EntryIx) (s : State) : Prop := s.wtb.view.power ≠ .parked ∨ s.wtb.entries[w].cfg.parkedLive = true

theorem Awake.not_asleep (awake : Awake w s) : ¬ (s.wtb.view.power = .parked ∧ ¬ s.wtb.entries[w].cfg.parkedLive) :=
  fun asleep => awake.elim (fun awake => awake asleep.1) asleep.2

theorem evaluateEntry_asleep_eq (asleep : s.wtb.view.power = .parked) (still : s.wtb.entries[w].cfg.parkedLive = false) :
    evaluateEntry w s = s := if_pos ⟨asleep, by rw [still]; exact Bool.false_ne_true⟩

theorem evaluateEntry_awake_eq (awake : Awake w s) :
    evaluateEntry w s = moveEntry w (s.wtb.holds s.wtb.entries[w]) (remembered w s) := if_neg awake.not_asleep

theorem evaluateEntry_form (awake : Awake w s) :
    MoveForm w (remembered w s) s.wtb.entries[w].state (s.wtb.evaluatedState s.wtb.entries[w]) (evaluateEntry w s) := by
  have form := moveEntry_form w (s.wtb.holds s.wtb.entries[w]) (remembered w s)
  rw [evaluateEntry_awake_eq awake]
  rw [remembered_entry] at form
  exact form

/-- The record an evaluation leaves, but for its repeat timer. -/
theorem evaluateEntry_entry (awake : Awake w s) :
    ∃ timer, (evaluateEntry w s).wtb.entries[w] = { s.wtb.evaluated s.wtb.entries[w] with repeatTimer := timer } := by
  obtain ⟨-, timer, entry, -⟩ := (evaluateEntry_rearmed w s awake.not_asleep).left w
  rw [State.modEntry_entries, updAt_get_same] at entry
  exact ⟨timer, entry⟩

theorem evaluateEntry_frame (awake : Awake w s) : { (evaluateEntry w s).wtb with entries := s.wtb.entries } = s.wtb := by
  rw [((evaluateEntry_rearmed w s awake.not_asleep).left w).wtb]
  rfl

end

/-! ## What the forms leave of the other blocks -/

section
variable {w : EntryIx} {r : State} {old new : EntryState} {t : State}

theorem MoveForm.quiet (form : MoveForm w r old new t) (same : new = old) : t = r := by
  cases form
  case stays => rfl
  case enters before active => exact absurd (same.symm.trans active) before
  case leaves before after => exact absurd (same.trans before) after
  case moves differs => exact absurd same differs

theorem MoveForm.left_active (form : MoveForm w r old new t) (before : old = .active) (after : new ≠ .active) :
    t = leaveActive w new r := by
  cases form
  case stays same => exact absurd (same.trans before) after
  case enters unset _ => exact absurd before unset
  case leaves => rfl
  case moves unset _ _ => exact absurd before unset

theorem MoveForm.entered_active (form : MoveForm w r old new t) (before : old ≠ .active) (active : new = .active) :
    t = enterActive w r := by
  cases form
  case stays same => exact absurd (same.symm.trans active) before
  case enters => rfl
  case leaves _ after => exact absurd active after
  case moves after _ => exact absurd active after

/-- A change hands one WARNING notice, the CHIME notice of an evicted request before it (R97). -/
theorem MoveForm.notice (form : MoveForm w r old new t) (changed : new ≠ old) :
    ∃ u : State, u.lkp.mask = r.lkp.mask ∧ u.lkp.notices.length ≤ r.lkp.notices.length + 1 ∧
      (new ≠ .active ∨ r.wtb.entries[w].cfg.pattern = none → u.lkp = r.lkp) ∧
      t.lkp = u.lkp.takeNotice (.warning w new) := by
  cases form
  case stays same => exact absurd same changed
  case enters before active =>
    subst active
    refine ⟨handWarningChime w (entered w r), handWarningChime_mask w _, handWarningChime_notices w _, fun silent => ?_, ?_⟩
    · have none := silent.resolve_left fun other => other rfl
      rw [handWarningChime_silent w (by rw [entered_entry]; exact none)]
      rfl
    · rw [enterActive_eq, reportEntry_lkp]
  case leaves before after =>
    exact ⟨r, rfl, Nat.le_succ _, fun _ => rfl, (leaveActive_spec new).2.2.1⟩
  case moves f _ _ _ _ => exact ⟨r, rfl, Nat.le_succ _, fun _ => rfl, reportEntry_lkp _ _ _ _⟩

/-- A change among the standing states marks a mirror-rear entry (R97). -/
theorem MoveForm.marked (form : MoveForm w r old new t) (changed : new ≠ old)
    (mirrored : r.wtb.entries[w].cfg.mirrorRear = true) (standing : old.standing = true ∨ new.standing = true) :
    Marked .rearWarnings r t := by
  cases form
  case stays same => exact absurd same changed
  case enters => exact enterActive_marked w r mirrored
  case leaves => exact (leaveActive_spec new).2.2.2 mirrored
  case moves f cfg _ _ _ =>
    have mirror : (r.modEntry w f).wtb.entries[w].cfg.mirrorRear = true := by
      rw [State.modEntry_entries, updAt_get_same, cfg]
      exact mirrored
    have clc : (reportEntry w old new (r.modEntry w f)).clc = r.clc.mark .rearWarnings := by
      rw [reportEntry_clc, if_pos ⟨mirror, standing⟩]
      rfl
    intro up n present set
    rw [clc]
    exact marked_mark .rearWarnings r up n present set

end

end Sys2Proof.Machine
end


section
/-! What an evaluation of one entry and of all that meet a test does, and what the sources and the gates read (R87 to R97). -/

namespace Sys2Proof.Machine

-- One theorem at a time, so that a build as one text needs few threads.
set_option Elab.async false

/-- An entry that becomes PENDING starts its qualify timer (R93). -/
theorem Entry.taken_pending (holds : Bool) (e : Entry) (before : e.state ≠ .pending) (after : e.moved holds = .pending) :
    (e.taken holds).qualifyTimer = some e.cfg.qualify := by
  unfold Entry.moved at after
  unfold Entry.taken
  cases state : e.state <;> cases holds <;> simp only [state] at after before ⊢
  case idle.true => split_ifs at after ⊢; rfl
  case active.false => split_ifs at after
  all_goals simp at before after

/-- A PENDING entry that goes back to IDLE stops it (R93). -/
theorem Entry.taken_idle (holds : Bool) (e : Entry) (before : e.state = .pending) (after : e.moved holds = .idle) :
    (e.taken holds).qualifyTimer = none := by
  unfold Entry.moved at after
  unfold Entry.taken
  rw [before] at after ⊢
  cases holds
  · rfl
  · cases after

section
variable {w : EntryIx} {s : State}

/-- The timers of an evaluated entry (R93). -/
theorem evaluateEntry_qualify (awake : Awake w s) :
    (s.wtb.entries[w].state ≠ .pending → s.wtb.evaluatedState s.wtb.entries[w] = .pending →
      (evaluateEntry w s).wtb.entries[w].qualifyTimer = some s.wtb.entries[w].cfg.qualify) ∧
    (s.wtb.entries[w].state = .pending → s.wtb.evaluatedState s.wtb.entries[w] = .idle →
      (evaluateEntry w s).wtb.entries[w].qualifyTimer = none) := by
  obtain ⟨timer, entry⟩ := evaluateEntry_entry awake
  rw [entry]
  exact ⟨Entry.taken_pending (s.wtb.holds s.wtb.entries[w])
      { s.wtb.entries[w] with memory := s.wtb.sourceCondition s.wtb.entries[w] },
    Entry.taken_idle (s.wtb.holds s.wtb.entries[w])
      { s.wtb.entries[w] with memory := s.wtb.sourceCondition s.wtb.entries[w] }⟩

/-- What leaving ACTIVE does to the repeat timer and the chimes (R95). -/
theorem evaluateEntry_left_active (awake : Awake w s) (before : s.wtb.entries[w].state = .active)
    (after : s.wtb.evaluatedState s.wtb.entries[w] ≠ .active) :
    (evaluateEntry w s).wtb.entries[w].repeatTimer = none ∧
      (evaluateEntry w s).chs = s.chs.remove (.warning w) := by
  rw [(evaluateEntry_form awake).left_active before after]
  obtain ⟨wtb, chs, -, -⟩ := leaveActive_spec (w := w) (s := remembered w s) (s.wtb.evaluatedState s.wtb.entries[w])
  constructor
  · rw [wtb]
    exact congrArg Entry.repeatTimer (Vector.getElem_set_self w.isLt)
  · exact chs

/-- An entry that enters ACTIVE with room in the chime queue has its request there (R94). -/
theorem evaluateEntry_entered_holds (awake : Awake w s) (before : s.wtb.entries[w].state ≠ .active)
    (active : s.wtb.evaluatedState s.wtb.entries[w] = .active) {p : PatternIx}
    (pattern : s.wtb.entries[w].cfg.pattern = some p) (room : s.chs.queue.length < 8) :
    (evaluateEntry w s).chs.holds (.warning w) = true := by
  have present : (remembered w s).wtb.entries[w].cfg.pattern = some p := by rw [remembered_entry]; exact pattern
  rw [(evaluateEntry_form awake).entered_active before active, enterActive_eq, reportEntry_chs,
    handWarningChime_entered w _ present]
  exact takeChime_holds (r := requestOf w p (remembered w s)) (s := entered w (remembered w s)) nofun room

/-- The state in which an entry that enters ACTIVE hands its request. -/
abbrev enteredEvaluated (w : EntryIx) (s : State) : State :=
  s.modWtb fun x => { x with entries := x.entries.set w { s.wtb.entries[w] with
    state := .active, qualifyTimer := none, repeatTimer := none, memory := s.wtb.sourceCondition s.wtb.entries[w] } }

theorem entered_remembered : entered w (remembered w s) = enteredEvaluated w s := by
  rw [entered, remembered, modEntry_modEntry]
  rfl

/-- An entry that enters ACTIVE leaves the WTB and the CHS as the handing of its request does (R94, R114). -/
theorem evaluateEntry_entered (awake : Awake w s) (before : s.wtb.entries[w].state ≠ .active)
    (active : s.wtb.evaluatedState s.wtb.entries[w] = .active) :
    (evaluateEntry w s).wtb = (handWarningChime w (enteredEvaluated w s)).wtb ∧
      (evaluateEntry w s).chs = (handWarningChime w (enteredEvaluated w s)).chs := by
  rw [(evaluateEntry_form awake).entered_active before active, enterActive_eq, reportEntry_wtb, reportEntry_chs,
    entered_remembered]
  exact ⟨rfl, rfl⟩

/-- The handing of an entry's request, written out. -/
theorem handWarningChime_evaluated : handWarningChime w (enteredEvaluated w s) =
    match s.wtb.entries[w].cfg.pattern with
    | some p => (takeChime { source := .warning w, cls := s.wtb.entries[w].cfg.cls, pattern := p
                             dest := s.wtb.entries[w].cfg.dest, arrival := 0, passes := s.chs.patterns[p].passes
                             tag := none } (enteredEvaluated w s)).1
    | none => enteredEvaluated w s := by
  have cfg : (enteredEvaluated w s).wtb.entries[w].cfg = s.wtb.entries[w].cfg := by
    rw [← entered_remembered, entered_entry, remembered_entry]
  unfold handWarningChime
  rw [cfg]
  cases s.wtb.entries[w].cfg.pattern <;> rfl

/-- The notices of a change by an evaluation (R97, R189). -/
theorem evaluateEntry_notices (awake : Awake w s)
    (changed : s.wtb.evaluatedState s.wtb.entries[w] ≠ s.wtb.entries[w].state) :
    (s.lkp.mask.getLsbD 1 = true → s.lkp.notices.length < 11 →
      Notice.warning w (s.wtb.evaluatedState s.wtb.entries[w]) ∈ (evaluateEntry w s).lkp.notices) ∧
    (s.wtb.evaluatedState s.wtb.entries[w] ≠ .active ∨ s.wtb.entries[w].cfg.pattern = none →
      (evaluateEntry w s).lkp = s.lkp.takeNotice (.warning w (s.wtb.evaluatedState s.wtb.entries[w]))) := by
  obtain ⟨u, mask, few, silent, lkp⟩ := (evaluateEntry_form awake).notice changed
  rw [lkp]
  refine ⟨fun on room => mem_takeNotice ?_ (Nat.lt_of_le_of_lt few (Nat.succ_lt_succ room)), fun quiet => ?_⟩
  · rw [mask]
    exact on
  · rw [silent (by rw [remembered_entry]; exact quiet)]
    rfl

/-- The REAR_WARNINGS mark of a change by an evaluation (R97). -/
theorem evaluateEntry_marked (awake : Awake w s)
    (changed : s.wtb.evaluatedState s.wtb.entries[w] ≠ s.wtb.entries[w].state)
    (mirrored : s.wtb.entries[w].cfg.mirrorRear = true)
    (standing : ∃ st ∈ [s.wtb.entries[w].state, s.wtb.evaluatedState s.wtb.entries[w]],
      st = .active ∨ st = .acked ∨ st = .resolved) : Marked .rearWarnings s (evaluateEntry w s) := by
  have marked := (evaluateEntry_form awake).marked changed (by rw [remembered_entry]; exact mirrored) ?_
  · exact marked
  · obtain ⟨st, mem, stands⟩ := standing
    rcases List.mem_pair.mp mem with rfl | rfl
    · exact .inl ((EntryState.standing_iff _).mpr stands)
    · exact .inr ((EntryState.standing_iff _).mpr stands)

/-- The other entries but for their repeat timers (R92, R96). -/
theorem evaluateEntry_others {v : EntryIx} (other : v ≠ w) :
    { (evaluateEntry w s).wtb.entries[v] with repeatTimer := none } = { s.wtb.entries[v] with repeatTimer := none } := by
  obtain ⟨-, timer, entry, -⟩ := evaluateEntry_left other.symm s
  rw [entry]

end

/-- Where Table 29 takes an entry, as O44 writes it. -/
theorem Entry.moved_eq (e : Entry) (holds : Bool) : e.moved holds = match e.state, holds with
    | .idle, true => if e.cfg.qualify = 0 then .active else .pending
    | .pending, false => .idle
    | .active, false => if e.cfg.latching then .resolved else .idle
    | .acked, false => .idle
    | .resolved, true => .active
    | st, _ => st := by
  unfold Entry.moved
  cases e.state <;> cases holds <;> rfl

/-- An evaluation of the entries that meet a test, as a walk over those entries (R92). -/
theorem evaluateWhere_filter (test : EntryConfig → Bool) (s : State) : evaluateWhere test s =
    ((List.finRange 32).filter fun w => test s.wtb.entries[w].cfg).foldl (fun t w => evaluateEntry w t) s := by
  have walk (l : List EntryIx) (t : State) (cfg : ∀ w : EntryIx, t.wtb.entries[w].cfg = s.wtb.entries[w].cfg) :
      l.foldl (fun t w => if test t.wtb.entries[w].cfg then evaluateEntry w t else t) t =
        (l.filter fun w => test s.wtb.entries[w].cfg).foldl (fun t w => evaluateEntry w t) t := by
    induction l generalizing t with
    | nil => rfl
    | cons w l ih =>
      rw [List.foldl_cons, List.filter_cons, cfg w]
      split_ifs with tested
      · rw [List.foldl_cons]
        exact ih _ fun v => ((ByProducts.evaluateEntry w t).cfg v).trans (cfg v)
      · exact ih t cfg
  exact walk _ s fun _ => rfl

/-! ## Sources and gates -/

theorem aboveCondition_iff {memory : Bool} {threshold hysteresis : Int} {v : Option Int} :
    aboveCondition memory threshold hysteresis v = true ↔
      ∃ x, v = some x ∧ if memory then threshold - hysteresis < x else threshold < x := by
  cases v <;> cases memory <;> simp [aboveCondition]

theorem belowCondition_iff {memory : Bool} {threshold hysteresis : Int} {v : Option Int} :
    belowCondition memory threshold hysteresis v = true ↔
      ∃ x, v = some x ∧ if memory then x < threshold + hysteresis else x < threshold := by
  cases v <;> cases memory <;> simp [belowCondition]

/-- The value a source compares, as O44 writes it (R88). -/
theorem Wtb.valueOf_eq (t : Wtb) (v : WarnValue) : t.valueOf v = match v with
    | .roadSpeed => some (t.view.roadSpeed : Int)
    | .engineSpeed => some (t.view.engineSpeed : Int)
    | .checkSpeed => some (t.view.checkSpeed : Int)
    | .range => t.view.range.map fun r => ((min (r / 10) 32767 : Nat) : Int)
    | .slot n =>
      if t.view.slotStates[n] = .fresh ∨ t.view.slotStates[n] = .stale then some t.view.slotValues[n] else none := by
  cases v
  case slot n =>
    unfold Wtb.valueOf
    dsimp only
    cases t.view.slotStates[n] <;> rfl
  all_goals rfl

/-- The first and the second part of O44: one evaluation, and the evaluation of the entries that meet a test. -/
theorem evaluations_move (w : EntryIx) (s : State) :
    let e := s.wtb.entries[w]
    let t := evaluateEntry w s
    let next := s.wtb.evaluatedState e
    (s.wtb.view.power = .parked → e.cfg.parkedLive = false → t = s) ∧
    (s.wtb.view.power ≠ .parked ∨ e.cfg.parkedLive = true →
      OnlyChanges [.wtb, .chs, .clc, .lkp] s t ∧ { t.wtb with entries := s.wtb.entries } = s.wtb ∧
      t.wtb.entries[w].state = next ∧ t.wtb.entries[w].cfg = e.cfg ∧
      t.wtb.entries[w].memory = s.wtb.sourceCondition e ∧ t.wtb.entries[w].eventPending = e.eventPending ∧
      t.wtb.entries[w].linkCondition = e.linkCondition ∧
      (e.state = .idle → next = .pending → t.wtb.entries[w].qualifyTimer = some e.cfg.qualify) ∧
      (e.state = .pending → next = .idle → t.wtb.entries[w].qualifyTimer = none) ∧
      (e.state = .active → next ≠ .active → t.wtb.entries[w].repeatTimer = none ∧
        t.chs = s.chs.remove (.warning w)) ∧
      (e.state ≠ .active → next = .active → ∀ p, e.cfg.pattern = some p → s.chs.queue.length < 8 →
        t.chs.holds (.warning w) = true) ∧
      (e.state ≠ .active → next = .active →
        t.wtb = (handWarningChime w (enteredEvaluated w s)).wtb ∧
          t.chs = (handWarningChime w (enteredEvaluated w s)).chs) ∧
      (next = e.state → t.chs = s.chs ∧ t.lkp = s.lkp ∧ t.clc = s.clc) ∧
      (next ≠ e.state → s.lkp.mask.getLsbD 1 = true → s.lkp.notices.length < 11 →
        Notice.warning w next ∈ t.lkp.notices) ∧
      (next ≠ e.state → s.lkp.mask.getLsbD 1 = true →
        Notice.warning w next ∈ t.lkp.notices ∨ t.lkp.noticesLost = true) ∧
      (next ≠ e.state → next ≠ .active ∨ e.cfg.pattern = none → t.lkp = s.lkp.takeNotice (.warning w next)) ∧
      (next ≠ e.state → e.cfg.mirrorRear = true → (∃ st ∈ [e.state, next], st = .active ∨ st = .acked ∨ st = .resolved) →
        Marked .rearWarnings s t) ∧
      ∀ v : EntryIx, v ≠ w → { t.wtb.entries[v] with repeatTimer := none } = { s.wtb.entries[v] with repeatTimer := none }) := by
  intro e t next
  refine ⟨evaluateEntry_asleep_eq, fun (awake : Awake w s) => ?_⟩
  obtain ⟨timer, entry⟩ := evaluateEntry_entry awake
  obtain ⟨cfg, memory, pending, link⟩ := Entry.taken_kept (s.wtb.holds e) { e with memory := s.wtb.sourceCondition e }
  obtain ⟨starts, stops⟩ := evaluateEntry_qualify awake
  refine ⟨(ByProducts.evaluateEntry w s).frame, evaluateEntry_frame awake, (evaluateEntry_state awake.not_asleep).1, ?_, ?_, ?_, ?_,
    fun idle => starts (by rw [show s.wtb.entries[w].state = .idle from idle]; decide), stops, evaluateEntry_left_active awake,
    fun before active p => evaluateEntry_entered_holds awake before active, evaluateEntry_entered awake, fun same => ?_,
    fun changed => (evaluateEntry_notices awake changed).1, evaluateEntry_told awake.not_asleep,
    fun changed => (evaluateEntry_notices awake changed).2, evaluateEntry_marked awake, fun v => evaluateEntry_others⟩
  · exact (congrArg Entry.cfg entry).trans cfg
  · exact (congrArg Entry.memory entry).trans memory
  · exact (congrArg Entry.eventPending entry).trans pending
  · exact (congrArg Entry.linkCondition entry).trans link
  · have quiet := (evaluateEntry_form awake).quiet same
    have stays : t = remembered w s := quiet
    rw [stays]
    exact ⟨rfl, rfl, rfl⟩

theorem sources_decide (t : Wtb) (e : Entry) :
    t.sourceCondition e = true ↔ match e.cfg.source with
      | .valueAbove v => ∃ x, t.valueOf v = some x ∧
          (if e.memory then e.cfg.threshold - e.cfg.hysteresis < x else e.cfg.threshold < x)
      | .valueBelow v => ∃ x, t.valueOf v = some x ∧
          (if e.memory then x < e.cfg.threshold + e.cfg.hysteresis else x < e.cfg.threshold)
      | .switch n => t.switches[n].level = t.switches[n].activeHigh
      | .channelFault ch => t.view.channels[ch] = .fault
      | .slotStale n => t.view.slotStates[n] = .stale ∨ t.view.slotStates[n] = .lost
      | .speedDisagree => t.view.disagree = true
      | .fuelImplausible => t.view.implausible = true
      | .service i => t.view.items[i] = .due ∨ t.view.items[i] = .overdue
      | .nodeLost n => t.view.nodes[n] = .lost
      | .lineFault => t.view.line = .fault
      | .linkCondition => e.linkCondition = true
      | .odometerInvalid => t.view.odometer = .invalid
      | .clockUnset => t.view.clock = .unset
      | .arrival => e.eventPending = true := by
  unfold Wtb.sourceCondition
  cases e.cfg.source <;> dsimp only
  case valueAbove v => exact aboveCondition_iff
  case valueBelow v => exact belowCondition_iff
  case switch n => exact Switch.active_iff _
  all_goals simp only [decide_eq_true_eq]

theorem gates_decide (t : Wtb) (g : Gate) : t.gateTrue g = true ↔ match g with
    | .none => True
    | .run => t.view.power ≠ .parked
    | .engine => t.view.engineRunning = true
    | .moving => t.view.roadLive = true
    | .still => t.view.roadLive = false
    | .switchOn n => t.switches[n].level = t.switches[n].activeHigh
    | .switchOff n => t.switches[n].level ≠ t.switches[n].activeHigh := by
  unfold Wtb.gateTrue
  cases g <;> dsimp only
  case none => exact ⟨fun _ => trivial, fun _ => rfl⟩
  case switchOn n => exact Switch.active_iff _
  case switchOff n => rw [Bool.not_eq_true', ← Bool.not_eq_true, Switch.active_iff]
  case still => rw [Bool.not_eq_true']
  all_goals simp only [decide_eq_true_eq]

end Sys2Proof.Machine
end


section
/-! A warning entry between two evaluations (R88, R92, R93, R94, R95, R97): untouched since an event began, or followed,
which is to say moved as its condition at the end of the event moves it. What leaves the entry's decision leaves it
followed. -/

namespace Sys2Proof.Machine

-- One theorem at a time, so that a build as one text needs few threads.
set_option Elab.async false

/-! ## The entry in the course of an event -/

/-- An entry with the memory it had when the event began. -/
abbrev Entry.recalling (memory : Bool) (e : Entry) : Entry := { e with memory }

/-- An ACTIVE entry has its request in the queue or, that having ended, its repeat timer started (R94, R96). -/
def Sounds (w : EntryIx) (u : State) : Prop :=
  (u.chs.holds (.warning w) = true ∧ u.wtb.entries[w].repeatTimer = none) ∨
    u.wtb.entries[w].repeatTimer = u.wtb.entries[w].cfg.rep

/-- An entry that was `e` when the event began and has not been moved since. -/
structure Untouched (w : EntryIx) (e : Entry) (on : Prop) (u : State) : Prop where
  consistent : e.cfg.consistent = true
  cfg : u.wtb.entries[w].cfg = e.cfg
  awake : u.wtb.view.power ≠ .parked ∨ e.cfg.parkedLive = true
  memory : u.wtb.entries[w].memory = e.memory
  state : u.wtb.entries[w].state = e.state
  mask : on → u.lkp.mask.getLsbD 1 = true

/-- An entry that was `e` when the event began and stands where its present condition moves it. -/
structure Followed (w : EntryIx) (e : Entry) (on : Prop) (u : State) : Prop where
  consistent : e.cfg.consistent = true
  cfg : u.wtb.entries[w].cfg = e.cfg
  awake : u.wtb.view.power ≠ .parked ∨ e.cfg.parkedLive = true
  memory : u.wtb.entries[w].memory = u.wtb.sourceCondition (u.wtb.entries[w].recalling e.memory)
  state : u.wtb.entries[w].state = e.moved (u.wtb.holds (u.wtb.entries[w].recalling e.memory))
  qualify : e.state ≠ .pending → u.wtb.entries[w].state = .pending → u.wtb.entries[w].qualifyTimer = some e.cfg.qualify
  sounds : e.state ≠ .active → u.wtb.entries[w].state = .active → e.cfg.pattern.isSome = true → Sounds w u
  silent : e.state = .active → u.wtb.entries[w].state ≠ .active →
    u.wtb.entries[w].repeatTimer = none ∧ u.chs.holds (.warning w) = false
  mask : on → u.lkp.mask.getLsbD 1 = true
  told : on → u.wtb.entries[w].state ≠ e.state → u.lkp.Told (.warning w u.wtb.entries[w].state)

section
variable {w : EntryIx} {e : Entry} {on : Prop} {s t u : State}

theorem Untouched.is_awake (h : Untouched w e on u) : Awake w u := by
  rw [Awake, h.cfg]
  exact h.awake

theorem Followed.is_awake (h : Followed w e on u) : Awake w u := by
  rw [Awake, h.cfg]
  exact h.awake

/-- An entry that nothing left unevaluated is followed by its own copies. -/
theorem Untouched.followed (h : Untouched w e on u)
    (memory : e.memory = u.wtb.sourceCondition u.wtb.entries[w])
    (moved : e.moved (u.wtb.holds u.wtb.entries[w]) = e.state) : Followed w e on u := by
  have recalled : u.wtb.entries[w].recalling e.memory = u.wtb.entries[w] := by
    rw [← h.memory]
  refine ⟨h.consistent, h.cfg, h.awake, ?_, ?_, fun unset pending => ?_, fun unset active => ?_, fun active unset => ?_, h.mask,
    fun _ changed => absurd h.state changed⟩
  · rw [recalled, h.memory, memory]
  · rw [recalled, h.state, moved]
  · exact absurd (h.state.symm.trans pending) unset
  · exact absurd (h.state.symm.trans active) unset
  · exact absurd (h.state.trans active) unset

/-- Such an entry remembers its source condition, and stands where its condition leaves it. -/
theorem Followed.settled (h : Followed w e on u) :
    u.wtb.sourceCondition u.wtb.entries[w] = u.wtb.entries[w].memory ∧
      u.wtb.entries[w].moved (u.wtb.holds u.wtb.entries[w]) = u.wtb.entries[w].state := by
  have stable := sourceCondition_stable (t := u.wtb) (e := u.wtb.entries[w].recalling e.memory)
    (by rw [show (u.wtb.entries[w].recalling e.memory).cfg = u.wtb.entries[w].cfg from rfl, h.cfg]; exact h.consistent)
  rw [← h.memory] at stable
  have source : u.wtb.sourceCondition u.wtb.entries[w] = u.wtb.entries[w].memory := stable
  have holds : u.wtb.holds u.wtb.entries[w] = u.wtb.holds (u.wtb.entries[w].recalling e.memory) :=
    holds_congr rfl (source.trans h.memory)
  refine ⟨source, ?_⟩
  rw [holds, h.state]
  exact Entry.moved_moved h.cfg h.state

/-- An evaluation of a followed entry does nothing (R93). -/
theorem Followed.evaluated_eq (h : Followed w e on u) : evaluateEntry w u = u := by
  obtain ⟨source, moved⟩ := h.settled
  have same : remembered w u = u := by
    rw [remembered, modEntry_congr (g := id) w u (by rw [source]; rfl)]
    exact congrArg (fun v => ({ u with wtb := { u.wtb with entries := v } } : State)) (updAt_of_fixed rfl)
  rw [evaluateEntry_awake_eq h.is_awake, same]
  exact moveEntry_still moved

/-- The entry's request and its repeat timer as an entry into ACTIVE leaves them (R94, R96). -/
theorem enterActive_sounds {p : PatternIx} (pattern : s.wtb.entries[w].cfg.pattern = some p) :
    Sounds w (enterActive w s) := by
  have entry := handWarningChime_entry w s
  rw [Sounds, enterActive_eq, reportEntry_chs, reportEntry_wtb]
  by_cases rejects : (entered w s).chs.Rejects (requestOf w p s)
  · right
    rw [entry, if_pos ⟨by rw [pattern]; rfl, rejects⟩]
  · left
    refine ⟨?_, ?_⟩
    · rw [handWarningChime_entered w s pattern]
      rcases takeChime_cases (r := requestOf w p s) (s := entered w s) nofun with
        ⟨held, taken⟩ | ⟨-, -, taken⟩ | ⟨v, absent, full, victim, ⟨-, taken⟩ | ⟨low, -⟩⟩
      · rw [taken]
        exact held
      · rw [taken]
        exact Chs.holds_enqueue _ (requestOf w p s)
      · rw [taken]
        exact Chs.holds_enqueue _ (requestOf w p s)
      · refine absurd ⟨absent, full, fun x victim' => ?_⟩ rejects
        cases victim.symm.trans victim'
        exact low
    · rw [entry, if_neg fun all => rejects all.2]

/-- An evaluation takes an untouched entry where its condition moves it. -/
theorem Untouched.evaluated (h : Untouched w e on u) : Followed w e on (evaluateEntry w u) := by
  have awake := h.is_awake
  have recalled : u.wtb.entries[w].recalling e.memory = u.wtb.entries[w] := by rw [← h.memory]
  have moved : u.wtb.evaluatedState u.wtb.entries[w] = e.moved (u.wtb.holds u.wtb.entries[w]) :=
    Entry.moved_congr h.cfg h.state _
  have frame := evaluateEntry_frame awake
  obtain ⟨timer, entry⟩ := evaluateEntry_entry awake
  obtain ⟨cfg, memory, pending, link⟩ := Entry.taken_kept (u.wtb.holds u.wtb.entries[w])
    { u.wtb.entries[w] with memory := u.wtb.sourceCondition u.wtb.entries[w] }
  obtain ⟨state, view⟩ := evaluateEntry_state awake.not_asleep
  have cfg' : (evaluateEntry w u).wtb.entries[w].cfg = u.wtb.entries[w].cfg := (congrArg Entry.cfg entry).trans cfg
  have source : (evaluateEntry w u).wtb.sourceCondition ((evaluateEntry w u).wtb.entries[w].recalling e.memory) =
      u.wtb.sourceCondition u.wtb.entries[w] := by
    rw [← recalled]
    have reads : u.wtb.sourceCondition ((evaluateEntry w u).wtb.entries[w].recalling e.memory) =
        u.wtb.sourceCondition (u.wtb.entries[w].recalling e.memory) :=
      sourceCondition_congr cfg' rfl ((congrArg Entry.eventPending entry).trans pending)
        ((congrArg Entry.linkCondition entry).trans link)
    rw [← reads]
    generalize (evaluateEntry w u).wtb = t at frame ⊢
    rw [← frame]
    rfl
  have holds : (evaluateEntry w u).wtb.holds ((evaluateEntry w u).wtb.entries[w].recalling e.memory) =
      u.wtb.holds u.wtb.entries[w] := by
    unfold Wtb.holds
    rw [source, show ((evaluateEntry w u).wtb.entries[w].recalling e.memory).cfg = u.wtb.entries[w].cfg from cfg']
    generalize (evaluateEntry w u).wtb = t at frame ⊢
    rw [← frame]
    rfl
  have mask : (evaluateEntry w u).lkp.mask = u.lkp.mask := (NoticesOnly.evaluateEntry w u).mask_eq
  refine ⟨h.consistent, cfg'.trans h.cfg, by rw [view]; exact h.awake, ?_, ?_, fun before after => ?_, fun before after pattern => ?_,
    fun before after => ?_, fun isOn => by rw [mask]; exact h.mask isOn, fun isOn changed => ?_⟩
  · rw [source]
    exact (congrArg Entry.memory entry).trans memory
  · rw [holds, state, moved]
  · rw [state] at after
    rw [← h.cfg]
    exact (evaluateEntry_qualify awake).1 (by rw [h.state]; exact before) after
  · rw [state] at after
    obtain ⟨p, some⟩ := Option.isSome_iff_exists.mp pattern
    rw [(evaluateEntry_form awake).entered_active (by rw [h.state]; exact before) after]
    refine enterActive_sounds (p := p) ?_
    rw [remembered_entry]
    exact (congrArg EntryConfig.pattern h.cfg).trans some
  · rw [state] at after
    obtain ⟨timer, chs⟩ := evaluateEntry_left_active awake (h.state.trans before) after
    exact ⟨timer, by rw [chs]; exact removeChime_gone (.warning w) u⟩
  · rw [state] at changed ⊢
    rw [← h.state] at changed
    exact evaluateEntry_told awake.not_asleep changed (h.mask isOn)

end

end Sys2Proof.Machine
end


section
/-! What leaves a warning entry's decision (R92, R96, R112, R113, R114, R119): the changes of other blocks, the chime requests
of other sources, the evaluations of other entries. -/

namespace Sys2Proof.Machine

-- One theorem at a time, so that a build as one text needs few threads.
set_option Elab.async false

/-! ## Chimes of other sources -/

theorem Chs.holds_drop_other {c : Chs} {x src : ChimeSource} (other : src ≠ x) : (c.drop src).holds x = c.holds x := by
  cases held : c.holds x with
  | false => exact Chs.drop_holds_other held
  | true =>
    obtain ⟨r, mem, source⟩ := List.any_eq_true.mp held
    refine List.any_eq_true.mpr ⟨r, List.mem_filter.mpr ⟨mem, decide_eq_true fun same => other ?_⟩, source⟩
    rw [← same]
    exact of_decide_eq_true source

theorem Chs.holds_of_queue {c d : Chs} {x : ChimeSource} (queue : d.queue = c.queue) : d.holds x = c.holds x := by
  unfold Chs.holds
  rw [queue]

theorem Chs.holds_remove_other {c : Chs} {x src : ChimeSource} (other : src ≠ x) :
    (c.remove src).holds x = c.holds x := by
  rw [← Chs.holds_drop_other (c := c) other]
  exact Chs.holds_of_queue (c.remove_queue src)

theorem Chs.holds_enqueue_other {c : Chs} {x : ChimeSource} {r : ChimeRequest} (other : r.source ≠ x) :
    (c.enqueue r).chooseIfSilent.holds x = c.holds x :=
  Bool.eq_iff_iff.mpr (Chs.holds_enqueue_iff.trans (or_iff_right other))

/-! ## Calm -/

/-- What leaves an entry but for its repeat timer, which starts where its request ends, and its WARNING notice. -/
structure Calm (w : EntryIx) (s t : State) : Prop where
  left : EntryLeft w s t
  notice : ∀ st, KeepsNotice (.warning w st) s t
  sounds : s.wtb.entries[w].state = .active → Sounds w s → Sounds w t
  silent : s.chs.holds (.warning w) = false → t.chs.holds (.warning w) = false

namespace Calm
variable {w : EntryIx} {s t u : State}

theorem trans (h : Calm w s t) (k : Calm w t u) : Calm w s u where
  left := h.left.trans k.left
  notice := fun st => (h.notice st).trans (k.notice st)
  sounds := fun active sounds => by
    have state : t.wtb.entries[w].state = s.wtb.entries[w].state := by
      obtain ⟨timer, entry, -⟩ := h.left.entry
      rw [entry]
    exact k.sounds (state.trans active) (h.sounds active sounds)
  silent := k.silent ∘ h.silent

/-- What leaves the entry and whether its request is held. -/
theorem of_entry (left : EntryLeft w s t) (notice : ∀ st, KeepsNotice (.warning w st) s t)
    (entry : t.wtb.entries[w] = s.wtb.entries[w]) (holds : t.chs.holds (.warning w) = s.chs.holds (.warning w)) :
    Calm w s t where
  left := left
  notice := notice
  sounds := fun _ sounds => by
    unfold Sounds
    rw [entry, holds]
    exact sounds
  silent := fun absent => holds.trans absent

theorem of_wtb (wtb : t.wtb = s.wtb) (notice : ∀ st, KeepsNotice (.warning w st) s t)
    (holds : t.chs.holds (.warning w) = s.chs.holds (.warning w)) : Calm w s t :=
  of_entry ((Rearmed.of_wtb wtb).left w) notice (by rw [wtb]) holds

theorem of_only {ps : List Part} (h : OnlyChanges ps s t)
    (apart : ∀ p ∈ ps, p ∉ [Part.wtb, .chs, .lkp] := by decide) : Calm w s t :=
  of_wtb (h .wtb fun mem => apart _ mem (by decide)) (fun st => .of_only h fun mem => apart _ mem (by decide))
    (by rw [h .chs fun mem => apart _ mem (by decide)])

theorem refl (s : State) : Calm w s s := of_only (.refl [] s)

theorem foldl {α : Type} {f : State → α → State} (h : ∀ s a, Calm w s (f s a)) (l : List α) (s : State) :
    Calm w s (l.foldl f s) :=
  List.foldlRecOn (motive := fun t => Calm w s t) _ _ (refl s) fun t walked a _ => walked.trans (h t a)

theorem eachIx {n : Nat} {f : Fin n → State → State} (h : ∀ i s, Calm w s (f i s)) (s : State) :
    Calm w s (Machine.eachIx n f s) := foldl (fun s i => h i s) _ s

theorem hand {targets : List Block} {take : Block → State → State} (h : ∀ b s, Calm w s (take b s)) (s : State) :
    Calm w s (Machine.hand targets take s) := trans (of_only (modFree_only s _)) (foldl (fun s b => h b s) _ _)

/-- A notice that is not the entry's own. -/
theorem notify {n : Notice} (other : ∀ st, (Notice.warning w st).key ≠ n.key) (s : State) : Calm w s (s.notify n) :=
  of_wtb (notify_only s n .wtb (by decide)) (fun st => .notify (fun key => absurd key (other st)) s)
    (by rw [notify_only s n .chs (by decide)])

/-- A notice of another kind. -/
theorem notify_kind {n : Notice} (kind : n.bit ≠ 1) (s : State) : Calm w s (s.notify n) :=
  notify (fun _ key => kind (congrArg Prod.fst key).symm) s

theorem mark (i : MirrorItem) (s : State) : Calm w s (Machine.mark i s) := of_only (mark_only s i)

theorem modChs {f : Chs → Chs} (holds : (f s.chs).holds (.warning w) = s.chs.holds (.warning w)) :
    Calm w s (s.modChs f) :=
  of_wtb rfl (fun st => .of_only (modChs_only s f)) holds

theorem removeChime {src : ChimeSource} (other : src ≠ .warning w) (s : State) : Calm w s (removeChime src s) :=
  modChs (Chs.holds_remove_other other)

/-- An evicted request starts the repeat timer of its entry (R96). -/
theorem evicted {v r : ChimeRequest} (other : r.source ≠ .warning w) (s : State) :
    Calm w s ((handEnd .evicted v s).modChs fun c => ((c.drop v.source).enqueue r).chooseIfSilent) := by
  obtain ⟨only, wtb, -⟩ := handEnd_spec s .evicted v
  have chs : (handEnd .evicted v s).chs = s.chs := only .chs (by decide)
  have left : EntryLeft w s (handEnd .evicted v s) := (Rearmed.handEnd .evicted v s).left w
  have notice (st : EntryState) : KeepsNotice (.warning w st) s (handEnd .evicted v s) :=
    .notices (NoticesOnly.handEnd_chimes .evicted v s) (by simp [Notice.bit])
  by_cases own : v.source = .warning w
  · have gone : (((s.chs.drop v.source).enqueue r).chooseIfSilent).holds (.warning w) = false := by
      rw [Chs.holds_enqueue_other other, own]
      exact Chs.drop_holds s.chs _
    refine ⟨left.trans ((Rearmed.of_only (modChs_only _ _)).left w), fun st => (notice st).trans (.of_only (modChs_only _ _)),
      fun active sounds => .inr ?_, fun _ => ?_⟩
    · change (handEnd .evicted v s).wtb.entries[w].repeatTimer = (handEnd .evicted v s).wtb.entries[w].cfg.rep
      rw [wtb, Wtb.retried_entry]
      split_ifs with retries
      · rfl
      · have none : s.wtb.entries[w].cfg.rep = none :=
          Option.not_isSome_iff_eq_none.mp fun repeats => retries ⟨own, active, repeats⟩
        rcases sounds with ⟨-, stopped⟩ | timer
        · rw [none]
          exact stopped
        · exact timer
    · change (((handEnd .evicted v s).chs.drop v.source).enqueue r).chooseIfSilent.holds (.warning w) = false
      rw [chs]
      exact gone
  · have ended : Calm w s (handEnd .evicted v s) := by
      refine of_entry left notice ?_ (by rw [chs])
      rw [wtb, Wtb.retried_entry, if_neg fun all => own all.1]
    refine ended.trans (modChs ?_)
    rw [Chs.holds_enqueue_other other, Chs.holds_drop_other own]

/-- A request of another source (R112, R113, R114). -/
theorem takeChime {r : ChimeRequest} (other : r.source ≠ .warning w) (link : r.source ≠ .link) (s : State) :
    Calm w s (takeChime r s).1 := by
  rcases takeChime_cases (s := s) link with ⟨-, taken⟩ | ⟨-, -, taken⟩ | ⟨v, -, -, -, ⟨-, taken⟩ | ⟨-, taken⟩⟩ <;>
    rw [taken]
  · exact refl s
  · exact modChs (f := fun c => (c.enqueue r).chooseIfSilent) (Chs.holds_enqueue_other other)
  · exact evicted other s
  · have only := handNotQueued_only s r.source
    refine of_entry ((Rearmed.handNotQueued r.source s).left w) (fun st => .of_only only) ?_
      (by rw [only .chs (by decide)])
    rw [handNotQueued_wtb, Wtb.retried_entry, if_neg fun all => other all.1]

/-! ## Evaluations of other entries -/

section
variable {v : EntryIx} (other : v ≠ w)
include other

theorem modEntry (f : Entry → Entry) (s : State) : Calm w s (s.modEntry v f) := by
  have entry : (s.modEntry v f).wtb.entries[w] = s.wtb.entries[w] := by
    rw [State.modEntry_entries, updAt_get_other _ _ _ _ other]
  exact of_entry ((Rearmed.refl (s.modEntry v f)).other other) (fun st => .of_only (modEntry_only s v f)) entry rfl

theorem reportEntry (old new : EntryState) (s : State) : Calm w s (Machine.reportEntry v old new s) := by
  have noticed : Calm w s (s.notify (.warning v new)) :=
    notify (fun st key => other (Fin.ext (congrArg Prod.snd key :)).symm) s
  unfold Machine.reportEntry
  split_ifs
  · exact noticed.trans (mark _ _)
  · exact noticed

theorem handWarningChime (s : State) : Calm w s (Machine.handWarningChime v s) := by
  unfold Machine.handWarningChime
  split
  · exact takeChime (fun same => other (ChimeSource.warning.inj same)) (by exact nofun) s
  · exact refl s

theorem leaveActive (new : EntryState) (s : State) : Calm w s (Machine.leaveActive v new s) :=
  ((modEntry other _ s).trans (removeChime (fun same => other (ChimeSource.warning.inj same)) _)).trans
    (reportEntry other _ _ _)

theorem moveEntry (holds : Bool) (s : State) : Calm w s (Machine.moveEntry v holds s) := by
  have form := moveEntry_form v holds s
  generalize Machine.moveEntry v holds s = t at form ⊢
  cases form with
  | stays same => exact refl s
  | enters before active =>
    exact ((modEntry other _ s).trans (handWarningChime other _)).trans (reportEntry other _ _ _)
  | leaves before after => exact leaveActive other _ s
  | moves f cfg before after differs => exact (modEntry other f s).trans (reportEntry other _ _ _)

theorem evaluateEntry (s : State) : Calm w s (Machine.evaluateEntry v s) := by
  by_cases awake : Awake v s
  · rw [evaluateEntry_awake_eq awake]
    exact (modEntry other _ s).trans (moveEntry other _ _)
  · obtain ⟨asleep, still⟩ := not_or.mp awake
    rw [evaluateEntry_asleep_eq (not_not.mp asleep) (Bool.eq_false_iff.mpr still)]
    exact refl s

end

/-! ## What calm keeps -/

section
variable {e : Entry} {on : Prop}

theorem view_eq (h : Calm w s t) : t.wtb.view = s.wtb.view := by
  rw [h.left.wtb]

theorem untouched (h : Calm w s t) (held : Untouched w e on s) : Untouched w e on t := by
  obtain ⟨timer, entry, -⟩ := h.left.entry
  exact {
    consistent := held.consistent
    cfg := by rw [entry]; exact held.cfg
    awake := by rw [h.view_eq]; exact held.awake
    memory := by rw [entry]; exact held.memory
    state := by rw [entry]; exact held.state
    mask := fun isOn => by rw [(h.notice .idle).mask]; exact held.mask isOn }

theorem followed (h : Calm w s t) (held : Followed w e on s) : Followed w e on t := by
  have sounds := h.sounds
  obtain ⟨timer, entry, runs⟩ := h.left.entry
  have source : t.wtb.sourceCondition (t.wtb.entries[w].recalling e.memory) =
      s.wtb.sourceCondition (s.wtb.entries[w].recalling e.memory) := by
    rw [entry, h.left.wtb]
    rfl
  have holds : t.wtb.holds (t.wtb.entries[w].recalling e.memory) =
      s.wtb.holds (s.wtb.entries[w].recalling e.memory) := by
    rw [entry, h.left.wtb]
    rfl
  exact {
    consistent := held.consistent
    cfg := by rw [entry]; exact held.cfg
    awake := by rw [h.view_eq]; exact held.awake
    memory := by rw [source, entry]; exact held.memory
    state := by rw [holds, entry]; exact held.state
    qualify := by rw [entry]; exact held.qualify
    sounds := fun before after pattern => by
      rw [entry] at after
      exact sounds after (held.sounds before after pattern)
    silent := fun before after => by
      rw [entry] at after
      obtain ⟨stopped, absent⟩ := held.silent before after
      refine ⟨?_, h.silent absent⟩
      rw [entry]
      refine Option.not_isSome_iff_eq_none.mp fun on => ?_
      rcases runs on with ran | active
      · rw [stopped] at ran
        cases ran
      · exact after active
    mask := fun isOn => by rw [(h.notice .idle).mask]; exact held.mask isOn
    told := fun isOn changed => by
      rw [entry] at changed ⊢
      exact (h.notice _).told (held.told isOn changed) }

end

end Calm

end Sys2Proof.Machine
end


section
/-! What an operation does to a warning entry, by whether its source is one the operation may change (R92): it leaves the
entry's decision, or it changes it once. In a row of operations of which at most one may change it, the entry is followed to
the end. -/

namespace Sys2Proof.Machine

-- One theorem at a time, so that a build as one text needs few threads.
set_option Elab.async false

/-- The entry is as it was when the event began, and nothing of it unevaluated. -/
def Fresh (w : EntryIx) (e : Entry) (on : Prop) (u : State) : Prop := Untouched w e on u ∧ Followed w e on u

/-- What may change the decision of a fresh entry once, and only where `p`: otherwise it leaves it. -/
structure Handles (w : EntryIx) (e : Entry) (on : Prop) (p : Prop) (s t : State) : Prop where
  once : Fresh w e on s → Followed w e on t
  fresh : ¬ p → Fresh w e on s → Fresh w e on t
  followed : ¬ p → Followed w e on s → Followed w e on t

namespace Handles
variable {w : EntryIx} {e : Entry} {on p q : Prop} {s t u : State}

theorem of_calm (h : Calm w s t) : Handles w e on p s t where
  once := fun fresh => h.followed fresh.2
  fresh := fun _ fresh => ⟨h.untouched fresh.1, h.followed fresh.2⟩
  followed := fun _ => h.followed

theorem of_only {ps : List Part} (h : OnlyChanges ps s t)
    (apart : ∀ p ∈ ps, p ∉ [Part.wtb, .chs, .lkp] := by decide) : Handles w e on p s t := of_calm (.of_only h apart)

theorem refl (s : State) : Handles w e on p s s := of_calm (.refl s)

theorem mono (h : Handles w e on p s t) (weaker : p → q) : Handles w e on q s t where
  once := h.once
  fresh := fun no => h.fresh fun yes => no (weaker yes)
  followed := fun no => h.followed fun yes => no (weaker yes)

/-- Two operations of which at most one may change the decision. -/
theorem trans_of (h : Handles w e on p s t) (k : Handles w e on q t u) (apart : ¬ (p ∧ q)) :
    Handles w e on (p ∨ q) s u where
  once := fun fresh => by
    by_cases first : p
    · exact k.followed (fun second => apart ⟨first, second⟩) (h.once fresh)
    · exact k.once (h.fresh first fresh)
  fresh := fun no fresh => k.fresh (fun yes => no (.inr yes)) (h.fresh (fun yes => no (.inl yes)) fresh)
  followed := fun no held => k.followed (fun yes => no (.inr yes)) (h.followed (fun yes => no (.inl yes)) held)

/-- A calm operation before. -/
theorem after (h : Calm w s t) (k : Handles w e on p t u) : Handles w e on p s u :=
  ((of_calm h : Handles w e on False s t).trans_of k fun both => both.1).mono fun either => either.resolve_left id

/-- A calm operation behind. -/
theorem calm (h : Handles w e on p s t) (k : Calm w t u) : Handles w e on p s u :=
  (h.trans_of (of_calm k : Handles w e on False t u) fun both => both.2).mono fun either => either.resolve_right id

/-- Operations in turn over a list, each of which may change the decision of its own sources alone, while `J` stands. -/
theorem foldl_while {α : Type} {f : State → α → State} {p : α → Prop} {J : State → Prop} (keeps : ∀ s a, J s → J (f s a))
    (each : ∀ s a, J s → Handles w e on (p a) s (f s a)) (l : List α) (apart : l.Pairwise fun a b => ¬ (p a ∧ p b))
    (s : State) (start : J s) : Handles w e on (∃ a ∈ l, p a) s (l.foldl f s) := by
  induction l generalizing s with
  | nil => exact refl s
  | cons a l ih =>
    obtain ⟨others, apart⟩ := List.pairwise_cons.mp apart
    refine ((each s a start).trans_of (ih apart _ (keeps s a start)) ?_).mono ?_
    · rintro ⟨own, b, mem, other⟩
      exact others b mem ⟨own, other⟩
    · rintro (own | ⟨b, mem, other⟩)
      · exact ⟨a, List.mem_cons_self .., own⟩
      · exact ⟨b, List.mem_cons_of_mem _ mem, other⟩

theorem foldl {α : Type} {f : State → α → State} {p : α → Prop} (each : ∀ s a, Handles w e on (p a) s (f s a))
    (apart : ∀ a b, p a → p b → a = b) (l : List α) (nodup : l.Nodup) (s : State) :
    Handles w e on (∃ a ∈ l, p a) s (l.foldl f s) :=
  foldl_while (J := fun _ => True) (fun _ _ => id) (fun s a _ => each s a) l
    (nodup.imp fun differ both => differ (apart _ _ both.1 both.2)) s trivial

theorem eachIx {n : Nat} {f : Fin n → State → State} {p : Fin n → Prop} (each : ∀ i s, Handles w e on (p i) s (f i s))
    (apart : ∀ i j, p i → p j → i = j) (s : State) : Handles w e on (∃ i, p i) s (Machine.eachIx n f s) :=
  (foldl (fun s i => each i s) apart _ (List.nodup_finRange n) s).mono fun ⟨i, _, own⟩ => ⟨i, own⟩

/-- A handing whose blocks may each change the decision of their own sources alone, while `J` stands. -/
theorem hand_while {targets : List Block} {take : Block → State → State} {p : Block → Prop} {J : State → Prop}
    (free : ∀ s f, J s → J (s.modFree f)) (keeps : ∀ b s, J s → J (take b s))
    (each : ∀ b s, J s → Handles w e on (p b) s (take b s)) (apart : ∀ b c, p b → p c → b = c) (s : State) (start : J s) :
    Handles w e on (∃ b, p b) s (Machine.hand targets take s) :=
  after (.of_only (modFree_only s _)) ((foldl_while (fun s b => keeps b s) (fun s b => each b s) _
    (((nodup_blockOrder _).filter _).imp fun differ both => differ (apart _ _ both.1 both.2)) _ (free s _ start)).mono
      fun ⟨b, _, own⟩ => ⟨b, own⟩)

theorem hand {targets : List Block} {take : Block → State → State} {p : Block → Prop}
    (each : ∀ b s, Handles w e on (p b) s (take b s)) (apart : ∀ b c, p b → p c → b = c) (s : State) :
    Handles w e on (∃ b, p b) s (Machine.hand targets take s) :=
  hand_while (J := fun _ => True) (fun _ _ => id) (fun _ _ => id) (fun b s _ => each b s) apart s trivial

/-- A handing in which one block alone may change the decision; it finds the copies as the handing began. -/
theorem hand_at {targets : List Block} {take : Block → State → State} (b : Block) (s : State)
    (own : ∀ u, u.wtb.view = s.wtb.view → Handles w e on p u (take b u))
    (others : ∀ c u, c ≠ b → Calm w u (take c u)) (mem : b ∈ targets := by decide) :
    Handles w e on p s (Machine.hand targets take s) := by
  have walk {before goal : State → Prop} (free : ∀ u f, before u → before (u.modFree f))
      (calm : ∀ {u v}, Calm w u v → before u → before v) (stays : ∀ {u v}, Calm w u v → goal u → goal v)
      (reach : ∀ u, u.wtb.view = s.wtb.view → before u → goal (take b u)) (start : before s) :
      goal (Machine.hand targets take s) :=
    hand_reaches (before := fun u => u.wtb.view = s.wtb.view ∧ before u) mem (fun u f held => ⟨held.1, free u f held.2⟩)
      (fun u held => reach u held.1 held.2)
      (fun c u other held => ⟨(others c u other).view_eq.trans held.1, calm (others c u other) held.2⟩)
      (fun c u other held => stays (others c u other) held) ⟨rfl, start⟩
  have fresh {u v : State} (h : Calm w u v) (held : Fresh w e on u) : Fresh w e on v :=
    ⟨h.untouched held.1, h.followed held.2⟩
  have free (u : State) (f : FreeValues → FreeValues) : Calm w u (u.modFree f) := .of_only (modFree_only u f)
  exact ⟨walk (fun u f => fresh (free u f)) fresh Calm.followed fun u view => (own u view).once,
    fun no => walk (fun u f => fresh (free u f)) fresh fresh fun u view => (own u view).fresh no,
    fun no => walk (fun u f => (free u f).followed) Calm.followed Calm.followed fun u view => (own u view).followed no⟩

theorem ranged {α : Type} {fields : Option α} {f : α → State → State × Response}
    (each : ∀ a, fields = some a → Handles w e on p s (f a s).1) : Handles w e on p s (Machine.ranged fields f s).1 := by
  unfold Machine.ranged
  split
  · exact each _ rfl
  · exact refl s

end Handles

/-! ## Evaluations -/

/-- Another WTB decides the entries of a configuration alike. -/
def Wtb.Decides (t t' : Wtb) (c : EntryConfig) : Prop :=
  ∀ x : Entry, x.cfg = c → t'.sourceCondition x = t.sourceCondition x ∧ t'.holds x = t.holds x

section
variable {w : EntryIx} {e : Entry} {on p : Prop} {s : State}

/-- An evaluation of some entries leaves a followed entry followed. -/
theorem Followed.evaluateWhere (h : Followed w e on s) (test : EntryConfig → Bool) :
    Followed w e on (evaluateWhere test s) := by
  refine eachIx_induct h fun v u held => ?_
  split_ifs
  · by_cases own : v = w
    · subst own
      rw [held.evaluated_eq]
      exact held
    · exact (Calm.evaluateEntry own u).followed held
  · exact held

/-- An evaluation that tests the entry takes it where its condition moves it. -/
theorem Untouched.evaluateWhere (h : Untouched w e on s) {test : EntryConfig → Bool} (tested : test e.cfg = true) :
    Followed w e on (evaluateWhere test s) := by
  refine eachIx_brings w (before := Untouched w e on) (goal := Followed w e on) (fun u held => ?_) (fun v u other held => ?_)
    (fun v u other held => ?_) h
  · rw [held.cfg, if_pos tested]
    exact held.evaluated
  · split_ifs
    · exact (Calm.evaluateEntry other u).untouched held
    · exact held
  · split_ifs
    · exact (Calm.evaluateEntry other u).followed held
    · exact held

/-- An evaluation that does not test the entry, or finds it followed, leaves it untouched. -/
theorem Fresh.evaluateWhere (h : Fresh w e on s) (test : EntryConfig → Bool) : Fresh w e on (evaluateWhere test s) := by
  refine eachIx_induct h fun v u held => ?_
  split_ifs
  · by_cases own : v = w
    · subst own
      rw [held.2.evaluated_eq]
      exact held
    · exact ⟨(Calm.evaluateEntry own u).untouched held.1, (Calm.evaluateEntry own u).followed held.2⟩
  · exact held

/-! ## Changes of the WTB -/

section
variable {t : Wtb} (entries : t.entries = s.wtb.entries) (power : t.view.power = s.wtb.view.power)
include entries power

theorem Untouched.changed (h : Untouched w e on s) : Untouched w e on (s.modWtb fun _ => t) := by
  have same : (s.modWtb fun _ => t).wtb.entries = s.wtb.entries := entries
  have asleep : (s.modWtb fun _ => t).wtb.view.power = s.wtb.view.power := power
  exact ⟨h.consistent, by rw [same]; exact h.cfg, by rw [asleep]; exact h.awake, by rw [same]; exact h.memory,
    by rw [same]; exact h.state, h.mask⟩

/-- A WTB that decides the entry alike leaves it followed. -/
theorem Followed.changed (h : Followed w e on s) (decides : s.wtb.Decides t e.cfg) :
    Followed w e on (s.modWtb fun _ => t) := by
  have same : (s.modWtb fun _ => t).wtb.entries = s.wtb.entries := entries
  have asleep : (s.modWtb fun _ => t).wtb.view.power = s.wtb.view.power := power
  obtain ⟨source, holds⟩ := decides (s.wtb.entries[w].recalling e.memory) h.cfg
  have sounds : Sounds w (s.modWtb fun _ => t) = Sounds w s := by
    unfold Sounds
    rw [same]
    rfl
  exact {
    consistent := h.consistent
    cfg := by rw [same]; exact h.cfg
    awake := by rw [asleep]; exact h.awake
    memory := by rw [same]; exact h.memory.trans source.symm
    state := by rw [same]; exact h.state.trans (congrArg e.moved holds.symm)
    qualify := by rw [same]; exact h.qualify
    sounds := by rw [same, sounds]; exact h.sounds
    silent := by rw [same]; exact h.silent
    mask := h.mask
    told := by rw [same]; exact h.told }

/-- A change of the copies or the switches, evaluated: it handles an entry where its test covers what it changes of the
entry's decision. -/
theorem Handles.changed {test : EntryConfig → Bool} (covers : test e.cfg = false → s.wtb.Decides t e.cfg)
    (quiet : ¬ p → s.wtb.Decides t e.cfg) : Handles w e on p s (evaluateWhere test (s.modWtb fun _ => t)) where
  once := fun fresh => by
    by_cases tested : test e.cfg = true
    · exact (fresh.1.changed entries power).evaluateWhere tested
    · exact (fresh.2.changed entries power (covers (Bool.eq_false_iff.mpr tested))).evaluateWhere _
  fresh := fun no fresh =>
    Fresh.evaluateWhere ⟨fresh.1.changed entries power, fresh.2.changed entries power (quiet no)⟩ _
  followed := fun no held => (held.changed entries power (quiet no)).evaluateWhere _

end

theorem Wtb.Decides.of_same {t t' : Wtb} {c : EntryConfig}
    (source : ∀ x : Entry, x.cfg = c → t'.sourceCondition x = t.sourceCondition x)
    (gates : t'.gateTrue c.gate1 = t.gateTrue c.gate1 ∧ t'.gateTrue c.gate2 = t.gateTrue c.gate2) : t.Decides t' c := by
  intro x cfg
  obtain ⟨gate1, gate2⟩ := gates
  refine ⟨source x cfg, ?_⟩
  unfold Wtb.holds
  rw [source x cfg, cfg, gate1, gate2]

/-- What the WTB takes decides the entries it does not test alike. -/
theorem Wtb.Covers.decides {t : Wtb} {f : WarnView → WarnView} {test : EntryConfig → Bool} (covers : t.Covers f test)
    {c : EntryConfig} (untested : test c = false) : t.Decides { t with view := f t.view } c :=
  .of_same (fun x cfg => covers.source x (by rw [cfg]; exact untested)) (covers.gates (Entry.idle c) untested)

/-- What the WTB takes. -/
theorem Handles.take {f : WarnView → WarnView} {test : EntryConfig → Bool} (covers : s.wtb.Covers f test)
    (quiet : ¬ p → test e.cfg = false ∨ s.wtb.Decides { s.wtb with view := f s.wtb.view } e.cfg) :
    Handles w e on p s (wtbTake f test s) :=
  Handles.changed (t := { s.wtb with view := f s.wtb.view }) rfl covers.power (fun untested => covers.decides untested)
    fun no => (quiet no).elim (fun untested => covers.decides untested) id

/-- What the WTB takes, for the entries it tests. -/
theorem Handles.take_tested {f : WarnView → WarnView} {test : EntryConfig → Bool} (covers : s.wtb.Covers f test) :
    Handles w e on (test e.cfg = true) s (wtbTake f test s) :=
  Handles.take covers fun no => .inl (Bool.eq_false_iff.mpr no)

end

end Sys2Proof.Machine
end


section
/-! Which warning entries the service items, the distance and fuel units, the seconds and the range may change the decision
of (R43, R57, R59, R72, R89, R92, R132). -/

namespace Sys2Proof.Machine

-- One theorem at a time, so that a build as one text needs few threads.
set_option Elab.async false

section
variable {w : EntryIx} {e : Entry} {on : Prop} (s : State)

/-! ## What the WTB takes -/

theorem wtbDisagree_handles (b : Bool) : Handles w e on (e.cfg.source = .speedDisagree) s (wtbDisagree b s) :=
  (Handles.take_tested (wtbDisagree_covers s b)).mono of_decide_eq_true

theorem wtbImplausible_handles (b : Bool) : Handles w e on (e.cfg.source = .fuelImplausible) s (wtbImplausible b s) :=
  (Handles.take_tested (wtbImplausible_covers s b)).mono of_decide_eq_true

theorem wtbOdometer_handles (o : OdometerState) : Handles w e on (e.cfg.source = .odometerInvalid) s (wtbOdometer o s) :=
  (Handles.take_tested (wtbOdometer_covers s o)).mono of_decide_eq_true

theorem wtbClock_handles (c : ClockState) : Handles w e on (e.cfg.source = .clockUnset) s (wtbClock c s) :=
  (Handles.take_tested (wtbClock_covers s c)).mono of_decide_eq_true

theorem wtbLine_handles (st : LineState) : Handles w e on (e.cfg.source = .lineFault) s (wtbLine st s) :=
  (Handles.take_tested (wtbLine_covers s st)).mono of_decide_eq_true

theorem wtbItem_handles (i : ItemIx) (st : ItemState) : Handles w e on (e.cfg.source = .service i) s (wtbItem i st s) :=
  (Handles.take_tested (wtbItem_covers s i st)).mono of_decide_eq_true

theorem wtbNode_handles (n : NodeIx) (st : NodeState) : Handles w e on (e.cfg.source = .nodeLost n) s (wtbNode n st s) :=
  (Handles.take_tested (wtbNode_covers s n st)).mono of_decide_eq_true

theorem wtbRange_handles (r : Option Nat) :
    Handles w e on (e.cfg.source.readsValue .range = true) s (wtbRange r s) :=
  Handles.take_tested (wtbRange_covers s r)

theorem wtbSlot_handles (n : SlotIx) (st : SlotState) (value : Int) :
    Handles w e on (e.cfg.source.readsSlot n = true) s (wtbSlot n st value s) :=
  Handles.take_tested (wtbSlot_covers s n st value)

/-- The WTB with other records of its entries. -/
abbrev withEntries (v : Vector Entry 32) (s : State) : State := s.modWtb fun _ => { s.wtb with entries := v }

/-- Other records leave an entry whose own is the same. -/
theorem withEntries_calm {v : Vector Entry 32} (entry : v[w] = s.wtb.entries[w]) : Calm w s (withEntries v s) := by
  refine .of_entry ⟨rfl, ?_⟩ (fun st => .of_only (modWtb_only s _)) entry rfl
  show s.wtb.entries[w].Rearms v[w]
  rw [entry]
  exact .refl _

/-- An arrival sets the flags of the ARRIVAL entries and evaluates them (R89). -/
theorem wtbArrival_handles : Handles w e on (e.cfg.source = .arrival) s (wtbArrival s) := by
  have arrives : wtbArrival s = evaluateWhere (fun c => c.enabled && c.source = .arrival)
      (withEntries (mapAll Entry.arrived s.wtb.entries) s) := rfl
  have entry : (mapAll Entry.arrived s.wtb.entries)[w] = s.wtb.entries[w].arrived := mapAll_get _ _ _
  rw [arrives]
  generalize mapAll Entry.arrived s.wtb.entries = v at *
  have calm (apart : ¬ (e.cfg.enabled ∧ e.cfg.source = .arrival)) (cfg : s.wtb.entries[w].cfg = e.cfg) :
      Calm w s (withEntries v s) :=
    withEntries_calm s (entry.trans (if_neg (by rw [cfg]; exact apart)))
  refine ⟨fun fresh => ?_, fun other fresh => ?_, fun other held => ?_⟩
  · by_cases arrival : e.cfg.enabled ∧ e.cfg.source = .arrival
    · have untouched : Untouched w e on (withEntries v s) := by
        refine ⟨fresh.1.consistent, ?_, fresh.1.awake, ?_, ?_, fresh.1.mask⟩
        · show v[w].cfg = e.cfg
          rw [entry, Entry.arrived_cfg]
          exact fresh.1.cfg
        · show v[w].memory = e.memory
          rw [entry, Entry.arrived]
          split_ifs <;> exact fresh.1.memory
        · show v[w].state = e.state
          rw [entry, Entry.arrived]
          split_ifs <;> exact fresh.1.state
      refine untouched.evaluateWhere ?_
      rw [arrival.1, decide_eq_true arrival.2]
      rfl
    · exact ((calm arrival fresh.1.cfg).followed fresh.2).evaluateWhere _
  · have quiet := calm (fun both => other both.2) fresh.1.cfg
    exact Fresh.evaluateWhere ⟨quiet.untouched fresh.1, quiet.followed fresh.2⟩ _
  · exact ((calm (fun both => other both.2) held.cfg).followed held).evaluateWhere _

/-! ## Service items -/

theorem changeItem_handles (i : ItemIx) (f : ServiceItem → ServiceItem) :
    Handles w e on (e.cfg.source = .service i) s (changeItem i f s) := by
  have changed (u : State) (g : ServiceItem → ServiceItem) : Calm w u (u.modItem i g) := .of_only (modItem_only u i g)
  refine .after (changed s f) ?_
  show Handles w e on _ _ (decideItem i _)
  unfold decideItem
  dsimp only
  split_ifs
  · exact .refl _
  · exact .after ((changed _ _).trans (.notify_kind (by simp [Notice.bit]) _)) (wtbItem_handles _ i _)

theorem service_apart (i j : ItemIx) (h : e.cfg.source = .service i) (k : e.cfg.source = .service j) : i = j :=
  WarnSource.service.inj (h.symm.trans k)

theorem countItems_handles (down : ServiceItem → ServiceItem) :
    Handles w e on (∃ i, e.cfg.source = .service i) s (countItems down s) := by
  refine .eachIx (fun i u => ?_) service_apart s
  split_ifs
  · exact changeItem_handles u i down
  · exact .refl u

/-! ## Trips, distance and fuel -/

section
variable {s}

theorem Calm.tau (f : Tau → Tau) : Calm w s (s.modTau f) := .of_only (modTau_only s f)

theorem Calm.trip (t : TripIx) (f : Trip → Trip) : Calm w s (s.modTrip t f) := .of_only (modTrip_only s t f)

theorem Calm.pcu (f : Pcu → Pcu) : Calm w s (s.modPcu f) := .of_only (modPcu_only s f)

theorem Calm.tripNotice (t : TripIx) (what : TripWhat) : Calm w s (tripNotice t what s) :=
  .notify_kind (by simp [Notice.bit]) s

end

theorem tripDistance_calm (t : TripIx) : Calm w s (tripDistance t s) := by
  unfold tripDistance
  dsimp only
  split_ifs
  · exact ((Calm.trip _ _).trans (.mark _ _)).trans (.tripNotice _ _)
  · exact (Calm.trip _ _).trans (.tripNotice _ _)
  · exact (Calm.trip _ _).trans (.mark _ _)
  · exact .trip _ _
  · exact .refl s

theorem tripFuel_calm (t : TripIx) : Calm w s (tripFuel t s) := by
  unfold tripFuel
  dsimp only
  split_ifs
  · exact (Calm.trip _ _).trans (.tripNotice _ _)
  · exact .trip _ _
  · exact .refl s

theorem tauFuel_calm : Calm w s (tauFuel s) := (Calm.eachIx (fun t u => tripFuel_calm u t) s).trans (.tau _)

theorem recomputeRange_handles : Handles w e on (e.cfg.source.readsValue .range = true) s (recomputeRange s) := by
  unfold recomputeRange
  split_ifs
  · exact .refl s
  · exact .after (.tau _) (wtbRange_handles _ _)

theorem bucketDistance_handles : Handles w e on (e.cfg.source.readsValue .range = true) s (bucketDistance s) := by
  rcases Nat.lt_or_ge (grown s).distance s.tau.fuel.bucketLength with room | full
  · rw [bucketDistance_open s room]
    exact .of_calm (.tau _)
  · rw [bucketDistance_closed s full]
    exact (Handles.after (.tau _) (recomputeRange_handles _)).calm (.mark _ _)

theorem emptyRing_handles : Handles w e on (e.cfg.source.readsValue .range = true) s (emptyRing s) :=
  (Handles.after (.tau _) (recomputeRange_handles _)).calm (.mark _ _)

theorem destinationUnit_handles : Handles w e on (e.cfg.source = .arrival) s (destinationUnit s) := by
  have marked (f : Tau → Tau) : Calm w s (mark .destination (s.modTau f)) := (Calm.tau f).trans (.mark _ _)
  unfold destinationUnit
  split
  · split_ifs
    · exact (Handles.after (marked _) (wtbArrival_handles _)).calm (.notify_kind (by simp [Notice.bit]) _)
    · exact .of_calm (marked _)
  · exact .refl s

/-- The sources a completed unit of distance may decide anew. -/
def WarnSource.OfDistance (src : WarnSource) : Prop :=
  (src.readsValue .range = true ∨ src = .arrival) ∨ ∃ i, src = .service i

theorem distanceUnits_handles :
    Handles w e on e.cfg.source.OfDistance s (svsDistance (destinationUnit (bucketDistance s))) := by
  refine ((bucketDistance_handles s).trans_of (destinationUnit_handles _) ?_).trans_of (countItems_handles _ _) ?_
  · rintro ⟨range, arrival⟩
    rw [arrival] at range
    cases range
  · rintro ⟨range | arrival, i, service⟩
    · rw [service] at range
      cases range
    · cases arrival.symm.trans service

theorem tauDistance_handles : Handles w e on e.cfg.source.OfDistance s (tauDistance s) := by
  have unit : Calm w s (odometerUnit s) := .tau _
  have trips (u : State) : Calm w u (eachIx 4 tripDistance u) := .eachIx (fun t v => tripDistance_calm v t) u
  exact .after unit (.after (trips _) (distanceUnits_handles _))

/-! ## Seconds -/

theorem engineSecond_handles : Handles w e on (∃ i, e.cfg.source = .service i) s (engineSecond s) := by
  rcases engineSecond_cases s with off | ⟨on, short⟩ | tenth
  · rw [engineSecond_off s off]
    exact .refl s
  · rw [engineSecond_short s on short]
    exact .of_calm (.tau _)
  · rw [engineSecond_tenth s tenth]
    exact .after (.tau _) (countItems_handles _ _)

theorem tripSecond_calm (t : TripIx) : Calm w s (tripSecond t s) := by
  have reported (f : Trip → Trip) (marks full : Prop) [Decidable marks] [Decidable full] : Calm w s
      (if full then tripNotice t .saturated (if marks then mark .passengerTrip (s.modTrip t f) else s.modTrip t f)
        else if marks then mark .passengerTrip (s.modTrip t f) else s.modTrip t f) := by
    split_ifs
    · exact ((Calm.trip _ _).trans (.mark _ _)).trans (.tripNotice _ _)
    · exact (Calm.trip _ _).trans (.tripNotice _ _)
    · exact (Calm.trip _ _).trans (.mark _ _)
    · exact .trip _ _
  unfold tripSecond
  dsimp only
  by_cases opened : s.tau.trips[t].state = .open
  · rw [if_pos opened]
    exact reported _ _ _
  · rw [if_neg opened]
    exact .refl s

theorem tripSeconds_calm : Calm w s (eachIx 4 tripSecond s) := .eachIx (fun t v => tripSecond_calm v t) s

theorem tauSecond_handles : Handles w e on (∃ i, e.cfg.source = .service i) s (tauSecond s) := by
  by_cases parked : s.tau.power = .parked
  · rw [tauSecond_parked s parked]
    exact engineSecond_handles s
  · unfold tauSecond
    dsimp only
    rw [if_neg parked]
    exact (engineSecond_handles s).calm ((tripSeconds_calm _).trans (.tau _))

end

end Sys2Proof.Machine
end


section
/-! Which warning entries a change of a channel's state may change the decision of, and the edges and the stall of a channel
(R4, R5, R13, R14, R15, R87, R88, R91, R92). -/

namespace Sys2Proof.Machine

-- One theorem at a time, so that a build as one text needs few threads.
set_option Elab.async false

/-- No gate reads a channel's state. -/
abbrev EntryConfig.Ungated (c : EntryConfig) : Prop :=
  ∀ g ∈ [c.gate1, c.gate2], g ≠ .engine ∧ g ≠ .moving ∧ g ≠ .still

/-! ## The copies of a channel's state -/

section
variable {t : Wtb} {c : EntryConfig}

/-- A gate that reads no channel, or finds what it reads as it was. -/
theorem gateTrue_of_road {v : WarnView} {g : Gate} (power : v.power = t.view.power)
    (same : (g ≠ .engine ∧ g ≠ .moving ∧ g ≠ .still) ∨
      (v.engineRunning = t.view.engineRunning ∧ v.roadLive = t.view.roadLive)) :
    ({ t with view := v } : Wtb).gateTrue g = t.gateTrue g := by
  unfold Wtb.gateTrue
  cases g
  case run => exact congrArg (fun p => decide (p ≠ PowerState.parked)) power
  case engine => exact same.elim (fun other => absurd rfl other.1) And.left
  case moving => exact same.elim (fun other => absurd rfl other.2.1) And.right
  case still => exact same.elim (fun other => absurd rfl other.2.2) fun live => congrArg not live.2
  all_goals rfl

/-- A channel that goes LIVE or to FAULT decides anew its own CHANNEL_FAULT entries, and the gates that read it. -/
theorem decides_takeChannel {ch : ChannelIx} {st : ChannelState} {engine road : Bool} (loud : st = .live ∨ st = .fault)
    (fault : c.source = .channelFault ch → (st = .fault ↔ t.view.channels[ch] = .fault))
    (gates : c.Ungated ∨ (engine = t.view.engineRunning ∧ road = t.view.roadLive)) :
    t.Decides { t with view := t.view.takeChannel ch st engine road } c := by
  have still : ¬ (st = .still ∨ st = .off) := by rcases loud with rfl | rfl <;> decide
  have gate (g : Gate) (mem : g ∈ [c.gate1, c.gate2]) :
      ({ t with view := t.view.takeChannel ch st engine road } : Wtb).gateTrue g = t.gateTrue g :=
    gateTrue_of_road rfl (gates.imp (fun free => free g mem) id)
  have values (x : WarnValue) :
      ({ t with view := t.view.takeChannel ch st engine road } : Wtb).valueOf x = t.valueOf x := by
    unfold Wtb.valueOf
    cases x <;> simp only [WarnView.takeChannel, still, false_and, decide_false, if_false, Bool.false_eq_true]
  refine .of_same (fun x cfg => ?_) ⟨gate _ (by simp), gate _ (by simp)⟩
  unfold Wtb.sourceCondition
  rw [cfg]
  cases source : c.source
  case valueAbove v => dsimp only; rw [values v]
  case valueBelow v => dsimp only; rw [values v]
  case channelFault d =>
    refine decide_eq_decide.mpr ?_
    change (t.view.channels.set ch st)[d] = .fault ↔ _
    rw [set_get]
    split_ifs with own
    · subst own
      exact fault source
    · exact Iff.rfl
  all_goals rfl

/-- Without a speed disagreement its entries decide alike, whatever the gates. -/
theorem decides_of_agreement {t' : Wtb} (source : c.source = .speedDisagree) (before : t.view.disagree = false)
    (after : t'.view.disagree = false) : t.Decides t' c := by
  intro x cfg
  have off (u : Wtb) (none : u.view.disagree = false) : u.sourceCondition x = false := by
    unfold Wtb.sourceCondition
    rw [cfg, source]
    exact none
  refine ⟨(off t' after).trans (off t before).symm, ?_⟩
  unfold Wtb.holds
  rw [off t' after, off t before]
  simp only [Bool.and_false, Bool.false_and]

end

section
variable {w : EntryIx} {e : Entry} {on p : Prop} (s : State)

/-! ## What the PCU hands -/

theorem setDisagree_handles (b : Bool) :
    Handles w e on (e.cfg.source = .speedDisagree ∧ s.pcu.disagree ≠ b) s (setDisagree b s) := by
  unfold setDisagree
  split_ifs with same
  · exact .refl s
  · exact .after (.pcu _) ((wtbDisagree_handles _ b).mono fun source => ⟨source, same⟩)

theorem setImplausible_handles (b : Bool) : Handles w e on (e.cfg.source = .fuelImplausible) s (setImplausible b s) := by
  unfold setImplausible
  split_ifs
  · exact .refl s
  · exact .after (.pcu _) (wtbImplausible_handles _ b)

theorem followImplausible_handles : Handles w e on (e.cfg.source = .fuelImplausible) s (followImplausible s) := by
  unfold followImplausible
  split_ifs
  · exact setImplausible_handles s _
  · exact setImplausible_handles s _
  · exact .refl s

theorem clcRoadLive_calm (b : Bool) : Calm w s (clcRoadLive b s) := by
  unfold clcRoadLive
  split_ifs
  · exact .refl s
  · exact (Calm.of_only (modClc_only s _)).trans (.mark _ _)

theorem takeChannel_calm (ch : ChannelIx) (st : ChannelState) (engine road : Bool) {b : Block} (other : b ≠ .wtb) :
    Calm w s (takeChannel ch st engine road b s) := by
  cases b
  case wtb => exact absurd rfl other
  case clc => exact clcRoadLive_calm s road
  all_goals exact .of_only (takeChannel_parts s ch st engine road _)

/-- The copies of a channel's state, handed: the entries that they decide alike are left (R5, R87). -/
theorem handChannel_handles {ch : ChannelIx} {st : ChannelState} {engine road : Bool}
    (quiet : ¬ p → ∀ t : Wtb, t.view = s.wtb.view → t.Decides { t with view := t.view.takeChannel ch st engine road } e.cfg) :
    Handles w e on p s (hand channelTakers (takeChannel ch st engine road) s) := by
  refine .hand_at .wtb s (fun u view => ?_) (fun b u other => takeChannel_calm u ch st engine road other)
  show Handles w e on p u (wtbChannel ch st engine road u)
  obtain ⟨f, test, takes, covers⟩ := wtbChannel_covers u ch st engine road
  have becomes : f u.wtb.view = u.wtb.view.takeChannel ch st engine road := by
    rw [← wtbChannel_view, takes, wtbTake_view]
  rw [takes]
  refine .take covers fun no => .inr ?_
  rw [becomes]
  exact quiet no u.wtb view

/-- CH0 or CH4 leaves LIVE while the speeds disagree (R15). -/
abbrev EndsDisagreement (ch : ChannelIx) (s : State) : Prop :=
  (s.pcu.channels[ch].state = .live ∧ (ch = 0 ∨ ch = 4)) ∧ s.pcu.disagree = true

theorem channelRecorded_handles (ch : ChannelIx) (f : Channel → Channel) :
    Handles w e on (e.cfg.source = .speedDisagree ∧ EndsDisagreement ch s) s (channelRecorded ch f s) := by
  have changed : Calm w s (s.modChannel ch f) := .of_only (modChannel_only s ch f)
  unfold channelRecorded
  split_ifs with leaves
  · refine .after (changed.trans (.pcu _)) ((setDisagree_handles _ false).mono fun ⟨source, disagrees⟩ => ⟨source, leaves, ?_⟩)
    exact Bool.not_eq_false _ ▸ disagrees
  · exact .of_calm changed

/-- A change of a channel's state leaves a fresh entry followed: a disagreement that ends with it decides its entries for
good, and the gates then move none of them. -/
theorem changeChannel_handles (ch : ChannelIx) (f : Channel → Channel) : Handles w e on True s (changeChannel ch f s) := by
  by_cases changed : (f s.pcu.channels[ch]).state = s.pcu.channels[ch].state
  · rw [changeChannel_of_same changed]
    exact .of_only (modChannel_only s ch f)
  · rw [changeChannel_of_changed changed]
    refine ((channelRecorded_handles s ch f).trans_of (handChannel_handles
      (p := ¬ (e.cfg.source = .speedDisagree ∧ (channelRecorded ch f s).wtb.view.disagree = false)) _ fun no t view => ?_)
      ?_).mono fun _ => trivial
    · obtain ⟨source, agrees⟩ := not_not.mp no
      rw [← view] at agrees
      exact decides_of_agreement source agrees agrees
    · rintro ⟨⟨source, leaves, disagrees⟩, other⟩
      refine other ⟨source, ?_⟩
      rw [channelRecorded, if_pos leaves, leaveLive, setDisagree_view]
      refine if_neg ?_
      change ¬ s.pcu.disagree = false
      rw [disagrees]
      nofun

/-! ## Edges -/

variable {s}

/-- An edge hands what decides entries anew only by its gates, and only on CH0, CH1, CH4 or CH5 in STILL. -/
theorem pulseChannel_handles (copies : PulseCopiesOk s) (ch : ChannelIx) (at10us : Nat) :
    Handles w e on (s.pcu.channels[ch].state = .still ∧ ¬ e.cfg.Ungated ∧ ch ≠ 2 ∧ ch ≠ 3) s
      (changeChannel ch (Channel.edge at10us) s) := by
  obtain ⟨-, engineCopy, -, roadCopy, -, -, -, -, states⟩ := copies
  by_cases still : s.pcu.channels[ch].state = .still
  · have live : (s.pcu.channels[ch].edge at10us).state = .live := if_pos still
    have recorded : channelRecorded ch (Channel.edge at10us) s = s.modChannel ch (Channel.edge at10us) :=
      if_neg fun leaves => by rw [still] at leaves; cases leaves.1
    have other (c : ChannelIx) (apart : ch ≠ c) :
        (s.modChannel ch (Channel.edge at10us)).pcu.channels[c] = s.pcu.channels[c] := by
      rw [State.modChannel_channels, updAt_get_other _ _ _ _ apart]
    rw [changeChannel_of_changed (by rw [live, still]; decide), live, recorded]
    refine .after (.of_only (modChannel_only s ch _)) (handChannel_handles _ fun no t view => ?_)
    have same : t.view = s.wtb.view := view
    refine decides_takeChannel (.inl rfl) (fun _ => ?_) ?_
    · rw [same, (states ch).2, still]
      decide
    · by_cases free : e.cfg.Ungated
      · exact .inl free
      · have fuel : ch = 2 ∨ ch = 3 := by tauto
        refine .inr ⟨?_, ?_⟩
        · rw [same, engineCopy]
          exact congrArg (fun c : Channel => decide (c.state = .live)) (other 1 (by rcases fuel with rfl | rfl <;> decide))
        · rw [same, roadCopy]
          refine congrArg (fun c : Channel => decide (c.state = .live)) (other s.pcu.roadSource.channel ?_)
          cases s.pcu.roadSource <;> rcases fuel with rfl | rfl <;> decide
  · rw [changeChannel_of_same (if_neg still)]
    exact .of_only (modChannel_only s ch _)

/-- The sources that a divider's unit may decide anew (Table 6). -/
def dividerSources (src : WarnSource) (ch : ChannelIx) : Prop :=
  (ch ≠ 2 ∧ ch ≠ 3 ∧ src.OfDistance) ∨ ((ch = 2 ∨ ch = 3) ∧ src = .fuelImplausible)

theorem roadEdge_handles : Handles w e on e.cfg.source.OfDistance s (roadEdge s) := by
  unfold roadEdge
  dsimp only
  split_ifs
  · exact .of_calm (.pcu _)
  · exact .after (.pcu _) (tauDistance_handles _)
  · exact .of_calm (.pcu _)

theorem checkEdge_handles : Handles w e on e.cfg.source.OfDistance s (checkEdge s) := by
  unfold checkEdge
  dsimp only
  split_ifs
  · exact .of_calm (.pcu _)
  · exact .after (.pcu _) (tauDistance_handles _)
  · exact .of_calm (.pcu _)

theorem supplyEdge_handles : Handles w e on (e.cfg.source = .fuelImplausible) s (supplyEdge s) := by
  unfold supplyEdge
  dsimp only
  split_ifs
  · exact .after ((Calm.pcu _).trans (tauFuel_calm _)) (followImplausible_handles _)
  · exact .after (.pcu _) (followImplausible_handles _)

theorem dividerEdge_handles (ch : ChannelIx) : Handles w e on (dividerSources e.cfg.source ch) s (dividerEdge ch s) := by
  unfold dividerEdge
  split
  · exact roadEdge_handles.mono fun far => .inl ⟨by decide, by decide, far⟩
  · exact .refl s
  · exact supplyEdge_handles.mono fun source => .inr ⟨by decide, source⟩
  · exact (Handles.after (.pcu _) (followImplausible_handles _)).mono fun source => .inr ⟨by decide, source⟩
  · exact checkEdge_handles.mono fun far => .inl ⟨by decide, by decide, far⟩
  · exact .refl s

theorem pulseEdge_handles (copies : PulseCopiesOk s) (ch : ChannelIx) (at10us : Nat)
    (apart : s.pcu.channels[ch].state ≠ .still ∨ e.cfg.Ungated ∨ ¬ e.cfg.source.OfDistance) :
    Handles w e on True s (pulseEdge ch at10us s) := by
  unfold pulseEdge
  split_ifs
  · exact .refl s
  · refine ((pulseChannel_handles copies ch at10us).trans_of (dividerEdge_handles ch) ?_).mono fun _ => trivial
    rintro ⟨⟨still, gated, supply, back⟩, ⟨-, -, far⟩ | ⟨fuel, -⟩⟩
    · rcases apart with moving | free | near
      · exact moving still
      · exact gated free
      · exact near far
    · exact fuel.elim supply back

end

end Sys2Proof.Machine
end


section
/-! Which warning entries a window expiry may change the decision of (R4, R6, R12, R15, R16, R87, R88, R92): each once, while
no gate reads the road source or every channel keeps its state. -/

namespace Sys2Proof.Machine

-- One theorem at a time, so that a build as one text needs few threads.
set_option Elab.async false

/-! ## One channel -/

/-- A channel that closes goes, where it goes, LIVE or to FAULT (R4). -/
theorem Channel.close_loud (window : WindowLength) (f : Nat) (c : Channel) (changed : (c.close window f).state ≠ c.state) :
    (c.close window f).state = .live ∨ (c.close window f).state = .fault := by
  have tested : (c.faultTest f).state ≠ c.state → (c.faultTest f).state = .live ∨ (c.faultTest f).state = .fault := by
    unfold Channel.faultTest
    dsimp only
    split
    · exact absurd rfl
    · exact absurd rfl
    · split_ifs <;> simp_all
    · split_ifs <;> simp_all
  unfold Channel.close at changed ⊢
  split at changed
  · exact absurd rfl changed
  all_goals exact tested changed

section
variable {w : EntryIx} {e : Entry} {on : Prop} {s u : State} {at10us : Nat}

theorem closeChannel_of_same {ch : ChannelIx}
    (same : (closeChannel at10us ch u).pcu.channels[ch].state = u.pcu.channels[ch].state) : Calm w u (closeChannel at10us ch u) := by
  rw [closeChannel_same] at same
  rw [closeChannel, changeChannel_of_same same]
  exact .of_only (modChannel_only u ch _)

/-- A channel that closes changes the speed disagreement only as it ends it (R15). -/
theorem closeChannel_disagree (at10us : Nat) (ch : ChannelIx) (u : State) :
    (closeChannel at10us ch u).pcu.disagree = u.pcu.disagree ∨
      ((closeChannel at10us ch u).pcu.disagree = false ∧ u.pcu.disagree = true) := by
  obtain ⟨f, closes⟩ := closeChannel_frame at10us ch u
  rw [closes]
  by_cases changed : (Channel.close u.pcu.cal.window f u.pcu.channels[ch]).state = u.pcu.channels[ch].state
  · rw [changeChannel_of_same changed]
    exact .inl rfl
  · rw [changeChannel_pcu changed, channelRecorded_pcu]
    dsimp only
    split_ifs
    · cases u.pcu.disagree
      · exact .inl rfl
      · exact .inr ⟨rfl, rfl⟩
    · exact .inl rfl

/-- A channel that closes decides anew its CHANNEL_FAULT entries, and those of a disagreement that ends. -/
theorem closeChannel_handles (free : e.cfg.Ungated) (ch : ChannelIx) (u : State) :
    Handles w e on (e.cfg.source = .channelFault ch ∨
      (e.cfg.source = .speedDisagree ∧ (closeChannel at10us ch u).pcu.disagree ≠ u.pcu.disagree)) u
      (closeChannel at10us ch u) := by
  obtain ⟨f, closes⟩ := closeChannel_frame at10us ch u
  rw [closes]
  by_cases changed : (Channel.close u.pcu.cal.window f u.pcu.channels[ch]).state = u.pcu.channels[ch].state
  · rw [changeChannel_of_same changed]
    exact .of_only (modChannel_only u ch _)
  · have loud := Channel.close_loud _ _ _ changed
    have disagree : (changeChannel ch (Channel.close u.pcu.cal.window f) u).pcu.disagree =
        if u.pcu.channels[ch].state = .live ∧ (ch = 0 ∨ ch = 4) then false else u.pcu.disagree := by
      rw [changeChannel_pcu changed, channelRecorded_pcu]
    rw [disagree, changeChannel_of_changed changed]
    refine ((channelRecorded_handles u ch _).trans_of (handChannel_handles (p := e.cfg.source = .channelFault ch) _
      fun other t _ => ?_) ?_).mono ?_
    · exact decides_takeChannel loud (fun source => absurd source other) (.inl free)
    · rintro ⟨⟨disagrees, -⟩, fault⟩
      cases disagrees.symm.trans fault
    · rintro (⟨source, leaves, disagrees⟩ | fault)
      · refine .inr ⟨source, ?_⟩
        rw [if_pos leaves, disagrees]
        nofun
      · exact .inl fault

/-! ## All channels -/

/-- An entry while channels close: where a disagreement has ended, it is followed; until then nothing has touched it. -/
structure Closes (w : EntryIx) (e : Entry) (on : Prop) (s u : State) : Prop where
  followed : Followed w e on u
  ends : u.pcu.disagree = true → s.pcu.disagree = true
  untouched : u.pcu.disagree = s.pcu.disagree → Untouched w e on u

theorem Closes.next (h : Closes w e on s u) (source : e.cfg.source = .speedDisagree) (free : e.cfg.Ungated) (ch : ChannelIx) :
    Closes w e on s (closeChannel at10us ch u) := by
  have handles := closeChannel_handles (w := w) (on := on) (at10us := at10us) free ch u
  have fault : e.cfg.source ≠ .channelFault ch := by rw [source]; nofun
  rcases closeChannel_disagree at10us ch u with same | ⟨ended, was⟩
  · have quiet : ¬ (e.cfg.source = .channelFault ch ∨
        (e.cfg.source = .speedDisagree ∧ (closeChannel at10us ch u).pcu.disagree ≠ u.pcu.disagree)) :=
      fun either => either.elim fault fun differs => differs.2 same
    refine ⟨handles.followed quiet h.followed, ?_, ?_⟩
    · rw [same]
      exact h.ends
    · rw [same]
      exact fun before => (handles.fresh quiet ⟨h.untouched before, h.followed⟩).1
  · have began := h.ends was
    have fresh : Fresh w e on u := ⟨h.untouched (was.trans began.symm), h.followed⟩
    refine ⟨handles.once fresh, fun still => ?_, fun same => ?_⟩
    · rw [ended] at still
      cases still
    · rw [ended, began] at same
      cases same

/-- The disagreement test changes the speed disagreement only while CH0 and CH4 are LIVE (R15). -/
theorem disagreeTest_handles (u : State) :
    Handles w e on (e.cfg.source = .speedDisagree ∧ (disagreeTest u).pcu.disagree ≠ u.pcu.disagree) u (disagreeTest u) := by
  have counted (f : Pcu → Pcu) (b : Bool) (same : (f u.pcu).disagree = u.pcu.disagree) :
      Handles w e on (e.cfg.source = .speedDisagree ∧ (setDisagree b (u.modPcu f)).pcu.disagree ≠ u.pcu.disagree) u
        (setDisagree b (u.modPcu f)) := by
    refine .after (.pcu f) ((setDisagree_handles _ b).mono fun ⟨source, differs⟩ => ⟨source, ?_⟩)
    rw [setDisagree_pcu]
    intro is
    exact differs (same.trans is.symm)
  unfold disagreeTest
  dsimp only
  split_ifs
  · exact .of_calm (.pcu _)
  · exact counted _ _ rfl
  · exact .of_calm (.pcu _)
  · exact counted _ _ rfl
  · exact .of_calm (.pcu _)

theorem Pcu.disagreeTested_of_down {p : Pcu} (down : ¬ p.bothLive = true) : p.disagreeTested.disagree = p.disagree := by
  unfold Pcu.disagreeTested
  rw [if_neg down]

/-- The channels and the disagreement test: a disagreement that a channel ends does not begin again in the window. -/
theorem closedWindow_handles (free : e.cfg.Ungated) (s : State) :
    Handles w e on (e.cfg.source = .speedDisagree ∨ ∃ ch, e.cfg.source = .channelFault ch) s
      (disagreeTest (closeWindow at10us s)) := by
  have tested := disagreeTest_handles (w := w) (e := e) (on := on) (closeWindow at10us s)
  by_cases source : e.cfg.source = .speedDisagree
  · refine ⟨fun fresh => ?_, fun no => absurd (.inl source) no, fun no => absurd (.inl source) no⟩
    have closes : Closes w e on s (closeWindow at10us s) := by
      rw [closeWindow_eq]
      exact eachIx_induct ⟨fresh.2, id, fun _ => fresh.1⟩ fun ch u held => held.next source free ch
    by_cases same : (disagreeTest (closeWindow at10us s)).pcu.disagree = (closeWindow at10us s).pcu.disagree
    · exact tested.followed (fun both => both.2 same) closes.followed
    · refine tested.once ⟨closes.untouched ?_, closes.followed⟩
      obtain ⟨done, all, closing⟩ := closeWindow_closing at10us s
      refine (closing.pcu.stayed fun ⟨ch, pair, _, down⟩ => same ?_).1
      rw [disagreeTest_pcu]
      refine Pcu.disagreeTested_of_down fun both => down ?_
      obtain ⟨first, fourth⟩ := Bool.and_eq_true_iff.mp both
      rcases pair with rfl | rfl
      · exact of_decide_eq_true first
      · exact of_decide_eq_true fourth
  · have closed : Handles w e on (∃ ch, e.cfg.source = .channelFault ch) s (closeWindow at10us s) := by
      rw [closeWindow_eq]
      refine .eachIx (fun ch u => ?_) (fun c d h k => WarnSource.channelFault.inj (h.symm.trans k)) s
      exact (closeChannel_handles free ch u).mono fun either => either.resolve_right fun disagrees => source disagrees.1
    exact (closed.trans_of tested fun both => source both.2.1).mono fun either =>
      either.elim .inr fun disagrees => absurd disagrees.1 source

/-- Channels that close hand nothing, or one of them has changed its state. -/
theorem closeWindow_calm_or (at10us : Nat) (s : State) : Calm w s (closeWindow at10us s) ∨
    ∃ ch : ChannelIx, (closeWindow at10us s).pcu.channels[ch].state ≠ s.pcu.channels[ch].state := by
  rw [closeWindow_eq, eachIx]
  have walked := foldl_walks (f := fun u ch => closeChannel at10us ch u)
    (P := fun done u => PcuClosing done s.pcu u.pcu ∧
      (Calm w s u ∨ ∃ ch ∈ done, u.pcu.channels[ch].state ≠ s.pcu.channels[ch].state))
    (List.nodup_finRange 6) ⟨.refl s.pcu, .inl (.refl s)⟩ fun done ch u _ fresh ⟨closing, ways⟩ => by
    obtain ⟨f, closes⟩ := closeChannel_frame at10us ch u
    have next : PcuClosing (ch :: done) s.pcu (closeChannel at10us ch u).pcu := by
      rw [closes]
      exact closing.next fresh (changeChannel_changes ch _ u)
    refine ⟨next, ?_⟩
    by_cases own : (closeChannel at10us ch u).pcu.channels[ch].state = u.pcu.channels[ch].state
    · rcases ways with calm | ⟨c, mem, differs⟩
      · exact .inl (calm.trans (closeChannel_of_same own))
      · refine .inr ⟨c, List.mem_cons_of_mem _ mem, ?_⟩
        have other : ch ≠ c := fun is => fresh (is ▸ mem)
        rw [closes, changeChannel_channels, updAt_get_other _ _ _ _ other]
        exact differs
    · refine .inr ⟨ch, List.mem_cons_self .., ?_⟩
      rw [← closing.waits ch fresh]
      exact own
  generalize List.foldl (fun u ch => closeChannel at10us ch u) s (List.finRange 6) = c at walked ⊢
  obtain ⟨done, -, -, ways⟩ := walked
  exact ways.imp_right fun ⟨ch, _, differs⟩ => ⟨ch, differs⟩

/-! ## The source and the result -/

theorem takeRoadLive_calm (road : Bool) {b : Block} (other : b ≠ .wtb) (u : State) : Calm w u (takeRoadLive road b u) := by
  cases b
  case wtb => exact absurd rfl other
  case clc => exact clcRoadLive_calm u road
  all_goals exact .of_only (takeRoadLive_parts u road _)

theorem takeRoadLive_handles (free : e.cfg.Ungated) (road : Bool) (u : State) :
    Handles w e on False u (takeRoadLive road .wtb u) := by
  have first := free e.cfg.gate1 (by simp)
  have second := free e.cfg.gate2 (by simp)
  have ungated : (e.cfg.gated fun g => g = .moving || g = .still) = false := by
    simp [EntryConfig.gated, first, second]
  exact (Handles.take_tested (wtbRoadLive_covers u road)).mono fun tested => absurd (ungated.symm.trans tested) nofun

theorem moveSource_handles (free : e.cfg.Ungated) (u : State) : Handles w e on False u (moveSource u) := by
  unfold moveSource
  dsimp only
  split_ifs
  · exact .of_calm (.pcu _)
  · exact .after (.pcu _)
      (.hand_at .wtb _ (fun v _ => takeRoadLive_handles free _ v) fun b v other => takeRoadLive_calm _ other v)

/-- Road source LIVE, by the channel that is the road source. -/
theorem roadLive_iff_of {p : Pcu} {r : RoadSource} (source : p.roadSource = r) :
    p.roadLive = true ↔ p.channels[r.channel].state = .live := by
  subst source
  exact decide_eq_true_iff

/-- A source test that leaves road source LIVE hands nothing (R16). -/
theorem moveSource_calm {u : State} (same : u.pcu.sourceTest.roadLive = u.pcu.roadLive) : Calm w u (moveSource u) := by
  have stays : moveSource u = u.modPcu Pcu.sourceTest := if_pos same
  rw [stays]
  exact .pcu _

/-- The sources a window result may decide anew (R88). -/
def WarnSource.OfWindow (src : WarnSource) : Prop :=
  (src.readsValue .roadSpeed || src.readsValue .checkSpeed || src.readsValue .engineSpeed) = true

theorem takeWindow_handles (snap : Snapshot) (u : State) :
    Handles w e on e.cfg.source.OfWindow u (takeWindow snap .wtb u) := .take_tested (wtbWindow_covers u snap)

theorem takeWindow_calm (snap : Snapshot) {b : Block} (other : b ≠ .wtb) (u : State) : Calm w u (takeWindow snap b u) := by
  cases b
  case wtb => exact absurd rfl other
  case clc => exact (Calm.of_only (modClc_only u _)).trans (.mark _ _)
  all_goals exact .of_only (takeWindow_parts u snap _)

theorem windowResult_handles (u : State) : Handles w e on e.cfg.source.OfWindow u (windowResult u) := by
  unfold windowResult
  exact .after (.pcu _) (.hand_at .wtb _ (fun v _ => takeWindow_handles _ v) fun b v other => takeWindow_calm _ other v)

/-- The window's end starts the next one (R6). -/
theorem windowEnd_calm (u : State) : Calm w u ((u.modPcu fun p => { p with gate := some p.cal.window.ms }).modFree
    fun v => { v with draws := v.draws + 1 }) := (Calm.pcu _).trans (.of_only (modFree_only _ _))

theorem windowExpiry_handles {s : State} (apart : e.cfg.Ungated ∨
    ((windowExpiry at10us s).pcu.roadSource = s.pcu.roadSource ∧
      ∀ ch : ChannelIx, (windowExpiry at10us s).pcu.channels[ch].state = s.pcu.channels[ch].state)) :
    Handles w e on True s (windowExpiry at10us s) := by
  by_cases gate : s.pcu.gate = none
  · have stays : windowExpiry at10us s = s := if_neg (by rw [gate]; nofun)
    rw [stays]
    exact .refl s
  · have pcu := windowExpiry_pcu gate at10us
    rw [windowExpiry_of_gate gate]
    refine Handles.calm ?_ (windowEnd_calm _)
    rcases apart with free | ⟨source, states⟩
    · refine (((closedWindow_handles free s).trans_of (moveSource_handles free _) And.right).trans_of
        (windowResult_handles _) ?_).mono fun _ => trivial
      rintro ⟨(disagrees | ⟨ch, fault⟩) | no, value⟩
      · rw [WarnSource.OfWindow, disagrees] at value
        cases value
      · rw [WarnSource.OfWindow, fault] at value
        cases value
      · exact no
    · obtain ⟨done, all, closing⟩ := closeWindow_closing at10us s
      have kept := closing.pcu.frame
      rw [pcu] at source states
      have tested := disagreeTest_pcu (closeWindow at10us s)
      have ways := closeWindow_calm_or (w := w) at10us s
      generalize closeWindow at10us s = c at source states kept tested ways ⊢
      have before : c.pcu.roadSource = s.pcu.roadSource := (congrArg Pcu.roadSource kept :)
      have channels : c.pcu.windowed.channels = c.pcu.channels :=
        (congrArg Pcu.channels c.pcu.disagreeTested.sourceTest_frame :).trans
          (congrArg Pcu.channels c.pcu.disagreeTested_frame :)
      have still : c.pcu.disagreeTested.sourceTest.roadLive = c.pcu.disagreeTested.roadLive := by
        have same : c.pcu.disagreeTested.sourceTest.roadSource = c.pcu.disagreeTested.roadSource :=
          (source.trans before.symm).trans (congrArg Pcu.roadSource c.pcu.disagreeTested_frame :).symm
        have states : c.pcu.disagreeTested.sourceTest.channels = c.pcu.disagreeTested.channels :=
          (congrArg Pcu.channels c.pcu.disagreeTested.sourceTest_frame :)
        exact Bool.eq_iff_iff.mpr ((roadLive_iff_of same).trans (by rw [states]; exact (roadLive_iff_of rfl).symm))
      have calm : Calm w s c := ways.resolve_right fun ⟨ch, differs⟩ => differs (by rw [← states ch, channels])
      refine ((Handles.after calm (disagreeTest_handles c)).calm (moveSource_calm ?_)).trans_of
        (windowResult_handles _) ?_ |>.mono fun _ => trivial
      · rw [tested]
        exact still
      · rintro ⟨⟨disagrees, -⟩, value⟩
        rw [WarnSource.OfWindow, disagrees] at value
        cases value

end

end Sys2Proof.Machine
end


section
/-! Which warning entries the alarms and a second boundary may change the decision of (R67 to R72, R78, R79, R92, R132, R134,
R135): a service item that the engine hour and midnight both count falls due once. -/

namespace Sys2Proof.Machine

-- One theorem at a time, so that a build as one text needs few threads.
set_option Elab.async false

/-! ## The clock and the alarms -/

section
variable {w : EntryIx} {e : Entry} {on : Prop} (s : State)

/-- The markers of the Link Port are no notices (R192). -/
theorem modLkp_calm {f : Lkp → Lkp} (mask : (f s.lkp).mask = s.lkp.mask) (notices : (f s.lkp).notices = s.lkp.notices)
    (lost : (f s.lkp).noticesLost = s.lkp.noticesLost) : Calm w s (s.modLkp f) :=
  .of_wtb rfl (fun _ => .of_lkp notices lost mask) rfl

theorem lkpClock_calm (c : ClockState) : Calm w s (lkpClock c s) := modLkp_calm s rfl rfl rfl

theorem lkpOdometer_calm (o : OdometerState) : Calm w s (lkpOdometer o s) := modLkp_calm s rfl rfl rfl

theorem setClockTo_handles (t : ClockTime) : Handles w e on (e.cfg.source = .clockUnset) s (setClockTo t s) := by
  have written (f : Clk → Clk) : Calm w s (s.modClk f) := .of_only (modClk_only s f)
  unfold setClockTo
  dsimp only
  refine Handles.calm ?_ (.mark _ _)
  split_ifs
  · exact .after ((written _).trans (lkpClock_calm _ _)) (wtbClock_handles _ _)
  · exact .of_calm (written _)

theorem markAlarm_calm (a : AlarmIx) : Calm w s (markAlarm a s) := by
  unfold markAlarm
  split_ifs
  · exact .mark _ s
  · exact .refl s

theorem changeAlarm_calm (a : AlarmIx) (f : Alarm → Alarm) : Calm w s (changeAlarm a f s) :=
  ((Calm.of_only (modAlarm_only s a f)).trans (.removeChime (by exact nofun) _)).trans (markAlarm_calm _ a)

theorem alarmMatch_calm (a : AlarmIx) : Calm w s (alarmMatch a s) := by
  have taken : Calm w s (((takeChime (alarmRequest s.chs a s.clk.alarms[a]) s).1).notify (.alarm a)) :=
    (Calm.takeChime (by exact nofun) (by exact nofun) s).trans (.notify_kind (by simp [Notice.bit]) _)
  unfold alarmMatch
  dsimp only
  split_ifs
  · exact (taken.trans (.of_only (modAlarm_only _ a _))).trans (markAlarm_calm _ a)
  · exact taken

theorem testAlarms_calm (t : ClockTime) : Calm w s (testAlarms t s) := by
  refine .eachIx (fun a u => ?_) s
  split_ifs
  · exact alarmMatch_calm u a
  · exact .refl u

/-! ## The blocks at a second boundary -/

variable {t : ClockTime} {st : ClockState} {rollover : Bool}

/-- A block that counts no item at a second boundary. -/
theorem takeSecond_calm {b : Block} (warn : b ≠ .wtb) (tau : b ≠ .tau) (svs : b ≠ .svs) :
    Calm w s (takeSecond t st rollover b s) := by
  cases b <;> unfold takeSecond <;> dsimp only
  case clk =>
    split_ifs
    · exact testAlarms_calm s t
    · exact .refl s
  case clc =>
    split_ifs
    · exact .mark _ s
    · exact .refl s
  case lkp =>
    split_ifs
    · exact lkpClock_calm s st
    · exact .refl s
  case wtb => exact absurd rfl warn
  case tau => exact absurd rfl tau
  case svs => exact absurd rfl svs
  all_goals exact .refl s

theorem takeSecond_wtb_handles :
    Handles w e on (e.cfg.source = .clockUnset) s (takeSecond t st rollover .wtb s) := by
  unfold takeSecond
  dsimp only
  split_ifs
  · exact wtbClock_handles s st
  · exact .refl s

theorem takeSecond_svs_handles :
    Handles w e on (∃ i, e.cfg.source = .service i) s (takeSecond t st rollover .svs s) := by
  unfold takeSecond
  dsimp only
  split_ifs
  · exact countItems_handles s _
  · exact .refl s

/-- A second boundary and an entry of another source than a service item. -/
theorem secondBoundary_handles_other (other : ¬ ∃ i, e.cfg.source = .service i) :
    Handles w e on True s (secondBoundary s) := by
  have takes (b : Block) (u : State) {t : ClockTime} {st : ClockState} {rollover : Bool} :
      Handles w e on (b = .wtb) u (takeSecond t st rollover b u) := by
    by_cases warn : b = .wtb
    · subst warn
      exact (takeSecond_wtb_handles u).mono fun _ => rfl
    by_cases tau : b = .tau
    · subst tau
      exact (tauSecond_handles u).mono fun service => absurd service other
    by_cases svs : b = .svs
    · subst svs
      exact (takeSecond_svs_handles u).mono fun service => absurd service other
    · exact .of_calm (takeSecond_calm u warn tau svs)
  rw [secondBoundary_eq]
  exact .after (.of_only (modClk_only s _))
    ((Handles.hand (fun b u => takes b u) (fun b c h k => h.trans k.symm) _).mono fun _ => trivial)

end

/-! ## Items that fall due -/

/-- DUE or OVERDUE. -/
def ItemState.IsDue (st : ItemState) : Prop := st = .due ∨ st = .overdue

theorem ServiceItem.decided_isDue (it : ServiceItem) :
    it.decided.IsDue ↔ it.enabled = true ∧ it.Has fun _ r => r ≤ 0 := by
  have overdue : (it.counts.any fun c => c.2 ≤ -(overdueMargin c.1 : Int)) = true →
      (it.counts.any fun c => c.2 ≤ 0) = true := by
    simp only [List.any_eq_true, decide_eq_true_eq]
    exact fun ⟨c, mem, low⟩ => ⟨c, mem, by omega⟩
  rw [ServiceItem.decided_eq, ← due_iff, ItemState.IsDue]
  split_ifs with off late due near
  · simp [off]
  · simp [off, overdue late]
  · simp [off, due]
  · simp [due]
  · simp [due]

/-- What counts an item down leaves it enabled, in its state, and due where it is due. -/
structure CountsDown (down : ServiceItem → ServiceItem) : Prop where
  state : ∀ it, (down it).state = it.state
  counts : ∀ it, ItemCountsOk it → ItemCountsOk (down it)
  due : ∀ it, it.decided.IsDue → (down it).decided.IsDue

theorem countDown_low {i : Nat} {r : Int} (low : r ≤ 0) : countDown i r ≤ 0 := by
  unfold countDown countFloor
  omega

theorem downHours_countsDown : CountsDown ServiceItem.downHours := by
  refine ⟨downHours_state, fun _ => ItemCountsOk.downHours, fun it due => ?_⟩
  rw [ServiceItem.decided_isDue] at due ⊢
  obtain ⟨enabled, low⟩ := due
  unfold ServiceItem.downHours
  split
  · rename_i i r interval remaining
    refine ⟨enabled, low.imp_right (Or.imp_left ?_)⟩
    rintro ⟨I, r', same, is, low⟩
    cases remaining.symm.trans is
    exact ⟨I, _, same, rfl, countDown_low low⟩
  · exact ⟨enabled, low⟩

theorem downDays_countsDown : CountsDown ServiceItem.downDays := by
  refine ⟨downDays_state, fun _ => ItemCountsOk.downDays, fun it due => ?_⟩
  rw [ServiceItem.decided_isDue] at due ⊢
  obtain ⟨enabled, low⟩ := due
  unfold ServiceItem.downDays
  split
  · rename_i i r interval remaining
    refine ⟨enabled, low.imp_right (Or.imp_right ?_)⟩
    rintro ⟨I, r', same, is, low⟩
    cases remaining.symm.trans is
    exact ⟨I, _, same, rfl, countDown_low low⟩
  · exact ⟨enabled, low⟩

/-- An item's state in the SVS is DUE or OVERDUE. -/
abbrev Due (i : ItemIx) (s : State) : Prop := s.svs.items[i].state.IsDue

section
variable {w : EntryIx} {e : Entry} {on : Prop} {i : ItemIx} {s u v : State}

/-- An item that stays due, or not due, decides its entries alike. -/
theorem decides_item {t : Wtb} {st : ItemState} {c : EntryConfig} (source : c.source = .service i)
    (same : st.IsDue ↔ t.view.items[i].IsDue) : t.Decides { t with view := { t.view with items := t.view.items.set i st } } c := by
  refine .of_same (fun x cfg => ?_) ⟨?_, ?_⟩
  · unfold Wtb.sourceCondition
    rw [cfg, source]
    refine decide_eq_decide.mpr ?_
    change (t.view.items.set i st)[i].IsDue ↔ _
    rw [set_get, if_pos rfl]
    exact same
  · cases c.gate1 <;> rfl
  · cases c.gate2 <;> rfl

/-- A change of an item decides its entries anew where it falls due or is due no more. -/
theorem changeItem_handles_due {f : ServiceItem → ServiceItem} (copy : u.wtb.view.items[i] = u.svs.items[i].state) (source : e.cfg.source = .service i) :
    Handles w e on (¬ (Due i (changeItem i f u) ↔ Due i u)) u (changeItem i f u) := by
  have after := changeItem_state i f u
  have changed (x : State) (g : ServiceItem → ServiceItem) : Calm w x (x.modItem i g) := .of_only (modItem_only x i g)
  unfold Due
  rw [after]
  by_cases same : (f u.svs.items[i]).decided = (f u.svs.items[i]).state
  · rw [changeItem_of_same i u same]
    exact .of_calm (changed u f)
  · have hands : changeItem i f u = wtbItem i (f u.svs.items[i]).decided
        (((u.modItem i f).modItem i fun it => { it with state := it.decided }).notify
          (.service i (f u.svs.items[i]).decided)) := by
      unfold changeItem decideItem
      dsimp only
      rw [modItem_item, if_neg same]
    rw [hands]
    refine .after (((changed _ _).trans (changed _ _)).trans (.notify_kind (by simp [Notice.bit]) _))
      (.take (wtbItem_covers _ i _) fun alike => .inr (decides_item source ?_))
    refine (not_not.mp alike).trans ?_
    change u.svs.items[i].state.IsDue ↔ u.wtb.view.items[i].IsDue
    rw [copy]

/-- An entry of a service item while the items are counted: until the item falls due nothing touches it. -/
structure Counting (w : EntryIx) (e : Entry) (on : Prop) (i : ItemIx) (s u : State) : Prop where
  followed : Followed w e on u
  items : ItemsOk u
  copies : Agrees .items u
  rises : Due i s → Due i u
  untouched : (Due i u → Due i s) → Untouched w e on u

theorem Counting.left (h : Counting w e on i s u) (handles : Handles w e on False u v) (svs : v.svs = u.svs)
    (view : v.wtb.view.items = u.wtb.view.items) : Counting w e on i s v := by
  have due : Due i v = Due i u := by
    unfold Due
    rw [svs]
  refine ⟨handles.followed id h.followed, ?_, ?_, by rw [due]; exact h.rises, fun back => ?_⟩
  · rw [ItemsOk, svs]
    exact h.items
  · rw [agrees_items_iff, svs, view]
    exact agrees_items_iff.mp h.copies
  · rw [due] at back
    exact (handles.fresh id ⟨h.untouched back, h.followed⟩).1

theorem Counting.calm (h : Counting w e on i s u) (calm : Calm w u v) (svs : v.svs = u.svs) : Counting w e on i s v :=
  h.left (.of_calm calm) svs (by rw [calm.view_eq])

theorem Counting.tau (h : Counting w e on i s u) (f : Tau → Tau) : Counting w e on i s (u.modTau f) :=
  h.calm (.tau f) rfl

theorem Counting.counted (h : Counting w e on i s u) (source : e.cfg.source = .service i) {down : ServiceItem → ServiceItem}
    (counts : CountsDown down) (j : ItemIx) : Counting w e on i s (changeItem j down u) := by
  have items : ItemsOk (changeItem j down u) := changeItem_itemsOk u (counts.counts _) h.items
  have copies : Agrees .items (changeItem j down u) := changeItem_inStep u j counts.state _ h.copies
  by_cases own : j = i
  · subst own
    have handles := changeItem_handles_due (w := w) (on := on) (f := down)
      (agrees_items_iff.mp h.copies j) source
    have rises : Due j u → Due j (changeItem j down u) := by
      unfold Due
      rw [changeItem_state, (h.items j).1]
      exact counts.due _
    refine ⟨?_, items, copies, rises ∘ h.rises, fun back => ?_⟩
    · by_cases alike : Due j (changeItem j down u) ↔ Due j u
      · exact handles.followed (not_not_intro alike) h.followed
      · exact handles.once ⟨h.untouched fun due => absurd ⟨fun _ => due, rises⟩ alike, h.followed⟩
    · have alike : Due j (changeItem j down u) ↔ Due j u := ⟨h.rises ∘ back, rises⟩
      exact (handles.fresh (not_not_intro alike) ⟨h.untouched (back ∘ rises), h.followed⟩).1
  · have quiet : ¬ e.cfg.source = .service j := fun same => own (service_apart (e := e) j i same source)
    have handles := changeItem_handles (w := w) (e := e) (on := on) u j down
    have same : Due i (changeItem j down u) = Due i u := by
      unfold Due
      rw [changeItem_items, updAt_get_other _ _ _ _ own]
    refine ⟨handles.followed quiet h.followed, items, copies, by rw [same]; exact h.rises, fun back => ?_⟩
    rw [same] at back
    exact (handles.fresh quiet ⟨h.untouched back, h.followed⟩).1

theorem Counting.countItems (h : Counting w e on i s u) (source : e.cfg.source = .service i)
    {down : ServiceItem → ServiceItem} (counts : CountsDown down) : Counting w e on i s (countItems down u) := by
  refine eachIx_induct h fun j v held => ?_
  split_ifs
  · exact held.counted source counts j
  · exact held

theorem Counting.engineSecond (h : Counting w e on i s u) (source : e.cfg.source = .service i) :
    Counting w e on i s (engineSecond u) := by
  rcases engineSecond_cases u with off | ⟨on, short⟩ | tenth
  · rw [engineSecond_off u off]
    exact h
  · rw [engineSecond_short u on short]
    exact h.tau _
  · rw [engineSecond_tenth u tenth]
    exact (h.tau _).countItems source downHours_countsDown

theorem Counting.tauSecond (h : Counting w e on i s u) (source : e.cfg.source = .service i) :
    Counting w e on i s (tauSecond u) := by
  by_cases parked : u.tau.power = .parked
  · rw [tauSecond_parked u parked]
    exact h.engineSecond source
  · have trips (x : State) : (eachIx 4 tripSecond x).svs = x.svs :=
      eachIx_keeps (get := State.svs) (fun t x => (tripSecond_only x t).svs_eq (by decide)) x
    unfold Machine.tauSecond
    dsimp only
    rw [if_neg parked]
    exact ((h.engineSecond source).calm (tripSeconds_calm _) (trips _)).tau _

theorem Counting.takeSecond (h : Counting w e on i s u) (source : e.cfg.source = .service i) {t : ClockTime}
    {st : ClockState} {rollover : Bool} (b : Block) : Counting w e on i s (takeSecond t st rollover b u) := by
  by_cases tau : b = .tau
  · subst tau
    exact h.tauSecond source
  by_cases svs : b = .svs
  · subst svs
    unfold Machine.takeSecond
    dsimp only
    split_ifs
    · exact h.countItems source downDays_countsDown
    · exact h
  have same : (Machine.takeSecond t st rollover b u).svs = u.svs := by
    refine (takeSecond_parts u t st rollover b).svs_eq ?_
    cases b
    case tau => exact absurd rfl tau
    case svs => exact absurd rfl svs
    all_goals decide
  by_cases warn : b = .wtb
  · subst warn
    refine h.left ((takeSecond_wtb_handles u).mono fun unset => ?_) same ?_
    · cases unset.symm.trans source
    · unfold Machine.takeSecond
      dsimp only
      split_ifs
      · rw [wtbClock, wtbTake_view]
      · rfl
  · exact h.calm (takeSecond_calm u warn tau svs) same

theorem secondBoundary_handles (items : ServiceItemsOk s.svs) (copies : StateCopiesOk s) :
    Handles w e on True s (secondBoundary s) := by
  by_cases other : ∃ i, e.cfg.source = .service i
  · obtain ⟨i, source⟩ := other
    refine ⟨fun fresh => ?_, fun no => absurd trivial no, fun no => absurd trivial no⟩
    have agrees : Agrees .items s := agrees_items_iff.mpr copies.2.2.2.2.2.2.1
    have start : Counting w e on i s s := ⟨fresh.2, items, agrees, id, fun _ => fresh.1⟩
    have begun : Counting w e on i s (secondBegun s) := start.calm (.of_only (modClk_only s _)) rfl
    rw [secondBoundary_eq]
    generalize secondBegun s = v at begun ⊢
    refine (List.foldlRecOn (motive := fun u => Counting w e on i s u) _ _ ?_ fun u held b _ => ?_).followed
    · exact begun.calm (.of_only (modFree_only v _)) rfl
    · exact held.takeSecond source b
  · exact secondBoundary_handles_other s other

end

end Sys2Proof.Machine
end


section
/-! Which warning entries the reports and the timers of the slots, and the requests of the measuring blocks and of the
switches, may change the decision of (R20, R21, R24, R25, R43, R44, R56, R57, R61, R84, R85, R92, R137, R138). -/

namespace Sys2Proof.Machine

-- One theorem at a time, so that a build as one text needs few threads.
set_option Elab.async false

section
variable {w : EntryIx} {e : Entry} {on : Prop} (s : State)

/-! ## Slots -/

theorem resetTrip_calm (t : TripIx) (by_ : ResetBy) : Calm w s (resetTrip t by_ s) := by
  refine .of_only (resetTrip_only s t by_)

theorem testRefuel_calm (amount : Nat) : Calm w s (testRefuel amount s) := by
  have refuelled (before : Nat) : Calm w s (refuel before amount s) :=
    (((resetTrip_calm s 2 .auto).trans (.tripNotice _ _)).trans (.notify_kind (by simp [Notice.bit]) _)).trans
      (.of_only (gduRefuel_only _))
  unfold testRefuel
  split
  · split_ifs
    · exact .refl s
    · exact (refuelled _).trans (.tau _)
    · exact .tau _
  · exact .refl s

theorem testRefuel_fuel (amount : Nat) : (testRefuel amount s).tau.fuel = s.tau.fuel := by
  unfold testRefuel
  split
  · split_ifs
    · rfl
    · rw [State.modTau_tau, refuel_tau]
    · rfl
  · rfl

theorem clcSlot_calm (n : SlotIx) : Calm w s (clcSlot n s) := by
  unfold clcSlot
  split_ifs
  · exact .mark _ s
  · exact .refl s

/-- The sources that a slot of the fuel options `k` may decide anew, at each block that takes it. -/
def slotSources (src : WarnSource) (k : Option SlotIx) (n : SlotIx) : Block → Prop
  | .tau => src.readsValue .range = true ∧ k = some n
  | .wtb => src.readsSlot n = true
  | _ => False

theorem slotSources_apart {src : WarnSource} {k : Option SlotIx} {n m : SlotIx} {b c : Block} (h : slotSources src k n b)
    (h' : slotSources src k m c) : n = m ∧ b = c := by
  have same (own : src.readsSlot n = true) (other : src.readsSlot m = true) : n = m := by
    cases src
    case slotStale i => exact WarnSource.slotStale.inj ((of_decide_eq_true own).symm.trans (of_decide_eq_true other))
    case valueAbove v | valueBelow v =>
      simp only [WarnSource.readsSlot, WarnSource.readsValue, Bool.or_eq_true, decide_eq_true_eq, reduceCtorEq,
        or_false] at own other
      exact WarnValue.slot.inj (own.symm.trans other)
    all_goals cases own
  have apart {i : SlotIx} (range : src.readsValue .range = true) (slot : src.readsSlot i = true) : False := by
    cases src
    case valueAbove v | valueBelow v =>
      cases of_decide_eq_true range
      simp [WarnSource.readsSlot, WarnSource.readsValue] at slot
    all_goals cases range
  cases b
  case tau =>
    cases c
    case tau => exact ⟨Option.some.inj (h.2.symm.trans h'.2), rfl⟩
    case wtb => exact (apart h.1 h').elim
    all_goals exact h'.elim
  case wtb =>
    cases c
    case wtb => exact ⟨same h h', rfl⟩
    case tau => exact (apart h'.1 h).elim
    all_goals exact h'.elim
  all_goals exact h.elim

theorem takeReport_handles {k : Option SlotIx} (fuel : s.tau.fuel.slot = k) (n : SlotIx) (b : Block) :
    Handles w e on (slotSources e.cfg.source k n b) s (takeReport n b s) := by
  cases b
  case tau =>
    show Handles w e on (_ ∧ _) s (tauReport n s)
    unfold tauReport
    split_ifs with own
    · exact .after (testRefuel_calm s _) ((recomputeRange_handles _).mono fun range => ⟨range, fuel.symm.trans own⟩)
    · exact .refl s
  case wtb => exact wtbSlot_handles s n _ _
  case gdu => exact .of_only (gduReport_only s n)
  case clc => exact .of_calm (clcSlot_calm s n)
  all_goals exact .refl s

theorem takeSlotState_handles {k : Option SlotIx} (fuel : s.tau.fuel.slot = k) (n : SlotIx) (b : Block) :
    Handles w e on (slotSources e.cfg.source k n b) s (takeSlotState n b s) := by
  cases b
  case tau =>
    show Handles w e on (_ ∧ _) s (tauSlotState n s)
    unfold tauSlotState
    split_ifs with own
    · exact (recomputeRange_handles s).mono fun range => ⟨range, fuel.symm.trans own⟩
    · exact .refl s
  case wtb => exact wtbSlot_handles s n _ _
  case gdu => exact .of_only (gduSlotState_only s n)
  case clc => exact .of_calm (clcSlot_calm s n)
  all_goals exact .refl s

theorem takeReport_fuel (n : SlotIx) (b : Block) : (takeReport n b s).tau.fuel = s.tau.fuel := by
  by_cases tau : b = .tau
  · subst tau
    show (tauReport n s).tau.fuel = _
    unfold tauReport
    split_ifs
    · rw [recomputeRange_tau]
      exact testRefuel_fuel s _
    · rfl
  · have still : (takeReport n b s).tau = s.tau := by
      refine (takeReport_parts s n b).tau_eq ?_
      cases b
      case tau => exact absurd rfl tau
      all_goals decide
    rw [still]

theorem takeSlotState_fuel (n : SlotIx) (b : Block) : (takeSlotState n b s).tau.fuel = s.tau.fuel := by
  by_cases tau : b = .tau
  · subst tau
    show (tauSlotState n s).tau.fuel = _
    unfold tauSlotState
    split_ifs
    · rw [recomputeRange_tau]
    · rfl
  · have still : (takeSlotState n b s).tau = s.tau := by
      refine (takeSlotState_parts s n b).tau_eq ?_
      cases b
      case tau => exact absurd rfl tau
      all_goals decide
    rw [still]

theorem reportSlot_handles {k : Option SlotIx} (fuel : s.tau.fuel.slot = k) (n : SlotIx) (value : Int) :
    Handles w e on (∃ b, slotSources e.cfg.source k n b) s (reportSlot n value s) :=
  .after (.of_only (modSlot_only s n _)) (.hand_while (J := fun u => u.tau.fuel.slot = k) (fun _ _ => id)
    (fun b u held => by rw [takeReport_fuel]; exact held) (fun b u held => takeReport_handles u held n b)
    (fun b c own other => (slotSources_apart own other).2) _ fuel)

theorem slotExpired_handles (n : SlotIx) (f : Slot → Slot) : Handles w e on True s (slotExpired n f s) := by
  have handed : Handles w e on (∃ b, slotSources e.cfg.source s.tau.fuel.slot n b) (s.modSlot n f) (slotExpired n f s) :=
    Handles.hand_while (J := fun u => u.tau.fuel.slot = s.tau.fuel.slot) (fun _ _ => id)
      (fun b u held => by rw [takeSlotState_fuel]; exact held) (fun b u held => takeSlotState_handles u held n b)
      (fun b c own other => (slotSources_apart own other).2) (s.modSlot n f) rfl
  exact .after (.of_only (modSlot_only s n f)) (handed.mono fun _ => trivial)

theorem reportSlot_fuel (n : SlotIx) (value : Int) : (reportSlot n value s).tau.fuel = s.tau.fuel :=
  List.foldlRecOn (motive := fun u : State => u.tau.fuel = s.tau.fuel) _ _ rfl fun u held b _ =>
    (takeReport_fuel u n b).trans held

/-- Reports to distinct slots decide an entry's condition anew once (R25, R92). -/
theorem reportAll_handles (pairs : List (SlotIx × Int)) (distinct : (pairs.map Prod.fst).Nodup) :
    Handles w e on True s (pairs.foldl (fun u p => reportSlot p.1 p.2 u) s) := by
  refine (Handles.foldl_while (J := fun u => u.tau.fuel.slot = s.tau.fuel.slot)
    (p := fun p => ∃ b, slotSources e.cfg.source s.tau.fuel.slot p.1 b) (fun u p held => ?_)
    (fun u p held => reportSlot_handles u held p.1 p.2) pairs ?_ s rfl).mono fun _ => trivial
  · rw [reportSlot_fuel]
    exact held
  · refine (List.pairwise_map.mp distinct).imp fun differ both => differ ?_
    obtain ⟨⟨b, first⟩, c, second⟩ := both
    exact (slotSources_apart first second).1

/-! ## Requests of the measuring blocks -/

theorem setChannel_handles (p : ChannelIx × ChannelConfig) : Handles w e on True s (setChannel p s).1 := by
  have loaded : Calm w s (s.modInputs (Inputs.loadPulse p.1)) := .of_only (modInputs_only s _)
  have changed := Handles.after loaded (changeChannel_handles (e := e) (on := on) _ p.1 fun _ => Channel.restarted p.2)
  unfold setChannel emptyAnswer
  dsimp only
  split_ifs
  · exact .of_calm (loaded.trans (.of_only (modChannel_only _ _ _)))
  · dsimp only
    exact changed.calm (.pcu _)
  · exact changed

theorem setCalibration_handles (cal : Calibration) : Handles w e on True s (setCalibration cal s).1 := by
  have written : Calm w s (s.modPcu fun p => { p with cal, roadResidue := 0, checkResidue := 0, fuelResidue := 0 }) := .pcu _
  have emptied (u : State) : Handles w e on True u (emptyRing (setImplausible false u)) := by
    refine ((setImplausible_handles u false).trans_of (emptyRing_handles _) ?_).mono fun _ => trivial
    rintro ⟨implausible, range⟩
    rw [implausible] at range
    cases range
  unfold setCalibration emptyAnswer
  dsimp only
  split_ifs
  · exact .after written (emptied _)
  · exact (Handles.after written (emptied _)).calm (.pcu _)

/-- The range recomputed while the ring is empty and the range absent stays so (R57). -/
theorem recomputeRange_of_empty {u : State} (ring : u.tau.ring = []) (range : u.tau.range = none) : recomputeRange u = u := by
  refine if_pos ?_
  rw [computedRange_of_empty ring, range]

theorem setFuelOptions_handles (o : FuelOptions) : Handles w e on True s (setFuelOptions o s).1 := by
  have emptied := Handles.after (Calm.tau fun u => { u with fuel := o }) (emptyRing_handles (w := w) (e := e) (on := on)
    (s.modTau fun u => { u with fuel := o }))
  have tau := emptyRing_tau (s.modTau fun u => { u with fuel := o })
  rw [setFuelOptions_eq, emptyAnswer]
  generalize emptyRing (s.modTau fun u => { u with fuel := o }) = x at emptied tau ⊢
  have fresh := levelAfresh_tau x
  have still : recomputeRange (levelAfresh x) = levelAfresh x :=
    recomputeRange_of_empty (by rw [fresh, tau]) (by rw [fresh, tau])
  rw [still]
  exact (emptied.calm (.of_only (levelAfresh_only x))).mono fun _ => trivial

theorem restoreOdometer_handles (r : Request) : Handles w e on True s (ownRestoreOdometer r s).1 := by
  have restored (v : Nat) : Handles w e on True s (restoreOdometer v s) :=
    (Handles.after (((Calm.tau _).trans (.of_only (modSvs_only _ _))).trans (lkpOdometer_calm _ _))
      (wtbOdometer_handles _ _)).mono fun _ => trivial
  unfold ownRestoreOdometer
  dsimp only
  split
  · exact .refl s
  · split_ifs
    · exact .refl s
    · dsimp only
      exact restored _

theorem serviceDone_handles (i : ItemIx) : Handles w e on True s (serviceDone i s).1 := by
  unfold serviceDone emptyAnswer
  split_ifs
  · exact .refl s
  · exact .refl s
  · exact .refl s
  · exact (changeItem_handles s i _).mono fun _ => trivial

end

end Sys2Proof.Machine
end


section
/-! Which warning entries the switches and the Coach Line may change the decision of (R84, R85, R89, R92, R147, R149, R157,
R158, R159, R160). -/

namespace Sys2Proof.Machine

-- One theorem at a time, so that a build as one text needs few threads.
set_option Elab.async false

/-! ## Switches -/

/-- Switches that agree where a configuration names them decide its entries alike. -/
theorem decides_switches {t : Wtb} {v : Vector Switch 8} {c : EntryConfig}
    (source : ∀ m : SwitchIx, c.source = .switch m → v[m].active = t.switches[m].active)
    (gates : ∀ (m : SwitchIx) (g : Gate), g = c.gate1 ∨ g = c.gate2 → g = .switchOn m ∨ g = .switchOff m →
      v[m].active = t.switches[m].active) : t.Decides { t with switches := v } c := by
  have gate (g : Gate) (own : g = c.gate1 ∨ g = c.gate2) :
      ({ t with switches := v } : Wtb).gateTrue g = t.gateTrue g := by
    cases g
    case switchOn m => exact gates m _ own (.inl rfl)
    case switchOff m => exact congrArg (fun b => !b) (gates m _ own (.inr rfl))
    all_goals rfl
  refine .of_same (fun x cfg => ?_) ⟨gate _ (.inl rfl), gate _ (.inr rfl)⟩
  unfold Wtb.sourceCondition
  rw [cfg]
  cases named : c.source
  case switch m => exact source m named
  all_goals rfl

section
variable {w : EntryIx} {e : Entry} {on : Prop}

/-- A WTB that decides an entry alike, of the same entries and power state. -/
theorem Handles.alike {p : Prop} {s : State} {t : Wtb} (entries : t.entries = s.wtb.entries)
    (power : t.view.power = s.wtb.view.power) (decides : s.wtb.Decides t e.cfg) :
    Handles w e on p s (s.modWtb fun _ => t) where
  once := fun fresh => fresh.2.changed entries power decides
  fresh := fun _ fresh => ⟨fresh.1.changed entries power, fresh.2.changed entries power decides⟩
  followed := fun _ held => held.changed entries power decides

variable (s : State)

theorem changeSwitch_handles (n : SwitchIx) (f : Switch → Switch) : Handles w e on True s (changeSwitch n f s) := by
  have other (m : SwitchIx) (apart : n ≠ m) : (updAt s.wtb.switches n f)[m].active = s.wtb.switches[m].active :=
    congrArg Switch.active (updAt_get_other _ _ _ _ apart)
  unfold changeSwitch
  dsimp only
  split_ifs with same
  · have active (m : SwitchIx) : (updAt s.wtb.switches n f)[m].active = s.wtb.switches[m].active := by
      by_cases is : n = m
      · subst is
        exact same
      · exact other m is
    exact .alike rfl rfl (decides_switches (fun m _ => active m) fun m _ _ _ => active m)
  · refine .changed (t := { s.wtb with switches := updAt s.wtb.switches n f })
      (test := fun c => c.source = .switch n || c.gated fun g => g = .switchOn n || g = .switchOff n) rfl rfl
      (fun untested => ?_) fun no => absurd trivial no
    simp only [EntryConfig.gated, Bool.or_eq_false_iff, decide_eq_false_iff_not] at untested
    obtain ⟨source, ⟨on1, off1⟩, on2, off2⟩ := untested
    refine decides_switches (fun m named => other m fun is => source (by rw [named, is])) fun m g own named => other m ?_
    rintro rfl
    rcases own with rfl | rfl <;> rcases named with is | is
    · exact on1 is
    · exact off1 is
    · exact on2 is
    · exact off2 is

/-! ## Slots of the Coach Line -/

section
variable {s}

theorem Calm.clc (f : Clc → Clc) : Calm w s (s.modClc f) := .of_only (modClc_only s f)

theorem Calm.node (n : NodeIx) (f : Node → Node) : Calm w s (s.modNode n f) := .of_only (modNode_only s n f)

theorem Calm.endPass (resp : Response) : Calm w s (endPass resp s) := by
  have only := endPass_only s resp
  exact .of_wtb (only .wtb (by decide)) (fun _ => .endPass resp s) (by rw [only .chs (by decide)])

end

theorem setNodeState_handles (n : NodeIx) (st : NodeState) :
    Handles w e on (e.cfg.source = .nodeLost n) s (setNodeState n st s) := by
  by_cases same : s.clc.nodes[n].state = st
  · rw [setNodeState_of_same same]
    exact .refl s
  · rw [setNodeState_of_changed same]
    exact .after (((Calm.node n _).trans (.clc _)).trans (.notify_kind (by simp [Notice.bit]) _)) (wtbNode_handles _ n st)

theorem writeNode_handles (n : NodeIx) (f : Node → Node) (st : NodeState) :
    Handles w e on (e.cfg.source = .nodeLost n) s (setNodeState n st (s.modNode n f)) :=
  .after (.node n f) (setNodeState_handles _ n st)

theorem validAnswer_handles (n : NodeIx) : Handles w e on (e.cfg.source = .nodeLost n) s (validAnswer n s) := by
  unfold validAnswer
  dsimp only
  split
  · exact writeNode_handles s n _ _
  · exact writeNode_handles s n _ _
  · exact .of_calm (.node n _)
  · exact .of_calm (.node n _)

theorem nodeMiss_handles (n : NodeIx) : Handles w e on (e.cfg.source = .nodeLost n) s (nodeMiss n s) := by
  have missed (k : Nat) : Handles w e on (e.cfg.source = .nodeLost n) s (if k = Config.lostMisses
      then setNodeState n .lost (s.modNode n fun nd => { nd with misses := k })
      else s.modNode n fun nd => { nd with misses := k }) := by
    split_ifs
    · exact writeNode_handles s n _ _
    · exact .of_calm (.node n _)
  unfold nodeMiss
  split
  · exact missed _
  · exact missed _
  · exact .refl s
  · exact .refl s

theorem enterIfEnabled_handles (g : Node → Node) (st : NodeState) (n : NodeIx) :
    Handles w e on (e.cfg.source = .nodeLost n) s (enterIfEnabled g st n s) := by
  unfold enterIfEnabled
  split_ifs
  · exact writeNode_handles s n _ _
  · exact .refl s

theorem configureNode_handles (n : NodeIx) (x : NodeConfig) :
    Handles w e on (e.cfg.source = .nodeLost n) s (configureNode n x s) := by
  rw [configureNode_eq]
  exact .after ((Calm.node n _).trans (.clc _)) (setNodeState_handles _ n _)

/-! ## The line -/

theorem setLine_handles (st : LineState) : Handles w e on (e.cfg.source = .lineFault) s (setLine st s) := by
  unfold setLine
  split_ifs
  · exact .refl s
  · exact .after (.clc _) (wtbLine_handles _ st)

theorem handLine_handles (old : LineState) : Handles w e on (e.cfg.source = .lineFault) s (handLine old s) := by
  unfold handLine
  split_ifs
  · exact .refl s
  · exact wtbLine_handles s _

/-- Every slot enters a state, then the line's own is handed: an entry names one of them. -/
theorem enterAll_handles (g : Node → Node) (st : NodeState) (old : LineState) :
    Handles w e on True s (handLine old (eachIx 6 (enterIfEnabled g st) s)) := by
  have apart (n m : NodeIx) (h : e.cfg.source = .nodeLost n) (k : e.cfg.source = .nodeLost m) : n = m :=
    WarnSource.nodeLost.inj (h.symm.trans k)
  refine ((Handles.eachIx (fun n u => enterIfEnabled_handles u g st n) apart s).trans_of (handLine_handles _ old) ?_).mono
    fun _ => trivial
  rintro ⟨⟨n, node⟩, line⟩
  cases node.symm.trans line

theorem lineFault_handles : Handles w e on True s (lineFault s) := by
  unfold lineFault
  dsimp only
  rw [← enterIfEnabled_id]
  exact .after ((Calm.clc _).trans (.endPass _)) (enterAll_handles _ _ _ _)

theorem coachReset_handles : Handles w e on True s (coachReset s) := by
  unfold coachReset
  dsimp only
  exact .after ((Calm.clc _).trans (.endPass _)) (enterAll_handles _ Node.rejoined .joining _)

theorem contention_handles : Handles w e on True s (contention s) := by
  cases txn : s.clc.txn with
  | none =>
    rw [contention_of_no_txn txn]
    exact .refl s
  | some t =>
    by_cases sending : t.phase = .sending
    · by_cases sleep : t.kind = .sleep
      · rw [contention_of_sleep txn sending sleep]
        exact .of_calm (.clc _)
      · rcases Nat.lt_or_ge (s.clc.contentions + 1) 5 with few | fifth
        · rw [contention_of_few txn sending sleep few]
          exact .after (.clc _) ((setLine_handles _ _).mono fun _ => trivial)
        · rw [contention_of_fifth txn sending sleep fifth]
          exact .after (.clc _) (lineFault_handles _)
    · rw [contention_of_not_sending txn sending]
      exact .refl s

theorem backoffExpiry_handles : Handles w e on True s (backoffExpiry s) := by
  unfold backoffExpiry
  split_ifs
  · exact .after (.clc _) ((setLine_handles _ _).mono fun _ => trivial)
  · exact .refl s

theorem resettingEnd_handles : Handles w e on True s (resettingEnd s) := by
  unfold resettingEnd startRound
  split_ifs
  · exact ((setLine_handles s _).calm (.clc _)).mono fun _ => trivial
  · exact .refl s

end

end Sys2Proof.Machine
end


section
/-! Which warning entries the end of a transaction on the Coach Line may change the decision of (R76, R81, R92, R99, R145,
R147, R152, R153): a valid answer's slot, and the clock that its rear events set. A REAR_ACK moves the entries of destination
REAR apart from their decisions. -/

namespace Sys2Proof.Machine

-- One theorem at a time, so that a build as one text needs few threads.
set_option Elab.async false

section
variable {w : EntryIx} {e : Entry} {on : Prop} (s : State)

/-! ## Acknowledgments of other entries -/

section
variable {v : EntryIx} (other : v ≠ w)
include other

theorem enterIdle_calm : Calm w s (enterIdle v s) := (Calm.modEntry other _ s).trans (.reportEntry other _ _ _)

theorem clearArrival_calm : Calm w s (clearArrival v s) := by
  unfold clearArrival
  split_ifs
  · exact (Calm.modEntry other _ s).trans (.moveEntry other _ _)
  · exact .refl s

theorem acknowledgeEntry_calm : Calm w s (acknowledgeEntry v s).1 := by
  unfold acknowledgeEntry
  split
  · exact (Calm.leaveActive other _ s).trans (clearArrival_calm _ other)
  · exact (enterIdle_calm s other).trans (clearArrival_calm _ other)
  all_goals exact .refl s

end

/-- An acknowledgment that does not test an entry. -/
theorem acknowledgeWhere_calm {test : EntryConfig → Bool} (untested : test s.wtb.entries[w].cfg = false) :
    Calm w s (acknowledgeWhere (fun _ c => test c) s).1 := by
  rw [acknowledgeWhere_filter test]
  refine List.foldlRecOn (motive := fun p : State × Nat => Calm w s p.1) _ _ (.refl s) fun p walked v mem =>
    walked.trans (acknowledgeEntry_calm p.1 ?_)
  rintro rfl
  exact absurd (untested.symm.trans (List.mem_filter.mp mem).2) nofun

/-! ## Rear events -/

/-- What a rear event does but for a set of the clock. -/
theorem ownRearEvent_calm (ev : RearEvent) (front : s.wtb.entries[w].cfg.dest ≠ .rear) :
    (Calm w s (ownRearEvent ev s).1 ∧ (ownRearEvent ev s).1.clk.state = s.clk.state) ∨
      ∃ t, (ownRearEvent ev s).1 = setClockTo t s := by
  have privacy (on : Bool) : Calm w s (takePrivacy on s) := by
    have frame := Chs.setPrivacy_frame (c := s.chs) (on := on)
    exact (Calm.modChs (Chs.holds_of_queue (congrArg Chs.queue frame :))).trans (.mark _ _)
  have alarm (a : AlarmIx) (f : Alarm → Alarm) : (changeAlarm a f s).clk.state = s.clk.state := by
    have only : (changeAlarm a f s).clk = (s.modAlarm a f).clk :=
      markAlarm_only (removeChime (.alarm a) (s.modAlarm a f)) a .clk (by decide)
    rw [only]
    rfl
  unfold ownRearEvent
  split <;> dsimp only
  · exact .inl ⟨.takeChime (by exact nofun) (by exact nofun) s,
      congrArg Clk.state ((ByProducts.takeChime _ s).only .clk (by decide))⟩
  · exact .inl ⟨privacy true, rfl⟩
  · exact .inl ⟨privacy false, rfl⟩
  · exact .inl ⟨(resetTrip_calm s 3 .rear).trans (.tripNotice _ _),
      congrArg Clk.state (((resetTrip_only s 3 .rear).comp (tripNotice_only _ _ _) :
        OnlyChanges [.tau, .clc, .lkp] _ _) .clk (by decide))⟩
  · exact .inl ⟨acknowledgeWhere_calm s (test := fun c => c.dest = .rear) (decide_eq_false front),
      congrArg Clk.state (acknowledgeRear_only s .clk (by decide))⟩
  · unfold rearClockSet
    dsimp only
    split_ifs
    · exact .inl ⟨.refl s, rfl⟩
    · exact .inr ⟨_, rfl⟩
  · unfold rearAlarmSet
    split
    · exact .inl ⟨changeAlarm_calm s _ _, alarm _ _⟩
    · exact .inl ⟨.refl s, rfl⟩
  · exact .inl ⟨.refl s, rfl⟩

/-- An entry while rear events are taken: until the clock is set nothing touches one of CLOCK_UNSET. -/
structure AwaitsClock (w : EntryIx) (e : Entry) (on : Prop) (u : State) : Prop where
  followed : Followed w e on u
  untouched : e.cfg.source = .clockUnset → u.clk.state = .unset → Untouched w e on u

section
variable {u v : State}

theorem AwaitsClock.calm (h : AwaitsClock w e on u) (calm : Calm w u v) (state : v.clk.state = u.clk.state) :
    AwaitsClock w e on v :=
  ⟨calm.followed h.followed, fun source unset => calm.untouched (h.untouched source (state.symm.trans unset))⟩

theorem AwaitsClock.setClockTo (h : AwaitsClock w e on u) (t : ClockTime) : AwaitsClock w e on (setClockTo t u) := by
  have handles := setClockTo_handles (w := w) (e := e) (on := on) u t
  have state : (Machine.setClockTo t u).clk.state = .set := by rw [setClockTo_clk]
  refine ⟨?_, fun _ unset => absurd (state.symm.trans unset) nofun⟩
  by_cases source : e.cfg.source = .clockUnset
  · cases before : u.clk.state with
    | unset => exact handles.once ⟨h.untouched source before, h.followed⟩
    | set =>
      have again : Calm w u (Machine.setClockTo t u) := by
        unfold Machine.setClockTo
        dsimp only
        rw [if_neg (by rw [before]; nofun)]
        exact (Calm.of_only (modClk_only u _)).trans (.mark _ _)
      exact again.followed h.followed
  · exact handles.followed source h.followed

theorem AwaitsClock.rearEvent (h : AwaitsClock w e on u) (front : e.cfg.dest ≠ .rear) (n : NodeIx) (ev : RearEvent) :
    AwaitsClock w e on (takeRearEvent n u ev) := by
  have noticed {v : State} (held : AwaitsClock w e on v) (r : RearResult) (d : List Byte) :
      AwaitsClock w e on (v.notify (.rear n ev.kind r d)) :=
    held.calm (.notify_kind (by simp [Notice.bit]) _) (congrArg Clk.state (notify_only v _ .clk (by decide)))
  unfold takeRearEvent
  split_ifs
  · refine noticed ?_ _ _
    rcases ownRearEvent_calm (w := w) u ev (by rw [h.followed.cfg]; exact front) with ⟨calm, state⟩ | ⟨t, set⟩
    · exact h.calm calm state
    · rw [set]
      exact h.setClockTo t
  · exact noticed h _ _

end

/-! ## Transactions -/

theorem polled_handles (n : NodeIx) (refresh : Bool) :
    Handles w e on (e.cfg.source = .nodeLost n) s (polled n refresh s) := by
  unfold polled
  split_ifs
  · exact (validAnswer_handles s n).calm (.clc _)
  · exact validAnswer_handles s n

variable {s}

/-- A poll's answer or miss (R145, R152): what takes no entry of REAR by the rear events, or has none. -/
theorem completePoll_followed (n : NodeIx) (answer : Option (List Byte)) (front : answer = none ∨ e.cfg.dest ≠ .rear)
    (fresh : Fresh w e on s) : Followed w e on (completePoll n answer s) := by
  cases parsed : answer.bind parsePoll with
  | none =>
    rw [completePoll_missed parsed]
    exact (nodeMiss_handles s n).once fresh
  | some p =>
    obtain ⟨refresh, events⟩ := p
    obtain ⟨d, rfl, parsed⟩ := Option.bind_eq_some_iff.mp parsed
    rw [completePoll_events parsed]
    have polled := polled_handles (w := w) (e := e) (on := on) s n refresh
    have start : AwaitsClock w e on (Machine.polled n refresh s) :=
      ⟨polled.once fresh, fun source _ => (polled.fresh (by rw [source]; nofun) fresh).1⟩
    generalize Machine.polled n refresh s = u at start
    exact (List.foldlRecOn (motive := fun v => AwaitsClock w e on v) _ _ start fun v held ev _ =>
      held.rearEvent (front.resolve_left nofun) n ev).followed

theorem completeTxn_followed (answer : Option (List Byte)) (front : answer = none ∨ e.cfg.dest ≠ .rear)
    (fresh : Fresh w e on s) : Followed w e on (completeTxn answer s) := by
  unfold completeTxn
  split
  case h_2 => exact fresh.2
  case h_1 t _ =>
    have dropped := Handles.of_calm (w := w) (e := e) (on := on) (p := False)
      (Calm.clc (w := w) (s := s) fun c => { c with txn := none, contentions := 0 })
    have fresh := dropped.fresh id fresh
    dsimp only
    generalize (s.modClc fun c => { c with txn := none, contentions := 0 }) = u at fresh ⊢
    split
    · exact completePoll_followed _ _ front fresh
    · unfold completeMirror
      split
      · exact (validAnswer_handles u _).once fresh
      · exact ((nodeMiss_handles u _).calm (.clc _)).once fresh
    · unfold completePass
      split
      · exact ((validAnswer_handles u _).calm (.endPass _)).once fresh
      · exact ((nodeMiss_handles u _).calm (.endPass _)).once fresh
    · exact fresh.2

theorem answerWindowExpiry_followed (fresh : Fresh w e on s) : Followed w e on (answerWindowExpiry s) := by
  unfold answerWindowExpiry
  split_ifs
  · exact completeTxn_followed none (.inl rfl) fresh
  · exact fresh.2

theorem answerCut_followed (fresh : Fresh w e on s) : Followed w e on (answerCut s) := by
  unfold answerCut
  split
  · split_ifs
    · exact fresh.2
    · exact completeTxn_followed none (.inl rfl) fresh
  · exact fresh.2

theorem answerDone_followed (front : e.cfg.dest ≠ .rear) (fresh : Fresh w e on s) : Followed w e on (answerDone s) := by
  unfold answerDone
  split
  · split_ifs
    · exact completeTxn_followed _ (.inr front) fresh
    · exact fresh.2
  · exact fresh.2

end

end Sys2Proof.Machine
end


section
/-! The commands that change what decides an entry once leave it as its condition then moves it (R92, R93): the event of
each is an operation that handles every entry, begun where nothing is left unevaluated. -/

namespace Sys2Proof.Machine

-- One theorem at a time, so that a build as one text needs few threads.
set_option Elab.async false

/-! ## What O44 says of an event -/

/-- What an event has done to an entry once it ends, before the Link Port and the dispatcher settle. -/
def EvaluatedBy (w : EntryIx) (s s1 : State) : Prop :=
  let e := s.wtb.entries[w]
  let e1 := s1.wtb.entries[w]
  let decided := { e1 with memory := e.memory }
  e1.cfg = e.cfg ∧ e1.memory = s1.wtb.sourceCondition decided ∧ e1.state = e.moved (s1.wtb.holds decided) ∧
    (e.state ≠ .pending → e1.state = .pending → e1.qualifyTimer = some e.cfg.qualify) ∧
    (e.state ≠ .active → e1.state = .active → e.cfg.pattern.isSome = true →
      s1.chs.holds (.warning w) = true ∨ e1.repeatTimer = e.cfg.rep) ∧
    (e.state = .active → e1.state ≠ .active → e1.repeatTimer = none ∧ s1.chs.holds (.warning w) = false) ∧
    (e1.state ≠ e.state → s.lkp.mask.getLsbD 1 = true →
      Notice.warning w e1.state ∈ s1.lkp.notices ∨ s1.lkp.noticesLost = true)

/-- A command evaluates an entry that it finds in order and watched. -/
def Evaluates (c : Instr) (s : State) (w : EntryIx) : Prop :=
  s.igs.supplied = true → EntriesOk s → EntriesCurrent s.wtb → ServiceItemsOk s.svs → PulseCopiesOk s →
  StateCopiesOk s → s.wtb.watches s.wtb.entries[w] →
  ∃ s1, exec c s = .next (settle s1) ∧ EvaluatedBy w s s1

section
variable {w : EntryIx} {s t : State}

/-- The entry that the event finds, and whether its notices are queued. -/
abbrev Began (w : EntryIx) (s : State) (P : EntryIx → Entry → Prop → State → Prop) (t : State) : Prop :=
  P w s.wtb.entries[w] (s.lkp.mask.getLsbD 1 = true) t

theorem fresh_of_current (ok : EntriesOk s) (current : EntriesCurrent s.wtb) (watched : s.wtb.watches s.wtb.entries[w]) :
    Began w s Fresh s := by
  obtain ⟨⟨-, -, -, consistent⟩, -⟩ := ok w
  obtain ⟨memory, moved⟩ := current w watched
  have untouched : Began w s Untouched s := ⟨consistent, rfl, watched.2, rfl, rfl, id⟩
  exact ⟨untouched, untouched.followed memory moved⟩

theorem Followed.evaluatedBy (h : Began w s Followed t) : EvaluatedBy w s t := by
  refine ⟨h.cfg, h.memory, h.state, h.qualify, fun before after pattern => ?_, h.silent, fun changed on => h.told on changed⟩
  rcases h.sounds before after pattern with ⟨held, -⟩ | timer
  · exact .inl held
  · exact .inr (timer.trans (congrArg EntryConfig.rep h.cfg))

theorem evaluates_of_followed {c : Instr} {f : State → State} (runs : exec c s = takeEvent f s)
    (effect : ServiceItemsOk s.svs → PulseCopiesOk s → StateCopiesOk s → Began w s Fresh s → Began w s Followed (f s)) :
    Evaluates c s w := fun supplied ok current items pulses copies watched =>
  ⟨f s, runs.trans (takeEvent_supplied supplied),
    (effect items pulses copies (fresh_of_current ok current watched)).evaluatedBy⟩

theorem evaluates_of_handles {c : Instr} {f : State → State} (runs : exec c s = takeEvent f s)
    (effect : Handles w s.wtb.entries[w] (s.lkp.mask.getLsbD 1 = true) True s (f s)) : Evaluates c s w :=
  evaluates_of_followed runs fun _ _ _ => effect.once

end

/-! ## Requests -/

section
variable {w : EntryIx} {e : Entry} {on p : Prop} (s : State)

theorem takeRequest_calm : Calm w s (takeRequest s) := modLkp_calm s rfl rfl rfl

theorem reply_calm (entry : ReplyEntry) (kind tag : Byte) (resp : Response) : Calm w s (s.reply entry kind tag resp) := by
  unfold State.reply
  split
  · exact modLkp_calm s rfl rfl rfl
  · exact .refl s

/-- The dispatcher takes the oldest request, and its owner decides what the entries do. -/
theorem serve_handles {k : ReqKind} {owner : Request → State → State × Response}
    (owned : ∀ r ∈ s.lkp.requests.head?, Handles w e on p (takeRequest s) (owner r (takeRequest s)).1) :
    Handles w e on p s (serve k owner s) := by
  unfold serve
  split
  · rename_i r rest requests
    have head : r ∈ s.lkp.requests.head? := by rw [requests]; rfl
    split_ifs
    · exact (Handles.after (takeRequest_calm s) (owned r head)).calm (reply_calm _ _ _ _ _)
    · exact .of_calm ((takeRequest_calm s).trans (reply_calm _ _ _ _ _))
    · exact .refl s
  · exact .refl s

/-- The requests that change what decides an entry once. -/
def ReqKind.decidesOnce : ReqKind → Bool
  | .setChannel | .setCalibration | .setFuelOptions | .restoreOdometer | .setClock | .setSwitch | .setServiceItem
  | .serviceDone | .setNode | .coachReset => true
  | _ => false

theorem setNode_handles (p : NodeIx × NodeConfig) : Handles w e on True s (setNode p s).1 := by
  unfold setNode emptyAnswer
  split_ifs
  · exact .refl s
  · exact .refl s
  · exact (configureNode_handles s p.1 p.2).mono fun _ => trivial

theorem ownCoachReset_handles (r : Request) : Handles w e on True s (ownCoachReset r s).1 := by
  unfold ownCoachReset emptyAnswer
  split_ifs
  · exact .refl s
  · dsimp only
    exact coachReset_handles s

theorem owner_handles {k : ReqKind} (once : k.decidesOnce = true) (r : Request) :
    Handles w e on True s (k.owner r s).1 := by
  cases k
  case setChannel => exact .ranged fun p _ => setChannel_handles s p
  case setCalibration => exact .ranged fun cal _ => setCalibration_handles s cal
  case setFuelOptions => exact .ranged fun o _ => setFuelOptions_handles s o
  case restoreOdometer => exact restoreOdometer_handles s r
  case setClock => exact .ranged fun t _ => (setClockTo_handles s t).mono fun _ => trivial
  case setSwitch => exact .ranged fun p _ => changeSwitch_handles s p.1 _
  case setServiceItem => exact .ranged fun p _ => (changeItem_handles s p.1 _).mono fun _ => trivial
  case serviceDone => exact .ranged fun i _ => serviceDone_handles s i
  case setNode => exact .ranged fun p _ => setNode_handles s p
  case coachReset => exact ownCoachReset_handles s r
  all_goals cases once

theorem request_evaluates {k : ReqKind} (once : k.decidesOnce = true) (w : EntryIx) : Evaluates k.row s w :=
  evaluates_of_handles (exec_row k s) (serve_handles s fun r _ => owner_handles _ once r)

variable {s}

theorem sensorReport_evaluates {tag : Byte} {pairs : List (SlotIx × Byte × Byte)}
    (distinct : (pairs.map fun p => p.1).Nodup) (serves : Serves .sensorReport tag (pairBytes pairs) s) (w : EntryIx) :
    Evaluates .sensorReport s w := by
  obtain ⟨-, head, -⟩ := serves
  refine evaluates_of_handles (exec_row .sensorReport s) (serve_handles s fun r mem => ?_)
  cases head.symm.trans mem
  refine .ranged fun values read => ?_
  cases (reportPairs_pairBytes pairs).symm.trans read
  refine reportAll_handles _ _ ?_
  rw [List.map_map]
  exact distinct

end

/-! ## Timers and edges -/

section
variable (s : State) (w : EntryIx)

theorem slotExpiry_evaluates (n : SlotIx) : Evaluates (.slotStaleExpiry n) s w ∧ Evaluates (.slotLostExpiry n) s w := by
  constructor
  · refine evaluates_of_handles (f := slotStaleExpiry n) rfl ?_
    unfold slotStaleExpiry
    split_ifs
    · exact slotExpired_handles s n _
    · exact .refl s
  · refine evaluates_of_handles (f := slotLostExpiry n) rfl ?_
    unfold slotLostExpiry
    split_ifs
    · exact slotExpired_handles s n _
    · exact .refl s

theorem stallExpiry_evaluates (ch : ChannelIx) : Evaluates (.stallExpiry ch) s w := by
  refine evaluates_of_handles (f := stallExpiry ch) rfl ?_
  unfold stallExpiry
  split_ifs
  · exact changeChannel_handles s ch _
  · exact .refl s

theorem pulseEdge_evaluates (ch : ChannelIx) (at10us : Nat)
    (apart : s.pcu.channels[ch].state ≠ .still ∨ s.wtb.entries[w].cfg.Ungated ∨ (s.wtb.entries[w].cfg.source ≠ .arrival ∧
      s.wtb.entries[w].cfg.source ≠ .valueAbove .range ∧ s.wtb.entries[w].cfg.source ≠ .valueBelow .range ∧
      ∀ i, s.wtb.entries[w].cfg.source ≠ .service i)) : Evaluates (.pulseEdge ch at10us) s w := by
  refine evaluates_of_followed (f := pulseEdge ch at10us) rfl fun _ pulses _ fresh =>
    (pulseEdge_handles pulses ch at10us ?_).once fresh
  refine apart.imp_right (Or.imp_right ?_)
  rintro ⟨arrival, above, below, service⟩ ((range | arrives) | ⟨i, item⟩)
  · generalize s.wtb.entries[w].cfg.source = src at range above below
    cases src
    case valueAbove v => exact above (congrArg _ (of_decide_eq_true range))
    case valueBelow v => exact below (congrArg _ (of_decide_eq_true range))
    all_goals cases range
  · exact arrival arrives
  · exact service i item

theorem windowExpiry_evaluates (at10us : Nat) (t : State) (runs : exec (.windowExpiry at10us) s = .next t)
    (apart : s.wtb.entries[w].cfg.Ungated ∨ (t.pcu.roadSource = s.pcu.roadSource ∧
      ∀ ch : ChannelIx, t.pcu.channels[ch].state = s.pcu.channels[ch].state)) :
    Evaluates (.windowExpiry at10us) s w := by
  intro supplied
  have ends : exec (.windowExpiry at10us) s = .next (settle (windowExpiry at10us s)) := takeEvent_supplied supplied
  cases ends.symm.trans runs
  rw [settle_only _ .pcu (by decide)] at apart
  exact evaluates_of_handles (f := windowExpiry at10us) rfl (windowExpiry_handles apart) supplied

/-- The commands of the seconds, the switches and the Coach Line. -/
theorem others_evaluate : ∀ c ∈ ([.secondBoundary, .contention, .backoffExpiry, .resettingEnd, .answerWindowExpiry,
    .answerCut] : List Instr), Evaluates c s w := by
  simp only [List.forall_mem_cons, List.not_mem_nil, false_imp_iff, implies_true, and_true]
  exact ⟨evaluates_of_followed (f := secondBoundary) rfl fun items _ copies => (secondBoundary_handles items copies).once,
    evaluates_of_handles (f := contention) rfl (contention_handles s),
    evaluates_of_handles (f := backoffExpiry) rfl (backoffExpiry_handles s),
    evaluates_of_handles (f := resettingEnd) rfl (resettingEnd_handles s),
    evaluates_of_followed (f := answerWindowExpiry) rfl fun _ _ _ => answerWindowExpiry_followed,
    evaluates_of_followed (f := answerCut) rfl fun _ _ _ => answerCut_followed⟩

theorem decidingCommands_evaluate : ∀ c ∈ ([.setChannel, .setCalibration, .setFuelOptions, .restoreOdometer, .setClock,
    .secondBoundary, .setSwitch, .setServiceItem, .serviceDone, .setNode, .coachReset, .contention, .backoffExpiry,
    .resettingEnd, .answerWindowExpiry, .answerCut] : List Instr), Evaluates c s w := by
  have requests : ∀ k ∈ ([.setChannel, .setCalibration, .setFuelOptions, .restoreOdometer, .setClock, .setSwitch,
      .setServiceItem, .serviceDone, .setNode, .coachReset] : List ReqKind), Evaluates k.row s w := fun k mem =>
    request_evaluates s (by fin_cases mem <;> rfl) w
  have others := others_evaluate s w
  simp only [List.forall_mem_cons, List.not_mem_nil, false_imp_iff, implies_true, and_true] at requests others ⊢
  obtain ⟨channel, calibration, fuel, odometer, clock, switch, item, done, node, reset⟩ := requests
  obtain ⟨second, contention, backoff, resetting, window, cut⟩ := others
  exact ⟨channel, calibration, fuel, odometer, clock, second, switch, item, done, node, reset, contention, backoff,
    resetting, window, cut⟩

theorem switchChange_evaluates (n : SwitchIx) : Evaluates (.switchChange n) s w :=
  evaluates_of_handles (f := changeSwitch n _) rfl (changeSwitch_handles s n _)

theorem answerComplete_evaluates (front : s.wtb.entries[w].cfg.dest ≠ .rear) : Evaluates .answerComplete s w :=
  evaluates_of_followed (f := answerDone) rfl fun _ _ _ => answerDone_followed front

end

/-- Settles O44: an evaluation moves the entry by Table 29; a command that changes what decides an entry once leaves it as
its condition moves it, since what comes before its evaluation leaves it untouched and what comes after leaves it followed. -/
theorem entriesAreEvaluated : Obligations.EntriesAreEvaluated := by
  unfold Obligations.EntriesAreEvaluated
  refine ⟨fun w s => ?_, evaluateWhere_filter, ⟨fun c mem s w => decidingCommands_evaluate s w c mem,
    fun n s w => slotExpiry_evaluates s w n, fun n s w => switchChange_evaluates s w n,
    fun tag pairs s w distinct serves => sensorReport_evaluates distinct serves w,
    fun ch s w => stallExpiry_evaluates s w ch, fun ch at10us s w => pulseEdge_evaluates s w ch at10us,
    fun at10us s t w => windowExpiry_evaluates s w at10us t, fun s w => answerComplete_evaluates s w⟩, fun t e => ?_⟩
  · have moves := evaluations_move w s
    simp only [Wtb.evaluatedState, Entry.moved_eq, handWarningChime_evaluated] at moves
    exact moves
  · have sources := sources_decide t e
    simp only [Wtb.valueOf_eq] at sources
    exact ⟨sources, gates_decide t⟩

end Sys2Proof.Machine
end
